-- ==== Sys2Proof/Word.lean ====
section
/-! DEFINITION. The word and byte types of the VY9612's register bus and memories. -/

namespace Sys2Proof

/-- A word of the register bus: 32 bits (R5, R9). -/
abbrev Word := BitVec 32

/-- A byte of a memory, a packet or an image (R9). -/
abbrev Byte := BitVec 8

end Sys2Proof
end

