-- ==== Sys2Proof/Machine/Num.lean ====
section
/-! DEFINITION. The arithmetic the chapters share: bit fields of numbers, signed views, saturation, rounding, byte
order (little-endian, R76, R437), the three cyclic redundancy checks (R78, R438, R452), and the sparse store in one
canonical form. -/

namespace Sys2Proof.Machine

/-- Bits [lo + w − 1 : lo] of a number. -/
def bits (v lo w : Nat) : Nat := v / 2 ^ lo % 2 ^ w

/-- Bit `n` of a number. -/
def bitAt (v n : Nat) : Bool := v / 2 ^ n % 2 == 1

/-- `v` with bit `n` set to `b`. -/
def setBit (v n : Nat) (b : Bool) : Nat :=
  if bitAt v n = b then v else if b then v + 2 ^ n else v - 2 ^ n

/-- The two's complement value of the low `w` bits of `v`. -/
def signed (w v : Nat) : Int :=
  let u := v % 2 ^ w
  if u < 2 ^ (w - 1) then (u : Int) else (u : Int) - (2 ^ w : Nat)

/-- The two's complement code of `x` in `w` bits. -/
def unsigned (w : Nat) (x : Int) : Nat := (x % (2 ^ w : Nat)).toNat

/-- `x` held between `lo` and `hi`. -/
def clamp (lo hi x : Int) : Int := if x < lo then lo else if hi < x then hi else x

/-- Saturation to a signed range of `w` bits. -/
def satSigned (w : Nat) (x : Int) : Int := clamp (-(2 ^ (w - 1) : Nat)) ((2 ^ (w - 1) : Nat) - 1) x

/-- `a / b` rounded to the nearest integer, a half upward. -/
def roundHalfUp (a : Int) (b : Nat) : Int := (2 * a + b) / (2 * b)

/-- A number from 0 or 1. -/
def flag (b : Bool) : Nat := if b then 1 else 0

/-- The number whose little-endian bytes are `bs`. -/
def leNat : List Byte → Nat
  | [] => 0
  | b :: r => b.toNat + 256 * leNat r

/-- The number whose big-endian bytes are `bs`. -/
def beNat (bs : List Byte) : Nat := leNat bs.reverse

/-- The low `n` bytes of `v`, least significant first. -/
def leBytes : Nat → Nat → List Byte
  | 0, _ => []
  | n + 1, v => BitVec.ofNat 8 v :: leBytes n (v / 256)

/-- The little-endian number of `n` bytes at offset `off`; bytes past the end read as 0. -/
def leAt (bs : List Byte) (off n : Nat) : Nat := leNat ((bs.drop off).take n)

/-- One byte at an offset; 0 past the end. -/
def byteAt (bs : List Byte) (off : Nat) : Nat := leAt bs off 1

/-- `n` bits of a reflected CRC register. -/
def crcBits (poly : Nat) : Nat → Nat → Nat
  | 0, c => c
  | n + 1, c => if c % 2 = 1 then crcBits poly n ((c / 2) ^^^ poly) else crcBits poly n (c / 2)

/-- A reflected CRC register after further bytes. -/
def crcFeed (poly : Nat) : List Byte → Nat → Nat
  | [], c => c
  | b :: l, c => crcFeed poly l (crcBits poly 8 (c ^^^ b.toNat))

/-- A reflected CRC of 32 bits with initial value and final exclusive-or 0xFFFF_FFFF. -/
def crcReflected (poly : Nat) (bs : List Byte) : Nat := crcFeed poly bs 0xFFFFFFFF ^^^ 0xFFFFFFFF

/-- The CRC-32 of R78: polynomial 0x04C1_1DB7, reflected. -/
def crc32 (bs : List Byte) : Nat := crcReflected 0xEDB88320 bs

/-- The CRC-32C of R438: polynomial 0x1EDC_6F41, reflected. -/
def crc32c (bs : List Byte) : Nat := crcReflected 0x82F63B78 bs

/-- `x` placed in a list before the first element that `le` does not put ahead of it. -/
def insertBy {α : Type} (le : α → α → Bool) (x : α) : List α → List α
  | [] => [x]
  | y :: r => if le x y then x :: y :: r else y :: insertBy le x r

/-- A list in the order `le`; elements that `le` does not tell apart keep their order. -/
def sortBy {α : Type} (le : α → α → Bool) (l : List α) : List α := l.foldr (insertBy le) []

/-- A sparse store of values by number: numbers strictly rising, and no entry equal to what an unlisted number reads
as. -/
abbrev Store (ν : Type) := List (Nat × ν)

/-- The value stored under `k`, or `d` where nothing is listed. -/
def storeGet {ν : Type} (st : Store ν) (k : Nat) (d : ν) : ν :=
  match st with
  | [] => d
  | (k', v) :: r => if k' = k then v else storeGet r k d

/-- The store without its entries under `k`. -/
def storeDrop {ν : Type} (st : Store ν) (k : Nat) : Store ν :=
  match st with
  | [] => []
  | (k', v) :: r => if k' = k then storeDrop r k else (k', v) :: storeDrop r k

/-- The store with an entry put in its place by number. -/
def storeInsert {ν : Type} (st : Store ν) (k : Nat) (v : ν) : Store ν :=
  match st with
  | [] => [(k, v)]
  | (k', v') :: r => if k < k' then (k, v) :: (k', v') :: r else (k', v') :: storeInsert r k v

/-- The store with `v` under `k`, where an unlisted `k` reads as `d`. -/
def storePut {ν : Type} [DecidableEq ν] (st : Store ν) (k : Nat) (d v : ν) : Store ν :=
  if v = d then storeDrop st k else storeInsert (storeDrop st k) k v

/-- The canonical form of a store: numbers strictly rising, and each entry admitted by `ok`. -/
def storeCanon {ν : Type} (ok : Nat → ν → Bool) : Store ν → Bool
  | [] => true
  | (k, v) :: r => ok k v && (r.all fun p => decide (k < p.1)) && storeCanon ok r

end Sys2Proof.Machine
end

