-- ==== Sys2Proof/Machine/Operands.lean ====
section
/-! DEFINITION. What the commands carry beside numbers: the fields of an engine's instruction word, the operations that ask for
leave, the parts of a Halyard copy, and what PORST_N's release finds. -/

namespace Sys2Proof.Machine

/-- The fields of an instruction word of a control engine beside its operation code (R273). -/
structure OpWord where
  acc : Bool := false
  xa : Bool := false
  xb : Bool := false
  xc : Bool := false
  n : BitVec 4 := 0
  a : BitVec 13 := 0
  b : BitVec 13 := 0
  c : BitVec 13 := 0
  deriving DecidableEq, Repr

/-- The fields of an instruction word of 56 bits (R273). -/
def wordOp (w : Nat) : Nat := bits w 50 6
def wordAcc (w : Nat) : Bool := bitAt w 46
def wordN (w : Nat) : Nat := bits w 42 4
def wordA (w : Nat) : Nat := bits w 26 13
def wordB (w : Nat) : Nat := bits w 13 13
def wordC (w : Nat) : Nat := bits w 0 13

/-- The fields beside the operation code that a word holds (R273): X is added to a, b and c by bits 49, 48 and 47. -/
def opFields (w : Nat) : OpWord :=
  { acc := wordAcc w, xa := bitAt w 49, xb := bitAt w 48, xc := bitAt w 47, n := BitVec.ofNat 4 (wordN w)
    a := BitVec.ofNat 13 (wordA w), b := BitVec.ofNat 13 (wordB w), c := BitVec.ofNat 13 (wordC w) }

/-- A stamp of a sheaf (R171): switch position, level after the edge, time after E in 125 ps units. -/
structure Stamp where
  channel : Nat
  level : Bool
  time : Nat
  deriving DecidableEq, Repr

/-- One half-bridge of an edge engine, or one INDEP channel of EE_L, between two intervals (R207 to R221): the levels of the two
channels, the time of the last kept transition before the next interval's 0 (none: long before), how long before 0 the rising
transition lies since which the pattern has been high (R219), the held-over stamps (R214), and whether the carry's event is armed
(R217). The carry K itself stands in EE_CARRY. -/
structure Leg where
  hi : Bool := false
  lo : Bool := false
  last : Option Int := none
  rise : Option Nat := none
  heldOver : List Stamp := []
  carryArmed : Bool := true
  deriving DecidableEq, Repr

/-- The state of one cell as part 1 of a copy carries it (R260). -/
structure CellCopy where
  state : Nat := 0
  bypassPending : Bool := false
  lastCause : Nat := 0
  inserted : Bool := false
  releasePending : Bool := false
  deriving DecidableEq, Repr

/-- The state of one arm as part 1 of a copy carries it (R260): ρ with its period count, pc_phase with the time it has
stood, and the count of the spread watch. -/
structure ArmCopy where
  rotPtr : Nat := 0
  rotCount : Nat := 0
  pcPhase : Nat := 0
  phaseAge : Nat := 0
  spreadRun : Nat := 0
  deriving DecidableEq, Repr

/-- The state of one loop as part 3 of a copy carries it (R300). -/
structure LoopCopy where
  closed : Bool := false
  restart : Bool := false
  held : Int := 0
  deriving DecidableEq, Repr

/-- The state of one engine as part 3 carries it (R300): the words of its state ranges as released, and its loops. -/
structure EngineCopy where
  words : List Int := []
  loops : List LoopCopy := []
  deriving DecidableEq, Repr

/-- The contents of one part of a copy (R463): 1 arm and cell state by number, 2 edge state (carrier counts, half-bridges
with their carries by number of the leg, the pending set), 3 engine state by number, ramp and stopping by arm, reef level, and
the live parameter set. -/
inductive CopyPart where
  | arms (cells : List CellCopy) (arms : List ArmCopy)
  | edges (carrier : List Nat) (legs : List (Nat × Leg × Int)) (pending : Option (Store Nat))
  | engines (engines : List (Nat × EngineCopy)) (ramps : List (Nat × Bool)) (reef : Nat) (live : List Nat)
  deriving DecidableEq, Repr

/-- The operations that ask the Granary for leave (R532), with what each acts on. -/
inductive Leave where
  | slice (unit : Nat)
  | lockoutWrite
  | metrologySave
  | ledgerCarry
  | charging
  | stationCheck (request : Nat)
  | halyardIdentity
  | debugResponse
  | imageCheck
  | eyeScan (lane : Nat)
  | readapt (lane : Nat)
  | recordFlush
  | logWrite
  | retention
  | wearErase
  deriving DecidableEq, Repr

/-- A page of the attached NAND flash as it stands in the array (R563, R565): 4,096 data bytes, and the spare bytes that are used. An
erased page reads as all ones. -/
structure NandPage where
  data : List Byte := List.replicate 4096 0xFF
  spare : List Byte := List.replicate 128 0xFF
  deriving DecidableEq, Repr

/-- What the release of PORST_N finds on the device's balls and in its flash (R55, R447, R563, R570): `markers` are the blocks whose
bad-block marker is set; `pages` the pages of the BOOT and IMAGE slots, by number, that a programmer wrote or erased while PORST_N
was low (R94, R95, R573). -/
structure ReleaseFinds where
  pairEn : Bool
  refEdges : Bool
  dev0 : Bool
  dev1 : Bool
  profile : Bool
  blocks : Nat
  table : Option (List Nat)
  markers : List Nat
  pages : List (Nat × NandPage)
  deriving DecidableEq, Repr

end Sys2Proof.Machine
end

