-- ==== Sys2Proof/Syntax.lean ====
section
/-! DEFINITION. The commands. -/

namespace Sys2Proof

/-- What a temperature input gives at an evaluation (R517, R518): an open or shorted input; an on-die sensor's value in 1/16 °C; a
remote diode's voltage difference, as the temperature in 1/256 K that it gives at an ideality of 1; or a thermistor's resistance, as
the natural logarithm of its ratio to 10 kΩ in units of 2⁻²⁰. -/
inductive SensorReading where
  | open_ | shorted
  | value (v : Int)
  | diode (q : Nat)
  | ntc (x : Int)
  deriving DecidableEq, Repr

/-- The quality of a sampled value as far as the subscriber looks at it (R307, R312, R313): validity 0 good, 1 invalid, 2
questionable. -/
structure SvQuality where
  validity : Nat := 0
  test : Bool := false
  operatorBlocked : Bool := false
  deriving DecidableEq, Repr

/-- One ASDU of a sampled-value frame (R304, R305, R308). -/
structure SvAsduRx where
  svId : List Byte := []
  confRev : Nat := 0
  smpCnt : Nat := 0
  smpSynch : Nat := 2
  values : List (Int × SvQuality) := []
  deriving DecidableEq, Repr

/-- A received sampled-value frame: `supported` is false where it relies on a feature outside R304; `arrival` is its arrival
stamp in nanoseconds of PTP time. -/
structure SvFrameRx where
  dst : Nat := 0
  appid : Nat := 0
  simulation : Bool := false
  supported : Bool := true
  arrival : Nat := 0
  asdus : List SvAsduRx := []
  deriving DecidableEq, Repr

/-- A value of a GOOSE message's allData (R304). -/
inductive GooseValueRx where
  | boolean (b : Bool)
  | dbpos (v : Fin 4)
  | other
  deriving DecidableEq, Repr

/-- A received GOOSE message (R304, R305, R318, R319); `ttl` is timeAllowedToLive in milliseconds. -/
structure GooseFrameRx where
  dst : Nat := 0
  appid : Nat := 0
  ref : List Byte := []
  confRev : Nat := 0
  simulation : Bool := false
  test : Bool := false
  ndsCom : Bool := false
  supported : Bool := true
  stNum : Nat := 0
  sqNum : Nat := 0
  ttl : Nat := 0
  data : List GooseValueRx := []
  deriving DecidableEq, Repr

/-- The data set of a PTP master, as Announce messages carry it (R489): the domain, priority1, clockClass, clockAccuracy,
offsetScaledLogVariance, priority2, the grandmaster's identity, the steps removed, and the identity of the clock that sends it. -/
structure AnnounceData where
  domain : Nat := 0
  priority1 : Nat := 128
  clockClass : Nat := 248
  accuracy : Nat := 0xFE
  variance : Nat := 0
  priority2 : Nat := 128
  grandmaster : Nat := 0
  steps : Nat := 0
  source : Nat := 0
  deriving DecidableEq, Repr

/-- What a received PTP frame brings beside the messages that have commands of their own: an Announce (R489), or a Pdelay_Resp with its
correctionField in nanoseconds (R491). -/
inductive PtpContent where
  | other | announce (a : AnnounceData) | pdelayResp (correction : Nat)
  deriving DecidableEq, Repr

/-- A received Ethernet frame as the ports classify it (R481, R483, R485, R488): its length, whether it is a PAUSE frame,
addresses, Ethertype, APPID and gocbRef where it has them, the sequence number of its redundancy trailer or tag, whether it is a
supervision frame, and what it brings to PTP. -/
structure EthFrameRx where
  length : Nat := 64
  pause : Bool := false
  dst : Nat := 0
  src : Nat := 0
  ethertype : Nat := 0
  appid : Nat := 0
  ref : List Byte := []
  redundancy : Option Nat := none
  supervision : Bool := false
  ptp : PtpContent := .other
  deriving DecidableEq, Repr

/-- A frame that travels an HSR ring (R482, R486, R489): addresses, tag sequence, the priority of its 802.1Q tag, whether it is
a PTP event message, and its bytes. -/
structure RingFrameRx where
  dst : Nat := 0
  src : Nat := 0
  seq : Nat := 0
  priority : Option (Fin 8) := none
  ptp : Bool := false
  bytes : List Byte := []
  deriving DecidableEq, Repr

/-- A received Sync (R489, R492): step mode, domain, the identity of the clock that sends it, sequence number, origin time and
correction. -/
structure SyncRx where
  twoStep : Bool := false
  domain : Nat := 0
  master : Nat := 0
  seq : Nat := 0
  origin : Nat := 0
  correction : Int := 0
  deriving DecidableEq, Repr

/-- The PTP messages the device sends at their intervals (R489). -/
inductive PtpMessage where
  | announce | sync | pdelayReq
  deriving DecidableEq, Repr

/-- A host on the network: its IPv4 address, and its UDP port or, in ARP, its MAC address. -/
structure IpHost where
  ip : Word := 0
  port : Nat := 0
  deriving DecidableEq, Repr

/-- What arrives beside the station access protocol over IP (R505): an ARP request or an ICMP echo for an IPv4 address, from a host;
or other traffic. -/
inductive IpMessage where
  | arp (target : Word) (sender : IpHost) | icmpEcho (target : Word) (sender : IpHost) (data : List Byte) | other
  deriving DecidableEq, Repr

/-- A UDP datagram (R505): the host it comes from, the address and port it goes to, and its payload. -/
structure UdpRx where
  source : IpHost := {}
  target : IpHost := {}
  payload : List Byte := []
  deriving DecidableEq, Repr

/-- The memory word that ENGINE_READ reads (R602). -/
inductive EngineMemory where
  | data (engine : Fin 24) (address : Nat)
  | program (engine : Fin 24) (address : Nat)
  | references (engine : Fin 96) (word : Fin 16)
  deriving DecidableEq, Repr

/-- The commands of the block, one constructor for each row of the opcode table. `t` is the instant at which a command comes, in
nanoseconds since power-on; the operations of the control engines carry the engine and the fields of the instruction word
instead (R273). -/
inductive Instr where
  /-- REGISTER_WRITE (R5): A write to a register that has no row of its own sets the RW fields, ignores RO fields and
  performs WO actions as each map states. -/
  | registerWrite (t : Nat) (address value : Word) (edges : Bool)
  /-- W1C_WRITE (R5): A write to a W1C field clears every bit written as 1 and leaves every bit written as 0. -/
  | w1cWrite (t : Nat) (address value : Word)
  /-- RC_READ (R5): A read of an RC field returns its value and clears it to 0 in the same access. -/
  | rcRead (t : Nat) (address : Word)
  /-- LOW_HALF_READ (R5): A read of the low half of a 64-bit or RS register returns the low 32 bits and latches the
  high half into a shadow; for an RS register it also resets the whole value to 0. -/
  | lowHalfRead (t : Nat) (address : Word)
  /-- HIGH_HALF_READ (R6): A read of the high half returns the shadow and sets the register's STALE flag unless the
  register's own low half was read since the last high-half read. -/
  | highHalfRead (t : Nat) (address : Word)
  /-- RIGGING_ACCESS (R15): A Mast die read or write at 0x5000_0000 or above crosses the IDB and completes within 2
  µs. -/
  | riggingAccess (t : Nat) (address : Word) (write : Option Word)
  /-- RIGGING_ACCESS_TIMEOUT (R16): A Rigging die access left unanswered at 2 µs completes: a read returns
  0xFFFF_FFFF, a write has no effect, and lost_accesses rises by 1. -/
  | riggingAccessTimeout (t : Nat) (write : Bool)
  /-- BUDGET_MARGIN_RESTART (R39): Writing 1 to restart of BUDGET_MARGIN sets min_margin to 65,535 and worst_ce to 0.
  -/
  | budgetMarginRestart (t : Nat)
  /-- PERIOD_BOUNDARY (R11): At each period boundary the period index advances, the snapshot is taken and the period
  sequence begins its steps. -/
  | periodBoundary (t : Nat) (gdi : List Int)
  /-- INPUT_DISTRIBUTION_CLOSE (R27): At the close of the input distribution window, each mirrored word not yet
  delivered holds its previous value with fresh cleared, and input_incomplete is set. -/
  | inputDistributionClose (t : Nat)
  /-- ENGINE_COMPUTE_START (R296): Each active control engine begins its first loop when its timebase reading reaches
  1.0 µs after the boundary. -/
  | engineComputeStart (t : Nat)
  /-- ENGINE_RELEASE (R283): After the END of its last loop, an engine writes its output slots and copies its state
  ranges to the Halyard buffers. -/
  | engineRelease (t : Nat) (engine : Fin 24)
  /-- BALANCING_START (R238): At t_B each arm's balancing stage makes its cell state transitions and divides the arm
  reference into H-bridge words. -/
  | balancingStart (t : Nat)
  /-- EDGE_RELOAD (R205): At t_E the edge engines take the latest set committed before t_E − 32 ns and compute the
  stamps of the next interval. -/
  | edgeReload (t : Nat) (lateArms unfinished : List Nat)
  /-- SHEAF_TRANSMISSION_START (R20): At t_S every READY lane sends one sheaf and the Halyard copy window of the
  period opens. -/
  | sheafTransmissionStart (t : Nat) (overrun : Bool)
  /-- SHEAF_WINDOW_CLOSE (R19): At the close of the sheaf transmission window, any sheaf not yet complete sets
  sheaf_late. -/
  | sheafWindowClose (t : Nat) (incomplete : Bool)
  /-- INTERVAL_START (R224): At each E the local output stage ends trip cuts and each LP channel takes the level its
  stamps give. -/
  | intervalStart (t : Nat)
  /-- IDB_FRAME_RX (R14): An IDB frame is received, its event field, consent and mirrored words are taken, and bad or
  out-of-sequence frames are retransmitted. -/
  | idbFrameRx (t : Nat) (toShroud good : Bool)
  /-- SHROUD_IDB_SILENCE (R18): After 20 µs without a valid IDB frame the Shroud asserts all block wires and driver
  disables, sets its lockout and raises a SEVERE event. -/
  | shroudIdbSilence (t : Nat)
  /-- MAST_IDB_SILENCE (R404): After 20 µs without a valid IDB frame the Mast die raises the IDB silence event at
  origin 842. -/
  | mastIdbSilence (t : Nat)
  /-- BALE_RECEIVED (R28): A bale arriving on a lane is checked for form and CRC and kept for the next snapshot, or
  discarded as bad or late. -/
  | baleReceived (t : Nat) (lane : Fin 100) (line : List Bool) (late : Bool)
  /-- SRAM_SCRUB_STEP (R36): The scrub reads, corrects and writes back SRAM words so that every word is covered
  within each 8 ms. -/
  | sramScrubStep (t : Nat) (upsets : List (Nat × List Nat)) (words : Nat)
  /-- REQUEST_COMMISSION (R44): Request 1 asks for COMMISSION and is refused, made pending, or carried out as the
  transition table allows. -/
  | requestCommission (t : Nat)
  /-- REQUEST_CHARGE (R44): Request 2 asks for CHARGE under the transition table. -/
  | requestCharge (t : Nat)
  /-- REQUEST_RUN (R44): Request 3 asks for RUN once pre-charge is complete. -/
  | requestRun (t : Nat)
  /-- REQUEST_STOP_TRANSFER (R295): Request 4 begins stopping and ramps the power-setpoint groups to zero before RUN
  passes to CHARGE. -/
  | requestStopTransfer (t : Nat)
  /-- REQUEST_ENTER_QUIESCENT (R50): Request 5 enters QUIESCENT from CONFIGURE with start_mode 0 or from SAFE HOLD.
  -/
  | requestEnterQuiescent (t : Nat)
  /-- REQUEST_LEAVE_QUIESCENT (R52): Request 6 ends QUIESCENT; the mode's steps resume at the second boundary after
  its snapshot. -/
  | requestLeaveQuiescent (t : Nat)
  /-- REQUEST_WARM_RESET (R56): Request 7 causes a warm reset in CONFIGURE, COMMISSION or SAFE HOLD. -/
  | requestWarmReset (t : Nat)
  /-- MODE_TRANSITION (R45): A pending request or cause takes effect at the first boundary at which its condition
  holds. -/
  | modeTransition (t : Nat)
  /-- END_OF_CONFIGURE (R44): CONFIGURE ends at the first boundary at which the image is applied, the slice test is
  complete, the timebase is locked and the Shroud consents. -/
  | endOfConfigure (t : Nat)
  /-- QUIESCENT_RESUME (R52): At the second boundary after request 6 the mode's steps resume and the ungated engines
  raise READY. -/
  | quiescentResume (t : Nat)
  /-- LOCKOUT_ENTRY_PERSISTED (R59): The lockout entry of a SAFE HOLD reaches flash and lockout_persisted is set. -/
  | lockoutEntryPersisted (t : Nat)
  /-- LOCKOUT_ENTRY_RETRY (R59): A lockout entry that could not be written is retried every 1 s while in SAFE HOLD.
  -/
  | lockoutEntryRetry (t : Nat)
  /-- LOCKOUT_RESTORE (R60): After a cold reset, a lockout found in the ledger is restored as SAFE HOLD at the first
  boundary after application. -/
  | lockoutRestore (t : Nat)
  /-- EARLY_WARNING_TRIP (R53): The power-fail early-warning detector trips, the device enters HOLD-UP and acts as
  its mode requires. -/
  | earlyWarningTrip (t : Nat)
  /-- VSYS_RETURN (R54): VSYS returns above the early-warning threshold; HOLD-UP ends and the device stays in SAFE
  HOLD. -/
  | vsysReturn (t : Nat)
  /-- COLD_RESET (R55): Power-on, a supply below its threshold, or PORST_N low for 10 µs resets both dies. -/
  | coldReset (t : Nat) (cause : Fin 3)
  /-- PORST_N_RELEASE (R55): Release of PORST_N starts the PLL, the lanes, the boot ROM and the sampling of PAIR_EN.
  -/
  | porstNRelease (t : Nat) (finds : Machine.ReleaseFinds)
  /-- WATCHDOG_EXPIRY (R58): The supervisor watchdog expires, causing a warm reset and the SAFE HOLD lockout with
  hold_cause 7. -/
  | watchdogExpiry (t : Nat)
  /-- LOCKSTEP_MISMATCH (R58): A lockstep mismatch in a supervisor pair causes a warm reset and the SAFE HOLD lockout
  with hold_cause 7. -/
  | lockstepMismatch (t : Nat)
  /-- SPR_RST_PULSE (R68): A falling edge of SPR_RST ends a pulse that either opens the acknowledge window or is
  ignored and recorded. -/
  | sprRstPulse (t width : Nat)
  /-- ACK_WINDOW_EXPIRY (R69): The acknowledge window closes 10 s after the pulse's falling edge. -/
  | ackWindowExpiry (t : Nat)
  /-- ACK (R69): The station access acknowledge is judged against the conditions of a deliberate reset and accepted
  or refused. -/
  | ack (t : Nat) (authentic : Bool)
  /-- IMAGE_SELECTION (R84): At the end of boot the copies are examined in order and the first that verifies and
  passes application is applied. -/
  | imageSelection (t : Nat) (levels : List Int) (edges : Bool)
  /-- BACKGROUND_IMAGE_CHECK (R89): After CONFIGURE, under leave, the unexamined copy runs checks 6 to 9 and its
  status is reported. -/
  | backgroundImageCheck (t : Nat)
  /-- SETPOINT_WRITE (R280): A write to a kind-1 live word is accepted or refused and its value is written into the
  target data word at the next input distribution. -/
  | setpointWrite (t : Nat) (index : Fin 256) (value : Word)
  /-- LOOP_CONTROL_WRITE (R287): A kind-3 live write sets a loop OPEN or CLOSED at the snapshot it reaches. -/
  | loopControlWrite (t : Nat) (index : Fin 256) (value : Word)
  /-- COEFFICIENT_WRITE (R288): A kind-4 live write sets a coefficient of an OPEN loop at the snapshot it reaches. -/
  | coefficientWrite (t : Nat) (index : Fin 256) (value : Word)
  /-- PLL_LOCK (R108): The PLL locks by stored result, band table or full search, recording lock_path. -/
  | pllLock (t : Nat) (stored table full : Bool) (band : Nat) (temperature : Option Int)
  /-- RELOCK_RETRY (R118): A relock that failed on all three paths begins again every 1 ms while the reference shows
  edges. -/
  | relockRetry (t : Nat)
  /-- BAND_TABLE_UPDATE (R110): Once every 1 s the supervisor writes the predicted band of each defined plan into
  PLL_BAND_TABLE. -/
  | bandTableUpdate (t : Nat) (bands : List Nat)
  /-- PLAN_HOP_REQUEST (R111): A write to PLL_PLAN_REQ hops both synthesisers to a defined plan, or is refused. -/
  | planHopRequest (t : Nat) (plan : Fin 8) (edges : Bool)
  /-- LOSS_OF_REFERENCE (R115): No reference edge for 200 ns puts the synthesisers in holdover, stops sheaves and
  changes the mode as required. -/
  | lossOfReference (t : Nat)
  /-- LOSS_OF_LOCK (R116): A synthesiser phase error above 2 ns for 1 µs stops both synthesisers and sets synth_down.
  -/
  | lossOfLock (t : Nat)
  /-- HOLDOVER_EXPIRY (R116): Holdover reaching 100 ms stops both synthesisers and sets synth_down. -/
  | holdoverExpiry (t : Nat)
  /-- REFERENCE_RETURN (R118): The active reference shows edges again and the PLL relocks without request. -/
  | referenceReturn (t : Nat)
  /-- YIELD_DEADLINE (R117): At the second boundary after a loss in RUN, the device yields if the partner's take-over
  report arrived, and otherwise enters SAFE HOLD with hold_cause 6. -/
  | yieldDeadline (t : Nat)
  /-- LANE_BLOCK_LOCK (R140): A receiver declares block lock after 64 blocks with at most 2 invalid headers. -/
  | laneBlockLock (t : Nat) (lane : Fin 100) (line : List Bool)
  /-- LANE_LOSS_OF_LOCK (R142): 16 invalid headers in 64 blocks, or loss of signal, declares loss of lock and starts
  a lane reset. -/
  | laneLossOfLock (t : Nat) (lane : Fin 100) (line : List Bool) (signalLost : Bool)
  /-- LANE_RESET_REQUEST (R55): Writing reset in LANE_CTRL performs a lane reset. -/
  | laneResetRequest (t : Nat) (lane : Fin 100)
  /-- LOOP_TIMED_TIMEOUT (R150): No loop_timed within 10 ms of block lock or application sends the lane to HELD with
  held_reason 3. -/
  | loopTimedTimeout (t : Nat) (lane : Fin 100)
  /-- ECHO_REQUEST_SEND (R153): An ECHO_REQ is sent every 2 µs in MEASURE, or once per period in READY, outside the
  sheaf window. -/
  | echoRequestSend (t : Nat) (lane : Fin 100) (departure : Nat)
  /-- ECHO_RESPONSE_RX (R153): An ECHO_RSP gives a loop delay L from its arrival, departure and hold time. -/
  | echoResponseRx (t : Nat) (lane : Fin 100) (line : List Bool) (arrival : Nat)
  /-- ECHO_TIMEOUT (R153): A response not received within 250 µs is lost and its tag resent; 64 consecutive losses
  send the lane to HELD with held_reason 4. -/
  | echoTimeout (t : Nat) (lane : Fin 100) (tag : Nat)
  /-- IDLE_BLOCK_RX (R135): An upstream IDLE block updates far_rx_locked, far_loop_timed and the far-end block state.
  -/
  | idleBlockRx (t : Nat) (lane : Fin 100) (line : List Bool)
  /-- FOM_UPDATE (R160): Every 1 ms the figure of merit is renewed and a fall below quality_threshold raises an
  event. -/
  | fomUpdate (t : Nat) (lane : Fin 100) (figure : Nat)
  /-- EYE_SCAN_REQUEST (R161): Writing eye_scan requests an eye-scan sweep, which begins under leave from the
  Granary. -/
  | eyeScanRequest (t : Nat) (lane : Fin 100)
  /-- EYE_SCAN_INTERVAL (R161): Every scan_interval hours an eye-scan sweep is requested. -/
  | eyeScanInterval (t : Nat) (lane : Fin 100)
  /-- EYE_SCAN_COMPLETE (R161): A sweep ends with eye_width and eye_height stored, scan_valid set and an event if the
  width is below threshold. -/
  | eyeScanComplete (t : Nat) (lane : Fin 100) (width height : Nat)
  /-- READAPT_REQUEST (R162): Writing readapt requests a full re-adaptation outside READY under leave from the
  Granary. -/
  | readaptRequest (t : Nat) (lane : Fin 100)
  /-- READAPT_COMPLETE (R162): A full re-adaptation of the receiver's equalisation completes and returns its leave.
  -/
  | readaptComplete (t : Nat) (lane : Fin 100)
  /-- EE_COMMIT (R205): Writing commit commits the staging set, pending to the next reload, counting late and
  superseded sets. -/
  | eeCommit (t : Nat)
  /-- TRIP_ASSERTED (R224): A trip input becomes asserted and the local output stage cuts every channel that
  EE_TRIP_MAP names within 40 ns: its pin has stood at the level for ns. -/
  | tripAsserted (t : Nat) (input : Fin 16) (level : Bool) (ns : Nat)
  /-- TRIP_MASK_END (R396): At the end of a trip input's blanking mask, a pin still asserted is asserted at that
  instant. -/
  | tripMaskEnd (t : Nat) (input : Fin 16)
  /-- CELL_BYPASS (R241): Command 1 of unit 0x0003 moves an ACTIVE or SPARE cell to BYPASSED at the snapshot it
  reaches. -/
  | cellBypass (t : Nat) (cell : Fin 96)
  /-- CELL_RELEASE (R241): Command 2 of unit 0x0003 releases a BYPASSED cell, which goes to SPARE once a bale shows
  its bypass open. -/
  | cellRelease (t : Nat) (cell : Fin 96)
  /-- CELL_SWAP (R241): Command 3 of unit 0x0003 swaps an ACTIVE cell with an eligible spare at the same t_B. -/
  | cellSwap (t : Nat) (cell : Fin 96)
  /-- BYPASS_CONFIRM_TIMEOUT (R240): No bale showing bypass_closed within 4 snapshots after the first bypass sheaf
  raises one event. -/
  | bypassConfirmTimeout (t : Nat) (cell : Fin 96)
  /-- ROTATION_ADVANCE (R248): Every rotation_periods periods, the arm's rotation pointer advances by 1 modulo 32. -/
  | rotationAdvance (t : Nat) (arm : Fin 6)
  /-- SPREAD_WATCH_FIRE (R250): A v_cap spread above spread_limit at 8 consecutive t_B sets spread and raises one
  event. -/
  | spreadWatchFire (t : Nat) (arm : Fin 6)
  /-- PRECHARGE_TIMEOUT (R259): An arm standing in one pre-charge phase for pc_timeout sets pc_timeout, raises an
  event and restarts the timer. -/
  | prechargeTimeout (t : Nat) (arm : Fin 6)
  /-- NOP (R274): The engine does nothing for one cycle. -/
  | nop (engine : Fin 24) (w : Machine.OpWord)
  /-- CLR (R274): The selected accumulator is set to 0. -/
  | clr (engine : Fin 24) (w : Machine.OpWord)
  /-- LDA (R274): The selected accumulator is loaded with DM[a] × 2^15. -/
  | lda (engine : Fin 24) (w : Machine.OpWord)
  /-- MAC (R274): DM[a] × DM[b] is added to the selected accumulator. -/
  | mac (engine : Fin 24) (w : Machine.OpWord)
  /-- MSU (R274): DM[a] × DM[b] is subtracted from the selected accumulator. -/
  | msu (engine : Fin 24) (w : Machine.OpWord)
  /-- MAC2 (R274): Two products are added to A0 and A1 at once. -/
  | mac2 (engine : Fin 24) (w : Machine.OpWord)
  /-- ASH (R274): The selected accumulator is shifted by a signed n. -/
  | ash (engine : Fin 24) (w : Machine.OpWord)
  /-- SAT (R274): The accumulator is rounded, saturated and stored to DM[c]. -/
  | sat (engine : Fin 24) (w : Machine.OpWord)
  /-- ADDI (R274): Half the integrator at a is added to the accumulator. -/
  | addi (engine : Fin 24) (w : Machine.OpWord)
  /-- INT (R274): The integrator at c is advanced by e × k × 2^(1−n) and clamped. -/
  | int (engine : Fin 24) (w : Machine.OpWord)
  /-- TRK (R290): An OPEN or restarting loop outside any group sets its output to its track target and adjusts its
  integrator. -/
  | trk (engine : Fin 24) (w : Machine.OpWord)
  /-- MOV (R274): DM[a] is copied to DM[c]. -/
  | mov (engine : Fin 24) (w : Machine.OpWord)
  /-- NEG (R274): The negation of DM[a] is stored to DM[c]. -/
  | neg (engine : Fin 24) (w : Machine.OpWord)
  /-- ADD (R274): DM[a] + DM[b] is stored to DM[c]. -/
  | add (engine : Fin 24) (w : Machine.OpWord)
  /-- SUB (R274): DM[a] − DM[b] is stored to DM[c]. -/
  | sub (engine : Fin 24) (w : Machine.OpWord)
  /-- MUL (R274): DM[a] × DM[b] is stored to DM[c]. -/
  | mul (engine : Fin 24) (w : Machine.OpWord)
  /-- MIN (R274): The lesser of DM[a] and DM[b] is stored to DM[c]. -/
  | min (engine : Fin 24) (w : Machine.OpWord)
  /-- MAX (R274): The greater of DM[a] and DM[b] is stored to DM[c]. -/
  | max (engine : Fin 24) (w : Machine.OpWord)
  /-- LIM (R274): DM[c] is clamped between DM[a] and DM[b], setting lim when it changes. -/
  | lim (engine : Fin 24) (w : Machine.OpWord)
  /-- TAB (R278): A value is looked up and interpolated in a table of 2^n + 1 words. -/
  | tab (engine : Fin 24) (w : Machine.OpWord)
  /-- SIN (R278): Sine and cosine of an angle are formed from the internal table. -/
  | sin (engine : Fin 24) (w : Machine.OpWord)
  /-- CLK (R278): The Clarke transform of three inputs is formed. -/
  | clk (engine : Fin 24) (w : Machine.OpWord)
  /-- ICK (R278): The inverse Clarke transform is formed. -/
  | ick (engine : Fin 24) (w : Machine.OpWord)
  /-- PRK (R278): The Park transform is formed. -/
  | prk (engine : Fin 24) (w : Machine.OpWord)
  /-- IPK (R278): The inverse Park transform is formed. -/
  | ipk (engine : Fin 24) (w : Machine.OpWord)
  /-- IN (R279): The value of input slot a is stored to DM[c]. -/
  | inSlot (engine : Fin 24) (w : Machine.OpWord)
  /-- OUT (R282): DM[a] is written to output slot c inside the engine, for the release. -/
  | outSlot (engine : Fin 24) (w : Machine.OpWord)
  /-- MSEL (R292): A min-select group is evaluated, losers and open members are tracked, and the group output is
  stored. -/
  | msel (engine : Fin 24) (w : Machine.OpWord)
  /-- SETX (R274): The index register X is set to a. -/
  | setx (engine : Fin 24) (w : Machine.OpWord)
  /-- ADDX (R274): a is added to X modulo 8,192. -/
  | addx (engine : Fin 24) (w : Machine.OpWord)
  /-- REP (R276): The next a instructions are repeated b times. -/
  | rep (engine : Fin 24) (w : Machine.OpWord)
  /-- SKN (R276): If DM[a] is negative, the next n instructions have no effect. -/
  | skn (engine : Fin 24) (w : Machine.OpWord)
  /-- END (R274): The loop ends; after the last loop the engine releases. -/
  | endLoop (engine : Fin 24) (w : Machine.OpWord)
  /-- SV_FRAME_RX (R305): A sampled-value frame matching a subscription is checked and its samples placed in time. -/
  | svFrameRx (t : Nat) (port : Fin 4) (frame : SvFrameRx)
  /-- SAMPLE_MISSING (R310): A sample not received by t_j + Δ becomes missing. -/
  | sampleMissing (t : Nat) (stream : Fin 16) (second count : Nat)
  /-- GOOSE_FRAME_RX (R319): A GOOSE message matching a subscription updates members or supervision, or is discarded.
  -/
  | gooseFrameRx (t : Nat) (port : Fin 4) (frame : GooseFrameRx)
  /-- GOOSE_TTL_EXPIRY (R318): No message within timeAllowedToLive makes the subscription invalid and raises one
  event. -/
  | gooseTtlExpiry (t : Nat) (subscription : Fin 64)
  /-- SEQUENCE_TRIGGER (R339): A converter sequence is triggered by its timebase or edge-engine source, or held or
  counted as an overrun. -/
  | sequenceTrigger (t : Nat) (sequence : Fin 4)
  /-- ADC_RESULT_COMPLETE (R335): A converter result completes on the Rigging die and is mirrored to the Mast die. -/
  | adcResultComplete (t : Nat) (entry : Fin 32) (bits : List Bool) (retries : Nat) (arrives : Bool)
  /-- SLICE_ROTATION (R328): Every 250 ms the calibrating slice takes over the next serving slice's channel. -/
  | sliceRotation (t : Nat)
  /-- CHANNEL_SOURCE_CHANGE (R329): After 1.1 ms in parallel, the channel's source changes to the incoming slice. -/
  | channelSourceChange (t : Nat)
  /-- CALIBRATION_COMPLETE (R330): A slice's calibration completes and replaces its corrections, checking drift and
  raising READY. -/
  | calibrationComplete (t : Nat) (slice : Fin 25) (offset gain : Int) (inLimits : Bool)
  /-- COMPARATOR_OUTSIDE (R349): A window comparator passes from inside to outside and raises one event. -/
  | comparatorOutside (t : Nat) (comparator : Fin 24) (level : Int)
  /-- COMPARATOR_INSIDE (R346): A window comparator returns inside past its hysteresis band. -/
  | comparatorInside (t : Nat) (comparator : Fin 24) (level : Int)
  /-- COMPARATOR_RESOLVED (R348): An unresolved comparator leaves its hysteresis band and takes a resolved state. -/
  | comparatorResolved (t : Nat) (comparator : Fin 24) (level : Int)
  /-- THRESHOLD_READBACK (R351): Both threshold DACs of every enabled comparator are converted and checked within 3
  steps. -/
  | thresholdReadback (t : Nat) (conversions : List (List Bool × List Bool))
  /-- METERING_WINDOW_END (R361): After n_w input samples, a metering window is credited to its registers or counted
  as unmeasured. -/
  | meteringWindowEnd (t : Nat) (point : Fin 2)
  /-- PERIODIC_SAVE (R369): Every save_interval the metrology totals are saved to the ledger under leave, or the save
  is refused. -/
  | periodicSave (t : Nat)
  /-- SAVE_RETRY (R369): A refused save is tried again every 10 s. -/
  | saveRetry (t : Nat)
  /-- METROLOGY_SAVE (R370): Command 1 of unit 0x0008 requests a save at the snapshot it reaches. -/
  | metrologySave (t : Nat)
  /-- FINAL_SAVE_WRITTEN (R371): The final totals, fault image and lockout entry reach flash and final_written is
  set. -/
  | finalSaveWritten (t : Nat)
  /-- GD_STATIC_ON (R385): Command 1 of unit 0x0009 sets static_on of a STATIC channel. -/
  | gdStaticOn (t : Nat) (channel : Fin 8)
  /-- GD_STATIC_OFF (R385): Command 2 of unit 0x0009 clears static_on. -/
  | gdStaticOff (t : Nat) (channel : Fin 8)
  /-- GD_REARM (R385): Command 3 of unit 0x0009 clears short_latched when GDI, in millivolts, is below
  lo_thr. -/
  | gdRearm (t : Nat) (channel : Fin 8) (mv : Int)
  /-- GD_STAMPS_LATE (R384): A FOLLOW channel whose stamps have not arrived 1.0 µs before E is off for the interval
  and an event is raised. -/
  | gdStampsLate (t : Nat) (channel : Fin 8)
  /-- GD_UVLO_ENTRY (R387): A gate supply falls through its threshold and the channel output goes off within 1.0 µs: the
  supply's magnitude in millivolts. -/
  | gdUvloEntry (t : Nat) (channel : Fin 8) (negative : Bool) (mv : Nat)
  /-- GD_UVLO_EXIT (R387): Both supplies above their rising thresholds for 100 µs end the lock-out: the least magnitude of
  each in millivolts over the last ns. -/
  | gdUvloExit (t : Nat) (channel : Fin 8) (drv neg ns : Nat)
  /-- GD_SHORT_DETECT (R390): GDI above an unmasked threshold starts soft-off, latches the short and raises an event: GDI
  in millivolts. -/
  | gdShortDetect (t : Nat) (channel : Fin 8) (mv : Int)
  /-- GD_BLANK_END (R389): At the end of the lower-threshold mask, a level above lo_thr is detected as a short. -/
  | gdBlankEnd (t : Nat) (channel : Fin 8) (mv : Int)
  /-- GD_SOFT_OFF_END (R390): After soft_off, the gate is pulled to VNEG through GDL. -/
  | gdSoftOffEnd (t : Nat) (channel : Fin 8)
  /-- GD_INTERLOCK (R392): Both channels of an interlocked pair commanded on go off and an event is raised. -/
  | gdInterlock (t : Nat) (channel : Fin 8)
  /-- FAULT_EVENT (R405): An event credited to a source sets its sticky bit, counts in its window and may escalate
  it. -/
  | faultEvent (t : Nat) (origins : List Nat)
  /-- FAULT_WINDOW_EXPIRY (R405): A source window expires with fewer than N events and its count returns to 0. -/
  | faultWindowExpiry (t : Nat) (source : Fin 512)
  /-- LOCKOUT_BITS_CAPTURE (R413): 10 ms after t0 the sticky and escalation bits are taken into the lockout entry. -/
  | lockoutBitsCapture (t : Nat)
  /-- ALIVE_TOGGLE (R415): ALIVE_A and ALIVE_B toggle every 1 / (2 × f_alive) unless frozen. -/
  | aliveToggle (t : Nat) (b : Bool)
  /-- FC_KICK (R416): A write to FC_KICK is a correct kick or sets kick_err. -/
  | fcKick (t : Nat) (key : Byte)
  /-- KICK_TIMEOUT (R416): No correct kick for 10 ms freezes ALIVE_A. -/
  | kickTimeout (t : Nat)
  /-- SPR_A_DEMAND (R427): A filtered demand on SPR_A drives channel A to the safe state and SAFE HOLD with
  hold_cause 2: the ball has stood low for ns. -/
  | sprADemand (t ns : Nat)
  /-- SPR_B_DEMAND (R428): A filtered demand on SPR_B makes the Shroud block, latch and withdraw consent within 0.1
  µs: the ball has stood low for ns. -/
  | sprBDemand (t ns : Nat)
  /-- SPR_INPUT_RELEASE (R435): A filtered SPR input returns high, ending any demand and possibly a discrepancy: the
  ball has stood high for ns. -/
  | sprInputRelease (t : Nat) (b : Bool) (ns : Nat)
  /-- DISCREPANCY_TIMEOUT (R435): SPR_A and SPR_B differing for more than 10 ms raise one event at origin 845. -/
  | discrepancyTimeout (t : Nat)
  /-- CONSENT_LAPSE (R431): When either consent lapses, the Shroud asserts all block wires and driver disables within
  0.1 µs. -/
  | consentLapse (t : Nat)
  /-- SAFE_TELEGRAM_RX (R439): A safe telegram copy is received and judged against its partner copy and the sequence.
  -/
  | safeTelegramRx (t : Nat) (port : Fin 4) (bytes : List Byte)
  /-- PERMIT_COMMAND (R440): An accepted permit command allows the Mast consent when safe telegrams are enabled. -/
  | permitCommand (t : Nat)
  /-- REMOVE_COMMAND (R440): An accepted remove command acts as an SPR_A demand. -/
  | removeCommand (t : Nat)
  /-- TELEGRAM_COPY_TIMEOUT (R439): No second copy within 2 ms of the first causes a SEVERE event with last_fail 3.
  -/
  | telegramCopyTimeout (t seq : Nat)
  /-- TELEGRAM_WATCH_EXPIRY (R439): No telegram accepted for t_watch causes a SEVERE event with last_fail 5. -/
  | telegramWatchExpiry (t : Nat)
  /-- STATUS_TELEGRAM_SEND (R442): Every t_tel a status telegram is sent on both LANs. -/
  | statusTelegramSend (t : Nat)
  /-- HALYARD_HEADER_RX (R454): Two consecutive matching valid Halyard headers update the partner's fields and drive
  take-over, yield or react. -/
  | halyardHeaderRx (t : Nat) (lane : Fin 2) (header : Word)
  /-- PARTNER_SILENCE (R474): No valid Halyard header on either lane for 2 µs makes the partner silent. -/
  | partnerSilence (t : Nat)
  /-- SILENCE_TAKEOVER_CHECK (R474): At t_S of period j+3 a coasting standby examines bales and stops sending or
  takes over. -/
  | silenceTakeoverCheck (t : Nat)
  /-- SILENCE_YIELD_CHECK (R475): At t_S a member in RUN with a silent partner yields if counted bales show the
  partner executing. -/
  | silenceYieldCheck (t : Nat)
  /-- HAL_MARK_RX (R460): A HAL_MARK gives the standby its offset o, checks drift and carries the handover field. -/
  | halMarkRx (t arrival countdown : Nat) (index : Fin 65536) (handover : Nat)
  /-- COPY_FRAME_RX (R466): A COPY frame share is received and its CRC checked before its part's application instant.
  -/
  | copyFrameRx (t index : Nat) (part share : Nat) (content : Machine.CopyPart) (crcOk : Bool)
  /-- ID_NONCE_RX (R457): The partner's nonce frame is received and a proof frame is sent in answer. `frame` is the payload of its ID_SOF
  with the data after it, `crc` the CRC-32 in its ID_EOF (R455). -/
  | idNonceRx (t : Nat) (lane : Fin 2) (frame : List Byte) (crc : BitVec 32)
  /-- ID_PROOF_RX (R457): The partner's proof frame is received and queued for checking under leave. `member` and `rank` stand in its
  ID_SOF, `crc` is the CRC-32 in its ID_EOF (R455). -/
  | idProofRx (t : Nat) (lane member rank : Fin 2) (key proof : List Byte) (crc : BitVec 32)
  /-- IDENTITY_CHECK_COMPLETE (R458): The partner's key and signature are checked and the partner accepted or
  refused. -/
  | identityCheckComplete (t : Nat)
  /-- IDENTITY_RETRY (R456): While the partner is refused, the identity exchange is repeated every 10 s. -/
  | identityRetry (t : Nat)
  /-- HANDOVER_REQUEST (R476): A rank-0 standby healthy and in step for hold_time sets handover 1 in its mark. -/
  | handoverRequest (t : Nat)
  /-- HANDOVER_ACT (R476): At the boundary of j+3 the requester takes over and the partner yields if conditions hold.
  -/
  | handoverAct (t : Nat)
  /-- HANDOVER_RETRY (R476): A failed handback is asked again after 1 s. -/
  | handoverRetry (t : Nat)
  /-- PORT_LINK_UP (R485): A port's PCS synchronises and, in a pair, the port joins it and raises READY. -/
  | portLinkUp (t : Nat) (port : Fin 4) (speed : Nat) (joined : Bool)
  /-- PORT_LINK_LOSS (R485): An enabled port loses link and raises one event at origin 856. -/
  | portLinkLoss (t : Nat) (port : Fin 4)
  /-- LAN_FAULT_TIMEOUT (R485): No frame from another PRP node for 4 s sets lan_fault and raises one event. -/
  | lanFaultTimeout (t : Nat) (port : Fin 4)
  /-- FRAME_RX_CLASSIFY (R488): Every received frame is classified at line rate into the reserved or ordinary buffer,
  or dropped. -/
  | frameRxClassify (t : Nat) (port : Fin 4) (frame : EthFrameRx) (reserved ordinary : Nat)
  /-- HSR_FORWARD (R482): An HSR node forwards ring frames not addressed to it alone and removes its own and
  duplicates. -/
  | hsrForward (t : Nat) (port : Fin 4) (frame : RingFrameRx)
  /-- SUPERVISION_FRAME_SEND (R482): PRP or HSR supervision frames are sent every 2 s. -/
  | supervisionFrameSend (t : Nat) (pair : Fin 2)
  /-- PTP_SYNC_RX (R492): A Sync is received and the slave steers, steps or slews its PTP clock and judges lock. -/
  | ptpSyncRx (t : Nat) (port : Fin 4) (message : SyncRx)
  /-- PTP_ANNOUNCE_TIMEOUT (R492): announceReceiptTimeout expiring with no other master qualified loses lock and
  raises an event. The timer is that of the clock `source` on the port. -/
  | ptpAnnounceTimeout (t : Nat) (port : Fin 4) (source : Nat)
  /-- PDELAY_REQ_RX (R491): A Pdelay_Req is answered by a one-step Pdelay_Resp. -/
  | pdelayReqRx (t : Nat) (port : Fin 4)
  /-- PTP_MESSAGE_SEND (R489): Announce, Sync and Pdelay_Req are sent at their 1 s intervals with one-step stamps. -/
  | ptpMessageSend (t : Nat) (port : Fin 4) (message : PtpMessage)
  /-- PULSE_EDGE (R494): A timed pulse output gives an edge at its scheduled PTP time. -/
  | pulseEdge (t : Nat) (output : Fin 8)
  /-- PO_ARM (R494): A write to PO_ARM_NS arms a once pulse, or sets missed if its time is past. -/
  | poArm (t : Nat) (output : Fin 8) (ns : BitVec 30)
  /-- SV_PUBLISH_SAMPLE (R497): A published sample is interpolated at t_j and its frame sent when complete. -/
  | svPublishSample (t : Nat) (stream : Fin 4) (second sample : Nat)
  /-- GOOSE_FAST_CHANGE (R503): A fast block's member change sends a message into the trip queue within 4 µs. -/
  | gooseFastChange (t : Nat) (block : Fin 16)
  /-- GOOSE_REPEAT (R501): A GOOSE message is repeated at doubling intervals from t_min to t_max. -/
  | gooseRepeat (t : Nat) (block : Fin 16)
  /-- STATION_REQUEST_RX (R507): A station access request arrives and its checks begin under leave. -/
  | stationRequestRx (t : Nat) (port : Fin 4) (datagram : UdpRx)
  /-- STATION_CHECK_COMPLETE (R510): A request's checks complete and its operations run in order, or it is discarded.
  -/
  | stationCheckComplete (t id : Nat) (edges : Bool)
  /-- READ (R508): Operation 1 reads up to 64 words in ascending address order. -/
  | read (t : Nat) (key : Fin 8) (address : Word) (count : Nat)
  /-- WRITE (R509): Operation 2 writes a value to a permitted target. -/
  | write (t : Nat) (key : Fin 8) (address value : Word) (edges : Bool)
  /-- TRIGGER (R587): Operation 16 triggers a disturbance record. -/
  | trigger (t : Nat) (key : Fin 8)
  /-- REC_LIST (R587): Operation 17 lists records from a first id. -/
  | recList (t : Nat) (key : Fin 8) (first : Word) (count : Nat)
  /-- REC_READ (R587): Operation 18 reads a record's .cfg or .dat file from a byte offset. -/
  | recRead (t : Nat) (key : Fin 8) (record offset : Word) (count : Nat)
  /-- LEDGER_READ (R587): Operation 19 reads a ledger entry from a byte offset. -/
  | ledgerRead (t : Nat) (key : Fin 8) (entry offset : Word) (count : Nat)
  /-- LEDGER_NEWEST (R587): Operation 20 returns the sequence of the newest readable entry of a kind. -/
  | ledgerNewest (t : Nat) (key : Fin 8) (kind : Word) (count : Nat)
  /-- LOG_READ (R587): Operation 21 reads a firmware log entry. -/
  | logRead (t : Nat) (key : Fin 8) (index offset : Word) (count : Nat)
  /-- ATTEST (R601): Operation 24 returns a signed attestation statement over a nonce. -/
  | attest (t : Nat) (key : Fin 8) (address value : Word)
  /-- UNKNOWN_OPERATION (R511): An operation code not defined returns status 6. -/
  | unknownOperation (t : Nat) (key : Fin 8) (code : Byte)
  /-- ARP_ICMP_RX (R505): ARP and ICMP echo are answered and other IP traffic is discarded. -/
  | arpIcmpRx (t : Nat) (port : Fin 4) (message : IpMessage)
  /-- THERMAL_EVALUATION (R516): Every 10 ms every enabled sensor is read and the validity, neighbourhood, limit and
  rate rules applied. -/
  | thermalEvaluation (t : Nat) (readings : List SensorReading)
  /-- SHUTDOWN_RECORD_WRITTEN (R524): The shutdown record reaches flash and the device enters SAFE HOLD with
  hold_cause 3. -/
  | shutdownRecordWritten (t : Nat)
  /-- SHUTDOWN_DEADLINE (R524): 3 ms after the declaration, the device enters SAFE HOLD with hold_cause 3 though the
  record is not complete. -/
  | shutdownDeadline (t : Nat)
  /-- SHUTDOWN_RECORD_RETRY (R525): A shutdown record not written is retried every 1 s in SAFE HOLD. -/
  | shutdownRecordRetry (t : Nat)
  /-- REEF_FORCED_CLEAR (R523): reef_forced clears after 60 s with no sensor above its limits or rate limit. -/
  | reefForcedClear (t : Nat)
  /-- HOLDUP_READY_TIMEOUT (R528): ready clear for 10 s in RUN or SHADOW raises one event at origin 851. -/
  | holdupReadyTimeout (t : Nat)
  /-- GRANARY_REQUEST (R533): A request for leave is queued and the Granary walks its queue to grant what fits. -/
  | granaryRequest (t : Nat) (what : Machine.Leave)
  /-- GRANARY_RETURN (R533): Returned leave frees budget and the Granary walks its queue again. -/
  | granaryReturn (t : Nat) (what : Machine.Leave)
  /-- GRANARY_STARVED (R534): A request waiting longer than max_wait raises one event at origin 852. -/
  | granaryStarved (t : Nat) (what : Machine.Leave)
  /-- SLICE_CYCLE_START (R553): Every cycle_period a slice-test cycle starts over every enabled instance. -/
  | sliceCycleStart (t : Nat)
  /-- CE_SLICE_HANDOVER (R543): At a boundary a spare takes over an active control engine and its slice begins. -/
  | ceSliceHandover (t : Nat) (engine : Fin 24)
  /-- EE_SLICE_HANDOVER (R544): At a reload a free EE_S takes over a cell edge engine and its slice begins. -/
  | eeSliceHandover (t : Nat) (engine : Fin 96)
  /-- EE_S_SLICE (R545): An EE_S carrying a lane hands it to the other EE_S and is tested. -/
  | eeSSlice (t : Nat) (spare : Fin 2)
  /-- PCS_SLICE_HANDOVER (R546): At a block boundary between frames a spare PCS takes over a lane PCS. -/
  | pcsSliceHandover (t : Nat) (pcs : Fin 102)
  /-- PCS_HANDOVER_TIMEOUT (R546): A PCS hand-over not confirmed within 4 blocks completes as a lane reset. -/
  | pcsHandoverTimeout (t : Nat) (lane : Fin 100)
  /-- BLOCK_WIRE_TEST (R549): A 200 ns pulse on one block wire is latched into every receiver's check bit. -/
  | blockWireTest (t : Nat) (wire : Fin 4) (latched : List Nat)
  /-- SECURITY_SLICE (R547): The key vault is cleared and the security block is scan-tested, then keys are
  re-derived. -/
  | securitySlice (t : Nat)
  /-- COMPARE_UNIT_TEST (R548): The EE_L compare unit is tested in place after t_E + 1.5 µs. -/
  | compareUnitTest (t : Nat)
  /-- SLICE_SIGNATURE_COMPARE (R550): At the end of a slice the MISR signature is compared; a mismatch is repeated
  once, then the instance fails. -/
  | sliceSignatureCompare (t : Nat) (track : Fin 2) (signature : Word)
  /-- SLICE_HANDBACK (R543): After its slice and re-initialisation, an instance is handed back at a boundary or
  reload. -/
  | sliceHandback (t : Nat) (track : Fin 2)
  /-- CYCLE_LATE (R553): A cycle not complete when the next start falls due sets cycle_late and raises an event. -/
  | cycleLate (t : Nat)
  /-- SUPPLY_MONITOR_CHECK (R555): VDRV and VNEG of each enabled channel are converted and checked against the
  monitors. -/
  | supplyMonitorCheck (t : Nat) (channel : Fin 8) (vdrv vneg : Int)
  /-- POWER_ON_SLICE_TEST (R558): After image application or deliberate reset every instance is tested in place and
  raises READY or is retired. -/
  | powerOnSliceTest (t : Nat) (failed : List Nat)
  /-- EE_L_LOCKSTEP_MISMATCH (R551): A mismatch between the two EE_L cores retires EE_L. -/
  | eeLLockstepMismatch (t : Nat)
  /-- NAND_OP_COMPLETE (R564): A NAND operation completes and its data is corrected or reported. -/
  | nandOpComplete (t block page : Nat) (read ok : Bool) (found : Machine.NandPage)
  /-- NAND_OP_TIMEOUT (R564): An operation exceeding its maximum by more than 100 % is treated as failed. -/
  | nandOpTimeout (t block : Nat) (read : Bool)
  /-- RETENTION_REFRESH (R575): A copy due for refresh is rewritten block by block and verified. -/
  | retentionRefresh (t : Nat) (copy : Fin 4) (wrong : List (Nat × List Nat))
  /-- LEDGER_WRITE (R578): A ledger page of entries is programmed at the write point. -/
  | ledgerWrite (t : Nat)
  /-- LEDGER_SCAN (R582): At a cold start the whole ledger is read for totals, gaps, lockout and start count. -/
  | ledgerScan (t : Nat) (unreadable : List Nat)
  /-- RECORDER_SAMPLE (R583): Every 100 µs the recorder samples every configured channel into the ring. -/
  | recorderSample (t : Nat)
  /-- RECORD_TRIGGER (R584): A trigger starts a new record, joins the open one, or is lost. -/
  | recordTrigger (t : Nat)
  /-- RECORD_LOCK (R585): At the end of its post-trigger span a record is locked for flushing. -/
  | recordLock (t : Nat)
  /-- RECORD_FLUSH (R585): A locked record is written to RECORDS and unlocked when its last page is written. -/
  | recordFlush (t : Nat)
  /-- LOG_WRITE (R576): A LOG block is erased and written in the circular sequence. -/
  | logWrite (t : Nat)
  /-- FIRMWARE_BOOT (R595): The boot ROM verifies the firmware copies in version order and starts the first that
  verifies. -/
  | firmwareBoot (t : Nat)
  /-- FIRMWARE_RETRY (R597): With no copy verified, the boot ROM tries both copies again every 10 s. -/
  | firmwareRetry (t : Nat)
  /-- IDENTITY_DERIVATION (R592): The identity key pair is derived and checked against the fused digest. -/
  | identityDerivation (t : Nat) (derived : List Byte)
  /-- VAULT_CLEAR (R593): The key vault is cleared, voiding every open nonce. -/
  | vaultClear (t : Nat)
  /-- SUPPLY_WARNING (R631): A supervised supply falls through its warning threshold and raises one event. -/
  | supplyWarning (t : Nat) (supply : Fin 4)
  /-- BYPASS (R602): The TAP bypass instruction. -/
  | bypass (t : Nat) (din : List Bool)
  /-- IDCODE (R602): The TAP returns 0x2961_24F5. -/
  | idcode (t : Nat)
  /-- SAMPLE_PRELOAD (R602): The TAP samples or preloads the boundary-scan chain. -/
  | samplePreload (t : Nat) (balls din : List Bool)
  /-- STATUS (R602): The TAP shifts out SEC_STAT and BOOT_STAT. -/
  | status (t : Nat)
  /-- DBG_LOCK (R606): The TAP relocks debug access. -/
  | dbgLock (t : Nat)
  /-- DBG_CHALLENGE (R603): In COMMISSION the TAP opens a debug challenge and shifts out 64 bytes. -/
  | dbgChallenge (t : Nat) (din : List Bool)
  /-- DBG_RESPONSE (R604): A signature over the challenge is shifted in and checked under leave. -/
  | dbgResponse (t : Nat) (din : List Bool)
  /-- DBG_RESPONSE_CHECK (R604): The response check completes and unlocks debug or counts a failure. -/
  | dbgResponseCheck (t : Nat)
  /-- CHALLENGE_EXPIRY (R603): An open challenge becomes void after 60 s. -/
  | challengeExpiry (t : Nat)
  /-- OWNER_FUSE (R599): The owner key hash is burned into slot 0 or slot 1 and verified before its valid field. -/
  | ownerFuse (t : Nat) (din : List Bool) (slot1 : Bool) (hash burned : List Byte) (interrupted : Bool)
  /-- EXTEST (R602): The boundary-scan cells drive the balls. -/
  | extest (t : Nat) (balls din : List Bool)
  /-- EXTEST_PULSE (R602): AC-coupled pulse test on the lanes. -/
  | extestPulse (t : Nat) (balls din : List Bool)
  /-- EXTEST_TRAIN (R602): AC-coupled train test on the lanes. -/
  | extestTrain (t : Nat) (balls din : List Bool)
  /-- ENGINE_READ (R602): While unlocked, control and edge engine memories are read. -/
  | engineRead (t : Nat) (din : List Bool) (memory : EngineMemory)
  /-- HALT (R226): While unlocked in COMMISSION, debug halt takes effect at the next reload. -/
  | halt (t : Nat) (din : List Bool)
  /-- RESUME (R226): Debug halt ends at the next reload after the debugger resumes. -/
  | resume (t : Nat) (din : List Bool)
  /-- SUPPLY_RETURN (R631): A supervised supply rises back above its warning threshold, re-arming its event and
  restoring the Rigging-supply condition of the Shroud consent. -/
  | supplyReturn (t : Nat) (supply : Fin 4)
  /-- TRIP_DEASSERTED (R396): A trip input leaves its asserted level after its filter, ending the asserted state and
  setting masked when the assertion ended inside its mask. -/
  | tripDeasserted (t : Nat) (input : Fin 16) (level : Bool) (ns : Nat)
  /-- LOCAL_EDGE (R223): At E + time the local output stage places an EE_L stamp on its LP pin and FOLLOW gate
  driver, restarting trip and di/dt blanking. -/
  | localEdge (t : Nat)
  /-- STATION_LEAVE_TIMEOUT (R510): A station request whose check still waits for Granary leave after 100 ms fails
  check 6. -/
  | stationLeaveTimeout (t id : Nat)
  /-- VSYS_FALLS_TO_HOLD (R621): After the early warning, VSYS falls to the voltage on HOLD and the Rigging die
  connects HOLD to VSYS. -/
  | vsysFallsToHold (t : Nat)
  /-- HOLD_READY_CHANGE (R528): HOLD crosses 13.3 V, setting or clearing ready and starting or re-arming the 10 s
  ready watch. -/
  | holdReadyChange (t millivolts : Nat)
  /-- FRAME_TRANSMISSION_END (R487): A port ends the frame in progress and, after the gap, starts the next frame by
  strict queue priority, trip queue first. -/
  | frameTransmissionEnd (t : Nat) (port : Fin 4)
  /-- ECHO_REQUEST_RX (R455): An ECHO_REQ received on a Halyard lane is answered with one ECHO_RSP carrying its tag
  and hold time, as R152 requires. -/
  | echoRequestRx (t : Nat) (lane : Fin 2) (tag : Fin 256)
  deriving DecidableEq, Repr

end Sys2Proof
end

