-- ==== Sys2Proof/Decode.lean ====
section
/-! DEFINITION. Commands as words: the opcode table gives no row any bits, so no word spells a command (log entry 1). -/

namespace Sys2Proof

/-- The command that an instruction word of 56 bits is on engine `e` (R273, R274): its code picks the operation; none for a code outside
the table, for reserved bits that are not 0 and for a longer word. -/
def decodeEngineWord (e : Fin 24) (w : Nat) : Option Instr :=
  let f := Machine.opFields w
  if 2 ^ 56 ≤ w ∨ Machine.bits w 39 3 ≠ 0 then none
  else match Machine.wordOp w with
    | 0x00 => some (.nop e f)
    | 0x01 => some (.clr e f)
    | 0x02 => some (.lda e f)
    | 0x03 => some (.mac e f)
    | 0x04 => some (.msu e f)
    | 0x05 => some (.mac2 e f)
    | 0x06 => some (.ash e f)
    | 0x07 => some (.sat e f)
    | 0x08 => some (.addi e f)
    | 0x09 => some (.int e f)
    | 0x0A => some (.trk e f)
    | 0x0B => some (.mov e f)
    | 0x0C => some (.neg e f)
    | 0x0D => some (.add e f)
    | 0x0E => some (.sub e f)
    | 0x0F => some (.mul e f)
    | 0x10 => some (.min e f)
    | 0x11 => some (.max e f)
    | 0x12 => some (.lim e f)
    | 0x13 => some (.tab e f)
    | 0x14 => some (.sin e f)
    | 0x15 => some (.clk e f)
    | 0x16 => some (.ick e f)
    | 0x17 => some (.prk e f)
    | 0x18 => some (.ipk e f)
    | 0x19 => some (.inSlot e f)
    | 0x1A => some (.outSlot e f)
    | 0x1B => some (.msel e f)
    | 0x1C => some (.setx e f)
    | 0x1D => some (.addx e f)
    | 0x1E => some (.rep e f)
    | 0x1F => some (.skn e f)
    | 0x3F => some (.endLoop e f)
    | _ => none

/-- The command that a word of `nbits` bits spells by the bits of the opcode table: none, since no row of the table has any. -/
def decodeTableWord (nbits w : Nat) : Option Instr :=
  match nbits, w with
  | _, _ => none

end Sys2Proof
end

