-- ==== Sys2Proof/Machine/Filter.lean ====
section
/-! DEFINITION. The sinc filter of a converter entry (R334): pure arithmetic over modulator bits. -/

namespace Sys2Proof.Machine

/-- Sums of neighbours, from the sum `acc` of the first ones: `out` leaves as `inn` enters. -/
def slidingSums (acc : Int) : List Int → List Int → List Int
  | out :: os, inn :: ns => acc :: slidingSums (acc + inn - out) os ns
  | _, _ => [acc]

/-- The sums of every `d` neighbours. -/
def boxcar (d : Nat) (x : List Int) : List Int := slidingSums ((x.take d).foldl (· + ·) 0) x (x.drop d)

/-- `n` sums over `d` neighbours, one after the other. -/
def sinc (d : Nat) : Nat → List Int → List Int
  | 0, x => x
  | n + 1, x => sinc d n (boxcar d x)

/-- The sum of a sinc filter of order `n` and decimation `d` over `n` × `d` modulator bits (R334): a bit counts +1 or −1. Of the `n`
positions that those bits leave the filter, the middle one is taken (DEDUCED, log entry 1105). -/
def sincSum (n d : Nat) (b : List Bool) : Int :=
  (sinc d n (b.map fun x => if x then 1 else -1)).getD ((n - 1) / 2) 0

/-- A filter's sum as a signed 24-bit value, 2²³ for +1.024 V, with a slice's corrections of its offset in µV and of its gain error in
ppm, halves upward (R330, R334; DEDUCED, log entry 1105). -/
def normalised (n d : Nat) (sum offset gain : Int) : Int :=
  let full : Int := (d ^ n : Nat)
  roundHalfUp ((sum * 1024000 - offset * full) * 2 ^ 23 * 1000000) ((d ^ n) * 1024000 * (1000000 + gain).toNat)

end Sys2Proof.Machine
end

