-- ==== Sys2Proof/Machine/Crypto.lean ====
section
/-! DEFINITION. The two algorithms of the device's signatures and digests: SHA-384 (FIPS 180-4) and the verification of an ECDSA
signature on P-384 (FIPS 186-5), as chapter 21 names them (R76, R79, R590). The algorithms and their constants are those of the
standards (PRESUMED, log entry 2104). -/

namespace Sys2Proof.Machine

/-! ## SHA-384 -/

/-- The 80 round constants. -/
def shaConstants : List Nat :=
  [0x428A2F98D728AE22, 0x7137449123EF65CD, 0xB5C0FBCFEC4D3B2F, 0xE9B5DBA58189DBBC, 0x3956C25BF348B538,
    0x59F111F1B605D019, 0x923F82A4AF194F9B, 0xAB1C5ED5DA6D8118, 0xD807AA98A3030242, 0x12835B0145706FBE,
    0x243185BE4EE4B28C, 0x550C7DC3D5FFB4E2, 0x72BE5D74F27B896F, 0x80DEB1FE3B1696B1, 0x9BDC06A725C71235,
    0xC19BF174CF692694, 0xE49B69C19EF14AD2, 0xEFBE4786384F25E3, 0x0FC19DC68B8CD5B5, 0x240CA1CC77AC9C65] ++
   [0x2DE92C6F592B0275, 0x4A7484AA6EA6E483, 0x5CB0A9DCBD41FBD4, 0x76F988DA831153B5, 0x983E5152EE66DFAB,
    0xA831C66D2DB43210, 0xB00327C898FB213F, 0xBF597FC7BEEF0EE4, 0xC6E00BF33DA88FC2, 0xD5A79147930AA725,
    0x06CA6351E003826F, 0x142929670A0E6E70, 0x27B70A8546D22FFC, 0x2E1B21385C26C926, 0x4D2C6DFC5AC42AED,
    0x53380D139D95B3DF, 0x650A73548BAF63DE, 0x766A0ABB3C77B2A8, 0x81C2C92E47EDAEE6, 0x92722C851482353B] ++
   [0xA2BFE8A14CF10364, 0xA81A664BBC423001, 0xC24B8B70D0F89791, 0xC76C51A30654BE30, 0xD192E819D6EF5218,
    0xD69906245565A910, 0xF40E35855771202A, 0x106AA07032BBD1B8, 0x19A4C116B8D2D0C8, 0x1E376C085141AB53,
    0x2748774CDF8EEB99, 0x34B0BCB5E19B48A8, 0x391C0CB3C5C95A63, 0x4ED8AA4AE3418ACB, 0x5B9CCA4F7763E373,
    0x682E6FF3D6B2B8A3, 0x748F82EE5DEFB2FC, 0x78A5636F43172F60, 0x84C87814A1F0AB72, 0x8CC702081A6439EC] ++
   [0x90BEFFFA23631E28, 0xA4506CEBDE82BDE9, 0xBEF9A3F7B2C67915, 0xC67178F2E372532B, 0xCA273ECEEA26619C,
    0xD186B8C721C0C207, 0xEADA7DD6CDE0EB1E, 0xF57D4F7FEE6ED178, 0x06F067AA72176FBA, 0x0A637DC5A2C898A6,
    0x113F9804BEF90DAE, 0x1B710B35131C471B, 0x28DB77F523047D84, 0x32CAAB7B40C72493, 0x3C9EBE0A15C9BEBC,
    0x431D67C49C100D4C, 0x4CC5D4BECB3E42B6, 0x597F299CFC657E2A, 0x5FCB6FAB3AD6FAEC, 0x6C44198C4A475817]

/-- A 64-bit word rotated right. -/
def rotr64 (x k : Nat) : Nat := (x >>> k) ||| ((x <<< (64 - k)) % 2 ^ 64)

/-- The two functions of the message schedule, and the two of the rounds. -/
def shaSigma0 (x : Nat) : Nat := rotr64 x 1 ^^^ rotr64 x 8 ^^^ (x >>> 7)
def shaSigma1 (x : Nat) : Nat := rotr64 x 19 ^^^ rotr64 x 61 ^^^ (x >>> 6)
def shaSum0 (x : Nat) : Nat := rotr64 x 28 ^^^ rotr64 x 34 ^^^ rotr64 x 39
def shaSum1 (x : Nat) : Nat := rotr64 x 14 ^^^ rotr64 x 18 ^^^ rotr64 x 41

/-- The next `n` words of the message schedule, from the sixteen before them. -/
def shaSchedule : Nat → List Nat → List Nat
  | 0, _ => []
  | n + 1, w =>
    let next := (shaSigma1 (w.getD 14 0) + w.getD 9 0 + shaSigma0 (w.getD 1 0) + w.getD 0 0) % 2 ^ 64
    w.getD 0 0 :: shaSchedule n (w.drop 1 ++ [next])

/-- The eight working words. -/
structure ShaState where
  a : Nat
  b : Nat
  c : Nat
  d : Nat
  e : Nat
  f : Nat
  g : Nat
  h : Nat
  deriving DecidableEq, Repr

/-- One round, with its constant and its word of the schedule. -/
def ShaState.round (s : ShaState) (k w : Nat) : ShaState :=
  let choose := (s.e &&& s.f) ^^^ ((s.e ^^^ (2 ^ 64 - 1)) &&& s.g)
  let major := (s.a &&& s.b) ^^^ (s.a &&& s.c) ^^^ (s.b &&& s.c)
  let t1 := s.h + shaSum1 s.e + choose + k + w
  let t2 := shaSum0 s.a + major
  ⟨(t1 + t2) % 2 ^ 64, s.a, s.b, s.c, (s.d + t1) % 2 ^ 64, s.e, s.f, s.g⟩

/-- One block of 128 bytes. -/
def ShaState.block (s : ShaState) (bs : List Byte) : ShaState :=
  let w := (List.range 16).map fun i => beNat ((bs.drop (8 * i)).take 8)
  let t := (shaConstants.zip (shaSchedule 80 w)).foldl (fun t x => t.round x.1 x.2) s
  let plus (x y : Nat) : Nat := (x + y) % 2 ^ 64
  ⟨plus s.a t.a, plus s.b t.b, plus s.c t.c, plus s.d t.d, plus s.e t.e, plus s.f t.f, plus s.g t.g, plus s.h t.h⟩

/-- `n` blocks, one after another. -/
def ShaState.blocks : Nat → ShaState → List Byte → ShaState
  | 0, s, _ => s
  | n + 1, s, bs => ShaState.blocks n (s.block (bs.take 128)) (bs.drop 128)

/-- The working words of SHA-384 before the first block. -/
def shaStart : ShaState :=
  ⟨0xCBBB9D5DC1059ED8, 0x629A292A367CD507, 0x9159015A3070DD17, 0x152FECD8F70E5939,
   0x67332667FFC00B31, 0x8EB44A8768581511, 0xDB0C2E0D64F98FA7, 0x47B5481DBEFA4FA4⟩

/-- A number as `n` big-endian bytes. -/
def beBytes (n v : Nat) : List Byte := (leBytes n v).reverse

/-- The SHA-384 digest of a message: 48 bytes. -/
def sha384 (m : List Byte) : List Byte :=
  let zeros := (239 - m.length % 128) % 128
  let padded := m ++ [0x80] ++ List.replicate zeros 0 ++ beBytes 16 (8 * m.length)
  let s := ShaState.blocks (padded.length / 128) shaStart padded
  [s.a, s.b, s.c, s.d, s.e, s.f].flatMap (beBytes 8)

/-! ## ECDSA on P-384 -/

/-- The field's prime, the order of the group, the curve's b (its a is −3), and the base point. -/
def p384 : Nat := 2 ^ 384 - 2 ^ 128 - 2 ^ 96 + 2 ^ 32 - 1
def p384Order : Nat := 0xFFFFFFFFFFFFFFFFFFFFFFFFFFFFFFFFFFFFFFFFFFFFFFFFC7634D81F4372DDF581A0DB248B0A77AECEC196ACCC52973
def p384B : Nat := 0xB3312FA7E23EE7E4988E056BE3F82D19181D9C6EFE8141120314088F5013875AC656398D8A2ED19D2A85C8EDD3EC2AEF
def p384BaseX : Nat := 0xAA87CA22BE8B05378EB1C71EF320AD746E1D3B628BA79B9859F741E082542A385502F25DBF55296C3A545E3872760AB7
def p384BaseY : Nat := 0x3617DE4A96262C6F5D9E98BF9292DC29F8F41DBD289A147CE9DA3113B5F0B8C00A60B1CE1D7E819D7A431D7C90EA0E5F

/-- Product and difference modulo the prime. -/
def fieldMul (x y : Nat) : Nat := x * y % p384
def fieldSub (x y : Nat) : Nat := (x + p384 - y) % p384

/-- A point in Jacobian coordinates: (x / z², y / z³); z = 0 is the point at infinity. -/
structure CurvePoint where
  x : Nat
  y : Nat
  z : Nat
  deriving DecidableEq, Repr

/-- A point doubled. -/
def CurvePoint.double (p : CurvePoint) : CurvePoint :=
  let dd := fieldMul p.z p.z
  let gg := fieldMul p.y p.y
  let bb := fieldMul p.x gg
  let aa := fieldMul 3 (fieldMul (fieldSub p.x dd) (p.x + dd))
  let x := fieldSub (fieldMul aa aa) (fieldMul 8 bb)
  let z := fieldSub (fieldSub (fieldMul (p.y + p.z) (p.y + p.z)) gg) dd
  ⟨x, fieldSub (fieldMul aa (fieldSub (fieldMul 4 bb) x)) (fieldMul 8 (fieldMul gg gg)), z⟩

/-- The sum of two points. -/
def CurvePoint.add (p q : CurvePoint) : CurvePoint :=
  if p.z = 0 then q
  else if q.z = 0 then p
  else
    let z1 := fieldMul p.z p.z
    let z2 := fieldMul q.z q.z
    let u := fieldMul p.x z2
    let v := fieldMul p.y (fieldMul z2 q.z)
    let h := fieldSub (fieldMul q.x z1) u
    let r := fieldSub (fieldMul q.y (fieldMul z1 p.z)) v
    if h = 0 then (if r = 0 then p.double else ⟨1, 1, 0⟩)
    else
      let hh := fieldMul h h
      let hhh := fieldMul hh h
      let w := fieldMul u hh
      let x := fieldSub (fieldSub (fieldMul r r) hhh) (2 * w % p384)
      ⟨x, fieldSub (fieldMul r (fieldSub w x)) (fieldMul v hhh), fieldMul h (fieldMul p.z q.z)⟩

/-- The bits of a number below 2³⁸⁴, the most significant first. -/
def bits384 (k : Nat) : List Bool := (List.range 384).map fun i => bitAt k (383 - i)

/-- `u · p + v · q`. -/
def curveSum (u v : Nat) (p q : CurvePoint) : CurvePoint :=
  let both := p.add q
  ((bits384 u).zip (bits384 v)).foldl (fun r x =>
    let r := r.double
    match x with
    | (false, false) => r
    | (true, false) => r.add p
    | (false, true) => r.add q
    | (true, true) => r.add both) ⟨1, 1, 0⟩

/-- The inverse modulo the order of the group. -/
def orderInverse (k : Nat) : Nat :=
  (bits384 (p384Order - 2)).foldl (fun r b =>
    let r := r * r % p384Order
    if b then r * k % p384Order else r) 1

/-- The coordinates of a key lie in the field and on the curve. -/
def onCurve (x y : Nat) : Bool :=
  decide (x < p384) && decide (y < p384) && (y * y + 3 * x) % p384 == (x * x * x + p384B) % p384

/-- A signature verifies over a message under a public key (R76, R79): the key x then y, the signature r then s, 48 bytes each and
big-endian. -/
def signatureVerifies (key message sig : List Byte) : Bool :=
  let x := beNat (key.take 48)
  let y := beNat ((key.drop 48).take 48)
  let r := beNat (sig.take 48)
  let s := beNat ((sig.drop 48).take 48)
  if key.length ≠ 96 || sig.length ≠ 96 || !onCurve x y || r == 0 || s == 0 || decide (p384Order ≤ r) || decide (p384Order ≤ s) then false
  else
    let e := beNat (sha384 message)
    let w := orderInverse s
    let p := curveSum (e * w % p384Order) (r * w % p384Order) ⟨p384BaseX, p384BaseY, 1⟩ ⟨x, y, 1⟩
    let zz := fieldMul p.z p.z
    p.z != 0 && (fieldMul r zz == p.x || (decide (r + p384Order < p384) && fieldMul (r + p384Order) zz == p.x))

end Sys2Proof.Machine
end

