-- ==== Sys2Proof/Config.lean ====
section
/-! DEFINITION. The values the spec leaves open, as constants without a body: nothing can be proved about them beyond
their type. Each is applied to the operands it depends on or to the number of free values drawn so far (log entry 2). -/

namespace Sys2Proof.Machine

/-- A word the spec leaves open, by the number of free values drawn before it. -/
opaque Config.freeWord : Nat → Word

/-- One byte of what the device makes from its random source or its private keys (nonces, signatures): by the number of
free values drawn before it, and its place. -/
opaque Config.freeByte : Nat → Nat → Byte

/-- A byte of SRAM whose word is uncorrectable (R38): by its address and the number of free values drawn before the access. -/
opaque Config.lostByte : Nat → Nat → Byte

/-- The offsetScaledLogVariance of the device's clock as PTP master, which the spec's data set does not give (R489; log entry 1706). -/
opaque Config.clockVariance : Nat

/-- The reading of a temperature input whose element is not of the kind that TS_CFG sets (R517): by the kind and what the element
gives. -/
opaque Config.strangeReading : Nat → Int → Int

/-- The seconds by which PTP time is ahead of UTC: the spec dates ledger entries and records in UTC (R579, R586) and does not
say how far the two lie apart. -/
opaque Config.utcOffset : Nat

/-- The bytes of a part of the state copied to the Halyard partner (R22, R463), which the device computes from the image (R479): the spec
lists what a part holds and not how it is laid out. By the number of the part and the bytes of the image. -/
opaque Config.copyBytes : Nat → List Byte → Nat

/-- The bytes of the bad-block table, before its CRC-32 (R570): by the blocks that it lists. The spec does not lay them out. -/
opaque Config.tableBytes : List Nat → List Byte

/-- The bytes of a record's header page (R585): by its id, the first sample's and the trigger's times, its span in sets, its number of channels, and
the channel table. The spec lists what it holds and not its layout. -/
opaque Config.recordHeader : Nat → Nat → Nat → Nat → Nat → List (List Byte) → List Byte

/-- The text of a record's .cfg file (R586): the spec lists what it carries and not its characters. From the station name, the
channel table, whether time is valid, and the first sample's and the trigger's times. -/
opaque Config.cfgFile : List Byte → List (List Byte) → Bool → Nat → Nat → List Byte

/-- The bytes of a firmware log entry as LOG_READ returns them (R419, R587): source, class, merged, PTP time, milliseconds. The
spec does not lay them out. -/
opaque Config.logBytes : Nat → Nat → Bool → Bool → Nat → List Byte

end Sys2Proof.Machine
end

