-- ==== Sys2Proof/Machine/Origins.lean ====
section
/-! DEFINITION. The 861 fault origins and the default origin map and source settings of the table of R403. -/

namespace Sys2Proof.Machine

/-- The three consequences of an escalated source (R402). -/
inductive FaultClass where
  | note | degrade | severe
  deriving DecidableEq, Repr

/-- The class as FS_CFG.class codes it (R422): 0 NOTE, 1 DEGRADE, 2 SEVERE. -/
def FaultClass.code : FaultClass → Nat
  | .note => 0
  | .degrade => 1
  | .severe => 2

/-- The class a code of FS_CFG.class stands for; 3 is not used (R421) and reads as SEVERE here. -/
def FaultClass.ofCode : Nat → FaultClass
  | 0 => .note
  | 1 => .degrade
  | _ => .severe

/-- The value of the origin map for an origin that is not collected (R401). -/
def notCollected : Nat := 65535

/-- Origins by name, as the table of R403 numbers them. -/
def originTrip (n : Nat) : Nat := n
/-- Interlock of cell n (R196, R221). -/
def originInterlock (n : Nat) : Nat := 96 + n
/-- Timebase of cell n (R196). -/
def originTimebase (n : Nat) : Nat := 192 + n
/-- Link of lane n, 0 to 99. -/
def originLink (n : Nat) : Nat := 288 + n
/-- Carry of edge engine n; 96 is EE_L (R217). -/
def originCarry (n : Nat) : Nat := 388 + n
/-- Interlock of EE_L (R221). -/
def originInterlockL : Nat := 485
/-- Trip of TRIP[t] (R225). -/
def originTripInput (t : Nat) : Nat := 486 + t
/-- Window of comparator n (R349). -/
def originWindow (n : Nat) : Nat := 502 + n
/-- Read-back of comparator n (R351). -/
def originReadback (n : Nat) : Nat := 526 + n
/-- Drift of converter slice n (R332). -/
def originDrift (n : Nat) : Nat := 550 + n
/-- Calibration of converter slice n (R333). -/
def originCalibration (n : Nat) : Nat := 575 + n
/-- Unserved converter channel n (R333). -/
def originUnserved (n : Nat) : Nat := 600 + n
/-- Sampled-value stream n (R312). -/
def originStream (n : Nat) : Nat := 624 + n
/-- GOOSE supervision of subscription g (R318). -/
def originGoose (g : Nat) : Nat := 640 + g
/-- GOOSE trip of subscription g (R321, R322). -/
def originGooseTrip (g : Nat) : Nat := 704 + g
/-- Bypass, balance, pre-charge and capacity of arm a (R240, R250, R259, R254). -/
def originBypass (a : Nat) : Nat := 768 + a
def originBalance (a : Nat) : Nat := 774 + a
def originPrecharge (a : Nat) : Nat := 780 + a
def originCapacity (a : Nat) : Nat := 786 + a
/-- Budget of control engine n (R24). -/
def originBudget (n : Nat) : Nat := 792 + n
/-- Engine loss (R268); sort or edge overrun (R25); GD interlock (R392). -/
def originEngineLoss : Nat := 816
def originOverrun : Nat := 817
def originGdInterlock : Nat := 818
/-- Short and UVLO of gate driver n (R390, R388). -/
def originShort (n : Nat) : Nat := 819 + n
def originUvlo (n : Nat) : Nat := 827 + n
/-- IDB late stamps (R384); SRAM uncorrectable (R38); clock (R115); image (R87, R88); live parameter (R98);
mode request (R44, R111); metrology save (R369, R371); IDB silence (R18, R404). -/
def originIdbLate : Nat := 835
def originSram : Nat := 836
def originClock : Nat := 837
def originImage : Nat := 838
def originLive : Nat := 839
def originModeRequest : Nat := 840
def originMetrology : Nat := 841
def originIdbSilence : Nat := 842
/-- Supply supervisors; supervisor lockstep and watchdog; SPR discrepancy; safe telegram (R403). -/
def originSupply : Nat := 843
def originLockstep : Nat := 844
def originSpr : Nat := 845
def originTelegram : Nat := 846
/-- Temperature limit, rate of rise, broken sensor, thermal shutdown; hold-up charger; Granary (R403). -/
def originTempLimit : Nat := 847
def originTempRate : Nat := 848
def originTempBroken : Nat := 849
def originTempShutdown : Nat := 850
def originCharger : Nat := 851
def originGranary : Nat := 852
/-- Halyard link; partner identity; PTP; ports; storage; slice test; security and debug (R403). -/
def originHalyard : Nat := 853
def originPartner : Nat := 854
def originPtp : Nat := 855
def originPorts : Nat := 856
def originStorage : Nat := 857
def originStorageLost : Nat := 858
def originSliceTest : Nat := 859
def originSecurity : Nat := 860

/-- One run of consecutive origins of the table of R403, mapped to consecutive sources or to one source. -/
structure OriginRow where
  first : Nat
  last : Nat
  source : Nat
  oneSource : Bool
  deriving DecidableEq, Repr

/-- The default origin map (R403), run by run. -/
def originRows : List OriginRow :=
  [⟨0, 95, 0, false⟩, ⟨96, 191, 96, false⟩, ⟨192, 287, 192, false⟩, ⟨288, 383, 192, false⟩,
   ⟨384, 387, 288, false⟩, ⟨388, 483, 192, false⟩, ⟨484, 484, 450, true⟩, ⟨485, 485, 451, true⟩,
   ⟨486, 501, 292, false⟩, ⟨502, 525, 308, false⟩, ⟨526, 549, 479, true⟩, ⟨550, 574, 477, true⟩,
   ⟨575, 599, 478, true⟩, ⟨600, 623, 478, true⟩, ⟨624, 639, 332, false⟩, ⟨640, 703, 476, true⟩] ++
  [⟨704, 767, 348, false⟩, ⟨768, 773, 412, false⟩, ⟨774, 779, 412, false⟩, ⟨780, 785, 412, false⟩,
   ⟨786, 791, 418, false⟩, ⟨792, 815, 424, false⟩, ⟨816, 816, 448, true⟩, ⟨817, 817, 449, true⟩,
   ⟨818, 818, 452, true⟩, ⟨819, 826, 453, false⟩, ⟨827, 834, 461, false⟩, ⟨835, 835, 469, true⟩,
   ⟨836, 836, 470, true⟩, ⟨837, 837, 471, true⟩, ⟨838, 838, 472, true⟩, ⟨839, 839, 473, true⟩] ++
  [⟨840, 840, 474, true⟩, ⟨841, 841, 475, true⟩, ⟨842, 842, 498, true⟩, ⟨843, 843, 480, true⟩,
   ⟨844, 844, 481, true⟩, ⟨845, 845, 482, true⟩, ⟨846, 846, 483, true⟩, ⟨847, 850, 484, false⟩,
   ⟨851, 852, 488, false⟩, ⟨853, 854, 490, false⟩, ⟨855, 856, 492, false⟩, ⟨857, 858, 494, false⟩,
   ⟨859, 859, 496, true⟩, ⟨860, 860, 497, true⟩]

/-- The default source of origin `o`; origins 861 to 1,023 are not collected (R403). -/
def coldOriginSource (o : Nat) : Nat :=
  match originRows.find? (fun r => r.first ≤ o ∧ o ≤ r.last) with
  | some r => if r.oneSource then r.source else r.source + (o - r.first)
  | none => notCollected

/-- A run of sources with one default class, threshold and window in milliseconds (R403). -/
structure SourceRow where
  first : Nat
  last : Nat
  cls : FaultClass
  n : Nat
  w : Nat
  deriving DecidableEq, Repr

/-- The default settings of the sources the default map uses (R403); W is 1 s where the table gives none. -/
def sourceRows : List SourceRow :=
  [⟨0, 95, .degrade, 3, 1000⟩, ⟨96, 191, .degrade, 1, 1000⟩, ⟨192, 287, .degrade, 8, 1000⟩,
   ⟨288, 291, .degrade, 8, 1000⟩, ⟨292, 307, .severe, 4, 1000⟩, ⟨308, 331, .note, 1, 1000⟩,
   ⟨332, 347, .degrade, 1, 1000⟩, ⟨348, 411, .severe, 1, 1000⟩, ⟨412, 417, .note, 1, 1000⟩,
   ⟨418, 423, .severe, 1, 1000⟩, ⟨424, 447, .severe, 3, 100⟩, ⟨448, 448, .severe, 1, 1000⟩,
   ⟨449, 449, .severe, 3, 100⟩, ⟨450, 450, .note, 1, 1000⟩, ⟨451, 460, .severe, 1, 1000⟩] ++
  [⟨461, 468, .degrade, 1, 1000⟩, ⟨469, 469, .severe, 3, 100⟩, ⟨470, 470, .severe, 1, 1000⟩,
   ⟨471, 477, .note, 1, 1000⟩, ⟨478, 480, .degrade, 1, 1000⟩, ⟨481, 481, .note, 1, 1000⟩,
   ⟨482, 483, .severe, 1, 1000⟩, ⟨484, 485, .degrade, 1, 1000⟩, ⟨486, 489, .note, 1, 1000⟩,
   ⟨490, 490, .degrade, 1, 1000⟩, ⟨491, 494, .note, 1, 1000⟩, ⟨495, 496, .degrade, 1, 1000⟩,
   ⟨497, 497, .note, 1, 1000⟩, ⟨498, 498, .severe, 1, 1000⟩]

/-- The default class code, N and W of source `s`; NOTE, 1, 1,000 for a source without a default origin (R422). -/
def coldSource (s : Nat) : Nat × Nat × Nat :=
  match sourceRows.find? (fun r => r.first ≤ s ∧ s ≤ r.last) with
  | some r => (r.cls.code, r.n, r.w)
  | none => (FaultClass.note.code, 1, 1000)

/-- The origins marked fixed in R403: SRAM uncorrectable, IDB silence, SPR discrepancy, safe telegram. -/
def fixedOrigins : List Nat := [836, 842, 845, 846]

end Sys2Proof.Machine
end

