-- ==== Sys2Proof/Machine/Registers.lean ====
section
/-! DEFINITION. The register maps of the spec (R39, R72, R102, R129, R165, R198, R231, R263, R303, R325, R354, R379,
R400, R422, R445, R480, R514, R539, R561, R589, R608): every field with its place, width, access and value after a
cold start, and every register with its address and its instances. Reserved bits have no field: they read 0 (R5). -/

namespace Sys2Proof.Machine

/-- The access of a register field (R5). -/
inductive Access where
  | ro | rw | w1c | wo | rc | rs
  deriving DecidableEq, Repr

/-- One row of a register map: lowest bit, width, access, value after a cold start (R5). -/
structure FieldSpec where
  lo : Nat
  width : Nat
  access : Access
  cold : Nat
  deriving DecidableEq, Repr

/-- Every field of every register map, in the order of the chapters; named register_field. -/
inductive Fld where
  -- R39
  | periodCfg_sheafRate | periodCfg_lead | periodCfg_tCtl
  | periodIndex_index
  | periodStat_running | periodStat_halyardOverrun | periodStat_baleLate | periodStat_sheafLate | periodStat_edgeOverrun | periodStat_sortOverrun | periodStat_computeOverrun | periodStat_inputIncomplete
  | budgetMargin_restart | budgetMargin_worstCe | budgetMargin_minMargin
  | sramCorrCount_count
  | sramUncorrAddr_addr | sramUncorrAddr_valid
  | sramScrubStat_enabled | sramScrubStat_passes
  | idbStat_linkUp | idbStat_lostAccesses | idbStat_retries
  -- R72
  | sysIdent_partNumber | sysIdent_siliconRev
  | modeStat_quiescent | modeStat_holdUp | modeStat_lockoutPersisted | modeStat_holdCause | modeStat_mode
  | modeReq_pending | modeReq_request
  | resetCause_deliberate | resetCause_lane | resetCause_warmRequest | resetCause_warmLockstep | resetCause_warmWatchdog | resetCause_coldPin | resetCause_coldSupply | resetCause_coldPowerOn
  | delibStat_windowOpen | delibStat_windowLeft | delibStat_lastRefusal
  | readyLaneA_ready
  | readyLaneB_ready
  | readyLaneC_ready
  | readyEdgeA_ready
  | readyEdgeB_ready
  | readyEdgeC_ready
  | readyUnit_ax | readyUnit_eeL | readyUnit_eeS | readyUnit_ce
  | readyIo_meterLv | readyIo_meterMv | readyIo_port | readyIo_slice
  -- R102
  | imageStat_appliedValid | imageStat_seqTie | imageStat_fallback | imageStat_appliedCopy | imageStat_statusB | imageStat_statusA
  | imageSeqA_sequence
  | imageSeqB_sequence
  | imageDigest_digest
  | liveStat_lastRefusal | liveStat_lastIndex | liveStat_refusals
  | liveWord_value
  -- R129
  | pllStat_locked | pllStat_refPresent | pllStat_holdover | pllStat_synthDown | pllStat_hopPending | pllStat_lockPath | pllStat_activePlan | pllStat_lockLosses | pllStat_refLosses
  | pllPlanReq_request
  | pllPlan_defined | pllPlan_spread | pllPlan_refFreq | pllPlan_source
  | pllBandTable_valid | pllBandTable_band
  | pllBandStore_valid | pllBandStore_temperature | pllBandStore_band
  | clkoCfg_divider | clkoCfg_source | clkoCfg_level | clkoCfg_format
  | tbCountLo_count
  | tbCountHi_count
  | tbBoundaryLo_time
  | tbBoundaryHi_time
  | tbStat_boundaryValid | tbStat_boundaryStale | tbStat_countStale
  -- R165
  | laneCfg_enabled | laneCfg_driftLimit | laneCfg_qualityThreshold | laneCfg_scanInterval | laneCfg_qualityMode | laneCfg_code | laneCfg_rate
  | laneAsym_asym
  | laneStat_ready | laneStat_farBlock | laneStat_farLoopTimed | laneStat_farRxLocked | laneStat_txBlock | laneStat_state | laneStat_heldReason | laneStat_lockLosses
  | laneLatency_valid | laneLatency_latency
  | laneRtt_drift | laneRtt_loopDelay
  | laneErrs_stuffViolations | laneErrs_invalidHeaders
  | laneCtrl_readapt | laneCtrl_eyeScan | laneCtrl_reset
  | laneQuality_scanValid | laneQuality_eyeHeight | laneQuality_eyeWidth | laneQuality_fom
  -- R198
  | linkBale_badBales | linkBale_lateBales
  | linkCell_valid | linkCell_cellState | linkCell_execMember | linkCell_repeat | linkCell_bypassClosed | linkCell_portValid | linkCell_capLow | linkCell_interlock | linkCell_prechargeActive | linkCell_echoSeq
  | linkTb_tbFault | linkTb_tbError
  -- R231
  | eeCommit_pending | eeCommit_commit
  | eeStat_halted | eeStat_superseded | eeStat_late
  | eePscArm_q
  | eeTripMap_channels
  | eeTripStat_cutting
  | eeCfg_enabled | eeCfg_laneSel | eeCfg_arm | eeCfg_dabRatio | eeCfg_hbrMode | eeCfg_dabMode | eeCfg_dabOffset
  | eeLCfg_enabled | eeLCfg_rL
  | eeRefresh_interval | eeRefresh_width
  | eeCarryLim_carryLimit
  | eeEstat_interlock | eeEstat_stampsMax | eeEstat_standFor | eeEstat_stampsLast
  | eeCounts_refreshes | eeCounts_drops
  | eeHb_minPulse | eeHb_deadTime
  | eeCarry_clamped | eeCarry_carry
  | eeLMode_theta | eeLMode_mode
  | eeLHb_minPulse | eeLHb_deadTime
  | eeLCarry_clamped | eeLCarry_carry
  -- R263
  | armCfg_enabled | armCfg_method | armCfg_iSrc | armCfg_adcEntry | armCfg_nMin | armCfg_nAct
  | armScale_iArmFs | armScale_vCapFs
  | armVref_armVfs | armVref_vSecFs
  | armBal_rotationPeriods | armBal_iDeadband | armBal_sortBand | armBal_balGain
  | armLimit_spreadLimit | armLimit_spareWindow | armLimit_ovLimit | armLimit_uvLimit
  | armPc_pcPassiveLevel | armPc_pcActiveLevel | armPc_lvLevel | armPc_pcTimeout
  | armStat_saturated | armStat_spread | armStat_capacity | armStat_deficit | armStat_pcTimeout | armStat_pcPhase | armStat_nActive | armStat_nSpare | armStat_rotPtr
  | armCount_cmdIgnored | armCount_bypasses | armCount_insertions | armCount_saturations
  | armTb_tbSpread
  | cellCfg_initState | cellCfg_slot
  | cellStat_state | cellStat_bypassPending | cellStat_releasePending | cellStat_lastCause | cellStat_rank
  -- R303
  | ceStat_noCover | ceStat_nActive | ceStat_nSpare | ceStat_nRetired
  | cePower_designated | cePower_stopping | cePower_reefLevel | cePower_engine | cePower_group | cePower_ramp
  | ceCfg_active | ceCfg_lost | ceCfg_retired | ceCfg_runsOn | ceCfg_loopCount | ceCfg_progLength
  | ceCycles_count
  | ceEstat_accSat | ceEstat_overrun | ceEstat_marginLast
  | ceLoopStat_closed | ceLoopStat_tracking | ceLoopStat_restart | ceLoopStat_sat | ceLoopStat_lim | ceLoopStat_satCount | ceLoopStat_limCount
  | ceLoopOut_target | ceLoopOut_out
  | ceGroupStat_valid | ceGroupStat_hwWin | ceGroupStat_winner | ceGroupStat_output
  -- R325
  | svStat_valid | svStat_questionable | svStat_simulated | svStat_sat | svStat_invalidReason | svStat_smpCnt
  | svCount_missing | svCount_interpolated | svCount_late | svCount_rejected
  | goStat_valid | goStat_trip | goStat_simulated | goStat_invalidReason | goStat_values | goStat_stNum
  | goCount_rejected | goCount_trips
  -- R354
  | adcSeqCfg_enabled | adcSeqCfg_source | adcSeqCfg_first | adcSeqCfg_last | adcSeqCfg_delay
  | adcSeqTrig_level | adcSeqTrig_channel | adcSeqTrig_div
  | adcEntry_enabled | adcEntry_channel | adcEntry_order | adcEntry_dec
  | adcRb_enabled | adcRb_entry
  | adcCalLim_gainLimit | adcCalLim_offsetLimit
  | adcSlice_retired | adcSlice_calibrating | adcSlice_drift | adcSlice_serving | adcSlice_calCount
  | wcCfg_enabled | wcCfg_hyst | wcCfg_tripSel | wcCfg_hi | wcCfg_lo
  | adcRes_valid | adcRes_ovr | adcRes_held | adcRes_rb | adcRes_result
  | adcSeqStat_running | adcSeqStat_heldPending | adcSeqStat_overruns
  | adcStat_noRotation | adcStat_nRetired | adcStat_calSlice
  | wcState_state
  | wcUnres_state
  | wcLatch_flags
  | wcRbFail_flags
  -- R379
  | metCfg_saveInterval
  | metStat_ewArmed | metStat_saveRefused | metStat_classLost | metStat_finalWritten | metStat_refusals | metStat_saves
  | mptCfg_enabled | mptCfg_reverse | mptCfg_fNom | mptCfg_seq | mptCfg_nW
  | mptSmax_sMax
  | mptStat_ready | mptStat_unmeasured | mptStat_totalsRestored | mptStat_gapPending | mptStat_unmeasuredMs
  | mptFreq_valid | mptFreq_freq
  | mptStaleA_net | mptStaleA_stale
  | mptStaleB_stale
  | mptSrc_used | mptSrc_vSrc | mptSrc_iSrc
  | mptVgain_gain
  | mptIgain_gain
  | mptIdelay_iDelay
  | mptDeltaLo_energy
  | mptDeltaHi_energy
  | mptTotalLo_energy
  | mptTotalHi_energy
  | mptNetLo_energy
  | mptNetHi_energy
  -- R400
  | gdCfg_enabled | gdCfg_cpEnable | gdCfg_pair | gdCfg_src | gdCfg_channel | gdCfg_drvUvlo | gdCfg_negUvlo | gdCfg_softOff
  | gdDidt_blank | gdDidt_hiThr | gdDidt_loThr
  | gdStat_on | gdStat_disabled | gdStat_uvloPos | gdStat_uvloNeg | gdStat_shortLatched | gdStat_interlock | gdStat_cut | gdStat_staticOn | gdStat_uvloCount | gdStat_shortCount
  | gdCount_lateStamps | gdCount_cmdIgnored
  | lpCfg_enabled | lpCfg_invert | lpCfg_safe | lpCfg_drive
  | tripCfg_enabled | tripCfg_polarity | tripCfg_unblanked | tripCfg_filter | tripCfg_blank
  | tripStat_asserted | tripStat_masked
  | lpStat_atSafe
  -- R422
  | fcStat_reaction | fcStat_degradePending | fcStat_notePending | fcStat_aliveAFrozen | fcStat_aliveBFrozen | fcStat_kickErr | fcStat_merged | fcStat_escalations
  | fcAlive_fAlive
  | fcKick_key
  | fsSticky_bits
  | fsEsc_bits
  | fsCfg_class | fsCfg_n | fsCfg_w
  | fsCount_winCount | fsCount_winOpen | fsCount_events
  | fcOrigin_source
  -- R445
  | sprStat_aDemand | sprStat_bDemand | sprStat_discrepancy | sprStat_discFault | sprStat_stDemand | sprStat_rstSeen | sprStat_demands | sprStat_discCount
  | stCfg_enabled | stCfg_pair | stCfg_connId
  | stTime_tWatch | stTime_tTel
  | stStat_supervising | stStat_permitted | stStat_lastFail
  | stSeq_seq
  | stCount_accepted | stCount_stale
  | shroudStat_bw | shroudStat_drvDisable | shroudStat_lockout | shroudStat_mastConsent | shroudStat_shroudConsent | shroudStat_sprA | shroudStat_sprB | shroudStat_rstOk | shroudStat_withheld | shroudStat_holdCause
  -- R480
  | halCfg_enabled | halCfg_dualSend | halCfg_member | halCfg_rank | halCfg_holdTime | halCfg_dMax | halCfg_divLimit
  | halCopyA_p1 | halCopyA_p2
  | halCopyB_singleOk | halCopyB_p3
  | halStat_partnerSeen | halStat_accepted | halStat_idRefused | halStat_inStep | halStat_sending | halStat_partnerReact | halStat_partnerBlock | halStat_partnerHealthy | halStat_partnerMode | halStat_partnerTakeover | halStat_returnPending | halStat_aligned | halStat_lanesReady | halStat_holdLeft
  | halAlign_valid | halAlign_drift | halAlign_phi | halAlign_offset
  | halExec_own | halExec_partner
  | halCount_takeovers | halCount_yields | halCount_copyFails | halCount_liveRefused
  | halPeerHash_digest
  -- R514
  | netCfg_saPort | netCfg_portMode | netCfg_saPair | netCfg_stationMode | netCfg_processMode
  | netMacLo_mac
  | netMacHi_mac
  | pStat_ready | pStat_linkUp | pStat_joined | pStat_lanFault | pStat_linkLosses
  | pCount_rxDrop | pCount_tripRx
  | pCorr_ingress | pCorr_egress
  | ptpCfg_enabled | ptpCfg_slaveOnly | ptpCfg_pair | ptpCfg_domain | ptpCfg_priority1 | ptpCfg_priority2
  | ptpStat_locked | ptpStat_master | ptpStat_timeStale | ptpStat_twoStepSeen | ptpStat_slavePort | ptpStat_steps | ptpStat_lockLosses
  | ptpOffset_offset
  | ptpTimeLo_time
  | ptpTimeHi_time
  | poCfg_enabled | poCfg_mode | poCfg_polarity | poCfg_gateLock | poCfg_width
  | poRate_rate
  | poArmSec_sec
  | poArmNs_armed | poArmNs_missed | poArmNs_ns
  | pubStat_svPublishing | pubStat_goPublishing | pubStat_svInvalid
  | saStat_lastStatus | saStat_lastKey | saStat_refused
  | saStart_start
  -- R539
  | thStat_shutdownPending | thStat_recordPending | thStat_rearmOk | thStat_recordWritten | thStat_shutSensor | thStat_brokenCount | thStat_rearmLeft
  | grStat_reefForced | grStat_reefLevel | grStat_headroom
  | grPower_base | grPower_granted
  | grCfg_pLim | grCfg_gdLoss
  | grReef_reef1 | grReef_reef2 | grReef_reef3 | grReef_hyst | grReef_hold
  | grCount_grants | grCount_starved | grCount_setAside
  | huCfg_huSensor | huCfg_huLow | huCfg_huHigh
  | huStat_charge | huStat_ready | huStat_holdMv
  | flTemp_inRange | flTemp_flashSensor | flTemp_refused
  | grClass_floor | grClass_maxWait
  | thLimA_tMax | thLimA_tShut
  | thLimB_tRearm | thLimB_tMin
  | thLimC_rateLimit | thLimC_rateWindow | thLimC_inHeadroom
  | thHood_devLimit
  | thSensor_enabled | thSensor_limSet | thSensor_hood
  | thRead_valid | thRead_broken | thRead_above | thRead_rate | thRead_brokenReason | thRead_reading
  | tsCfg_kind | tsCfg_param
  -- R561
  | sltCfg_enabled | sltCfg_cyclePeriod | sltCfg_secInterval
  | sltStat_running | sltStat_cycleLate | sltStat_uncovered | sltStat_readbackOff | sltStat_active | sltStat_cycles
  | sltCycle_last | sltCycle_worst
  | sltCount_failures | sltCount_transients | sltCount_waits | sltCount_skipped
  | sltLast_kind | sltLast_index | sltLast_result
  | sltRetEe_retired
  | sltRetPcs_retired
  | sltRetMisc_eeL | sltRetMisc_eeS | sltRetMisc_pcsS | sltRetMisc_bw | sltRetMisc_gdMon | sltRetMisc_security
  -- R589
  | nvDev_dev0 | nvDev_dev1 | nvDev_profileOk | nvDev_blocks
  | nvStat_anchorValid | nvStat_firstStart | nvStat_degraded | nvStat_short | nvStat_busy
  | nvEcc_corrected | nvEcc_uncorrectable | nvEcc_maxBits
  | nvBlocks_eraseMax | nvBlocks_grown | nvBlocks_factory
  | nvScrub_nextCopy | nvScrub_earlyDue | nvScrub_lastFail | nvScrub_daysLeft
  | nvLedger_erasedPages | nvLedger_carryForwards
  | nvCfg_refreshBits
  | drCfg_enabled | drCfg_trigClass | drCfg_trigHold | drCfg_channels
  | drSpan_postMs | drSpan_preMs
  | drTrigWc_mask
  | drTrigTrip_mask
  | drStat_state | drStat_locked | drStat_flushing | drStat_stored
  | drCount_lost | drCount_joined | drCount_truncated
  | drLast_id
  | drChan_addr
  -- R608
  | secStat_ownerFused | secStat_slot1InForce | secStat_idReady | secStat_vaultClear | secStat_retired | secStat_sigFails | secStat_attests
  | bootStat_copy | bootStat_keyIndex | bootStat_statusB | bootStat_statusA
  | fwVersion_version
  | dbgStat_unlocked | dbgStat_challengeOpen | dbgStat_barred | dbgStat_windowLeft | dbgStat_failCount
  | fwDigest_bytes
  | ownerHash_bytes
  | idSerialLo_serial
  | idSerialHi_serial
  | idPubkey_bytes
  | idEndorse_bytes
  deriving DecidableEq, Repr

/-- Place, width, access and cold value of each field, as the maps give them (R5). A field whose cold value the
map gives per instance, or leaves to pins and fuses, has 0 here and its value in `Fld.coldAt`. -/
def Fld.spec : Fld → FieldSpec
  | .periodCfg_sheafRate => ⟨24, 2, .ro, 1⟩
  | .periodCfg_lead => ⟨16, 8, .ro, 10⟩
  | .periodCfg_tCtl => ⟨0, 12, .ro, 100⟩
  | .periodIndex_index => ⟨0, 32, .ro, 0⟩
  | .periodStat_running => ⟨31, 1, .ro, 0⟩
  | .periodStat_halyardOverrun => ⟨6, 1, .w1c, 0⟩
  | .periodStat_baleLate => ⟨5, 1, .w1c, 0⟩
  | .periodStat_sheafLate => ⟨4, 1, .w1c, 0⟩
  | .periodStat_edgeOverrun => ⟨3, 1, .w1c, 0⟩
  | .periodStat_sortOverrun => ⟨2, 1, .w1c, 0⟩
  | .periodStat_computeOverrun => ⟨1, 1, .w1c, 0⟩
  | .periodStat_inputIncomplete => ⟨0, 1, .w1c, 0⟩
  | .budgetMargin_restart => ⟨31, 1, .wo, 0⟩
  | .budgetMargin_worstCe => ⟨24, 5, .ro, 0⟩
  | .budgetMargin_minMargin => ⟨0, 16, .ro, 65535⟩
  | .sramCorrCount_count => ⟨0, 32, .rc, 0⟩
  | .sramUncorrAddr_addr => ⟨4, 28, .ro, 0⟩
  | .sramUncorrAddr_valid => ⟨0, 1, .w1c, 0⟩
  | .sramScrubStat_enabled => ⟨31, 1, .ro, 1⟩
  | .sramScrubStat_passes => ⟨0, 24, .ro, 0⟩
  | .idbStat_linkUp => ⟨31, 1, .ro, 0⟩
  | .idbStat_lostAccesses => ⟨16, 8, .rc, 0⟩
  | .idbStat_retries => ⟨0, 16, .rc, 0⟩
  | .sysIdent_partNumber => ⟨16, 16, .ro, 38418⟩
  | .sysIdent_siliconRev => ⟨12, 4, .ro, 2⟩
  | .modeStat_quiescent => ⟨31, 1, .ro, 0⟩
  | .modeStat_holdUp => ⟨30, 1, .ro, 0⟩
  | .modeStat_lockoutPersisted => ⟨29, 1, .ro, 0⟩
  | .modeStat_holdCause => ⟨16, 8, .ro, 0⟩
  | .modeStat_mode => ⟨0, 3, .ro, 0⟩
  | .modeReq_pending => ⟨4, 4, .ro, 0⟩
  | .modeReq_request => ⟨0, 4, .wo, 0⟩
  | .resetCause_deliberate => ⟨7, 1, .w1c, 0⟩
  | .resetCause_lane => ⟨6, 1, .w1c, 0⟩
  | .resetCause_warmRequest => ⟨5, 1, .w1c, 0⟩
  | .resetCause_warmLockstep => ⟨4, 1, .w1c, 0⟩
  | .resetCause_warmWatchdog => ⟨3, 1, .w1c, 0⟩
  | .resetCause_coldPin => ⟨2, 1, .w1c, 0⟩
  | .resetCause_coldSupply => ⟨1, 1, .w1c, 0⟩
  | .resetCause_coldPowerOn => ⟨0, 1, .w1c, 0⟩
  | .delibStat_windowOpen => ⟨31, 1, .ro, 0⟩
  | .delibStat_windowLeft => ⟨16, 8, .ro, 0⟩
  | .delibStat_lastRefusal => ⟨0, 8, .ro, 0⟩
  | .readyLaneA_ready => ⟨0, 32, .ro, 0⟩
  | .readyLaneB_ready => ⟨0, 32, .ro, 0⟩
  | .readyLaneC_ready => ⟨0, 32, .ro, 0⟩
  | .readyEdgeA_ready => ⟨0, 32, .ro, 0⟩
  | .readyEdgeB_ready => ⟨0, 32, .ro, 0⟩
  | .readyEdgeC_ready => ⟨0, 32, .ro, 0⟩
  | .readyUnit_ax => ⟨28, 4, .ro, 0⟩
  | .readyUnit_eeL => ⟨27, 1, .ro, 0⟩
  | .readyUnit_eeS => ⟨25, 2, .ro, 0⟩
  | .readyUnit_ce => ⟨0, 24, .ro, 0⟩
  | .readyIo_meterLv => ⟨31, 1, .ro, 0⟩
  | .readyIo_meterMv => ⟨30, 1, .ro, 0⟩
  | .readyIo_port => ⟨26, 4, .ro, 0⟩
  | .readyIo_slice => ⟨0, 25, .ro, 0⟩
  | .imageStat_appliedValid => ⟨31, 1, .ro, 0⟩
  | .imageStat_seqTie => ⟨30, 1, .ro, 0⟩
  | .imageStat_fallback => ⟨29, 1, .ro, 0⟩
  | .imageStat_appliedCopy => ⟨28, 1, .ro, 0⟩
  | .imageStat_statusB => ⟨4, 4, .ro, 0⟩
  | .imageStat_statusA => ⟨0, 4, .ro, 0⟩
  | .imageSeqA_sequence => ⟨0, 32, .ro, 0⟩
  | .imageSeqB_sequence => ⟨0, 32, .ro, 0⟩
  | .imageDigest_digest => ⟨0, 32, .ro, 0⟩
  | .liveStat_lastRefusal => ⟨24, 8, .ro, 0⟩
  | .liveStat_lastIndex => ⟨16, 8, .ro, 0⟩
  | .liveStat_refusals => ⟨0, 16, .rc, 0⟩
  | .liveWord_value => ⟨0, 32, .rw, 0⟩
  | .pllStat_locked => ⟨31, 1, .ro, 0⟩
  | .pllStat_refPresent => ⟨30, 1, .ro, 0⟩
  | .pllStat_holdover => ⟨29, 1, .ro, 0⟩
  | .pllStat_synthDown => ⟨28, 1, .ro, 0⟩
  | .pllStat_hopPending => ⟨27, 1, .ro, 0⟩
  | .pllStat_lockPath => ⟨22, 2, .ro, 0⟩
  | .pllStat_activePlan => ⟨20, 2, .ro, 0⟩
  | .pllStat_lockLosses => ⟨8, 8, .rc, 0⟩
  | .pllStat_refLosses => ⟨0, 8, .rc, 0⟩
  | .pllPlanReq_request => ⟨0, 3, .wo, 0⟩
  | .pllPlan_defined => ⟨31, 1, .ro, 0⟩
  | .pllPlan_spread => ⟨8, 1, .ro, 0⟩
  | .pllPlan_refFreq => ⟨4, 2, .ro, 0⟩
  | .pllPlan_source => ⟨0, 2, .ro, 0⟩
  | .pllBandTable_valid => ⟨31, 1, .ro, 0⟩
  | .pllBandTable_band => ⟨0, 6, .ro, 0⟩
  | .pllBandStore_valid => ⟨31, 1, .ro, 0⟩
  | .pllBandStore_temperature => ⟨16, 8, .ro, 0⟩
  | .pllBandStore_band => ⟨0, 6, .ro, 0⟩
  | .clkoCfg_divider => ⟨16, 12, .ro, 400⟩
  | .clkoCfg_source => ⟨4, 1, .ro, 0⟩
  | .clkoCfg_level => ⟨2, 2, .ro, 1⟩
  | .clkoCfg_format => ⟨0, 2, .ro, 0⟩
  | .tbCountLo_count => ⟨0, 32, .ro, 0⟩
  | .tbCountHi_count => ⟨0, 32, .ro, 0⟩
  | .tbBoundaryLo_time => ⟨0, 32, .ro, 0⟩
  | .tbBoundaryHi_time => ⟨0, 32, .ro, 0⟩
  | .tbStat_boundaryValid => ⟨31, 1, .ro, 0⟩
  | .tbStat_boundaryStale => ⟨1, 1, .w1c, 0⟩
  | .tbStat_countStale => ⟨0, 1, .w1c, 0⟩
  | .laneCfg_enabled => ⟨31, 1, .ro, 1⟩
  | .laneCfg_driftLimit => ⟨16, 8, .ro, 8⟩
  | .laneCfg_qualityThreshold => ⟨8, 8, .ro, 0⟩
  | .laneCfg_scanInterval => ⟨4, 4, .ro, 0⟩
  | .laneCfg_qualityMode => ⟨3, 1, .ro, 0⟩
  | .laneCfg_code => ⟨2, 1, .ro, 0⟩
  | .laneCfg_rate => ⟨0, 2, .ro, 0⟩
  | .laneAsym_asym => ⟨0, 16, .ro, 0⟩
  | .laneStat_ready => ⟨31, 1, .ro, 0⟩
  | .laneStat_farBlock => ⟨30, 1, .ro, 0⟩
  | .laneStat_farLoopTimed => ⟨29, 1, .ro, 0⟩
  | .laneStat_farRxLocked => ⟨28, 1, .ro, 0⟩
  | .laneStat_txBlock => ⟨27, 1, .ro, 0⟩
  | .laneStat_state => ⟨24, 3, .ro, 0⟩
  | .laneStat_heldReason => ⟨8, 8, .ro, 0⟩
  | .laneStat_lockLosses => ⟨0, 8, .rc, 0⟩
  | .laneLatency_valid => ⟨31, 1, .ro, 0⟩
  | .laneLatency_latency => ⟨0, 24, .ro, 0⟩
  | .laneRtt_drift => ⟨31, 1, .w1c, 0⟩
  | .laneRtt_loopDelay => ⟨0, 24, .ro, 0⟩
  | .laneErrs_stuffViolations => ⟨16, 16, .rc, 0⟩
  | .laneErrs_invalidHeaders => ⟨0, 16, .rc, 0⟩
  | .laneCtrl_readapt => ⟨2, 1, .wo, 0⟩
  | .laneCtrl_eyeScan => ⟨1, 1, .wo, 0⟩
  | .laneCtrl_reset => ⟨0, 1, .wo, 0⟩
  | .laneQuality_scanValid => ⟨31, 1, .ro, 0⟩
  | .laneQuality_eyeHeight => ⟨16, 8, .ro, 0⟩
  | .laneQuality_eyeWidth => ⟨8, 8, .ro, 0⟩
  | .laneQuality_fom => ⟨0, 8, .ro, 0⟩
  | .linkBale_badBales => ⟨16, 16, .rc, 0⟩
  | .linkBale_lateBales => ⟨0, 16, .rc, 0⟩
  | .linkCell_valid => ⟨31, 1, .ro, 0⟩
  | .linkCell_cellState => ⟨26, 2, .ro, 0⟩
  | .linkCell_execMember => ⟨25, 1, .ro, 0⟩
  | .linkCell_repeat => ⟨24, 1, .ro, 0⟩
  | .linkCell_bypassClosed => ⟨23, 1, .ro, 0⟩
  | .linkCell_portValid => ⟨22, 1, .ro, 0⟩
  | .linkCell_capLow => ⟨21, 1, .ro, 0⟩
  | .linkCell_interlock => ⟨20, 1, .ro, 0⟩
  | .linkCell_prechargeActive => ⟨19, 1, .ro, 0⟩
  | .linkCell_echoSeq => ⟨0, 16, .ro, 0⟩
  | .linkTb_tbFault => ⟨31, 1, .w1c, 0⟩
  | .linkTb_tbError => ⟨0, 16, .ro, 0⟩
  | .eeCommit_pending => ⟨31, 1, .ro, 0⟩
  | .eeCommit_commit => ⟨0, 1, .wo, 0⟩
  | .eeStat_halted => ⟨31, 1, .ro, 0⟩
  | .eeStat_superseded => ⟨8, 8, .rc, 0⟩
  | .eeStat_late => ⟨0, 8, .rc, 0⟩
  | .eePscArm_q => ⟨0, 6, .ro, 1⟩
  | .eeTripMap_channels => ⟨0, 32, .ro, 0⟩
  | .eeTripStat_cutting => ⟨0, 16, .ro, 0⟩
  | .eeCfg_enabled => ⟨31, 1, .ro, 1⟩
  | .eeCfg_laneSel => ⟨29, 2, .ro, 0⟩
  | .eeCfg_arm => ⟨26, 3, .ro, 7⟩
  | .eeCfg_dabRatio => ⟨24, 2, .ro, 1⟩
  | .eeCfg_hbrMode => ⟨20, 4, .ro, 0⟩
  | .eeCfg_dabMode => ⟨16, 4, .ro, 0⟩
  | .eeCfg_dabOffset => ⟨0, 16, .ro, 0⟩
  | .eeLCfg_enabled => ⟨31, 1, .ro, 1⟩
  | .eeLCfg_rL => ⟨0, 4, .ro, 1⟩
  | .eeRefresh_interval => ⟨16, 16, .ro, 1000⟩
  | .eeRefresh_width => ⟨0, 16, .ro, 16000⟩
  | .eeCarryLim_carryLimit => ⟨0, 20, .ro, 160000⟩
  | .eeEstat_interlock => ⟨31, 1, .w1c, 0⟩
  | .eeEstat_stampsMax => ⟨16, 10, .ro, 0⟩
  | .eeEstat_standFor => ⟨8, 8, .ro, 127⟩
  | .eeEstat_stampsLast => ⟨0, 8, .ro, 0⟩
  | .eeCounts_refreshes => ⟨16, 16, .rc, 0⟩
  | .eeCounts_drops => ⟨0, 16, .rc, 0⟩
  | .eeHb_minPulse => ⟨16, 16, .ro, 4000⟩
  | .eeHb_deadTime => ⟨0, 16, .ro, 8000⟩
  | .eeCarry_clamped => ⟨31, 1, .w1c, 0⟩
  | .eeCarry_carry => ⟨0, 24, .ro, 0⟩
  | .eeLMode_theta => ⟨16, 16, .ro, 0⟩
  | .eeLMode_mode => ⟨0, 2, .ro, 0⟩
  | .eeLHb_minPulse => ⟨16, 16, .ro, 4000⟩
  | .eeLHb_deadTime => ⟨0, 16, .ro, 8000⟩
  | .eeLCarry_clamped => ⟨31, 1, .w1c, 0⟩
  | .eeLCarry_carry => ⟨0, 24, .ro, 0⟩
  | .armCfg_enabled => ⟨31, 1, .ro, 0⟩
  | .armCfg_method => ⟨30, 1, .ro, 0⟩
  | .armCfg_iSrc => ⟨28, 2, .ro, 0⟩
  | .armCfg_adcEntry => ⟨16, 5, .ro, 0⟩
  | .armCfg_nMin => ⟨8, 6, .ro, 1⟩
  | .armCfg_nAct => ⟨0, 6, .ro, 1⟩
  | .armScale_iArmFs => ⟨16, 16, .ro, 5000⟩
  | .armScale_vCapFs => ⟨0, 16, .ro, 10000⟩
  | .armVref_armVfs => ⟨16, 16, .ro, 800⟩
  | .armVref_vSecFs => ⟨0, 16, .ro, 10000⟩
  | .armBal_rotationPeriods => ⟨24, 8, .ro, 20⟩
  | .armBal_iDeadband => ⟨16, 8, .ro, 10⟩
  | .armBal_sortBand => ⟨8, 8, .ro, 4⟩
  | .armBal_balGain => ⟨0, 8, .ro, 16⟩
  | .armLimit_spreadLimit => ⟨24, 8, .ro, 13⟩
  | .armLimit_spareWindow => ⟨16, 8, .ro, 13⟩
  | .armLimit_ovLimit => ⟨8, 8, .ro, 243⟩
  | .armLimit_uvLimit => ⟨0, 8, .ro, 154⟩
  | .armPc_pcPassiveLevel => ⟨24, 8, .ro, 64⟩
  | .armPc_pcActiveLevel => ⟨16, 8, .ro, 192⟩
  | .armPc_lvLevel => ⟨8, 8, .ro, 192⟩
  | .armPc_pcTimeout => ⟨0, 8, .ro, 50⟩
  | .armStat_saturated => ⟨31, 1, .w1c, 0⟩
  | .armStat_spread => ⟨30, 1, .w1c, 0⟩
  | .armStat_capacity => ⟨29, 1, .ro, 0⟩
  | .armStat_deficit => ⟨28, 1, .ro, 0⟩
  | .armStat_pcTimeout => ⟨27, 1, .w1c, 0⟩
  | .armStat_pcPhase => ⟨24, 3, .ro, 0⟩
  | .armStat_nActive => ⟨16, 6, .ro, 0⟩
  | .armStat_nSpare => ⟨8, 6, .ro, 0⟩
  | .armStat_rotPtr => ⟨0, 5, .ro, 0⟩
  | .armCount_cmdIgnored => ⟨24, 8, .rc, 0⟩
  | .armCount_bypasses => ⟨16, 8, .rc, 0⟩
  | .armCount_insertions => ⟨8, 8, .rc, 0⟩
  | .armCount_saturations => ⟨0, 8, .rc, 0⟩
  | .armTb_tbSpread => ⟨0, 16, .ro, 0⟩
  | .cellCfg_initState => ⟨30, 2, .ro, 0⟩
  | .cellCfg_slot => ⟨0, 5, .ro, 0⟩
  | .cellStat_state => ⟨30, 2, .ro, 3⟩
  | .cellStat_bypassPending => ⟨29, 1, .ro, 0⟩
  | .cellStat_releasePending => ⟨28, 1, .ro, 0⟩
  | .cellStat_lastCause => ⟨16, 8, .ro, 0⟩
  | .cellStat_rank => ⟨8, 8, .ro, 255⟩
  | .ceStat_noCover => ⟨31, 1, .ro, 0⟩
  | .ceStat_nActive => ⟨24, 5, .ro, 0⟩
  | .ceStat_nSpare => ⟨16, 5, .ro, 0⟩
  | .ceStat_nRetired => ⟨8, 5, .ro, 0⟩
  | .cePower_designated => ⟨31, 1, .ro, 0⟩
  | .cePower_stopping => ⟨30, 1, .ro, 0⟩
  | .cePower_reefLevel => ⟨28, 2, .ro, 0⟩
  | .cePower_engine => ⟨19, 5, .ro, 0⟩
  | .cePower_group => ⟨16, 3, .ro, 0⟩
  | .cePower_ramp => ⟨0, 16, .ro, 0⟩
  | .ceCfg_active => ⟨31, 1, .ro, 0⟩
  | .ceCfg_lost => ⟨30, 1, .ro, 0⟩
  | .ceCfg_retired => ⟨29, 1, .ro, 0⟩
  | .ceCfg_runsOn => ⟨24, 5, .ro, 0⟩
  | .ceCfg_loopCount => ⟨16, 7, .ro, 0⟩
  | .ceCfg_progLength => ⟨0, 13, .ro, 0⟩
  | .ceCycles_count => ⟨0, 19, .ro, 0⟩
  | .ceEstat_accSat => ⟨31, 1, .w1c, 0⟩
  | .ceEstat_overrun => ⟨30, 1, .w1c, 0⟩
  | .ceEstat_marginLast => ⟨0, 16, .ro, 65535⟩
  | .ceLoopStat_closed => ⟨31, 1, .ro, 0⟩
  | .ceLoopStat_tracking => ⟨30, 1, .ro, 0⟩
  | .ceLoopStat_restart => ⟨29, 1, .ro, 0⟩
  | .ceLoopStat_sat => ⟨28, 1, .w1c, 0⟩
  | .ceLoopStat_lim => ⟨27, 1, .w1c, 0⟩
  | .ceLoopStat_satCount => ⟨8, 8, .rc, 0⟩
  | .ceLoopStat_limCount => ⟨0, 8, .rc, 0⟩
  | .ceLoopOut_target => ⟨16, 16, .ro, 0⟩
  | .ceLoopOut_out => ⟨0, 16, .ro, 0⟩
  | .ceGroupStat_valid => ⟨31, 1, .ro, 0⟩
  | .ceGroupStat_hwWin => ⟨30, 1, .ro, 0⟩
  | .ceGroupStat_winner => ⟨24, 3, .ro, 0⟩
  | .ceGroupStat_output => ⟨0, 16, .ro, 0⟩
  | .svStat_valid => ⟨31, 1, .ro, 0⟩
  | .svStat_questionable => ⟨30, 1, .w1c, 0⟩
  | .svStat_simulated => ⟨29, 1, .ro, 0⟩
  | .svStat_sat => ⟨28, 1, .w1c, 0⟩
  | .svStat_invalidReason => ⟨24, 4, .ro, 7⟩
  | .svStat_smpCnt => ⟨0, 16, .ro, 0⟩
  | .svCount_missing => ⟨24, 8, .rc, 0⟩
  | .svCount_interpolated => ⟨16, 8, .rc, 0⟩
  | .svCount_late => ⟨8, 8, .rc, 0⟩
  | .svCount_rejected => ⟨0, 8, .rc, 0⟩
  | .goStat_valid => ⟨31, 1, .ro, 0⟩
  | .goStat_trip => ⟨30, 1, .ro, 0⟩
  | .goStat_simulated => ⟨29, 1, .ro, 0⟩
  | .goStat_invalidReason => ⟨26, 3, .ro, 5⟩
  | .goStat_values => ⟨16, 8, .ro, 0⟩
  | .goStat_stNum => ⟨0, 16, .ro, 0⟩
  | .goCount_rejected => ⟨16, 16, .rc, 0⟩
  | .goCount_trips => ⟨0, 16, .rc, 0⟩
  | .adcSeqCfg_enabled => ⟨31, 1, .ro, 0⟩
  | .adcSeqCfg_source => ⟨30, 1, .ro, 0⟩
  | .adcSeqCfg_first => ⟨24, 5, .ro, 0⟩
  | .adcSeqCfg_last => ⟨16, 5, .ro, 0⟩
  | .adcSeqCfg_delay => ⟨0, 16, .ro, 0⟩
  | .adcSeqTrig_level => ⟨31, 1, .ro, 1⟩
  | .adcSeqTrig_channel => ⟨24, 5, .ro, 0⟩
  | .adcSeqTrig_div => ⟨0, 9, .ro, 1⟩
  | .adcEntry_enabled => ⟨31, 1, .ro, 0⟩
  | .adcEntry_channel => ⟨24, 5, .ro, 0⟩
  | .adcEntry_order => ⟨16, 3, .ro, 1⟩
  | .adcEntry_dec => ⟨0, 13, .ro, 8⟩
  | .adcRb_enabled => ⟨31, 1, .ro, 1⟩
  | .adcRb_entry => ⟨0, 5, .ro, 31⟩
  | .adcCalLim_gainLimit => ⟨16, 16, .ro, 1000⟩
  | .adcCalLim_offsetLimit => ⟨0, 16, .ro, 2000⟩
  | .adcSlice_retired => ⟨31, 1, .ro, 0⟩
  | .adcSlice_calibrating => ⟨30, 1, .ro, 1⟩
  | .adcSlice_drift => ⟨29, 1, .w1c, 0⟩
  | .adcSlice_serving => ⟨24, 5, .ro, 31⟩
  | .adcSlice_calCount => ⟨0, 16, .ro, 0⟩
  | .wcCfg_enabled => ⟨31, 1, .ro, 0⟩
  | .wcCfg_hyst => ⟨28, 2, .ro, 0⟩
  | .wcCfg_tripSel => ⟨20, 5, .ro, 0⟩
  | .wcCfg_hi => ⟨10, 10, .ro, 1023⟩
  | .wcCfg_lo => ⟨0, 10, .ro, 0⟩
  | .adcRes_valid => ⟨31, 1, .ro, 0⟩
  | .adcRes_ovr => ⟨30, 1, .ro, 0⟩
  | .adcRes_held => ⟨29, 1, .ro, 0⟩
  | .adcRes_rb => ⟨28, 1, .ro, 0⟩
  | .adcRes_result => ⟨0, 24, .ro, 0⟩
  | .adcSeqStat_running => ⟨31, 1, .ro, 0⟩
  | .adcSeqStat_heldPending => ⟨30, 1, .ro, 0⟩
  | .adcSeqStat_overruns => ⟨0, 16, .rc, 0⟩
  | .adcStat_noRotation => ⟨31, 1, .ro, 0⟩
  | .adcStat_nRetired => ⟨24, 5, .ro, 0⟩
  | .adcStat_calSlice => ⟨0, 5, .ro, 24⟩
  | .wcState_state => ⟨0, 24, .ro, 0⟩
  | .wcUnres_state => ⟨0, 24, .ro, 0⟩
  | .wcLatch_flags => ⟨0, 24, .w1c, 0⟩
  | .wcRbFail_flags => ⟨0, 24, .w1c, 0⟩
  | .metCfg_saveInterval => ⟨0, 6, .ro, 15⟩
  | .metStat_ewArmed => ⟨31, 1, .ro, 0⟩
  | .metStat_saveRefused => ⟨30, 1, .w1c, 0⟩
  | .metStat_classLost => ⟨29, 1, .ro, 0⟩
  | .metStat_finalWritten => ⟨28, 1, .ro, 0⟩
  | .metStat_refusals => ⟨16, 8, .rc, 0⟩
  | .metStat_saves => ⟨0, 16, .ro, 0⟩
  | .mptCfg_enabled => ⟨31, 1, .ro, 0⟩
  | .mptCfg_reverse => ⟨30, 1, .ro, 0⟩
  | .mptCfg_fNom => ⟨29, 1, .ro, 0⟩
  | .mptCfg_seq => ⟨24, 2, .ro, 0⟩
  | .mptCfg_nW => ⟨0, 16, .ro, 400⟩
  | .mptSmax_sMax => ⟨0, 24, .ro, 0⟩
  | .mptStat_ready => ⟨31, 1, .ro, 0⟩
  | .mptStat_unmeasured => ⟨30, 1, .w1c, 0⟩
  | .mptStat_totalsRestored => ⟨29, 1, .ro, 0⟩
  | .mptStat_gapPending => ⟨28, 1, .ro, 0⟩
  | .mptStat_unmeasuredMs => ⟨0, 24, .ro, 0⟩
  | .mptFreq_valid => ⟨31, 1, .ro, 0⟩
  | .mptFreq_freq => ⟨0, 16, .ro, 0⟩
  | .mptStaleA_net => ⟨28, 4, .w1c, 0⟩
  | .mptStaleA_stale => ⟨0, 28, .w1c, 0⟩
  | .mptStaleB_stale => ⟨0, 28, .w1c, 0⟩
  | .mptSrc_used => ⟨31, 1, .ro, 0⟩
  | .mptSrc_vSrc => ⟨16, 8, .ro, 0⟩
  | .mptSrc_iSrc => ⟨0, 8, .ro, 0⟩
  | .mptVgain_gain => ⟨0, 32, .ro, 0⟩
  | .mptIgain_gain => ⟨0, 32, .ro, 0⟩
  | .mptIdelay_iDelay => ⟨0, 16, .ro, 0⟩
  | .mptDeltaLo_energy => ⟨0, 32, .rs, 0⟩
  | .mptDeltaHi_energy => ⟨0, 32, .rs, 0⟩
  | .mptTotalLo_energy => ⟨0, 32, .ro, 0⟩
  | .mptTotalHi_energy => ⟨0, 32, .ro, 0⟩
  | .mptNetLo_energy => ⟨0, 32, .ro, 0⟩
  | .mptNetHi_energy => ⟨0, 32, .ro, 0⟩
  | .gdCfg_enabled => ⟨31, 1, .ro, 0⟩
  | .gdCfg_cpEnable => ⟨30, 1, .ro, 0⟩
  | .gdCfg_pair => ⟨29, 1, .ro, 0⟩
  | .gdCfg_src => ⟨27, 2, .ro, 0⟩
  | .gdCfg_channel => ⟨19, 5, .ro, 0⟩
  | .gdCfg_drvUvlo => ⟨14, 2, .ro, 1⟩
  | .gdCfg_negUvlo => ⟨12, 2, .ro, 1⟩
  | .gdCfg_softOff => ⟨8, 4, .ro, 5⟩
  | .gdDidt_blank => ⟨26, 6, .ro, 8⟩
  | .gdDidt_hiThr => ⟨16, 10, .ro, 300⟩
  | .gdDidt_loThr => ⟨0, 10, .ro, 100⟩
  | .gdStat_on => ⟨31, 1, .ro, 0⟩
  | .gdStat_disabled => ⟨30, 1, .ro, 1⟩
  | .gdStat_uvloPos => ⟨29, 1, .ro, 0⟩
  | .gdStat_uvloNeg => ⟨28, 1, .ro, 0⟩
  | .gdStat_shortLatched => ⟨27, 1, .ro, 0⟩
  | .gdStat_interlock => ⟨26, 1, .w1c, 0⟩
  | .gdStat_cut => ⟨25, 1, .ro, 0⟩
  | .gdStat_staticOn => ⟨24, 1, .ro, 0⟩
  | .gdStat_uvloCount => ⟨8, 8, .rc, 0⟩
  | .gdStat_shortCount => ⟨0, 8, .rc, 0⟩
  | .gdCount_lateStamps => ⟨8, 8, .rc, 0⟩
  | .gdCount_cmdIgnored => ⟨0, 8, .rc, 0⟩
  | .lpCfg_enabled => ⟨31, 1, .ro, 0⟩
  | .lpCfg_invert => ⟨30, 1, .ro, 0⟩
  | .lpCfg_safe => ⟨28, 2, .ro, 0⟩
  | .lpCfg_drive => ⟨26, 2, .ro, 1⟩
  | .tripCfg_enabled => ⟨31, 1, .ro, 0⟩
  | .tripCfg_polarity => ⟨30, 1, .ro, 1⟩
  | .tripCfg_unblanked => ⟨29, 1, .ro, 0⟩
  | .tripCfg_filter => ⟨26, 3, .ro, 1⟩
  | .tripCfg_blank => ⟨20, 6, .ro, 8⟩
  | .tripStat_asserted => ⟨16, 16, .ro, 0⟩
  | .tripStat_masked => ⟨0, 16, .w1c, 0⟩
  | .lpStat_atSafe => ⟨0, 32, .ro, 4294967295⟩
  | .fcStat_reaction => ⟨31, 1, .ro, 0⟩
  | .fcStat_degradePending => ⟨30, 1, .w1c, 0⟩
  | .fcStat_notePending => ⟨29, 1, .w1c, 0⟩
  | .fcStat_aliveAFrozen => ⟨28, 1, .ro, 1⟩
  | .fcStat_aliveBFrozen => ⟨27, 1, .ro, 0⟩
  | .fcStat_kickErr => ⟨26, 1, .w1c, 0⟩
  | .fcStat_merged => ⟨8, 8, .rc, 0⟩
  | .fcStat_escalations => ⟨0, 8, .rc, 0⟩
  | .fcAlive_fAlive => ⟨0, 7, .ro, 10⟩
  | .fcKick_key => ⟨0, 8, .wo, 0⟩
  | .fsSticky_bits => ⟨0, 32, .w1c, 0⟩
  | .fsEsc_bits => ⟨0, 32, .w1c, 0⟩
  | .fsCfg_class => ⟨30, 2, .ro, 0⟩
  | .fsCfg_n => ⟨20, 8, .ro, 0⟩
  | .fsCfg_w => ⟨0, 20, .ro, 0⟩
  | .fsCount_winCount => ⟨24, 8, .ro, 0⟩
  | .fsCount_winOpen => ⟨23, 1, .ro, 0⟩
  | .fsCount_events => ⟨0, 16, .rc, 0⟩
  | .fcOrigin_source => ⟨0, 16, .ro, 0⟩
  | .sprStat_aDemand => ⟨31, 1, .ro, 0⟩
  | .sprStat_bDemand => ⟨30, 1, .ro, 0⟩
  | .sprStat_discrepancy => ⟨29, 1, .ro, 0⟩
  | .sprStat_discFault => ⟨28, 1, .w1c, 0⟩
  | .sprStat_stDemand => ⟨27, 1, .ro, 0⟩
  | .sprStat_rstSeen => ⟨26, 1, .ro, 0⟩
  | .sprStat_demands => ⟨8, 8, .rc, 0⟩
  | .sprStat_discCount => ⟨0, 8, .rc, 0⟩
  | .stCfg_enabled => ⟨31, 1, .ro, 0⟩
  | .stCfg_pair => ⟨30, 1, .ro, 0⟩
  | .stCfg_connId => ⟨0, 16, .ro, 0⟩
  | .stTime_tWatch => ⟨16, 16, .ro, 30⟩
  | .stTime_tTel => ⟨0, 16, .ro, 10⟩
  | .stStat_supervising => ⟨31, 1, .ro, 0⟩
  | .stStat_permitted => ⟨30, 1, .ro, 0⟩
  | .stStat_lastFail => ⟨27, 3, .ro, 0⟩
  | .stSeq_seq => ⟨0, 32, .ro, 0⟩
  | .stCount_accepted => ⟨16, 16, .rc, 0⟩
  | .stCount_stale => ⟨0, 16, .rc, 0⟩
  | .shroudStat_bw => ⟨28, 4, .ro, 15⟩
  | .shroudStat_drvDisable => ⟨27, 1, .ro, 1⟩
  | .shroudStat_lockout => ⟨26, 1, .ro, 0⟩
  | .shroudStat_mastConsent => ⟨25, 1, .ro, 0⟩
  | .shroudStat_shroudConsent => ⟨24, 1, .ro, 0⟩
  | .shroudStat_sprA => ⟨23, 1, .ro, 0⟩
  | .shroudStat_sprB => ⟨22, 1, .ro, 0⟩
  | .shroudStat_rstOk => ⟨21, 1, .ro, 0⟩
  | .shroudStat_withheld => ⟨8, 8, .ro, 0⟩
  | .shroudStat_holdCause => ⟨0, 8, .ro, 0⟩
  | .halCfg_enabled => ⟨31, 1, .ro, 0⟩
  | .halCfg_dualSend => ⟨30, 1, .ro, 0⟩
  | .halCfg_member => ⟨29, 1, .ro, 0⟩
  | .halCfg_rank => ⟨28, 1, .ro, 0⟩
  | .halCfg_holdTime => ⟨16, 12, .ro, 60⟩
  | .halCfg_dMax => ⟨8, 8, .ro, 20⟩
  | .halCfg_divLimit => ⟨0, 8, .ro, 64⟩
  | .halCopyA_p1 => ⟨16, 13, .ro, 0⟩
  | .halCopyA_p2 => ⟨0, 13, .ro, 0⟩
  | .halCopyB_singleOk => ⟨31, 1, .ro, 0⟩
  | .halCopyB_p3 => ⟨0, 13, .ro, 0⟩
  | .halStat_partnerSeen => ⟨31, 1, .ro, 0⟩
  | .halStat_accepted => ⟨30, 1, .ro, 0⟩
  | .halStat_idRefused => ⟨29, 1, .ro, 0⟩
  | .halStat_inStep => ⟨28, 1, .ro, 0⟩
  | .halStat_sending => ⟨27, 1, .ro, 0⟩
  | .halStat_partnerReact => ⟨26, 1, .ro, 0⟩
  | .halStat_partnerBlock => ⟨25, 1, .ro, 0⟩
  | .halStat_partnerHealthy => ⟨24, 1, .ro, 0⟩
  | .halStat_partnerMode => ⟨21, 3, .ro, 0⟩
  | .halStat_partnerTakeover => ⟨20, 1, .ro, 0⟩
  | .halStat_returnPending => ⟨19, 1, .ro, 0⟩
  | .halStat_aligned => ⟨18, 1, .ro, 0⟩
  | .halStat_lanesReady => ⟨16, 2, .ro, 0⟩
  | .halStat_holdLeft => ⟨0, 16, .ro, 0⟩
  | .halAlign_valid => ⟨31, 1, .ro, 0⟩
  | .halAlign_drift => ⟨30, 1, .w1c, 0⟩
  | .halAlign_phi => ⟨27, 3, .ro, 0⟩
  | .halAlign_offset => ⟨0, 16, .ro, 0⟩
  | .halExec_own => ⟨16, 7, .ro, 0⟩
  | .halExec_partner => ⟨0, 7, .ro, 0⟩
  | .halCount_takeovers => ⟨24, 8, .rc, 0⟩
  | .halCount_yields => ⟨16, 8, .rc, 0⟩
  | .halCount_copyFails => ⟨8, 8, .rc, 0⟩
  | .halCount_liveRefused => ⟨0, 8, .rc, 0⟩
  | .halPeerHash_digest => ⟨0, 32, .ro, 0⟩
  | .netCfg_saPort => ⟨16, 16, .ro, 5219⟩
  | .netCfg_portMode => ⟨8, 8, .ro, 0⟩
  | .netCfg_saPair => ⟨4, 1, .ro, 1⟩
  | .netCfg_stationMode => ⟨2, 2, .ro, 0⟩
  | .netCfg_processMode => ⟨0, 2, .ro, 0⟩
  | .netMacLo_mac => ⟨0, 32, .ro, 0⟩
  | .netMacHi_mac => ⟨0, 16, .ro, 0⟩
  | .pStat_ready => ⟨31, 1, .ro, 0⟩
  | .pStat_linkUp => ⟨30, 1, .ro, 0⟩
  | .pStat_joined => ⟨29, 1, .ro, 0⟩
  | .pStat_lanFault => ⟨28, 1, .w1c, 0⟩
  | .pStat_linkLosses => ⟨8, 8, .rc, 0⟩
  | .pCount_rxDrop => ⟨16, 16, .rc, 0⟩
  | .pCount_tripRx => ⟨0, 16, .rc, 0⟩
  | .pCorr_ingress => ⟨16, 16, .ro, 144⟩
  | .pCorr_egress => ⟨0, 16, .ro, 100⟩
  | .ptpCfg_enabled => ⟨31, 1, .ro, 0⟩
  | .ptpCfg_slaveOnly => ⟨30, 1, .ro, 1⟩
  | .ptpCfg_pair => ⟨29, 1, .ro, 0⟩
  | .ptpCfg_domain => ⟨20, 8, .ro, 0⟩
  | .ptpCfg_priority1 => ⟨12, 8, .ro, 128⟩
  | .ptpCfg_priority2 => ⟨4, 8, .ro, 128⟩
  | .ptpStat_locked => ⟨31, 1, .ro, 0⟩
  | .ptpStat_master => ⟨30, 1, .ro, 0⟩
  | .ptpStat_timeStale => ⟨29, 1, .w1c, 0⟩
  | .ptpStat_twoStepSeen => ⟨28, 1, .w1c, 0⟩
  | .ptpStat_slavePort => ⟨27, 1, .ro, 0⟩
  | .ptpStat_steps => ⟨8, 8, .rc, 0⟩
  | .ptpStat_lockLosses => ⟨0, 8, .rc, 0⟩
  | .ptpOffset_offset => ⟨0, 32, .ro, 0⟩
  | .ptpTimeLo_time => ⟨0, 32, .ro, 0⟩
  | .ptpTimeHi_time => ⟨0, 32, .ro, 0⟩
  | .poCfg_enabled => ⟨31, 1, .ro, 0⟩
  | .poCfg_mode => ⟨29, 2, .ro, 0⟩
  | .poCfg_polarity => ⟨28, 1, .ro, 1⟩
  | .poCfg_gateLock => ⟨27, 1, .ro, 0⟩
  | .poCfg_width => ⟨0, 24, .ro, 10⟩
  | .poRate_rate => ⟨0, 20, .ro, 1⟩
  | .poArmSec_sec => ⟨0, 32, .rw, 0⟩
  | .poArmNs_armed => ⟨31, 1, .ro, 0⟩
  | .poArmNs_missed => ⟨30, 1, .w1c, 0⟩
  | .poArmNs_ns => ⟨0, 30, .rw, 0⟩
  | .pubStat_svPublishing => ⟨28, 4, .ro, 0⟩
  | .pubStat_goPublishing => ⟨12, 16, .ro, 0⟩
  | .pubStat_svInvalid => ⟨0, 8, .rc, 0⟩
  | .saStat_lastStatus => ⟨24, 8, .ro, 0⟩
  | .saStat_lastKey => ⟨16, 8, .ro, 0⟩
  | .saStat_refused => ⟨0, 16, .rc, 0⟩
  | .saStart_start => ⟨0, 32, .ro, 0⟩
  | .thStat_shutdownPending => ⟨31, 1, .ro, 0⟩
  | .thStat_recordPending => ⟨30, 1, .ro, 0⟩
  | .thStat_rearmOk => ⟨29, 1, .ro, 0⟩
  | .thStat_recordWritten => ⟨28, 1, .ro, 0⟩
  | .thStat_shutSensor => ⟨16, 9, .ro, 511⟩
  | .thStat_brokenCount => ⟨8, 8, .rc, 0⟩
  | .thStat_rearmLeft => ⟨0, 8, .ro, 60⟩
  | .grStat_reefForced => ⟨31, 1, .ro, 0⟩
  | .grStat_reefLevel => ⟨24, 2, .ro, 0⟩
  | .grStat_headroom => ⟨0, 16, .ro, 0⟩
  | .grPower_base => ⟨16, 16, .ro, 0⟩
  | .grPower_granted => ⟨0, 16, .ro, 0⟩
  | .grCfg_pLim => ⟨16, 9, .ro, 310⟩
  | .grCfg_gdLoss => ⟨0, 12, .ro, 2000⟩
  | .grReef_reef1 => ⟨24, 8, .ro, 15⟩
  | .grReef_reef2 => ⟨16, 8, .ro, 10⟩
  | .grReef_reef3 => ⟨8, 8, .ro, 5⟩
  | .grReef_hyst => ⟨4, 4, .ro, 3⟩
  | .grReef_hold => ⟨0, 4, .ro, 3⟩
  | .grCount_grants => ⟨16, 16, .rc, 0⟩
  | .grCount_starved => ⟨8, 8, .rc, 0⟩
  | .grCount_setAside => ⟨0, 8, .rc, 0⟩
  | .huCfg_huSensor => ⟨16, 5, .ro, 20⟩
  | .huCfg_huLow => ⟨8, 8, .ro, 231⟩
  | .huCfg_huHigh => ⟨0, 8, .ro, 70⟩
  | .huStat_charge => ⟨30, 2, .ro, 0⟩
  | .huStat_ready => ⟨29, 1, .ro, 0⟩
  | .huStat_holdMv => ⟨0, 16, .ro, 0⟩
  | .flTemp_inRange => ⟨31, 1, .ro, 0⟩
  | .flTemp_flashSensor => ⟨16, 5, .ro, 19⟩
  | .flTemp_refused => ⟨0, 8, .rc, 0⟩
  | .grClass_floor => ⟨24, 8, .ro, 0⟩
  | .grClass_maxWait => ⟨0, 20, .ro, 0⟩
  | .thLimA_tMax => ⟨16, 16, .ro, 1680⟩
  | .thLimA_tShut => ⟨0, 16, .ro, 1840⟩
  | .thLimB_tRearm => ⟨16, 16, .ro, 1520⟩
  | .thLimB_tMin => ⟨0, 16, .ro, 64896⟩
  | .thLimC_rateLimit => ⟨16, 16, .ro, 200⟩
  | .thLimC_rateWindow => ⟨8, 8, .ro, 10⟩
  | .thLimC_inHeadroom => ⟨0, 1, .ro, 1⟩
  | .thHood_devLimit => ⟨0, 16, .ro, 160⟩
  | .thSensor_enabled => ⟨31, 1, .ro, 0⟩
  | .thSensor_limSet => ⟨24, 4, .ro, 0⟩
  | .thSensor_hood => ⟨16, 6, .ro, 63⟩
  | .thRead_valid => ⟨31, 1, .ro, 0⟩
  | .thRead_broken => ⟨30, 1, .ro, 0⟩
  | .thRead_above => ⟨29, 1, .ro, 0⟩
  | .thRead_rate => ⟨28, 1, .ro, 0⟩
  | .thRead_brokenReason => ⟨26, 2, .ro, 0⟩
  | .thRead_reading => ⟨0, 16, .ro, 0⟩
  | .tsCfg_kind => ⟨30, 2, .ro, 0⟩
  | .tsCfg_param => ⟨0, 16, .ro, 16548⟩
  | .sltCfg_enabled => ⟨31, 1, .ro, 1⟩
  | .sltCfg_cyclePeriod => ⟨16, 8, .ro, 15⟩
  | .sltCfg_secInterval => ⟨0, 16, .ro, 60⟩
  | .sltStat_running => ⟨31, 1, .ro, 0⟩
  | .sltStat_cycleLate => ⟨30, 1, .w1c, 0⟩
  | .sltStat_uncovered => ⟨29, 1, .ro, 0⟩
  | .sltStat_readbackOff => ⟨28, 1, .ro, 0⟩
  | .sltStat_active => ⟨16, 2, .ro, 0⟩
  | .sltStat_cycles => ⟨0, 16, .ro, 0⟩
  | .sltCycle_last => ⟨16, 16, .ro, 0⟩
  | .sltCycle_worst => ⟨0, 16, .rc, 0⟩
  | .sltCount_failures => ⟨24, 8, .rc, 0⟩
  | .sltCount_transients => ⟨16, 8, .rc, 0⟩
  | .sltCount_waits => ⟨8, 8, .rc, 0⟩
  | .sltCount_skipped => ⟨0, 8, .rc, 0⟩
  | .sltLast_kind => ⟨24, 8, .ro, 0⟩
  | .sltLast_index => ⟨8, 8, .ro, 0⟩
  | .sltLast_result => ⟨0, 8, .ro, 0⟩
  | .sltRetEe_retired => ⟨0, 32, .ro, 0⟩
  | .sltRetPcs_retired => ⟨0, 32, .ro, 0⟩
  | .sltRetMisc_eeL => ⟨31, 1, .ro, 0⟩
  | .sltRetMisc_eeS => ⟨29, 2, .ro, 0⟩
  | .sltRetMisc_pcsS => ⟨27, 2, .ro, 0⟩
  | .sltRetMisc_bw => ⟨23, 4, .ro, 0⟩
  | .sltRetMisc_gdMon => ⟨15, 8, .ro, 0⟩
  | .sltRetMisc_security => ⟨14, 1, .ro, 0⟩
  | .nvDev_dev0 => ⟨31, 1, .ro, 0⟩
  | .nvDev_dev1 => ⟨30, 1, .ro, 0⟩
  | .nvDev_profileOk => ⟨29, 1, .ro, 0⟩
  | .nvDev_blocks => ⟨0, 13, .ro, 0⟩
  | .nvStat_anchorValid => ⟨31, 1, .ro, 0⟩
  | .nvStat_firstStart => ⟨30, 1, .ro, 0⟩
  | .nvStat_degraded => ⟨29, 1, .ro, 0⟩
  | .nvStat_short => ⟨28, 1, .ro, 0⟩
  | .nvStat_busy => ⟨27, 1, .ro, 0⟩
  | .nvEcc_corrected => ⟨16, 16, .rc, 0⟩
  | .nvEcc_uncorrectable => ⟨8, 8, .rc, 0⟩
  | .nvEcc_maxBits => ⟨0, 5, .rc, 0⟩
  | .nvBlocks_eraseMax => ⟨16, 16, .ro, 0⟩
  | .nvBlocks_grown => ⟨8, 8, .ro, 0⟩
  | .nvBlocks_factory => ⟨0, 8, .ro, 0⟩
  | .nvScrub_nextCopy => ⟨30, 2, .ro, 0⟩
  | .nvScrub_earlyDue => ⟨29, 1, .ro, 0⟩
  | .nvScrub_lastFail => ⟨28, 1, .w1c, 0⟩
  | .nvScrub_daysLeft => ⟨0, 16, .ro, 30⟩
  | .nvLedger_erasedPages => ⟨16, 16, .ro, 0⟩
  | .nvLedger_carryForwards => ⟨0, 16, .rc, 0⟩
  | .nvCfg_refreshBits => ⟨0, 4, .ro, 8⟩
  | .drCfg_enabled => ⟨31, 1, .ro, 0⟩
  | .drCfg_trigClass => ⟨29, 2, .ro, 1⟩
  | .drCfg_trigHold => ⟨28, 1, .ro, 1⟩
  | .drCfg_channels => ⟨0, 9, .ro, 1⟩
  | .drSpan_postMs => ⟨16, 16, .ro, 500⟩
  | .drSpan_preMs => ⟨0, 16, .ro, 500⟩
  | .drTrigWc_mask => ⟨0, 24, .ro, 0⟩
  | .drTrigTrip_mask => ⟨0, 16, .ro, 0⟩
  | .drStat_state => ⟨30, 2, .ro, 0⟩
  | .drStat_locked => ⟨29, 1, .ro, 0⟩
  | .drStat_flushing => ⟨28, 1, .ro, 0⟩
  | .drStat_stored => ⟨0, 16, .ro, 0⟩
  | .drCount_lost => ⟨16, 16, .rc, 0⟩
  | .drCount_joined => ⟨8, 8, .rc, 0⟩
  | .drCount_truncated => ⟨0, 8, .rc, 0⟩
  | .drLast_id => ⟨0, 32, .ro, 0⟩
  | .drChan_addr => ⟨0, 32, .ro, 272629760⟩
  | .secStat_ownerFused => ⟨31, 1, .ro, 0⟩
  | .secStat_slot1InForce => ⟨30, 1, .ro, 0⟩
  | .secStat_idReady => ⟨29, 1, .ro, 0⟩
  | .secStat_vaultClear => ⟨28, 1, .ro, 1⟩
  | .secStat_retired => ⟨27, 1, .ro, 0⟩
  | .secStat_sigFails => ⟨8, 8, .rc, 0⟩
  | .secStat_attests => ⟨0, 8, .rc, 0⟩
  | .bootStat_copy => ⟨30, 2, .ro, 3⟩
  | .bootStat_keyIndex => ⟨29, 1, .ro, 0⟩
  | .bootStat_statusB => ⟨4, 4, .ro, 0⟩
  | .bootStat_statusA => ⟨0, 4, .ro, 0⟩
  | .fwVersion_version => ⟨0, 32, .ro, 0⟩
  | .dbgStat_unlocked => ⟨31, 1, .ro, 0⟩
  | .dbgStat_challengeOpen => ⟨30, 1, .ro, 0⟩
  | .dbgStat_barred => ⟨29, 1, .ro, 0⟩
  | .dbgStat_windowLeft => ⟨8, 8, .ro, 0⟩
  | .dbgStat_failCount => ⟨0, 2, .ro, 0⟩
  | .fwDigest_bytes => ⟨0, 32, .ro, 0⟩
  | .ownerHash_bytes => ⟨0, 32, .ro, 0⟩
  | .idSerialLo_serial => ⟨0, 32, .ro, 0⟩
  | .idSerialHi_serial => ⟨0, 32, .ro, 0⟩
  | .idPubkey_bytes => ⟨0, 32, .ro, 0⟩
  | .idEndorse_bytes => ⟨0, 32, .ro, 0⟩

/-- The value of field `f` of instance `i` after a cold start: the maps' column, and the values the maps give in words.
What pins, fuses and sensors decide is 0 here (DESIGN CHOICE, log entry 3); the SPR inputs as the Shroud holds them read as demanding
(R425: an undriven input demands), and pair 0, which has received no frame, holds no demand yet. -/
def Fld.coldAt (f : Fld) (i : Nat) : Nat :=
  match f with
  | .resetCause_coldPowerOn => 1
  | .pllPlan_defined => if i = 0 then 1 else 0
  | .laneCfg_code => if i = 96 ∨ i = 97 then 1 else 0
  | .laneCfg_rate => if i = 96 ∨ i = 97 then 2 else 1
  | .ceCfg_runsOn => i % 32
  | .fsCfg_class => (coldSource i).1
  | .fsCfg_n => (coldSource i).2.1
  | .fsCfg_w => (coldSource i).2.2
  | .fcOrigin_source => coldOriginSource i
  | .grStat_headroom => 2032
  | .grClass_floor => if i = 2 then 8 else if i = 3 then 12 else 0
  | .grClass_maxWait => if i = 0 then 5 else if i = 1 then 100 else if i = 2 then 10000 else 60000
  | .thSensor_enabled => if 16 ≤ i ∧ i ≤ 21 then 1 else 0
  | .shroudStat_sprA => 1
  | .shroudStat_sprB => 1
  | .shroudStat_withheld => 1
  | f => f.spec.cold

/-- One register of a map: its first address, how many instances it has in two nested arrays, and their strides. -/
structure RegSpec where
  base : Nat
  count : Nat
  stride : Nat
  inner : Nat
  innerStride : Nat
  fields : List Fld
  deriving DecidableEq, Repr

/-- Every register of the maps. -/
inductive Reg where
  -- R39
  | periodCfg | periodIndex | periodStat | budgetMargin | sramCorrCount | sramUncorrAddr | sramScrubStat | idbStat
  -- R72
  | sysIdent | modeStat | modeReq | resetCause | delibStat | readyLaneA | readyLaneB | readyLaneC
  | readyEdgeA | readyEdgeB | readyEdgeC | readyUnit | readyIo
  -- R102
  | imageStat | imageSeqA | imageSeqB | imageDigest | liveStat | liveWord
  -- R129
  | pllStat | pllPlanReq | pllPlan | pllBandTable | pllBandStore | clkoCfg | tbCountLo | tbCountHi
  | tbBoundaryLo | tbBoundaryHi | tbStat
  -- R165
  | laneCfg | laneAsym | laneStat | laneLatency | laneRtt | laneErrs | laneCtrl | laneQuality
  -- R198
  | linkBale | linkCell | linkTb
  -- R231
  | eeCommit | eeStat | eePscArm | eeTripMap | eeTripStat | eeCfg | eeLCfg | eeRefresh
  | eeCarryLim | eeEstat | eeCounts | eeHb | eeCarry | eeLMode | eeLHb | eeLCarry
  -- R263
  | armCfg | armScale | armVref | armBal | armLimit | armPc | armStat | armCount
  | armTb | cellCfg | cellStat
  -- R303
  | ceStat | cePower | ceCfg | ceCycles | ceEstat | ceLoopStat | ceLoopOut | ceGroupStat
  -- R325
  | svStat | svCount | goStat | goCount
  -- R354
  | adcSeqCfg | adcSeqTrig | adcEntry | adcRb | adcCalLim | adcSlice | wcCfg | adcRes
  | adcSeqStat | adcStat | wcState | wcUnres | wcLatch | wcRbFail
  -- R379
  | metCfg | metStat | mptCfg | mptSmax | mptStat | mptFreq | mptStaleA | mptStaleB
  | mptSrc | mptVgain | mptIgain | mptIdelay | mptDeltaLo | mptDeltaHi | mptTotalLo | mptTotalHi
  | mptNetLo | mptNetHi
  -- R400
  | gdCfg | gdDidt | gdStat | gdCount | lpCfg | tripCfg | tripStat | lpStat
  -- R422
  | fcStat | fcAlive | fcKick | fsSticky | fsEsc | fsCfg | fsCount | fcOrigin
  -- R445
  | sprStat | stCfg | stTime | stStat | stSeq | stCount | shroudStat
  -- R480
  | halCfg | halCopyA | halCopyB | halStat | halAlign | halExec | halCount | halPeerHash
  -- R514
  | netCfg | netMacLo | netMacHi | pStat | pCount | pCorr | ptpCfg | ptpStat
  | ptpOffset | ptpTimeLo | ptpTimeHi | poCfg | poRate | poArmSec | poArmNs | pubStat
  | saStat | saStart
  -- R539
  | thStat | grStat | grPower | grCfg | grReef | grCount | huCfg | huStat
  | flTemp | grClass | thLimA | thLimB | thLimC | thHood | thSensor | thRead
  | tsCfg
  -- R561
  | sltCfg | sltStat | sltCycle | sltCount | sltLast | sltRetEe | sltRetPcs | sltRetMisc
  -- R589
  | nvDev | nvStat | nvEcc | nvBlocks | nvScrub | nvLedger | nvCfg | drCfg
  | drSpan | drTrigWc | drTrigTrip | drStat | drCount | drLast | drChan
  -- R608
  | secStat | bootStat | fwVersion | dbgStat | fwDigest | ownerHash | idSerialLo | idSerialHi
  | idPubkey | idEndorse
  deriving DecidableEq, Repr

/-- Address, instances and fields of each register. -/
def Reg.spec : Reg → RegSpec
  -- R39
  | .periodCfg => ⟨0x40000100, 1, 0x0, 1, 0, [.periodCfg_sheafRate, .periodCfg_lead, .periodCfg_tCtl]⟩
  | .periodIndex => ⟨0x40000104, 1, 0x0, 1, 0, [.periodIndex_index]⟩
  | .periodStat => ⟨0x40000108, 1, 0x0, 1, 0, [.periodStat_running, .periodStat_halyardOverrun, .periodStat_baleLate, .periodStat_sheafLate, .periodStat_edgeOverrun, .periodStat_sortOverrun, .periodStat_computeOverrun, .periodStat_inputIncomplete]⟩
  | .budgetMargin => ⟨0x4000010c, 1, 0x0, 1, 0, [.budgetMargin_restart, .budgetMargin_worstCe, .budgetMargin_minMargin]⟩
  | .sramCorrCount => ⟨0x40000110, 1, 0x0, 1, 0, [.sramCorrCount_count]⟩
  | .sramUncorrAddr => ⟨0x40000114, 1, 0x0, 1, 0, [.sramUncorrAddr_addr, .sramUncorrAddr_valid]⟩
  | .sramScrubStat => ⟨0x40000118, 1, 0x0, 1, 0, [.sramScrubStat_enabled, .sramScrubStat_passes]⟩
  | .idbStat => ⟨0x4000011c, 1, 0x0, 1, 0, [.idbStat_linkUp, .idbStat_lostAccesses, .idbStat_retries]⟩
  -- R72
  | .sysIdent => ⟨0x40000000, 1, 0x0, 1, 0, [.sysIdent_partNumber, .sysIdent_siliconRev]⟩
  | .modeStat => ⟨0x40000004, 1, 0x0, 1, 0, [.modeStat_quiescent, .modeStat_holdUp, .modeStat_lockoutPersisted, .modeStat_holdCause, .modeStat_mode]⟩
  | .modeReq => ⟨0x40000008, 1, 0x0, 1, 0, [.modeReq_pending, .modeReq_request]⟩
  | .resetCause => ⟨0x4000000c, 1, 0x0, 1, 0, [.resetCause_deliberate, .resetCause_lane, .resetCause_warmRequest, .resetCause_warmLockstep, .resetCause_warmWatchdog, .resetCause_coldPin, .resetCause_coldSupply, .resetCause_coldPowerOn]⟩
  | .delibStat => ⟨0x40000010, 1, 0x0, 1, 0, [.delibStat_windowOpen, .delibStat_windowLeft, .delibStat_lastRefusal]⟩
  | .readyLaneA => ⟨0x40000020, 1, 0x0, 1, 0, [.readyLaneA_ready]⟩
  | .readyLaneB => ⟨0x40000024, 1, 0x0, 1, 0, [.readyLaneB_ready]⟩
  | .readyLaneC => ⟨0x40000028, 1, 0x0, 1, 0, [.readyLaneC_ready]⟩
  | .readyEdgeA => ⟨0x4000002c, 1, 0x0, 1, 0, [.readyEdgeA_ready]⟩
  | .readyEdgeB => ⟨0x40000030, 1, 0x0, 1, 0, [.readyEdgeB_ready]⟩
  | .readyEdgeC => ⟨0x40000034, 1, 0x0, 1, 0, [.readyEdgeC_ready]⟩
  | .readyUnit => ⟨0x40000038, 1, 0x0, 1, 0, [.readyUnit_ax, .readyUnit_eeL, .readyUnit_eeS, .readyUnit_ce]⟩
  | .readyIo => ⟨0x4000003c, 1, 0x0, 1, 0, [.readyIo_meterLv, .readyIo_meterMv, .readyIo_port, .readyIo_slice]⟩
  -- R102
  | .imageStat => ⟨0x40000200, 1, 0x0, 1, 0, [.imageStat_appliedValid, .imageStat_seqTie, .imageStat_fallback, .imageStat_appliedCopy, .imageStat_statusB, .imageStat_statusA]⟩
  | .imageSeqA => ⟨0x40000204, 1, 0x0, 1, 0, [.imageSeqA_sequence]⟩
  | .imageSeqB => ⟨0x40000208, 1, 0x0, 1, 0, [.imageSeqB_sequence]⟩
  | .imageDigest => ⟨0x40000210, 12, 0x4, 1, 0, [.imageDigest_digest]⟩
  | .liveStat => ⟨0x40000240, 1, 0x0, 1, 0, [.liveStat_lastRefusal, .liveStat_lastIndex, .liveStat_refusals]⟩
  | .liveWord => ⟨0x40001000, 256, 0x4, 1, 0, [.liveWord_value]⟩
  -- R129
  | .pllStat => ⟨0x40000300, 1, 0x0, 1, 0, [.pllStat_locked, .pllStat_refPresent, .pllStat_holdover, .pllStat_synthDown, .pllStat_hopPending, .pllStat_lockPath, .pllStat_activePlan, .pllStat_lockLosses, .pllStat_refLosses]⟩
  | .pllPlanReq => ⟨0x40000304, 1, 0x0, 1, 0, [.pllPlanReq_request]⟩
  | .pllPlan => ⟨0x40000310, 4, 0x4, 1, 0, [.pllPlan_defined, .pllPlan_spread, .pllPlan_refFreq, .pllPlan_source]⟩
  | .pllBandTable => ⟨0x40000320, 4, 0x4, 1, 0, [.pllBandTable_valid, .pllBandTable_band]⟩
  | .pllBandStore => ⟨0x40000330, 4, 0x4, 1, 0, [.pllBandStore_valid, .pllBandStore_temperature, .pllBandStore_band]⟩
  | .clkoCfg => ⟨0x40000340, 4, 0x4, 1, 0, [.clkoCfg_divider, .clkoCfg_source, .clkoCfg_level, .clkoCfg_format]⟩
  | .tbCountLo => ⟨0x40000350, 1, 0x0, 1, 0, [.tbCountLo_count]⟩
  | .tbCountHi => ⟨0x40000354, 1, 0x0, 1, 0, [.tbCountHi_count]⟩
  | .tbBoundaryLo => ⟨0x40000358, 1, 0x0, 1, 0, [.tbBoundaryLo_time]⟩
  | .tbBoundaryHi => ⟨0x4000035c, 1, 0x0, 1, 0, [.tbBoundaryHi_time]⟩
  | .tbStat => ⟨0x40000360, 1, 0x0, 1, 0, [.tbStat_boundaryValid, .tbStat_boundaryStale, .tbStat_countStale]⟩
  -- R165
  | .laneCfg => ⟨0x41000000, 100, 0x1000, 1, 0, [.laneCfg_enabled, .laneCfg_driftLimit, .laneCfg_qualityThreshold, .laneCfg_scanInterval, .laneCfg_qualityMode, .laneCfg_code, .laneCfg_rate]⟩
  | .laneAsym => ⟨0x41000004, 100, 0x1000, 1, 0, [.laneAsym_asym]⟩
  | .laneStat => ⟨0x41000008, 100, 0x1000, 1, 0, [.laneStat_ready, .laneStat_farBlock, .laneStat_farLoopTimed, .laneStat_farRxLocked, .laneStat_txBlock, .laneStat_state, .laneStat_heldReason, .laneStat_lockLosses]⟩
  | .laneLatency => ⟨0x4100000c, 100, 0x1000, 1, 0, [.laneLatency_valid, .laneLatency_latency]⟩
  | .laneRtt => ⟨0x41000010, 100, 0x1000, 1, 0, [.laneRtt_drift, .laneRtt_loopDelay]⟩
  | .laneErrs => ⟨0x41000014, 100, 0x1000, 1, 0, [.laneErrs_stuffViolations, .laneErrs_invalidHeaders]⟩
  | .laneCtrl => ⟨0x41000018, 100, 0x1000, 1, 0, [.laneCtrl_readapt, .laneCtrl_eyeScan, .laneCtrl_reset]⟩
  | .laneQuality => ⟨0x4100001c, 100, 0x1000, 1, 0, [.laneQuality_scanValid, .laneQuality_eyeHeight, .laneQuality_eyeWidth, .laneQuality_fom]⟩
  -- R198
  | .linkBale => ⟨0x41000020, 100, 0x1000, 1, 0, [.linkBale_badBales, .linkBale_lateBales]⟩
  | .linkCell => ⟨0x41000024, 100, 0x1000, 1, 0, [.linkCell_valid, .linkCell_cellState, .linkCell_execMember, .linkCell_repeat, .linkCell_bypassClosed, .linkCell_portValid, .linkCell_capLow, .linkCell_interlock, .linkCell_prechargeActive, .linkCell_echoSeq]⟩
  | .linkTb => ⟨0x41000028, 100, 0x1000, 1, 0, [.linkTb_tbFault, .linkTb_tbError]⟩
  -- R231
  | .eeCommit => ⟨0x42000000, 1, 0x0, 1, 0, [.eeCommit_pending, .eeCommit_commit]⟩
  | .eeStat => ⟨0x42000004, 1, 0x0, 1, 0, [.eeStat_halted, .eeStat_superseded, .eeStat_late]⟩
  | .eePscArm => ⟨0x42000010, 6, 0x4, 1, 0, [.eePscArm_q]⟩
  | .eeTripMap => ⟨0x42000040, 16, 0x4, 1, 0, [.eeTripMap_channels]⟩
  | .eeTripStat => ⟨0x42000080, 1, 0x0, 1, 0, [.eeTripStat_cutting]⟩
  | .eeCfg => ⟨0x42001000, 102, 0x100, 1, 0, [.eeCfg_enabled, .eeCfg_laneSel, .eeCfg_arm, .eeCfg_dabRatio, .eeCfg_hbrMode, .eeCfg_dabMode, .eeCfg_dabOffset]⟩
  | .eeLCfg => ⟨0x42007000, 1, 0x0, 1, 0, [.eeLCfg_enabled, .eeLCfg_rL]⟩
  | .eeRefresh => ⟨0x42001004, 102, 0x100, 1, 0, [.eeRefresh_interval, .eeRefresh_width]⟩
  | .eeCarryLim => ⟨0x42001008, 102, 0x100, 1, 0, [.eeCarryLim_carryLimit]⟩
  | .eeEstat => ⟨0x4200100c, 102, 0x100, 1, 0, [.eeEstat_interlock, .eeEstat_stampsMax, .eeEstat_standFor, .eeEstat_stampsLast]⟩
  | .eeCounts => ⟨0x42001010, 102, 0x100, 1, 0, [.eeCounts_refreshes, .eeCounts_drops]⟩
  | .eeHb => ⟨0x42001020, 102, 0x100, 6, 4, [.eeHb_minPulse, .eeHb_deadTime]⟩
  | .eeCarry => ⟨0x42001040, 102, 0x100, 6, 4, [.eeCarry_clamped, .eeCarry_carry]⟩
  | .eeLMode => ⟨0x42007040, 16, 0x4, 1, 0, [.eeLMode_theta, .eeLMode_mode]⟩
  | .eeLHb => ⟨0x42007080, 16, 0x4, 1, 0, [.eeLHb_minPulse, .eeLHb_deadTime]⟩
  | .eeLCarry => ⟨0x42007100, 32, 0x4, 1, 0, [.eeLCarry_clamped, .eeLCarry_carry]⟩
  -- R263
  | .armCfg => ⟨0x42008000, 6, 0x40, 1, 0, [.armCfg_enabled, .armCfg_method, .armCfg_iSrc, .armCfg_adcEntry, .armCfg_nMin, .armCfg_nAct]⟩
  | .armScale => ⟨0x42008004, 6, 0x40, 1, 0, [.armScale_iArmFs, .armScale_vCapFs]⟩
  | .armVref => ⟨0x42008008, 6, 0x40, 1, 0, [.armVref_armVfs, .armVref_vSecFs]⟩
  | .armBal => ⟨0x4200800c, 6, 0x40, 1, 0, [.armBal_rotationPeriods, .armBal_iDeadband, .armBal_sortBand, .armBal_balGain]⟩
  | .armLimit => ⟨0x42008010, 6, 0x40, 1, 0, [.armLimit_spreadLimit, .armLimit_spareWindow, .armLimit_ovLimit, .armLimit_uvLimit]⟩
  | .armPc => ⟨0x42008014, 6, 0x40, 1, 0, [.armPc_pcPassiveLevel, .armPc_pcActiveLevel, .armPc_lvLevel, .armPc_pcTimeout]⟩
  | .armStat => ⟨0x42008018, 6, 0x40, 1, 0, [.armStat_saturated, .armStat_spread, .armStat_capacity, .armStat_deficit, .armStat_pcTimeout, .armStat_pcPhase, .armStat_nActive, .armStat_nSpare, .armStat_rotPtr]⟩
  | .armCount => ⟨0x4200801c, 6, 0x40, 1, 0, [.armCount_cmdIgnored, .armCount_bypasses, .armCount_insertions, .armCount_saturations]⟩
  | .armTb => ⟨0x42008020, 6, 0x40, 1, 0, [.armTb_tbSpread]⟩
  | .cellCfg => ⟨0x42008200, 96, 0x4, 1, 0, [.cellCfg_initState, .cellCfg_slot]⟩
  | .cellStat => ⟨0x42008400, 96, 0x4, 1, 0, [.cellStat_state, .cellStat_bypassPending, .cellStat_releasePending, .cellStat_lastCause, .cellStat_rank]⟩
  -- R303
  | .ceStat => ⟨0x43000000, 1, 0x0, 1, 0, [.ceStat_noCover, .ceStat_nActive, .ceStat_nSpare, .ceStat_nRetired]⟩
  | .cePower => ⟨0x43000040, 6, 0x4, 1, 0, [.cePower_designated, .cePower_stopping, .cePower_reefLevel, .cePower_engine, .cePower_group, .cePower_ramp]⟩
  | .ceCfg => ⟨0x43001000, 24, 0x400, 1, 0, [.ceCfg_active, .ceCfg_lost, .ceCfg_retired, .ceCfg_runsOn, .ceCfg_loopCount, .ceCfg_progLength]⟩
  | .ceCycles => ⟨0x43001004, 24, 0x400, 1, 0, [.ceCycles_count]⟩
  | .ceEstat => ⟨0x43001008, 24, 0x400, 1, 0, [.ceEstat_accSat, .ceEstat_overrun, .ceEstat_marginLast]⟩
  | .ceLoopStat => ⟨0x43001100, 24, 0x400, 64, 4, [.ceLoopStat_closed, .ceLoopStat_tracking, .ceLoopStat_restart, .ceLoopStat_sat, .ceLoopStat_lim, .ceLoopStat_satCount, .ceLoopStat_limCount]⟩
  | .ceLoopOut => ⟨0x43001200, 24, 0x400, 64, 4, [.ceLoopOut_target, .ceLoopOut_out]⟩
  | .ceGroupStat => ⟨0x43001300, 24, 0x400, 8, 4, [.ceGroupStat_valid, .ceGroupStat_hwWin, .ceGroupStat_winner, .ceGroupStat_output]⟩
  -- R325
  | .svStat => ⟨0x44000000, 16, 0x4, 1, 0, [.svStat_valid, .svStat_questionable, .svStat_simulated, .svStat_sat, .svStat_invalidReason, .svStat_smpCnt]⟩
  | .svCount => ⟨0x44000040, 16, 0x4, 1, 0, [.svCount_missing, .svCount_interpolated, .svCount_late, .svCount_rejected]⟩
  | .goStat => ⟨0x44000100, 64, 0x4, 1, 0, [.goStat_valid, .goStat_trip, .goStat_simulated, .goStat_invalidReason, .goStat_values, .goStat_stNum]⟩
  | .goCount => ⟨0x44000200, 1, 0x0, 1, 0, [.goCount_rejected, .goCount_trips]⟩
  -- R354
  | .adcSeqCfg => ⟨0x50001000, 4, 0x8, 1, 0, [.adcSeqCfg_enabled, .adcSeqCfg_source, .adcSeqCfg_first, .adcSeqCfg_last, .adcSeqCfg_delay]⟩
  | .adcSeqTrig => ⟨0x50001004, 4, 0x8, 1, 0, [.adcSeqTrig_level, .adcSeqTrig_channel, .adcSeqTrig_div]⟩
  | .adcEntry => ⟨0x50001040, 32, 0x4, 1, 0, [.adcEntry_enabled, .adcEntry_channel, .adcEntry_order, .adcEntry_dec]⟩
  | .adcRb => ⟨0x500010c0, 1, 0x0, 1, 0, [.adcRb_enabled, .adcRb_entry]⟩
  | .adcCalLim => ⟨0x500010c4, 1, 0x0, 1, 0, [.adcCalLim_gainLimit, .adcCalLim_offsetLimit]⟩
  | .adcSlice => ⟨0x50001100, 25, 0x4, 1, 0, [.adcSlice_retired, .adcSlice_calibrating, .adcSlice_drift, .adcSlice_serving, .adcSlice_calCount]⟩
  | .wcCfg => ⟨0x50002000, 24, 0x4, 1, 0, [.wcCfg_enabled, .wcCfg_hyst, .wcCfg_tripSel, .wcCfg_hi, .wcCfg_lo]⟩
  | .adcRes => ⟨0x44001000, 32, 0x4, 1, 0, [.adcRes_valid, .adcRes_ovr, .adcRes_held, .adcRes_rb, .adcRes_result]⟩
  | .adcSeqStat => ⟨0x44001080, 4, 0x4, 1, 0, [.adcSeqStat_running, .adcSeqStat_heldPending, .adcSeqStat_overruns]⟩
  | .adcStat => ⟨0x44001090, 1, 0x0, 1, 0, [.adcStat_noRotation, .adcStat_nRetired, .adcStat_calSlice]⟩
  | .wcState => ⟨0x440010a0, 1, 0x0, 1, 0, [.wcState_state]⟩
  | .wcUnres => ⟨0x440010a4, 1, 0x0, 1, 0, [.wcUnres_state]⟩
  | .wcLatch => ⟨0x440010a8, 1, 0x0, 1, 0, [.wcLatch_flags]⟩
  | .wcRbFail => ⟨0x440010ac, 1, 0x0, 1, 0, [.wcRbFail_flags]⟩
  -- R379
  | .metCfg => ⟨0x45000000, 1, 0x0, 1, 0, [.metCfg_saveInterval]⟩
  | .metStat => ⟨0x45000004, 1, 0x0, 1, 0, [.metStat_ewArmed, .metStat_saveRefused, .metStat_classLost, .metStat_finalWritten, .metStat_refusals, .metStat_saves]⟩
  | .mptCfg => ⟨0x45001000, 2, 0x1000, 1, 0, [.mptCfg_enabled, .mptCfg_reverse, .mptCfg_fNom, .mptCfg_seq, .mptCfg_nW]⟩
  | .mptSmax => ⟨0x45001004, 2, 0x1000, 1, 0, [.mptSmax_sMax]⟩
  | .mptStat => ⟨0x45001008, 2, 0x1000, 1, 0, [.mptStat_ready, .mptStat_unmeasured, .mptStat_totalsRestored, .mptStat_gapPending, .mptStat_unmeasuredMs]⟩
  | .mptFreq => ⟨0x4500100c, 2, 0x1000, 1, 0, [.mptFreq_valid, .mptFreq_freq]⟩
  | .mptStaleA => ⟨0x45001010, 2, 0x1000, 1, 0, [.mptStaleA_net, .mptStaleA_stale]⟩
  | .mptStaleB => ⟨0x45001014, 2, 0x1000, 1, 0, [.mptStaleB_stale]⟩
  | .mptSrc => ⟨0x45001020, 2, 0x1000, 3, 4, [.mptSrc_used, .mptSrc_vSrc, .mptSrc_iSrc]⟩
  | .mptVgain => ⟨0x45001030, 2, 0x1000, 3, 4, [.mptVgain_gain]⟩
  | .mptIgain => ⟨0x45001040, 2, 0x1000, 3, 4, [.mptIgain_gain]⟩
  | .mptIdelay => ⟨0x45001050, 2, 0x1000, 3, 4, [.mptIdelay_iDelay]⟩
  | .mptDeltaLo => ⟨0x45001100, 2, 0x1000, 28, 8, [.mptDeltaLo_energy]⟩
  | .mptDeltaHi => ⟨0x45001104, 2, 0x1000, 28, 8, [.mptDeltaHi_energy]⟩
  | .mptTotalLo => ⟨0x45001200, 2, 0x1000, 28, 8, [.mptTotalLo_energy]⟩
  | .mptTotalHi => ⟨0x45001204, 2, 0x1000, 28, 8, [.mptTotalHi_energy]⟩
  | .mptNetLo => ⟨0x45001300, 2, 0x1000, 4, 8, [.mptNetLo_energy]⟩
  | .mptNetHi => ⟨0x45001304, 2, 0x1000, 4, 8, [.mptNetHi_energy]⟩
  -- R400
  | .gdCfg => ⟨0x50003000, 8, 0x20, 1, 0, [.gdCfg_enabled, .gdCfg_cpEnable, .gdCfg_pair, .gdCfg_src, .gdCfg_channel, .gdCfg_drvUvlo, .gdCfg_negUvlo, .gdCfg_softOff]⟩
  | .gdDidt => ⟨0x50003004, 8, 0x20, 1, 0, [.gdDidt_blank, .gdDidt_hiThr, .gdDidt_loThr]⟩
  | .gdStat => ⟨0x50003008, 8, 0x20, 1, 0, [.gdStat_on, .gdStat_disabled, .gdStat_uvloPos, .gdStat_uvloNeg, .gdStat_shortLatched, .gdStat_interlock, .gdStat_cut, .gdStat_staticOn, .gdStat_uvloCount, .gdStat_shortCount]⟩
  | .gdCount => ⟨0x50003100, 1, 0x0, 1, 0, [.gdCount_lateStamps, .gdCount_cmdIgnored]⟩
  | .lpCfg => ⟨0x42009000, 32, 0x4, 1, 0, [.lpCfg_enabled, .lpCfg_invert, .lpCfg_safe, .lpCfg_drive]⟩
  | .tripCfg => ⟨0x42009080, 16, 0x4, 1, 0, [.tripCfg_enabled, .tripCfg_polarity, .tripCfg_unblanked, .tripCfg_filter, .tripCfg_blank]⟩
  | .tripStat => ⟨0x42009100, 1, 0x0, 1, 0, [.tripStat_asserted, .tripStat_masked]⟩
  | .lpStat => ⟨0x42009104, 1, 0x0, 1, 0, [.lpStat_atSafe]⟩
  -- R422
  | .fcStat => ⟨0x46000000, 1, 0x0, 1, 0, [.fcStat_reaction, .fcStat_degradePending, .fcStat_notePending, .fcStat_aliveAFrozen, .fcStat_aliveBFrozen, .fcStat_kickErr, .fcStat_merged, .fcStat_escalations]⟩
  | .fcAlive => ⟨0x46000004, 1, 0x0, 1, 0, [.fcAlive_fAlive]⟩
  | .fcKick => ⟨0x46000008, 1, 0x0, 1, 0, [.fcKick_key]⟩
  | .fsSticky => ⟨0x46000040, 16, 0x4, 1, 0, [.fsSticky_bits]⟩
  | .fsEsc => ⟨0x46000080, 16, 0x4, 1, 0, [.fsEsc_bits]⟩
  | .fsCfg => ⟨0x46001000, 512, 0x4, 1, 0, [.fsCfg_class, .fsCfg_n, .fsCfg_w]⟩
  | .fsCount => ⟨0x46002000, 512, 0x4, 1, 0, [.fsCount_winCount, .fsCount_winOpen, .fsCount_events]⟩
  | .fcOrigin => ⟨0x46003000, 1024, 0x4, 1, 0, [.fcOrigin_source]⟩
  -- R445
  | .sprStat => ⟨0x40000400, 1, 0x0, 1, 0, [.sprStat_aDemand, .sprStat_bDemand, .sprStat_discrepancy, .sprStat_discFault, .sprStat_stDemand, .sprStat_rstSeen, .sprStat_demands, .sprStat_discCount]⟩
  | .stCfg => ⟨0x40000404, 1, 0x0, 1, 0, [.stCfg_enabled, .stCfg_pair, .stCfg_connId]⟩
  | .stTime => ⟨0x40000408, 1, 0x0, 1, 0, [.stTime_tWatch, .stTime_tTel]⟩
  | .stStat => ⟨0x4000040c, 1, 0x0, 1, 0, [.stStat_supervising, .stStat_permitted, .stStat_lastFail]⟩
  | .stSeq => ⟨0x40000410, 1, 0x0, 1, 0, [.stSeq_seq]⟩
  | .stCount => ⟨0x40000414, 1, 0x0, 1, 0, [.stCount_accepted, .stCount_stale]⟩
  | .shroudStat => ⟨0x50004000, 1, 0x0, 1, 0, [.shroudStat_bw, .shroudStat_drvDisable, .shroudStat_lockout, .shroudStat_mastConsent, .shroudStat_shroudConsent, .shroudStat_sprA, .shroudStat_sprB, .shroudStat_rstOk, .shroudStat_withheld, .shroudStat_holdCause]⟩
  -- R480
  | .halCfg => ⟨0x47000000, 1, 0x0, 1, 0, [.halCfg_enabled, .halCfg_dualSend, .halCfg_member, .halCfg_rank, .halCfg_holdTime, .halCfg_dMax, .halCfg_divLimit]⟩
  | .halCopyA => ⟨0x47000004, 1, 0x0, 1, 0, [.halCopyA_p1, .halCopyA_p2]⟩
  | .halCopyB => ⟨0x47000008, 1, 0x0, 1, 0, [.halCopyB_singleOk, .halCopyB_p3]⟩
  | .halStat => ⟨0x4700000c, 1, 0x0, 1, 0, [.halStat_partnerSeen, .halStat_accepted, .halStat_idRefused, .halStat_inStep, .halStat_sending, .halStat_partnerReact, .halStat_partnerBlock, .halStat_partnerHealthy, .halStat_partnerMode, .halStat_partnerTakeover, .halStat_returnPending, .halStat_aligned, .halStat_lanesReady, .halStat_holdLeft]⟩
  | .halAlign => ⟨0x47000010, 1, 0x0, 1, 0, [.halAlign_valid, .halAlign_drift, .halAlign_phi, .halAlign_offset]⟩
  | .halExec => ⟨0x47000014, 1, 0x0, 1, 0, [.halExec_own, .halExec_partner]⟩
  | .halCount => ⟨0x47000018, 1, 0x0, 1, 0, [.halCount_takeovers, .halCount_yields, .halCount_copyFails, .halCount_liveRefused]⟩
  | .halPeerHash => ⟨0x47000040, 12, 0x4, 1, 0, [.halPeerHash_digest]⟩
  -- R514
  | .netCfg => ⟨0x48000000, 1, 0x0, 1, 0, [.netCfg_saPort, .netCfg_portMode, .netCfg_saPair, .netCfg_stationMode, .netCfg_processMode]⟩
  | .netMacLo => ⟨0x48000004, 1, 0x0, 1, 0, [.netMacLo_mac]⟩
  | .netMacHi => ⟨0x48000008, 1, 0x0, 1, 0, [.netMacHi_mac]⟩
  | .pStat => ⟨0x48000010, 4, 0x4, 1, 0, [.pStat_ready, .pStat_linkUp, .pStat_joined, .pStat_lanFault, .pStat_linkLosses]⟩
  | .pCount => ⟨0x48000020, 4, 0x4, 1, 0, [.pCount_rxDrop, .pCount_tripRx]⟩
  | .pCorr => ⟨0x48000030, 4, 0x4, 1, 0, [.pCorr_ingress, .pCorr_egress]⟩
  | .ptpCfg => ⟨0x48000100, 1, 0x0, 1, 0, [.ptpCfg_enabled, .ptpCfg_slaveOnly, .ptpCfg_pair, .ptpCfg_domain, .ptpCfg_priority1, .ptpCfg_priority2]⟩
  | .ptpStat => ⟨0x48000104, 1, 0x0, 1, 0, [.ptpStat_locked, .ptpStat_master, .ptpStat_timeStale, .ptpStat_twoStepSeen, .ptpStat_slavePort, .ptpStat_steps, .ptpStat_lockLosses]⟩
  | .ptpOffset => ⟨0x48000108, 1, 0x0, 1, 0, [.ptpOffset_offset]⟩
  | .ptpTimeLo => ⟨0x4800010c, 1, 0x0, 1, 0, [.ptpTimeLo_time]⟩
  | .ptpTimeHi => ⟨0x48000110, 1, 0x0, 1, 0, [.ptpTimeHi_time]⟩
  | .poCfg => ⟨0x48000200, 8, 0x10, 1, 0, [.poCfg_enabled, .poCfg_mode, .poCfg_polarity, .poCfg_gateLock, .poCfg_width]⟩
  | .poRate => ⟨0x48000204, 8, 0x10, 1, 0, [.poRate_rate]⟩
  | .poArmSec => ⟨0x48000208, 8, 0x10, 1, 0, [.poArmSec_sec]⟩
  | .poArmNs => ⟨0x4800020c, 8, 0x10, 1, 0, [.poArmNs_armed, .poArmNs_missed, .poArmNs_ns]⟩
  | .pubStat => ⟨0x48000300, 1, 0x0, 1, 0, [.pubStat_svPublishing, .pubStat_goPublishing, .pubStat_svInvalid]⟩
  | .saStat => ⟨0x48000400, 1, 0x0, 1, 0, [.saStat_lastStatus, .saStat_lastKey, .saStat_refused]⟩
  | .saStart => ⟨0x48000404, 1, 0x0, 1, 0, [.saStart_start]⟩
  -- R539
  | .thStat => ⟨0x49000000, 1, 0x0, 1, 0, [.thStat_shutdownPending, .thStat_recordPending, .thStat_rearmOk, .thStat_recordWritten, .thStat_shutSensor, .thStat_brokenCount, .thStat_rearmLeft]⟩
  | .grStat => ⟨0x49000004, 1, 0x0, 1, 0, [.grStat_reefForced, .grStat_reefLevel, .grStat_headroom]⟩
  | .grPower => ⟨0x49000008, 1, 0x0, 1, 0, [.grPower_base, .grPower_granted]⟩
  | .grCfg => ⟨0x4900000c, 1, 0x0, 1, 0, [.grCfg_pLim, .grCfg_gdLoss]⟩
  | .grReef => ⟨0x49000010, 1, 0x0, 1, 0, [.grReef_reef1, .grReef_reef2, .grReef_reef3, .grReef_hyst, .grReef_hold]⟩
  | .grCount => ⟨0x49000014, 1, 0x0, 1, 0, [.grCount_grants, .grCount_starved, .grCount_setAside]⟩
  | .huCfg => ⟨0x49000040, 1, 0x0, 1, 0, [.huCfg_huSensor, .huCfg_huLow, .huCfg_huHigh]⟩
  | .huStat => ⟨0x49000044, 1, 0x0, 1, 0, [.huStat_charge, .huStat_ready, .huStat_holdMv]⟩
  | .flTemp => ⟨0x49000048, 1, 0x0, 1, 0, [.flTemp_inRange, .flTemp_flashSensor, .flTemp_refused]⟩
  | .grClass => ⟨0x49000020, 4, 0x4, 1, 0, [.grClass_floor, .grClass_maxWait]⟩
  | .thLimA => ⟨0x49000100, 16, 0x10, 1, 0, [.thLimA_tMax, .thLimA_tShut]⟩
  | .thLimB => ⟨0x49000104, 16, 0x10, 1, 0, [.thLimB_tRearm, .thLimB_tMin]⟩
  | .thLimC => ⟨0x49000108, 16, 0x10, 1, 0, [.thLimC_rateLimit, .thLimC_rateWindow, .thLimC_inHeadroom]⟩
  | .thHood => ⟨0x49000200, 63, 0x4, 1, 0, [.thHood_devLimit]⟩
  | .thSensor => ⟨0x49001000, 406, 0x4, 1, 0, [.thSensor_enabled, .thSensor_limSet, .thSensor_hood]⟩
  | .thRead => ⟨0x49002000, 406, 0x4, 1, 0, [.thRead_valid, .thRead_broken, .thRead_above, .thRead_rate, .thRead_brokenReason, .thRead_reading]⟩
  | .tsCfg => ⟨0x50005000, 16, 0x4, 1, 0, [.tsCfg_kind, .tsCfg_param]⟩
  -- R561
  | .sltCfg => ⟨0x40000500, 1, 0x0, 1, 0, [.sltCfg_enabled, .sltCfg_cyclePeriod, .sltCfg_secInterval]⟩
  | .sltStat => ⟨0x40000504, 1, 0x0, 1, 0, [.sltStat_running, .sltStat_cycleLate, .sltStat_uncovered, .sltStat_readbackOff, .sltStat_active, .sltStat_cycles]⟩
  | .sltCycle => ⟨0x40000508, 1, 0x0, 1, 0, [.sltCycle_last, .sltCycle_worst]⟩
  | .sltCount => ⟨0x4000050c, 1, 0x0, 1, 0, [.sltCount_failures, .sltCount_transients, .sltCount_waits, .sltCount_skipped]⟩
  | .sltLast => ⟨0x40000510, 1, 0x0, 1, 0, [.sltLast_kind, .sltLast_index, .sltLast_result]⟩
  | .sltRetEe => ⟨0x40000520, 3, 0x4, 1, 0, [.sltRetEe_retired]⟩
  | .sltRetPcs => ⟨0x40000530, 4, 0x4, 1, 0, [.sltRetPcs_retired]⟩
  | .sltRetMisc => ⟨0x40000540, 1, 0x0, 1, 0, [.sltRetMisc_eeL, .sltRetMisc_eeS, .sltRetMisc_pcsS, .sltRetMisc_bw, .sltRetMisc_gdMon, .sltRetMisc_security]⟩
  -- R589
  | .nvDev => ⟨0x4a000000, 1, 0x0, 1, 0, [.nvDev_dev0, .nvDev_dev1, .nvDev_profileOk, .nvDev_blocks]⟩
  | .nvStat => ⟨0x4a000004, 1, 0x0, 1, 0, [.nvStat_anchorValid, .nvStat_firstStart, .nvStat_degraded, .nvStat_short, .nvStat_busy]⟩
  | .nvEcc => ⟨0x4a000008, 1, 0x0, 1, 0, [.nvEcc_corrected, .nvEcc_uncorrectable, .nvEcc_maxBits]⟩
  | .nvBlocks => ⟨0x4a00000c, 1, 0x0, 1, 0, [.nvBlocks_eraseMax, .nvBlocks_grown, .nvBlocks_factory]⟩
  | .nvScrub => ⟨0x4a000010, 1, 0x0, 1, 0, [.nvScrub_nextCopy, .nvScrub_earlyDue, .nvScrub_lastFail, .nvScrub_daysLeft]⟩
  | .nvLedger => ⟨0x4a000014, 1, 0x0, 1, 0, [.nvLedger_erasedPages, .nvLedger_carryForwards]⟩
  | .nvCfg => ⟨0x4a000018, 1, 0x0, 1, 0, [.nvCfg_refreshBits]⟩
  | .drCfg => ⟨0x4a000100, 1, 0x0, 1, 0, [.drCfg_enabled, .drCfg_trigClass, .drCfg_trigHold, .drCfg_channels]⟩
  | .drSpan => ⟨0x4a000104, 1, 0x0, 1, 0, [.drSpan_postMs, .drSpan_preMs]⟩
  | .drTrigWc => ⟨0x4a000108, 1, 0x0, 1, 0, [.drTrigWc_mask]⟩
  | .drTrigTrip => ⟨0x4a00010c, 1, 0x0, 1, 0, [.drTrigTrip_mask]⟩
  | .drStat => ⟨0x4a000110, 1, 0x0, 1, 0, [.drStat_state, .drStat_locked, .drStat_flushing, .drStat_stored]⟩
  | .drCount => ⟨0x4a000114, 1, 0x0, 1, 0, [.drCount_lost, .drCount_joined, .drCount_truncated]⟩
  | .drLast => ⟨0x4a000118, 1, 0x0, 1, 0, [.drLast_id]⟩
  | .drChan => ⟨0x4a000400, 256, 0x4, 1, 0, [.drChan_addr]⟩
  -- R608
  | .secStat => ⟨0x4b000000, 1, 0x0, 1, 0, [.secStat_ownerFused, .secStat_slot1InForce, .secStat_idReady, .secStat_vaultClear, .secStat_retired, .secStat_sigFails, .secStat_attests]⟩
  | .bootStat => ⟨0x4b000004, 1, 0x0, 1, 0, [.bootStat_copy, .bootStat_keyIndex, .bootStat_statusB, .bootStat_statusA]⟩
  | .fwVersion => ⟨0x4b000008, 1, 0x0, 1, 0, [.fwVersion_version]⟩
  | .dbgStat => ⟨0x4b00000c, 1, 0x0, 1, 0, [.dbgStat_unlocked, .dbgStat_challengeOpen, .dbgStat_barred, .dbgStat_windowLeft, .dbgStat_failCount]⟩
  | .fwDigest => ⟨0x4b000010, 12, 0x4, 1, 0, [.fwDigest_bytes]⟩
  | .ownerHash => ⟨0x4b000040, 12, 0x4, 1, 0, [.ownerHash_bytes]⟩
  | .idSerialLo => ⟨0x4b000070, 1, 0x0, 1, 0, [.idSerialLo_serial]⟩
  | .idSerialHi => ⟨0x4b000074, 1, 0x0, 1, 0, [.idSerialHi_serial]⟩
  | .idPubkey => ⟨0x4b000080, 24, 0x4, 1, 0, [.idPubkey_bytes]⟩
  | .idEndorse => ⟨0x4b000100, 24, 0x4, 1, 0, [.idEndorse_bytes]⟩

/-- The registers of R39, in the map's order. -/
def regsR39 : List Reg :=
  [.periodCfg, .periodIndex, .periodStat, .budgetMargin, .sramCorrCount, .sramUncorrAddr, .sramScrubStat, .idbStat]
/-- The registers of R72, in the map's order. -/
def regsR72 : List Reg :=
  [.sysIdent, .modeStat, .modeReq, .resetCause, .delibStat, .readyLaneA, .readyLaneB, .readyLaneC, .readyEdgeA, .readyEdgeB, .readyEdgeC, .readyUnit, .readyIo]
/-- The registers of R102, in the map's order. -/
def regsR102 : List Reg :=
  [.imageStat, .imageSeqA, .imageSeqB, .imageDigest, .liveStat, .liveWord]
/-- The registers of R129, in the map's order. -/
def regsR129 : List Reg :=
  [.pllStat, .pllPlanReq, .pllPlan, .pllBandTable, .pllBandStore, .clkoCfg, .tbCountLo, .tbCountHi, .tbBoundaryLo, .tbBoundaryHi, .tbStat]
/-- The registers of R165, in the map's order. -/
def regsR165 : List Reg :=
  [.laneCfg, .laneAsym, .laneStat, .laneLatency, .laneRtt, .laneErrs, .laneCtrl, .laneQuality]
/-- The registers of R198, in the map's order. -/
def regsR198 : List Reg :=
  [.linkBale, .linkCell, .linkTb]
/-- The registers of R231, in the map's order. -/
def regsR231 : List Reg :=
  [.eeCommit, .eeStat, .eePscArm, .eeTripMap, .eeTripStat, .eeCfg, .eeLCfg, .eeRefresh, .eeCarryLim, .eeEstat, .eeCounts, .eeHb, .eeCarry, .eeLMode, .eeLHb, .eeLCarry]
/-- The registers of R263, in the map's order. -/
def regsR263 : List Reg :=
  [.armCfg, .armScale, .armVref, .armBal, .armLimit, .armPc, .armStat, .armCount, .armTb, .cellCfg, .cellStat]
/-- The registers of R303, in the map's order. -/
def regsR303 : List Reg :=
  [.ceStat, .cePower, .ceCfg, .ceCycles, .ceEstat, .ceLoopStat, .ceLoopOut, .ceGroupStat]
/-- The registers of R325, in the map's order. -/
def regsR325 : List Reg :=
  [.svStat, .svCount, .goStat, .goCount]
/-- The registers of R354, in the map's order. -/
def regsR354 : List Reg :=
  [.adcSeqCfg, .adcSeqTrig, .adcEntry, .adcRb, .adcCalLim, .adcSlice, .wcCfg, .adcRes, .adcSeqStat, .adcStat, .wcState, .wcUnres, .wcLatch, .wcRbFail]
/-- The registers of R379, in the map's order. -/
def regsR379 : List Reg :=
  [.metCfg, .metStat, .mptCfg, .mptSmax, .mptStat, .mptFreq, .mptStaleA, .mptStaleB, .mptSrc, .mptVgain, .mptIgain, .mptIdelay, .mptDeltaLo, .mptDeltaHi, .mptTotalLo, .mptTotalHi, .mptNetLo, .mptNetHi]
/-- The registers of R400, in the map's order. -/
def regsR400 : List Reg :=
  [.gdCfg, .gdDidt, .gdStat, .gdCount, .lpCfg, .tripCfg, .tripStat, .lpStat]
/-- The registers of R422, in the map's order. -/
def regsR422 : List Reg :=
  [.fcStat, .fcAlive, .fcKick, .fsSticky, .fsEsc, .fsCfg, .fsCount, .fcOrigin]
/-- The registers of R445, in the map's order. -/
def regsR445 : List Reg :=
  [.sprStat, .stCfg, .stTime, .stStat, .stSeq, .stCount, .shroudStat]
/-- The registers of R480, in the map's order. -/
def regsR480 : List Reg :=
  [.halCfg, .halCopyA, .halCopyB, .halStat, .halAlign, .halExec, .halCount, .halPeerHash]
/-- The registers of R514, in the map's order. -/
def regsR514 : List Reg :=
  [.netCfg, .netMacLo, .netMacHi, .pStat, .pCount, .pCorr, .ptpCfg, .ptpStat, .ptpOffset, .ptpTimeLo, .ptpTimeHi, .poCfg, .poRate, .poArmSec, .poArmNs, .pubStat, .saStat, .saStart]
/-- The registers of R539, in the map's order. -/
def regsR539 : List Reg :=
  [.thStat, .grStat, .grPower, .grCfg, .grReef, .grCount, .huCfg, .huStat, .flTemp, .grClass, .thLimA, .thLimB, .thLimC, .thHood, .thSensor, .thRead, .tsCfg]
/-- The registers of R561, in the map's order. -/
def regsR561 : List Reg :=
  [.sltCfg, .sltStat, .sltCycle, .sltCount, .sltLast, .sltRetEe, .sltRetPcs, .sltRetMisc]
/-- The registers of R589, in the map's order. -/
def regsR589 : List Reg :=
  [.nvDev, .nvStat, .nvEcc, .nvBlocks, .nvScrub, .nvLedger, .nvCfg, .drCfg, .drSpan, .drTrigWc, .drTrigTrip, .drStat, .drCount, .drLast, .drChan]
/-- The registers of R608, in the map's order. -/
def regsR608 : List Reg :=
  [.secStat, .bootStat, .fwVersion, .dbgStat, .fwDigest, .ownerHash, .idSerialLo, .idSerialHi, .idPubkey, .idEndorse]

/-- All registers, in the order in which an address is looked up. -/
def Reg.all : List Reg :=
  regsR39 ++ regsR72 ++ regsR102 ++ regsR129 ++ regsR165 ++ regsR198 ++ regsR231 ++ regsR263 ++ regsR303 ++ regsR325 ++ regsR354 ++ regsR379 ++ regsR400 ++ regsR422 ++ regsR445 ++ regsR480 ++ regsR514 ++ regsR539 ++ regsR561 ++ regsR589 ++ regsR608

/-- The name by which a field of an instance is stored: the field's number and the instance, in one natural number. -/
def Fld.key (f : Fld) (i : Nat) : Nat := f.ctorIdx + 1024 * i

end Sys2Proof.Machine
end

