-- ==== Sys2Proof/Machine/State.lean ====
section
/-! DEFINITION. The state of the VY9612 as plain data: every register field, the SRAM, the state the chapters give each
unit beside its registers, and the queue of waiting commands; and the state right after a power-on reset. -/

namespace Sys2Proof.Machine

/-- The six major modes (R40), in the order of MODE_STAT's codes. -/
inductive Mode where
  | configure | commission | charge | run | shadow | safeHold
  deriving DecidableEq, Repr

/-- The causes of SAFE HOLD (R73), in the order of their codes. -/
inductive HoldCause where
  | none | severe | spr | thermal | earlyWarning | noImage | clockLoss | warmReset | restored
  deriving DecidableEq, Repr

/-- The shadow behind the high half of a 64-bit register (R5, R6): the latched value, and whether the register's own
low half was read since the last read of the high half. -/
structure Shadow where
  value : Nat := 0
  lowRead : Bool := false
  deriving DecidableEq, Repr

/-- What the register bus keeps beside the registers: the word the last read returned, the shadows by the key of the
high half's field, and the answer of the last station or test-port operation. -/
structure BusState where
  lastRead : Word := 0
  shadows : Store Shadow := []
  reply : List Byte := []
  deriving DecidableEq, Repr

/-- The SRAM (R34): its bytes as they were written; what is wrong with a 128-bit word, by word number from 0x1000_0000: the
bits of its 138-bit code that have flipped since it was written, 0 to 137, and 138 where the address parity folded into the code
does not fit (R35); and the word at which the scrub stands (R36). -/
structure SramState where
  cells : List Host.Cell := []
  upsets : Store (List Nat) := []
  scrubAt : Nat := 0
  deriving DecidableEq, Repr

/-- The model's clock and the timebase (R119). `now` counts nanoseconds since power-on and is the model's own; `tb` is
the 64-bit timebase count; `gridOn` says that the period grid runs; `b0` is the count of the grid's first boundary since
it last started and `n` the boundaries that have come since; `ran` says that the period index counts
(R13); `windowOpen` says that the sheaf transmission window stands open (R19); `step` is the last of the period's instants that
has been taken: 1 the close of input distribution, 2 the start of the engines, 3 t_B, 4 t_E, 5 t_S, 6 the close of the sheaf
window. -/
structure ClockState where
  now : Nat := 0
  tb : Nat := 0
  started : Bool := false
  gridOn : Bool := false
  b0 : Nat := 0
  n : Nat := 0
  count : Nat := 0
  ran : Bool := false
  windowOpen : Bool := false
  step : Nat := 0
  deriving DecidableEq, Repr

/-- The settings of the image's system section that no register reports (R82). -/
structure SystemSettings where
  startMode : Nat := 0
  autoRun : Bool := false
  lockstep : Bool := true
  stopRamp : Nat := 100
  pair : Bool := false
  dualSend : Bool := false
  mvUsed : Bool := false
  deriving DecidableEq, Repr

/-- A lockout entry as it will be written to the ledger (R59, R413): the cause, the sticky and the escalation bits;
whether it asks for no leave (R53), and, while its bits are still awaited, the t0 from which their 10 ms count (R413). -/
structure LockoutEntry where
  cause : Nat := 0
  sticky : List Nat := []
  esc : List Nat := []
  noLeave : Bool := false
  waits : Option Nat := none
  deriving DecidableEq, Repr

/-- Modes, resets and readiness beside their registers: whether PORST_N stands low; the boundaries left until
QUIESCENT ends after request 6 (R52); whether the pending request has been judged and stands for its condition (R44), and whether its snapshot has come (R29); the boundary whose transitions are done; whether
request 4 has begun stopping (R295); whether HOLD is connected to VSYS (R621); the lockout entries that wait to be written,
oldest first (R59); when the flash temperature last refused it (R59); the instant of the SEVERE reaction; the falling edge of the pulse that opened the
acknowledge window (R67), and what that edge already decided (R69); whether R60 has been examined since the cold reset; whether the
power-on slice test is complete (R44); whether the copies of the image have been examined since the last cold or warm reset
(R84); whether that warm reset left a SAFE HOLD for want of an image (R56); the units that were READY at the last boundary and
have stayed so, as bits (R65): lanes from bit 0, edge engines from 128, control engines from 256, converter slices from 320; and whether step 4 was active in
the mode at that boundary (R208). -/
structure ModeState where
  porstLow : Bool := true
  resumeIn : Option Nat := none
  reqStands : Bool := false
  reqReached : Bool := false
  transitionAt : Option Nat := none
  stopping : Bool := false
  holdSwitch : Bool := false
  lockoutEntries : List LockoutEntry := []
  lockoutRefused : Option Nat := none
  reactionAt : Nat := 0
  windowFall : Nat := 0
  edgeDemand : Bool := false
  edgeThermal : Bool := false
  restoreDone : Bool := false
  sliceDone : Bool := false
  imageDone : Bool := false
  fromNoImage : Bool := false
  usable : Nat := 0
  edgesActive : Bool := false
  deriving DecidableEq, Repr

/-- The two synthesisers beside their registers (R103 to R118): the die temperature the PLL block reads and whether the
conversion is valid (R108); when holdover began; the instant of R117's deadline for the partner's take-over report, and whether that report has come;
whether the supervisor domains run on the bypass oscillator (R115); and when a relock last failed on all paths (R118). -/
structure PllState where
  dieTemp : Int := 0
  dieTempValid : Bool := false
  holdoverAt : Nat := 0
  yieldDeadline : Option Nat := none
  takeoverSeen : Bool := false
  onBypass : Bool := true
  failedAt : Option Nat := none
  triangle : Nat := 0
  bandAt : Option Nat := none
  deriving DecidableEq, Repr

/-- An entry of the firmware log (R419): source, class, whether merged, and the time in milliseconds, of PTP where `ptp`
holds and of the timebase count otherwise. -/
structure FirmwareLogEntry where
  source : Nat := 0
  cls : Nat := 0
  merged : Bool := false
  ptp : Bool := false
  ms : Nat := 0
  deriving DecidableEq, Repr

/-- The fault collector beside its registers (R405, R413 to R419): events raised on the Mast die on their way to the
collector, events that wait on the Rigging die for an IDB frame, the instants at which the windows opened by source, the levels
of ALIVE_A and ALIVE_B and the instants of their last toggles, the value the kick sequence expects, whether and when a correct kick was last made, and the
firmware log, oldest first. -/
structure FaultState where
  events : List Nat := []
  idbEvents : List Nat := []
  openAt : Store Nat := []
  aliveA : Bool := false
  aliveB : Bool := false
  aliveAAt : Nat := 0
  aliveBAt : Nat := 0
  kickExpect : Nat := 0xAA
  lastKick : Nat := 0
  kicked : Bool := false
  log : List FirmwareLogEntry := []
  deriving DecidableEq, Repr

/-- One valid copy of a safe telegram that waits for its partner (R439): its sequence, the port it came by, its bytes, and when
it arrived. -/
structure TelegramCopy where
  seq : Nat
  port : Nat
  bytes : List Byte
  arrived : Nat
  deriving DecidableEq, Repr

/-- Safe power removal and the Shroud beside their registers (R423 to R445): whether the Shroud hears the Mast die (R18,
R434), the reaction that the next frame to it carries (R413, R427), when each die last received a valid IDB frame (R18, R404), the supervised supplies below their warning thresholds (R631), the levels of SPR_A and SPR_B after their filters as the
Shroud holds them are in SHROUD_STAT; since when the inputs differ as the Shroud and as pair 0 hold them (R435), whether the Shroud's
timer and pair 0's have reached 10 ms, and whether this episode has been reported; the falling edges of the valid pulses that the Shroud and
pair 0 measured on SPR_RST (R67, R436); the safe telegram copies waiting for their partners, the sequences seen on each
port, the last acceptance, whether the watch counts from it, whether the accepted command still waits to act, and the number of the status telegrams sent
with the instant of the last (R439 to R442). -/
structure SprState where
  idbUp : Bool := false
  reaction : HoldCause := .none
  shroudHeard : Nat := 0
  mastHeard : Nat := 0
  warned : List Nat := []
  discAt : Option Nat := none
  discLong : Bool := false
  pairDiscAt : Option Nat := none
  pairDiscLong : Bool := false
  discReported : Bool := false
  shroudFall : Option Nat := none
  pairFall : Option Nat := none
  copies : List TelegramCopy := []
  seen : List (Nat × Nat) := []
  acceptedAt : Nat := 0
  watchOn : Bool := false
  accepted : Option Bool := none
  statusSeq : Nat := 0
  statusAt : Nat := 0
  deriving DecidableEq, Repr

/-- The declaration of a live word (R97): its kind, format, target, and its range. -/
structure LiveDecl where
  kind : Nat := 0
  format : Nat := 0
  target : Nat := 0
  min : Int := 0
  max : Int := 0
  deriving DecidableEq, Repr

/-- The live parameter set beside its registers: the declarations by index; the values in force at the last snapshot; the
accepted writes that await their snapshot, in order (R99, R100); the data words to be written in the next input distribution
window (R280: engine, address, value); and whether the initial values of the setpoints are still to be written (R97). -/
structure LiveState where
  decls : List (Nat × LiveDecl) := []
  inForce : Store Nat := []
  waiting : List (Nat × Nat) := []
  setpoints : List (Nat × Nat × Nat) := []
  initialDue : Bool := false
  deriving DecidableEq, Repr


/-- A sheaf as the device sends it (R170, R173); `mark` is the countdown C of its TB_MARK. -/
structure Sheaf where
  seq : Nat := 0
  isRepeat : Bool := false
  precharge : Bool := false
  bypass : Bool := false
  blockReq : Bool := false
  member : Bool := false
  stamps : List Stamp := []
  mode : Nat := 0
  tCtl : Nat := 0
  lead : Nat := 0
  mark : Nat := 0
  deriving DecidableEq, Repr

/-- A bale (R191). Voltages and current are Q1.15, temperatures 1/16 °C, `tbError` picoseconds. -/
structure Bale where
  echoSeq : Nat := 0
  prechargeActive : Bool := false
  interlock : Bool := false
  capLow : Bool := false
  portValid : Bool := false
  bypassClosed : Bool := false
  blocked : Bool := false
  isRepeat : Bool := false
  execMember : Bool := false
  cellState : Nat := 0
  tbError : Int := 0
  sheafErrs : Nat := 0
  vCap : Int := 0
  vSec : Int := 0
  iArm : Int := 0
  temps : List Nat := []
  gdFault : Nat := 0
  gdReady : Nat := 0
  trips : Nat := 0
  interlocks : Nat := 0
  deriving DecidableEq, Repr

/-- One block of a lane's code, destuffed and descrambled (R133, R134): the first three header bits, of a block that a Halyard lane sends
the rest of its header (R452), and the eight payload bytes; for a received block whether its header is valid (R133, R139, R453), and whether its payload is used (R140). -/
structure LineBlock where
  h0 : Bool := true
  h1 : Bool := false
  h2 : Bool := false
  rest : List Bool := []
  payload : List Byte := []
  valid : Bool := true
  usable : Bool := true
  deriving DecidableEq, Repr, Inhabited

/-- The run of identical bits on a line: the last bit and how many there are (R138). -/
structure LineRun where
  last : Bool := false
  len : Nat := 0
  deriving DecidableEq, Repr

/-- A lane's transmitter: the scrambled payload bits sent last, newest first (R137), and the run on the line (R138). -/
structure LineTx where
  history : List Bool := []
  run : LineRun := {}
  deriving DecidableEq, Repr

/-- A lane's receiver (R137 to R142): the run on the line; the bits of the block in progress, newest first, with their number and
whether a stuffing violation fell in it; the scrambled payload bits received last, newest first; whether the candidate position moves
by the next bit; block lock, and whether the first block after it is still to come; the blocks observed at the candidate and those of
them with invalid headers; and in lock which of the last 64 headers were invalid, newest first. -/
structure LineRx where
  run : LineRun := {}
  part : List Bool := []
  pos : Nat := 0
  violation : Bool := false
  history : List Bool := []
  skip : Bool := false
  locked : Bool := false
  first : Bool := false
  seen : Nat := 0
  bad : Nat := 0
  recent : List Bool := []
  deriving DecidableEq, Repr

/-- What a lane's transmitter puts on the line (R136, R150): nothing, in electrical idle or with the synthesisers stopped; or the line
bits of a frame or block, none where it has none to send, and after it IDLE blocks, which the transmitter as the frame left it scrambles and
stuffs on (R137, R138). -/
inductive LineSent where
  | silent
  | blocks (frame : List Bool) (after : LineTx) (idle : LineBlock)
  deriving DecidableEq, Repr

/-- A sheaf's frame on its way: the transmitter as it begins, the instant at which its first bit leaves, in picoseconds of the timebase, and
the BLOCK bit of each of its blocks (R144). -/
structure LineFrame where
  start : LineTx := {}
  leaves : Nat := 0
  flags : List Bool := []
  deriving DecidableEq, Repr

/-- The states of a lane (R150), in the order of LANE_STAT's codes. -/
inductive LinkState where
  | disabled | hunt | measure | ready | held
  deriving DecidableEq, Repr

/-- One lane beside its registers: its receiver; the BLOCK bit of the most recent valid upstream header (R145); the echo
measurement (R153: next tag, departures by tag with the period of each, loop delays obtained, lost tags to send again, spread failures,
requests lost in a row; in READY the period of the last request, R158, R456); the drift watch (R158: the runs outside and inside the limit,
whether it is armed, and the period of the request of the last L); the figure's last side of its threshold (R160); the timebase watch (R196);
the bale kept for the next snapshot, the bale last used, whether it is fresh and when it was used; the sheaf last sent, and its frame while
it is on its way; the line bits, in send order, of the frame or block last given to the transmitter (R136), and the transmitter as they leave
it (R137, R138), none where what it holds is open; and, on a Halyard lane, the tag and the hold time (in 125 ps units) of the ECHO_RSP last
sent. -/
structure LaneState where
  rx : LineRx := {}
  lastBlock : Bool := false
  echoTag : Nat := 0
  echoSent : Store (Nat × Nat) := []
  echoPeriod : Option Nat := none
  echoGot : List Int := []
  echoLost : List Nat := []
  spreadFails : Nat := 0
  lostRun : Nat := 0
  driftOut : Nat := 0
  driftIn : Nat := 0
  driftArmed : Bool := true
  driftPeriod : Nat := 0
  fomBelow : Bool := false
  tbArmed : Bool := false
  baleNext : Option Bale := none
  baleUsed : Bale := {}
  fresh : Bool := false
  usedAt : Nat := 0
  sheaf : Option Sheaf := none
  frame : Option LineFrame := none
  sent : List Bool := []
  tx : Option LineTx := none
  echoReply : Option (Nat × Nat) := none
  deriving DecidableEq, Repr

/-- The lane holds block lock (R140). -/
def LaneState.locked (l : LaneState) : Bool := l.rx.locked

/-- The edge engines beside their registers: the set that the next reload takes, as words by number from the set's base (R203); a set
committed in the guard window or after it, which the reload after that takes (R205); the legs, the stamps each engine last computed,
the carrier counts n_a (R209), the engines that computed nothing in the last interval (R208), those whose sheaves are repeats and
those among them that did not finish (R25), and the debugger's wish to halt (R226). The staging set and the set in force stand in
the SRAM. -/
structure EdgeState where
  pendingSet : Option (Store Nat) := none
  lateSet : Option (Store Nat) := none
  legs : Store Leg := []
  stamps : Store (List Stamp) := []
  carrier : Store Nat := []
  paused : List Nat := []
  repeats : List Nat := []
  unfinished : List Nat := []
  haltWanted : Bool := false
  deriving DecidableEq, Repr

/-- The states of a cell (R235), in the order of CELL_STAT's codes. -/
inductive CellPhase where
  | active | spare | bypassed | unreachable
  deriving DecidableEq, Repr

/-- A command of unit 0x0003 on a cell (R241). -/
inductive CellCommand where
  | bypass | release | swap
  deriving DecidableEq, Repr

/-- One cell beside its registers: whether it was BYPASSED when its lane left READY (R237), whether a DEGRADE action fell
due for it (R412), how many boundaries have passed since the first sheaf with bypass = 1 and whether R240's event has been
raised for this entry, whether it held a non-zero state in the interval last computed (R243), whether its first used bale
since its lane became READY is still to come, with the cause that a bypass seen there records (R63, R237), and whether its
engine was lost with no spare (R551). -/
structure CellState where
  wasBypassed : Bool := false
  degradeDue : Bool := false
  bypassAge : Option Nat := none
  bypassReported : Bool := false
  inserted : Bool := false
  firstBale : Option Nat := none
  engineLost : Bool := false
  deriving DecidableEq, Repr

/-- One arm beside its registers: the arm current used, doubled so that a mean of two stays exact (R244), the periods since
the rotation pointer last advanced (R248), the run of t_B with too wide a spread and whether its event is armed (R250),
and the instant at which the pre-charge phase was entered or its timer restarted (R259). -/
structure ArmState where
  current2 : Int := 0
  rotCount : Nat := 0
  spreadRun : Nat := 0
  spreadArmed : Bool := true
  phaseAt : Nat := 0
  deriving DecidableEq, Repr

/-- Arms and cells beside their registers, the cell commands that have reached their snapshot and wait for t_B, and the cells that the
steps of the last t_B moved (R238, R241). -/
structure ArmsState where
  cells : Store CellState := []
  arms : Store ArmState := []
  commands : List (CellCommand × Nat) := []
  moved : List Nat := []
  deriving DecidableEq, Repr

/-- A loop descriptor (R285, R301). -/
structure LoopDesc where
  progStart : Nat := 0
  progEnd : Nat := 0
  coefBase : Nat := 0
  coefCount : Nat := 0
  intAddr : Option Nat := none
  outWord : Option Nat := none
  manualWord : Option Nat := none
  group : Option Nat := none
  initClosed : Bool := false
  deriving DecidableEq, Repr, Inhabited

/-- A min-select group (R291, R301): its members' loop numbers in order, and the arm whose power-setpoint group it is. -/
structure GroupDesc where
  members : List Nat := []
  arm : Option Nat := none
  deriving DecidableEq, Repr, Inhabited

/-- What the image gives a control engine (R301): loops, groups, program words of 56 bits, slots, state ranges, and the
initial data memory as unsigned 16-bit words by address. -/
structure EngineImage where
  loops : List LoopDesc := []
  groups : List GroupDesc := []
  program : List Nat := []
  inSlots : List Nat := []
  outSlots : List Nat := []
  ranges : List (Nat × Nat) := []
  initial : Store Nat := []
  deriving DecidableEq, Repr

/-- A repeated block under way (R276): its first address, its length, and how many passes are left, this one included. -/
structure Repeat where
  first : Nat
  len : Nat
  left : Nat
  deriving DecidableEq, Repr

/-- One loop of an engine beside its registers: whether it was OPEN at the previous snapshot or at any point in applying
this one's writes (R289), whether a copy taken at this boundary makes it so (R300), and its track target of this period, once its output
was set to it (R290, R292). -/
structure LoopState where
  wasOpen : Bool := false
  copied : Bool := false
  tracked : Option Int := none
  deriving DecidableEq, Repr

/-- How far an engine is with its period: not started, running its loops, all loops ended, released (R283), or stopped at
t_B (R284). -/
inductive EnginePhase where
  | idle | running | ended | released | stopped
  deriving DecidableEq, Repr

/-- One logical control engine (R264, R266): what the image gave it, its data memory as unsigned 16-bit words by address,
accumulators in Q2.30 units, index register, program counter, loop in progress, instructions still to skip, repeated
block; whether it was stopped at the last t_B; the input slots' values and the output slots written this period; the loops, the groups evaluated in this period
(with output and winner), and the state ranges as last released (R283). -/
structure Engine where
  image : EngineImage := {}
  dm : Store Nat := []
  a0 : Int := 0
  a1 : Int := 0
  x : Nat := 0
  pc : Nat := 0
  loop : Nat := 0
  skip : Nat := 0
  rep : Option Repeat := none
  phase : EnginePhase := .idle
  late : Bool := false
  inVals : Store Nat := []
  outVals : Store Nat := []
  loops : Store LoopState := []
  groupsDone : List (Nat × Int × Option Nat) := []
  released : List Int := []
  deriving DecidableEq, Repr

/-- The control engines by logical number. -/
structure EngineState where
  units : Store Engine := []
  deriving DecidableEq, Repr



/-- What the image sets for a sampled-value subscription (R323): destination, APPID, the rate's code, ASDUs per frame, values,
confRev, Δ in µs, the mask of checked values, svID and full_scale. -/
structure SvConfig where
  dst : Nat := 0
  appid : Nat := 0
  rate : Nat := 0
  asdus : Nat := 1
  values : Nat := 1
  confRev : Nat := 0
  delta : Nat := 0
  used : Nat := 0
  svId : List Byte := []
  fullScale : List Nat := []
  deriving DecidableEq, Repr

/-- A received sample (R308): its number J = S × f_s + smpCnt since the PTP epoch, its INT32 values, and whether it is good,
questionable (R312, R313) or taken by simulation or test (R307). -/
structure SvSample where
  idx : Nat
  values : List Int
  good : Bool := true
  questionable : Bool := false
  simulated : Bool := false
  deriving DecidableEq, Repr

/-- One sampled-value stream beside its registers: its settings, the samples kept (oldest first), the numbers of all received in time (R306),
the numbers declared missing, those of them received late,
the last sample number received, whether any sample has come since application, the number after which a run of consecutive good samples
may begin (R314), whether the event of the present invalidity was raised, the last valid values in Q1.15 and at full precision (R316), and
the samples of frames that were discarded, simulated or not (R306). -/
structure SvStream where
  cfg : Option SvConfig := none
  samples : List SvSample := []
  heard : List Nat := []
  missing : List Nat := []
  lateSeen : List Nat := []
  last : Nat := 0
  seen : Bool := false
  runAfter : Nat := 0
  reported : Bool := false
  words : List Int := []
  full : List Int := []
  turned : List (Bool × Nat) := []
  deriving DecidableEq, Repr

/-- A member of a GOOSE subscription (R323). -/
structure GooseMember where
  position : Nat := 0
  dbpos : Bool := false
  tripValue : Nat := 0
  trip : Bool := false
  deriving DecidableEq, Repr

/-- What the image sets for a GOOSE subscription (R323). -/
structure GooseConfig where
  dst : Nat := 0
  appid : Nat := 0
  station : Bool := false
  failTrip : Bool := false
  confRev : Nat := 0
  ref : List Byte := []
  members : List GooseMember := []
  deriving DecidableEq, Repr

/-- One GOOSE subscription beside its register: its settings, the last accepted stNum and sqNum, whether any message has been
accepted since application, the member values as the messages code them, the members that changed since the
last snapshot (R317), the end of timeAllowedToLive, whether the event of the present invalidity was raised, stNum and sqNum of the messages
last taken, whose copies are not taken again, and of those that were discarded, simulated or not (R306). -/
structure GooseSub where
  cfg : Option GooseConfig := none
  stNum : Nat := 0
  sqNum : Nat := 0
  seen : Bool := false
  changed : Nat := 0
  liveUntil : Nat := 0
  reported : Bool := false
  values : List Nat := []
  taken : List (Nat × Nat) := []
  turned : List (Bool × Nat × Nat) := []
  deriving DecidableEq, Repr

/-- The subscriber beside its registers. -/
structure InputState where
  streams : Store SvStream := []
  goose : Store GooseSub := []
  deriving DecidableEq, Repr


/-- One converter result (R334, R337, R341): the signed 24-bit value and its flags. -/
structure AdcWord where
  value : Int := 0
  valid : Bool := false
  ovr : Bool := false
  held : Bool := false
  deriving DecidableEq, Repr

/-- One converter entry beside its register (R343): the latest result that completed on the Rigging die, whether it has
completed since the last boundary, whether the Mast die has it, what the snapshot took at the boundary, and the last eight
results with their sampling instants, newest first (R497). -/
structure AdcEntryState where
  latest : AdcWord := {}
  isNew : Bool := false
  delivered : Bool := true
  snap : AdcWord := {}
  snapNew : Bool := false
  snapDelivered : Bool := true
  recent : List (Nat × AdcWord) := []
  deriving DecidableEq, Repr

/-- One sequence beside its register (R339, R340), on the Rigging die: whether it runs and from which sampling instant, whether that
run was held before, the entries whose results are complete, the sampling instant of a held trigger and when it came, the overruns
that the Mast die has not counted yet, the last trigger instant taken, in 125 ps units of the count, and a trigger that found one held
and whose instant may yet prove the run's last: its sampling instant, and when it came. -/
structure SequenceState where
  running : Bool := false
  sampling : Nat := 0
  heldRun : Bool := false
  done : List Nat := []
  held : Option (Nat × Nat) := none
  overruns : Nat := 0
  last : Option Nat := none
  third : Option (Nat × Nat) := none
  deriving DecidableEq, Repr

/-- One converter slice beside its register (R330, R332): its last corrections in µV and ppm, if it has any. -/
structure SliceState where
  offset : Int := 0
  gain : Int := 0
  calibrated : Bool := false
  deriving DecidableEq, Repr

/-- The modulator bits of one slice on one channel in the channel's history buffer (R336), newest first, and the instant of the
newest. -/
structure ModulatorRun where
  slice : Nat
  upTo : Nat
  bits : List Bool
  deriving DecidableEq, Repr

/-- The local converter and the window comparators beside their registers, on the Rigging die: entries, sequences and slices; by
channel, the slices that have served it, newest first, each with the instant from which it did (R329), and the history buffer
(R336); the slice last relieved and since when it is so (R328); the take-over in progress (incoming slice, relieved slice, its start:
R329); the retired slices by count, whether rotation has stopped, and the slice at calibration (R333); the comparators that are
outside, above `hi` of them, unresolved, outside at any time since the last boundary, or degraded (R344 to R348, R557), as bits;
whether no image has given them thresholds since the cold reset (R348); what the snapshot took of them, and whether the Mast die has
it (R27, R344); what of WC_LATCH and WC_RB_FAIL the Mast die does not show yet; whether the read-back of this slice-test cycle is done
(R351); the instant from which the modulators have run (R342); and whether slices that calibrate for the first time since the
application are still to begin to serve (R65, R328). -/
structure ConverterState where
  entries : Store AdcEntryState := []
  sequences : Store SequenceState := []
  slices : Store SliceState := []
  served : Store (List (Nat × Nat)) := []
  history : Store (List ModulatorRun) := []
  rotateAt : Nat := 0
  lastRelieved : Nat := 24
  takeover : Option (Nat × Nat × Nat) := none
  retired : Nat := 0
  noRotation : Bool := false
  calSlice : Nat := 24
  outside : Nat := 0
  above : Nat := 0
  unresolved : Nat := 0
  wasOutside : Nat := 0
  degraded : Nat := 0
  fresh : Bool := true
  snap : Nat × Nat × Nat := (0, 0, 0)
  snapDelivered : Bool := true
  latch : Nat := 0
  rbFail : Nat := 0
  readBackDone : Bool := false
  modulatorsFrom : Nat := 0
  starting : Bool := true
  deriving DecidableEq, Repr

/-- One input sample of a metering point (R355 to R358): whether it is missing or the point was not READY, its instant by the
timebase count, its duration as a fraction of nanoseconds, and the raw voltages and currents of the three phases. -/
structure MeterSample where
  bad : Bool := false
  instant : Nat := 0
  num : Nat := 0
  den : Nat := 1
  v : List Int := []
  i : List Int := []
  deriving DecidableEq, Repr

/-- A gap that waits to be written to the ledger (R372): its kind, and its duration in milliseconds where it is known. -/
structure MeterGap where
  kind : Nat
  ms : Option Nat
  deriving DecidableEq, Repr

/-- One metering point beside its registers: the samples credited already, as far back as 250 ms, oldest first; the samples since
the last window's end; the residues of the delta, total and net registers in 2⁻³² unit (R364); the unmeasured time since the
last written save in nanoseconds; the ends of the windows credited (R372); the start of the first window; what a kind 1 gap
still waits for: whether the entry's time was valid, and that time in UTC milliseconds; the end of the last window before a warm
reset; and the gaps to be written. -/
structure MeterPoint where
  past : List MeterSample := []
  window : List MeterSample := []
  deltaRes : Store Nat := []
  totalRes : Store Nat := []
  netRes : Store Nat := []
  unmeasuredNs : Nat := 0
  lastEnd : Option Nat := none
  firstStart : Option Nat := none
  coldFrom : Option (Bool × Nat) := none
  warmFrom : Option Nat := none
  gaps : List MeterGap := []
  deriving DecidableEq, Repr

/-- Metrology beside its registers: the two points (0 MV, 1 LV), the valid boundary captures of the last second with their
elapsed grid time (R358), when the next periodic save falls due, whether a refused save waits to be tried again and since when,
and whether a periodic save has fallen due since the start (R373). -/
structure MetrologyState where
  points : Store MeterPoint := []
  captures : List (Nat × Nat × Nat) := []
  nextSave : Nat := 0
  retryFrom : Option Nat := none
  savedOnce : Bool := false
  closedEarly : Bool := false
  deriving DecidableEq, Repr


/-- One gate driver channel beside its registers (R384 to R393): the stamps of this interval, or of the next, did not arrive
in time; the cut of R392; the soft-off under way and its end (R390); whether the channel stays off until the next E after a
lock-out (R387); the end of the lower threshold's mask (R389); and the instant at which a driver disable turned it off (R393). -/
structure GateDriver where
  stampsLate : Bool := false
  nextLate : Bool := false
  interlockCut : Bool := false
  softOff : Option Nat := none
  untilNextE : Bool := false
  blankUntil : Nat := 0
  disabledAt : Option Nat := none
  deriving DecidableEq, Repr

/-- One trip input beside its registers (R396): the pin asserted after its filter, whether that assertion counts (it was not
masked), and the end of the mask. -/
structure TripInput where
  pin : Bool := false
  counts : Bool := false
  maskUntil : Nat := 0
  deriving DecidableEq, Repr

/-- The local power stage beside its registers: the channels of EE_L that are on by their stamps, the stamps of the
interval in progress, all of them and those still to be placed, those of the intervals to come with their E, the present interval's E as a
timebase count, whether an interval has begun, the gate drivers and the trip inputs. -/
structure PowerState where
  channelOn : List Nat := []
  stamps : List Stamp := []
  stampsLeft : List Stamp := []
  queued : List (Nat × List Stamp) := []
  e : Nat := 0
  begun : Bool := false
  drivers : Store GateDriver := []
  trips : Store TripInput := []
  deriving DecidableEq, Repr


/-- The fields h2 to h11 of a Halyard header (R452). -/
structure HalHeader where
  block : Bool := false
  react : Bool := false
  healthy : Bool := false
  takeover : Bool := false
  mode : Nat := 0
  member : Nat := 0
  rank : Nat := 0
  inStep : Bool := false
  deriving DecidableEq, Repr

/-- One part of a copy as far as it has been received: the index of its period, the shares whose CRC verified (R465), the
contents, and the instant at which the last share arrived. -/
structure CopyArrived where
  index : Nat := 0
  shares : List Nat := []
  content : CopyPart
  doneAt : Nat := 0
  deriving DecidableEq, Repr

/-- One frame of a copy as a Halyard lane sends it (R455, R465): the lane, the period index, the part with its contents, the share, and
which of the part's blocks the frame carries, the first of them and how many. -/
structure CopyFrame where
  lane : Nat
  index : Nat
  part : Nat
  share : Nat
  first : Nat
  blocks : Nat
  content : CopyPart
  deriving DecidableEq, Repr

/-- A HAL_MARK as it is sent (R455, R460, R476): the countdown in 125 ps units, the low 16 bits of the index of the boundary it counts to,
and the handover field. -/
structure HalMark where
  countdown : Nat
  index : Nat
  handover : Nat
  deriving DecidableEq, Repr

/-- How far the handing back is (R476): the period j of the request's mark, whether this member is the requester, and
whether the partner acknowledged it. -/
structure Handover where
  period : Nat := 0
  own : Bool := true
  acknowledged : Bool := false
  deriving DecidableEq, Repr

/-- A proof of the partner's identity as it was received (R457): the nonce of this member that it answers, the sender's member and rank,
its identity public key, and the signature. -/
structure IdProof where
  nonce : List Byte
  member : Nat
  rank : Nat
  key : List Byte
  sig : List Byte
  deriving DecidableEq, Repr

/-- The exchange of identities on one Halyard lane (R456, R457): the nonce this member sent, the partner's nonce that was
waits for this member's proof, and the partner's proof that waits to be checked. -/
structure IdExchange where
  nonce : List Byte := []
  toAnswer : List Byte := []
  proof : Option IdProof := none
  deriving DecidableEq, Repr

/-- The Halyard pair beside its registers: PAIR_EN as sampled (R447); probing and the boundaries without the partner
(R450); the last valid header of each lane, the fields in force (R454), and the modes of the two most recent valid headers, the newest
first (R449); the instant of the last valid header, the
period in which silence began, whether the standby was in step then (R474); take-over declared, what falls due at the
next boundary (R471), and whether the sheaves of this period go out all the same (R474); the mark: what it gave, and the run outside 1 ns (R460, R461); the copies: parts received, in two places each by the parity of their copy, the parts
applied for the present period, the run of good copies, further copies that R462 wants, the values this member released
by period (R464), and the frames and, by lane, the marks that it last sent; identity (R457); handing back (R476); the boundaries in a row without execution by the partner, and the period of the last of them (R474), and
since when the member has been healthy and in step. -/
structure HalyardState where
  pairEn : Bool := false
  cellsHeld : Bool := false
  probing : Bool := false
  probeRun : Nat := 0
  heads : Store HalHeader := []
  partner : HalHeader := {}
  recent : List Nat := []
  seenAt : Nat := 0
  silentPeriod : Option Nat := none
  coasting : Bool := false
  stoppedSending : Bool := false
  takeover : Bool := false
  takeNext : Bool := false
  yieldNext : Bool := false
  sendsNow : Bool := false
  markTarget : Option Nat := none
  markIndex : Nat := 0
  copySof : Option Nat := none
  driftRun : Nat := 0
  driftLost : Bool := false
  parts : Store (Option CopyArrived) := []
  appliedParts : List Nat := []
  divergent : Bool := false
  copyReef : Nat := 0
  goodCopies : Nat := 0
  copiesWanted : Nat := 0
  ownReleased : Store (List (Nat × List Int)) := []
  ids : Store IdExchange := []
  refusedAt : Option Nat := none
  handover : Option Handover := none
  askAgainAt : Nat := 0
  noExecRun : Nat := 0
  noExecAt : Option Nat := none
  stepFrom : Option Nat := none
  probeLeave : Option Nat := none
  copySent : List CopyFrame := []
  marks : Store (Option HalMark) := []
  deriving DecidableEq, Repr



/-- One ASDU of a published stream (R496): smpCnt, smpSynch, and the values with their quality (good or invalid, test). -/
structure Asdu where
  smpCnt : Nat
  smpSynch : Nat
  values : List (Int × Bool)
  test : Bool
  deriving DecidableEq, Repr

/-- What a frame that the device sends carries. -/
inductive FrameBody where
  /-- A safe status telegram's 32-byte payload (R437, R442). -/
  | telegram (payload : List Byte)
  /-- A GOOSE message of a block: stNum, sqNum, timeAllowedToLive in ms, member values, test bit (R501). -/
  | goose (block stNum sqNum ttl : Nat) (values : List Nat) (test : Bool)
  /-- A frame of a published stream (R496). -/
  | samples (stream : Nat) (asdus : List Asdu)
  /-- PTP messages; an Announce carries the data set and timeSource (R489), a Sync's origin and a Pdelay_Resp's correction are
  written as the frame departs (R491). -/
  | announce (data : AnnounceData) (timeSource : Nat)
  | sync (origin : Nat)
  | pdelayReq
  | pdelayResp (rx : Nat) (turnaround : Nat)
  /-- A PRP or HSR supervision frame (R482). -/
  | supervision
  /-- A station access response to a host, through the IPv4 address of the next hop (R505, R511). -/
  | response (host : IpHost) (hop : Nat) (bytes : List Byte)
  /-- The answers to ARP, with the device's MAC and IPv4 addresses, and to ICMP echo (R505). -/
  | arpReply (mac ip : Nat) (host : IpHost)
  | echoReply (host : IpHost) (hop : Nat) (data : List Byte)
  /-- A frame forwarded on a ring: its bytes; for a PTP event message, when it came in and what is added to its
  correctionField (R491). -/
  | forwarded (bytes : List Byte) (ptpIn : Option Nat) (correction : Nat)
  /-- A frame with the PRP trailer or the HSR tag of its pair (R482): the sequence number, the same in both copies, and the lower or
  the upper port's LAN or path. -/
  | tagged (hsr : Bool) (seq path : Nat) (frame : FrameBody)
  deriving DecidableEq, Repr

/-- One port beside its registers: the transmit queues with the queue number of each frame (R486), the frame in progress, the
received frames that wait, reserved and ordinary by length (R488), when a frame from another node of the pair last came, the
peer link delay, the departure of the Pdelay_Req that awaits its answer (R491), and whether lan_fault's event is armed. -/
structure PortState where
  queue : List (Nat × FrameBody) := []
  sending : Option FrameBody := none
  reserved : Nat := 0
  ordinary : List Nat := []
  heardAt : Nat := 0
  lanArmed : Bool := true
  peerDelay : Nat := 0
  requestAt : Option Nat := none
  deriving DecidableEq, Repr

/-- A clock heard announcing itself on a port (R489, R492): its newest Announce, the instants of its Announces of the last four
intervals, the newest first, and when it was first qualified. -/
structure ForeignMaster where
  port : Nat
  data : AnnounceData
  heard : List Nat := []
  qualifiedAt : Option Nat := none
  deriving DecidableEq, Repr

/-- The PTP clock (R492): its time in nanoseconds at the instant `since` of the model's clock, its rate against it in parts per
10⁹, the runs of Syncs inside 100 ns and outside 1,000 ns, the selected master, the sequence number of the last Sync taken, the
clocks heard, and since when the device listens for one. -/
structure PtpState where
  time : Nat := 0
  since : Nat := 0
  rate : Int := 0
  insideRun : Nat := 0
  outsideRun : Nat := 0
  selected : Option Nat := none
  lastSync : Option Nat := none
  masters : List ForeignMaster := []
  listensFrom : Nat := 0
  deriving DecidableEq, Repr

/-- One pulse output beside its registers: its level as active or not, and the last edge given of the periodic schedule
(in nanoseconds of PTP time). -/
structure PulseState where
  active : Bool := false
  lastEdge : Nat := 0
  restartAt : Nat := 0
  deriving DecidableEq, Repr

/-- What the image sets for a published stream (R512), and the ASDUs collected for its next frame. -/
structure PubStream where
  dst : Nat := 0
  appid : Nat := 0
  vlan : Nat := 0
  rate : Nat := 0
  perFrame : Nat := 1
  sequence : Nat := 0
  primaryOnly : Bool := false
  confRev : Nat := 0
  svId : List Byte := []
  values : List (Nat × Nat) := []
  collected : List Asdu := []
  deriving DecidableEq, Repr

/-- A member of a published GOOSE block (R500, R512). -/
structure PubMember where
  kind : Nat := 0
  dbpos : Bool := false
  bit : Nat := 0
  source : Nat := 0
  deriving DecidableEq, Repr

/-- What the image sets for a published GOOSE block (R512), and its stNum, sqNum, member values, whether it publishes
(R504), and its next repeat (R501). -/
structure PubGoose where
  dst : Nat := 0
  appid : Nat := 0
  vlan : Nat := 0
  fast : Bool := false
  primaryOnly : Bool := false
  tMin : Nat := 1
  tMax : Nat := 1
  confRev : Nat := 0
  ref : List Byte := []
  datSet : List Byte := []
  members : List PubMember := []
  stNum : Nat := 1
  sqNum : Nat := 0
  values : List Nat := []
  publishing : Bool := false
  interval : Nat := 0
  repeatAt : Nat := 0
  deriving DecidableEq, Repr

/-- A station key (R512): the public key and its role mask. -/
structure StationKey where
  publicKey : List Byte := []
  role : Nat := 0
  deriving DecidableEq, Repr, Inhabited

/-- A station request whose checks are not complete (R507, R510): its number, its bytes, when it arrived, on which port, and from
which host. -/
structure StationRequest where
  id : Nat
  bytes : List Byte
  arrived : Nat
  port : Nat := 0
  source : IpHost := {}
  deriving DecidableEq, Repr

/-- Network, time and station access beside their registers: ports, duplicate-discard entries (pair, source, sequence, time:
R482), when each frame that is sent at an interval last was (R482, R489), the next sequence number of each redundant pair (R482), the PTP
clock, the PTP times of the boundaries of the last millisecond with their instants (R497), pulse outputs, publishing, the IPv4
settings, station keys, requests under check, the last accepted seq of each key, the times of the requests accepted in the last
second, and the number of the next request. -/
structure NetState where
  ports : Store PortState := []
  discard : List (Nat × Nat × Nat × Nat) := []
  sentAt : Store (Option Nat) := []
  pairSeq : Store Nat := []
  ptp : PtpState := {}
  boundaries : List (Nat × Nat) := []
  pulses : Store PulseState := []
  streams : List PubStream := []
  blocks : List PubGoose := []
  ip : Nat := 0
  prefixLen : Nat := 0
  gateway : Nat := 0
  keys : List StationKey := []
  requests : List StationRequest := []
  lastSeq : Store (Option Nat) := []
  acceptedAt : List Nat := []
  nextRequest : Nat := 0
  deriving DecidableEq, Repr


/-- A request that waits in the Granary's queue: what for, when it was made, and whether it was counted as starved. -/
structure LeaveRequest where
  what : Leave
  since : Nat
  starved : Bool := false
  deriving DecidableEq, Repr

/-- One temperature sensor beside its registers: its last readings with their times, newest first (R522); whether R521's
and R522's passages are armed, and whether its last reading stood inside its limits. -/
structure SensorState where
  history : List (Nat × Int) := []
  limitArmed : Bool := true
  inside : Bool := false
  rateArmed : Bool := true
  deriving DecidableEq, Repr

/-- A shutdown record (R524). -/
structure ShutdownRecord where
  sensor : Nat := 0
  reading : Int := 0
  limSet : Nat := 0
  mode : Nat := 0
  reef : Nat := 0
  ptpValid : Bool := false
  time : Nat := 0
  deriving DecidableEq, Repr

/-- The Granary and the thermal rules beside their registers: the requests waiting and the grants held, the sensors, the
temperature words of sensors 0 to 21 as last mirrored (R14), the
time of the last evaluation, the reef level that H alone gives and from when H has stood high enough for its fall (R536), the
last one with a sensor above its limits (R523), the last one at which the re-arm condition failed (R526), how many evaluations in a
row found a sensor at or above its shutdown limit (R524), the records of shutdowns that are not in flash yet, the last declaration, when it was last refused, and the
charger. -/
structure ThermalState where
  queue : List LeaveRequest := []
  grants : List LeaveRequest := []
  sensors : Store SensorState := []
  mirror : List (Option Int) := []
  evalAt : Nat := 0
  reefOwn : Nat := 0
  reefFrom : Option Nat := none
  calmFrom : Option Nat := none
  coolFrom : Option Nat := none
  records : List ShutdownRecord := []
  declaredAt : Nat := 0
  recordTriedAt : Nat := 0
  shutRun : Nat := 0
  chargeStopped : Bool := false
  readyClearFrom : Option Nat := some 0
  readyReported : Bool := false
  deriving DecidableEq, Repr


/-- A slice under way (R540 to R546): the instance as 128 × kind + index, kinds as SLT_LAST codes them; the spare that carries its
load, if any, and the logical engine or lane carried; when the slice or its repeat began; the repeat of R550; whether its test is
over, with whether the instance failed; and from when it may be handed back. -/
structure SliceRun where
  inst : Nat
  carrier : Option Nat := none
  load : Nat := 0
  began : Nat := 0
  again : Bool := false
  done : Bool := false
  failed : Bool := false
  backFrom : Nat := 0
  deriving DecidableEq, Repr

/-- The slice test beside its registers: the instances left in the cycle by track, the slices under way by track, when the cycle
began and when the next start falls due, whether lateness was reported, whether an instance or the checks were skipped; when the
security slice falls due; the EE_S used last; the lane that each spare PCS keeps permanently; the gate driver channels whose supplies this cycle
has checked (R555); and whether the power-on test has
run for all instances or only the engines remain (R64, R558). -/
structure SliceTestState where
  queue0 : List Nat := []
  queue1 : List Nat := []
  run0 : Option SliceRun := none
  run1 : Option SliceRun := none
  cycleFrom : Nat := 0
  nextStart : Option Nat := none
  lateSeen : Bool := false
  skippedAny : Bool := false
  securityAt : Nat := 0
  lastSpare : Nat := 1
  pcsFor : Store (Option Nat) := []
  supplyDone : List Nat := []
  enginesOnly : Bool := false
  deriving DecidableEq, Repr



/-- What triggers a disturbance record (R584). -/
inductive RecordCause where
  | escalation (source : Nat)
  | comparator (n : Nat)
  | trip (t : Nat)
  | hold
  | station
  deriving DecidableEq, Repr

/-- One ledger entry (R579): header and body. -/
structure LedgerEntry where
  kind : Nat
  timeValid : Bool
  seq : Nat
  start : Nat
  time : Nat
  body : List Byte
  deriving DecidableEq, Repr

/-- One page of the ledger (R578): its block and page, its write sequence, its entries, whether it can be read, and the places of the
entries in it whose own CRC has failed (R579). -/
structure LedgerPage where
  block : Nat
  page : Nat
  writeSeq : Nat
  entries : List LedgerEntry
  readable : Bool := true
  lost : List Nat := []
  deriving DecidableEq, Repr

/-- What a page that waits to be written to the ledger is for (R369, R371, R59, R71, R91, R507, R575, R524). -/
inductive LedgerJob where
  | save | final | lockout | cleared | image | start | scrub | shutdown
  deriving DecidableEq, Repr

/-- A record under way or locked (R584, R585): its id, the trigger's time and causes, the sets it holds as ring positions with
their times, how many channels they have, whether its pre-trigger span was shortened, how many MiB of it are written, and the blocks
erased for it so far (R576). -/
structure DrRecord where
  id : Nat
  trigAt : Nat
  causes : List RecordCause
  sets : List (Nat × Nat)
  channels : Nat
  truncated : Bool := false
  flushed : Nat := 0
  blocks : List Nat := []
  deriving DecidableEq, Repr

/-- A record in RECORDS (R585): the header's contents, the samples, the blocks it occupies, and whether its pages read (R567). `first` and `trig` are UTC
milliseconds when `timeValid` holds and timebase milliseconds otherwise. -/
structure StoredRecord where
  id : Nat
  timeValid : Bool
  first : Nat
  trig : Nat
  causes : List RecordCause
  truncated : Bool
  channels : Nat
  times : List Nat
  samples : List (List Nat)
  blocks : List Nat
  readable : Bool := true
  deriving DecidableEq, Repr

/-- Storage, ledger and records beside their registers. Flash, and what is kept with it over every reset: the blocks known to be bad,
those whose bad-block marker is set (R569, R570), the pages by number as they stand in the array, where they are not erased (R565), the
erase counts; what the ledger's pages hold, in order, with its erased blocks ahead, the write point and the next sequences; where the LOG
and RECORDS circles go on, with what they hold; when each copy was last refreshed, by powered time and by PTP time, and the copies that
failed (R575); and the time spent unpowered (R574). In the controller: the devices fitted, whether device 0, device 1 and the profile
answer, and their blocks (R564); pages that wait to be written with what they are for, those written and not yet reported; whether a
bad-block table or a carry-forward of the ledger waits to be written (R570, R578); the regions that are short (R571); copies scheduled for
refresh; the lockout found at the last scan (R60), and whether the ledger has been scanned since the cold start (R366). In the recorder:
the times of the unlocked sets of the ring, oldest first, the open record, the records that await flush, the next id, and the image's
channel table. -/
structure StorageState where
  bad : List Nat := []
  marked : List Nat := []
  nand : Store NandPage := []
  erases : Store Nat := []
  pages : List LedgerPage := []
  erased : List Nat := []
  writeBlock : Nat := 124
  writePage : Nat := 0
  nextSeq : Nat := 1
  nextPageSeq : Nat := 1
  logNext : Nat := 0
  logBlocks : List (Nat × List FirmwareLogEntry) := []
  recNext : Nat := 0
  records : List StoredRecord := []
  refreshed : Store (Nat × Option Nat) := []
  jobs : List (LedgerJob × List (Nat × List Byte)) := []
  written : List LedgerJob := []
  scheduled : List Nat := []
  failedCopies : List Nat := []
  unpowered : Nat := 0
  devices : Bool × Bool × Bool × Nat := (false, false, false, 0)
  tableDue : Bool := false
  carryDue : Bool := false
  shortRegions : List Nat := []
  nextWriteSeq : Nat := 1
  lockoutFound : Option Nat := none
  scanned : Bool := false
  ring : List (Nat × Nat) := []
  ringNext : Nat := 0
  openRecord : Option DrRecord := none
  locked : List DrRecord := []
  nextId : Nat := 1
  station : List Byte := []
  channelTable : List (List Byte) := []
  deriving DecidableEq, Repr



/-- An owner slot (R590, R599): the hash bits burned so far, byte 0 first, and its valid field. -/
structure OwnerSlot where
  hash : List Byte := []
  valid : Bool := false
  deriving DecidableEq, Repr

/-- A response to a debug challenge whose check waits (R604): the 64 bytes of the challenge, the signature over them, and whether the
challenge still stands. -/
structure ChallengeResponse where
  message : List Byte
  sig : List Byte
  stands : Bool := true
  deriving DecidableEq, Repr

/-- Whether the boundary-scan cells drive the balls, and by which instruction (R602). -/
inductive ScanDrive where
  | off | level | pulse | train
  deriving DecidableEq, Repr

/-- Identity, boot and debug beside their registers: the ROM digests of the two firmware keys (R594), and the signatures that ROM
holds by kind of instance, 0 where none is listed (R541; log entry 1904); the fuses no register shows
whole (R590: the device secret, the identity key digest, the owner slots); the owner key of the applied image, in force with its hash
(R604); the slot in force since the last start (R598, R600); whether the identity key is to be derived
(R592), and whether that follows a security slice (R547); the open challenge's bytes and when it opened; a response whose check waits: the challenge's bytes, the signature, and whether the challenge still stands
(R604); when the boot ROM last tried the copies (R597) and whether the running copy is other than the highest version (R601); the
boundary-scan cells, whether they drive the balls, and the bits the test access port last shifted out, first bit first. -/
structure SecurityState where
  romDigest0 : List Byte := []
  romDigest1 : List Byte := []
  signatures : Store Nat := []
  deviceSecret : Nat := 0
  idDigest : Nat := 0
  slot0 : OwnerSlot := {}
  slot1 : OwnerSlot := {}
  ownerKey : List Byte := []
  inForce : Nat := 0
  deriveDue : Bool := true
  rederiving : Bool := false
  challenge : List Byte := []
  challengeAt : Nat := 0
  response : Option ChallengeResponse := none
  bootTried : Option Nat := none
  notHighest : Bool := false
  scan : List Bool := []
  drive : ScanDrive := .off
  shiftOut : List Bool := []
  deriving DecidableEq, Repr

/-- Everything the spec gives the block, apart from the queue of waiting commands. `regs` holds the register fields by
`Fld.key`; a field not listed holds its value after a cold start (R5). `drawn` counts the free values used so far: it is
the model's own (log entry 2). -/
structure Chip where
  regs : Store Nat := []
  sram : SramState := {}
  bus : BusState := {}
  clock : ClockState := {}
  live : LiveState := {}
  sys : SystemSettings := {}
  modes : ModeState := {}
  pll : PllState := {}
  lanes : Store LaneState := []
  edges : EdgeState := {}
  arms : ArmsState := {}
  engines : EngineState := {}
  faults : FaultState := {}
  spr : SprState := {}
  thermal : ThermalState := {}
  converter : ConverterState := {}
  power : PowerState := {}
  triggers : List RecordCause := []
  halyard : HalyardState := {}
  inputs : InputState := {}
  net : NetState := {}
  metrology : MetrologyState := {}
  storage : StorageState := {}
  slices : SliceTestState := {}
  security : SecurityState := {}
  drawn : Nat := 0
  deriving DecidableEq, Repr

/-- The state of the model: the block and the commands that wait, first in, first out. -/
structure State where
  chip : Chip := {}
  pending : List Instr := []
  deriving DecidableEq, Repr

/-- No command of this block stops with a fault: the type is empty. -/
inductive Fault where
  deriving DecidableEq, Repr

/-- The refusals of the model. -/
inductive Refusal where
  /-- Raised by exec's arm for a command whose meaning is not written yet; safe: the model stops. -/
  | notModelled (mnemonic : String)
  deriving DecidableEq, Repr

/-- The machine right after a power-on reset (R55): every register field at its value after a cold start, PORST_N still
low, the SRAM without contents (R62), no command waiting. -/
def State.reset : State := {}

end Sys2Proof.Machine
end

