-- ==== Sys2Proof/Machine/Ops.lean ====
section
/-! DEFINITION. The named operations over the state: register fields, counters, SRAM, time, fault events, free values.
Every read and every write of a register field goes through `Chip.rd` and `Chip.wr`. -/

namespace Sys2Proof.Machine

/-- The value of field `f` of instance `i`. -/
def Chip.rd (s : Chip) (f : Fld) (i : Nat := 0) : Nat := storeGet s.regs (f.key i) (f.coldAt i)

/-- A field read as a truth value. -/
def Chip.on (s : Chip) (f : Fld) (i : Nat := 0) : Bool := s.rd f i != 0

/-- A field read as a signed number of its own width. -/
def Chip.rdInt (s : Chip) (f : Fld) (i : Nat := 0) : Int := signed f.spec.width (s.rd f i)

/-- Field `f` of instance `i` set to `v`, cut to the field's width. -/
def Chip.wr (s : Chip) (f : Fld) (v : Nat) (i : Nat := 0) : Chip :=
  { s with regs := storePut s.regs (f.key i) (f.coldAt i) (v % 2 ^ f.spec.width) }

/-- A field set from a truth value. -/
def Chip.wrFlag (s : Chip) (f : Fld) (b : Bool) (i : Nat := 0) : Chip := s.wr f (flag b) i

/-- A signed field set to `x`. -/
def Chip.wrInt (s : Chip) (f : Fld) (x : Int) (i : Nat := 0) : Chip := s.wr f (unsigned f.spec.width x) i

/-- A counter raised by `n`; it saturates at the largest value of its field. -/
def Chip.count (s : Chip) (f : Fld) (i : Nat := 0) (n : Nat := 1) : Chip :=
  s.wr f (min (s.rd f i + n) (2 ^ f.spec.width - 1)) i

/-- One bit of a field of bits set to `b`. -/
def Chip.wrBit (s : Chip) (f : Fld) (bit : Nat) (b : Bool) (i : Nat := 0) : Chip :=
  s.wr f (setBit (s.rd f i) bit b) i

/-- One bit of a field of bits. -/
def Chip.rdBit (s : Chip) (f : Fld) (bit : Nat) (i : Nat := 0) : Bool := bitAt (s.rd f i) bit

/-- The state with `g` applied for each element of a list, in order. -/
def Chip.each {α : Type} (s : Chip) (l : List α) (g : Chip → α → Chip) : Chip := l.foldl g s

/-- `g` applied where the condition holds. -/
def Chip.onlyIf (s : Chip) (c : Bool) (g : Chip → Chip) : Chip := if c then g s else s

/-- A fresh free value: the state with one more drawn, and its number (log entry 2). -/
def Chip.draw (s : Chip) : Nat × Chip := (s.drawn, { s with drawn := s.drawn + 1 })

/-- A free byte and a free word (log entry 2). -/
def Chip.freeByte (s : Chip) : Byte × Chip := (Config.freeByte s.drawn 0, (s.draw).2)
def Chip.freeNat (s : Chip) : Nat × Chip := ((Config.freeWord s.drawn).toNat, (s.draw).2)

/-- Time passes up to instant `t`, in nanoseconds since power-on; an instant already past changes nothing. The timebase
count advances with it once it has started, and freezes while synth_down is 1 (R116, R119). -/
def Chip.atTime (s : Chip) (t : Nat) : Chip :=
  if t ≤ s.clock.now then s
  else
    let d := t - s.clock.now
    let run := s.clock.started && !s.on .pllStat_synthDown
    { s with clock := { s.clock with now := t, tb := if run then s.clock.tb + d else s.clock.tb } }

/-- An event raised at origin `o` on the Mast die is on its way to the collector (R401, R414). -/
def Chip.raise (s : Chip) (o : Nat) : Chip :=
  { s with faults := { s.faults with events := s.faults.events ++ [o] } }

/-- An event raised at origin `o` on the Rigging die rides in the event field of the IDB (R414): it is on its way while
the link is up, and otherwise waits for the next frame. -/
def Chip.raiseRigging (s : Chip) (o : Nat) : Chip :=
  if s.on .idbStat_linkUp then s.raise o
  else { s with faults := { s.faults with idbEvents := s.faults.idbEvents ++ [o] } }

/-- The first address of the SRAM and the address after its last (R34). -/
def sramBase : Nat := 0x10000000
def sramEnd : Nat := 0x12000000

/-- What a byte of SRAM that nothing has written reads as (DESIGN CHOICE, log entry 5). -/
def sramDefault : Byte := 0

/-- The number of the 128-bit SRAM word that holds address `a` (R35). -/
def sramWordOf (a : Nat) : Nat := (a - sramBase) / 16

/-- What the 138-bit code shows of a word (R35): nothing wrong, an error that it corrects, one that it detects, or one beyond what
the spec says of it. -/
inductive SramFinding where
  | clean | corrected | uncorrectable | beyond
  deriving DecidableEq, Repr

/-- The code corrects one bit and two adjacent bits, and detects every other double error and a wrong address (R35). -/
def sramFinding (flips : List Nat) : SramFinding :=
  if flips.contains 138 then .uncorrectable
  else match flips with
    | [] => .clean
    | [_] => .corrected
    | [i, j] => if i + 1 = j ∨ j + 1 = i then .corrected else .uncorrectable
    | _ => .beyond

/-- What an access to a 128-bit word finds. -/
def Chip.sramShows (s : Chip) (word : Nat) : SramFinding := sramFinding (storeGet s.sram.upsets word [])

/-- The data of a word can be had: it is right, or the code corrects it. -/
def Chip.sramIntact (s : Chip) (word : Nat) : Bool :=
  match s.sramShows word with
  | .clean | .corrected => true
  | .uncorrectable | .beyond => false

/-- One byte of SRAM; of a word whose data cannot be had it is open (R38, log entry 104). Of the preserved region (R34) the metrology
totals, the fault sticky image and the firmware log stand in the state outside these bytes: the spec gives that region no layout
(DESIGN CHOICE, log entry 22). -/
def Chip.sramByte (s : Chip) (a : Nat) : Byte :=
  if s.sramIntact (sramWordOf a) then storeGet s.sram.cells a sramDefault else Config.lostByte a s.drawn

/-- One byte of SRAM written. -/
def Chip.sramPutByte (s : Chip) (a : Nat) (v : Byte) : Chip :=
  { s with sram := { s.sram with cells := storePut s.sram.cells a sramDefault v } }

/-- The 32-bit word at SRAM address `a`, least significant byte at the lowest address (log entry 6). -/
def Chip.sramWord (s : Chip) (a : Nat) : Nat :=
  leNat [s.sramByte a, s.sramByte (a + 1), s.sramByte (a + 2), s.sramByte (a + 3)]

/-- The 16-bit half word at SRAM address `a`. -/
def Chip.sramHalf (s : Chip) (a : Nat) : Nat := leNat [s.sramByte a, s.sramByte (a + 1)]

/-- `n` bytes of SRAM from address `a`. -/
def Chip.sramBytes (s : Chip) (a n : Nat) : List Byte := (List.range n).map fun i => s.sramByte (a + i)

/-- Bytes written to consecutive SRAM addresses from `a`. -/
def Chip.sramPutBytes (s : Chip) (a : Nat) : List Byte → Chip
  | [] => s
  | b :: r => (s.sramPutByte a b).sramPutBytes (a + 1) r

/-- A 128-bit word stands right in the SRAM: its code has been formed anew. -/
def Chip.sramHeal (s : Chip) (word : Nat) : Chip :=
  { s with sram := { s.sram with upsets := storePut s.sram.upsets word [] [] } }

/-- An uncorrectable SRAM word is recorded and raises its event; it is not written back (R38). -/
def Chip.sramUncorrectable (s : Chip) (word : Nat) : Chip :=
  ((s.wr .sramUncorrAddr_addr ((sramBase + 16 * word) / 16)).wr .sramUncorrAddr_valid 1).raise originSram

/-- An access to a 128-bit word (R35, R38, R39): an error that the code corrects is counted, one that it detects is recorded; whether
it detects an error beyond those is open (log entry 104). -/
def Chip.sramAccess (s : Chip) (word : Nat) : Chip :=
  match s.sramShows word with
  | .clean => s
  | .corrected => s.count .sramCorrCount_count
  | .uncorrectable => (s.draw).2.sramUncorrectable word
  | .beyond =>
    let r := s.freeNat
    r.2.onlyIf (r.1 % 2 == 0) fun s => s.sramUncorrectable word

/-- The device reads the SRAM at some addresses: one access to each word. -/
def Chip.sramTouch (s : Chip) (addrs : List Nat) : Chip :=
  if s.sram.upsets.isEmpty then s else s.each (addrs.map sramWordOf).eraseDups fun s w => s.sramAccess w

/-- A write of fewer than 128 bits inside one word (R37): the word is read, merged and written whole; an uncorrectable error found by
the read aborts the write. Where the read misses an error beyond the code, the bytes that are merged with are open (log entry
104). -/
def Chip.sramMerge (s : Chip) (a : Nat) (bs : List Byte) : Chip :=
  let w := sramWordOf a
  match s.sramShows w with
  | .clean => s.sramPutBytes a bs
  | .corrected => ((s.sramAccess w).sramHeal w).sramPutBytes a bs
  | .uncorrectable => s.sramAccess w
  | .beyond =>
    let n := s.drawn
    let first := sramBase + 16 * w
    let u := s.sramAccess w
    if (Config.freeWord n).toNat % 2 = 0 then u
    else ((u.sramPutBytes first ((List.range 16).map fun i => s.sramByte (first + i))).sramHeal w).sramPutBytes a bs

/-- Bytes written from address `a`, at which a 128-bit word begins (R35, R37): the codes of the words they fill are formed anew, whatever
those words held, and what is left over is written as a part of the last word. -/
def Chip.sramFill (s : Chip) (a : Nat) (bs : List Byte) : Chip :=
  let n := bs.length / 16 * 16
  let s := ({ s with sram := { s.sram with
      upsets := s.sram.upsets.filter fun p => p.1 < sramWordOf a || sramWordOf (a + n) ≤ p.1 } }).sramPutBytes a (bs.take n)
  if n < bs.length then s.sramMerge (a + n) (bs.drop n) else s

/-- The 32-bit word at SRAM address `a` set to `v`. -/
def Chip.sramPutWord (s : Chip) (a v : Nat) : Chip := s.sramMerge a (leBytes 4 v)

/-- The 16-bit half word at SRAM address `a` set to `v`. -/
def Chip.sramPutHalf (s : Chip) (a v : Nat) : Chip := s.sramMerge a (leBytes 2 v)

/-- The control period in units of 125 ps, and LEAD in the same units (R10, R32). -/
def Chip.tCtl (s : Chip) : Nat := 4000 * s.rd .periodCfg_tCtl
def Chip.lead (s : Chip) : Nat := 4000 * s.rd .periodCfg_lead

/-- The control period in nanoseconds. -/
def Chip.tCtlNs (s : Chip) : Nat := 500 * s.rd .periodCfg_tCtl

/-- The length S of the sheaf transmission window in nanoseconds (R19). -/
def Chip.sheafWindowNs (s : Chip) : Nat :=
  match s.rd .periodCfg_sheafRate with
  | 0 => 3000
  | 1 => 1500
  | _ => 1000

/-- The timebase count of the present period's boundary (R119). -/
def Chip.boundaryTb (s : Chip) : Nat := s.clock.b0 + (s.clock.n - 1) * s.tCtlNs

/-- The instants t_B, t_E and t_S of a period, in nanoseconds after its boundary (R19). -/
def Chip.tB (s : Chip) : Nat := s.tCtlNs - 3000 - s.sheafWindowNs
def Chip.tE (s : Chip) : Nat := s.tB + 1000
def Chip.tS (s : Chip) : Nat := s.tE + 1500

/-- A period is in progress. -/
def Chip.inPeriod (s : Chip) : Bool := s.clock.gridOn && s.clock.n != 0

/-- The time since the boundary, in nanoseconds. -/
def Chip.phaseNs (s : Chip) : Nat := s.clock.tb - s.boundaryTb

/-- The hand-over points of R554: a period boundary, before anything else of its period, and a reload, before t_S. -/
def Chip.handoverBoundary (s : Chip) : Bool := s.inPeriod && s.clock.step == 0
def Chip.handoverReload (s : Chip) : Bool := s.inPeriod && s.clock.step == 4

/-- The lane that serves cell `nn`, by lane_sel of its engine (R200). -/
def Chip.laneOfCell (s : Chip) (nn : Nat) : Nat :=
  match s.rd .eeCfg_laneSel nn with
  | 1 => 98
  | 2 => 99
  | _ => nn

/-- The cell that lane `n` serves, if any (R200). -/
def Chip.cellOfLane (s : Chip) (n : Nat) : Option Nat :=
  (List.range 96).find? fun nn => s.on .eeCfg_enabled nn && s.laneOfCell nn == n

/-- The units that are READY, as bits: lanes from bit 0, edge engines from 128 (96 EE_L, 100 and 101 the spares), control engines
from 256, converter slices from 320 (R65, R72). -/
def Chip.readyUnits (s : Chip) : Nat :=
  let lanes := s.rd .readyLaneA_ready + 2 ^ 32 * s.rd .readyLaneB_ready + 2 ^ 64 * s.rd .readyLaneC_ready + 2 ^ 96 * s.rd .readyUnit_ax
  let edges := s.rd .readyEdgeA_ready + 2 ^ 32 * s.rd .readyEdgeB_ready + 2 ^ 64 * s.rd .readyEdgeC_ready +
    2 ^ 96 * s.rd .readyUnit_eeL + 2 ^ 100 * s.rd .readyUnit_eeS
  lanes + 2 ^ 128 * edges + 2 ^ 256 * s.rd .readyUnit_ce + 2 ^ 320 * s.rd .readyIo_slice

/-- From a boundary on the units that are READY there can be used (R65). -/
def Chip.takeReady (s : Chip) : Chip := { s with modes := { s.modes with usable := s.readyUnits } }

/-- A unit whose READY bit clears is not usable until a boundary finds it READY again (R65, R66). -/
def Chip.unusable (s : Chip) (unit : Nat) : Chip :=
  { s with modes := { s.modes with usable := setBit s.modes.usable unit false } }

/-- The gated or reset edge and control engines are not usable. -/
def Chip.enginesUnusable (s : Chip) : Chip :=
  { s with modes := { s.modes with usable := s.modes.usable % 2 ^ 128 + 2 ^ 320 * (s.modes.usable / 2 ^ 320) } }

/-- A lane, an edge engine, a control engine or a converter slice may be used by the rest of the device (R65). -/
def Chip.laneUsable (s : Chip) (n : Nat) : Bool := bitAt s.modes.usable n
def Chip.edgeUsable (s : Chip) (e : Nat) : Bool := bitAt s.modes.usable (128 + e)
def Chip.engineUsable (s : Chip) (p : Nat) : Bool := bitAt s.modes.usable (256 + p)
def Chip.sliceUsable (s : Chip) (k : Nat) : Bool := bitAt s.modes.usable (320 + k)

/-- Record access: lane, leg, cell, arm and sensor by number. -/
def Chip.lane (s : Chip) (n : Nat) : LaneState := storeGet s.lanes n {}
def Chip.setLane (s : Chip) (n : Nat) (l : LaneState) : Chip := { s with lanes := storePut s.lanes n {} l }
def Chip.leg (s : Chip) (n : Nat) : Leg := storeGet s.edges.legs n {}
def Chip.setLeg (s : Chip) (n : Nat) (l : Leg) : Chip :=
  { s with edges := { s.edges with legs := storePut s.edges.legs n {} l } }
def Chip.cell (s : Chip) (n : Nat) : CellState := storeGet s.arms.cells n {}
def Chip.setCell (s : Chip) (n : Nat) (c : CellState) : Chip :=
  { s with arms := { s.arms with cells := storePut s.arms.cells n {} c } }
def Chip.arm (s : Chip) (a : Nat) : ArmState := storeGet s.arms.arms a {}
def Chip.setArm (s : Chip) (a : Nat) (r : ArmState) : Chip :=
  { s with arms := { s.arms with arms := storePut s.arms.arms a {} r } }

/-- The meaning of a command that always goes on: the block's next state, with the queue as it stands. -/
def State.does (s : State) (f : Chip → Chip) : Host.Outcome State Fault Refusal :=
  .next { s with chip := f s.chip }

end Sys2Proof.Machine
end

