-- ==== Sys2Proof/Machine/Line.lean ====
section
/-! DEFINITION. The line code of the lanes: blocks, scrambler, stuffing, the hunt for block lock (R133 to R142, R451 to R453), and the
frames of the cell link as blocks: the blocks of a sheaf (R166 to R174) and the reading of a bale (R191, R195). -/

namespace Sys2Proof.Machine

/-- One bit of the CRC-4 of R452: polynomial x⁴ + x + 1. -/
def crc4Bit (c : Nat) (b : Bool) : Nat :=
  let fb := xor (bitAt c 3) b
  let sh := c * 2 % 16
  if fb then sh ^^^ 3 else sh

/-- The CRC-4 of bits in send order, initial value 0 (R452). -/
def crc4 (l : List Bool) : Nat := l.foldl crc4Bit 0

/-- A header of the 96-bit code, 32 bits, h0 first, is valid (R453). -/
def halBitsValid (h : List Bool) : Bool :=
  let b (i : Nat) : Bool := h.getD i false
  (b 0 != b 1) && (!b 30 && b 31) &&
    crc4 ((h.drop 2).take 24) == 8 * flag (b 26) + 4 * flag (b 27) + 2 * flag (b 28) + flag (b 29)

/-- The bits h3 to h31 of the header that a Halyard lane sends (R452). -/
def HalHeader.rest (h : HalHeader) : List Bool :=
  let body := [h.block, h.react, h.healthy, h.takeover, bitAt h.mode 2, bitAt h.mode 1, bitAt h.mode 0, bitAt h.member 0, bitAt h.rank 0,
    h.inStep] ++ List.replicate 14 false
  let c := crc4 body
  body.tail ++ [bitAt c 3, bitAt c 2, bitAt c 1, bitAt c 0, false, true]

/-- A received block has a valid header: 01 or 10 in h0 h1 (R133), without a stuffing violation in the block (R139). A control block has
10. -/
def lineValid (b : LineBlock) : Bool := b.valid
def lineControl (b : LineBlock) : Bool := b.h0 && !b.h1

/-- The type of a control block: the first byte of its payload (R135). -/
def lineKind (b : LineBlock) : Nat := byteAt b.payload 0

/-- The types of control blocks on a lane of the 67-bit code (R135, R166), and on a Halyard lane (R455). -/
def knownControl (halyard : Bool) (k : Nat) : Bool :=
  if halyard then [0x1E, 0x2D, 0x33, 0x96, 0x99, 0xAA, 0xB4, 0xCC].contains k
  else [0x1E, 0x2D, 0x33, 0x4B, 0x55, 0x66, 0x78, 0x87].contains k

/-! ## Scrambling and stuffing -/

/-- One payload bit scrambled or descrambled (R137): the history holds the scrambled bits before it, newest first, so that
`history[38]` is the bit 39 payload bits earlier. -/
def scrambleBit (history : List Bool) (d : Bool) : Bool :=
  xor d (xor (history.getD 38 false) (history.getD 57 false))

/-- Payload bits scrambled in send order (R137), and the history after them. -/
def scramble (history : List Bool) : List Bool → List Bool × List Bool
  | [] => ([], history)
  | d :: r =>
    let b := scrambleBit history d
    let rest := scramble (b :: history.take 57) r
    (b :: rest.1, rest.2)

/-- Scrambled bits descrambled in receive order (R137). -/
def descramble (history : List Bool) : List Bool → List Bool
  | [] => []
  | b :: r => scrambleBit history b :: descramble (b :: history.take 57) r

/-- The run after one more bit. -/
def LineRun.next (r : LineRun) (b : Bool) : LineRun := if r.len ≠ 0 ∧ b = r.last then ⟨b, r.len + 1⟩ else ⟨b, 1⟩

/-- Stuffing (R138): after 40 identical bits one bit of the opposite value, which begins a new run; and the run after the bits. -/
def stuff (run : LineRun) : List Bool → List Bool × LineRun
  | [] => ([], run)
  | b :: r =>
    let run := run.next b
    if run.len = 40 then
      let rest := stuff ⟨!b, 1⟩ r
      (b :: (!b) :: rest.1, rest.2)
    else
      let rest := stuff run r
      (b :: rest.1, rest.2)

/-- The bits of a byte in send order, least significant first, and the byte of eight of them (R134). -/
def byteBits (b : Byte) : List Bool := (List.range 8).map fun i => b.getLsbD i
def bitsByte (l : List Bool) : Byte := BitVec.ofNat 8 (l.foldr (fun b n => flag b + 2 * n) 0)

/-! ## The transmitter -/

/-- A block onto the line: its header in the clear, its payload scrambled, both stuffed (R133, R137, R138, R451). -/
def LineTx.send (x : LineTx) (b : LineBlock) : List Bool × LineTx :=
  let p := scramble x.history (b.payload.flatMap byteBits)
  let l := stuff x.run ([b.h0, b.h1, b.h2] ++ b.rest ++ p.1)
  (l.1, ⟨p.2, l.2⟩)

/-- Blocks onto the line, one after another. -/
def LineTx.sendAll (x : LineTx) : List LineBlock → List Bool × LineTx
  | [] => ([], x)
  | b :: r =>
    let f := x.send b
    let rest := f.2.sendAll r
    (f.1 ++ rest.1, rest.2)

/-! ## The receiver -/

/-- The bits of a block and of its header, by the code of the lane (R130, R133, R451). -/
def blockBits (halyard : Bool) : Nat := if halyard then 96 else 67
def headerBits (halyard : Bool) : Nat := if halyard then 32 else 3

/-- The block whose bits are complete: its header judged, its payload descrambled (R133, R137, R139, R453). -/
def LineRx.block (halyard : Bool) (r : LineRx) : LineBlock :=
  let l := r.part.reverse
  let head := l.take (headerBits halyard)
  let plain := descramble r.history (l.drop (headerBits halyard))
  { h0 := head.getD 0 false, h1 := head.getD 1 false, h2 := head.getD 2 false
    payload := (List.range 8).map fun i => bitsByte ((plain.drop (8 * i)).take 8)
    valid := (if halyard then halBitsValid head else head.getD 0 false != head.getD 1 false) && !r.violation
    usable := !r.first }

/-- The receiver after a block (R140, R142): in lock its header joins the last 64; while hunting it is counted at the candidate, which
moves by one bit on the third invalid header, and 64 blocks with at most two are block lock. A control block of an unknown type, which R135
counts as an invalid header, does not join the 64 as one: the spec does not say whether it does (DESIGN CHOICE, log entry 501). -/
def LineRx.after (r : LineRx) (b : LineBlock) : LineRx :=
  let r := { r with part := [], pos := 0, violation := false, history := r.part.take 58 }
  if r.locked then { r with first := false, recent := ((!b.valid) :: r.recent).take 64 }
  else
    let bad := r.bad + flag (!b.valid)
    if bad = 3 then { r with seen := 0, bad := 0, skip := true }
    else if r.seen + 1 = 64 then { r with locked := true, first := true, seen := 0, bad := 0, recent := [] }
    else { r with seen := r.seen + 1, bad := bad }

/-- One bit of the line (R139, R140): the bit after 40 identical ones is removed, and one of the run's own value there is a stuffing
violation; the result is the receiver, the block that the bit completes in lock, and the violations counted. A violation whose bit stands
between two blocks falls in the later one, and the run counts anew from that bit: the spec says neither (DESIGN CHOICE, log entry 501). -/
def LineRx.bit (halyard : Bool) (r : LineRx) (b : Bool) : LineRx × Option LineBlock × Nat :=
  if r.run.len = 40 then
    let v := b == r.run.last
    ({ r with run := ⟨b, 1⟩, violation := r.violation || v }, none, flag v)
  else
    let r := { r with run := r.run.next b }
    if r.skip then ({ r with skip := false }, none, 0)
    else
      let r := { r with part := b :: r.part, pos := r.pos + 1 }
      if r.pos = blockBits halyard then
        let k := r.block halyard
        (r.after k, if r.locked then some k else none, 0)
      else (r, none, 0)

/-- The receiver has lost lock (R142): of the last 64 blocks in lock 16 had invalid headers. -/
def LineRx.lost (r : LineRx) : Bool := r.locked && decide (16 ≤ (r.recent.filter id).length)

/-- The bits of the line, one after another, up to a loss of lock: the receiver, the blocks received in lock, the stuffing violations, and
the bits after the loss. -/
def LineRx.take (halyard : Bool) (r : LineRx) : List Bool → LineRx × List LineBlock × Nat × List Bool
  | [] => (r, [], 0, [])
  | b :: l =>
    let x := r.bit halyard b
    if x.1.lost then (x.1, x.2.1.toList, x.2.2, l)
    else
      let rest := x.1.take halyard l
      (rest.1, x.2.1.toList ++ rest.2.1, x.2.2 + rest.2.2.1, rest.2.2.2)

/-! ## Frames -/

/-- A control block with type and content, filled with 0 to eight bytes (R135). -/
def controlBlock (block : Bool) (bytes : List Byte) : LineBlock :=
  { h0 := true, h1 := false, h2 := block, payload := bytes ++ List.replicate (8 - bytes.length) 0 }

/-- A data block of eight bytes. -/
def dataBlock (block : Bool) (bytes : List Byte) : LineBlock :=
  { h0 := false, h1 := true, h2 := block, payload := bytes ++ List.replicate (8 - bytes.length) 0 }

/-- The word of a stamp (R171). -/
def Stamp.word (t : Stamp) : Nat := t.channel % 16 * 2 ^ 28 + flag t.level * 2 ^ 27 + t.time % 2 ^ 24

/-- The data blocks of a list of stamps, two stamps a block; with an odd count the last four bytes are 0 (R167, R171). -/
def stampBlocks (block : Bool) : List Stamp → List LineBlock
  | [] => []
  | [a] => [dataBlock block (leBytes 4 a.word)]
  | a :: b :: r => dataBlock block (leBytes 4 a.word ++ leBytes 4 b.word) :: stampBlocks block r

/-- The payload of SHEAF_SOF (R170). -/
def Sheaf.header (f : Sheaf) : List Byte :=
  [0x4B] ++ leBytes 2 f.seq ++
    [BitVec.ofNat 8 (16 * flag f.isRepeat + 8 * flag f.precharge + 4 * flag f.bypass + 2 * flag f.blockReq +
      flag f.member)] ++
    leBytes 1 f.stamps.length ++ leBytes 2 (f.mode % 8 * 4096 + f.tCtl % 4096) ++ leBytes 1 f.lead

/-- The blocks of a sheaf before its mark (R167). -/
def Sheaf.headBlocks (f : Sheaf) (block : Bool) : List LineBlock := controlBlock block f.header :: stampBlocks block f.stamps

/-- The blocks of a sheaf in send order (R167, R168): SOF, stamps, mark, EOF with the CRC over the payloads before it. -/
def Sheaf.blocks (f : Sheaf) (block : Bool) : List LineBlock :=
  let body := f.headBlocks block ++ [controlBlock block (0x78 :: leBytes 4 f.mark)]
  let crc := crc32 (body.flatMap (·.payload))
  body ++ [controlBlock block (0x55 :: leBytes 4 crc)]

/-- The blocks of a sheaf with the BLOCK bit of each (R144). -/
def Sheaf.flagged (f : Sheaf) (flags : List Bool) : List LineBlock :=
  List.zipWith (fun b h => { b with h2 := h }) (f.blocks false) flags

/-- The form of a bale (R167): BALE_SOF, three data blocks, BALE_EOF, all with valid headers and usable payloads (R140). -/
def baleForm (bs : List LineBlock) : Bool :=
  bs.all (·.usable) && match bs with
  | [sof, d1, d2, d3, eof] =>
    (lineValid sof && lineControl sof && lineKind sof == 0x66) && (lineValid d1 && !lineControl d1) && (lineValid d2 && !lineControl d2) &&
      (lineValid d3 && !lineControl d3) && (lineValid eof && lineControl eof && lineKind eof == 0x87)
  | _ => false

/-- The CRC of a bale verifies: over the payloads from its SOF to the block before its EOF (R168). -/
def baleCrc (bs : List LineBlock) : Bool :=
  crc32 ((bs.take 4).flatMap (·.payload)) == leAt ((bs.getD 4 default).payload) 1 4

/-- The fields of a bale (R191). -/
def readBale (bs : List LineBlock) : Bale :=
  let sof := (bs.getD 0 default).payload
  let d1 := (bs.getD 1 default).payload
  let d2 := (bs.getD 2 default).payload
  let d3 := (bs.getD 3 default).payload
  let fl := byteAt sof 3
  { echoSeq := leAt sof 1 2, prechargeActive := bitAt fl 7, interlock := bitAt fl 6, capLow := bitAt fl 5,
    portValid := bitAt fl 4, bypassClosed := bitAt fl 3, blocked := bitAt fl 2, isRepeat := bitAt fl 1,
    execMember := bitAt fl 0, cellState := byteAt sof 4 % 4, tbError := signed 16 (leAt sof 5 2),
    sheafErrs := byteAt sof 7, vCap := signed 16 (leAt d1 0 2), vSec := signed 16 (leAt d1 2 2),
    iArm := signed 16 (leAt d1 4 2), temps := [leAt d2 0 2, leAt d2 2 2, leAt d2 4 2, leAt d2 6 2],
    gdFault := leAt d3 0 2, gdReady := leAt d3 2 2, trips := byteAt d3 4 % 64, interlocks := byteAt d3 5 % 64 }

end Sys2Proof.Machine
end

