-- ==== Sys2Proof/Machine/Transmit.lean ====
section
/-! DEFINITION. The transmitters of the lanes (R136 to R138, R144, R164): what stands in them between the frames, the frame of a sheaf on its
way, and the change of its BLOCK bits. -/

namespace Sys2Proof.Machine

/-- The cell lanes: CL[00] to CL[95], AX[2] and AX[3]. -/
def cellLanes : List Nat := (List.range 96) ++ [98, 99]

/-- The count of this member's next boundary, in 125 ps units. -/
def Chip.nextBoundary (s : Chip) : Nat := 8 * (s.clock.b0 + s.clock.n * s.tCtlNs)

/-- AX[0] and AX[1], the Halyard lanes. -/
def isHalyardLane (n : Nat) : Bool := n == 96 || n == 97

/-- The line time of a bit on lane `n`, in picoseconds (R131). -/
def Chip.bitPs (s : Chip) (n : Nat) : Nat :=
  match s.rd .laneCfg_rate n with
  | 0 => 800
  | 1 => 400
  | _ => 200

/-- What a transmitter holds where nothing gives it: at power-on the state of the scrambler is arbitrary (R137), and after a frame that was
discarded on its way the model does not say how much of it had left (log entry 511). A run that has reached 40 has been broken. -/
def openTx (n : Nat) : LineTx :=
  let m := Config.freeByte n 8
  { history := ((List.range 8).flatMap fun i => byteBits (Config.freeByte n i)).take 58
    run := ⟨m.getLsbD 7, m.toNat % 39 + 1⟩ }

/-- One of the IDLE blocks that went out between two frames (R135, R136): its BLOCK bit, rx_locked and, on a Halyard lane, the fields of its
header are open (log entry 511). -/
def openIdle (halyard : Bool) (n j : Nat) : LineBlock :=
  let a := Config.freeByte n (2 * j)
  let b := Config.freeByte n (2 * j + 1)
  let head : HalHeader :=
    { block := a.getLsbD 0, react := a.getLsbD 2, healthy := a.getLsbD 3, takeover := a.getLsbD 4, mode := b.toNat % 8,
      member := b.toNat / 8 % 2, rank := b.toNat / 16 % 2, inStep := a.getLsbD 5 }
  { controlBlock (a.getLsbD 0) [0x1E, BitVec.ofNat 8 (flag (a.getLsbD 1))] with rest := if halyard then head.rest else [] }

/-- The transmitter of lane `n` as its next frame begins: it has scrambled and stuffed on over the IDLE blocks since the last one (R136 to
R138), whose number is open (log entry 511). -/
def Chip.nextTx (s : Chip) (n : Nat) : LineTx × Chip :=
  let a := s.draw
  let b := a.2.draw
  let idles := (List.range (Config.freeWord b.1).toNat).map fun j => openIdle (isHalyardLane n) b.1 j
  ((((s.lane n).tx.getD (openTx a.1)).sendAll idles).2, b.2)

/-- Lane `n` sends blocks, one after another (R136). -/
def Chip.putBlocks (s : Chip) (n : Nat) (bs : List LineBlock) : Chip :=
  let x := s.nextTx n
  let y := x.1.sendAll bs
  x.2.setLane n { x.2.lane n with frame := none, sent := y.1, tx := some y.2 }

/-- Lane `n` sends more blocks right after those that it was given (R465). -/
def Chip.addBlocks (s : Chip) (n : Nat) (bs : List LineBlock) : Chip :=
  match (s.lane n).tx with
  | some x =>
    let y := x.sendAll bs
    s.setLane n { s.lane n with sent := (s.lane n).sent ++ y.1, tx := some y.2 }
  | none => s.putBlocks n bs

/-- Lane `n` goes on with IDLE blocks; what had not left of a frame is discarded (R136, R163). -/
def Chip.sendIdle (s : Chip) (n : Nat) : Chip :=
  let l := s.lane n
  s.setLane n { l with sheaf := none, frame := none, sent := [], tx := if l.frame.isSome then none else l.tx }

/-! ## The frame of a sheaf -/

/-- Field C of TB_MARK (R173, R460): E, with the φ of a pair, minus the departure of the mark's h0 minus D. The departure counts every
bit of the sheaf before it on the line, stuffed bits included (R125), and is rounded to the nearest unit of 125 ps, halves upward (DESIGN
CHOICE, log entry 511). -/
def Chip.markCount (s : Chip) (n leaves bits : Nat) : Nat :=
  let e : Int := s.nextBoundary + s.lead + s.rd .halAlign_phi
  unsigned 32 (e - roundHalfUp (leaves + bits * s.bitPs n) 125 - s.rd .laneLatency_latency n)

/-- The frame of sheaf `f` on lane `n`: its mark counts from where the frame's bits put it (R167, R173). -/
def Chip.layFrame (s : Chip) (n : Nat) (f : Sheaf) (fr : LineFrame) : Chip :=
  let head := (f.flagged fr.flags).take (fr.flags.length - 2)
  let f := { f with mark := s.markCount n fr.leaves (fr.start.sendAll head).1.length }
  let x := fr.start.sendAll (f.flagged fr.flags)
  s.setLane n { s.lane n with sheaf := some f, frame := some fr, sent := x.1, tx := some x.2 }

/-- The BLOCK bits of blocks of which the first leaves at `leaves`, once it changes to `v` (R144): those whose h0 leaves after `limit` carry
it; all times in picoseconds. -/
def LineTx.turned (x : LineTx) (leaves bit limit : Nat) (v : Bool) : List LineBlock → List Bool
  | [] => []
  | b :: r =>
    let b := if limit < leaves then { b with h2 := v } else b
    let y := x.send b
    b.h2 :: y.2.turned (leaves + y.1.length * bit) bit limit v r

/-- BLOCK changes to `v` while a sheaf leaves lane `n` (R144): the headers that leave more than 20 ns later carry it. That the earlier ones do
not is the model's choice (DESIGN CHOICE, log entry 511). -/
def Chip.turnFrame (s : Chip) (v : Bool) (n : Nat) : Chip :=
  match (s.lane n).sheaf, (s.lane n).frame with
  | some f, some fr =>
    s.layFrame n f { fr with flags := fr.start.turned fr.leaves (s.bitPs n) (1000 * s.clock.tb + 20000) v (f.flagged fr.flags) }
  | _, _ => s

/-- BLOCK changes on the cell lanes: no frame in progress holds it back (R144). -/
def Chip.turnBlock (s : Chip) (v : Bool) : Chip :=
  if s.clock.windowOpen then s.each cellLanes fun s n => s.turnFrame v n else s

end Sys2Proof.Machine
end

