-- ==== Sys2Proof/Machine/Hold.lean ====
section
/-! DEFINITION. The mode, the entry into SAFE HOLD as one shared operation (R46, R645), the mode change (R44, R49), the
consents of the Mast die and the Shroud (R431 to R434), and the pair-0 safe state. -/

namespace Sys2Proof.Machine

/-- The code of a mode in MODE_STAT (R72). -/
def Mode.code : Mode → Nat
  | .configure => 0
  | .commission => 1
  | .charge => 2
  | .run => 3
  | .shadow => 4
  | .safeHold => 5

/-- The mode a code of MODE_STAT stands for; 6 and 7 are not used. -/
def Mode.ofCode : Nat → Mode
  | 0 => .configure
  | 1 => .commission
  | 2 => .charge
  | 3 => .run
  | 4 => .shadow
  | _ => .safeHold

/-- The code of a cause of SAFE HOLD (R73). -/
def HoldCause.code : HoldCause → Nat
  | .none => 0
  | .severe => 1
  | .spr => 2
  | .thermal => 3
  | .earlyWarning => 4
  | .noImage => 5
  | .clockLoss => 6
  | .warmReset => 7
  | .restored => 8

/-- The cause a code of hold_cause stands for (R73). -/
def HoldCause.ofCode : Nat → HoldCause
  | 1 => .severe
  | 2 => .spr
  | 3 => .thermal
  | 4 => .earlyWarning
  | 5 => .noImage
  | 6 => .clockLoss
  | 7 => .warmReset
  | 8 => .restored
  | _ => .none

/-- Whether a cause is a system cause (R73). -/
def HoldCause.isSystem : HoldCause → Bool
  | .severe | .spr | .thermal | .restored => true
  | _ => false

/-- The cause in force after a further cause arises (R645). -/
def HoldCause.merge (old new : HoldCause) : HoldCause :=
  if old = .none then new
  else if old = .noImage then .noImage
  else if new = .thermal then .thermal
  else if new.isSystem && !old.isSystem then new
  else old

/-- The present mode (R40). -/
def Chip.mode (s : Chip) : Mode := Mode.ofCode (s.rd .modeStat_mode)

/-- The cause of the present SAFE HOLD. -/
def Chip.holdCause (s : Chip) : HoldCause := HoldCause.ofCode (s.rd .modeStat_holdCause)

/-- The device is in SAFE HOLD with a system cause: a reaction is in progress (R408). -/
def Chip.reaction (s : Chip) : Bool := s.mode == .safeHold && s.holdCause.isSystem

/-- In the modes in which gates may be energised (R41). -/
def Mode.energised : Mode → Bool
  | .commission | .charge | .run | .shadow => true
  | _ => false

/-- Whether an image has been applied (R102). -/
def Chip.applied (s : Chip) : Bool := s.on .imageStat_appliedValid

/-- Step `n` of R11 is active in the present mode and state (R41, R51). -/
def Chip.stepActive (s : Chip) (n : Nat) : Bool :=
  if !s.applied then false
  else if s.on .modeStat_quiescent then n == 1
  else if s.mode.energised then true
  else n == 1 || n == 5

/-- The mode at the boundary judges whether step 4 is active in the period (R208). -/
def Chip.judgeEdges (s : Chip) : Chip := { s with modes := { s.modes with edgesActive := s.stepActive 4 } }

/-- An SPR demand as R67 counts it: either input as pair 0 holds it, or a last accepted remove (R440). -/
def Chip.sprDemand (s : Chip) : Bool := s.on .sprStat_aDemand || s.on .sprStat_bDemand || s.on .sprStat_stDemand

/-- The Mast die gives its consent to unblock (R432). -/
def Chip.mastConsents (s : Chip) : Bool :=
  s.mode.energised && !s.reaction && !s.sprDemand && (!s.on .stCfg_enabled || s.on .stStat_permitted)

/-- The first unmet condition of R434, coded as SHROUD_STAT.withheld; 0 when all hold. -/
def Chip.shroudWithheld (s : Chip) : Nat :=
  if s.on .shroudStat_sprB then 1
  else if s.on .shroudStat_lockout then 2
  else if !s.spr.idbUp then 3
  else if s.spr.warned.any (2 ≤ ·) then 4
  else if s.on .pllStat_synthDown then 5
  else if s.spr.discLong then 6
  else 0

/-- The partner reports itself healthy over the Halyard link (R42). -/
def Chip.partnerHealthy (s : Chip) : Bool :=
  s.sys.pair && s.on .halStat_partnerSeen && s.on .halStat_accepted && s.on .halStat_partnerHealthy

/-- The mode sends BLOCK on the cell lanes (R41, R42, R51). -/
def Chip.modeSendsBlock (s : Chip) : Bool :=
  match s.mode with
  | .configure => true
  | .safeHold => s.holdCause.isSystem || !s.partnerHealthy
  | _ => false

/-- Wire `w` acts on its receivers: the Shroud asserts it, or the pulse of its own test has lasted longer than 400 ns (R17, R549). -/
def Chip.wireActs (s : Chip) (w : Nat) : Bool :=
  s.rdBit .shroudStat_bw w ||
    match s.slices.run1 with
    | some r => r.inst == 128 * 7 + w && decide (r.began + 400 < s.clock.now)
    | none => false

/-- A lane of the 67-bit code sends BLOCK (R17, R143): by the block wires or by the mode. -/
def Chip.sendsBlock (s : Chip) : Bool := s.wireActs 0 || s.wireActs 1 || s.modeSendsBlock

/-! ## The outputs of the local power stage -/

/-- Gate driver `n` and trip input `t` beside their registers. -/
def Chip.driver (s : Chip) (n : Nat) : GateDriver := storeGet s.power.drivers n {}
def Chip.setDriver (s : Chip) (n : Nat) (g : GateDriver) : Chip :=
  { s with power := { s.power with drivers := storePut s.power.drivers n {} g } }
def Chip.tripIn (s : Chip) (t : Nat) : TripInput := storeGet s.power.trips t {}
def Chip.setTripIn (s : Chip) (t : Nat) (r : TripInput) : Chip :=
  { s with power := { s.power with trips := storePut s.power.trips t {} r } }

/-- The channel of EE_L is cut: a trip input that cuts this interval names it (R224). -/
def Chip.channelCut (s : Chip) (c : Nat) : Bool :=
  (List.range 16).any fun t => s.rdBit .eeTripStat_cutting t && s.rdBit .eeTripMap_channels c t

/-- The channel of EE_L is on by its stamps. -/
def Chip.channelOn (s : Chip) (c : Nat) : Bool := s.power.channelOn.contains c

/-- The command of a gate driver channel (R383, R384). -/
def Chip.gdCommanded (s : Chip) (n : Nat) : Bool :=
  match s.rd .gdCfg_src n with
  | 1 => s.channelOn (s.rd .gdCfg_channel n) && !(s.driver n).stampsLate
  | 2 => s.on .gdStat_staticOn n
  | _ => false

/-- A trip cut is in force on a FOLLOW channel (R395). -/
def Chip.gdCut (s : Chip) (n : Nat) : Bool := s.rd .gdCfg_src n == 1 && s.channelCut (s.rd .gdCfg_channel n)

/-- The low channel of the pair that channel `n` belongs to, where its pair is interlocked (R392). -/
def Chip.gdPair (s : Chip) (n : Nat) : Option Nat := if s.on .gdCfg_pair (n / 2 * 2) then some (n / 2 * 2) else none

/-- Both channels of an interlocked pair are commanded on (R392). -/
def Chip.pairConflict (s : Chip) (n : Nat) : Bool :=
  match s.gdPair n with
  | some p => s.gdCommanded p && s.gdCommanded (p + 1)
  | none => false

/-- Gates and pins are held safe by the mode (R43, R397). -/
def Chip.modeHoldsSafe (s : Chip) : Bool := s.mode == .configure || s.mode == .safeHold

/-- Retirements hold a channel off (R551): its supply monitor failed, or it follows EE_L and EE_L is retired. -/
def Chip.gdRetired (s : Chip) (n : Nat) : Bool :=
  s.rdBit .sltRetMisc_gdMon n || (s.rd .gdCfg_src n == 1 && s.on .sltRetMisc_eeL)

/-- The output of a gate driver channel is on (R393, R551). -/
def Chip.gdOn (s : Chip) (n : Nat) : Bool :=
  let g := s.driver n
  s.on .gdCfg_enabled n && !s.gdRetired n && !s.on .shroudStat_drvDisable && !s.modeHoldsSafe && !s.on .gdStat_uvloPos n &&
    !s.on .gdStat_uvloNeg n && !g.untilNextE && !s.on .gdStat_shortLatched n && !g.interlockCut && !s.pairConflict n &&
    !s.gdCut n && s.gdCommanded n

/-- A pin LP[c] is held at its safe level (R397, R551). A SEVERE reaction and an SPR demand are SAFE HOLD with a system cause. -/
def Chip.lpAtSafe (s : Chip) (c : Nat) : Bool :=
  s.modeHoldsSafe || s.wireActs 2 || s.wireActs 3 || !s.on .lpCfg_enabled c || s.on .sltRetMisc_eeL

/-- The level of a pin LP[c]: none is high impedance (R394, R397). -/
def Chip.lpLevel (s : Chip) (c : Nat) : Option Bool :=
  if s.modes.porstLow then none
  else if s.lpAtSafe c then
    match s.rd .lpCfg_safe c with
    | 0 => some false
    | 1 => some true
    | _ => none
  else some (xor (s.channelOn c && !s.channelCut c) (s.on .lpCfg_invert c))

/-- The gate outputs as they stand. -/
def Chip.gateOutputs (s : Chip) : List Bool := (List.range 8).map s.gdOn

/-- A change of level of a pin restarts the mask of every trip input that names it and is not unblanked (R396). -/
def Chip.maskTrip (s : Chip) (changed : List Nat) (t : Nat) : Chip :=
  if !s.on .tripCfg_unblanked t && changed.any (fun c => s.rdBit .eeTripMap_channels c t) then
    let r := s.tripIn t
    s.setTripIn t { r with maskUntil := max r.maskUntil (s.clock.now + 50 * s.rd .tripCfg_blank t) }
  else s

/-- The instant of a gate's on-edge (R384): a FOLLOW channel's edge appears 40 ns after its stamp. -/
def Chip.gateEdgeAt (s : Chip) (n : Nat) : Nat := s.clock.now + if s.rd .gdCfg_src n = 1 then 40 else 0

/-- What the changes of the outputs since `old` restart (R389, R396): pins that change level restart trip masks, and a gate that comes on
restarts the lower threshold's mask. A gate that a driver disable turns off keeps the instant, for a short detected at the same moment
(R393). -/
def Chip.restartMasks (s old : Chip) : Chip :=
  let changed := (List.range 32).filter fun c => s.lpLevel c != old.lpLevel c
  let gd := old.gateOutputs
  let s := s.each (List.range 16) fun s t => s.maskTrip changed t
  s.each (List.range 8) fun s n =>
    let was := gd.getD n false
    if s.gdOn n && !was then
      s.setDriver n { s.driver n with blankUntil := s.gateEdgeAt n + 50 * s.rd .gdDidt_blank n, disabledAt := none }
    else if was && s.on .shroudStat_drvDisable then s.setDriver n { s.driver n with disabledAt := some s.clock.now }
    else s

/-- A change of the outputs, with what it restarts. -/
def Chip.withOutputs (s : Chip) (f : Chip → Chip) : Chip := (f s).restartMasks s

/-! ## The block wires and the consents -/

/-- A change of what the cell lanes' BLOCK bit rests on reaches the frames in progress (R144). -/
def Chip.blockFollows (s : Chip) (g : Chip → Chip) : Chip :=
  let t := g s
  if t.sendsBlock = s.sendsBlock then t else t.turnBlock t.sendsBlock

/-- A change of the block wires, the driver disables or the mode: the frames in progress and the masks follow it (R144, R389, R396). -/
def Chip.wiresFollow (s : Chip) (g : Chip → Chip) : Chip := s.withOutputs fun s => s.blockFollows g

/-- The Shroud asserts all four block wires and every driver disable (R17, R144, R431). -/
def Chip.shroudAssert (s : Chip) : Chip := s.wiresFollow fun s => (s.wr .shroudStat_bw 15).wr .shroudStat_drvDisable 1

/-- The Shroud judges its consent afresh and asserts its wires when either consent is missing (R431, R434). -/
def Chip.shroudRefresh (s : Chip) : Chip :=
  let w := s.shroudWithheld
  let s := (s.wr .shroudStat_withheld w).wrFlag .shroudStat_shroudConsent (w == 0)
  if w == 0 && s.on .shroudStat_mastConsent then s else s.shroudAssert

/-- The Shroud deasserts its wires and the driver disables only with both consents present (R431). -/
def Chip.shroudUnblock (s : Chip) : Chip :=
  let s := s.shroudRefresh
  if s.on .shroudStat_shroudConsent && s.on .shroudStat_mastConsent then
    s.wiresFollow fun s => (s.wr .shroudStat_bw 0).wr .shroudStat_drvDisable 0
  else s

/-- The Shroud sets its lockout latch; a cause recorded already changes only as R645 orders (R431). -/
def Chip.shroudLatch (s : Chip) (c : HoldCause) : Chip :=
  let old := if s.on .shroudStat_lockout then HoldCause.ofCode (s.rd .shroudStat_holdCause) else .none
  ((s.wr .shroudStat_lockout 1).wr .shroudStat_holdCause (old.merge c).code).shroudRefresh

/-- The consent field of the Mast die's frames as the Shroud holds it follows the Mast's consent downward at once; it is
raised again only by a frame (R432). -/
def Chip.withdrawConsent (s : Chip) : Chip :=
  if s.mastConsents then s else (s.wr .shroudStat_mastConsent 0).shroudRefresh

/-- Debug relocks: the unlock ends, and a halt ends at the next reload (R606); with the owner key fused the scan cells no longer
drive the balls (R602). -/
def Chip.lockDebug (s : Chip) : Chip :=
  let s := s.wr .dbgStat_unlocked 0
  let s := if s.on .secStat_ownerFused then { s with security := { s.security with drive := .off } } else s
  { s with edges := { s.edges with haltWanted := false } }

/-- An open challenge is void, and a response to it that waits for its check fails (R603, R604). -/
def Chip.voidChallenge (s : Chip) : Chip :=
  let s := (s.wr .dbgStat_challengeOpen 0).wr .dbgStat_windowLeft 0
  { s with security := { s.security with challenge := [], response := s.security.response.map fun x => { x with stands := false } } }

/-- Debug on leaving COMMISSION (R49, R603, R606). -/
def Chip.relockDebug (s : Chip) : Chip := s.lockDebug.voidChallenge

/-- static_on of every channel clears (R386). -/
def Chip.clearStaticOn (s : Chip) : Chip := s.each (List.range 8) fun s n => s.wr .gdStat_staticOn 0 n

/-- A trigger of the disturbance recorder arises (R584). -/
def Chip.trigger (s : Chip) (c : RecordCause) : Chip :=
  if s.on .drCfg_enabled then { s with triggers := s.triggers ++ [c] } else s

/-- A request code has a row of R44 for the present mode and state (R44, R50, R56, R448, R450). -/
def Chip.requestHasRow (s : Chip) (r : Nat) : Bool :=
  let quiet := s.on .modeStat_quiescent
  let startZero := s.mode == .configure && s.sys.startMode == 0
  let fromConfigure := s.mode == .configure && (s.sys.startMode == 0 || (s.sys.pair && s.on .halCfg_rank))
  let probing := s.mode == .shadow && s.halyard.probing
  match r with
  | 1 => !quiet && (fromConfigure || s.mode == .charge || probing)
  | 2 => !quiet && (fromConfigure || s.mode == .commission || probing)
  | 3 => !quiet && s.mode == .charge
  | 4 => !quiet && s.mode == .run
  | 5 => !quiet && (startZero || s.mode == .safeHold)
  | 6 => quiet
  | 7 => s.mode == .configure || s.mode == .commission || s.mode == .safeHold
  | _ => false

/-- A mode request is refused: counted on the mode-request source (R44). -/
def Chip.refuseRequest (s : Chip) : Chip := s.raise originModeRequest

/-- No request is pending. -/
def Chip.dropPending (s : Chip) : Chip :=
  { s.wr .modeReq_pending 0 with modes := { s.modes with reqStands := false } }

/-- A request that stands is judged after a change of mode: with no row for the new mode it is refused (R44). One that still
awaits its snapshot is left to it. -/
def Chip.rejudgePending (s : Chip) : Chip :=
  if s.modes.reqStands && !s.requestHasRow (s.rd .modeReq_pending) then s.dropPending.refuseRequest else s

/-- The cell lanes that a pair member holds in CONFIGURE (R447). -/
def Chip.heldLanes (s : Chip) : List Nat :=
  (List.range 96) ++ [98, 99].filter fun n => (s.cellOfLane n).isSome

/-- At the boundary at which the member leaves CONFIGURE, the held lanes enter HUNT (R447). -/
def Chip.releaseLanes (s : Chip) : Chip :=
  if s.halyard.cellsHeld then
    let s := s.each s.heldLanes fun s n => if s.on .laneCfg_enabled n then s.wr .laneStat_state 1 n else s
    { s with halyard := { s.halyard with cellsHeld := false } }
  else s

/-- The reef level that the engines take (R281, R463): in SHADOW the primary's, from the copy. -/
def Chip.reefInForce (s : Chip) : Nat :=
  if s.mode = .shadow then s.halyard.copyReef else s.rd .grStat_reefLevel

/-- What every change of mode carries: debug relocks on leaving COMMISSION (R49), a debug halt ends on entry into SAFE
HOLD (R226) and the member no longer keeps silent as a standby (R41, R474), static_on clears on entry into CONFIGURE or SAFE HOLD (R386), stopping ends, the held lanes are released on
leaving CONFIGURE (R447), the watch of the hold-up stack starts on entry into RUN or SHADOW (R528), the consent follows (R432) and the request that stands is judged afresh (R44). -/
def Chip.setMode (s : Chip) (m : Mode) : Chip :=
  let old := s.mode
  let s := s.wiresFollow fun s => s.wr .modeStat_mode m.code
  let s := if old = .commission ∧ m ≠ .commission then s.relockDebug else s
  let s := if m = .configure ∨ m = .safeHold then s.clearStaticOn else s
  let s := if m = .safeHold then
      { s.wr .eeStat_halted 0 with halyard := { s.halyard with stoppedSending := false } }
    else s
  let armed (x : Mode) : Bool := x == .run || x == .shadow
  let s := if armed m && !armed old then
      { s with thermal := { s.thermal with readyClearFrom := s.thermal.readyClearFrom.map fun _ => s.clock.now } }
    else s
  let s := s.wrFlag .metStat_ewArmed (armed m && !s.on .modeStat_holdUp)
  let s := if m = .charge then s else s.each (List.range 6) fun s a => s.wr .armStat_pcPhase 0 a
  let s := s.each (List.range 6) fun s g => s.wr .cePower_stopping 0 g
  let s := { s with modes := { s.modes with stopping := false } }
  let s := if m = .configure then s else s.releaseLanes
  let s := s.withdrawConsent
  s.rejudgePending

/-- The sticky or the escalation bits of all sources, word by word. -/
def Chip.sourceWords (s : Chip) (f : Fld) : List Nat := (List.range 16).map fun w => s.rd f w

/-- A lockout entry is to be written with the cause in force, after those that wait already; a SEVERE reaction's entry takes its bits
10 ms after t0 (R59, R413). On entry through HOLD-UP it asks for no leave (R53, R59). -/
def Chip.wantLockoutEntry (s : Chip) (severe noLeave : Bool) : Chip :=
  let e : LockoutEntry := ⟨s.rd .modeStat_holdCause, s.sourceWords .fsSticky_bits, s.sourceWords .fsEsc_bits, noLeave,
    if severe then some s.clock.now else none⟩
  { s.wr .modeStat_lockoutPersisted 0 with
    modes := { s.modes with lockoutEntries := s.modes.lockoutEntries ++ [e], lockoutRefused := none } }

/-- The acknowledge window closes (R69, R70). -/
def Chip.closeWindow (s : Chip) : Chip := (s.wr .delibStat_windowOpen 0).wr .delibStat_windowLeft 0

/-- ALIVE_A and ALIVE_B freeze at their present levels (R416). -/
def Chip.freezeAlive (s : Chip) : Chip := (s.wr .fcStat_aliveAFrozen 1).wr .fcStat_aliveBFrozen 1

/-- A SAFE HOLD cause arises (R46, R59, R70, R408, R416, R645). Outside SAFE HOLD the device enters it at once; in SAFE
HOLD the cause in force changes as R645 orders, and every change wants a further lockout entry. The acknowledge window
closes in every case. -/
def Chip.enterSafeHold (s : Chip) (c : HoldCause) : Chip :=
  let s := s.closeWindow
  if s.mode = .safeHold then
    let new := s.holdCause.merge c
    if new = s.holdCause then s
    else
      let s := s.blockFollows fun s => (s.wr .modeStat_holdCause new.code).wrFlag .fcStat_reaction new.isSystem
      let s := { s with modes := { s.modes with reactionAt := s.clock.now } }
      s.wantLockoutEntry (c == .severe) false
  else
    let s := s.wr .modeStat_holdCause c.code
    let s := (s.setMode .safeHold).wrFlag .fcStat_reaction c.isSystem
    let s := s.freezeAlive
    let s := { s with modes := { s.modes with reactionAt := s.clock.now } }
    let s := s.wantLockoutEntry (c == .severe) (s.on .modeStat_holdUp)
    if s.on .drCfg_trigHold then s.trigger .hold else s

/-- The reaction of channel A or of the collector is sent to the Rigging die in the event field: the Shroud sets its
lockout latch with the cause sent, while the link to it is up; otherwise the next valid frame carries it (R413, R427, R431). -/
def Chip.sendReaction (s : Chip) (c : HoldCause) : Chip :=
  if s.spr.idbUp then s.shroudLatch c else { s with spr := { s.spr with reaction := s.spr.reaction.merge c } }

/-- The SEVERE reaction (R413): the block line, the withdrawn consent, SAFE HOLD with hold_cause 1 as R645 orders, and
the reaction sent to the Shroud. -/
def Chip.severeReaction (s : Chip) : Chip := (s.enterSafeHold .severe).sendReaction .severe

/-- Channel A's reaction to an SPR demand (R427): as R413, with hold_cause 2. -/
def Chip.sprReaction (s : Chip) : Chip := (s.enterSafeHold .spr).sendReaction .spr

end Sys2Proof.Machine
end

