-- ==== Sys2Proof/Machine/Thermal.lean ====
section
/-! DEFINITION. Temperature, reefing, the hold-up charger and the Granary (R515 to R539). -/

namespace Sys2Proof.Machine

/-- The class of a request for leave (R532). -/
def Leave.cls : Leave → Nat
  | .slice _ | .lockoutWrite | .metrologySave | .ledgerCarry | .charging => 0
  | .stationCheck _ | .halyardIdentity | .debugResponse | .imageCheck => 1
  | .eyeScan _ | .readapt _ => 2
  | .recordFlush | .logWrite | .retention | .wearErase => 3

/-- The cost of a request in milliwatts (R532). -/
def Leave.cost : Leave → Nat
  | .slice _ => 400
  | .lockoutWrite | .metrologySave | .ledgerCarry => 300
  | .charging => 500
  | .stationCheck _ | .halyardIdentity | .debugResponse | .imageCheck => 250
  | .eyeScan _ => 150
  | .readapt _ => 200
  | .recordFlush | .logWrite | .retention | .wearErase => 300

/-- The operation may be asked for, and waits no longer once it may not: an eye scan only with quality_mode 1 (R161), a re-adaptation only in
HUNT, MEASURE or HELD (R162), where the lane's state reads 1, 2 or 4. -/
def Chip.mayAsk (s : Chip) : Leave → Bool
  | .eyeScan n => s.on .laneCfg_enabled n && s.on .laneCfg_qualityMode n
  | .readapt n => [1, 2, 4].contains (s.rd .laneStat_state n)
  | _ => true

/-- Whether a request is a slice of the slice test (R533). -/
def Leave.isSlice : Leave → Bool
  | .slice _ => true
  | _ => false

/-- The cell of a sensor is BYPASSED or UNREACHABLE: the sensor gives no reading and is excluded, without being invalid (R518). -/
def Chip.sensorExcluded (s : Chip) (k : Nat) : Bool :=
  decide (22 ≤ k) && (s.rd .cellStat_state ((k - 22) / 4) == 2 || s.rd .cellStat_state ((k - 22) / 4) == 3)

/-- A sensor takes part in the rules (R518, R520): enabled, valid, not broken, not excluded with its cell. -/
def Chip.sensorLive (s : Chip) (k : Nat) : Bool :=
  s.on .thSensor_enabled k && s.on .thRead_valid k && !s.on .thRead_broken k && !s.sensorExcluded k

/-- The highest valid on-die reading in 1/16 °C (R531), of a sensor that takes part, if any. -/
def Chip.dieMax (s : Chip) : Option Int :=
  ((List.range 6).filter fun k => s.sensorLive (16 + k)).foldl
    (fun m k => let r := s.rdInt .thRead_reading (16 + k); match m with | none => some r | some x => some (max x r)) none

/-- The base figure of a lane by its rate in milliwatts (R531). -/
def lanePower : Nat → Nat
  | 0 => 50
  | 1 => 70
  | _ => 100

/-- The Granary's base estimate in milliwatts (R531). A port counts while its mode is not off (R514). -/
def Chip.powerBase (s : Chip) : Nat :=
  let lanes := ((List.range 100).filter fun n => s.on .laneCfg_enabled n).foldl
    (fun p n => p + lanePower (s.rd .laneCfg_rate n)) 0
  let engines := ((List.range 24).filter fun n => s.on .ceCfg_active n).length * 150
  let edges := ((List.range 96).filter fun n => s.on .eeCfg_enabled n).length * 25
  let local_ := if s.on .eeLCfg_enabled then 100 else 0
  let ports := ((List.range 4).filter fun p => bits (s.rd .netCfg_portMode) (2 * p) 2 != 0).length * 375
  let leak := match s.dieMax with
    | some t => (max 0 ((t - 16 * 76) * 100 / 16)).toNat
    | none => 0
  lanes + engines + edges + local_ + 4000 + ports + 2000 + s.rd .grCfg_gdLoss + leak

/-- The thermal headroom H in 1/16 °C (R535): the least t_max minus the reading over the valid, unbroken sensors whose set
counts; 127 °C with none. -/
def Chip.headroom (s : Chip) : Int :=
  let counted := (List.range 406).filter fun k => s.sensorLive k && s.on .thLimC_inHeadroom (s.rd .thSensor_limSet k)
  let margins := counted.map fun k => s.rdInt .thLimA_tMax (s.rd .thSensor_limSet k) - s.rdInt .thRead_reading k
  match margins with
  | [] => 127 * 16
  | m :: r => r.foldl min m

/-- A request holds leave. -/
def Chip.holdsLeave (s : Chip) (w : Leave) : Bool := s.thermal.grants.any (·.what == w)

/-- A request waits for leave. -/
def Chip.waitsLeave (s : Chip) (w : Leave) : Bool := s.thermal.queue.any (·.what == w)

/-- The queue in the order of the walk: by class, and within a class by age (R533). -/
def walkOrder (q : List LeaveRequest) : List LeaveRequest :=
  (q.filter (·.what.cls == 0)) ++ (q.filter (·.what.cls == 1)) ++ (q.filter (·.what.cls == 2)) ++
    (q.filter (·.what.cls == 3))

/-- The charger's sensor allows charging (R527). -/
def Chip.chargerOk (s : Chip) : Bool :=
  let k := s.rd .huCfg_huSensor
  let v := s.rdInt .thRead_reading k
  s.sensorLive k && decide (16 * s.rdInt .huCfg_huLow ≤ v) && decide (v ≤ 16 * s.rdInt .huCfg_huHigh)

/-- One request granted (R533); leave to charge brings full current (R527). -/
def Chip.grant (s : Chip) (r : LeaveRequest) : Chip :=
  let s := { s with thermal := { s.thermal with
    queue := s.thermal.queue.filter (· != r), grants := s.thermal.grants ++ [r] } }
  let s := (s.wr .grPower_granted (s.rd .grPower_granted + r.what.cost)).count .grCount_grants
  if r.what = .charging && s.chargerOk then s.wr .huStat_charge 2 else s

/-- Whether a request is an ECDSA operation (R532). -/
def Leave.isEcdsa : Leave → Bool
  | .stationCheck _ | .halyardIdentity | .debugResponse | .imageCheck => true
  | _ => false

/-- The Granary's walk over its waiting requests (R533): below its floor a request is set aside; a slice stops the walk
while two slices hold leave; a request that does not fit stops it; the others are granted. ECDSA requests wait
while the identity is derived after a security slice (R547). -/
def granaryWalk (s : Chip) : List LeaveRequest → Chip
  | [] => s
  | r :: rest =>
    if r.what.isEcdsa && s.security.rederiving then granaryWalk s rest
    else if s.rdInt .grStat_headroom < (16 * s.rd .grClass_floor r.what.cls : Nat) then
      granaryWalk (s.count .grCount_setAside) rest
    else if r.what.isSlice && decide (2 ≤ (s.thermal.grants.filter (·.what.isSlice)).length) then s
    else
      let granted := s.rd .grPower_granted
      if s.powerBase + granted + r.what.cost > 100 * s.rd .grCfg_pLim ∨ granted + r.what.cost > 2000 then s
      else granaryWalk (s.grant r) rest

/-- The Granary examines its queue (R533). -/
def Chip.granary (s : Chip) : Chip :=
  let q := s.thermal.queue.filter fun r => s.mayAsk r.what
  granaryWalk { s with thermal := { s.thermal with queue := q } } (walkOrder q)

/-- A request for leave is queued and the queue examined (R533); a request that waits or holds leave already is not
queued twice. -/
def Chip.askLeave (s : Chip) (w : Leave) : Chip :=
  if s.holdsLeave w || s.waitsLeave w || !s.mayAsk w then s
  else
    let r : LeaveRequest := { what := w, since := s.clock.now }
    { s with thermal := { s.thermal with queue := s.thermal.queue ++ [r] } }.granary

/-- Leave is returned and the queue examined again (R533); without leave the charger is at trickle current (R527). -/
def Chip.returnLeave (s : Chip) (w : Leave) : Chip :=
  if s.holdsLeave w then
    let s := { s with thermal := { s.thermal with grants := s.thermal.grants.filter (·.what != w) } }
    let s := s.wr .grPower_granted (s.rd .grPower_granted - w.cost)
    (if w = .charging then s.wr .huStat_charge (if s.chargerOk then 1 else 0) else s).granary
  else s

/-- A waiting request is withdrawn without leave. -/
def Chip.dropRequest (s : Chip) (w : Leave) : Chip :=
  { s with thermal := { s.thermal with queue := s.thermal.queue.filter (·.what != w) } }

/-- A request that has waited longer than max_wait of its class raises one event and is counted (R534). -/
def Chip.starve (s : Chip) (w : Leave) : Chip :=
  match s.thermal.queue.find? (fun r => r.what == w && !r.starved) with
  | none => s
  | some r =>
    if s.clock.now - r.since > 1000000 * s.rd .grClass_maxWait w.cls then
      let q := s.thermal.queue.map fun x => if x = r then { x with starved := true } else x
      (({ s with thermal := { s.thermal with queue := q } }).count .grCount_starved).raise originGranary
    else s

/-- A quotient rounded to the nearest whole number, halves upward. -/
def nearest (n d : Int) : Int := (2 * n + d) / (2 * d)

/-- The reading of a diode in 1/16 °C (R517; PRESUMED, log entry 1801): the temperature is proportional to its voltage difference and
inversely so to the ideality factor. `q` is the temperature in 1/256 K that the difference gives at an ideality of 1. -/
def diodeReading (param q : Nat) : Int :=
  if param = 0 then -4371 else nearest (10240 * q - 43704 * param) (10 * param)

/-- The reading of a thermistor of 10 kΩ at 25 °C with B value `b` in 1/16 °C (R517; PRESUMED, log entry 1801):
1 / T = 1 / 298.15 K + ln (R / 10 kΩ) / B. `x` is that logarithm in units of 2⁻²⁰. -/
def ntcReading (b : Nat) (x : Int) : Int :=
  let d := 100 * b * 2 ^ 20 + 29815 * x
  if d ≤ 0 then -4371 else nearest (4770400 * b * 2 ^ 20 - 43704 * d) (10 * d)

/-- A reading outside the range of its kind of sensor (R518). -/
def outOfRange (kind : Nat) (v : Int) : Bool :=
  if kind = 2 then v < -40 * 16 || 125 * 16 < v else if kind = 1 then v < -55 * 16 || 150 * 16 < v else false

/-- What input TS[k] gives in 1/16 °C, none where it is open, shorted or off (R517, R518). What an input gives whose element is not of
the kind that TS_CFG sets is a free value (log entry 1801). -/
def Chip.tsReading (s : Chip) (k : Nat) (r : SensorReading) : Option Int :=
  match s.rd .tsCfg_kind k, r with
  | 0, _ | _, .open_ | _, .shorted => none
  | 1, .diode q => some (diodeReading (s.rd .tsCfg_param k) q)
  | 2, .ntc x => some (ntcReading (s.rd .tsCfg_param k) x)
  | kind, .diode q => some (Config.strangeReading kind q)
  | kind, .ntc x => some (Config.strangeReading kind x)
  | kind, .value v => some (Config.strangeReading kind v)

/-- Sensors whose words come from the Rigging die: TS[00] to TS[15], OD[4] and OD[5] (R515). -/
def riggingSensor (k : Nat) : Bool := decide (k < 16) || k == 20 || k == 21

/-- The reading of sensor `k` of the device in 1/16 °C, none where it gives none. -/
def Chip.deviceReading (s : Chip) (k : Nat) (r : SensorReading) : Option Int :=
  if k < 16 then s.tsReading k r
  else match r with
    | .value v => some v
    | _ => none

/-- The words of sensors 0 to 21 as the Mast die has them (R14, R27): those of the Rigging die are as its mirrors hold them, which
follow while the link is up. -/
def Chip.temperatureWords (s : Chip) (raw : List SensorReading) : List (Option Int) :=
  (List.range 22).map fun k =>
    if riggingSensor k && !s.on .idbStat_linkUp then s.thermal.mirror.getD k (some 0) else s.deviceReading k (raw.getD k .open_)

/-- The reading of sensor `k` at this evaluation (R515, R518): none while its cell is excluded, otherwise whether it is
valid, and its value. `words` holds the readings of sensors 0 to 21. -/
def Chip.reading (s : Chip) (words : List (Option Int)) (k : Nat) : Option (Bool × Int) :=
  if k < 22 then
    match words.getD k none with
    | some v => some (!(decide (k < 16) && outOfRange (s.rd .tsCfg_kind k) v), v)
    | none => some (false, 0)
  else
    if s.sensorExcluded k then none
    else
      let lane := s.lane (s.laneOfCell ((k - 22) / 4))
      let code := lane.baleUsed.temps.getD ((k - 22) % 4) 0x8000
      some (code != 0x8000 && decide (s.clock.now - lane.usedAt ≤ 10000000), signed 16 code)

/-- Twice the median of a list of readings: the mean of the two middle values of an even count, kept exact. -/
def median2 (l : List Int) : Int :=
  let o := sortBy (fun a b => decide (a ≤ b)) l
  let n := o.length
  if n % 2 = 1 then 2 * o.getD (n / 2) 0 else o.getD (n / 2 - 1) 0 + o.getD (n / 2) 0

/-- A sensor is marked broken (R520). -/
def Chip.markBroken (s : Chip) (k reason : Nat) : Chip :=
  if s.on .thRead_broken k then s
  else (((s.wr .thRead_broken 1 k).wr .thRead_brokenReason reason k).count .thStat_brokenCount).raise originTempBroken

/-- The marks of broken sensors end with the application of an image (R520). -/
def Chip.clearBroken (s : Chip) : Chip :=
  s.each ((List.range 406).filter fun k => s.on .thRead_broken k) fun s k => (s.wr .thRead_broken 0 k).wr .thRead_brokenReason 0 k

/-- The sensors an evaluation looks at. -/
def Chip.enabledSensors (s : Chip) : List Nat := (List.range 406).filter fun k => s.on .thSensor_enabled k

/-- The reading step of an evaluation (R516, R518): a valid reading is taken; an invalid one marks the sensor broken; an
excluded cell gives none, and its words stand. -/
def Chip.takeReading (s : Chip) (words : List (Option Int)) (k : Nat) : Chip :=
  match s.reading words k with
  | none => s
  | some (true, v) => (s.wr .thRead_valid 1 k).wrInt .thRead_reading v k
  | some (false, _) => (s.wr .thRead_valid 0 k).markBroken k 2

/-- The neighbourhood step (R519): with at least three live members, each that differs from the median by more than
dev_limit is marked broken. -/
def Chip.checkHood (s : Chip) (h : Nat) : Chip :=
  let members := s.enabledSensors.filter fun k => s.rd .thSensor_hood k == h && s.sensorLive k
  if members.length < 3 then s
  else
    let m2 := median2 (members.map fun k => s.rdInt .thRead_reading k)
    s.each members fun s' k =>
      if (2 * s.rdInt .thRead_reading k - m2).natAbs > 2 * s.rd .thHood_devLimit h then s'.markBroken k 1 else s'

/-- The sensor record by number. -/
def Chip.sensor (s : Chip) (k : Nat) : SensorState := storeGet s.thermal.sensors k {}
def Chip.setSensor (s : Chip) (k : Nat) (r : SensorState) : Chip :=
  { s with thermal := { s.thermal with sensors := storePut s.thermal.sensors k {} r } }

/-- The limit step (R521): one event at a passage from inside the limits to outside, the next only after a reading at least 1 °C inside.
A sensor that gives no valid reading or is broken is not above its limits. -/
def Chip.checkLimit (s : Chip) (k : Nat) : Chip :=
  if !s.sensorLive k then s.wr .thRead_above 0 k
  else
    let set := s.rd .thSensor_limSet k
    let v := s.rdInt .thRead_reading k
    let hi := s.rdInt .thLimA_tMax set
    let lo := s.rdInt .thLimB_tMin set
    let r := s.sensor k
    let outside := hi < v || v < lo
    let s := s.wrFlag .thRead_above outside k
    let armed := r.limitArmed || (decide (lo + 16 ≤ v) && decide (v ≤ hi - 16))
    if outside && r.inside && r.limitArmed then (s.setSensor k { r with limitArmed := false, inside := false }).raise originTempLimit
    else s.setSensor k { r with limitArmed := armed, inside := !outside }

/-- The readings of a sensor, newest first, down to the first one of age `win` or more (R522). -/
def readingsSince (now win : Nat) : List (Nat × Int) → List (Nat × Int)
  | [] => []
  | e :: l => if now - e.1 < win then e :: readingsSince now win l else [e]

/-- The rate step (R522): the reading of rate_window seconds ago is the newest one no younger than that; no rate until valid
readings have been held for rate_window. `history` holds readings newest first. -/
def Chip.checkRate (s : Chip) (k : Nat) : Chip :=
  let r := s.sensor k
  if !s.sensorLive k then (s.setSensor k { r with history := [] }).wr .thRead_rate 0 k
  else
    let set := s.rd .thSensor_limSet k
    let win := s.rd .thLimC_rateWindow set
    let lim : Int := s.rd .thLimC_rateLimit set
    let now := s.clock.now
    let v := s.rdInt .thRead_reading k
    let hist := (now, v) :: readingsSince now (1000000000 * win) r.history
    let r := { r with history := hist }
    match hist.getLast? with
    | none => s.setSensor k r
    | some (t0, v0) =>
      if now - t0 < 1000000000 * win ∨ lim = 0 then (s.setSensor k r).wr .thRead_rate 0 k
      else
        -- rates in 0.01 °C/s, both sides times 16 × win
        let rise := (v - v0) * 100
        let bound := lim * 16 * win
        let tooFast := decide (bound < rise)
        let s := s.wrFlag .thRead_rate tooFast k
        if tooFast && r.rateArmed then (s.setSensor k { r with rateArmed := false }).raise originTempRate
        else if 2 * rise ≤ bound then s.setSensor k { r with rateArmed := true }
        else s.setSensor k r

/-- A sensor that reads at or above its t_shut (R524). -/
def Chip.atShutdown (s : Chip) (k : Nat) : Bool :=
  s.sensorLive k && decide (s.rdInt .thLimA_tShut (s.rd .thSensor_limSet k) ≤ s.rdInt .thRead_reading k)

/-- The flash temperature lies in its range (R529, R530). -/
def Chip.flashInRange (s : Chip) : Bool :=
  let k := s.rd .flTemp_flashSensor
  s.sensorLive k && decide (-40 * 16 ≤ s.rdInt .thRead_reading k) && decide (s.rdInt .thRead_reading k ≤ 85 * 16)

/-- Step 3 of R524: SAFE HOLD with hold_cause 3 and one event at origin 850. -/
def Chip.shutdownStep3 (s : Chip) : Chip :=
  ((s.enterSafeHold .thermal).wr .thStat_shutdownPending 0).raise originTempShutdown

/-- The shutdown record of R524 as it is taken at the declaration. -/
def Chip.shutdownRecord (s : Chip) (k : Nat) : ShutdownRecord :=
  let ptp := s.on .tbStat_boundaryValid
  { sensor := k, reading := s.rdInt .thRead_reading k, limSet := s.rd .thSensor_limSet k, mode := s.rd .modeStat_mode,
    reef := s.rd .grStat_reefLevel, ptpValid := ptp,
    time := if ptp then s.rd .tbBoundaryHi_time * 1000000000 + s.rd .tbBoundaryLo_time else s.clock.tb }

/-- The declaration of a thermal shutdown (R524, R525, R530): the record starts being written without leave; when the
flash temperature keeps it from being written, step 3 follows at once and the record waits for a retry. -/
def Chip.declareShutdown (s : Chip) (k : Nat) : Chip :=
  let s := { s with thermal := { s.thermal with records := s.thermal.records ++ [s.shutdownRecord k], declaredAt := s.clock.now } }
  let s := ((s.wr .thStat_shutdownPending 1).wr .thStat_shutSensor k).wr .thStat_recordWritten 0
  if s.on .flTemp_inRange then s
  else
    let s := { s with thermal := { s.thermal with recordTriedAt := s.clock.now } }
    (((s.count .flTemp_refused).raise originStorage).wr .thStat_recordPending 1).shutdownStep3

/-- The shutdown step (R524): at the second evaluation in a row at which a live sensor reads at or above t_shut, the
shutdown is declared; the two evaluations may find different sensors (log entry 20). -/
def Chip.checkShutdown (s : Chip) : Chip :=
  match s.enabledSensors.find? s.atShutdown with
  | none => { s with thermal := { s.thermal with shutRun := 0 } }
  | some k =>
    let s := { s with thermal := { s.thermal with shutRun := s.thermal.shutRun + 1 } }
    if s.thermal.shutRun == 2 && !s.on .thStat_shutdownPending then s.declareShutdown k else s

/-- The re-arm step (R526). -/
def Chip.checkRearm (s : Chip) : Chip :=
  let cool := s.enabledSensors.all fun k =>
    !s.sensorLive k || decide (s.rdInt .thRead_reading k < s.rdInt .thLimB_tRearm (s.rd .thSensor_limSet k))
  let from_ := if cool then (match s.thermal.coolFrom with | some t => some t | none => some s.clock.now) else none
  let left := match from_ with
    | none => 60
    | some t => 60 - min 60 ((s.clock.now - t) / 1000000000)
  let s := { s with thermal := { s.thermal with coolFrom := from_ } }
  (s.wr .thStat_rearmLeft left).wrFlag .thStat_rearmOk (left == 0)

/-- The highest reef level n for which H < reef_n (R536). -/
def Chip.reefTarget (s : Chip) (h : Int) : Nat :=
  if h < (16 * s.rd .grReef_reef3 : Nat) then 3
  else if h < (16 * s.rd .grReef_reef2 : Nat) then 2
  else if h < (16 * s.rd .grReef_reef1 : Nat) then 1
  else 0

/-- The threshold of a reef level (R536). -/
def Chip.reefThreshold (s : Chip) : Nat → Nat
  | 1 => s.rd .grReef_reef1
  | 2 => s.rd .grReef_reef2
  | 3 => s.rd .grReef_reef3
  | _ => 0

/-- The reef level in force is 3 while reef_forced is set (R523), else what H gives (R536). -/
def Chip.showReef (s : Chip) : Chip :=
  s.wr .grStat_reefLevel (if s.on .grStat_reefForced then 3 else s.thermal.reefOwn)

/-- The headroom and reef step (R535, R536): the level that H gives rises to the highest level whose threshold H is below,
and falls by one once H has stood at reef_n + hyst or more for reef_hold. -/
def Chip.checkReef (s : Chip) : Chip :=
  let h := s.headroom
  let s := s.wrInt .grStat_headroom h
  let x := s.thermal
  let n := x.reefOwn
  let target := s.reefTarget h
  let y :=
    if target > n then { x with reefOwn := target, reefFrom := none }
    else if n > 0 ∧ (16 * (s.reefThreshold n + s.rd .grReef_hyst) : Nat) ≤ h then
      match x.reefFrom with
      | none => { x with reefFrom := some s.clock.now }
      | some t =>
        if 10000000000 * s.rd .grReef_hold ≤ s.clock.now - t then { x with reefOwn := n - 1, reefFrom := none } else x
    else { x with reefFrom := none }
  { s with thermal := y }.showReef

/-- The watch behind reef_forced (R523): since when no live sensor has been above its limits or its rate limit. -/
def Chip.checkCalm (s : Chip) : Chip :=
  let calm := s.enabledSensors.all fun k => !s.sensorLive k || (!s.on .thRead_above k && !s.on .thRead_rate k)
  let from_ := if calm then (match s.thermal.calmFrom with | some t => some t | none => some s.clock.now) else none
  { s with thermal := { s.thermal with calmFrom := from_ } }

/-- The charger wants full current: HOLD stands below 14 V, outside HOLD-UP (R634). -/
def Chip.chargeWanted (s : Chip) : Bool := decide (s.rd .huStat_holdMv < 14000) && !s.on .modeStat_holdUp

/-- The hold-up charger (R527): stopped while its sensor forbids it, which raises one event per stop; at full current
under leave, asked for while HOLD stands below 14 V; at trickle current otherwise; stopped above 14.5 V and in HOLD-UP (R633,
R634). It does so before an image is applied too. -/
def Chip.checkCharger (s : Chip) : Chip :=
  if s.chargerOk then
    let s := { s with thermal := { s.thermal with chargeStopped := false } }
    let s := if s.chargeWanted then s.askLeave .charging else (s.returnLeave .charging).dropRequest .charging
    s.wr .huStat_charge (if decide (14500 < s.rd .huStat_holdMv) || s.on .modeStat_holdUp then 0
      else if s.holdsLeave .charging then 2 else 1)
  else
    let s := ((s.returnLeave .charging).dropRequest .charging).wr .huStat_charge 0
    if s.thermal.chargeStopped then s
    else ({ s with thermal := { s.thermal with chargeStopped := true } }).raiseRigging originCharger

/-- One evaluation of every enabled sensor (R516): the readings, then the validity, neighbourhood, limit and rate rules,
each over all sensors before the next; then the shutdown, re-arm, headroom, reef, flash and charger rules, and the
Granary's walk (R533). Before an image is applied the readings give the headroom and the flash temperature (R539) and serve the
charger alone. -/
def Chip.evaluate (s : Chip) (raw : List SensorReading) : Chip :=
  let words := s.temperatureWords raw
  let s := { s with thermal := { s.thermal with mirror := words } }
  let live := s.enabledSensors.filter fun k => !s.on .thRead_broken k
  let s := s.each live fun s k => s.takeReading words k
  let s := s.onlyIf s.applied fun s =>
    let s := s.each (List.range 63) fun s h => s.checkHood h
    let s := s.each s.enabledSensors fun s k => s.checkLimit k
    s.each s.enabledSensors fun s k => s.checkRate k
  let s := s.wrFlag .flTemp_inRange s.flashInRange
  let s := if s.applied then ((s.checkShutdown.checkRearm).checkCalm).checkReef else s.wrInt .grStat_headroom s.headroom
  (s.checkCharger).granary

/-- An evaluation every 10 ms, counted from the application of the image (R516). -/
def Chip.thermalEvaluation (s : Chip) (raw : List SensorReading) : Chip :=
  let ticks := (s.clock.now - s.thermal.evalAt) / 10000000
  if ticks = 0 then s
  else { s with thermal := { s.thermal with evalAt := s.thermal.evalAt + 10000000 * ticks } }.evaluate raw

/-- reef_forced clears once 60 s have passed without a sensor above its limits or rate limit (R523). -/
def Chip.reefForcedClear (s : Chip) : Chip :=
  match s.thermal.calmFrom with
  | some t => if 60000000000 ≤ s.clock.now - t then (s.wr .grStat_reefForced 0).showReef else s
  | none => s

/-- The DEGRADE action of origins 847 and 848 (R523). -/
def Chip.forceReef (s : Chip) : Chip :=
  { s.wr .grStat_reefForced 1 with thermal := { s.thermal with calmFrom := none } }.showReef

/-- HOLD crosses 13.3 V (R528): ready follows, and the watch of 10 s starts or is armed again. -/
def Chip.holdReadyChange (s : Chip) (mv : Nat) : Chip :=
  let s := s.wr .huStat_holdMv mv
  if 13300 ≤ mv then
    { s.wr .huStat_ready 1 with thermal := { s.thermal with readyClearFrom := none, readyReported := false } }
  else
    let from_ := if s.on .huStat_ready then some s.clock.now else
      (match s.thermal.readyClearFrom with | some t => some t | none => some s.clock.now)
    { s.wr .huStat_ready 0 with thermal := { s.thermal with readyClearFrom := from_ } }

/-- ready has been clear for 10 s without a break in RUN or SHADOW: one event, the next only after ready (R528). -/
def Chip.holdReadyTimeout (s : Chip) : Chip :=
  match s.thermal.readyClearFrom with
  | some t =>
    if !s.on .huStat_ready && (s.mode == .run || s.mode == .shadow) && decide (10000000000 ≤ s.clock.now - t) &&
        !s.thermal.readyReported then
      ({ s with thermal := { s.thermal with readyReported := true } }).raiseRigging originCharger
    else s
  | none => s

end Sys2Proof.Machine
end

