-- ==== Sys2Proof/Machine/Lanes.lean ====
section
/-! DEFINITION. The lanes: bring-up, latency measurement, signal quality, loss of lock (R130 to R165), and the bales of
the cell link (R190 to R198). Lanes 96 and 97 are AX[0] and AX[1] and use the 96-bit code (R130). -/

namespace Sys2Proof.Machine

/-- The code of a lane state in LANE_STAT (R150, R165). -/
def LinkState.code : LinkState → Nat
  | .disabled => 0
  | .hunt => 1
  | .measure => 2
  | .ready => 3
  | .held => 4

/-- The lane state a code stands for; 5 to 7 are not used. -/
def LinkState.ofCode : Nat → LinkState
  | 0 => .disabled
  | 1 => .hunt
  | 2 => .measure
  | 3 => .ready
  | _ => .held

/-- The state of lane `n` (R150). -/
def Chip.linkState (s : Chip) (n : Nat) : LinkState := LinkState.ofCode (s.rd .laneStat_state n)

/-- The READY bit of lane `n` and its mirror in LANE_STAT (R65, R66, R165). -/
def Chip.setLaneReady (s : Chip) (n : Nat) (b : Bool) : Chip :=
  let s := (s.wrFlag .laneStat_ready b n).onlyIf (!b) fun s => s.unusable n
  if n < 32 then s.wrBit .readyLaneA_ready n b
  else if n < 64 then s.wrBit .readyLaneB_ready (n - 32) b
  else if n < 96 then s.wrBit .readyLaneC_ready (n - 64) b
  else
    let s := s.wrBit .readyUnit_ax (n - 96) b
    if n < 98 then s.wrBit .halStat_lanesReady (n - 96) b else s

/-- The lane is READY. -/
def Chip.laneReady (s : Chip) (n : Nat) : Bool := s.on .laneStat_ready n

/-- The cell of a lane that leaves READY is UNREACHABLE from the declaration (R61, R163, R237), with last_cause 7. -/
def Chip.cellLost (s : Chip) (nn : Nat) : Chip :=
  let st := s.rd .cellStat_state nn
  if st = 3 then s
  else
    let s := s.setCell nn { s.cell nn with wasBypassed := st == 2 }
    (((s.wr .cellStat_state 3 nn).wr .cellStat_lastCause 7 nn).wr .cellStat_bypassPending 0 nn).wr
      .cellStat_releasePending 0 nn

/-- A lane stops being READY: its READY bit clears and its cell is lost. -/
def Chip.laneDown (s : Chip) (n : Nat) : Chip :=
  let s := s.setLaneReady n false
  match s.cellOfLane n with
  | some nn => s.cellLost nn
  | none => s

/-- A lane enters HELD with a reason, which raises one event on its link source (R151). -/
def Chip.laneHold (s : Chip) (n reason : Nat) : Chip :=
  let s := s.laneDown n
  ((s.wr .laneStat_state LinkState.held.code n).wr .laneStat_heldReason reason n).raise (originLink n)

/-- A pair member in CONFIGURE holds the lane in electrical idle (R447). -/
def Chip.laneHeld (s : Chip) (n : Nat) : Bool := s.halyard.cellsHeld && s.heldLanes.contains n

/-- The main synthesiser clocks the lanes: from the first lock on, and not while synth_down is 1 (R112, R116). -/
def Chip.lanesRun (s : Chip) : Bool := s.clock.started && !s.on .pllStat_synthDown

/-- The lane sends BLOCK (R17, R143): on the cell link with BW[0] or BW[1], or as the mode has it; on a Halyard lane with BW[0] or
BW[1] (R452). -/
def Chip.laneBlock (s : Chip) (n : Nat) : Bool :=
  if isHalyardLane n then s.wireActs 0 || s.wireActs 1 else s.sendsBlock

/-- This member reports itself healthy in its headers (R452). -/
def Chip.isHealthy (s : Chip) : Bool :=
  s.mode != .safeHold && !s.on .pllStat_holdover && !s.on .pllStat_synthDown

/-- The header this member sends (R452). -/
def Chip.ownHeader (s : Chip) : HalHeader :=
  { block := s.wireActs 0 || s.wireActs 1, react := s.reaction, healthy := s.isHealthy,
    takeover := s.halyard.takeover, mode := s.rd .modeStat_mode, member := s.rd .halCfg_member, rank := s.rd .halCfg_rank,
    inStep := s.mode == .shadow && s.on .halStat_inStep }

/-- A control block as lane `n` sends it: on a Halyard lane with the whole header of R452. -/
def Chip.controlOf (s : Chip) (n : Nat) (bytes : List Byte) : LineBlock :=
  { controlBlock (s.laneBlock n) bytes with rest := if isHalyardLane n then s.ownHeader.rest else [] }

/-- The blocks of a frame on Halyard lane `n` (R167, R168, R455): its SOF, its data blocks and its EOF with the CRC-32 over the payloads
before it. -/
def halSof (bytes : List Byte) : List Byte := bytes ++ List.replicate (8 - bytes.length) 0
def Chip.halFrame (s : Chip) (n : Nat) (sof data : List Byte) (eof : Byte) : List LineBlock :=
  let rest := s.ownHeader.rest
  let body := (List.range ((data.length + 7) / 8)).map fun i =>
    { dataBlock (s.laneBlock n) ((data.drop (8 * i)).take 8) with rest }
  s.controlOf n (halSof sof) :: body ++ [s.controlOf n (eof :: leBytes 4 (crc32 (halSof sof ++ data)))]

/-- The payload of an ID_SOF (R455): the kind, and the sender's member and rank. -/
def idSof (kind member rank : Nat) : List Byte := halSof ([0xB4] ++ leBytes 1 kind ++ leBytes 1 member ++ leBytes 1 rank)

/-- An ID frame of this member leaves Halyard lane `n` (R455, R457). -/
def Chip.sendId (s : Chip) (n kind : Nat) (data : List Byte) : Chip :=
  s.putBlocks n (s.halFrame n (idSof kind (s.rd .halCfg_member) (s.rd .halCfg_rank)) data 0xCC)

/-- The IDLE block that lane `n` sends (R135, R455): rx_locked; the device clocks its lanes itself, and is never loop-timed. -/
def Chip.idleOf (s : Chip) (n : Nat) : LineBlock := s.controlOf n [0x1E, BitVec.ofNat 8 (flag (s.lane n).locked)]

/-- What lane `n` puts on the line (R136, R150): the frame or block it was given, and IDLE blocks whenever it has nothing else to send;
nothing where its transmitter stands in electrical idle or has no clock. What the transmitter holds before its first frame since power-on is
open (R137). -/
def Chip.lineOut (s : Chip) (n : Nat) : LineSent :=
  if s.lanesRun && s.on .laneCfg_enabled n && !s.laneHeld n then .blocks (s.lane n).sent ((s.lane n).tx.getD (openTx s.drawn)) (s.idleOf n)
  else .silent

/-- The bits on the line up to the `k`-th IDLE block after the frame: header in the clear, payload scrambled on, both stuffed (R136 to R138). -/
def LineSent.bits (k : Nat) : LineSent → List Bool
  | .silent => []
  | .blocks frame after idle => frame ++ (after.sendAll (List.replicate k idle)).1

/-- The lane island is set back to its state at the start of HUNT, its measurements and counts of runs forgotten (R61,
R157, R163), while its transmitter goes on with IDLE blocks (R164); a lane that is held reports DISABLED (R447). -/
def Chip.laneToHunt (s : Chip) (n : Nat) : Chip :=
  let l := s.lane n
  let s := s.setLane n { l with
    rx := { run := l.rx.run, history := l.rx.history }, lastBlock := false, echoTag := 0, echoSent := [], echoPeriod := none, echoGot := [], echoLost := [], spreadFails := 0,
    lostRun := 0, driftOut := 0, driftIn := 0, driftArmed := true, tbArmed := false, baleNext := none, fresh := false }
  let s := (s.wr .laneStat_heldReason 0 n).wr .laneLatency_valid 0 n
  let s := ((s.wr .laneStat_farBlock 0 n).wr .laneStat_farLoopTimed 0 n).wr .laneStat_farRxLocked 0 n
  (s.wr .laneStat_state
    (if s.on .laneCfg_enabled n && !s.laneHeld n then LinkState.hunt.code else LinkState.disabled.code) n).sendIdle n

/-- A lane reset (R55, R61, R163): the lane leaves READY, and the lane begins again in HUNT. -/
def Chip.laneReset (s : Chip) (n : Nat) : Chip :=
  if s.on .laneCfg_enabled n then ((s.laneDown n).laneToHunt n).wr .resetCause_lane 1 else s

/-- HUNT is left for MEASURE on block lock, with the far end's rx_locked and, on the 67-bit code, loop_timed, once an
image has been applied (R150, R456). -/
def Chip.laneTryMeasure (s : Chip) (n : Nat) : Chip :=
  if s.linkState n = .hunt ∧ (s.lane n).locked = true ∧ s.on .laneStat_farRxLocked n = true ∧
      (isHalyardLane n || s.on .laneStat_farLoopTimed n) = true ∧ s.applied = true then
    s.wr .laneStat_state LinkState.measure.code n
  else s

/-- What a received header tells in lock (R142, R145, R165): an invalid one is counted; far_block follows the two most recent valid
ones. -/
def Chip.noteHeader (s : Chip) (n : Nat) (b : LineBlock) : Chip :=
  if lineValid b then
    (s.wrFlag .laneStat_farBlock ((s.lane n).lastBlock && b.h2) n).setLane n { s.lane n with lastBlock := b.h2 }
  else s.count .laneErrs_invalidHeaders n

/-- A control block of an unknown type is discarded and counts as an invalid header (R135). -/
def Chip.noteKind (s : Chip) (n : Nat) (b : LineBlock) : Chip :=
  s.onlyIf (lineValid b && b.usable && lineControl b && !knownControl (isHalyardLane n) (lineKind b)) fun s =>
    s.count .laneErrs_invalidHeaders n

/-- Line bits arrive on lane `n` (R137 to R142): the receiver takes them, stuffing violations are counted, and what the headers of the
blocks tell is noted; on a Halyard lane the headers come by themselves (log entry 512). A lane that is DISABLED or has no clock
receives nothing. The result is the blocks received in lock, up to a loss of lock, and the bits after the loss. -/
def Chip.receiveRun (s : Chip) (n : Nat) (line : List Bool) : List LineBlock × List Bool × Chip :=
  if !s.lanesRun || s.linkState n == .disabled then ([], [], s)
  else
    let x := (s.lane n).rx.take (isHalyardLane n) line
    let s := s.setLane n { s.lane n with rx := x.1 }
    let s := s.count .laneErrs_stuffViolations n x.2.2.1
    (x.2.1, x.2.2.2, s.each x.2.1 fun s b => (s.onlyIf (!isHalyardLane n) fun s => s.noteHeader n b).noteKind n b)

/-- Loss of lock is declared: it is counted, and a lane reset follows (R142, R163). -/
def Chip.declareLoss (s : Chip) (n : Nat) : Chip := (s.count .laneStat_lockLosses n).laneReset n

/-- Line bits arrive on lane `n` (R142): wherever 16 of 64 consecutive blocks in lock have invalid headers, loss of lock is declared, and the
receiver hunts on in the bits that follow. The result is the blocks received in lock since the last loss; `fuel` bounds the losses. -/
def Chip.receiveRuns (n : Nat) : Nat → Chip → List Bool → List LineBlock × Chip
  | 0, s, _ => ([], s)
  | fuel + 1, s, line =>
    let x := s.receiveRun n line
    if (x.2.2.lane n).rx.lost then receiveRuns n fuel (x.2.2.declareLoss n) x.2.1 else (x.1, x.2.2)

/-- Line bits arrive on lane `n`. -/
def Chip.receive (s : Chip) (n : Nat) (line : List Bool) : List LineBlock × Chip := Chip.receiveRuns n (line.length + 1) s line

/-- LANE_BLOCK_LOCK (R140, R150): bits arrive that bring block lock, and HUNT may be left. -/
def Chip.laneBlockLock (s : Chip) (n : Nat) (line : List Bool) : Chip := (s.receive n line).2.laneTryMeasure n

/-- LANE_LOSS_OF_LOCK (R142): by the bits that arrive, or by loss of the signal after them. -/
def Chip.laneLossOfLock (s : Chip) (n : Nat) (line : List Bool) (signalLost : Bool) : Chip :=
  let s := (s.receive n line).2
  if (s.lane n).locked && signalLost then s.declareLoss n else s

/-- No loop_timed within 10 ms of block lock, or of the application (R150). It does not occur on AX[0] and AX[1]
(R456). -/
def Chip.loopTimedTimeout (s : Chip) (n : Nat) : Chip :=
  if isHalyardLane n = false ∧ s.linkState n = .hunt ∧ (s.lane n).locked = true ∧ s.applied = true ∧
      s.on .laneStat_farLoopTimed n = false then s.laneHold n 3
  else s

/-- The control blocks of one kind whose payload is used (R135, R140). -/
def controlsOf (kind : Nat) (bs : List LineBlock) : List LineBlock :=
  bs.filter fun b => lineValid b && b.usable && lineControl b && lineKind b == kind

/-- An upstream IDLE block tells of the far end (R135, R145, R150). -/
def Chip.takeIdle (s : Chip) (n : Nat) (b : LineBlock) : Chip :=
  let v := byteAt b.payload 1
  let s := s.wrFlag .laneStat_farRxLocked (bitAt v 0) n
  let s := if isHalyardLane n then s else s.wrFlag .laneStat_farLoopTimed (bitAt v 1) n
  s.laneTryMeasure n

/-- IDLE_BLOCK_RX (R135). -/
def Chip.idleBlock (s : Chip) (n : Nat) (line : List Bool) : Chip :=
  let r := s.receive n line
  r.2.each (controlsOf 0x1E r.1) fun s b => s.takeIdle n b

/-- The ECHO_REQ block with a tag goes onto the line of lane `n` (R135, R136). -/
def Chip.sendEchoBlock (s : Chip) (n tag : Nat) : Chip := s.putBlocks n [s.controlOf n [0x2D, BitVec.ofNat 8 tag]]

/-- In READY an ECHO_REQ falls due (R158, R456): one in a period, on a Halyard lane one every 64 periods and only after the copy of the
period, which goes out from t_S on (R463). -/
def Chip.echoDue (s : Chip) (n : Nat) : Bool :=
  let since := match (s.lane n).echoPeriod with
    | some p => (s.rd .periodIndex_index + 2 ^ 32 - p) % 2 ^ 32
    | none => 64
  if isHalyardLane n then decide (64 ≤ since) && (!s.sys.pair || decide (5 ≤ s.clock.step)) else since != 0

/-- An ECHO_REQ leaves at `tTx`, in 125 ps units of the model's clock (R153, R158): in MEASURE with a lost tag again or the next of the
64, in READY when one falls due, with tags in turn (log entry 513); never while the sheaf transmission window stands open. -/
def Chip.echoSend (s : Chip) (n tTx : Nat) : Chip :=
  let l := s.lane n
  let p := s.rd .periodIndex_index
  let sent (t : Nat) : Store (Nat × Nat) := storeInsert (storeDrop l.echoSent t) t (tTx, p)
  if s.clock.windowOpen || !s.lanesRun then s
  else
    match s.linkState n with
    | .measure =>
      match l.echoLost with
      | t :: r => (s.setLane n { l with echoLost := r, echoSent := sent t }).sendEchoBlock n t
      | [] =>
        if l.echoTag < 64 then
          (s.setLane n { l with echoTag := l.echoTag + 1, echoSent := sent l.echoTag }).sendEchoBlock n l.echoTag
        else s
    | .ready =>
      let t := l.echoTag % 64
      if s.echoDue n then
        (s.setLane n { l with echoTag := (t + 1) % 64, echoSent := sent t, echoPeriod := some p }).sendEchoBlock n t
      else s
    | _ => s

/-- The admission of a measured latency: R33 for a cell lane, hal_d_max for a Halyard lane (R456). -/
def Chip.laneAdmits (s : Chip) (n d : Nat) : Bool :=
  if isHalyardLane n then decide (d ≤ 4000 * s.rd .halCfg_dMax) else decide (d + 8000 ≤ s.lead)

/-- The lane enters READY; its timebase watch and its drift watch are armed (R158, R196). A re-adaptation that is under way or waits for
leave is not made in READY (R162): it ends there, and its leave returns, though R533 lets an operation run to its end (DESIGN CHOICE, log
entry 504). -/
def Chip.laneEnterReady (s : Chip) (n : Nat) : Chip :=
  let s := s.setLane n { s.lane n with tbArmed := true, driftArmed := true, driftOut := 0, driftIn := 0, echoSent := [], echoTag := 0, echoPeriod := none }
  let s := (s.dropRequest (.readapt n)).returnLeave (.readapt n)
  ((s.wr .laneStat_state LinkState.ready.code n).setLaneReady n true)

/-- The latency constant D of R154; LANE_LATENCY holds no negative D, and one that comes out negative is stored as 0 (DESIGN CHOICE, log
entry 514): the median of the loop delays plus asym, halved, halves upward. -/
def latencyConstant (ls : List Int) (asym : Int) : Int := roundHalfUp (median2 ls + 2 * asym) 4

/-- A fresh nonce leaves on lane `n` (R457); its bytes are free values (log entry 2). -/
def Chip.sendNonce (s : Chip) (n : Nat) : Chip :=
  let r := s.draw
  let s := r.2
  let x := storeGet s.halyard.ids n {}
  let nonce := (List.range 16).map fun i => Config.freeByte r.1 i
  { s with halyard := { s.halyard with ids := storePut s.halyard.ids n {} { x with nonce := nonce, proof := none } } }.sendId n 1 nonce

/-- 64 loop delays are in (R154, R33, R456): too wide a spread measures again, the fourth time into HELD; otherwise D is
fixed and the lane goes to READY or HELD. A Halyard lane then exchanges identities, and waits in MEASURE until the partner is
accepted on it (R456, R457). -/
def Chip.latencyFixed (s : Chip) (n : Nat) : Chip :=
  let l := s.lane n
  let hi := l.echoGot.foldl max (l.echoGot.headD 0)
  let lo := l.echoGot.foldl min (l.echoGot.headD 0)
  if hi - lo > 16 then
    let l' := { l with echoGot := [], echoSent := [], echoLost := [], echoTag := 0, spreadFails := l.spreadFails + 1 }
    let s := s.setLane n l'
    if l'.spreadFails = 4 then s.laneHold n 2 else s
  else
    let d := (latencyConstant l.echoGot (s.rdInt .laneAsym_asym n)).toNat
    let s := (s.wr .laneLatency_latency d n).wr .laneLatency_valid 1 n
    if !s.laneAdmits n d then s.laneHold n 1
    else if isHalyardLane n then s.sendNonce n
    else s.laneEnterReady n

/-- The period `p` in whose turn an L was measured follows that of the L before it (R158): the next one, on a Halyard lane, which measures
every 64 periods, the next measurement (R456). -/
def Chip.driftFollows (s : Chip) (n p : Nat) : Bool :=
  isHalyardLane n || p == ((s.lane n).driftPeriod + 1) % 2 ^ 32

/-- The drift watch of a READY lane (R158): runs of consecutive periods with L outside and inside the limit; an L belongs to the period `p`
of its request, of which each period has one. -/
def Chip.driftWatch (s : Chip) (n : Nat) (loop : Int) (p : Nat) : Chip :=
  let l := s.lane n
  let expect : Int := 2 * s.rd .laneLatency_latency n - s.rdInt .laneAsym_asym n
  let goesOn := s.driftFollows n p
  let l := { l with driftPeriod := p }
  if (loop - expect).natAbs > s.rd .laneCfg_driftLimit n then
    let out := (if goesOn then l.driftOut else 0) + 1
    let fire := l.driftArmed && decide (8 ≤ out)
    let s := s.setLane n { l with driftOut := out, driftIn := 0, driftArmed := l.driftArmed && !fire }
    if fire then (s.wr .laneRtt_drift 1 n).raise (originLink n) else s
  else
    let inn := (if goesOn then l.driftIn else 0) + 1
    s.setLane n { l with driftOut := 0, driftIn := inn, driftArmed := l.driftArmed || decide (8 ≤ inn) }

/-- A loop delay is obtained (R153, R158), by a request of period `p`: it counts toward D in MEASURE, and for the drift watch in READY. -/
def Chip.takeLoop (s : Chip) (n : Nat) (loop : Int) (p : Nat) : Chip :=
  let l := s.lane n
  match s.linkState n with
  | .measure =>
    let l := { l with echoGot := l.echoGot ++ [loop], lostRun := 0 }
    let s := (s.setLane n l).wrInt .laneRtt_loopDelay loop n
    if l.echoGot.length = 64 then s.latencyFixed n else s
  | .ready => (s.wrInt .laneRtt_loopDelay loop n).driftWatch n loop p
  | _ => s

/-- 250 µs in 125 ps units (R153). -/
def echoLimit : Nat := 2000000

/-- An ECHO_RSP block (R135, R153), its h0 at `tRx`: the loop delay L is arrival less departure less hold time. A response without its
request, or more than 250 µs after it, is not taken. -/
def Chip.takeResponse (s : Chip) (n tRx : Nat) (b : LineBlock) : Chip :=
  let tag := byteAt b.payload 1
  match (s.lane n).echoSent.find? (·.1 == tag) with
  | none => s
  | some (_, tTx, p) =>
    if tTx + echoLimit < tRx then s
    else
      (s.setLane n { s.lane n with echoSent := storeDrop (s.lane n).echoSent tag }).takeLoop n
        ((tRx : Int) - tTx - leAt b.payload 2 3) p

/-- ECHO_RESPONSE_RX (R153, R158). -/
def Chip.echoResponse (s : Chip) (n : Nat) (line : List Bool) (tRx : Nat) : Chip :=
  let r := s.receive n line
  r.2.each (controlsOf 0x33 r.1) fun s b => s.takeResponse n tRx b

/-- A request without a response for 250 µs is lost and its tag sent again; 64 losses in a row hold the lane (R153). -/
def Chip.echoTimeout (s : Chip) (n tag : Nat) : Chip :=
  let l := s.lane n
  if l.echoSent.any fun x => x.1 == tag && decide (x.2.1 + echoLimit ≤ 8 * s.clock.now) then
    match s.linkState n with
    | .measure =>
      let l := { l with echoSent := storeDrop l.echoSent tag, echoLost := l.echoLost ++ [tag], lostRun := l.lostRun + 1 }
      let s := s.setLane n l
      if l.lostRun = 64 then s.laneHold n 4 else s
    | _ => s.setLane n { l with echoSent := storeDrop l.echoSent tag }
  else s

/-- ECHO_REQUEST_RX (R152, R455): a Halyard lane with block lock answers with one ECHO_RSP that carries the tag; its hold time, of at
most 10 µs, is open (log entry 2). -/
def Chip.echoRequest (s : Chip) (n tag : Nat) : Chip :=
  if (s.lane n).locked then
    let d := s.draw
    let hold := (Config.freeWord d.1).toNat % 80001
    let s := d.2.putBlocks n [d.2.controlOf n ([0x33] ++ leBytes 1 tag ++ leBytes 3 hold)]
    s.setLane n { s.lane n with echoReply := some (tag, hold) }
  else s

/-- The figure of merit is renewed (R160): one event per fall below quality_threshold; 0 disables the check. A first figure since the reset
that lies below is a fall too: the spec does not say (DESIGN CHOICE, log entry 504). -/
def Chip.fomUpdate (s : Chip) (n fom : Nat) : Chip :=
  if s.on .laneCfg_qualityMode n then s
  else
    let s := s.wr .laneQuality_fom fom n
    let l := s.lane n
    let below := decide (fom < s.rd .laneCfg_qualityThreshold n)
    let s := s.setLane n { l with fomBelow := below }
    if below && !l.fomBelow then s.raise (originLink n) else s

/-- An eye-scan sweep is requested (R161); ignored when quality_mode is 0. -/
def Chip.eyeScanRequest (s : Chip) (n : Nat) : Chip :=
  if s.on .laneCfg_qualityMode n then s.askLeave (.eyeScan n) else s

/-- The scan interval has passed (R161); an interval of 0 makes no sweep of its own. -/
def Chip.eyeScanInterval (s : Chip) (n : Nat) : Chip :=
  if s.rd .laneCfg_scanInterval n = 0 then s else s.eyeScanRequest n

/-- A sweep that holds leave ends (R161); with the figure of merit selected meanwhile it leaves no result. -/
def Chip.eyeScanComplete (s : Chip) (n width height : Nat) : Chip :=
  if s.holdsLeave (.eyeScan n) then
    let s := s.onlyIf (s.on .laneCfg_qualityMode n) fun s =>
      let s := ((s.wr .laneQuality_eyeWidth width n).wr .laneQuality_eyeHeight height n).wr .laneQuality_scanValid 1 n
      if width < s.rd .laneCfg_qualityThreshold n then s.raise (originLink n) else s
    s.returnLeave (.eyeScan n)
  else s

/-- A full re-adaptation is requested in HUNT, MEASURE or HELD; in READY the write is ignored (R162). -/
def Chip.readaptRequest (s : Chip) (n : Nat) : Chip :=
  match s.linkState n with
  | .hunt | .measure | .held => s.askLeave (.readapt n)
  | _ => s

/-- A lane that the image disables has no sweep and no re-adaptation under way or waiting (R161, R162). -/
def Chip.endLaneWork (s : Chip) (n : Nat) : Chip :=
  let s := (s.dropRequest (.readapt n)).dropRequest (.eyeScan n)
  (s.returnLeave (.readapt n)).returnLeave (.eyeScan n)

/-- A re-adaptation ends and returns its leave (R162). -/
def Chip.readaptComplete (s : Chip) (n : Nat) : Chip := s.returnLeave (.readapt n)

/-- A bale arrives on a lane as line bits (R28, R167, R195): bad or late it is discarded, counted and raises an event on the lane's
link source; otherwise it waits for the next snapshot. Only a READY lane of the 67-bit code takes bales (R65). -/
def Chip.baleReceived (s : Chip) (n : Nat) (line : List Bool) (late : Bool) : Chip :=
  let r := s.receive n line
  let bs := r.1
  let s := r.2
  if isHalyardLane n || !s.laneReady n then s
  else if !(baleForm bs && baleCrc bs) then (s.count .linkBale_badBales n).raise (originLink n)
  else if late then ((s.count .linkBale_lateBales n).wr .periodStat_baleLate 1).raise (originLink n)
  else s.setLane n { s.lane n with baleNext := some (readBale bs) }

/-- LINK_CELL and LINK_TB hold the used bale (R198). -/
def Chip.reportBale (s : Chip) (n : Nat) (b : Bale) : Chip :=
  let s := (s.wr .linkCell_valid 1 n).wr .linkCell_cellState b.cellState n
  let s := (s.wrFlag .linkCell_execMember b.execMember n).wrFlag .linkCell_repeat b.isRepeat n
  let s := (s.wrFlag .linkCell_bypassClosed b.bypassClosed n).wrFlag .linkCell_portValid b.portValid n
  let s := (s.wrFlag .linkCell_capLow b.capLow n).wrFlag .linkCell_interlock b.interlock n
  ((s.wrFlag .linkCell_prechargeActive b.prechargeActive n).wr .linkCell_echoSeq b.echoSeq n).wrInt .linkTb_tbError
    b.tbError n

/-- The cell at the far end of a lane (R200): that of the engine that the lane serves, and on CL[nn] without one cell nn. -/
def Chip.farCell (s : Chip) (n : Nat) : Option Nat :=
  match s.cellOfLane n with
  | some nn => some nn
  | none => if n < 96 then some n else none

/-- An event at an origin of the cell at the far end of a lane, where there is one. -/
def Chip.raiseCell (s : Chip) (cell : Option Nat) (origin : Nat → Nat) : Chip :=
  match cell with
  | some nn => s.raise (origin nn)
  | none => s

/-- The timebase watch of a lane for a used bale (R196); −32,768 is no measurement. -/
def Chip.timebaseWatch (s : Chip) (n : Nat) (b : Bale) : Chip :=
  let l := s.lane n
  if b.tbError = -32768 then s
  else if b.tbError.natAbs ≤ 1000 then s.setLane n { l with tbArmed := true }
  else if l.tbArmed then
    ((s.setLane n { l with tbArmed := false }).wr .linkTb_tbFault 1 n).raiseCell (s.farCell n) originTimebase
  else s

/-- The events of a used bale (R196): repeat, each trip, interlock, timebase excursion. -/
def Chip.baleEvents (s : Chip) (n : Nat) (b : Bale) : Chip :=
  let cell := s.farCell n
  let s := if b.isRepeat then s.raise (originLink n) else s
  let s := s.each ((List.range 6).filter fun m => bitAt b.trips m) fun s _ => s.raiseCell cell originTrip
  let s := if b.interlock then s.raiseCell cell originInterlock else s
  s.timebaseWatch n b

/-- The bale of a lane enters the snapshot, or the cell's previous values stay with fresh cleared (R28, R196). -/
def Chip.useBale (s : Chip) (n : Nat) : Chip :=
  let l := s.lane n
  match l.baleNext with
  | none => s.setLane n { l with fresh := false }
  | some b =>
    let s := s.setLane n { l with baleNext := none, baleUsed := b, fresh := true, usedAt := s.clock.now }
    (s.reportBale n b).baleEvents n b

end Sys2Proof.Machine
end

