-- ==== Sys2Proof/Machine/Pattern.lean ====
section
/-! DEFINITION. From a reference to stamps for one half-bridge (R204, R207 to R221): the ideal pattern of each mode, the
repayment of the carry, the minimum-pulse rules, the bootstrap refresh, the carry, dead time and held-over stamps, level
stamps and the interlock. All times are in 125 ps units after E. -/

namespace Sys2Proof.Machine

/-- An ideal or a kept pattern: the state at 0 and the transitions after it in rising time, each with the state it leads
to. -/
structure Pattern where
  start : Bool
  edges : List (Nat × Bool)
  deriving DecidableEq, Repr

/-- A Q1.15 word as the edge engines read it (R204): 0x7FFF is exactly +1, in units of 1/32,768. -/
def readQ15 (v : Nat) : Int := if v % 65536 = 0x7FFF then 32768 else signed 16 v

/-- A duty or a phase that is read as 0 below 0 (R204). -/
def readDuty (v : Nat) : Int := max 0 (readQ15 v)

/-- An NLM state code (R204). -/
def readNlm (c : Nat) : Int :=
  match c % 4 with
  | 1 => 1
  | 3 => -1
  | _ => 0

/-- A transition put into a list in time order; of two at one time the earlier made stands first. -/
def insertEdge {α : Type} (e : Nat × α) : List (Nat × α) → List (Nat × α)
  | [] => [e]
  | f :: r => if e.1 < f.1 then e :: f :: r else f :: insertEdge e r

/-- A list put in time order. -/
def sortEdges {α : Type} (l : List (Nat × α)) : List (Nat × α) := l.foldl (fun acc e => insertEdge e acc) []

/-- Only the transitions that change the state. -/
def changes : Bool → List (Nat × Bool) → List (Nat × Bool)
  | _, [] => []
  | b, (t, v) :: r => if v = b then changes b r else (t, v) :: changes v r

/-- The exact instants of a repeating pattern as transitions: `scale` is the common denominator, `period` and the
positions `fall` and `rise` within it are scaled, `base` is the scaled position at time 0. Instants lie in [0, limit) and
are rounded to the nearest unit, halves upward (R207). -/
def repeating (scale period limit base : Nat) (fall rise : Nat) : List (Nat × Bool) :=
  let count := limit * scale / period + 2
  let of (p : Nat) (v : Bool) : List (Nat × Bool) :=
    (List.range count).filterMap fun j =>
      let x := p + j * period
      if base ≤ x ∧ x - base < limit * scale then some (x - base, v) else none
  (sortEdges (of fall false ++ of rise true)).map fun (x, v) => ((2 * x + scale) / (2 * scale), v)

/-- A pattern from its state at 0 and transitions: those at 0 belong to the state at 0. -/
def patternOf (start : Bool) (es : List (Nat × Bool)) : Pattern :=
  let start := (es.filter fun e => e.1 = 0).foldl (fun _ e => e.2) start
  ⟨start, changes start (es.filter fun e => e.1 ≠ 0)⟩

/-- PSC (R209): the leg is high while the carrier lies below `m` (in 1/32,768). `tCar` is the carrier's period, `pos` the
scaled position n_a × T_ctl + θ × T_car / 65,536 at time 0 in 1/131,072. -/
def pscPattern (m : Int) (tCar pos limit : Nat) : Pattern :=
  if m ≥ 32768 then ⟨true, []⟩
  else if m ≤ -32768 then ⟨false, []⟩
  else
    let scale := 131072
    let period := tCar * scale
    let base := pos % period
    let fall := (m + 32768).toNat * tCar
    let rise := (98304 - m).toNat * tCar
    patternOf (base < fall || rise < base) (repeating scale period limit base fall rise)

/-- The scaled carrier position of a cell at time 0 (R209). -/
def pscPosition (nA tCtl theta tCar : Nat) : Nat := nA * tCtl * 131072 + 2 * theta * tCar

/-- CPWM and INDEP (R212): high while the duty `d` (in 1/32,768) exceeds the local carrier. -/
def localPattern (d : Int) (tL theta limit : Nat) : Pattern :=
  if d ≥ 32768 then ⟨true, []⟩
  else if d ≤ 0 then ⟨false, []⟩
  else
    let scale := 65536
    let period := tL * scale
    let base := theta * tL % period
    let fall := d.toNat * tL
    let rise := period - d.toNat * tL
    patternOf (base < fall || rise < base) (repeating scale period limit base fall rise)

/-- A DAB leg (R211): high for half the DAB period from each rising transition, which lies at `rise` (scaled by
65,536). -/
def dabPattern (tDab : Nat) (rise : Int) (limit : Nat) : Pattern :=
  let scale := 65536
  let period := tDab * scale
  let r := (rise % (period : Int)).toNat
  let f := (r + tDab * 32768) % period
  let since := (period - r) % period
  patternOf (decide (since < tDab * 32768)) (repeating scale period limit 0 f r)

/-- The scaled rising transition of the DAB leg of half-bridge `m`, 2 to 5 (R211): `o`, d_p, d_o and d_s in
1/65,536 and 1/32,768. -/
def dabRise (m : Nat) (tDab o : Nat) (dp dO ds : Int) : Int :=
  let o' : Int := o * tDab
  let h : Int := tDab * 32768
  match m with
  | 2 => o'
  | 3 => o' + h + dp * tDab
  | 4 => o' + dO * tDab
  | _ => o' + dO * tDab + h + ds * tDab

/-- The state of a leg of the H-bridge in an NLM state (R210): leg A for `legB` false. -/
def nlmLeg (st : Int) (zeroSel legB : Bool) : Bool :=
  if st = 0 then zeroSel else if legB then st == -1 else st == 1

/-- NLM (R210): state s to t_s, then s2; with t_s at or past T_ctl, s throughout. -/
def nlmPattern (s s2 : Int) (zeroSel legB : Bool) (ts tCtl : Nat) : Pattern :=
  let a := nlmLeg s zeroSel legB
  let b := nlmLeg s2 zeroSel legB
  if tCtl ≤ ts then ⟨a, []⟩ else patternOf a [(ts, b)]

/-- The time high in [from, to) of a state and the transitions after it. -/
def highTime (b : Bool) (at0 upTo : Nat) : List (Nat × Bool) → Int
  | [] => if b then (upTo : Int) - at0 else 0
  | (t, v) :: r =>
    let t' := min t upTo
    (if b then (t' : Int) - at0 else 0) + highTime v t' upTo r

/-- The minimum-pulse rules on the pulses begun in this interval (R215): the kept transitions and the drops counted. -/
def minPulse (p tCtl : Nat) : List (Nat × Bool) → List (Nat × Bool) × Nat
  | [] => ([], 0)
  | [x] => ([x], 0)
  | x :: y :: r =>
    if tCtl ≤ x.1 then (x :: y :: r, 0)
    else if y.1 - x.1 < p then
      if y.1 < tCtl then let k := minPulse p tCtl r; (k.1, k.2 + 1) else (y :: r, 1)
    else let k := minPulse p tCtl (y :: r); (x :: k.1, k.2)

/-- The hold of a running pulse (R215): transitions before a + P are removed, and one is inserted at a + P when the
pattern's state there differs from the running state. `a` is the last kept transition, before 0. With both channels off there is no
running state, and the model holds nothing (DESIGN CHOICE, log entry 712). -/
def holdPulse (a : Option Int) (p : Nat) (running : Option Bool) (es : List (Nat × Bool)) : List (Nat × Bool) :=
  match a, running with
  | some a, some run =>
    let h := a + p
    if es.any (fun e => decide ((e.1 : Int) < h)) then
      let state := (es.filter fun e => decide ((e.1 : Int) ≤ h)).foldl (fun _ e => e.2) run
      let rest := es.filter fun e => decide (h < (e.1 : Int))
      if state = run then rest else (h.toNat, state) :: rest
    else es
  | _, _ => es

/-- The repayment of the carry (R216): the first transition before T_ctl moves, a rising one earlier by K and a falling
one later by K; it stays at or after 0, before the next transition and before T_ctl. -/
def repay (k : Int) (tCtl : Nat) : List (Nat × Bool) → List (Nat × Bool)
  | [] => []
  | (x, v) :: r =>
    if tCtl ≤ x then (x, v) :: r
    else
      let bound : Int := match r with
        | [] => tCtl
        | (y, _) :: _ => min y tCtl
      let moved : Int := if v then x - k else x + k
      ((max 0 (min moved (bound - 1))).toNat, v) :: r

/-- What a leg needs to know of its half-bridge: the mode keeps a carry; a refresh applies; dead time; P; the interval of
the bootstrap refresh in 125 ps units, and its width; the bound of the carry. -/
structure LegSettings where
  carry : Bool
  refresh : Bool
  dead : Nat
  p : Nat
  refreshAfter : Nat
  refreshWidth : Nat
  limit : Int
  deriving DecidableEq, Repr

/-- The channels of a leg: its high side and its low side; an INDEP channel has no low side. -/
structure LegChannels where
  hi : Nat
  lo : Option Nat
  deriving DecidableEq, Repr

/-- What the computation of one leg gives: its stamps in time order, the leg for the next interval, the carry, the drops
and refreshes to count, whether the carry was clamped, whether its event is raised, whether the interlock acted. -/
structure LegResult where
  stamps : List Stamp
  leg : Leg
  carry : Int
  drops : Nat := 0
  refreshes : Nat := 0
  clamped : Bool := false
  carryEvent : Bool := false
  interlock : Bool := false
  deriving DecidableEq, Repr

/-- The stamps of one kept transition (R214): the side that goes off at x, the side that goes on dead_time later. -/
def edgeStamps (ch : LegChannels) (dead : Nat) (e : Nat × Bool) : List Stamp :=
  match ch.lo with
  | none => [⟨ch.hi, e.2, e.1⟩]
  | some lo =>
    if e.2 then [⟨lo, false, e.1⟩, ⟨ch.hi, true, e.1 + dead⟩] else [⟨ch.hi, false, e.1⟩, ⟨lo, true, e.1 + dead⟩]

/-- Stamps put in time order; of two at one time the one made earlier stands first. -/
def sortStamps (l : List Stamp) : List Stamp := (sortEdges (l.map fun t => (t.time, t))).map (·.2)

/-- The level of the two channels after a list of stamps. -/
def levelsAfter (ch : LegChannels) (hi lo : Bool) (l : List Stamp) : Bool × Bool :=
  l.foldl (fun (x : Bool × Bool) t =>
    if t.channel = ch.hi then (t.level, x.2) else if some t.channel = ch.lo then (x.1, t.level) else x) (hi, lo)

/-- The interlock (R221): a stamp that would turn one channel on while the other is on becomes an off stamp of the other
channel, and every later stamp of the half-bridge is removed. -/
def interlockWalk (ch : LegChannels) (hi lo : Bool) : List Stamp → List Stamp × Bool
  | [] => ([], false)
  | t :: r =>
    match ch.lo with
    | none => (t :: r, false)
    | some l =>
      if t.channel = ch.hi ∧ t.level = true ∧ lo = true then ([⟨l, false, t.time⟩], true)
      else if t.channel = l ∧ t.level = true ∧ hi = true then ([⟨ch.hi, false, t.time⟩], true)
      else
        let n := levelsAfter ch hi lo [t]
        let rest := interlockWalk ch n.1 n.2 r
        (t :: rest.1, rest.2)

/-- The level stamps of a half-bridge of a cell engine without a stamp in the interval (R220). -/
def levelStamps (ch : LegChannels) (dead : Nat) (hi lo : Bool) : List Stamp :=
  match ch.lo with
  | none => []
  | some l =>
    (if hi then [] else [⟨ch.hi, false, 0⟩]) ++ (if lo then [] else [⟨l, false, 0⟩]) ++
      (if hi then [⟨ch.hi, true, dead⟩] else if lo then [⟨l, true, dead⟩] else [])

/-- Two stamps that share channel and time are never sent (R172): a channel that would go on and off at one time does neither. -/
def dropTwins (l : List Stamp) : List Stamp :=
  l.foldr (fun t acc =>
    match acc.find? fun u => u.channel == t.channel && u.time == t.time with
    | some u => if u.level == t.level then acc else acc.erase u
    | none => t :: acc) []

/-- The state actually held (R207): high or low while the switch of that side is on, or its turn-on is held over (R214); none while
both channels are off. An INDEP channel is on or off. -/
def Leg.held (g : Leg) (ch : LegChannels) : Option Bool :=
  let comes (c : Nat) : Bool := g.heldOver.any fun t => t.channel == c && t.level
  match ch.lo with
  | none => some g.hi
  | some lo => if g.hi || comes ch.hi then some true else if g.lo || comes lo then some false else none

/-- The state that a half-bridge with these stamps holds from time `t` of the interval (R207): the side that is on; with both channels
off, where `ahead`, the side whose turn-on comes next. `old` is the leg before the interval. -/
def LegResult.stateAt (r : LegResult) (ch : LegChannels) (old : Leg) (ahead : Bool) (t : Nat) : Option Bool :=
  let lv := levelsAfter ch old.hi old.lo (r.stamps.filter fun u => decide (u.time ≤ t))
  let next := ((r.stamps.filter fun u => decide (t < u.time)) ++ r.leg.heldOver).find? (·.level)
  if lv.1 then some true else if lv.2 then some false
  else if ahead then next.map (·.channel == ch.hi) else none

/-- The end of every leg's computation: level stamps for a cell engine (R220), the interlock (R221), and the levels the
leg leaves. -/
def finishLeg (cellEngine : Bool) (ch : LegChannels) (dead : Nat) (old : Leg) (stamps heldOver : List Stamp)
    (res : LegResult) : LegResult :=
  let st := dropTwins (sortStamps stamps)
  let st := if cellEngine && st.isEmpty then levelStamps ch dead old.hi old.lo else st
  let w := interlockWalk ch old.hi old.lo st
  let lv := levelsAfter ch old.hi old.lo w.1
  { res with stamps := w.1, interlock := w.2, leg := { res.leg with hi := lv.1, lo := lv.2, heldOver := heldOver } }

/-- One leg in a modulated mode over one interval of `tCtl` units (R207, R214 to R219). -/
def runLeg (cellEngine : Bool) (ch : LegChannels) (g : LegSettings) (tCtl : Nat) (pat : Pattern) (old : Leg) (k : Int) :
    LegResult :=
  let level := old.held ch
  let ideal := if level = some pat.start then pat.edges else (0, pat.start) :: pat.edges
  let shifted := if g.carry then repay k tCtl ideal else ideal
  let held := holdPulse old.last g.p level shifted
  let mp := minPulse g.p tCtl held
  let kept := mp.1.filter fun e => decide (e.1 < tCtl)
  let due := g.refresh && kept.isEmpty && level == some true &&
    (match old.rise with | some age => decide (g.refreshAfter ≤ age) | none => false)
  let kept := if due then [(0, false), (g.refreshWidth + g.dead, true)] else kept
  let hOut := highTime (level == some true) 0 tCtl kept
  let hRef := highTime pat.start 0 tCtl pat.edges
  let k' := if g.carry then k + hRef - hOut else 0
  let exceeds := decide (g.limit < (k'.natAbs : Int))
  let kc := if exceeds then (if k' < 0 then -g.limit else g.limit) else k'
  let event := g.carry && exceeds && old.carryArmed
  let armed := if event then false else if 2 * (kc.natAbs : Int) ≤ g.limit then true else old.carryArmed
  let all := kept.flatMap (edgeStamps ch g.dead)
  let now := all.filter fun t => decide (t.time < tCtl)
  let later := (all.filter fun t => decide (tCtl ≤ t.time)).map fun t => { t with time := t.time - tCtl }
  let last := match kept.getLast? with
    | some e => some ((e.1 : Int) - tCtl)
    | none => old.last.map (· - (tCtl : Int))
  let rise := match kept.getLast? with
    | some e => if e.2 then some (tCtl - e.1) else none
    | none => old.rise.map (· + tCtl)
  finishLeg cellEngine ch g.dead old (old.heldOver ++ now) later
    { stamps := [], carry := kc, drops := mp.2, refreshes := flag due, clamped := g.carry && exceeds, carryEvent := event,
      leg := { last := last, rise := rise, carryArmed := armed } }

/-- One leg treated as OFF, or in DIRECT with a pulse on one side (R213, R214): a held-over off stamp is sent, a held-over
turn-on is dropped; every channel that is held on goes off at 0; the carry stays. `pulse` is the channel, t_a and t_b. -/
def directLeg (cellEngine : Bool) (ch : LegChannels) (dead tCtl minOn : Nat) (pulse : Option (Nat × Nat × Nat)) (old : Leg)
    (k : Int) : LegResult :=
  let overOff := old.heldOver.filter fun t => !t.level
  let offs := (if old.hi && !overOff.any (·.channel == ch.hi) then [⟨ch.hi, false, 0⟩] else []) ++
    (match ch.lo with
     | some l => if old.lo && !overOff.any (·.channel == l) then [⟨l, false, 0⟩] else []
     | none => [])
  let first : List Stamp := overOff ++ offs
  let res (st heldOver : List Stamp) (drops : Nat) : LegResult :=
    finishLeg cellEngine ch dead old st heldOver
      { stamps := [], carry := k, drops := drops, leg := { old with last := none, rise := none } }
  match pulse with
  | none => res first [] 0
  | some (c, ta, tb) =>
    if tCtl ≤ ta ∨ tb ≤ ta then res first [] 0
    else if min tb tCtl - ta < minOn then res first [] 1
    else if first.any (fun t => t.channel == c && t.time == ta) then res first [] 0
    else if tb < tCtl then res (first ++ [⟨c, true, ta⟩, ⟨c, false, tb⟩]) [] 0
    else res (first ++ [⟨c, true, ta⟩]) [⟨c, false, 0⟩] 0

/-- A leg after intervals in which its engine computed nothing (R208): every channel off, the last transition long ago, and with the
carry 0 its event armed again (R217). -/
def Leg.paused : Leg := {}

/-- A leg whose interval's stamps are repeated (R647): the levels the repeated stamps leave, no held-over stamp; a last
transition that lies in the repeated interval keeps its place, an older one moves on by T_ctl; the refresh age goes on by T_ctl
unless the repeated stamps hold a falling transition; the carry stays. -/
def Leg.repeated (g : Leg) (ch : LegChannels) (tCtl : Nat) (st : List Stamp) : Leg :=
  let lv := levelsAfter ch g.hi g.lo st
  { g with
    hi := lv.1, lo := lv.2, heldOver := [],
    last := g.last.map fun a => if -(tCtl : Int) ≤ a then a else a - (tCtl : Int),
    rise := if st.any (fun t => t.channel == ch.hi && !t.level) then g.rise else g.rise.map (· + tCtl) }

end Sys2Proof.Machine
end

