-- ==== Sys2Proof/Machine/Edges.lean ====
section
/-! DEFINITION. The edge engines (R199 to R231): the staging set and its commit, the reload, the computation of every
engine's interval, debug halt. Engine 96 is EE_L; 100 and 101 are EE_S[0] and EE_S[1]. -/

namespace Sys2Proof.Machine

/-- The staging set and the set in force (R203), and their size in words. -/
def stagingBase : Nat := 0x10500000
def committedBase : Nat := 0x10510000
def refSetWords : Nat := 0x620

/-- Word `i` of the block of cell engine `nn` in the set in force (R203). -/
def Chip.refWord (s : Chip) (nn i : Nat) : Nat := s.sramWord (committedBase + 0x40 * nn + 4 * i)

/-- Word `i` of the block of EE_L in the set in force (R203). -/
def Chip.refWordL (s : Chip) (i : Nat) : Nat := s.sramWord (committedBase + 0x1800 + 4 * i)

/-- The addresses of the 128-bit words of a set from its base. -/
def setAddresses (base : Nat) : List Nat := (List.range (refSetWords / 4)).map fun i => base + 16 * i

/-- The staging set as words by number; words that are 0 are not listed. -/
def Chip.stagedSet (s : Chip) : Store Nat :=
  (List.range refSetWords).filterMap fun i =>
    let w := s.sramWord (stagingBase + 4 * i)
    if w = 0 then none else some (i, w)

/-- A commit comes at or after t_E − 32 ns, and the period's reload has not taken its set yet (R205). `phase` is the time since the
boundary in nanoseconds. -/
def Chip.commitLate (s : Chip) (phase : Nat) : Bool :=
  s.clock.gridOn && decide (s.tE - 32 ≤ phase) && decide (s.clock.step < 4)

/-- EE_COMMIT is written (R205): the staging set is committed and awaits a reload: the next, or where it comes at or after
t_E − 32 ns the one after that, the most recent set before it keeping its place at this one. A set that awaits the same reload is
replaced and counted; a commit in the 32 ns before t_E is counted late. -/
def Chip.commitSet (s : Chip) (phase : Nat) : Chip :=
  let late := s.commitLate phase
  let s := s.onlyIf (if late then s.edges.lateSet.isSome else s.edges.pendingSet.isSome) fun s => s.count .eeStat_superseded
  let s := s.onlyIf (late && decide (phase < s.tE)) fun s => s.count .eeStat_late
  let s := (s.sramTouch (setAddresses stagingBase)).wr .eeCommit_pending 1
  if late then { s with edges := { s.edges with lateSet := some s.stagedSet } }
  else { s with edges := { s.edges with pendingSet := some s.stagedSet } }

/-- The reload takes the most recent set committed in time; one that came too late for it is the next reload's (R205, R206). -/
def Chip.takeSet (s : Chip) : Chip :=
  let late := s.edges.lateSet
  let s := match s.edges.pendingSet with
    | none => s
    | some set => s.sramFill committedBase ((List.range refSetWords).flatMap fun i => leBytes 4 (storeGet set i 0))
  { s.wrFlag .eeCommit_pending late.isSome with edges := { s.edges with pendingSet := late, lateSet := none } }

/-- The number of a leg in the store of legs: half-bridge `m` of cell engine `nn`, or channel `c` of EE_L. -/
def cellLeg (nn m : Nat) : Nat := 8 * nn + m
def localLeg (c : Nat) : Nat := 1000 + c

/-- The READY bit of an edge engine (R65). -/
def Chip.edgeReady (s : Chip) (e : Nat) : Bool :=
  if e < 32 then s.rdBit .readyEdgeA_ready e
  else if e < 64 then s.rdBit .readyEdgeB_ready (e - 32)
  else if e < 96 then s.rdBit .readyEdgeC_ready (e - 64)
  else if e = 96 then s.on .readyUnit_eeL
  else s.rdBit .readyUnit_eeS (e - 100)

/-- The READY bit of an edge engine set. -/
def Chip.setEdgeReady (s : Chip) (e : Nat) (b : Bool) : Chip :=
  let s := s.onlyIf (!b) fun s => s.unusable (128 + e)
  if e < 32 then s.wrBit .readyEdgeA_ready e b
  else if e < 64 then s.wrBit .readyEdgeB_ready (e - 32) b
  else if e < 96 then s.wrBit .readyEdgeC_ready (e - 64) b
  else if e = 96 then s.wrFlag .readyUnit_eeL b
  else s.wrBit .readyUnit_eeS (e - 100) b

/-- A cell engine is served: it is usable, or a spare stands for it (R65, R227, R551). -/
def Chip.edgeServed (s : Chip) (e : Nat) : Bool :=
  s.edgeUsable e || s.rd .eeEstat_standFor 100 == e || s.rd .eeEstat_standFor 101 == e

/-- The arm of a cell, if it belongs to one (R232). -/
def Chip.armOf (s : Chip) (nn : Nat) : Option Nat :=
  let a := s.rd .eeCfg_arm nn
  if a < 6 then some a else none

/-- The pre-charge phase that governs a cell's half-bridges: that of its arm in CHARGE, and in SHADOW the one copied from the
partner (R242, R257, R260); otherwise none. -/
def Chip.phaseOf (s : Chip) (nn : Nat) : Option Nat :=
  if s.mode = .charge ∨ s.mode = .shadow then (s.armOf nn).map fun a => s.rd .armStat_pcPhase a else none

/-- The half-bridge is treated as OFF whatever its mode: in DIRECT outside COMMISSION (R213), and in the pre-charge
phases of R257. -/
def Chip.treatedOff (s : Chip) (nn m : Nat) : Bool :=
  let direct := if m < 2 then s.rd .eeCfg_hbrMode nn == 3 else s.rd .eeCfg_dabMode nn == 4
  let off := if m < 2 then s.rd .eeCfg_hbrMode nn == 0 else s.rd .eeCfg_dabMode nn == 0
  off || (direct && s.mode != .commission) ||
    (match s.phaseOf nn with
     | some 1 => true
     | some 2 => decide (2 ≤ m)
     | _ => false)

/-- A cell engine computes (R65, R208, R236): it is enabled and served, its lane is READY and usable, step 4 was active at the boundary,
and its cell is neither BYPASSED nor UNREACHABLE. -/
def Chip.engineComputes (s : Chip) (nn : Nat) : Bool :=
  s.on .eeCfg_enabled nn && s.edgeServed nn && s.modes.edgesActive && s.laneUsable (s.laneOfCell nn) &&
    decide (s.rd .cellStat_state nn < 2)

/-- The settings of half-bridge `m` of cell engine `nn` for a mode that is modulated (R207, R216, R219). -/
def Chip.cellSettings (s : Chip) (nn m : Nat) : LegSettings :=
  let dead := s.rd .eeHb_deadTime (6 * nn + m)
  let iv := s.rd .eeRefresh_interval nn
  { carry := decide (m < 2), refresh := decide (m < 2) && iv != 0, dead := dead,
    p := dead + s.rd .eeHb_minPulse (6 * nn + m), refreshAfter := 8000 * iv, refreshWidth := s.rd .eeRefresh_width nn,
    limit := s.rd .eeCarryLim_carryLimit nn }

/-- The carrier period of an arm in control periods, 1 to 64 (R209): the six bits of EE_PSC_ARM hold 64 as 0 (DESIGN CHOICE, log
entry 708). -/
def Chip.carrierPeriods (s : Chip) (a : Nat) : Nat := if s.rd .eePscArm_q a = 0 then 64 else s.rd .eePscArm_q a

/-- The ideal pattern of half-bridge `m` of cell engine `nn` (R209 to R211), looked at up to `limit`. -/
def Chip.cellPattern (s : Chip) (nn m limit : Nat) : Pattern :=
  if m < 2 then
    let w := s.refWord nn 0
    if s.rd .eeCfg_hbrMode nn = 1 then
      let a := s.rd .eeCfg_arm nn
      let q := s.carrierPeriods a
      let tCar := q * s.tCtl
      let nA := (storeGet s.edges.carrier a 0 + 1) % q
      let mv := readQ15 (bits w 0 16)
      pscPattern (if m = 0 then mv else -mv) tCar (pscPosition nA s.tCtl (bits w 16 16) tCar) limit
    else nlmPattern (readNlm (bits w 0 2)) (readNlm (bits w 2 2)) (bitAt w 4) (decide (m = 1)) (bits w 8 24) s.tCtl
  else
    let w1 := s.refWord nn 1
    let tDab := s.tCtl / s.rd .eeCfg_dabRatio nn
    let mode := s.rd .eeCfg_dabMode nn
    let dp := if mode = 1 then 0 else readDuty (bits w1 16 16)
    let ds := if mode = 1 then 0 else if mode = 2 then dp else readDuty (bits (s.refWord nn 2) 0 16)
    dabPattern tDab (dabRise m tDab (s.rd .eeCfg_dabOffset nn) dp (readQ15 (bits w1 0 16)) ds) limit

/-- The DIRECT pulse of half-bridge `m` of cell engine `nn` (R203, R213): channel, t_a, t_b. -/
def Chip.cellPulse (s : Chip) (nn m : Nat) : Nat × Nat × Nat :=
  let a := s.refWord nn (4 + 2 * m)
  (2 * m + bits a 24 1, bits a 0 24, bits (s.refWord nn (5 + 2 * m)) 0 24)

/-- One half-bridge of a cell engine over the next interval (R207). -/
def Chip.runCellLeg (s : Chip) (nn m : Nat) : LegResult :=
  let g := s.cellSettings nn m
  let ch : LegChannels := ⟨2 * m, some (2 * m + 1)⟩
  let old := s.leg (cellLeg nn m)
  let k := s.rdInt .eeCarry_carry (6 * nn + m)
  let direct := if m < 2 then s.rd .eeCfg_hbrMode nn = 3 else s.rd .eeCfg_dabMode nn = 4
  if s.treatedOff nn m then directLeg true ch g.dead s.tCtl 0 none old k
  else if direct then directLeg true ch g.dead s.tCtl (s.rd .eeHb_minPulse (6 * nn + m)) (some (s.cellPulse nn m)) old k
  else runLeg true ch g s.tCtl (s.cellPattern nn m (s.tCtl + g.p)) old k

/-- What a leg's result leaves in the registers of its engine `e` (R216 to R221): `kf` and `cf` are the carry's field and
its clamped bit, at instance `i`. -/
def Chip.noteLeg (s : Chip) (e i leg : Nat) (kf cf : Fld) (r : LegResult) : Chip :=
  let s := (s.setLeg leg r.leg).wrInt kf r.carry i
  let s := (s.count .eeCounts_drops e r.drops).count .eeCounts_refreshes e r.refreshes
  let s := if r.clamped then s.wr cf 1 i else s
  let s := if r.carryEvent then s.raise (originCarry e) else s
  if r.interlock then
    (s.wr .eeEstat_interlock 1 e).raise (if e = 96 then originInterlockL else originInterlock e)
  else s

/-- The stamps of engine `e`'s next interval and their counts in EE_ESTAT (R231). -/
def Chip.noteStamps (s : Chip) (e : Nat) (st : List Stamp) : Chip :=
  let s := { s with edges := { s.edges with stamps := storePut s.edges.stamps e [] st } }
  let s := s.wr .eeEstat_stampsLast (min st.length 255) e
  s.wr .eeEstat_stampsMax (max (s.rd .eeEstat_stampsMax e) (min st.length 1023)) e

/-- An engine computes again, or its stamps are repeated, after intervals in which it computed nothing (R208): `legs` are its legs, with
their carries at instances `cs` of field `kf`. -/
def Chip.endPause (s : Chip) (e : Nat) (legs cs : List Nat) (kf : Fld) : Chip :=
  if s.edges.paused.contains e then
    let s := s.each legs fun s l => s.setLeg l Leg.paused
    let s := s.each cs fun s c => s.wr kf 0 c
    { s with edges := { s.edges with paused := s.edges.paused.filter (· != e) } }
  else s

/-- An engine computes nothing in this interval: its stamps are none but `st` (R208). -/
def Chip.pause (s : Chip) (e : Nat) (st : List Stamp) : Chip :=
  { s with edges := { s.edges with
    paused := e :: s.edges.paused.filter (· != e), stamps := storePut s.edges.stamps e [] st } }

/-- The legs of a cell engine and the instances of their carries; those of EE_L. -/
def cellLegs (nn : Nat) : List Nat := (List.range 6).map (cellLeg nn)
def cellCarries (nn : Nat) : List Nat := (List.range 6).map fun m => 6 * nn + m
def localLegs : List Nat := (List.range 32).map localLeg

/-- The cell holds a non-zero state in the interval that its engine computes (R243): at some time its half-bridges 0 and 1, with these
results, hold different sides. -/
def Chip.holdsState (s : Chip) (nn : Nat) (r0 r1 : LegResult) : Bool :=
  let ahead := s.rd .eeCfg_hbrMode nn != 3
  let a := r0.stateAt ⟨0, some 1⟩ (s.leg (cellLeg nn 0)) ahead
  let b := r1.stateAt ⟨2, some 3⟩ (s.leg (cellLeg nn 1)) ahead
  (0 :: ((r0.stamps ++ r1.stamps).map (·.time)).filter fun t => decide (t < s.tCtl)).any fun t =>
    (a t).isSome && (b t).isSome && a t != b t

/-- A cell engine computes its next interval (R207); in the first phase of pre-charge its sheaf carries no stamps (R257). -/
def Chip.computeCell (s : Chip) (nn : Nat) : Chip :=
  let s := s.endPause nn (cellLegs nn) (cellCarries nn) .eeCarry_carry
  let rs := (List.range 6).map fun m => (m, s.runCellLeg nn m)
  let s := s.setCell nn { s.cell nn with inserted := s.holdsState nn (s.runCellLeg nn 0) (s.runCellLeg nn 1) }
  let s := s.each rs fun s (m, r) => s.noteLeg nn (6 * nn + m) (cellLeg nn m) .eeCarry_carry .eeCarry_clamped r
  s.noteStamps nn (if s.phaseOf nn = some 1 then [] else sortStamps (rs.flatMap fun x => x.2.stamps))

/-- A cell engine that computes nothing (R208). -/
def Chip.pauseCell (s : Chip) (nn : Nat) : Chip := s.pause nn []

/-- The stamps an engine last computed. -/
def Chip.stampsOf (s : Chip) (e : Nat) : List Stamp := storeGet s.edges.stamps e []

/-- A cell engine whose previous sheaf is sent again (R25, R647). -/
def Chip.repeatCell (s : Chip) (nn : Nat) : Chip :=
  let s := s.endPause nn (cellLegs nn) (cellCarries nn) .eeCarry_carry
  let st := s.stampsOf nn
  let s := s.each (List.range 6) fun s m =>
    s.setLeg (cellLeg nn m) ((s.leg (cellLeg nn m)).repeated ⟨2 * m, some (2 * m + 1)⟩ s.tCtl st)
  { s with edges := { s.edges with repeats := s.edges.repeats ++ [nn] } }

/-- EE_L computes (R208). -/
def Chip.localComputes (s : Chip) : Bool := s.on .eeLCfg_enabled && s.edgeUsable 96 && s.modes.edgesActive

/-- The legs of pair `p` of EE_L over the next interval, by channel (R202, R212, R213). -/
def Chip.runPair (s : Chip) (p : Nat) : List (Nat × LegResult) :=
  let mode := s.rd .eeLMode_mode p
  let w := s.refWordL (2 * p)
  let dead := s.rd .eeLHb_deadTime p
  let minOn := s.rd .eeLHb_minPulse p
  let iv := s.rd .eeRefresh_interval 96
  let tL := s.tCtl / s.rd .eeLCfg_rL
  let theta := s.rd .eeLMode_theta p
  let half : LegChannels := ⟨2 * p, some (2 * p + 1)⟩
  let old := s.leg (localLeg (2 * p))
  let k := s.rdInt .eeLCarry_carry (2 * p)
  match mode with
  | 1 =>
    let g : LegSettings := { carry := true, refresh := iv != 0, dead := dead, p := dead + minOn, refreshAfter := 8000 * iv, refreshWidth := s.rd .eeRefresh_width 96, limit := s.rd .eeCarryLim_carryLimit 96 }
    [(2 * p, runLeg false half g s.tCtl (localPattern (readDuty (bits w 0 16)) tL theta (s.tCtl + g.p)) old k)]
  | 2 =>
    let g : LegSettings := { carry := true, refresh := false, dead := 0, p := minOn, refreshAfter := 0, refreshWidth := 0, limit := s.rd .eeCarryLim_carryLimit 96 }
    [0, 1].map fun c =>
      let pat := localPattern (readDuty (bits w (16 * c) 16)) tL theta (s.tCtl + g.p)
      (2 * p + c, runLeg false ⟨2 * p + c, none⟩ g s.tCtl pat (s.leg (localLeg (2 * p + c)))
        (s.rdInt .eeLCarry_carry (2 * p + c)))
  | 3 =>
    let pulse := if s.mode = .commission then
        some (2 * p + bits w 24 1, bits w 0 24, bits (s.refWordL (2 * p + 1)) 0 24) else none
    [(2 * p, directLeg false half dead s.tCtl minOn pulse old k)]
  | _ => [(2 * p, directLeg false half dead s.tCtl 0 none old k)]

/-- EE_L computes its next interval (R207). -/
def Chip.computeLocal (s : Chip) : Chip :=
  let s := s.endPause 96 localLegs (List.range 32) .eeLCarry_carry
  let rs := (List.range 16).flatMap s.runPair
  let s := s.each rs fun s (c, r) => s.noteLeg 96 c (localLeg c) .eeLCarry_carry .eeLCarry_clamped r
  s.noteStamps 96 (sortStamps (rs.flatMap fun x => x.2.stamps))

/-- EE_L computes nothing (R208): every channel that it holds on goes off at the next E. -/
def Chip.pauseLocal (s : Chip) : Chip :=
  let on := if s.edges.paused.contains 96 then [] else (List.range 16).flatMap fun p =>
    let g := s.leg (localLeg (2 * p))
    let h := s.leg (localLeg (2 * p + 1))
    (if g.hi then [2 * p] else []) ++ (if g.lo || h.hi then [2 * p + 1] else [])
  s.pause 96 (on.map fun c => ⟨c, false, 0⟩)

/-- EE_L's previous interval is given again (R25, R647). -/
def Chip.repeatLocal (s : Chip) : Chip :=
  let s := s.endPause 96 localLegs (List.range 32) .eeLCarry_carry
  let st := s.stampsOf 96
  let s := s.each (List.range 16) fun s p =>
    if s.rd .eeLMode_mode p = 2 then
      s.each [2 * p, 2 * p + 1] fun s c => s.setLeg (localLeg c) ((s.leg (localLeg c)).repeated ⟨c, none⟩ s.tCtl st)
    else s.setLeg (localLeg (2 * p)) ((s.leg (localLeg (2 * p))).repeated ⟨2 * p, some (2 * p + 1)⟩ s.tCtl st)
  { s with edges := { s.edges with repeats := s.edges.repeats ++ [96] } }

/-- Every sheaf carries no stamp during debug halt, and the legs stay frozen (R226). -/
def Chip.haltEngines (s : Chip) : Chip := { s with edges := { s.edges with stamps := [] } }

/-- Debug halt begins or ends at a reload (R226): it holds only in COMMISSION, unlocked, while the debugger asks for
it. -/
def Chip.judgeHalt (s : Chip) : Chip :=
  s.wrFlag .eeStat_halted (s.edges.haltWanted && s.mode == .commission && s.on .dbgStat_unlocked)

/-- The compare unit of EE_L is under test, or waits for leave to repeat its slice (R548, R550). -/
def Chip.compareTested (s : Chip) : Bool :=
  match s.slices.run1 with
  | some r => r.inst == 128 * 4
  | none => false

/-- EE_L computes nothing while its compare unit is under test: the output stage holds what it has taken, and no stamp passes (R548). -/
def Chip.holdLocal (s : Chip) : Chip := { s with edges := { s.edges with stamps := storePut s.edges.stamps 96 [] [] } }

/-- The reload at t_E and the computation of every interval (R205, R207, R25). `lateArms` are the arms whose balancing
stage has not finished, `unfinished` the engines that will not have finished at t_S: their sheaves of the previous period
are sent again. -/
def Chip.edgeReload (s : Chip) (lateArms unfinished : List Nat) : Chip :=
  let s := s.takeSet.judgeHalt
  let s := { s with edges := { s.edges with repeats := [], unfinished := unfinished } }
  let s := s.each lateArms fun s _ => (s.wr .periodStat_sortOverrun 1).raise originOverrun
  if s.on .eeStat_halted then s.haltEngines
  else
    let s := s.sramTouch (setAddresses committedBase)
    let s := s.each (List.range 96) fun s nn =>
      if !s.engineComputes nn then s.pauseCell nn
      else if unfinished.contains nn || (match s.armOf nn with | some a => lateArms.contains a | none => false) then
        s.repeatCell nn
      else s.computeCell nn
    if !s.localComputes then s.pauseLocal
    else if s.compareTested then s.holdLocal
    else if unfinished.contains 96 then s.repeatLocal
    else s.computeLocal

/-- The carrier counts advance at a boundary (R209); they stay frozen during debug halt (R226). -/
def Chip.advanceCarriers (s : Chip) : Chip :=
  if s.on .eeStat_halted then s
  else
    s.each (List.range 6) fun s a =>
      let q := s.carrierPeriods a
      { s with edges := { s.edges with carrier := storePut s.edges.carrier a 0 ((storeGet s.edges.carrier a 0 + 1) % q) } }

end Sys2Proof.Machine
end

