-- ==== Sys2Proof/Machine/Arms.lean ====
section
/-! DEFINITION. Arms, cell states and the balancing and sorting stage (R232 to R263). -/

namespace Sys2Proof.Machine

/-- An exact fraction: a numerator over a positive denominator. -/
structure Frac where
  num : Int
  den : Nat
  deriving DecidableEq, Repr

/-- A fraction held between −1 and +1. -/
def Frac.clampOne (f : Frac) : Frac := if f.num > f.den then ⟨1, 1⟩ else if f.num < -(f.den : Int) then ⟨-1, 1⟩ else f

/-- A fraction as a Q1.15 word: rounded once to the nearest unit, halves upward, and held in the format (R244). -/
def Frac.q15 (f : Frac) : Int := satSigned 16 (roundHalfUp (f.num * 32768) f.den)

/-- The slot of a cell, and the cells of arm `a` in slot order (R233). -/
def Chip.slot (s : Chip) (nn : Nat) : Nat := s.rd .cellCfg_slot nn
def Chip.cellsOfArm (s : Chip) (a : Nat) : List Nat :=
  sortBy (fun x y => decide (s.slot x ≤ s.slot y))
    ((List.range 96).filter fun nn => s.on .eeCfg_enabled nn && s.rd .eeCfg_arm nn == a)

/-- The cells of arm `a` in one state, in slot order. -/
def Chip.cellsIn (s : Chip) (a : Nat) (st : Nat) : List Nat :=
  (s.cellsOfArm a).filter fun nn => s.rd .cellStat_state nn == st

/-- The last used bale of a cell, and whether it entered this snapshot (R28). -/
def Chip.bale (s : Chip) (nn : Nat) : Bale := (s.lane (s.laneOfCell nn)).baleUsed
def Chip.fresh (s : Chip) (nn : Nat) : Bool := (s.lane (s.laneOfCell nn)).fresh
def Chip.vCap (s : Chip) (nn : Nat) : Int := (s.bale nn).vCap

/-- A counter of the arm that a cell belongs to. -/
def Chip.countArm (s : Chip) (nn : Nat) (f : Fld) : Chip :=
  match s.armOf nn with
  | some a => s.count f a
  | none => s

/-- The state a spare takes: ACTIVE for a cell of no arm (R232). -/
def Chip.spareState (s : Chip) (nn : Nat) : Nat := if (s.armOf nn).isSome then 1 else 0

/-- A cell that a step of R238 moves is no candidate in a later step of the same t_B. -/
def Chip.noteMoved (s : Chip) (nn : Nat) : Chip := { s with arms := { s.arms with moved := nn :: s.arms.moved } }

/-- A cell goes to BYPASSED with its cause (R239, R240). -/
def Chip.bypassCell (s : Chip) (nn cause : Nat) : Chip :=
  let s := s.noteMoved nn
  let s := s.setCell nn { s.cell nn with bypassAge := none, bypassReported := false, degradeDue := false }
  ((((s.wr .cellStat_state 2 nn).wr .cellStat_lastCause cause nn).wr .cellStat_bypassPending 1 nn).wr
    .cellStat_releasePending 0 nn).countArm nn .armCount_bypasses

/-- A cell goes to ACTIVE or SPARE. -/
def Chip.placeCell (s : Chip) (nn st : Nat) : Chip :=
  (((s.noteMoved nn).wr .cellStat_state st nn).wr .cellStat_bypassPending 0 nn).wr .cellStat_releasePending 0 nn

/-- A cell takes the state of its CELL_CFG (R62, R232, R237). -/
def Chip.initCell (s : Chip) (nn : Nat) : Chip :=
  match s.rd .cellCfg_initState nn with
  | 0 => s.placeCell nn 0
  | 1 => s.placeCell nn (s.spareState nn)
  | _ => s.bypassCell nn (s.rd .cellStat_lastCause nn)

/-- The cells of the lanes that are READY at their default after a deliberate reset (R62, R63): their first used bale is still to
show whether the bypass is closed. -/
def Chip.initCells (s : Chip) : Chip :=
  s.each ((List.range 96).filter fun nn => s.on .eeCfg_enabled nn && s.laneReady (s.laneOfCell nn)) fun s nn =>
    (s.setCell nn { s.cell nn with firstBale := some 8 }).initCell nn

/-- Step 1 of R238 for one cell: leaving or regaining READY, by the lane states standing at t_B (R237), and a bypass that its first used bale shows (R63). -/
def Chip.cellReadyStep (s : Chip) (nn : Nat) : Chip :=
  let ready := s.laneReady (s.laneOfCell nn)
  let st := s.rd .cellStat_state nn
  let s :=
    if !ready then s.cellLost nn
    else if st = 3 then
      let c := s.cell nn
      let configure := s.mode == .configure
      let s := s.setCell nn { c with firstBale := some (if configure then 8 else 7), wasBypassed := false }
      if c.degradeDue then s.bypassCell nn 5
      else if c.engineLost then s.bypassCell nn 6
      else if configure then s.initCell nn
      else if c.wasBypassed then s.bypassCell nn (s.rd .cellStat_lastCause nn)
      else s.placeCell nn (s.spareState nn)
    else s
  match (s.cell nn).firstBale with
  | some cause =>
    if s.fresh nn then
      let s := s.setCell nn { s.cell nn with firstBale := none }
      if (s.bale nn).bypassClosed && decide (s.rd .cellStat_state nn < 2) then s.bypassCell nn cause else s
    else s
  | none => s

/-- The failure cause of an ACTIVE or SPARE cell, if any (R239). Of several that are true at one t_B the spec does not say which is
recorded: the one with the lowest number (DESIGN CHOICE, log entry 807). -/
def Chip.failureCause (s : Chip) (nn : Nat) : Option Nat :=
  let b := s.bale nn
  let f := s.fresh nn
  let drivers := (List.range 6).any fun m =>
    !s.treatedOff nn m && s.engineComputes nn &&
      (bits b.gdReady (2 * m) 2 != 3 || bits b.gdFault (2 * m) 2 != 0)
  let limits : Option Nat :=
    match s.armOf nn with
    | none => none
    | some a =>
      if (128 * s.rd .armLimit_ovLimit a : Nat) < b.vCap then some 2
      else if (s.mode = .run ∨ s.mode = .shadow) ∧
          (b.vCap < (128 * s.rd .armLimit_uvLimit a : Nat) ∨ b.capLow = true) then some 3
      else none
  if f && b.bypassClosed then some 1
  else if f && limits.isSome then limits
  else if f && drivers then some 4
  else if (s.cell nn).degradeDue then some 5
  else none

/-- Step 2 of R238 for one cell that step 1 has not moved. A DEGRADE action that fell due changes nothing for a BYPASSED cell (R412). -/
def Chip.cellFailureStep (s : Chip) (nn : Nat) : Chip :=
  let st := s.rd .cellStat_state nn
  if s.arms.moved.contains nn then s
  else if st < 2 then
    match s.failureCause nn with
    | some c => s.bypassCell nn c
    | none => s
  else if st = 2 then s.setCell nn { s.cell nn with degradeDue := false }
  else s

/-- Twice v_mean of a list of cells, times its length (exact): the sum of v_cap. -/
def Chip.vSum (s : Chip) (l : List Nat) : Int := (l.map s.vCap).foldl (· + ·) 0

/-- The mean v_cap against which spares are judged (R251): over the ACTIVE cells; with none ACTIVE, the median of the
candidates. -/
def Chip.spareMean (s : Chip) (act cand : List Nat) : Frac :=
  if act.isEmpty then ⟨median2 (cand.map s.vCap), 2⟩ else ⟨s.vSum act, act.length⟩

/-- The distance of a cell's v_cap from a mean, times the mean's denominator. -/
def Chip.distance (s : Chip) (m : Frac) (nn : Nat) : Nat := (s.vCap nn * m.den - m.num).natAbs

/-- The eligible spares of an arm, nearest v_mean first, ties by slot (R251); a cell that has moved at this t_B is none (R238). -/
def Chip.eligibleSpares (s : Chip) (a : Nat) : List Nat :=
  let cand := (s.cellsIn a 1).filter fun nn =>
    !s.arms.moved.contains nn && s.fresh nn && !(s.bale nn).capLow && bits (s.bale nn).gdReady 0 4 == 15
  let m := s.spareMean (s.cellsIn a 0) cand
  sortBy (fun x y => decide (s.distance m x ≤ s.distance m y))
    (cand.filter fun nn => decide (s.distance m nn ≤ 128 * s.rd .armLimit_spareWindow a * m.den))

/-- One command on a cell at t_B (R241, R238 step 3); `barred` are the cells that an earlier step has moved. -/
def Chip.cellCommand (s : Chip) (barred : List Nat) (c : CellCommand) (nn : Nat) : Chip :=
  let st := s.rd .cellStat_state nn
  if barred.contains nn then s.countArm nn .armCount_cmdIgnored
  else match c with
  | .bypass => if st < 2 then s.bypassCell nn 6 else s.countArm nn .armCount_cmdIgnored
  | .release =>
    if st = 2 ∧ (s.mode = .commission ∨ s.mode = .charge) then s.wr .cellStat_releasePending 1 nn
    else s.countArm nn .armCount_cmdIgnored
  | .swap =>
    match s.armOf nn with
    | none => s
    | some a =>
      match s.eligibleSpares a with
      | sp :: _ =>
        if st = 0 then ((s.placeCell nn 1).placeCell sp 0).count .armCount_insertions a
        else s.count .armCount_cmdIgnored a
      | [] => s.count .armCount_cmdIgnored a

/-- Step 4 of R238 for one cell: a bale that shows the bypass closed confirms it (R240); one that shows it open completes
a release (R241). -/
def Chip.cellConfirmStep (s : Chip) (nn : Nat) : Chip :=
  if s.arms.moved.contains nn = false ∧ s.rd .cellStat_state nn = 2 ∧ s.fresh nn = true then
    if (s.bale nn).bypassClosed then s.wr .cellStat_bypassPending 0 nn
    else if s.on .cellStat_releasePending nn then s.placeCell nn (s.spareState nn)
    else s
  else s

/-- Spares inserted one at a time while N is below n_act (R251); the order is settled against v_mean as it stands after
step 4. -/
def Chip.insertSpares (s : Chip) (a : Nat) : Chip :=
  let need := s.rd .armCfg_nAct a - (s.cellsIn a 0).length
  s.each ((s.eligibleSpares a).take need) fun s nn => (s.placeCell nn 0).count .armCount_insertions a

/-- The spread of v_cap over the ACTIVE cells (R250). -/
def Chip.capSpread (s : Chip) (l : List Nat) : Int :=
  let v := l.map s.vCap
  v.foldl max (v.headD 0) - v.foldl min (v.headD 0)

/-- The run of t_B with too wide a spread; the event is armed again below half the limit (R250). -/
def Chip.spreadStep (s : Chip) (a : Nat) : Chip :=
  let d := s.capSpread (s.cellsIn a 0)
  let lim : Int := 128 * s.rd .armLimit_spreadLimit a
  let r := s.arm a
  s.setArm a { r with
    spreadRun := if lim < d then r.spreadRun + 1 else 0, spreadArmed := r.spreadArmed || decide (2 * d < lim) }

/-- The spread watch fires at the eighth t_B in a row (R250). -/
def Chip.spreadFire (s : Chip) (a : Nat) : Chip :=
  let r := s.arm a
  if 8 ≤ r.spreadRun ∧ r.spreadArmed = true then
    ((s.setArm a { r with spreadArmed := false }).wr .armStat_spread 1 a).raise (originBalance a)
  else s

/-- The pre-charge phase of an arm in CHARGE: the lowest phase whose exit condition is not met (R257, R258). -/
def Chip.prechargePhase (s : Chip) (a : Nat) : Nat :=
  let act := s.cellsIn a 0
  let fr := act.filter s.fresh
  let enough := decide (s.rd .armCfg_nAct a ≤ act.length) && !fr.isEmpty
  let spreadOk := decide (s.capSpread fr ≤ (128 * s.rd .armLimit_spreadLimit a : Nat))
  let allAt (lvl : Nat) := fr.all fun nn => decide ((128 * lvl : Nat) ≤ s.vCap nn)
  if !(enough && spreadOk && allAt (s.rd .armPc_pcPassiveLevel a)) then 1
  else if !(enough && spreadOk && allAt (s.rd .armPc_pcActiveLevel a)) then 2
  else if median2 (fr.map fun nn => (s.bale nn).vSec) < (256 * s.rd .armPc_lvLevel a : Nat) then 3
  else 4

/-- The phase of an arm is judged (R258); a change restarts its timer (R259). In SHADOW it is the partner's (R242, R260). -/
def Chip.phaseStep (s : Chip) (a : Nat) : Chip :=
  if s.mode = .shadow then s
  else if s.mode = .charge then
    let p := s.prechargePhase a
    if p = s.rd .armStat_pcPhase a then s
    else (s.setArm a { s.arm a with phaseAt := s.clock.now }).wr .armStat_pcPhase p a
  else s.wr .armStat_pcPhase 0 a

/-- An arm has stood in one phase other than 4 for pc_timeout (R259). -/
def Chip.prechargeTimeout (s : Chip) (a : Nat) : Chip :=
  let p := s.rd .armStat_pcPhase a
  if p ≠ 0 ∧ p ≠ 4 ∧ 100000000 * s.rd .armPc_pcTimeout a ≤ s.clock.now - (s.arm a).phaseAt then
    ((s.setArm a { s.arm a with phaseAt := s.clock.now }).wr .armStat_pcTimeout 1 a).raise (originPrecharge a)
  else s

/-- Pre-charge is complete: every enabled arm is in phase 4 (R257). -/
def Chip.prechargeComplete (s : Chip) : Bool :=
  (List.range 6).all fun a => !s.on .armCfg_enabled a || s.rd .armStat_pcPhase a == 4

/-- The rotation rank of a cell (R248). -/
def Chip.rotRank (s : Chip) (a nn : Nat) : Nat := (s.slot nn + 32 - s.rd .armStat_rotPtr a) % 32

/-- The rotation pointer advances at the t_B of every rotation_periods-th period (R248). -/
def Chip.rotationAdvance (s : Chip) (a : Nat) : Chip :=
  let r := s.arm a
  if s.rd .armBal_rotationPeriods a ≤ r.rotCount then
    (s.setArm a { r with rotCount := 0 }).wr .armStat_rotPtr ((s.rd .armStat_rotPtr a + 1) % 32) a
  else s

/-- The address of arm `a`'s block and of the staging word 0 of a cell (R203, R243). -/
def armBlock (a : Nat) : Nat := 0x10460000 + 32 * a
def stagingWord0 (nn : Nat) : Nat := stagingBase + 0x40 * nn

/-- The snapshot word of a converter entry that gives an arm its current (R244, R343). -/
def armAdcWord (entry : Nat) : Nat := 0x10451000 + 4 * entry

/-- Twice the arm current used (R244): the median over the ACTIVE and SPARE cells with fresh bales, or the converter's
result; the previous one when no fresh value exists. -/
def Chip.armCurrent (s : Chip) (a : Nat) : Int :=
  if s.rd .armCfg_iSrc a = 1 then
    let w := s.sramWord (armAdcWord (s.rd .armCfg_adcEntry a))
    if bitAt w 31 && bitAt w 30 then 2 * signed 16 w else (s.arm a).current2
  else
    let l := (s.cellsOfArm a).filter fun nn => decide (s.rd .cellStat_state nn < 2) && s.fresh nn
    if l.isEmpty then (s.arm a).current2 else median2 (l.map fun nn => (s.bale nn).iArm)

/-- The sign of a number. -/
def signOf (x : Int) : Int := if x < 0 then -1 else if 0 < x then 1 else 0

/-- Cells in the order of a key, ties by rotation rank (R245, R246). -/
def Chip.orderCells (s : Chip) (a : Nat) (key : Nat → Int) (l : List Nat) : List Nat :=
  sortBy (fun x y => decide (key x < key y) || (key x == key y && decide (s.rotRank a x ≤ s.rotRank a y))) l

/-- The zero word of a cell (R247): 0 in PSC; in NLM the zero state with zero_sel = (ρ + slot) modulo 2. -/
def Chip.zeroWord (s : Chip) (a nn : Nat) : Nat :=
  if s.on .armCfg_method a then 256 * s.tCtl + 16 * ((s.rd .armStat_rotPtr a + s.slot nn) % 2) else 0

/-- A cell's H-bridge word is written to the staging set (R243, R245, R246). -/
def Chip.writeHBridge (s : Chip) (nn w : Nat) : Chip := s.sramPutWord (stagingWord0 nn) w

/-- The exact m_arm of PSC (R245). -/
def armRatio (u : Int) (vsum : Int) : Frac :=
  if vsum ≤ 0 then ⟨signOf u, 1⟩ else (Frac.mk u vsum.toNat).clampOne

/-- The H-bridge words of an arm in PSC (R245, R252). `u` and `vsum` are in the same unit. -/
def Chip.dividePsc (s : Chip) (a : Nat) (u vsum dir : Int) : Chip :=
  let act := s.cellsIn a 0
  let n := act.length
  let m := armRatio u vsum
  let gain := s.rd .armBal_balGain a
  let order := s.orderCells a s.vCap act
  s.each order.zipIdx fun s (nn, r) =>
    let corr : Int := dir * gain * ((n : Int) - 1 - 2 * r)
    let mr : Frac := if n ≤ 1 then m
      else (Frac.mk (m.num * (1024 * (n - 1) : Nat) + corr * m.den) (m.den * (1024 * (n - 1)))).clampOne
    let theta := (act.idxOf nn) * 32768 / n
    (s.writeHBridge nn (65536 * theta + unsigned 16 mr.q15)).wr .cellStat_rank r nn

/-- The code of an NLM state (R204). -/
def nlmCode (x : Int) : Nat := if x = 1 then 1 else if x = -1 then 3 else 0

/-- The exact number n of inserted cells in NLM (R246). -/
def nlmCount (u vsum : Int) (n : Nat) : Frac :=
  if vsum ≤ 0 then ⟨if u = 0 then 0 else n, 1⟩
  else if (n : Int) * vsum ≤ u.natAbs * n then ⟨n, 1⟩
  else ⟨u.natAbs * n, vsum.toNat⟩

/-- The H-bridge words of an arm in NLM (R246, R247). -/
def Chip.divideNlm (s : Chip) (a : Nat) (u vsum dirI : Int) : Chip :=
  let act := s.cellsIn a 0
  let n := nlmCount u vsum act.length
  let full := (n.num / n.den).toNat
  let frac := n.num - (full * n.den : Nat)
  let sigma : Int := if u < 0 then -1 else 1
  let dir := sigma * dirI
  let band : Int := 32 * s.rd .armBal_sortBand a
  let cap (nn : Nat) : Int := s.vCap nn - (if (s.cell nn).inserted && dir != 0 then dir * band else 0)
  let key (nn : Nat) : Int :=
    if dir = 1 then cap nn else if dir = -1 then -cap nn else if (s.cell nn).inserted then 0 else 1
  let order := s.orderCells a key act
  s.each order.zipIdx fun s (nn, r) =>
    let z := s.zeroWord a nn
    let zsel := 16 * bits z 4 1
    let code := nlmCode sigma
    let s := s.wr .cellStat_rank r nn
    if r < full then s.writeHBridge nn (256 * s.tCtl + zsel + 4 * code + code)
    else if r = full ∧ 0 < frac then
      s.writeHBridge nn (256 * (roundHalfUp (frac * s.tCtl) n.den).toNat + zsel + code)
    else s.writeHBridge nn z

/-- The remaining words of the arm block (R243): the written ratio, N and i, v_mean, V_sum. With N = 0 the quotients by N, v_mean and
in NLM n / N (`ratio` none), have no value that the spec states: they are free (log entry 804). -/
def Chip.writeArmBlock (s : Chip) (a : Nat) (ratio : Option Frac) (n : Nat) (i2 sum : Int) : Chip :=
  let d := s.drawn
  let s := s.onlyIf (n == 0) fun s => (s.draw).2
  let open_ (i : Nat) : Nat := leNat [Config.freeByte d i, Config.freeByte d (i + 1)]
  let vmean : Nat := if n = 0 then open_ 0 else unsigned 16 (roundHalfUp sum n)
  let word2 : Nat := match ratio with
    | some r => unsigned 16 r.q15
    | none => open_ 2
  let fs := s.rd .armScale_vCapFs a
  let s := s.sramPutWord (armBlock a + 0x08) word2
  let s := s.sramPutWord (armBlock a + 0x0C) (65536 * n + unsigned 16 (roundHalfUp i2 2))
  let s := s.sramPutWord (armBlock a + 0x10) vmean
  s.sramPutWord (armBlock a + 0x14) (unsigned 32 (roundHalfUp (sum * fs) 32768))

/-- The division of the arm reference (R244 to R247, R249, R252). u and V_sum are compared in the common unit of
arm_vfs × 10 V and v_cap_fs × 0.1 V over 32,768. -/
def Chip.divide (s : Chip) (a : Nat) : Chip :=
  let s := s.each (s.cellsOfArm a) fun s nn => s.wr .cellStat_rank 255 nn
  let act := s.cellsIn a 0
  let n := act.length
  let s := s.sramTouch (armBlock a :: if s.rd .armCfg_iSrc a = 1 then [armAdcWord (s.rd .armCfg_adcEntry a)] else [])
  let i2 := s.armCurrent a
  let s := s.setArm a { s.arm a with current2 := i2 }
  let sum := s.vSum act
  let vsum := sum * s.rd .armScale_vCapFs a
  let u := signed 16 (s.sramHalf (armBlock a)) * (100 * s.rd .armVref_armVfs a : Nat)
  let dirI := if (i2.natAbs : Int) < (64 * s.rd .armBal_iDeadband a : Nat) then 0 else signOf i2
  let nlm := s.on .armCfg_method a
  let s := s.each (if n = 0 then s.cellsOfArm a else s.cellsIn a 1) fun s nn => s.writeHBridge nn (s.zeroWord a nn)
  let ratio : Option Frac :=
    if !nlm then some (armRatio u vsum)
    else if n = 0 then none
    else let k := nlmCount u vsum n; some ⟨k.num, k.den * n⟩
  let s := if n = 0 then s else if nlm then s.divideNlm a u vsum dirI else s.dividePsc a u vsum dirI
  let sat := (vsum ≤ 0 ∧ u ≠ 0) ∨ (0 < vsum ∧ vsum < u.natAbs)
  let s := if sat then (s.wr .armStat_saturated 1 a).count .armCount_saturations a else s
  s.writeArmBlock a ratio n i2 sum

/-- N, the spares, capacity and deficit of an arm (R254), judged only while step 3 is active. With N below n_min deficit stands as
well, as its field's words have it (DEDUCED, log entry 806). -/
def Chip.capacityStep (s : Chip) (a : Nat) : Chip :=
  let n := (s.cellsIn a 0).length
  let s := (s.wr .armStat_nActive n a).wr .armStat_nSpare (s.cellsIn a 1).length a
  if s.stepActive 3 then
    let low := decide (n < s.rd .armCfg_nMin a)
    let entry := low && !s.on .armStat_capacity a
    let s := (s.wrFlag .armStat_capacity low a).wrFlag .armStat_deficit (decide (n < s.rd .armCfg_nAct a)) a
    if entry then s.raise (originCapacity a) else s
  else (s.wr .armStat_capacity 0 a).wr .armStat_deficit 0 a

/-- tb_spread over the ACTIVE cells with fresh bales, −32,768 left out (R256). -/
def Chip.tbSpreadStep (s : Chip) (a : Nat) : Chip :=
  let l := ((s.cellsIn a 0).filter fun nn => s.fresh nn && (s.bale nn).tbError != -32768).map fun nn => (s.bale nn).tbError
  s.wr .armTb_tbSpread (min 65535 (l.foldl max (l.headD 0) - l.foldl min (l.headD 0)).toNat) a

/-- The stage of one enabled arm, steps 5 and 6 of R238 and what is judged with them. In SHADOW it makes no transition of
its own (R242). -/
def Chip.armStage (s : Chip) (a : Nat) : Chip :=
  if s.on .armCfg_enabled a then
    let s := if s.mode = .shadow then s else s.insertSpares a
    let s := ((s.spreadStep a).phaseStep a).capacityStep a
    let s := if s.stepActive 3 then s.divide a else s
    s.tbSpreadStep a
  else s

/-- The balancing stage at t_B (R238): the transitions of every cell, step by step over all cells, then each arm. In SHADOW the cells
stand as the partner's copy gives them (R242). -/
def Chip.balance (s : Chip) : Chip :=
  let cells := (List.range 96).filter fun nn => s.on .eeCfg_enabled nn
  let cmds := s.arms.commands
  let s := { s with arms := { s.arms with commands := [], moved := [] } }
  let s := if s.mode == .shadow then s.each cmds fun s (_, nn) => s.countArm nn .armCount_cmdIgnored
    else
      let s := s.each cells fun s nn => s.cellReadyStep nn
      let s := s.each cells fun s nn => s.cellFailureStep nn
      let barred := s.arms.moved
      let s := s.each cmds fun s (c, nn) => s.cellCommand barred c nn
      s.each cells fun s nn => s.cellConfirmStep nn
  s.each (List.range 6) fun s a => s.armStage a

/-- A command of unit 0x0003 has reached its snapshot (R241): it acts at t_B, in the order of R99. -/
def Chip.queueCellCommand (s : Chip) (c : CellCommand) (nn : Nat) : Chip :=
  { s with arms := { s.arms with commands := s.arms.commands ++ [(c, nn)] } }

/-- The snapshots that have passed after the E of the first sheaf that carried bypass = 1 (R240): that E lies LEAD after
the boundary that follows the sheaf's period. -/
def Chip.bypassSnapshots (s : Chip) (nn : Nat) : Nat :=
  match (s.cell nn).bypassAge with
  | none => 0
  | some k => k - (if s.rd .periodCfg_lead = s.rd .periodCfg_tCtl then 2 else 1)

/-- No bale showed the bypass closed within four snapshots: one event, on the arm's bypass source or the cell's link
source (R240). -/
def Chip.bypassTimeout (s : Chip) (nn : Nat) : Chip :=
  if s.on .cellStat_bypassPending nn ∧ 4 ≤ s.bypassSnapshots nn ∧ (s.cell nn).bypassReported = false then
    let s := s.setCell nn { s.cell nn with bypassReported := true }
    match s.armOf nn with
    | some a => s.raise (originBypass a)
    | none => s.raise (originLink (s.laneOfCell nn))
  else s

/-- What a boundary advances in the arms: the periods of the rotation (R248) and the age of bypass sheaves (R240). -/
def Chip.advanceArms (s : Chip) : Chip :=
  let s := s.each (List.range 6) fun s a => s.setArm a { s.arm a with rotCount := (s.arm a).rotCount + 1 }
  s.each (List.range 96) fun s nn =>
    match (s.cell nn).bypassAge with
    | some k => s.setCell nn { s.cell nn with bypassAge := some (k + 1) }
    | none => s

/-- The cell table entry written in the input distribution window (R243). -/
def Chip.writeCellTable (s : Chip) (nn : Nat) : Chip :=
  let a := 0x10440000 + 16 * nn
  let b := s.bale nn
  let w1 := 2 ^ 23 * flag (s.fresh nn) + 2 ^ 22 * flag b.bypassClosed + 2 ^ 21 * flag b.capLow +
    2 ^ 20 * flag (s.cell nn).inserted + 2 ^ 16 * s.rd .cellStat_state nn + unsigned 16 b.iArm
  let t (i : Nat) : Nat := b.temps.getD i 0
  let s := s.sramPutWord a (65536 * unsigned 16 b.vSec + unsigned 16 b.vCap)
  let s := s.sramPutWord (a + 4) w1
  let s := s.sramPutWord (a + 8) (65536 * t 1 + t 0)
  s.sramPutWord (a + 12) (65536 * t 3 + t 2)

/-- A change of mode that is not one into SAFE HOLD; the phases of pre-charge are judged on entry into CHARGE (R258). -/
def Chip.enterMode (s : Chip) (m : Mode) : Chip :=
  let s := s.setMode m
  if m = .charge then s.each ((List.range 6).filter fun a => s.on .armCfg_enabled a) fun s a => s.phaseStep a else s

end Sys2Proof.Machine
end

