-- ==== Sys2Proof/Machine/Pll.lean ====
section
/-! DEFINITION. The synthesisers, plans, loss of reference and of lock, the timebase and the start of the period grid
(R103 to R121). -/

namespace Sys2Proof.Machine

/-! ## Spread and PTP time -/

/-- The main synthesiser runs: it has locked once and has not been stopped since (R112, R116, R119). -/
def Chip.synthRuns (s : Chip) : Bool := s.clock.started && !s.on .pllStat_synthDown

/-- The main synthesiser is spread: it runs on an active plan with spread set (R105). -/
def Chip.spreadOn (s : Chip) : Bool := s.synthRuns && s.on .pllPlan_spread (s.rd .pllStat_activePlan)

/-- The triangle's 32 µs (R105) in spread ticks of 1 / 0.9975 ns. -/
def triangleTicks : Nat := 31920

/-- How far PTP time stands off the mean line of 1 / 0.9975, in nanoseconds, at tick `u` of the triangle (R105, R646): the rate lies off
its mean by up to 0.25 % on a straight line each way, which adds up to ±10 ns. -/
def triangleNs (u : Nat) : Int :=
  let v : Int := u % triangleTicks
  let half : Int := triangleTicks / 2
  if v < half then v * (v - half) / (400 * half) else -((v - half) * (v - 2 * half) / (400 * half))

/-- The PTP clock at instant `t` of the model's clock, in nanoseconds (R492): it runs at its own rate; under spread a span of the count
is longer by 1 / 0.9975 on average, with the triangle about that line (R646). -/
def Chip.ptpAt (s : Chip) (t : Nat) : Nat :=
  let p := s.net.ptp
  let e : Int := t - p.since
  let d := if s.spreadOn then e * 10000 / 9975 + triangleNs (t + s.pll.triangle) - triangleNs (p.since + s.pll.triangle) else e
  (p.time + d + d * p.rate / 1000000000 : Int).toNat

/-- The PTP clock now. -/
def Chip.ptpNow (s : Chip) : Nat := s.ptpAt s.clock.now

/-- The PTP clock set to a time and a rate now. -/
def Chip.setPtp (s : Chip) (time : Nat) (rate : Int) : Chip :=
  { s with net := { s.net with ptp := { s.net.ptp with time, rate, since := s.clock.now } } }

/-- PTP time is reckoned from the present instant on: what follows changes how the model's clock runs against it (R105, R646). -/
def Chip.anchorPtp (s : Chip) : Chip := s.setPtp s.ptpNow s.net.ptp.rate

/-! ## Clock outputs -/

/-- What a clock output carries (R126, R127): nothing, the level it holds while its synthesiser is stopped, low or at the common mode,
or its VCO's frequency in MHz divided by N, with the spread of the main synthesiser. -/
inductive ClockOutput where
  | off
  | low
  | common
  | runs (vcoMHz n : Nat) (spread : Bool)
  deriving DecidableEq, Repr

/-- What CLKO[n] carries (R126, R127). The port synthesiser is never spread (R105). -/
def Chip.clockOutput (s : Chip) (n : Nat) : ClockOutput :=
  let f := s.rd .clkoCfg_format n
  if f = 0 then .off
  else if !s.synthRuns then (if f = 3 then .low else .common)
  else if s.on .clkoCfg_source n then .runs 6000 (s.rd .clkoCfg_divider n) false
  else .runs 10000 (s.rd .clkoCfg_divider n) s.spreadOn

/-! ## The period grid -/

/-- The rotation of every arm starts at 0 with the grid (R248). -/
def Chip.startRotation (s : Chip) : Chip :=
  s.each (List.range 6) fun s a => (s.setArm a { s.arm a with rotCount := 0 }).wr .armStat_rotPtr 0 a

/-- The period grid starts at the present count (R13, R119): the next boundary is the one at B0. It runs once the image
has been applied and the timebase is locked, so not while a holdover lasts (DESIGN CHOICE, log entry 404). The rotation of the arms
starts with it (R248). -/
def Chip.startGrid (s : Chip) : Chip :=
  if s.applied && s.on .pllStat_locked && !s.clock.gridOn then
    let save := s.clock.tb + 60000000000 * s.rd .metCfg_saveInterval
    { s with clock := { s.clock with gridOn := true, b0 := s.clock.tb, n := 0, windowOpen := false }
             metrology := { s.metrology with nextSave := save } }.startRotation.wr .periodStat_running 1
  else s

/-- A metering point by number. -/
def Chip.meter (s : Chip) (k : Nat) : MeterPoint := storeGet s.metrology.points k {}
def Chip.setMeter (s : Chip) (k : Nat) (r : MeterPoint) : Chip :=
  { s with metrology := { s.metrology with points := storePut s.metrology.points k {} r } }

/-- The duration of samples in nanoseconds, rounded down. -/
def durationNs (w : List MeterSample) : Nat := (w.foldl (fun a x => a + (x.num : Rat) / x.den) (0 : Rat)).floor.toNat

/-- A window is unmeasured (R363). -/
def Chip.unmeasured (s : Chip) (k : Nat) (w : List MeterSample) : Chip :=
  let m := s.meter k
  let ns := m.unmeasuredNs + durationNs w
  let s := s.setMeter k { m with unmeasuredNs := ns }
  (s.wr .mptStat_unmeasuredMs (min 16777215 (ns / 1000000)) k).wr .mptStat_unmeasured 1 k

/-- A window in progress is cut by a stop of the grid or by a warm reset: it is unmeasured (R363). -/
def Chip.cutWindow (s : Chip) (k : Nat) : Chip :=
  let m := s.meter k
  if m.window.isEmpty then s else (s.setMeter k { m with window := [], past := [] }).unmeasured k m.window

/-- The period sequence stops (R116), and with it the metering windows in progress (R363). -/
def Chip.stopGrid (s : Chip) : Chip :=
  let s := if s.clock.gridOn then (s.cutWindow 0).cutWindow 1 else s
  { s with clock := { s.clock with gridOn := false, windowOpen := false }
           metrology := { s.metrology with captures := [] } }.wr .periodStat_running 0

/-- Every enabled lane goes through a lane reset (R112, R116). -/
def Chip.resetLanes (s : Chip) : Chip := s.each (List.range 100) fun s n => s.laneReset n

/-- Every entry's valid clears, on the Mast die with the next frame, and the modulators stop (R342): what they gave is no history of
what follows. -/
def Chip.stopModulators (s : Chip) : Chip :=
  let clear (e : AdcEntryState) : AdcEntryState := { e with latest := { e.latest with valid := false }, delivered := false }
  let s := { s with converter := { s.converter with
    entries := (List.range 32).foldl (fun m n => storePut m n {} (clear (storeGet m n {}))) s.converter.entries, history := [] } }
  if s.on .idbStat_linkUp then
    s.each (List.range 32) fun s n =>
      { s with converter := { s.converter with
        entries := storePut s.converter.entries n {} { storeGet s.converter.entries n {} with delivered := true } } }.wr .adcRes_valid 0 n
  else s

/-- After a relock the modulators run again (R342). -/
def Chip.startModulators (s : Chip) : Chip := { s with converter := { s.converter with modulatorsFrom := s.clock.now } }

/-- Both synthesisers stop (R112, R116): the count freezes, the lanes carry nothing, the period sequence stops and the
Shroud asserts its wires. -/
def Chip.stopSynthesisers (s : Chip) : Chip :=
  let s := ((s.anchorPtp.wr .pllStat_locked 0).wr .pllStat_holdover 0).wr .pllStat_synthDown 1
  let s := { s with pll := { s.pll with onBypass := true, failedAt := none } }
  ((s.stopGrid.resetLanes).stopModulators).shroudRefresh

/-- The path by which the PLL locks to the active plan (R108): `ok` tells for each path whether it succeeds. -/
def Chip.lockPath (s : Chip) (ok : Bool × Bool × Bool) : Option Nat :=
  let p := s.rd .pllStat_activePlan
  let near := s.pll.dieTempValid && decide ((s.rdInt .pllBandStore_temperature p - s.pll.dieTemp).natAbs ≤ 20)
  if s.on .pllBandStore_valid p && near && ok.1 then some 0
  else if s.on .pllBandTable_valid p && ok.2.1 then some 1
  else if ok.2.2 then some 2
  else none

/-- The PLL is locking: it has no lock, the active reference shows edges, and no failed relock waits (R118). -/
def Chip.locking (s : Chip) : Bool :=
  !s.modes.porstLow && !s.on .pllStat_locked && s.on .pllStat_refPresent && s.pll.failedAt.isNone

/-- The lock itself (R109, R118, R119): the supervisors return to the port synthesiser, the count starts or goes on, and
after a relock the lanes are brought up anew and the grid starts again. Where the spread's triangle stands at the lock is open (R646, log
entry 406). -/
def Chip.locked (s : Chip) (path band : Nat) : Chip :=
  let p := s.rd .pllStat_activePlan
  let d := s.anchorPtp.draw
  let s : Chip := { d.2 with pll := { d.2.pll with triangle := (Config.freeWord d.1).toNat % triangleTicks } }
  let s := (s.wr .pllStat_locked 1).wr .pllStat_lockPath path
  let s := ((s.wr .pllStat_holdover 0).wr .pllStat_synthDown 0).wr .pllStat_hopPending 0
  let s := if path = 2 ∧ s.pll.dieTempValid = true then
      ((s.wr .pllBandStore_valid 1 p).wr .pllBandStore_band band p).wrInt .pllBandStore_temperature s.pll.dieTemp p
    else s
  let s := { s with pll := { s.pll with onBypass := false, failedAt := none } }
  let s := if s.clock.started then s.stopGrid.resetLanes else { s with clock := { s.clock with started := true, tb := 0 } }
  s.startModulators.startGrid.shroudRefresh

/-- An attempt to lock ends (R108, R118): by the first path that succeeds, or, when all fail, in a wait for the next
attempt. `temp` is the PLL block's own conversion of OD[0] in °C, none while it is invalid. -/
def Chip.pllLock (s : Chip) (ok : Bool × Bool × Bool) (band : Nat) (temp : Option Int) : Chip :=
  if s.locking then
    let s := { s with pll := { s.pll with dieTemp := temp.getD s.pll.dieTemp, dieTempValid := temp.isSome } }
    match s.lockPath ok with
    | some path => s.locked path band
    | none => { s with pll := { s.pll with failedAt := some s.clock.now } }
  else s

/-- A relock that failed is begun again every 1 ms while the reference shows edges (R118). -/
def Chip.relockRetry (s : Chip) : Chip :=
  match s.pll.failedAt with
  | some t =>
    if t + 1000000 ≤ s.clock.now ∧ s.on .pllStat_refPresent = true then
      { s with pll := { s.pll with failedAt := none } }
    else s
  | none => s

/-- The supervisor writes the predicted band of every defined plan, once every 1 s while the Mast die is out of reset and firmware
runs (R110). -/
def Chip.bandTable (s : Chip) (band : List Nat) : Chip :=
  let due := match s.pll.bandAt with
    | some t => decide (t + 1000000000 ≤ s.clock.now)
    | none => true
  s.onlyIf (!s.modes.porstLow && s.rd .bootStat_copy != 3 && due) fun s =>
    let s := { s with pll := { s.pll with bandAt := some s.clock.now } }
    s.each (List.range 4) fun s p =>
      if s.on .pllPlan_defined p then (s.wr .pllBandTable_valid 1 p).wr .pllBandTable_band (band.getD p 0) p else s

/-- A hop to plan `p` (R112). `edges` tells whether the new plan's reference shows edges. -/
def Chip.hop (s : Chip) (p : Nat) (edges : Bool) : Chip :=
  let s := ((s.anchorPtp.wr .pllStat_activePlan p).wr .pllStat_hopPending 1).wrFlag .pllStat_refPresent edges
  s.stopSynthesisers

/-- A write to PLL_PLAN_REQ (R111). QUIESCENT is a state of CONFIGURE and of SAFE HOLD. -/
def Chip.hopRequest (s : Chip) (p : Nat) (edges : Bool) : Chip :=
  if 3 < p then s
  else if (s.mode = .configure ∨ s.mode = .safeHold) ∧ s.on .pllPlan_defined p = true then s.hop p edges
  else s.raise originModeRequest

/-- The device waits for its partner's take-over report when a clock is lost in RUN (R117). -/
def Chip.waitsForTakeover (s : Chip) : Bool :=
  s.mode == .run && s.sys.pair && s.on .halStat_partnerSeen && s.on .halStat_accepted && s.halyard.partner.inStep

/-- Loss of reference or lock changes the mode (R117). The second boundary after the declaration is told by the grid; a further declaration
before it leaves the deadline of the first, and a report that has come, as they are. -/
def Chip.clockLossMode (s : Chip) : Chip :=
  match s.mode with
  | .shadow => s
  | .safeHold => s.closeWindow
  | .run =>
    if s.waitsForTakeover && s.pll.yieldDeadline.any (s.clock.now ≤ ·) then s
    else if s.waitsForTakeover then
      let second := s.boundaryTb + 2 * s.tCtlNs
      { s with pll := { s.pll with
        yieldDeadline := some (s.clock.now + (second - s.clock.tb)), takeoverSeen := false } }
    else s.enterSafeHold .clockLoss
  | _ => s.enterSafeHold .clockLoss

/-- Loss of reference (R112, R114, R115, R117): declared where the reference showed edges, but for a hop not yet locked. Holdover takes
synthesisers that run. A sheaf that is leaving at that instant goes out whole (DESIGN CHOICE, log entry 407). -/
def Chip.referenceLost (s : Chip) : Chip :=
  if s.on .pllStat_refPresent then
    let s := s.wr .pllStat_refPresent 0
    s.onlyIf (!s.on .pllStat_hopPending) fun s =>
      let s := (s.count .pllStat_refLosses).clockLossMode
      let s := s.onlyIf s.synthRuns fun s =>
        let s := (s.wr .pllStat_locked 0).wr .pllStat_holdover 1
        { s with pll := { s.pll with holdoverAt := s.clock.now, onBypass := true } }
      s.raise originClock
  else s

/-- Loss of lock with the reference present (R114, R116, R117). -/
def Chip.lockLost (s : Chip) : Chip :=
  if s.on .pllStat_locked && s.on .pllStat_refPresent then
    ((s.count .pllStat_lockLosses).clockLossMode).stopSynthesisers
  else s

/-- Holdover reaches 100 ms without the reference's return (R116). -/
def Chip.holdoverExpiry (s : Chip) : Chip :=
  if s.on .pllStat_holdover && !s.on .pllStat_refPresent && decide (s.pll.holdoverAt + 100000000 ≤ s.clock.now) then s.stopSynthesisers else s

/-- The active reference shows edges again (R116, R118): the PLL relocks without a request, though the last relock failed. -/
def Chip.referenceReturn (s : Chip) : Chip :=
  if s.on .pllStat_refPresent then s
  else { s.wr .pllStat_refPresent 1 with pll := { s.pll with failedAt := none } }

end Sys2Proof.Machine
end

