-- ==== Sys2Proof/Machine/Engines.lean ====
section
/-! DEFINITION. The control engines (R264 to R303): arithmetic, the operations of the instruction word, tracking and
groups, and an engine's period. -/

namespace Sys2Proof.Machine

/-- Engine `e` by its logical number (R266). -/
def Chip.engine (s : Chip) (e : Nat) : Engine := storeGet s.engines.units e {}
def Chip.setEngine (s : Chip) (e : Nat) (g : Engine) : Chip :=
  { s with engines := { s.engines with units := storePut s.engines.units e {} g } }

/-- Data word `x` of an engine as a signed number (R270); addresses wrap at 8,192 (R275). -/
def Engine.dmAt (g : Engine) (x : Nat) : Int := signed 16 (storeGet g.dm (x % 8192) 0)

/-- A data word written. -/
def Engine.setDm (g : Engine) (x : Nat) (v : Int) : Engine :=
  { g with dm := storePut g.dm (x % 8192) 0 (unsigned 16 v) }

/-- The index of loop `ll`'s registers of engine `e`. -/
def loopIx (e ll : Nat) : Nat := 64 * e + ll

/-- A field of an instruction as an address: X added where its bit is set (R275). -/
def Engine.addr (g : Engine) (xBit : Bool) (a : Nat) : Nat := if xBit then (a + g.x) % 8192 else a % 8192

/-- A field of an instruction as a slot number (R275). -/
def Engine.slotNo (g : Engine) (xBit : Bool) (a : Nat) : Nat := if xBit then (a + g.x) % 512 else a % 512

/-- The accumulator that `acc` selects, and its write. -/
def Engine.getAcc (g : Engine) (acc : Bool) : Int := if acc then g.a1 else g.a0
def Engine.putAcc (g : Engine) (acc : Bool) (v : Int) : Engine := if acc then { g with a1 := v } else { g with a0 := v }

/-- An accumulator takes a result: outside the 40-bit range it is left at the nearer end and acc_sat is set (R270). -/
def Chip.setAcc (s : Chip) (e : Nat) (acc : Bool) (v : Int) : Chip :=
  let c := satSigned 40 v
  let s := s.setEngine e ((s.engine e).putAcc acc c)
  if c = v then s else s.wr .ceEstat_accSat 1 e

/-- A result `num / den` is stored to data word `x` (R271): rounded to the nearest unit, halves upward, then saturated;
a store that saturates is noted in the loop in progress. -/
def Chip.storeWord (s : Chip) (e x : Nat) (num : Int) (den : Nat) : Chip :=
  let g := s.engine e
  let v := roundHalfUp num den
  let c := satSigned 16 v
  let s := s.setEngine e (g.setDm x c)
  if c = v then s
  else (s.wr .ceLoopStat_sat 1 (loopIx e g.loop)).count .ceLoopStat_satCount (loopIx e g.loop)

/-- The integrator at `i` (R272): a Q1.31 value, high word first. -/
def Engine.integrator (g : Engine) (i : Nat) : Int := g.dmAt i * 65536 + storeGet g.dm ((i + 1) % 8192) 0

/-- The integrator at `i` updated to `v`, clamped between its bounds (R272). -/
def Engine.setIntegrator (g : Engine) (i : Nat) (v : Int) : Engine :=
  let lo := g.dmAt (i + 2) * 65536
  let hi := g.dmAt (i + 3) * 65536
  let c := unsigned 32 (if hi < lo then lo else clamp lo hi v)
  { g with dm := storePut (storePut g.dm (i % 8192) 0 (c / 65536)) ((i + 1) % 8192) 0 (c % 65536) }

/-- The addresses that the fields of an instruction word give, X added where its bit says so (R273, R275). -/
def Chip.addrA (s : Chip) (e : Nat) (w : OpWord) : Nat := (s.engine e).addr w.xa w.a.toNat
def Chip.addrB (s : Chip) (e : Nat) (w : OpWord) : Nat := (s.engine e).addr w.xb w.b.toNat
def Chip.addrC (s : Chip) (e : Nat) (w : OpWord) : Nat := (s.engine e).addr w.xc w.c.toNat

/-- The data words at a and b, and the accumulator that acc selects (R274). -/
def Chip.argA (s : Chip) (e : Nat) (w : OpWord) : Int := (s.engine e).dmAt (s.addrA e w)
def Chip.argB (s : Chip) (e : Nat) (w : OpWord) : Int := (s.engine e).dmAt (s.addrB e w)
def Chip.accOf (s : Chip) (e : Nat) (w : OpWord) : Int := (s.engine e).getAcc w.acc

/-- MAC2 (R274): both accumulators at once. -/
def Chip.opMac2 (s : Chip) (e a b c : Nat) : Chip :=
  let g := s.engine e
  (s.setAcc e false (g.a0 + g.dmAt a * g.dmAt c)).setAcc e true (g.a1 + g.dmAt b * g.dmAt (c + 1))

/-- ASH (R274): A × 2^n for a signed n; a right shift rounds toward −∞. -/
def Chip.opAsh (s : Chip) (e : Nat) (acc : Bool) (n : Int) : Chip :=
  let v := (s.engine e).getAcc acc
  s.setAcc e acc (if 0 ≤ n then v * (2 ^ n.toNat : Nat) else v / (2 ^ (-n).toNat : Nat))

/-- Entries 0 to 63 of the first quarter of the sine table (R278). -/
def sineQuarter0 : List Nat :=
  [0, 201, 402, 603, 804, 1005, 1206, 1407, 1608, 1809, 2009, 2210, 2411, 2611, 2811, 3012,
   3212, 3412, 3612, 3812, 4011, 4211, 4410, 4609, 4808, 5007, 5205, 5404, 5602, 5800, 5998, 6195,
   6393, 6590, 6787, 6983, 7180, 7376, 7571, 7767, 7962, 8157, 8351, 8546, 8740, 8933, 9127, 9319,
   9512, 9704, 9896, 10088, 10279, 10469, 10660, 10850, 11039, 11228, 11417, 11605, 11793, 11980, 12167, 12354]

/-- Entries 64 to 127 of the first quarter of the sine table (R278). -/
def sineQuarter1 : List Nat :=
  [12540, 12725, 12910, 13095, 13279, 13463, 13646, 13828, 14010, 14192, 14373, 14553, 14733, 14912, 15091, 15269,
   15447, 15624, 15800, 15976, 16151, 16326, 16500, 16673, 16846, 17018, 17190, 17361, 17531, 17700, 17869, 18037,
   18205, 18372, 18538, 18703, 18868, 19032, 19195, 19358, 19520, 19681, 19841, 20001, 20160, 20318, 20475, 20632,
   20788, 20943, 21097, 21251, 21403, 21555, 21706, 21856, 22006, 22154, 22302, 22449, 22595, 22740, 22884, 23028]

/-- Entries 128 to 191 of the first quarter of the sine table (R278). -/
def sineQuarter2 : List Nat :=
  [23170, 23312, 23453, 23593, 23732, 23870, 24008, 24144, 24279, 24414, 24548, 24680, 24812, 24943, 25073, 25202,
   25330, 25457, 25583, 25708, 25833, 25956, 26078, 26199, 26320, 26439, 26557, 26674, 26791, 26906, 27020, 27133,
   27246, 27357, 27467, 27576, 27684, 27791, 27897, 28002, 28106, 28209, 28311, 28411, 28511, 28610, 28707, 28803,
   28899, 28993, 29086, 29178, 29269, 29359, 29448, 29535, 29622, 29707, 29792, 29875, 29957, 30038, 30118, 30196]

/-- Entries 192 to 255 of the first quarter of the sine table (R278). -/
def sineQuarter3 : List Nat :=
  [30274, 30350, 30425, 30499, 30572, 30644, 30715, 30784, 30853, 30920, 30986, 31050, 31114, 31177, 31238, 31298,
   31357, 31415, 31471, 31527, 31581, 31634, 31686, 31737, 31786, 31834, 31881, 31927, 31972, 32015, 32058, 32099,
   32138, 32177, 32214, 32251, 32286, 32319, 32352, 32383, 32413, 32442, 32470, 32496, 32522, 32546, 32568, 32590,
   32610, 32629, 32647, 32664, 32679, 32693, 32706, 32718, 32729, 32738, 32746, 32753, 32758, 32762, 32766, 32767]

/-- The first quarter of the sine table: entry j is sin(2πj / 1,024) × 32,768, rounded (R278). -/
def sineQuarter (j : Nat) : Nat :=
  if j < 64 then sineQuarter0.getD j 0
  else if j < 128 then sineQuarter1.getD (j - 64) 0
  else if j < 192 then sineQuarter2.getD (j - 128) 0
  else if j < 256 then sineQuarter3.getD (j - 192) 0
  else 32768

/-- Entry `j` of the internal table of 1,024 entries per turn, saturated (R278). -/
def sineEntry (j : Nat) : Int :=
  let k := j % 1024
  satSigned 16 (
    if k ≤ 256 then (sineQuarter k : Int)
    else if k ≤ 512 then sineQuarter (512 - k)
    else if k ≤ 768 then -(sineQuarter (k - 512) : Int)
    else -(sineQuarter (1024 - k) : Int))

/-- The sine of an angle of `u` / 65,536 turns, times 64 × 32,768: interpolated linearly between entries (R278). -/
def sineOf (u : Nat) : Int :=
  let j := u % 65536 / 64
  let f : Int := (u % 64 : Nat)
  sineEntry j * 64 + f * (sineEntry (j + 1) - sineEntry j)

/-- The value of a SIN (R278): sine at `c`, cosine at `c + 1`. -/
def Chip.opSin (s : Chip) (e a c : Nat) : Chip :=
  let u := unsigned 16 ((s.engine e).dmAt a)
  (s.storeWord e c (sineOf u) 64).storeWord e (c + 1) (sineOf (u + 16384)) 64

/-- TAB (R278). -/
def Chip.opTab (s : Chip) (e n a b c : Nat) : Chip :=
  let g := s.engine e
  let p := ((g.dmAt a + 32768) * (2 ^ n : Nat)).toNat
  let i := p / 65536
  let f : Int := (p % 65536 : Nat)
  let t0 := g.dmAt (b + i)
  s.storeWord e c (t0 * 65536 + f * (g.dmAt (b + i + 1) - t0)) 65536

/-- CLK (R278). -/
def Chip.opClk (s : Chip) (e a c : Nat) : Chip :=
  let g := s.engine e
  let xa := g.dmAt a
  let xb := g.dmAt (a + 1)
  let xc := g.dmAt (a + 2)
  (s.storeWord e c (21845 * xa - 10923 * xb - 10923 * xc) 32768).storeWord e (c + 1) (18919 * xb - 18919 * xc) 32768

/-- ICK (R278). -/
def Chip.opIck (s : Chip) (e a c : Nat) : Chip :=
  let g := s.engine e
  let al := g.dmAt a
  let be := g.dmAt (a + 1)
  let s := s.storeWord e c al 1
  let s := s.storeWord e (c + 1) (-16384 * al + 28378 * be) 32768
  s.storeWord e (c + 2) (-16384 * al - 28378 * be) 32768

/-- PRK and IPK (R278): a rotation by the angle whose sine and cosine stand at `b`; `sgn` is +1 for Park. -/
def Chip.opRotate (s : Chip) (e a b c : Nat) (sgn : Int) : Chip :=
  let g := s.engine e
  let x := g.dmAt a
  let y := g.dmAt (a + 1)
  let sn := g.dmAt b
  let cs := g.dmAt (b + 1)
  (s.storeWord e c (x * cs + sgn * (y * sn)) 32768).storeWord e (c + 1) (-sgn * (x * sn) + y * cs) 32768

/-- LIM (R274): a change is noted in the loop in progress. -/
def Chip.opLim (s : Chip) (e a b c : Nat) : Chip :=
  let g := s.engine e
  let v := min (max (g.dmAt c) (g.dmAt a)) (g.dmAt b)
  if v = g.dmAt c then s
  else
    let s := s.setEngine e (g.setDm c v)
    (s.wr .ceLoopStat_lim 1 (loopIx e g.loop)).count .ceLoopStat_limCount (loopIx e g.loop)

/-- INT (R274): I + e × k × 2^(1−n) in Q1.31 units, rounded half upward, clamped. -/
def Chip.opInt (s : Chip) (e n a b c : Nat) : Chip :=
  let g := s.engine e
  let step := roundHalfUp (2 * (g.dmAt a * g.dmAt b)) (2 ^ n)
  s.setEngine e (g.setIntegrator c (g.integrator c + step))

/-- Loop `ll` of an engine: its descriptor and its state beside the registers. -/
def Engine.desc (g : Engine) (ll : Nat) : LoopDesc := g.image.loops.getD ll {}
def Engine.loopState (g : Engine) (ll : Nat) : LoopState := storeGet g.loops ll {}
def Engine.setLoop (g : Engine) (ll : Nat) (r : LoopState) : Engine := { g with loops := storePut g.loops ll {} r }

/-- A loop is OPEN; a loop is restarting in this period (R287, R289). -/
def Chip.loopOpen (s : Chip) (e ll : Nat) : Bool := !s.on .ceLoopStat_closed (loopIx e ll)
def Chip.loopRestarts (s : Chip) (e ll : Nat) : Bool := !s.loopOpen e ll && ((s.engine e).loopState ll).wasOpen

/-- The track target of an OPEN or restarting loop (R290). -/
def Chip.trackTarget (s : Chip) (e ll : Nat) : Int :=
  let held := s.rdInt .ceLoopOut_out (loopIx e ll)
  if s.loopOpen e ll then
    match ((s.engine e).desc ll).manualWord with
    | some w => (s.engine e).dmAt w
    | none => held
  else held

/-- A loop's output word `c` is set to its target `t`, its integrator, if any, taking up the difference (R290, R292). -/
def Chip.trackLoop (s : Chip) (e ll : Nat) (int_ : Option Nat) (c : Nat) (t : Int) : Chip :=
  let g := s.engine e
  let g' := match int_ with
    | some i => g.setIntegrator i (g.integrator i + (t - g.dmAt c) * 65536)
    | none => g
  s.setEngine e ((g'.setDm c t).setLoop ll { g'.loopState ll with tracked := some t })

/-- TRK (R290): it acts for a loop of no group that is OPEN or restarting. -/
def Chip.opTrk (s : Chip) (e n a c : Nat) : Chip :=
  let ll := (s.engine e).loop
  let acts := ((s.engine e).desc ll).group.isNone && (s.loopOpen e ll || s.loopRestarts e ll)
  if acts then s.trackLoop e ll (if n = 1 then some a else none) c (s.trackTarget e ll) else s

/-- The reef member's value at a reef level (R293). -/
def reefMember : Nat → Int
  | 0 => 32767
  | 1 => 26214
  | 2 => 19661
  | _ => 13107

/-- The value of each member of a group (R292). -/
def Chip.memberValue (s : Chip) (e ll : Nat) : Int :=
  if s.loopOpen e ll || s.loopRestarts e ll then s.trackTarget e ll
  else (s.engine e).dmAt (((s.engine e).desc ll).outWord.getD 0)

/-- The hardware members of a power-setpoint group: reef and ramp (R293, R294). -/
def Chip.hardwareMembers (s : Chip) (arm : Option Nat) : List Int :=
  match arm with
  | some a => [reefMember (s.rd .cePower_reefLevel a), s.rdInt .cePower_ramp a]
  | none => []

/-- A member's tracking by MSEL (R292): `v` is its value, `out` the group's output. -/
def Chip.trackMember (s : Chip) (e ll : Nat) (v out : Int) : Chip :=
  let d := (s.engine e).desc ll
  let w := d.outWord.getD 0
  if s.loopOpen e ll || s.loopRestarts e ll then s.trackLoop e ll d.intAddr w v
  else if out < v then s.trackLoop e ll d.intAddr w out
  else s

/-- MSEL (R292): the group's output is the least of all members, never below 0 in a power-setpoint group. -/
def Chip.opMsel (s : Chip) (e a c : Nat) : Chip :=
  let d := (s.engine e).image.groups.getD a {}
  let vs := d.members.map fun m => (m, s.memberValue e m)
  let all := vs.map (·.2) ++ s.hardwareMembers d.arm
  let least := all.foldl min (all.headD 32767)
  let out := if d.arm.isSome then max least 0 else least
  let s := s.each vs fun s (m, v) => s.trackMember e m v out
  let g := (s.engine e).setDm c out
  s.setEngine e { g with groupsDone := g.groupsDone ++ [(a, out, vs.findIdx? fun x => x.2 == out)] }

/-- The program counter after an instruction (R276): the next word, or the start of a repeated block. -/
def Engine.advance (g : Engine) : Engine :=
  match g.rep with
  | some r =>
    if g.pc + 1 = r.first + r.len then
      if 1 < r.left then { g with pc := r.first, rep := some { r with left := r.left - 1 } }
      else { g with pc := g.pc + 1, rep := none }
    else { g with pc := g.pc + 1 }
  | none => { g with pc := g.pc + 1 }

/-- Engine `e` runs loops: the image made it active, it was not lost, and the physical engine that runs it is READY (R65, R66,
R265, R268), in a mode and state in which step 2 is active (R299). -/
def Chip.engineRuns (s : Chip) (e : Nat) : Bool :=
  s.on .ceCfg_active e && !s.on .ceCfg_lost e && s.engineUsable (s.rd .ceCfg_runsOn e) && s.stepActive 2 &&
    !s.on .eeStat_halted

/-- Engine `e` executes the instruction of code `op` and fields `w` now: it runs its loops, and the word at its program counter is that
instruction (R273, R286). -/
def Chip.executes (s : Chip) (e op : Nat) (w : OpWord) : Bool :=
  let g := s.engine e
  s.engineRuns e && g.phase == .running &&
    match g.image.program[g.pc]? with
    | some x => wordOp x == op && opFields x == w
    | none => false

/-- An engine executes one instruction, which its program gives: without effect where SKN says so (R276), and then the program counter
moves on. -/
def Chip.engineOp (s : Chip) (e op : Nat) (w : OpWord) (f : Chip → Chip) : Chip :=
  let g := s.engine e
  if !s.executes e op w then s
  else if g.skip = 0 then
    let s := f s
    s.setEngine e (s.engine e).advance
  else s.setEngine e { g with skip := g.skip - 1 }.advance

/-- REP (R276). -/
def Chip.opRep (s : Chip) (e a b : Nat) : Chip :=
  let g := s.engine e
  s.setEngine e { g with rep := some ⟨g.pc + 1, a, b⟩ }

/-- SKN (R276). -/
def Chip.opSkn (s : Chip) (e n a : Nat) : Chip :=
  let g := s.engine e
  if g.dmAt a < 0 then s.setEngine e { g with skip := n } else s

/-- The start of a loop (R275). -/
def Engine.startLoop (g : Engine) (ll : Nat) : Engine :=
  { g with a0 := 0, a1 := 0, x := 0, skip := 0, rep := none, loop := ll, pc := (g.desc ll).progStart }

/-- What a loop shows once the engine's period has ended (R290, R303). -/
def Chip.showLoop (s : Chip) (e ll : Nat) : Chip :=
  let g := s.engine e
  let i := loopIx e ll
  let out := match (g.desc ll).outWord with
    | some w => g.dmAt w
    | none => 0
  let s := (s.wrInt .ceLoopOut_out out i).wrFlag .ceLoopStat_restart (s.loopRestarts e ll) i
  match (g.loopState ll).tracked with
  | some t => (s.wr .ceLoopStat_tracking 1 i).wrInt .ceLoopOut_target t i
  | none => s.wr .ceLoopStat_tracking 0 i

/-- What a group shows once the engine's period has ended (R303). -/
def Chip.showGroup (s : Chip) (e gr : Nat) : Chip :=
  let i := 8 * e + gr
  match (s.engine e).groupsDone.find? fun x => x.1 == gr with
  | some (_, out, w) =>
    let s := (s.wr .ceGroupStat_valid 1 i).wrInt .ceGroupStat_output out i
    match w with
    | some p => (s.wr .ceGroupStat_hwWin 0 i).wr .ceGroupStat_winner p i
    | none => s.wr .ceGroupStat_hwWin 1 i
  | none => s.wr .ceGroupStat_valid 0 i

/-- END (R274, R286): the next loop starts, or, after the last, the engine has ended its loops and waits for its
release. -/
def Chip.opEnd (s : Chip) (e : Nat) : Chip :=
  let g := s.engine e
  if g.loop + 1 < g.image.loops.length then s.setEngine e (g.startLoop (g.loop + 1))
  else
    let s := s.setEngine e { g with phase := .ended }
    let s := s.each (List.range g.image.loops.length) fun s ll => s.showLoop e ll
    s.each (List.range 8) fun s gr => s.showGroup e gr

/-- Each active control engine begins its first loop (R286, R296). -/
def Chip.enginesStart (s : Chip) : Chip :=
  s.each (List.range 24) fun s e =>
    if s.engineRuns e then
      let g := s.engine e
      let g := g.image.loops.zipIdx.foldl (fun g (_, ll) => g.setLoop ll { g.loopState ll with tracked := none }) g
      s.setEngine e { g.startLoop 0 with phase := .running, outVals := [], groupsDone := [] }
    else s

/-- The cycles an engine leaves unused at t_B, from the instant of its release (R298), in BUDGET_MARGIN and CE_ESTAT. -/
def Chip.noteMargin (s : Chip) (e cycles : Nat) : Chip :=
  let m := min cycles 65535
  let s := s.wr .ceEstat_marginLast m e
  if m < s.rd .budgetMargin_minMargin then (s.wr .budgetMargin_minMargin m).wr .budgetMargin_worstCe e else s

/-- The release of an engine (R283): the output slots written in the period, then the state ranges to the Halyard
buffers. `phase` is the time since the boundary in nanoseconds. -/
def Chip.engineRelease (s : Chip) (e phase : Nat) : Chip :=
  let g := s.engine e
  if s.engineRuns e && g.phase == .ended then
    let s := s.each g.outVals fun s (k, v) => s.sramPutHalf (g.image.outSlots.getD k 0) v
    let words := g.image.ranges.flatMap fun (a, n) => (List.range n).map fun i => g.dmAt (a + i)
    let s := s.setEngine e { g with phase := .released, released := words }
    s.noteMargin e ((s.tB - phase) / 2)
  else s

/-- At t_B an engine that has not completed its release is stopped (R24, R284): its outputs of the period are
discarded. -/
def Chip.engineOverruns (s : Chip) : Chip :=
  s.each (List.range 24) fun s e =>
    let g := s.engine e
    if s.engineRuns e && g.phase != .released then
      let s := s.setEngine e { g with phase := .stopped, outVals := [] }
      let s := (s.wr .ceEstat_overrun 1 e).noteMargin e 0
      (s.wr .periodStat_computeOverrun 1).raise (originBudget e)
    else s

/-- OUT (R282): the slot's value inside the engine. -/
def Chip.opOut (s : Chip) (e slot a : Nat) : Chip :=
  let g := s.engine e
  s.setEngine e { g with outVals := storeInsert (storeDrop g.outVals slot) slot (unsigned 16 (g.dmAt a)) }

/-- IN (R279). -/
def Chip.opIn (s : Chip) (e slot c : Nat) : Chip :=
  let g := s.engine e
  s.setEngine e (g.setDm c (signed 16 (storeGet g.inVals slot 0)))

/-- Every input slot of the active engines is filled from the snapshot (R279). -/
def Chip.fillInputs (s : Chip) : Chip :=
  s.each (List.range 24) fun s e =>
    let g := s.engine e
    if g.image.inSlots.isEmpty then s
    else
      (s.sramTouch g.image.inSlots).setEngine e { g with inVals := g.image.inSlots.zipIdx.foldl (fun v (a, i) => storePut v i 0 (s.sramHalf a)) [] }

/-- The step r of the ramp (R294): stop_ramp is in 0.01 % of rated power per period. -/
def Chip.rampStep (s : Chip) : Int := roundHalfUp (s.sys.stopRamp * 32768) 10000

/-- The output of the power-setpoint group of arm `a` in the previous period. -/
def Chip.powerOutput (s : Chip) (a : Nat) : Int :=
  s.rdInt .ceGroupStat_output (8 * s.rd .cePower_engine a + s.rd .cePower_group a)

/-- The ramp member of arm `a` at a snapshot (R294); in SHADOW it is the partner's, as copied. -/
def Chip.rampUpdate (s : Chip) (a : Nat) : Chip :=
  let r := s.rampStep
  let x := s.rdInt .cePower_ramp a
  match s.mode with
  | .configure | .charge | .safeHold => s.wr .cePower_ramp 0 a
  | .commission => s.wr .cePower_ramp 32767 a
  | .run => s.wrInt .cePower_ramp (if s.on .cePower_stopping a then max (x - r) 0 else min (x + r) 32767) a
  | .shadow => s

/-- Stopping begins at this snapshot (R294, R295): the ramp falls from the group's output of the previous period. -/
def Chip.beginStopping (s : Chip) : Chip :=
  let s := s.each (List.range 6) fun s a =>
    if s.on .cePower_designated a then
      (s.wr .cePower_stopping 1 a).wrInt .cePower_ramp (max (s.powerOutput a - s.rampStep) 0) a
    else s
  { s with modes := { s.modes with stopping := true } }

/-- What the engines take at a snapshot: the restart condition of each loop is judged on the state before the live
writes (R289), or as a copy brings it (R300), the phases return to idle, and reef level and ramp are taken (R281, R294). -/
def Chip.enginesSnapshot (s : Chip) : Chip :=
  let s := s.each (List.range 24) fun s e =>
    let g := s.engine e
    if g.image.loops.isEmpty then s
    else
      let g := g.image.loops.zipIdx.foldl
        (fun g (_, ll) => g.setLoop ll { g.loopState ll with wasOpen := s.loopOpen e ll || (g.loopState ll).copied, copied := false }) g
      s.setEngine e { g with phase := .idle, late := g.phase == .stopped, outVals := [] }
  s.each (List.range 6) fun s a =>
    if s.on .cePower_designated a then (s.wr .cePower_reefLevel s.reefInForce a).rampUpdate a else s

/-- A kind-3 live write reaches its snapshot (R287, R289). -/
def Chip.setLoopClosed (s : Chip) (e ll : Nat) (closed : Bool) : Chip :=
  let s := s.wrFlag .ceLoopStat_closed closed (loopIx e ll)
  if closed then s
  else
    let g := s.engine e
    s.setEngine e (g.setLoop ll { g.loopState ll with wasOpen := true })

/-- A kind-4 live write reaches its snapshot (R288). -/
def Chip.setCoefficient (s : Chip) (e ll ix : Nat) (v : Int) : Chip :=
  let g := s.engine e
  s.setEngine e (g.setDm ((g.desc ll).coefBase + ix) v)

/-- The output of every power-setpoint group was 0 in the last period (R295). -/
def Chip.powerIsZero (s : Chip) : Bool :=
  (List.range 6).all fun a => !s.on .cePower_designated a || s.powerOutput a == 0

/-- The engine data memory and its loops as the image gives them (R287, R301). -/
def Chip.engineDefault (s : Chip) (e : Nat) : Chip :=
  let im := (s.engine e).image
  let s := s.setEngine e { image := im, dm := im.initial }
  let s := s.each (List.range 64) fun s ll =>
    let i := loopIx e ll
    let s := s.wrFlag .ceLoopStat_closed ((im.loops.getD ll {}).initClosed) i
    ((s.wr .ceLoopStat_tracking 0 i).wr .ceLoopStat_restart 0 i).wr .ceLoopOut_out 0 i
  s.each (List.range 8) fun s gr => (s.wr .ceGroupStat_valid 0 (8 * e + gr)).wr .ceGroupStat_output 0 (8 * e + gr)

/-- The physical engines that are spares: neither running a logical engine nor retired (R265). -/
def Chip.idleEngines (s : Chip) : List Nat :=
  (List.range 24).filter fun p =>
    !s.on .ceCfg_retired p && !((List.range 24).any fun e => s.on .ceCfg_active e && s.rd .ceCfg_runsOn e == p)

/-- Physical engine `p` is in its own slice, from hand-over to hand-back (R543). -/
def Chip.underTest (s : Chip) (p : Nat) : Bool :=
  match s.slices.run0 with
  | some r => r.inst == 128 + p
  | none => false

/-- The spares available for hand-over (R266, R303): those that are not in a slice of their own. -/
def Chip.engineSpares (s : Chip) : List Nat := s.idleEngines.filter fun p => !s.underTest p

/-- CE_STAT follows the engines (R269, R303). -/
def Chip.engineStat (s : Chip) : Chip :=
  let n := (s.engineSpares).length
  let s := s.wr .ceStat_nActive ((List.range 24).filter fun e => s.on .ceCfg_active e).length
  let s := (s.wr .ceStat_nSpare n).wr .ceStat_nRetired ((List.range 24).filter fun p => s.on .ceCfg_retired p).length
  s.wrFlag .ceStat_noCover s.idleEngines.isEmpty

end Sys2Proof.Machine
end

