-- ==== Sys2Proof/Machine/Live.lean ====
section
/-! DEFINITION. The live parameter set (R97 to R101, R280, R287, R288). -/

namespace Sys2Proof.Machine

/-- The declaration of live word `i`, if any. -/
def Chip.liveDecl (s : Chip) (i : Nat) : Option LiveDecl := (s.live.decls.find? (·.1 == i)).map (·.2)

/-- The initial value of a live word (R97): the minimum, or 0 where 0 lies in the range. -/
def LiveDecl.initial (d : LiveDecl) : Int := if d.min ≤ 0 ∧ 0 ≤ d.max then 0 else d.min

/-- The engine, loop, data word and coefficient index that targets name (R280, R287, R288), and the unit and command of
kind 2. -/
def LiveDecl.engine (d : LiveDecl) : Nat := bits d.target 24 5
def LiveDecl.dataWord (d : LiveDecl) : Nat := bits d.target 0 13
def LiveDecl.loop (d : LiveDecl) : Nat := if d.kind = 4 then bits d.target 16 6 else bits d.target 0 6
def LiveDecl.coefficient (d : LiveDecl) : Nat := bits d.target 0 6
def LiveDecl.unit (d : LiveDecl) : Nat := bits d.target 16 16
def LiveDecl.command (d : LiveDecl) : Nat := bits d.target 0 16

/-- A value is in its word's format and range (R97, R98). -/
def LiveDecl.admits (d : LiveDecl) (v : Nat) : Bool :=
  let x := signed 32 v
  let form := (d.format != 1 || x == signed 16 v) && (d.kind != 3 || v == 0 || v == 1)
  form && decide (d.min ≤ x) && decide (x ≤ d.max)

/-- Whether a loop will be CLOSED at the next snapshot (R98): its state, changed by the loop-control writes accepted
before. -/
def Chip.closedAtSnapshot (s : Chip) (e ll : Nat) : Bool :=
  s.live.waiting.foldl (fun c (i, v) =>
    match s.liveDecl i with
    | some d => if d.kind = 3 ∧ d.engine = e ∧ d.loop = ll then v == 1 else c
    | none => c) (!s.loopOpen e ll)

/-- The reason for which a live write is refused, coded as last_refusal; 0 where it is accepted (R98). -/
def Chip.liveRefusal (s : Chip) (i v : Nat) : Nat :=
  match s.liveDecl i with
  | none => 1
  | some d =>
    if !d.admits v then 2
    else if d.kind = 4 ∧ s.closedAtSnapshot d.engine d.loop = true then 3
    else 0

/-- A write to live word `i` (R98, R101): accepted, it waits for its snapshot and is what a read returns; refused, the word
keeps its value, LIVE_STAT records it and a NOTE event is raised. -/
def Chip.liveWrite (s : Chip) (i v : Nat) : Chip :=
  let r := s.liveRefusal i v
  if r = 0 then
    { s.wr .liveWord_value v i with live := { s.live with waiting := s.live.waiting ++ [(i, v)] } }
  else
    (((s.wr .liveStat_lastRefusal r).wr .liveStat_lastIndex i).count .liveStat_refusals).raise originLive

/-- A kind-2 command acts once, at the snapshot it reaches; the units' chapters give the commands. -/
structure LiveCommand where
  unit : Nat
  command : Nat
  value : Nat
  deriving DecidableEq, Repr

/-- One accepted write takes effect at the snapshot (R99); a command of kind 2 is handed to its unit. -/
def Chip.liveEffect (s : Chip) (i v : Nat) (dispatch : Chip → LiveCommand → Chip) : Chip :=
  let s := { s with live := { s.live with inForce := storePut s.live.inForce i 0 v } }
  match s.liveDecl i with
  | none => s
  | some d =>
    match d.kind with
    | 1 => { s with live := { s.live with setpoints := s.live.setpoints ++ [(d.engine, d.dataWord, v % 65536)] } }
    | 2 => dispatch s ⟨d.unit, d.command, v⟩
    | 3 => s.setLoopClosed d.engine d.loop (v == 1)
    | 4 => s.setCoefficient d.engine d.loop d.coefficient (signed 16 v)
    | _ => s

/-- The initial values of the setpoints are due (R97, R280). -/
def Chip.liveInitial (s : Chip) : Chip :=
  if s.live.initialDue then
    let sp := s.live.decls.filterMap fun (_, d) =>
      if d.kind = 1 then some (d.engine, d.dataWord, unsigned 16 d.initial) else none
    { s with live := { s.live with initialDue := false, setpoints := s.live.setpoints ++ sp } }
  else s

/-- The live writes of a snapshot take effect in order (R29, R99, R100), after the initial values. -/
def Chip.liveSnapshot (s : Chip) (dispatch : Chip → LiveCommand → Chip) : Chip :=
  let s := s.liveInitial
  let l := s.live.waiting
  let s := { s with live := { s.live with waiting := [] } }
  s.each l fun s (i, v) => s.liveEffect i v dispatch

/-- The setpoints reach their data words in the input distribution window (R280). -/
def Chip.liveDistribute (s : Chip) : Chip :=
  let l := s.live.setpoints
  let s := { s with live := { s.live with setpoints := [] } }
  s.each l fun s (e, a, v) => s.setEngine e ((s.engine e).setDm a (signed 16 v))

/-- The live parameter set at its default (R62, R101): every declared word at its initial value, no write waiting. -/
def Chip.liveDefault (s : Chip) : Chip :=
  let s := s.each (List.range 256) fun s i =>
    s.wr .liveWord_value (match s.liveDecl i with | some d => unsigned 32 d.initial | none => 0) i
  let force := s.live.decls.foldl (fun st (i, d) => storePut st i 0 (unsigned 32 d.initial)) ([] : Store Nat)
  { s with live := { s.live with waiting := [], setpoints := [], initialDue := true, inForce := force } }

end Sys2Proof.Machine
end

