-- ==== Sys2Proof/Machine/Halyard.lean ====
section
/-! DEFINITION. The redundant pair over the Halyard link (R446 to R480): headers, identity, marks and alignment, the state
copy, take-over, yield and handing back. -/

namespace Sys2Proof.Machine

/-- A header of 32 bits, h0 in bit 0, is valid (R453). -/
def halHeaderValid (h : BitVec 32) : Bool := halBitsValid ((List.range 32).map fun i => h.getLsbD i)

/-- The fields of a header (R452). -/
def readHalHeader (h : BitVec 32) : HalHeader :=
  let b (i : Nat) : Bool := h.getLsbD i
  { block := b 2, react := b 3, healthy := b 4, takeover := b 5,
    mode := 4 * flag (b 6) + 2 * flag (b 7) + flag (b 8), member := flag (b 9), rank := flag (b 10), inStep := b 11 }

/-- This member is primary (R449); PRI_OUT is high exactly then (R447). -/
def Chip.isPrimary (s : Chip) : Bool := s.mode == .commission || s.mode == .charge || s.mode == .run
def Chip.priOut (s : Chip) : Bool := s.isPrimary

/-- Neither Halyard lane is READY. -/
def Chip.halyardDown (s : Chip) : Bool := !s.laneReady 96 && !s.laneReady 97

/-- A bale shows execution by the partner, or by this member, without repeat (R449, R474). -/
def Chip.showsPartner (s : Chip) (b : Bale) : Bool := !b.isRepeat && flag b.execMember != s.rd .halCfg_member
def Chip.showsOwn (s : Chip) (b : Bale) : Bool := !b.isRepeat && flag b.execMember == s.rd .halCfg_member

/-- The used bales of the last snapshot, and those received since it, on READY lanes. -/
def Chip.usedBales (s : Chip) : List Bale :=
  cellLanes.filterMap fun n => if (s.lane n).fresh then some (s.lane n).baleUsed else none
def Chip.waitingBales (s : Chip) : List Bale :=
  cellLanes.filterMap fun n => if s.laneReady n then (s.lane n).baleNext else none

/-- The fields of the partner's headers count: it is seen and accepted (R457, R458). -/
def Chip.partnerSpeaks (s : Chip) : Bool := s.sys.pair && s.on .halStat_accepted && s.on .halStat_partnerSeen

/-- The code of a primary mode (R449). -/
def primaryMode (m : Nat) : Bool := m == 1 || m == 2 || m == 3

/-- The partner is primary (R449): the two most recent valid headers from it, or with neither Halyard lane READY its execution in a used
bale. -/
def Chip.partnerPrimary (s : Chip) : Bool :=
  (s.sys.pair && s.on .halStat_accepted && s.halyard.recent.length == 2 && s.halyard.recent.all primaryMode) ||
    (s.halyardDown && s.usedBales.any s.showsPartner)

/-- HAL_STAT shows the partner's fields in force (R480). -/
def Chip.showPartner (s : Chip) (h : HalHeader) : Chip :=
  let s := (s.wrFlag .halStat_partnerReact h.react).wrFlag .halStat_partnerHealthy h.healthy
  (s.wr .halStat_partnerMode h.mode).wrFlag .halStat_partnerTakeover h.takeover

/-- in_step ends (R461, R462, R468). -/
def Chip.leaveStep (s : Chip) : Chip :=
  { s.wr .halStat_inStep 0 with halyard := { s.halyard with stepFrom := none } }

/-- in_step ends with a copy that failed, and the run of good copies with it (R468). -/
def Chip.endInStep (s : Chip) : Chip :=
  let s := s.leaveStep
  { s with halyard := { s.halyard with goodCopies := 0 } }

/-- A standby may take over: without its reference it stays silent in SHADOW (R117, R459). -/
def Chip.mayTakeOver (s : Chip) : Bool := s.mode == .shadow && !s.halyard.probing && s.on .pllStat_locked

/-- The rows of R472 and R473 for the partner's fields in force. `react` takes precedence (R477). -/
def Chip.partnerRules (s : Chip) : Chip :=
  let h := s.halyard.partner
  if !s.partnerSpeaks then s
  else if h.react && s.mode != .safeHold then s.severeReaction.raise originHalyard
  else
    match s.mode with
    | .shadow =>
      if s.mayTakeOver && s.on .halStat_inStep && (!h.healthy || !primaryMode h.mode) && !h.react then
        { s with halyard := { s.halyard with takeover := true, takeNext := true } }
      else s
    | .run =>
      if h.takeover && s.pll.yieldDeadline.isSome then { s with pll := { s.pll with takeoverSeen := true } }
      else if h.takeover || (s.rd .halCfg_rank == 1 && h.mode == 3) then
        { s with halyard := { s.halyard with yieldNext := true } }
      else s
    | _ => s

/-- A Halyard header arrives on lane AX[n] (R145, R453, R454): BLOCK is reported, in far_block by the two most recent valid headers; the
other fields count when two consecutive valid headers of the lane agree in them. -/
def Chip.halyardHeader (s : Chip) (n : Nat) (h : BitVec 32) : Chip :=
  if !(s.lane n).locked then s
  else if !halHeaderValid h then s.count .laneErrs_invalidHeaders n
  else
    let v := readHalHeader h
    let before := (s.halyard.heads.find? (·.1 == n)).map (·.2)
    let agree := match before with
      | some b => ({ b with block := v.block } : HalHeader) == v
      | none => false
    s.blockFollows fun s =>
    let s := { s with halyard := { s.halyard with
      heads := storeInsert (storeDrop s.halyard.heads n) n v, recent := v.mode :: s.halyard.recent.take 1
      seenAt := s.clock.now, silentPeriod := none, coasting := false } }
    let s := (s.wr .halStat_partnerSeen 1).wrFlag .halStat_partnerBlock v.block
    let s := s.wrFlag .laneStat_farBlock ((s.lane n).lastBlock && v.block) n
    let s := s.setLane n { s.lane n with lastBlock := v.block }
    if agree && !s.on .halStat_idRefused then
      ({ s with halyard := { s.halyard with partner := v } }.showPartner v).partnerRules
    else s

/-- No valid header on either lane for 2 µs: the partner is silent from this period on (R474). A standby in step coasts. -/
def Chip.partnerSilence (s : Chip) : Chip :=
  if s.on .halStat_partnerSeen && decide (s.halyard.seenAt + 2000 ≤ s.clock.now) then
    let coast := s.mode == .shadow && s.on .halStat_inStep && s.sys.dualSend
    let s := s.blockFollows fun s => s.wr .halStat_partnerSeen 0
    { s with halyard := { s.halyard with
      heads := [], silentPeriod := some (s.rd .periodIndex_index), coasting := coast, noExecRun := 0, noExecAt := none } }
  else s

/-- The periods since another one, modulo 2^32. -/
def Chip.periodsSince (s : Chip) (j : Nat) : Nat := (s.rd .periodIndex_index + 2 ^ 32 - j) % 2 ^ 32

/-- Take-over is declared at t_S: this period's sheaves go out, and it falls due at the next boundary (R474). -/
def Chip.declareTakeover (s : Chip) : Chip :=
  { s with halyard := { s.halyard with takeover := true, takeNext := true, sendsNow := true, coasting := false } }

/-- The boundaries in a row, this one included, whose bales showed no execution by the partner (R474); each counts once. -/
def Chip.noExecCount (s : Chip) (seen : Bool) : Nat :=
  match s.halyard.noExecAt with
  | some k =>
    if s.periodsSince k = 0 then s.halyard.noExecRun
    else if seen then 0
    else if s.periodsSince k = 1 then s.halyard.noExecRun + 1 else 1
  | none => if seen then 0 else 1

/-- The examination of a standby whose partner is silent, at t_S (R474): a coasting standby looks at the bales of period
j + 3; one that does not send takes over after two boundaries whose bales show no execution by the partner. -/
def Chip.silenceTakeover (s : Chip) : Chip :=
  match s.halyard.silentPeriod with
  | none => s
  | some j =>
    let seen := s.waitingBales.any s.showsPartner
    if s.mayTakeOver = false then s
    else if s.halyard.coasting then
      if s.periodsSince j = 3 then
        if seen then { s with halyard := { s.halyard with coasting := false, stoppedSending := true } }
        else s.declareTakeover
      else s
    else
      let run := s.noExecCount seen
      let s := { s with halyard := { s.halyard with noExecRun := run, noExecAt := some (s.rd .periodIndex_index) } }
      if 2 ≤ run then s.declareTakeover else s

/-- The examination of a member in RUN whose partner is silent, at t_S (R475); it never yields to a partner that it refuses (R458). -/
def Chip.silenceYield (s : Chip) : Chip :=
  match s.halyard.silentPeriod with
  | none => s
  | some j =>
    let bs := s.waitingBales
    if s.mode = .run ∧ s.on .halStat_idRefused = false ∧ 5 ≤ s.periodsSince j ∧ bs.any s.showsPartner = true ∧
        (s.rd .halCfg_rank = 1 ∨ bs.all s.showsPartner = true) then
      { s with halyard := { s.halyard with yieldNext := true, stoppedSending := true } }
    else s

/-- A Halyard lane on which identities are exchanged: it is bound for READY, or READY again (R456, R457). -/
def Chip.exchanges (s : Chip) (n : Nat) : Bool := s.linkState n == .measure || s.linkState n == .ready

/-- The partner's nonce arrives, to be answered with a proof that is signed under leave (R455, R457): `frame` is the payload of its
ID_SOF with the data after it, `crc` the CRC-32 in its ID_EOF. -/
def Chip.nonceReceived (s : Chip) (n : Nat) (frame : List Byte) (crc : BitVec 32) : Chip :=
  if crc32 frame = crc.toNat ∧ byteAt frame 0 = 0xB4 ∧ byteAt frame 1 = 1 ∧ s.exchanges n = true then
    let x := storeGet s.halyard.ids n {}
    { s with halyard := { s.halyard with ids := storePut s.halyard.ids n {} { x with toAnswer := frame.drop 8 } } }.askLeave
      .halyardIdentity
  else s

/-- This member's identity public key as bytes, byte 4n in bits [31:24] of word n. -/
def Chip.ownKey (s : Chip) : List Byte := (List.range 24).flatMap fun n => (leBytes 4 (s.rd .idPubkey_bytes n)).reverse

/-- The partner's nonce that waits on a lane is answered (R457): key and signature leave in an ID frame of kind 2. The signature is a free
value, since the private key is in no register (log entry 1601); a retired security block signs nothing (R551). -/
def Chip.sendProof (s : Chip) (n : Nat) : Chip :=
  let x := storeGet s.halyard.ids n {}
  if x.toAnswer.isEmpty then s
  else
    let d := s.draw
    let s := d.2
    let s := { s with halyard := { s.halyard with ids := storePut s.halyard.ids n {} { x with toAnswer := [] } } }
    if s.on .secStat_retired || !s.exchanges n then s
    else s.sendId n 2 (s.ownKey ++ (List.range 96).map (Config.freeByte d.1))

/-- HAL_PEER_HASH as bytes: byte 4n of the digest in bits [31:24] of word n (R480). -/
def Chip.peerHash (s : Chip) : List Byte :=
  (List.range 12).flatMap fun n => (leBytes 4 (s.rd .halPeerHash_digest n)).reverse

/-- The partner's proof arrives and waits for its check (R455, R457), with the nonce of this member that stands then; `crc` is the CRC-32
in the frame's ID_EOF. -/
def Chip.proofReceived (s : Chip) (n member rank : Nat) (key proof : List Byte) (crc : BitVec 32) : Chip :=
  if crc32 (idSof 2 member rank ++ key ++ proof) = crc.toNat ∧ s.linkState n = .measure then
    let x := storeGet s.halyard.ids n {}
    { s with halyard := { s.halyard with
      ids := storePut s.halyard.ids n {} { x with proof := some ⟨x.nonce, member, rank, key, proof⟩ } } }.askLeave .halyardIdentity
  else s

/-- A proof is good (R457): the digest of its key is HAL_PEER_HASH, its signature verifies over this member's nonce, the sender's member
byte and its rank byte, and the partner differs in member and in rank. -/
def Chip.proofGood (s : Chip) (p : IdProof) : Bool :=
  sha384 p.key == s.peerHash &&
    signatureVerifies p.key (p.nonce ++ leBytes 1 p.member ++ leBytes 1 p.rank) p.sig &&
    p.member != s.rd .halCfg_member && p.rank != s.rd .halCfg_rank

/-- An open nonce of a Halyard lane is void, and a proof that rests on it fails (R593). -/
def Chip.voidNonce (s : Chip) (n : Nat) : Chip :=
  let x := storeGet s.halyard.ids n {}
  { s with halyard := { s.halyard with ids := storePut s.halyard.ids n {} { x with nonce := [] } } }

/-- The Halyard lane whose proof waits to be checked. -/
def Chip.proofLane (s : Chip) : Option Nat := [96, 97].find? fun n => (storeGet s.halyard.ids n {}).proof.isSome

/-- The outcome of a check of the partner's identity on lane `n` (R456 to R458): its lane goes to READY, or the partner is
refused. -/
def Chip.identityJudged (s : Chip) (n : Nat) (ok : Bool) : Chip :=
  if ok then
    let s := s.blockFollows fun s => (s.wr .halStat_accepted 1).wr .halStat_idRefused 0
    let s := { s with halyard := { s.halyard with refusedAt := none } }
    if s.linkState n == .measure && s.on .laneLatency_valid n then s.laneEnterReady n else s
  else
    let again := s.on .halStat_idRefused
    let s := s.blockFollows fun s => (s.wr .halStat_accepted 0).wr .halStat_idRefused 1
    let s := { s with halyard := { s.halyard with refusedAt := some s.clock.now } }
    if again then s else s.raise originPartner

/-- IDENTITY_CHECK_COMPLETE (R457, R551, R593): under leave, this member's proofs are signed and sent, and the check of the proof that
waits completes; a voided nonce or a retired security block refuses the partner. A further proof that waits asks for leave anew. -/
def Chip.identityChecked (s : Chip) : Chip :=
  if s.holdsLeave .halyardIdentity then
    let s := ((s.returnLeave .halyardIdentity).sendProof 96).sendProof 97
    match s.proofLane with
    | none => s
    | some n =>
      let x := storeGet s.halyard.ids n {}
      let ok := (x.proof.any fun p => p.nonce == x.nonce && s.proofGood p) && !x.nonce.isEmpty && !s.on .secStat_retired
      let s := { s with halyard := { s.halyard with ids := storePut s.halyard.ids n {} { x with proof := none } } }
      let s := s.identityJudged n ok
      if s.proofLane.isSome then s.askLeave .halyardIdentity else s
  else s

/-- The exchange is repeated every 10 s while the partner is refused (R456). -/
def Chip.identityRetry (s : Chip) : Chip :=
  match s.halyard.refusedAt with
  | some t =>
    if t + 10000000000 ≤ s.clock.now ∧ s.on .halStat_idRefused = true then
      let s := { s with halyard := { s.halyard with refusedAt := some s.clock.now } }
      s.each [96, 97] fun s n =>
        if s.linkState n = .measure ∧ s.on .laneLatency_valid n = true then s.sendNonce n else s
    else s
  | none => s

/-- The standby takes a mark (R460, R461): o, and the run of marks more than 1 ns away once aligned. `target` is the
arrival plus C in 125 ps units. -/
def Chip.takeMark (s : Chip) (target : Nat) : Chip :=
  let o : Int := s.nextBoundary - target
  let s := (s.wr .halAlign_valid 1).wrInt .halAlign_offset o
  let run := if s.on .halStat_aligned && decide (8 < o.natAbs) then s.halyard.driftRun + 1 else 0
  let s := { s with halyard := { s.halyard with markTarget := some target, driftRun := run } }
  if run = 8 then ((s.wr .halAlign_drift 1).leaveStep).raise originHalyard else s

/-- The period in which a mark left whose boundary has the low 16 bits `index` of its number (R455): the one before that boundary. -/
def Chip.markPeriod (s : Chip) (index : Nat) : Nat :=
  let now := s.rd .periodIndex_index
  (now + 2 ^ 32 - (now + 1 + 65536 - index % 65536) % 65536) % 2 ^ 32

/-- The handover field of a mark (R476): a request is noted by a healthy member in RUN, which will acknowledge it; an
acknowledgement by the requester. -/
def Chip.markHandover (s : Chip) (index field : Nat) : Chip :=
  match field, s.halyard.handover with
  | 1, none =>
    if s.mode = .run ∧ s.isHealthy = true then
      { s with halyard := { s.halyard with handover := some ⟨s.markPeriod index, false, true⟩ } }
    else s
  | 2, some h => if h.own then { s with halyard := { s.halyard with handover := some { h with acknowledged := true } } } else s
  | _, _ => s

/-- A HAL_MARK arrives (R455, R460, R476) from an accepted partner. -/
def Chip.markReceived (s : Chip) (arrival c index field : Nat) : Chip :=
  if s.on .halStat_accepted && !s.on .halStat_idRefused then
    let s := s.markHandover index field
    let s := { s with halyard := { s.halyard with markIndex := index, markTarget := some (arrival + c) } }
    if s.mode = .shadow ∧ s.clock.gridOn = true then s.takeMark (arrival + c) else s
  else s

/-- Alignment (R460): this boundary moves to the instant the mark counted to, whole counts in the grid and the remainder
in φ, and the next boundary carries the index the COPY_SOF implies. The mark and the COPY_SOF are those of one period, and count to this
boundary or to the one before it. -/
def Chip.align (s : Chip) : Chip :=
  match s.halyard.markTarget, s.halyard.copySof with
  | some t, some k =>
    let period := 8 * s.tCtlNs
    let here := 8 * s.boundaryTb + period / 2
    let m := (here - t) / period
    if t ≤ here ∧ m ≤ 1 ∧ (k + 1) % 65536 = s.halyard.markIndex % 65536 then
      let t := t + m * period
      let s := { s with clock := { s.clock with b0 := t / 8, n := 1 } }
      let s := (s.wr .halAlign_phi (t % 8)).wr .periodIndex_index ((k + 1 + m) % 2 ^ 32)
      { s.wr .halStat_aligned 1 with halyard := { s.halyard with markTarget := none, copySof := none, driftRun := 0 } }
    else s
  | _, _ => s

/-- The place of a part of copy `index` among those that have arrived. -/
def copyPlace (part index : Nat) : Nat := 2 * part + index % 2

/-- A share of a part arrives (R465, R466). -/
def Chip.copyReceived (s : Chip) (index part share : Nat) (content : CopyPart) (crcOk : Bool) : Chip :=
  if s.on .halStat_accepted = true ∧ s.on .halStat_idRefused = false then
    let s := { s with halyard := { s.halyard with copySof := some index } }
    if s.mode = .shadow ∧ s.halyard.probing = false ∧ crcOk = true then
      let old := match storeGet s.halyard.parts (copyPlace part index) none with
        | some c => if c.index = index then c.shares else []
        | none => []
      let c : CopyArrived := { index := index, shares := share :: old.filter (· != share), content := content, doneAt := s.clock.now }
      { s with halyard := { s.halyard with parts := storePut s.halyard.parts (copyPlace part index) none (some c) } }
    else s
  else s

/-- The arm state of a copy, one boundary later (R248, R260): ρ with its period count, stepped where this member has made the step of
this t_B already. -/
def Chip.applyArm (s : Chip) (a : Nat) (c : ArmCopy) : Chip :=
  let count := c.rotCount + 1
  let stepped := decide (s.rd .armBal_rotationPeriods a ≤ count) && (s.arm a).rotCount == 0
  let s := (s.wr .armStat_rotPtr (if stepped then (c.rotPtr + 1) % 32 else c.rotPtr) a).wr .armStat_pcPhase c.pcPhase a
  s.setArm a { s.arm a with
    rotCount := if stepped then 0 else count, spreadRun := c.spreadRun
    phaseAt := s.clock.now - (c.phaseAge + (s.tCtlNs - (s.tS - s.tB))) }

/-- Part 1 replaces the cell and arm states (R242, R260, R463). -/
def Chip.applyArms (s : Chip) (cells : List CellCopy) (arms : List ArmCopy) : Chip :=
  let s := s.each cells.zipIdx fun s (c, nn) =>
    if s.on .eeCfg_enabled nn then
      let s := (s.wr .cellStat_state c.state nn).wrFlag .cellStat_bypassPending c.bypassPending nn
      let s := (s.wr .cellStat_lastCause c.lastCause nn).wrFlag .cellStat_releasePending c.releasePending nn
      s.setCell nn { s.cell nn with inserted := c.inserted }
    else s
  s.each arms.zipIdx fun s (c, a) => s.applyArm a c

/-- The carry of a leg, by the leg's number, and its write. -/
def Chip.legCarry (s : Chip) (i : Nat) : Int :=
  if i < 1000 then s.rdInt .eeCarry_carry (6 * (i / 8) + i % 8) else s.rdInt .eeLCarry_carry (i - 1000)
def Chip.setLegCarry (s : Chip) (i : Nat) (k : Int) : Chip :=
  if i < 1000 then s.wrInt .eeCarry_carry k (6 * (i / 8) + i % 8) else s.wrInt .eeLCarry_carry k (i - 1000)

/-- Every leg, and the number of the engine that owns it. -/
def allLegs : List Nat := (List.range 96).flatMap cellLegs ++ localLegs
def legEngine (i : Nat) : Nat := if i < 1000 then i / 8 else 96

/-- Part 2 replaces the edge state (R228, R463): the carrier counts, one boundary later, every leg with its carry, and the set that the
coming reload takes. -/
def Chip.applyEdges (s : Chip) (carrier : List Nat) (legs : List (Nat × Leg × Int)) (set : Option (Store Nat)) : Chip :=
  let s := s.each carrier.zipIdx fun s (n, a) =>
    { s with edges := { s.edges with carrier := storePut s.edges.carrier a 0 ((n + 1) % s.carrierPeriods a) } }
  let s := s.each allLegs fun s i =>
    let c := storeGet legs i ({}, 0)
    if s.leg i = c.1 ∧ s.legCarry i = c.2 then s else (s.setLeg i c.1).setLegCarry i c.2
  let set := if s.edges.pendingSet.isSome then s.edges.pendingSet else set
  let s := s.wrFlag .eeCommit_pending (set.isSome || s.edges.lateSet.isSome)
  { s with edges := { s.edges with paused := [], pendingSet := set } }

/-- The addresses of the words of an engine's state ranges, in order. -/
def Engine.rangeWords (g : Engine) : List Nat :=
  g.image.ranges.flatMap fun (a, n) => (List.range n).map fun i => a + i

/-- One engine of part 3 (R464): each word takes the difference between the copy and what this member released in the
same period; loops' states are replaced. -/
def Chip.applyEngine (s : Chip) (e : Nat) (c : EngineCopy) (own : List Int) : Chip :=
  let g := s.engine e
  let g := (g.rangeWords.zipIdx).foldl (fun g (a, i) =>
    g.setDm a (satSigned 16 (g.dmAt a + (c.words.getD i 0 - own.getD i 0)))) g
  let g := (g.image.loops.filterMap (·.intAddr)).foldl (fun g i => g.setIntegrator i (g.integrator i)) g
  let s := s.setEngine e g
  s.each c.loops.zipIdx fun s (l, ll) =>
    let i := loopIx e ll
    let was := s.loopOpen e ll
    let s := (s.wrFlag .ceLoopStat_closed l.closed i).wrInt .ceLoopOut_out l.held i
    let s := s.wrFlag .ceLoopStat_restart l.restart i
    s.setEngine e ((s.engine e).setLoop ll { (s.engine e).loopState ll with copied := l.restart || was })

/-- The live parameter set of part 3 (R463): values that changed reach their data words and coefficients. -/
def Chip.applyLive (s : Chip) (l : List Nat) : Chip :=
  s.each l.zipIdx fun s (v, i) =>
    if storeGet s.live.inForce i 0 = v then s
    else (s.wr .liveWord_value v i).liveEffect i v fun s _ => s

/-- The greatest |c − o| of a copy's range words (R468). -/
def divergence (copied own : List (Nat × List Int)) : Nat :=
  (copied.flatMap fun (e, ws) =>
    let o := storeGet own e []
    ws.zipIdx.map fun (w, i) => (w - o.getD i 0).natAbs).foldl max 0

/-- Part 3 (R463, R464). -/
def Chip.applyEngines (s : Chip) (index : Nat) (es : List (Nat × EngineCopy)) (ramps : List (Nat × Bool)) (reef : Nat)
    (live : List Nat) : Chip :=
  let own := storeGet s.halyard.ownReleased (index % 8) []
  let far := divergence (es.map fun (e, c) => (e, c.words)) own
  let s := { s with halyard := { s.halyard with divergent := decide (8 * s.rd .halCfg_divLimit < far) } }
  let s := s.each es fun s (e, c) => s.applyEngine e c (storeGet own e [])
  let s := s.each ramps.zipIdx fun s ((r, st), a) =>
    (s.wr .cePower_ramp r a).wrFlag .cePower_stopping st a
  { s with halyard := { s.halyard with copyReef := reef } }.applyLive live

/-- A part of a copy is applied at its instant if every share of it arrived, verified, 0.1 µs before (R463, R466);
otherwise copy_fails rises and in_step ends at once (R468). -/
def Chip.applyPart (s : Chip) (part age : Nat) : Chip :=
  if s.mode = .shadow ∧ s.halyard.probing = false ∧ s.on .halStat_aligned = true ∧ s.on .halStat_accepted = true then
    let failed := (s.count .halCount_copyFails).endInStep
    match storeGet s.halyard.parts (copyPlace part (s.rd .periodIndex_index + 2 ^ 32 - age)) none with
    | some c =>
      let whole := c.shares.contains 2 || (c.shares.contains 0 && c.shares.contains 1)
      if s.periodsSince c.index = age ∧ whole = true ∧ c.doneAt + 100 ≤ s.clock.now then
        let s := { s with halyard := { s.halyard with appliedParts := part :: s.halyard.appliedParts } }
        match part, c.content with
        | 1, .arms cells arms => s.applyArms cells arms
        | 2, .edges n legs set => s.applyEdges n legs set
        | 3, .engines es ramps reef live => s.applyEngines c.index es ramps reef live
        | _, _ => s
      else failed
    | none => failed
  else s

/-- At a boundary a standby judges the copy just applied (R462, R468): while 64 good copies in a row stand, and no drift, it is in
step; a copy that failed or diverged ends it and the run. -/
def Chip.judgeStep (s : Chip) : Chip :=
  if s.mode = .shadow then
    let h := s.halyard
    let all := h.appliedParts.contains 1 && h.appliedParts.contains 2 && h.appliedParts.contains 3
    let wanted := if all then h.copiesWanted - 1 else h.copiesWanted
    let s := { s with halyard := { h with appliedParts := [], divergent := false, copiesWanted := wanted } }
    if all && !h.divergent then
      let s := { s with halyard := { s.halyard with goodCopies := min 64 (h.goodCopies + 1) } }
      if s.halyard.goodCopies = 64 ∧ s.halyard.copiesWanted = 0 ∧ s.on .halAlign_drift = false ∧ s.on .halStat_inStep = false then
        { s.wr .halStat_inStep 1 with halyard := { s.halyard with stoppedSending := false } }
      else s
    else s.endInStep
  else s.wr .halStat_inStep 0

/-- The time for which a standby has been healthy and in step (R476). -/
def Chip.watchStep (s : Chip) : Chip :=
  let good := s.mode == .shadow && s.on .halStat_inStep && s.isHealthy
  let from_ := if good then (match s.halyard.stepFrom with | some t => some t | none => some s.clock.now) else none
  let left := match from_ with
    | some t => if s.rd .halCfg_rank = 0 then s.rd .halCfg_holdTime - (s.clock.now - t) / 1000000000 else 0
    | none => 0
  { s.wr .halStat_holdLeft left with halyard := { s.halyard with stepFrom := from_ } }

/-- A rank-0 standby may ask for return (R476). -/
def Chip.mayAskReturn (s : Chip) : Bool :=
  s.rd .halCfg_rank == 0 && s.mode == .shadow && s.on .halStat_inStep && s.isHealthy && s.halyard.handover.isNone &&
    (match s.halyard.stepFrom with
     | some t => decide (t + 1000000000 * s.rd .halCfg_holdTime ≤ s.clock.now)
     | none => false)

/-- The request goes out in the next mark (R476): this period's, or after t_S the next one's. -/
def Chip.askReturn (s : Chip) : Chip :=
  { s.wr .halStat_returnPending 1 with halyard := { s.halyard with
    handover := some ⟨(s.rd .periodIndex_index + flag (decide (5 ≤ s.clock.step))) % 2 ^ 32, true, false⟩, askAgainAt := 0 } }

/-- HANDOVER_REQUEST (R476). -/
def Chip.handoverRequest (s : Chip) : Chip :=
  if s.mayAskReturn && s.halyard.askAgainAt == 0 then s.askReturn else s

/-- HANDOVER_RETRY: a failed handback is asked again after 1 s (R476). -/
def Chip.handoverRetry (s : Chip) : Chip :=
  if s.mayAskReturn && s.halyard.askAgainAt != 0 && decide (s.halyard.askAgainAt ≤ s.clock.now) then s.askReturn else s

/-- The member enters RUN from SHADOW (R471); a stop that the copy brought goes on (R300). -/
def Chip.takeOver (s : Chip) : Chip :=
  let stopping := (List.range 6).map fun a => s.on .cePower_stopping a
  let s := (s.setMode .run).count .halCount_takeovers
  let s := s.each stopping.zipIdx fun s (x, a) => s.wrFlag .cePower_stopping x a
  let s := { s with modes := { s.modes with stopping := stopping.any id } }
  { s.wr .halStat_returnPending 0 with halyard := { s.halyard with
    takeNext := false, sendsNow := false, coasting := false, stoppedSending := false, handover := none
    markTarget := none, copySof := none } }

/-- The member enters SHADOW (R117, R471). -/
def Chip.yield (s : Chip) : Chip :=
  let s := ((s.setMode .shadow).count .halCount_yields).wr .halStat_aligned 0
  { s with halyard := { s.halyard with
    yieldNext := false, takeover := false, stoppedSending := false, handover := none, goodCopies := 0, parts := [] } }

/-- The boundary of R117's deadline: the device yields to SHADOW if the partner's take-over report has arrived, and
otherwise enters SAFE HOLD. -/
def Chip.yieldDeadline (s : Chip) : Chip :=
  match s.pll.yieldDeadline with
  | some t =>
    if t ≤ s.clock.now then
      let s := { s with pll := { s.pll with yieldDeadline := none } }
      if s.mode == .safeHold || s.mode == .shadow then s
      else if s.pll.takeoverSeen || s.on .halStat_partnerTakeover then s.yield
      else s.enterSafeHold .clockLoss
    else s
  | none => s

/-- What falls due at a boundary (R471, R472, R477). -/
def Chip.roleBoundary (s : Chip) : Chip :=
  if s.halyard.takeNext && s.mayTakeOver then s.takeOver
  else if s.halyard.yieldNext && s.mode == .run then s.yield
  else { s with halyard := { s.halyard with takeNext := false, yieldNext := false, sendsNow := false } }

/-- The probing standby's examination at t_S (R450). -/
def Chip.probe (s : Chip) : Chip :=
  if s.mode = .shadow ∧ s.halyard.probing = true then
    let bs := s.usedBales
    if bs.any s.showsPartner then { s with halyard := { s.halyard with probing := false, probeRun := 0 } }
    else if !s.halyardDown && s.on .halStat_accepted && s.partnerPrimary then
      { s with halyard := { s.halyard with probing := false, probeRun := 0 } }
    else
      let run := if cellLanes.any s.laneReady then s.halyard.probeRun + 1 else 0
      let s := { s with halyard := { s.halyard with probeRun := min run 8 } }
      let r := s.rd .modeReq_pending
      let asked := r == 1 || r == 2
      if s.rd .halCfg_rank == 0 && decide (2 ≤ run) && (s.sys.startMode != 0 || asked) then
        { s with halyard := { s.halyard with probeLeave := some (if s.sys.startMode ≠ 0 then s.sys.startMode else r) } }
      else if s.rd .halCfg_rank == 1 && decide (8 ≤ run) && asked then
        { s with halyard := { s.halyard with probeLeave := some r } }
      else s
  else s

/-- A probing standby leaves SHADOW at the boundary (R450). -/
def Chip.probeBoundary (s : Chip) : Chip :=
  match s.halyard.probeLeave with
  | some m =>
    let s := { s with halyard := { s.halyard with probeLeave := none } }
    if s.mode = .shadow ∧ s.halyard.probing = true then
      let s := { s with halyard := { s.halyard with probing := false, probeRun := 0 } }
      let s := if s.rd .modeReq_pending = m then s.dropPending else s
      s.enterMode (if m = 1 then .commission else .charge)
    else s
  | none => s

/-- The DEGRADE action of origin 853 (R462): a standby is not in step until 64 further copies are applied. -/
def Chip.degradeHalyard (s : Chip) : Chip :=
  if s.isPrimary then s
  else
    let s := s.leaveStep
    { s with halyard := { s.halyard with copiesWanted := 64 } }

/-- The contents of the copy of this period (R228, R260, R300, R463). -/
def Chip.copyContents (s : Chip) : List CopyPart :=
  let cells := (List.range 96).map fun nn =>
    (⟨s.rd .cellStat_state nn, s.on .cellStat_bypassPending nn, s.rd .cellStat_lastCause nn, (s.cell nn).inserted,
      s.on .cellStat_releasePending nn⟩ : CellCopy)
  let arms := (List.range 6).map fun a =>
    (⟨s.rd .armStat_rotPtr a, (s.arm a).rotCount, s.rd .armStat_pcPhase a, s.clock.now - (s.arm a).phaseAt,
      (s.arm a).spreadRun⟩ : ArmCopy)
  let legs := allLegs.filterMap fun i =>
    let c := if s.edges.paused.contains (legEngine i) then (({}, 0) : Leg × Int) else (s.leg i, s.legCarry i)
    if c = ({}, 0) then none else some (i, c)
  let engines := s.engines.units.filterMap fun (e, g) =>
    if s.on .ceCfg_active e then
      some (e, (⟨g.released, g.image.loops.zipIdx.map fun (_, ll) =>
        (⟨s.on .ceLoopStat_closed (loopIx e ll), s.on .ceLoopStat_restart (loopIx e ll),
          s.rdInt .ceLoopOut_out (loopIx e ll)⟩ : LoopCopy)⟩ : EngineCopy))
    else none
  let ramps := (List.range 6).map fun a => (s.rd .cePower_ramp a, s.on .cePower_stopping a)
  [.arms cells arms,
   .edges ((List.range 6).map fun a => storeGet s.edges.carrier a 0) legs s.edges.pendingSet,
   .engines engines ramps s.reefInForce ((List.range 256).map fun i => storeGet s.live.inForce i 0)]

/-- The Halyard lanes that are READY. -/
def Chip.halyardLanes (s : Chip) : List Nat := [96, 97].filter s.laneUsable

/-- The shares in which a part of `n` blocks goes out (R465): the lane, the share, its first block and its number of blocks; none on one
lane without single_ok. -/
def Chip.copyShares (s : Chip) (n : Nat) : List (Nat × Nat × Nat × Nat) :=
  match s.halyardLanes with
  | [l] => if s.on .halCopyB_singleOk then [(l, 2, 0, n)] else []
  | [a, b] => [(a, 0, 0, (n + 1) / 2), (b, 1, (n + 1) / 2, n - (n + 1) / 2)]
  | _ => []

/-- The frames of this period's copy in send order, lane by lane in the order of the parts (R463, R465). -/
def Chip.copyFrames (s : Chip) : List CopyFrame :=
  let counts := [s.rd .halCopyA_p1, s.rd .halCopyA_p2, s.rd .halCopyB_p3]
  (s.copyContents.zip counts).zipIdx.flatMap fun ((c, n), p) =>
    (s.copyShares n).map fun (l, share, first, blocks) =>
      (⟨l, s.rd .periodIndex_index, p + 1, share, first, blocks, c⟩ : CopyFrame)

/-- The payload of a COPY_SOF (R455). -/
def CopyFrame.sof (f : CopyFrame) : List Byte := [0x99] ++ leBytes 4 f.index ++ leBytes 1 f.part ++ leBytes 1 f.share

/-- A share of a part goes out after what the lane was given (R465). The spec does not lay the contents out in bytes: the data blocks are
free values, and `copySent` holds what they say (log entry 1605). -/
def Chip.sendShare (s : Chip) (f : CopyFrame) : Chip :=
  let d := s.draw
  let s := d.2
  s.addBlocks f.lane (s.halFrame f.lane f.sof ((List.range (8 * f.blocks)).map (Config.freeByte d.1)) 0xAA)

/-- At t_S the primary sends its copy on the READY Halyard lanes (R460, R465). A refused partner gets none (R458). -/
def Chip.sendCopy (s : Chip) : Chip :=
  let fs := if s.sys.pair && s.isPrimary && s.on .halStat_accepted then s.copyFrames else []
  { s with halyard := { s.halyard with copySent := fs } }.each fs fun s f => s.sendShare f

/-- The handover field of this period's marks (R476): the request in period j, the acknowledgement in period j + 1. -/
def Chip.markField (s : Chip) : Nat :=
  match s.halyard.handover with
  | some h =>
    if h.own then (if h.period = s.rd .periodIndex_index then 1 else 0)
    else if s.periodsSince h.period = 1 then 2 else 0
  | none => 0

/-- The instant at which the first block of the copy window leaves, in picoseconds of the timebase: up to 3 ns after t_S and when the block
in progress, of at most 97 line bits, has ended (R123, R453; log entry 511). -/
def Chip.markLeaves (s : Chip) (draw : Nat) : Nat :=
  1000 * (s.boundaryTb + s.tS) + (Config.freeWord draw).toNat % (3000 + 97 * 200)

/-- The HAL_MARK of lane `n` (R455, R460): C is the next boundary minus the departure of its h0 minus D. -/
def Chip.halMark (s : Chip) (n draw : Nat) : HalMark :=
  { countdown := unsigned 24 ((s.nextBoundary : Int) - roundHalfUp (s.markLeaves draw) 125 - s.rd .laneLatency_latency n)
    index := (s.rd .periodIndex_index + 1) % 65536
    handover := s.markField }

/-- The payload of a HAL_MARK (R455). -/
def HalMark.bytes (m : HalMark) : List Byte :=
  [0x96] ++ leBytes 3 m.countdown ++ leBytes 2 m.index ++ leBytes 1 m.handover

/-- One lane's mark. -/
def Chip.sendMark (s : Chip) (n : Nat) : Chip :=
  let d := s.draw
  let m := s.halMark n d.1
  let s := d.2
  let s := { s with halyard := { s.halyard with marks := storePut s.halyard.marks n none (some m) } }
  s.putBlocks n [s.controlOf n m.bytes]

/-- At t_S the primary begins the copy window with a HAL_MARK on each READY Halyard lane (R460); a standby sends the mark that carries its
request for return (R476). -/
def Chip.sendMarks (s : Chip) : Chip :=
  let s := { s with halyard := { s.halyard with marks := [] } }
  if s.sys.pair && s.on .halStat_accepted && (s.isPrimary || s.markField == 1) then
    s.each s.halyardLanes fun s n => s.sendMark n
  else s

/-- The values that this member released in a period are kept for R464. -/
def Chip.keepReleased (s : Chip) : Chip :=
  let l := s.engines.units.filterMap fun (e, g) => if s.on .ceCfg_active e then some (e, g.released) else none
  { s with halyard := { s.halyard with ownReleased := storePut s.halyard.ownReleased (s.rd .periodIndex_index % 8) [] l } }

/-- HAL_EXEC over the bales of the snapshot (R480). -/
def Chip.countExec (s : Chip) : Chip :=
  let bs := s.usedBales
  (s.wr .halExec_own (bs.filter s.showsOwn).length).wr .halExec_partner (bs.filter s.showsPartner).length

/-- This member sends sheaves in this period (R41, R42, R51, R115, R450, R469, R470, R474, R475); while its cell lanes
are held it sends none (R447). -/
def Chip.sendsSheaves (s : Chip) : Bool :=
  s.on .pllStat_locked && s.applied && !s.on .modeStat_quiescent && !s.halyard.stoppedSending && !s.halyard.cellsHeld &&
    (match s.mode with
     | .configure => true
     | .commission | .charge | .run => true
     | .shadow => !s.halyard.probing && (s.halyard.sendsNow || s.sys.dualSend && (s.on .halStat_inStep || s.halyard.coasting))
     | .safeHold => s.modeSendsBlock)

/-- A standby that sends no sheaves aligns (R460). -/
def Chip.alignSilent (s : Chip) : Chip :=
  if s.mode == .shadow && !s.halyard.probing && !s.sendsSheaves then s.align else s

/-- The system snapshot words (R281). -/
def Chip.systemWords (s : Chip) : Chip :=
  let s := s.sramPutHalf 0x10470000 (s.rd .modeStat_mode)
  let s := s.sramPutHalf 0x10470002 s.reefInForce
  s.sramPutHalf 0x10470004 (s.rd .periodIndex_index % 65536)

/-- After a change of mode at a boundary the reef member, the ramp and the system words of its snapshot follow the new mode (R29, R281,
R294). -/
def Chip.snapshotAnew (s : Chip) : Chip :=
  (s.each ((List.range 6).filter fun a => s.on .cePower_designated a) fun s a =>
    (s.wr .cePower_reefLevel s.reefInForce a).rampUpdate a).systemWords.judgeEdges

/-- HANDOVER_ACT: the boundary of j + 3 (R476); its snapshot is that of the new mode (R281, R294). -/
def Chip.handoverAct (s : Chip) : Chip :=
  match s.halyard.handover with
  | none => s
  | some h =>
    if s.periodsSince h.period = 3 then
      let s := { s.wr .halStat_returnPending 0 with halyard := { s.halyard with handover := none } }
      if h.own then
        if h.acknowledged = true ∧ s.halyard.partner.healthy = true ∧ s.partnerSpeaks = true ∧
            s.mayTakeOver = true then s.takeOver.snapshotAnew
        else { s with halyard := { s.halyard with askAgainAt := s.clock.now + 1000000000 } }
      else if s.mode = .run ∧ s.halyard.partner.healthy = true ∧ s.halyard.partner.mode = 4 then
        s.yield.alignSilent.snapshotAnew
      else s
    else s

end Sys2Proof.Machine
end

