-- ==== Sys2Proof/Machine/Power.lean ====
section
/-! DEFINITION. The local power stage: gate drivers, LP pins, trip inputs and the local output stage (R224, R225, R380 to
R400). Times are in nanoseconds; stamps count in 125 ps units after E. -/

namespace Sys2Proof.Machine

/-- One stamp of EE_L is placed (R223, R394): its channel takes its level. -/
def Chip.placeStamp (s : Chip) (st : Stamp) : Chip :=
  let rest := s.power.channelOn.filter (· != st.channel)
  { s with power := { s.power with channelOn := if st.level then st.channel :: rest else rest } }

/-- The instant at which a stamp acts, in 125 ps units of the timebase count (R125): φ of the pair's alignment is added (R460). -/
def Chip.stampAt (s : Chip) (st : Stamp) : Nat := 8 * s.power.e + s.rd .halAlign_phi + st.time

/-- The stamps due by now are placed, in order (R223). -/
def Chip.placeDue (s : Chip) : Chip :=
  let due := s.power.stampsLeft.filter fun st => decide (s.stampAt st ≤ 8 * s.clock.tb)
  let later := s.power.stampsLeft.filter fun st => !decide (s.stampAt st ≤ 8 * s.clock.tb)
  let s := { s with power := { s.power with stampsLeft := later } }
  s.each due fun s st => s.placeStamp st

/-- LOCAL_EDGE: the edges due are placed, with what their changes of level restart. -/
def Chip.localEdge (s : Chip) : Chip := s.withOutputs Chip.placeDue

/-- A comparator acts as a second source of trip input `t` (R350): its outside state, unresolved included. -/
def Chip.comparatorTrips (s : Chip) (t : Nat) : Bool :=
  (List.range 24).any fun n =>
    s.on .wcCfg_enabled n && s.rd .wcCfg_tripSel n == t + 1 && (bitAt s.converter.outside n || bitAt s.converter.unresolved n)

/-- The trip input is asserted: its pin, past filter and mask, or a comparator (R350, R396, R400). -/
def Chip.tripShown (s : Chip) (t : Nat) : Bool := (s.tripIn t).counts || s.comparatorTrips t

/-- The trip input acts: it is asserted by its pin and in use, or by a comparator. -/
def Chip.tripAsserted (s : Chip) (t : Nat) : Bool := (s.on .tripCfg_enabled t && (s.tripIn t).counts) || s.comparatorTrips t

/-- A trip input that becomes asserted triggers a record where DR_TRIG_TRIP names it (R584). -/
def Chip.tripRecord (s : Chip) (t : Nat) : Chip := if s.rdBit .drTrigTrip_mask t then s.trigger (.trip t) else s

/-- TRIP_STAT follows the input, and an input that acts and does not cut yet cuts the interval, which raises one event
(R224, R225). -/
def Chip.tripFollow (s : Chip) (t : Nat) : Chip :=
  let a := s.tripAsserted t
  let s := if a && !s.rdBit .tripStat_asserted t then s.tripRecord t else s
  let s := s.wrBit .tripStat_asserted t (s.tripShown t)
  if a && !s.rdBit .eeTripStat_cutting t then
    (s.withOutputs fun s => s.wrBit .eeTripStat_cutting t true).raise (originTripInput t)
  else s

/-- The filter of a trip input in nanoseconds (R396). -/
def Chip.tripFilter (s : Chip) (t : Nat) : Nat := [0, 20, 50, 100].getD (s.rd .tripCfg_filter t) 0

/-- A pin that has stood at `level` for `ns` has passed the filter, and this is the level that polarity names (R396). -/
def Chip.tripLevel (s : Chip) (t : Nat) (level : Bool) (ns : Nat) : Option Bool :=
  if s.tripFilter t ≤ ns then some (level == s.on .tripCfg_polarity t) else none

/-- TRIP_ASSERTED: the pin of a trip input is asserted, after its filter (R396). -/
def Chip.tripPin (s : Chip) (t : Nat) (level : Bool) (ns : Nat) : Chip :=
  if s.tripLevel t level ns = some true then
    let r := s.tripIn t
    let masked := !s.on .tripCfg_unblanked t && decide (s.clock.now < r.maskUntil)
    (s.setTripIn t { r with pin := true, counts := r.counts || !masked }).tripFollow t
  else s

/-- The mask of a trip input ends: a pin that still stands asserted is asserted at that instant (R396). -/
def Chip.tripMaskEnd (s : Chip) (t : Nat) : Chip :=
  let r := s.tripIn t
  if r.pin ∧ r.maskUntil ≤ s.clock.now then (s.setTripIn t { r with counts := true }).tripFollow t else s

/-- TRIP_DEASSERTED: the pin of a trip input has left its asserted level, after its filter (R396). -/
def Chip.tripRelease (s : Chip) (t : Nat) (level : Bool) (ns : Nat) : Chip :=
  if s.tripLevel t level ns = some false then
    let r := s.tripIn t
    let s := if r.pin && !r.counts then s.wrBit .tripStat_masked t true else s
    (s.setTripIn t { r with pin := false, counts := false }).tripFollow t
  else s

/-- An image that changes a polarity changes what the pin's standing level asserts (R396, R400). `old` is the chip before it. -/
def Chip.applyTrip (s old : Chip) (t : Nat) : Chip :=
  let r := s.tripIn t
  let turned := s.on .tripCfg_polarity t != old.on .tripCfg_polarity t
  let masked := !s.on .tripCfg_unblanked t && decide (s.clock.now < r.maskUntil)
  let s := s.onlyIf turned fun s => s.setTripIn t { r with pin := !r.pin, counts := !r.pin && !masked }
  s.wrBit .tripStat_asserted t (s.tripShown t)

/-- The pins of the trip inputs keep their levels over a cold reset (R400). `old` is the chip before it. -/
def Chip.keepTrips (s old : Chip) : Chip :=
  s.each (List.range 16) fun s t =>
    let p := ((old.tripIn t).pin == old.on .tripCfg_polarity t) == s.on .tripCfg_polarity t
    (s.setTripIn t { pin := p, counts := p }).wrBit .tripStat_asserted t p

/-- The outputs after an image is applied: masks that changes of level restart, and trip inputs of another polarity (R396). -/
def Chip.applyOutputs (s old : Chip) : Chip :=
  (s.restartMasks old).each (List.range 16) fun s t => s.applyTrip old t

/-- At E (R224, R225): a trip input still asserted cuts the interval from its start, with one event; the other cuts end. -/
def Chip.intervalTrip (s : Chip) (t : Nat) : Chip :=
  if s.tripAsserted t then (s.wrBit .eeTripStat_cutting t true).raise (originTripInput t)
  else s.wrBit .eeTripStat_cutting t false

/-- At E a gate driver channel (R384, R387, R392): late stamps of this interval hold it off, and the waits for E end. -/
def Chip.intervalDriver (s : Chip) (n : Nat) : Chip :=
  let g := s.driver n
  let follow := s.rd .gdCfg_src n == 1
  s.setDriver n { g with
    stampsLate := g.nextLate, nextLate := false, untilNextE := false,
    interlockCut := g.interlockCut && !follow }

/-- LEAD in nanoseconds. -/
def Chip.leadNs (s : Chip) : Nat := 500 * s.rd .periodCfg_lead

/-- The newest E that the grid has reached, as a timebase count (R12, R125): LEAD after one of the last two boundaries. -/
def Chip.reachedE (s : Chip) : Nat :=
  if s.boundaryTb + s.leadNs ≤ s.clock.tb then s.boundaryTb + s.leadNs else s.boundaryTb + s.leadNs - s.tCtlNs

/-- An E has come whose interval has not begun, while the grid runs. -/
def Chip.localIntervalDue (s : Chip) : Bool :=
  s.clock.gridOn && decide (1 ≤ s.clock.n) &&
    (decide (2 ≤ s.clock.n) || decide (s.clock.b0 + s.leadNs ≤ s.clock.tb) ||
      s.power.queued.any fun q => decide (q.1 < s.reachedE + s.tCtlNs / 2)) &&
    (!s.power.begun || decide (s.power.e + s.tCtlNs / 2 ≤ s.reachedE))

/-- INTERVAL_START: an interval of EE_L begins at E, with the stamps that were computed for it (R207). -/
def Chip.intervalStart (s : Chip) : Chip :=
  if s.localIntervalDue then
    s.withOutputs fun s =>
      let e := s.reachedE
      let due := s.power.queued.filter fun q => decide (q.1 < e + s.tCtlNs / 2)
      let st := ((due.filter fun q => decide (e ≤ q.1 + s.tCtlNs / 2)).map (·.2)).getLastD []
      let s := { s with power := { s.power with
        e := e, begun := true, stamps := st, stampsLeft := st, queued := s.power.queued.drop due.length } }
      let s := s.each (List.range 16) fun s t => s.intervalTrip t
      let s := s.each (List.range 8) fun s n => s.intervalDriver n
      s.placeDue
  else s

/-- The stamps that EE_L computed at t_E belong to the E after the next boundary (R207). -/
def Chip.queueInterval (s : Chip) : Chip :=
  let q := s.power.queued ++ [(s.clock.b0 + s.clock.n * s.tCtlNs + s.leadNs, s.stampsOf 96)]
  { s with power := { s.power with queued := q.drop (q.length - 3) } }

/-- A FOLLOW channel's stamps have not arrived 1.0 µs before E (R384). -/
def Chip.stampsLate (s : Chip) (n : Nat) : Chip :=
  if s.on .gdCfg_enabled n && s.rd .gdCfg_src n == 1 then
    ((s.setDriver n { s.driver n with nextLate := true }).count .gdCount_lateStamps).raiseRigging originIdbLate
  else s

/-- A command of unit 0x0009 without effect (R385). -/
def Chip.gdIgnored (s : Chip) : Chip := s.count .gdCount_cmdIgnored

/-- Static on (R385). -/
def Chip.gdStaticOn (s : Chip) (n : Nat) : Chip :=
  if n < 8 ∧ s.rd .gdCfg_src n = 2 ∧ s.mode.energised = true then
    s.withOutputs fun s => s.wr .gdStat_staticOn 1 n
  else s.gdIgnored

/-- Static off (R385). -/
def Chip.gdStaticOff (s : Chip) (n : Nat) : Chip :=
  if n < 8 ∧ s.rd .gdCfg_src n = 2 then s.withOutputs fun s => s.wr .gdStat_staticOn 0 n else s.gdIgnored

/-- The thresholds of a channel in millivolts (R389); a negative level is above neither. -/
def Chip.gdiLow (s : Chip) (n : Nat) : Int := 10 * (s.rd .gdDidt_loThr n : Int)
def Chip.gdiHigh (s : Chip) (n : Nat) : Int := 10 * (s.rd .gdDidt_hiThr n : Int)

/-- Re-arm (R385, R390): `mv` is the level of GDI at the snapshot, which must be below lo_thr. -/
def Chip.gdRearm (s : Chip) (n : Nat) (mv : Int) : Chip :=
  if n < 8 ∧ s.on .gdStat_shortLatched n = true ∧ mv < s.gdiLow n then
    s.withOutputs fun s => (s.setDriver n { s.driver n with softOff := none }).wr .gdStat_shortLatched 0 n
  else s.gdIgnored

/-- The falling threshold of a gate supply in millivolts, a magnitude (R387). -/
def Chip.uvloFalling (s : Chip) (n : Nat) (neg : Bool) : Nat :=
  if neg then 2000 + 500 * s.rd .gdCfg_negUvlo n else 12000 + 1000 * s.rd .gdCfg_drvUvlo n

/-- A gate supply falls through its threshold (R386, R387, R388): `neg` names VNEG. One event per entry of an enabled
channel, none in CONFIGURE. -/
def Chip.uvloBelow (s : Chip) (n : Nat) (neg : Bool) : Chip :=
  let entry := !s.on .gdStat_uvloPos n && !s.on .gdStat_uvloNeg n
  let s := if neg then s.wr .gdStat_uvloNeg 1 n else s.wr .gdStat_uvloPos 1 n
  if entry then
    let s := (s.count .gdStat_uvloCount n).wr .gdStat_staticOn 0 n
    if s.on .gdCfg_enabled n && !s.rdBit .sltRetMisc_gdMon n && s.mode != .configure then s.raiseRigging (originUvlo n) else s
  else s

/-- GD_UVLO_ENTRY: the supply's magnitude `mv` stands below its falling threshold (R387). -/
def Chip.uvloEntry (s : Chip) (n : Nat) (neg : Bool) (mv : Nat) : Chip :=
  if mv < s.uvloFalling n neg then s.uvloBelow n neg else s

/-- GD_UVLO_EXIT: both supplies have stood above their rising thresholds for 100 µs (R387); `drv` and `neg` are their least
magnitudes over the last `ns`. A FOLLOW channel resumes at the next E. -/
def Chip.uvloExit (s : Chip) (n drv neg ns : Nat) : Chip :=
  if s.uvloFalling n false + 800 < drv ∧ s.uvloFalling n true + 300 < neg ∧ 100000 ≤ ns then
    if s.on .gdStat_uvloPos n || s.on .gdStat_uvloNeg n then
      s.withOutputs fun s =>
        ((s.setDriver n { s.driver n with untilNextE := s.rd .gdCfg_src n == 1 }).wr .gdStat_uvloPos 0 n).wr .gdStat_uvloNeg 0 n
    else s
  else s

/-- A short is detected (R386, R390): the latch, the soft-off, the count and the event. -/
def Chip.shortDetected (s : Chip) (n : Nat) : Chip :=
  let soft := s.rd .gdCfg_softOff n
  let g := s.driver n
  let s := s.setDriver n { g with softOff := if soft = 0 then none else some (s.clock.now + 200 * soft) }
  let s := (s.wr .gdStat_shortLatched 1 n).wr .gdStat_staticOn 0 n
  (s.count .gdStat_shortCount n).raiseRigging (originShort n)

/-- A deliberate reset clears every short latch (R390). -/
def Chip.clearShorts (s : Chip) : Chip :=
  s.each (List.range 8) fun s n => (s.setDriver n { s.driver n with softOff := none }).wr .gdStat_shortLatched 0 n

/-- The lower threshold of a channel is masked (R389). -/
def Chip.gdiMasked (s : Chip) (n : Nat) : Bool := decide (s.clock.now < (s.driver n).blankUntil)

/-- GDI[n] is compared (R389, R393): while the output is on, and at the moment of a disable that turns it off. -/
def Chip.gdCompared (s : Chip) (n : Nat) : Bool := s.gdOn n || (s.driver n).disabledAt == some s.clock.now

/-- GD_SHORT_DETECT: GDI at `mv` stands above a threshold (R389): above hi_thr it is a short; above lo_thr only once its mask
has ended. -/
def Chip.gdiCrossing (s : Chip) (n : Nat) (mv : Int) : Chip :=
  if s.gdCompared n ∧ (s.gdiHigh n < mv ∨ (s.gdiLow n < mv ∧ s.gdiMasked n = false)) then s.shortDetected n else s

/-- The lower threshold's mask ends (R389) with GDI at `mv`. -/
def Chip.blankEnd (s : Chip) (n : Nat) (mv : Int) : Chip :=
  if s.gdCompared n ∧ s.gdiMasked n = false ∧ s.gdiLow n < mv then s.shortDetected n else s

/-- The soft-off of a shorted channel ends and its gate is pulled to VNEG (R390). -/
def Chip.softOffEnd (s : Chip) (n : Nat) : Chip :=
  match (s.driver n).softOff with
  | some t => if t ≤ s.clock.now then s.setDriver n { s.driver n with softOff := none } else s
  | none => s

/-- The interlock of a pair (R392): both channels go off, and one event is raised. -/
def Chip.gdInterlock (s : Chip) (n : Nat) : Chip :=
  match s.gdPair n with
  | some p =>
    if s.pairConflict p ∧ (s.driver p).interlockCut = false then
      let s := s.each [p, p + 1] fun s k =>
        let s := (s.setDriver k { s.driver k with interlockCut := true }).wr .gdStat_interlock 1 k
        if s.rd .gdCfg_src k = 2 then s.wr .gdStat_staticOn 0 k else s
      s.raiseRigging originGdInterlock
    else s
  | none => s

/-- At a snapshot the interlock cut of a STATIC pair ends (R392). -/
def Chip.driversSnapshot (s : Chip) : Chip :=
  s.each (List.range 8) fun s n =>
    if (s.driver n).interlockCut && s.rd .gdCfg_src n == 2 then s.setDriver n { s.driver n with interlockCut := false } else s

end Sys2Proof.Machine
end

