-- ==== Sys2Proof/Machine/Converter.lean ====
section
/-! DEFINITION. The local converter and the window comparators (R326 to R354). -/

namespace Sys2Proof.Machine

/-- Entry `n`, sequence `q` and slice `k` beside their registers. -/
def Chip.adcEntry (s : Chip) (n : Nat) : AdcEntryState := storeGet s.converter.entries n {}
def Chip.setAdcEntry (s : Chip) (n : Nat) (r : AdcEntryState) : Chip :=
  { s with converter := { s.converter with entries := storePut s.converter.entries n {} r } }
def Chip.sequence (s : Chip) (q : Nat) : SequenceState := storeGet s.converter.sequences q {}
def Chip.setSequence (s : Chip) (q : Nat) (r : SequenceState) : Chip :=
  { s with converter := { s.converter with sequences := storePut s.converter.sequences q {} r } }
def Chip.slice (s : Chip) (k : Nat) : SliceState := storeGet s.converter.slices k {}
def Chip.setSlice (s : Chip) (k : Nat) (r : SliceState) : Chip :=
  { s with converter := { s.converter with slices := storePut s.converter.slices k {} r } }

/-- Half the window of entry `n` in nanoseconds (R334): W = N × D × 50 ns. -/
def Chip.halfWindow (s : Chip) (n : Nat) : Nat := s.rd .adcEntry_order n * s.rd .adcEntry_dec n * 25

/-- The channel `c` is served by a slice (R333). -/
def Chip.channelServed (s : Chip) (c : Nat) : Bool :=
  (List.range 25).any fun k => !s.on .adcSlice_retired k && s.rd .adcSlice_serving k == c

/-- Slice `k` serves channel `c` from now on; 31 is no channel (R328, R329). -/
def Chip.serve (s : Chip) (k c : Nat) : Chip :=
  if s.rd .adcSlice_serving k = c then s
  else
    let s := s.wr .adcSlice_serving c k
    if 24 ≤ c then s
    else
      let l := (s.clock.now, k) :: storeGet s.converter.served c []
      { s with converter := { s.converter with served := storePut s.converter.served c [] (l.take 3) } }

/-- The slice that served channel `c` at an instant (R329). -/
def Chip.sliceAt (s : Chip) (c t : Nat) : Option Nat :=
  ((storeGet s.converter.served c []).find? fun x => decide (x.1 ≤ t)).map (·.2)

/-! ## What the Mast die shows (R14, R354) -/

/-- A trigger that found another one held is an overrun once its instant is over (R340): until then the run may still complete at that very
instant, and the trigger then finds the sequence no longer running. -/
def SequenceState.settle (r : SequenceState) (now : Nat) : SequenceState :=
  match r.third with
  | some (_, came) => if came = now then r else { r with third := none, overruns := r.overruns + 1 }
  | none => r

/-- The Mast-side mirrors of the sequences, the slices and the comparators follow the Rigging die while the link is up (R14): overruns
are counted, and the latches set, as they arrive. -/
def Chip.showConverter (s : Chip) : Chip :=
  if s.on .idbStat_linkUp then
    let s := s.each (List.range 4) fun s q =>
      let r := (s.sequence q).settle s.clock.now
      let s := (s.wrFlag .adcSeqStat_running r.running q).wrFlag .adcSeqStat_heldPending r.held.isSome q
      (s.count .adcSeqStat_overruns q r.overruns).setSequence q { r with overruns := 0 }
    let c := s.converter
    let s := ((s.wrFlag .adcStat_noRotation c.noRotation).wr .adcStat_nRetired c.retired).wr .adcStat_calSlice c.calSlice
    let s := s.wrFlag .metStat_classLost c.noRotation
    let s := (s.wr .wcState_state c.outside).wr .wcUnres_state c.unresolved
    let s := s.wr .wcLatch_flags (s.rd .wcLatch_flags ||| c.latch ||| c.outside)
    let s := s.wr .wcRbFail_flags (s.rd .wcRbFail_flags ||| c.rbFail)
    { s with converter := { s.converter with latch := 0, rbFail := 0 } }
  else s

/-- The Mast-side mirror of an entry takes its latest result (R14, R343). -/
def Chip.mirrorEntry (s : Chip) (n : Nat) : Chip :=
  let r := s.adcEntry n
  let w := r.latest
  let s := s.setAdcEntry n { r with delivered := true, snapDelivered := true }
  let s := ((s.wrInt .adcRes_result w.value n).wrFlag .adcRes_valid w.valid n).wrFlag .adcRes_ovr w.ovr n
  (s.wrFlag .adcRes_held w.held n).wrFlag .adcRes_rb (s.on .adcRb_enabled && s.rd .adcRb_entry == n) n

/-- Every word that waits on the Rigging die reaches its mirror with a good frame (R14). -/
def Chip.deliverMirrors (s : Chip) : Chip :=
  let s := s.each (List.range 32) fun s n => if (s.adcEntry n).delivered then s else s.mirrorEntry n
  { s with converter := { s.converter with snapDelivered := true } }.showConverter

/-! ## Sequences -/

/-- The trigger instants of sequence `q` that the grid and EE_L give in the present period and interval, in 125 ps units of the count
(R339): the boundary, where div divides its index, or the stamps of the selected channel and level. -/
def Chip.triggerInstants (s : Chip) (q : Nat) : List Nat :=
  if s.rd .adcSeqCfg_source q = 0 then
    if s.clock.gridOn ∧ s.clock.n ≠ 0 ∧ s.rd .periodIndex_index % s.rd .adcSeqTrig_div q = 0 then [8 * s.boundaryTb] else []
  else
    (s.power.stamps.filter fun st => st.channel == s.rd .adcSeqTrig_channel q && st.level == s.on .adcSeqTrig_level q).map s.stampAt

/-- The first trigger instant of sequence `q` that has come and is not taken yet. -/
def Chip.triggerDue (s : Chip) (q : Nat) : Option Nat :=
  (s.triggerInstants q).find? fun x => decide (x ≤ 8 * s.clock.tb + 7) &&
    match (s.sequence q).last with
    | some y => decide (y < x)
    | none => true

/-- The sampling instant of a trigger at `x` (R339): the delay later, rounded up to the next modulator edge, which lies at
every whole 50 ns of the count since the grid started (R327). -/
def Chip.samplingInstant (s : Chip) (q x : Nat) : Nat :=
  let since := x + 8 * s.rd .adcSeqCfg_delay q - 8 * s.clock.b0
  s.clock.now + (s.clock.b0 + 50 * ((since + 399) / 400)) - s.clock.tb

/-- A sequence starts its run (R340). -/
def Chip.startSequence (s : Chip) (q sampling : Nat) (held : Bool) : Chip :=
  s.setSequence q { s.sequence q with running := true, sampling := sampling, heldRun := held, done := [], held := none }

/-- SEQUENCE_TRIGGER (R339, R340, R342): the sequence's source triggers it. -/
def Chip.sequenceTrigger (s : Chip) (q : Nat) : Chip :=
  match s.triggerDue q with
  | none => s
  | some x =>
    if !s.on .adcSeqCfg_enabled q || !s.synthRuns || (s.rd .adcSeqCfg_source q == 1 && s.on .eeStat_halted) then s
    else
      let s := s.setSequence q { s.sequence q with last := some x }
      let r := (s.sequence q).settle s.clock.now
      let trigger := (s.samplingInstant q x, s.clock.now)
      let s := if !r.running then s.startSequence q trigger.1 false
        else if r.held.isNone then s.setSequence q { r with held := some trigger }
        else if r.third.isNone then s.setSequence q { r with third := some trigger }
        else s.setSequence q { r with overruns := r.overruns + 1 }
      s.showConverter

/-- The sequence that an entry belongs to (R338). -/
def Chip.sequenceOf (s : Chip) (n : Nat) : Option Nat :=
  (List.range 4).find? fun q =>
    s.on .adcSeqCfg_enabled q && decide (s.rd .adcSeqCfg_first q ≤ n) && decide (n ≤ s.rd .adcSeqCfg_last q)

/-- The last result of a run ends it, and a held trigger starts its own run with its own sampling instant (R340, R341). A trigger that came
at this very instant found the sequence no longer running: it starts its run at once, or is the one held now. -/
def Chip.endRun (s : Chip) (q : Nat) : Chip :=
  let r := (s.sequence q).settle s.clock.now
  let s := s.setSequence q { r with third := none }
  match r.held with
  | some (x, came) =>
    let s := s.startSequence q x (came != s.clock.now)
    s.setSequence q { s.sequence q with held := r.third }
  | none => s.setSequence q { s.sequence q with running := false }

/-- A result of entry `n` can complete now (R334, R340): its run is under way, the entry has none yet, and the window has ended. -/
def Chip.adcDue (s : Chip) (n : Nat) : Bool :=
  match s.sequenceOf n with
  | none => false
  | some q =>
    let r := s.sequence q
    r.running && !r.done.contains n && decide (r.sampling + s.halfWindow n ≤ s.clock.now)

/-- Every entry of sequence `q` is complete when `done` are (R338). -/
def Chip.runComplete (s : Chip) (q : Nat) (done : List Nat) : Bool :=
  (List.range (s.rd .adcSeqCfg_last q + 1)).all fun m => decide (m < s.rd .adcSeqCfg_first q) || done.contains m

/-! ## Results -/

/-- The bits that a channel's history buffer holds: 2,048 µs at 20 MHz (R336). -/
def historyBits : Nat := 40960

/-- The bits of slice `k` up to instant `t` join a run (R336): `new`, oldest first, are the slice's bits up to `t`, as many as the
buffer does not hold yet; where they do not reach back to what it holds, that is no history of them. -/
def ModulatorRun.extend (r : ModulatorRun) (t : Nat) (new : List Bool) : ModulatorRun :=
  let gap := (t - r.upTo) / 50
  if t ≤ r.upTo then r
  else if gap ≤ new.length then { r with upTo := t, bits := ((new.reverse.take gap) ++ r.bits).take historyBits }
  else { r with upTo := t, bits := new.reverse.take historyBits }

/-- Channel `c` has bits of slice `k` up to instant `t` (R336). -/
def Chip.takeBits (s : Chip) (c k t : Nat) (new : List Bool) : Chip :=
  let l := storeGet s.converter.history c []
  let r := ((l.find? fun r => r.slice == k).getD ⟨k, 0, []⟩).extend t new
  let l := r :: l.filter fun x => x.slice != k
  { s with converter := { s.converter with history := storePut s.converter.history c [] (l.take 2) } }

/-- The `m` bits of slice `k` on channel `c` that end at instant `t`, newest first; none where the buffer does not hold them all. -/
def Chip.windowBits (s : Chip) (c k t m : Nat) : Option (List Bool) :=
  match (storeGet s.converter.history c []).find? fun r => r.slice == k with
  | none => none
  | some r =>
    let b := (r.bits.drop ((r.upTo - t) / 50)).take m
    if b.length = m ∧ t ≤ r.upTo then some b else none

/-- A result completes on the Rigging die (R334, R337): saturated to 24 bits. -/
def adcWord (raw : Int) (valid held : Bool) : AdcWord :=
  let v := satSigned 24 raw
  { value := v, valid := valid, ovr := v != raw, held := held }

/-- The value of a window of `m` = `n` × `d` bits with the corrections of slice `k` (R330, R334). -/
def Chip.filtered (s : Chip) (n d k : Nat) (b : List Bool) : Int :=
  normalised n d (sincSum n d b) (s.slice k).offset (s.slice k).gain

/-- The value of entry `n`'s window about instant `x` (R329, R334, R335): all its bits come from the slice that served the channel when it
began. Of bits that no slice gave the value is free. -/
def Chip.windowValue (s : Chip) (n x : Nat) : Int × Chip :=
  let c := s.rd .adcEntry_channel n
  let order := s.rd .adcEntry_order n
  let dec := s.rd .adcEntry_dec n
  match (s.sliceAt c (x - s.halfWindow n)).bind fun k =>
      (s.windowBits c k (x + s.halfWindow n) (order * dec)).map fun b => s.filtered order dec k b with
  | some v => (v, s)
  | none => let d := s.freeNat; (signed 24 d.1, d.2)

/-- ADC_RESULT_COMPLETE (R329, R334 to R337, R340 to R343): `new` are the modulator bits of the window's slice, up to the window's end,
that the history buffer does not hold yet; `retries` counts the frames retransmitted on the way, and `arrives` tells whether the
word reaches the Mast die, which it does only over a link that is up. -/
def Chip.adcComplete (s : Chip) (n : Nat) (new : List Bool) (retries : Nat) (arrives : Bool) : Chip :=
  if !s.adcDue n then s
  else
    let q := (s.sequenceOf n).getD 0
    let r := s.sequence q
    let c := s.rd .adcEntry_channel n
    let from_ := r.sampling - s.halfWindow n
    let source := s.sliceAt c from_
    let valid := s.channelServed c && source.isSome && s.synthRuns && decide (s.converter.modulatorsFrom ≤ from_)
    let s := match source with
      | some k => s.takeBits c k (r.sampling + s.halfWindow n) new
      | none => s
    let v := s.windowValue n r.sampling
    let s := v.2.count .idbStat_retries 0 retries
    let w := adcWord v.1 valid r.heldRun
    let recent := (r.sampling, w) :: (s.adcEntry n).recent.take 7
    let s := s.setAdcEntry n { s.adcEntry n with latest := w, isNew := true, delivered := false, recent }
    let s := if arrives && s.on .idbStat_linkUp then s.mirrorEntry n else s
    let done := n :: r.done
    let s := s.setSequence q { r with done := done }
    (s.onlyIf (s.runComplete q done) fun s => s.endRun q).showConverter

/-- What the snapshot takes of the converter and the comparators at a boundary (R343, R344). -/
def Chip.converterSnapshot (s : Chip) : Chip :=
  let s := s.each (List.range 32) fun s n =>
    let r := s.adcEntry n
    s.setAdcEntry n { r with snap := r.latest, snapNew := r.isNew, snapDelivered := r.delivered, isNew := false }
  let c := s.converter
  { s with converter := { c with
    snap := (c.outside, c.wasOutside, c.unresolved), snapDelivered := s.on .idbStat_linkUp, wasOutside := c.outside } }

/-- The converter snapshot word of one entry (R344); of a word not delivered the previous one stays, with fresh cleared
(R27). -/
def Chip.writeAdcWord (s : Chip) (n : Nat) : Chip :=
  let r := s.adcEntry n
  let a := 0x10451000 + 4 * n
  if r.snapDelivered then
    let rb := s.on .adcRb_enabled && s.rd .adcRb_entry == n
    let q := satSigned 16 (roundHalfUp r.snap.value 256)
    s.sramPutWord a (2 ^ 31 * flag (r.snap.valid && !rb) + 2 ^ 30 * flag r.snapNew + 2 ^ 29 * flag r.snap.ovr +
      2 ^ 28 * flag r.snap.held + unsigned 16 q)
  else s.sramPutWord a (setBit (s.sramWord a) 30 false)

/-- The comparators' snapshot words (R344); of words not delivered the previous ones stay (R27). -/
def Chip.writeComparatorWords (s : Chip) : Chip :=
  let c := s.converter
  s.onlyIf c.snapDelivered fun s =>
    ((s.sramPutWord 0x10451080 c.snap.1).sramPutWord 0x10451084 c.snap.2.1).sramPutWord 0x10451088 c.snap.2.2

/-- The close of the input distribution window for the mirrored words (R27). -/
def Chip.converterDistribute (s : Chip) : Chip :=
  let missing := !s.converter.snapDelivered || (List.range 32).any fun n => !(s.adcEntry n).snapDelivered
  let s := (s.each (List.range 32) fun s n => s.writeAdcWord n).writeComparatorWords
  if missing then s.wr .periodStat_inputIncomplete 1 else s

/-! ## Slices and their calibration -/

/-- A slice's READY bit (R65, R66): with it at 0 the slice is not usable. -/
def Chip.sliceReadyBit (s : Chip) (k : Nat) (b : Bool) : Chip :=
  (s.wrBit .readyIo_slice k b).onlyIf (!b) fun s => s.unusable (320 + k)

/-- The slices serve in slice order (R65, R328, R333): of those that are not retired the c-th serves channel c once it is usable, and the
highest channels are left unserved. -/
def Chip.assignSlices (s : Chip) : Chip :=
  let left := (List.range 25).filter fun k => !s.on .adcSlice_retired k
  let s := s.each (List.range 25) fun s k => if s.on .adcSlice_retired k then s.serve k 31 else s
  s.each left.zipIdx fun s (k, c) => s.serve k (if s.sliceUsable k && decide (c < 24) then c else 31)

/-- A slice is retired: its calibration is out of bounds or failed (R333). From the second on, each leaves one more channel
unserved, with one event. -/
def Chip.retireSlice (s : Chip) (k : Nat) : Chip :=
  let s := ((s.wr .adcSlice_retired 1 k).wr .adcSlice_calibrating 0 k).sliceReadyBit k false
  let n := s.converter.retired + 1
  let s := { s with converter := { s.converter with retired := n, noRotation := true, calSlice := 31, takeover := none } }
  let s := (s.raiseRigging (originCalibration k)).assignSlices.showConverter
  s.onlyIf (decide (2 ≤ n)) fun s => s.raiseRigging (originUnserved (25 - n))

/-- All slices that are not retired are READY (R331). -/
def Chip.slicesReady (s : Chip) : Bool :=
  (List.range 25).all fun k => s.on .adcSlice_retired k || s.rdBit .readyIo_slice k

/-- At a boundary the slices whose first calibration since the application is complete begin to serve, until all do (R65, R328). -/
def Chip.slicesServe (s : Chip) : Chip :=
  if s.converter.starting then
    let s := s.assignSlices
    let all := (List.range 25).all fun k => s.on .adcSlice_retired k || s.sliceUsable k
    { s with converter := { s.converter with starting := !all } }
  else s

/-- CALIBRATION_COMPLETE (R328, R330 to R333): offset in µV, gain error in ppm; `ok` is false where it failed to complete. Of the first
calibrations after an application, the last one makes rotation begin. -/
def Chip.calibrationComplete (s : Chip) (k : Nat) (offset gain : Int) (ok : Bool) : Chip :=
  if !s.on .adcSlice_calibrating k || s.on .adcSlice_retired k then s
  else if !ok || decide (20000 < offset.natAbs) || decide (20000 < gain.natAbs) then s.retireSlice k
  else
    let old := s.slice k
    let drift := old.calibrated && (decide (s.rd .adcCalLim_offsetLimit < (offset - old.offset).natAbs) ||
      decide (s.rd .adcCalLim_gainLimit < (gain - old.gain).natAbs)) && !s.converter.noRotation
    let s := s.setSlice k ⟨offset, gain, true⟩
    let s := (s.wr .adcSlice_calibrating 0 k).wr .adcSlice_calCount (s.rd .adcSlice_calCount k + 1) k
    let s := s.sliceReadyBit k true
    let s := s.onlyIf (s.converter.starting && s.slicesReady) fun s =>
      { s with converter := { s.converter with rotateAt := s.clock.now } }
    if drift then (s.wr .adcSlice_drift 1 k).raiseRigging (originDrift k) else s

/-- The next serving slice to be relieved, in the order of R328. -/
def Chip.nextServing (s : Chip) : Option Nat :=
  ((List.range 25).map fun i => (s.converter.lastRelieved + 1 + i) % 25).find? fun k =>
    !s.on .adcSlice_retired k && decide (s.rd .adcSlice_serving k < 24)

/-- SLICE_ROTATION (R328, R329, R331): every 250 ms the calibrating slice begins to run in parallel on the channel of the
next serving slice. -/
def Chip.sliceRotation (s : Chip) : Chip :=
  let c := s.converter
  let due := c.rotateAt + 250000000 ≤ s.clock.now
  if c.noRotation = true ∨ s.slicesReady = false ∨ c.takeover.isSome = true ∨ s.on .adcSlice_calibrating c.calSlice = true ∨ ¬ due then s
  else
    match s.nextServing with
    | some k => { s with converter := { c with rotateAt := s.clock.now, takeover := some (c.calSlice, k, s.clock.now) } }
    | none => s

/-- CHANNEL_SOURCE_CHANGE (R328, R329): after 1.1 ms the channel's source changes, and the relieved slice calibrates. -/
def Chip.sourceChange (s : Chip) : Chip :=
  match s.converter.takeover with
  | some (inn, out, t0) =>
    if t0 + 1100000 ≤ s.clock.now then
      let c := s.rd .adcSlice_serving out
      let s := ((s.serve inn c).serve out 31).wr .adcSlice_calibrating 1 out
      { s with converter := { s.converter with takeover := none, lastRelieved := out, calSlice := out } }.showConverter
    else s
  | none => s

/-- All slices calibrate in parallel when an image is applied, and none serves before it has (R328, R331). The sequences begin
anew. -/
def Chip.convertersApplied (s : Chip) : Chip :=
  let s := s.each (List.range 25) fun s k =>
    if s.on .adcSlice_retired k then s
    else ((s.wr .adcSlice_calibrating 1 k).sliceReadyBit k false).serve k 31
  let c := s.converter
  { s with converter := { c with
    rotateAt := s.clock.now, lastRelieved := 24, takeover := none, sequences := [], starting := true
    calSlice := if c.noRotation then 31 else 24 } }.showConverter

/-! ## Window comparators -/

/-- A threshold code in µV at the input (R345). -/
def thresholdUv (k : Int) : Int := (k - 512) * 2000

/-- The hysteresis of a comparator in steps (R346). -/
def hystSteps : Nat → Nat
  | 0 => 0
  | 1 => 8
  | 2 => 16
  | _ => 32

/-- The hysteresis of comparator `n` in µV. -/
def Chip.hystUv (s : Chip) (n : Nat) : Int := 2000 * hystSteps (s.rd .wcCfg_hyst n)

/-- A level lies at or above hi, or at or below lo, of comparator `n` (R345). -/
def Chip.atOrAboveHi (s : Chip) (n : Nat) (v : Int) : Bool := decide (thresholdUv (s.rd .wcCfg_hi n) ≤ v)
def Chip.atOrBelowLo (s : Chip) (n : Nat) (v : Int) : Bool := decide (v ≤ thresholdUv (s.rd .wcCfg_lo n))
def Chip.beyond (s : Chip) (n : Nat) (v : Int) : Bool := s.atOrAboveHi n v || s.atOrBelowLo n v

/-- A level lies in one of the hysteresis bands [hi − h, hi) and (lo, lo + h] of comparator `n` (R346). -/
def Chip.inBand (s : Chip) (n : Nat) (v : Int) : Bool :=
  !s.beyond n v && (decide (thresholdUv (s.rd .wcCfg_hi n) - s.hystUv n ≤ v) || decide (v ≤ thresholdUv (s.rd .wcCfg_lo n) + s.hystUv n))

/-- A level at which comparator `n`, outside, returns inside (R346): past the band on the side it left by; without hysteresis, between
the thresholds (R345). -/
def Chip.returns (s : Chip) (n : Nat) (v : Int) : Bool :=
  let h := s.hystUv n
  if h = 0 then !s.beyond n v
  else if bitAt s.converter.above n then decide (v < thresholdUv (s.rd .wcCfg_hi n) - h) && !s.atOrBelowLo n v
  else decide (thresholdUv (s.rd .wcCfg_lo n) + h < v) && !s.atOrAboveHi n v

/-- The state of comparator `n` set, with what follows at its trip input (R350). -/
def Chip.setComparator (s : Chip) (n : Nat) (outside above unresolved : Bool) : Chip :=
  let c := s.converter
  let o := setBit c.outside n outside
  let s := { s with converter := { c with
    outside := o, above := setBit c.above n above, unresolved := setBit c.unresolved n unresolved
    wasOutside := c.wasOutside ||| o, latch := c.latch ||| o } }.showConverter
  let t := s.rd .wcCfg_tripSel n
  if 1 ≤ t ∧ t ≤ 16 then s.tripFollow (t - 1) else s

/-- A comparator that R557 degraded reports outside and unresolved until the next reset or application. -/
def Chip.comparatorDegraded (s : Chip) (n : Nat) : Bool := bitAt s.converter.degraded n

/-- Comparator `n` passes to the outside at a level, with its event (R349). -/
def Chip.passOutside (s : Chip) (n : Nat) (v : Int) : Chip :=
  let s := (s.setComparator n true (s.atOrAboveHi n v) false).raiseRigging (originWindow n)
  s.onlyIf (s.rdBit .drTrigWc_mask n) fun s => s.trigger (.comparator n)

/-- COMPARATOR_OUTSIDE (R345, R346, R349): the input of an enabled comparator reaches a level, in µV, at or beyond a threshold. One that is
outside already goes over to the side of that level. -/
def Chip.comparatorOutside (s : Chip) (n : Nat) (v : Int) : Chip :=
  if s.on .wcCfg_enabled n && !bitAt s.converter.unresolved n && s.beyond n v then
    if bitAt s.converter.outside n then s.setComparator n true (s.atOrAboveHi n v) false else s.passOutside n v
  else s

/-- COMPARATOR_INSIDE (R345, R346): the input of a comparator that is outside reaches a level at which it returns. -/
def Chip.comparatorInside (s : Chip) (n : Nat) (v : Int) : Chip :=
  if s.on .wcCfg_enabled n && bitAt s.converter.outside n && !bitAt s.converter.unresolved n && s.returns n v then
    s.setComparator n false false false
  else s

/-- COMPARATOR_RESOLVED (R348, R349): an unresolved comparator's input has left its band. -/
def Chip.comparatorResolved (s : Chip) (n : Nat) (v : Int) : Chip :=
  if bitAt s.converter.unresolved n && !s.comparatorDegraded n && !s.inBand n v then
    if s.beyond n v then s.passOutside n v else s.setComparator n false false false
  else s

/-- The DEGRADE action of a read-back failure (R557). -/
def Chip.degradeComparator (s : Chip) (n : Nat) : Chip :=
  let s := { s with converter := { s.converter with degraded := setBit s.converter.degraded n true } }
  s.setComparator n true (bitAt s.converter.above n) true

/-- Where the input of a comparator lies when an image is applied (R345, R348): in a band, one whose thresholds or hysteresis the
image changes is unresolved and any other stays as it is. -/
def Chip.comparatorApplied (s : Chip) (n : Nat) (changed : Bool) (v : Int) : Chip :=
  if !s.on .wcCfg_enabled n then s.setComparator n false false false
  else if s.inBand n v then
    if changed || bitAt s.converter.unresolved n then s.setComparator n true false true else s
  else if s.beyond n v then
    if bitAt s.converter.outside n && !bitAt s.converter.unresolved n then s.setComparator n true (s.atOrAboveHi n v) false
    else s.passOutside n v
  else s.setComparator n false false false

/-! ## Threshold read-back -/

/-- One conversion of a threshold DAC through the read-back entry, by the calibrating slice with N = 3 and D = 128 (R351): the result,
and whether it lies more than 3 steps of 2 mV off its code. -/
def Chip.readThreshold (s : Chip) (code : Nat) (b : List Bool) : Bool × Chip :=
  let v := s.filtered 3 128 s.converter.calSlice b.reverse
  let e := s.rd .adcRb_entry
  let s := s.setAdcEntry e { s.adcEntry e with latest := adcWord v true false, isNew := true, delivered := false }
  let s := s.onlyIf (s.on .idbStat_linkUp) fun s => s.mirrorEntry e
  (decide (3 * 16384 < (v - ((code : Int) - 512) * 16384).natAbs), s)

/-- A threshold of comparator `n` whose reading is off: its bit in WC_RB_FAIL, and one event (R351). -/
def Chip.readBackFailed (s : Chip) (n : Nat) : Chip :=
  { s with converter := { s.converter with rbFail := setBit s.converter.rbFail n true } }.showConverter.raiseRigging (originReadback n)

/-- One comparator of THRESHOLD_READBACK (R351): the modulator bits of both conversions, oldest first. -/
def Chip.readBack (s : Chip) (n : Nat) (lo hi : List Bool) : Chip :=
  if s.on .wcCfg_enabled n then
    let a := s.readThreshold (s.rd .wcCfg_lo n) lo
    let s := a.2.onlyIf a.1 fun s => s.readBackFailed n
    let b := s.readThreshold (s.rd .wcCfg_hi n) hi
    b.2.onlyIf b.1 fun s => s.readBackFailed n
  else s

/-- THRESHOLD_READBACK (R333, R351, R555): once in each slice-test cycle, with the calibrating slice, whose calibration the conversions
interleave with. -/
def Chip.thresholdReadback (s : Chip) (conversions : List (List Bool × List Bool)) : Chip :=
  let c := s.converter
  if s.on .sltCfg_enabled && s.on .adcRb_enabled && s.on .sltStat_running && !c.noRotation && !c.readBackDone &&
      c.takeover.isNone && s.synthRuns then
    let s := { s with converter := { c with readBackDone := true } }
    s.each conversions.zipIdx fun s ((lo, hi), n) => s.readBack n lo hi
  else s

end Sys2Proof.Machine
end

