-- ==== Sys2Proof/Machine/Nand.lean ====
section
/-! DEFINITION. A page of the attached NAND flash: its format (R565), the BCH code of its codewords (R566), and what the controller makes
of a page that it reads (R567). -/

namespace Sys2Proof.Machine

/-! ## GF(2¹⁴) -/

/-- `a` times x, modulo the primitive polynomial x¹⁴ + x⁵ + x³ + x + 1 (R566). -/
def gfTimesX (a : Nat) : Nat := if 8192 ≤ a then (2 * a) ^^^ 0x402B else 2 * a

/-- The product of two elements, over the low `n` bits of the second. -/
def gfMulBits : Nat → Nat → Nat → Nat
  | 0, _, _ => 0
  | n + 1, a, b => (if b % 2 = 1 then a else 0) ^^^ gfMulBits n (gfTimesX a) (b / 2)
def gfMul (a b : Nat) : Nat := gfMulBits 14 a b

/-- `a` to the power 2¹⁴ − 2, its inverse. -/
def gfInv (a : Nat) : Nat :=
  ((List.range 13).foldl (fun (x : Nat × Nat) _ => let q := gfMul x.1 x.1; (q, gfMul x.2 q)) (a, 1)).2

/-- α times and α⁻¹ times an element. -/
def gfOverX (a : Nat) : Nat := if a % 2 = 1 then (a ^^^ 0x402B) / 2 else a / 2

/-- The powers α^j for j = 0, 1, … -/
def gfPowers (n : Nat) : List Nat := ((List.range n).foldl (fun (x : List Nat × Nat) _ => (x.2 :: x.1, gfTimesX x.2)) ([], 1)).1.reverse

/-! ## The code -/

/-- The generator polynomial of R566: the product of the minimal polynomials of α¹ to α³¹, of degree 224. -/
def bchGenerator : Nat := 0x122F1755614A4C377FC816CA00BD3E8F407385C3F4DDEF681C94DB411

/-- The zero bits among the low `n` bits of a byte, and in a list of bytes. -/
def zeroBits : Nat → Nat → Nat
  | 0, _ => 0
  | n + 1, b => (1 - b % 2) + zeroBits n (b / 2)
def zerosIn (bs : List Byte) : Nat := bs.foldl (fun n b => n + zeroBits 8 b.toNat) 0

/-- The encoder's register after the low `n` bits of a byte, the most significant first (R566). -/
def bchShift : Nat → Nat → Nat → Nat
  | 0, _, reg => reg
  | n + 1, b, reg =>
    if (reg / 2 ^ 223 + b / 2 ^ n) % 2 = 1 then bchShift n b ((2 * reg % 2 ^ 224) ^^^ (bchGenerator - 2 ^ 224))
    else bchShift n b (2 * reg % 2 ^ 224)

/-- The encoder's register after further bytes, in ascending order (R566). -/
def bchFeed : List Byte → Nat → Nat
  | [], reg => reg
  | b :: l, reg => bchFeed l (bchShift 8 b.toNat reg)

/-- The parity of a codeword's data: the remainder of data × x²²⁴ by the generator (R566). -/
def bchParity (data : List Byte) : Nat := bchFeed data 0

/-- The parity bytes, most significant bit first (R566). -/
def bchBytes (data : List Byte) : List Byte := (leBytes 28 (bchParity data)).reverse

/-- The value at the element `a` of the polynomial whose first coefficients sum up to `r` and whose last `n` are the low bits of `rem`. -/
def bchAt (rem a : Nat) : Nat → Nat → Nat
  | 0, r => r
  | n + 1, r => if r = 0 then bchAt rem a n (flag (bitAt rem n)) else bchAt rem a n (gfMul r a ^^^ flag (bitAt rem n))

/-- The syndromes S₁ to S₃₂ of a received word, from its remainder by the generator, whose roots α¹ to α³² are. -/
def bchSyndromes (rem : Nat) : List Nat := ((gfPowers 33).drop 1).map fun a => bchAt rem a 224 0

/-- The search for the error locator (Massey's algorithm): the locator and the one before it, coefficients from degree 0; the
discrepancy at that one; how many steps ago it was; and the length. -/
structure BchSearch where
  loc : List Nat := [1]
  prev : List Nat := [1]
  disc : Nat := 1
  gap : Nat := 1
  len : Nat := 0
  deriving DecidableEq, Repr

/-- One step with the syndromes so far, the newest first. -/
def BchSearch.step (x : BchSearch) (syn : List Nat) : BchSearch :=
  let d := ((x.loc.zip syn).take (x.len + 1)).foldl (fun r p => r ^^^ gfMul p.1 p.2) 0
  if d = 0 then { x with gap := x.gap + 1 }
  else
    let k := gfMul d (gfInv x.disc)
    let sub := List.replicate x.gap 0 ++ x.prev.map (gfMul k)
    let n := max x.loc.length sub.length
    let loc := (List.range n).map fun i => x.loc.getD i 0 ^^^ sub.getD i 0
    if 2 * x.len < syn.length then { loc, prev := x.loc, disc := d, gap := 1, len := syn.length - x.len }
    else { x with loc, gap := x.gap + 1 }

/-- The locator of a list of syndromes. -/
def bchLocator (syn : List Nat) : BchSearch :=
  (syn.foldl (fun (x : List Nat × BchSearch) s => (s :: x.1, x.2.step (s :: x.1))) ([], {})).2

/-- The locator's value at an element, over its coefficients from the highest degree. -/
def locatorAt (a : Nat) : List Nat → Nat → Nat
  | [], r => r
  | c :: l, r => if r = 0 then locatorAt a l c else locatorAt a l (gfMul r a ^^^ c)

/-- The positions, of the next `n` from `i` on, at which the locator vanishes, before those found: position i counts from the last parity
bit, and its root is α⁻ⁱ. -/
def bchErrors (high : List Nat) : Nat → Nat → Nat → List Nat → List Nat
  | 0, _, _, found => found
  | n + 1, i, a, found =>
    if locatorAt a high 0 = 0 then bchErrors high n (i + 1) (gfOverX a) (i :: found) else bchErrors high n (i + 1) (gfOverX a) found

/-- One bit of a list of bytes inverted, bits counted from the end: bit 0 is the least significant bit of the last byte. -/
def flipFromEnd (bs : List Byte) (i : Nat) : List Byte :=
  bs.modify (bs.length - 1 - i / 8) fun b => b ^^^ BitVec.ofNat 8 (2 ^ (i % 8))

/-- What the controller makes of a received codeword (R567): its data, and how many of its bits it corrected, up to 16; none where it
holds more errors. -/
def bchDecode (data parity : List Byte) : Option (List Byte × Nat) :=
  let rem := bchParity data ^^^ beNat parity
  if rem = 0 then some (data, 0)
  else
    let x := bchLocator (bchSyndromes rem)
    let at_ := bchErrors x.loc.reverse (8 * data.length + 224) 0 1 []
    if x.len ≤ 16 ∧ at_.length = x.len then some ((at_.filter (224 ≤ ·)).foldl (fun b i => flipFromEnd b (i - 224)) data, x.len)
    else none

/-! ## Pages -/

/-- The metadata of a page (R565, R572): region, flags, logical block, write sequence and the block's erase count. -/
structure PageMeta where
  region : Nat := 0
  flags : Nat := 0
  logical : Nat := 0
  writeSeq : Nat := 0
  erases : Nat := 0
  deriving DecidableEq, Repr

/-- The metadata as spare bytes 2 to 15. -/
def PageMeta.bytes (m : PageMeta) : List Byte :=
  leBytes 1 m.region ++ leBytes 1 m.flags ++ leBytes 2 m.logical ++ leBytes 4 m.writeSeq ++ leBytes 4 m.erases ++ [0xFF, 0xFF]

/-- The metadata that spare bytes 2 to 15 hold. -/
def readMeta (bs : List Byte) : PageMeta :=
  { region := byteAt bs 0, flags := byteAt bs 1, logical := leAt bs 2 2, writeSeq := leAt bs 4 4, erases := leAt bs 8 4 }

/-- The four codewords of a page (R566): data, and parity as it stands. -/
def NandPage.words (p : NandPage) : List (List Byte × List Byte) :=
  (List.range 4).map fun c =>
    ((p.data.drop (1024 * c)).take 1024 ++ (if c = 3 then (p.spare.drop 2).take 14 else []), (p.spare.drop (16 + 28 * c)).take 28)

/-- A page in the format of R565 and R566. -/
def nandPage (payload : List Byte) (m : PageMeta) : NandPage :=
  let data := (payload ++ List.replicate (4096 - payload.length) 0xFF).take 4096
  let bare : NandPage := { data, spare := [0xFF, 0xFF] ++ m.bytes }
  { bare with spare := bare.spare ++ bare.words.flatMap fun w => bchBytes w.1 }

/-- Each codeword holds at most 8 zero bits, parity included (R567): the page is erased. -/
def NandPage.isErased (p : NandPage) : Bool :=
  p.words.all fun w => decide (zerosIn w.1 + zerosIn w.2 ≤ 8)

/-- The bad-block marker of the page (R565): set where spare byte 0 or 1 is not 0xFF. -/
def NandPage.marked (p : NandPage) : Bool := byteAt p.spare 0 != 0xFF || byteAt p.spare 1 != 0xFF

/-- What a read of a page gives (R567): the payload and the metadata, none where a codeword is uncorrectable; and for each codeword the
bits corrected. -/
structure PageRead where
  content : Option (List Byte × PageMeta) := none
  words : List (Option Nat) := []
  deriving DecidableEq, Repr

/-- A page read and corrected (R567); an erased page is returned as all ones. -/
def NandPage.read (p : NandPage) : PageRead :=
  if p.isErased then { content := some (List.replicate 4096 0xFF, readMeta (List.replicate 14 0xFF)), words := List.replicate 4 (some 0) }
  else
    let ws := p.words.map fun w => bchDecode w.1 w.2
    let data := ws.flatMap fun w => (w.map (·.1)).getD []
    { content := if ws.all (·.isSome) then some (data.take 4096, readMeta (data.drop 4096)) else none
      words := ws.map fun w => w.map (·.2) }

/-- Bits of a page flip: bits 0 to 32767 are those of the data bytes, the others those of the spare bytes, each byte's least
significant bit first. -/
def NandPage.flip (p : NandPage) (flips : List Nat) : NandPage :=
  let turn (bs : List Byte) (i : Nat) : List Byte := bs.modify (i / 8) fun b => b ^^^ BitVec.ofNat 8 (2 ^ (i % 8))
  flips.foldl (fun p i => if i < 32768 then { p with data := turn p.data i } else { p with spare := turn p.spare (i - 32768) }) p

end Sys2Proof.Machine
end

