-- ==== Sys2Proof/Machine/Faults.lean ====
section
/-! DEFINITION. The fault collector (R401 to R422): counting and escalation, the reactions, ALIVE_A and ALIVE_B, the
firmware log. -/

namespace Sys2Proof.Machine

/-- The sticky or the escalation bit of a source (R405, R407). -/
def Chip.sticky (s : Chip) (src : Nat) : Bool := s.rdBit .fsSticky_bits (src % 32) (src / 32)
def Chip.setSticky (s : Chip) (src : Nat) : Chip := s.wrBit .fsSticky_bits (src % 32) true (src / 32)
def Chip.setEscalation (s : Chip) (src : Nat) : Chip := s.wrBit .fsEsc_bits (src % 32) true (src / 32)

/-- The class of a source (R402). -/
def Chip.sourceClass (s : Chip) (src : Nat) : FaultClass := FaultClass.ofCode (s.rd .fsCfg_class src)

/-- The time a log entry takes (R419): PTP time where the boundary capture is valid, otherwise the timebase count, in
milliseconds. -/
def Chip.logTime (s : Chip) : Bool × Nat :=
  if s.on .tbStat_boundaryValid then
    (true, s.rd .tbBoundaryHi_time * 1000 + s.rd .tbBoundaryLo_time / 1000000)
  else (false, s.clock.tb / 1000000)

/-- Supervisor pair 0 writes its firmware log (R419); it holds 4,096 entries, the oldest giving way (log entry 22). -/
def Chip.logFault (s : Chip) (src : Nat) (merged : Bool) : Chip :=
  let t := s.logTime
  let e : FirmwareLogEntry := ⟨src, s.rd .fsCfg_class src, merged, t.1, t.2⟩
  let l := s.faults.log ++ [e]
  { s with faults := { s.faults with log := l.drop (l.length - 4096) } }

/-- The window of a source closes and its count reads 0 (R405). -/
def Chip.closeSource (s : Chip) (src : Nat) : Chip :=
  { (s.wr .fsCount_winOpen 0 src).wr .fsCount_winCount 0 src with faults := { s.faults with openAt := storeDrop s.faults.openAt src } }

/-- The window of a source has run for W (R402, R405); W is in milliseconds. -/
def Chip.windowOver (s : Chip) (src : Nat) : Bool :=
  decide (storeGet s.faults.openAt src 0 + 1000000 * s.rd .fsCfg_w src ≤ s.clock.now)

/-- One event credited to a source (R405): whether it completes the count, and the state. The first event of a source
whose sticky bit was clear is logged (R419). -/
def Chip.countEvent (s : Chip) (src : Nat) : Bool × Chip :=
  let s := if s.sticky src then s else s.logFault src false
  let s := (s.setSticky src).count .fsCount_events src
  let s := if !s.on .fsCount_winOpen src || s.windowOver src then
      { (s.wr .fsCount_winOpen 1 src).wr .fsCount_winCount 0 src with
        faults := { s.faults with openAt := storePut s.faults.openAt src 0 s.clock.now } }
    else s
  let s := s.wr .fsCount_winCount (s.rd .fsCount_winCount src + 1) src
  if s.rd .fsCount_winCount src = s.rd .fsCfg_n src then (true, s.closeSource src) else (false, s)

/-- The DEGRADE action of one origin (R403, R412, R462, R523, R557, R577). -/
def Chip.degradeOrigin (s : Chip) (o : Nat) : Chip :=
  if o < 288 then s.setCell (o % 96) { s.cell (o % 96) with degradeDue := true }
  else if 526 ≤ o ∧ o ≤ 549 then
    s.each (List.range 24) fun s n => if s.rdBit .wcRbFail_flags n then s.degradeComparator n else s
  else if o = originTempLimit ∨ o = originTempRate then s.forceReef
  else if o = originHalyard then s.degradeHalyard
  else if o = originStorageLost then s.wr .nvStat_degraded 1
  else s

/-- The origins mapped to a source (R401). -/
def Chip.originsOf (s : Chip) (src : Nat) : List Nat :=
  (List.range 861).filter fun o => s.rd .fcOrigin_source o == src

/-- A DEGRADE escalation takes no action in SAFE HOLD with a member cause, and in CONFIGURE before an image is applied
(R409). -/
def Chip.degradeSuspended (s : Chip) : Bool := s.mode == .safeHold || (s.mode == .configure && !s.applied)

/-- An escalation triggers a record where trig_class admits its class (R584). -/
def Chip.recordEscalation (s : Chip) (src : Nat) (c : FaultClass) : Chip :=
  let admitted : Bool := match s.rd .drCfg_trigClass with
    | 0 => false
    | 1 => c == .severe
    | 2 => c != .note
    | _ => true
  if admitted then s.trigger (.escalation src) else s

/-- The escalation of a source that is carried out (R407, R411 to R413). -/
def Chip.escalate (s : Chip) (src : Nat) : Chip :=
  let c := s.sourceClass src
  let s := ((s.setEscalation src).count .fcStat_escalations).logFault src false
  let s := s.recordEscalation src c
  match c with
  | .note => s.wr .fcStat_notePending 1
  | .degrade =>
    let s := s.wr .fcStat_degradePending 1
    if s.degradeSuspended then s else s.each (s.originsOf src) fun s o => s.degradeOrigin o
  | .severe => s.severeReaction

/-- An escalation during a reaction in progress, or beside a SEVERE one in the same cycle, is merged (R408). -/
def Chip.mergeEscalation (s : Chip) (src : Nat) : Chip := (s.count .fcStat_merged).logFault src true

/-- One event on its way reaches the collector: it is taken out of those in flight. -/
def Chip.takeEvent (s : Chip) (o : Nat) : Chip := { s with faults := { s.faults with events := s.faults.events.erase o } }

/-- The events of one collector cycle are credited in ascending origin code (R405, R406); the sources whose count was
completed, in order. An event that no unit raised does not exist (R420). -/
def Chip.creditEvents (s : Chip) : List Nat → List Nat × Chip
  | [] => ([], s)
  | o :: rest =>
    if s.faults.events.contains o then
      let s := s.takeEvent o
      let src := s.rd .fcOrigin_source o
      if src = notCollected then s.creditEvents rest
      else
        let r := s.countEvent src
        let more := r.2.creditEvents rest
        if r.1 then (src :: more.1, more.2) else more
    else s.creditEvents rest

/-- FAULT_EVENT (R405 to R409): the events of one collector cycle. During a reaction every escalation is merged; beside a
SEVERE escalation of the same cycle every other that is not SEVERE is merged. -/
def Chip.faultEvents (s : Chip) (origins : List Nat) : Chip :=
  let r := s.creditEvents (sortBy (fun a b => decide (a ≤ b)) origins)
  let s := r.2
  if s.reaction then s.each r.1 fun s src => s.mergeEscalation src
  else
    let severe := r.1.any fun src => s.sourceClass src == .severe
    s.each r.1 fun s src =>
      if severe && s.sourceClass src != .severe then s.mergeEscalation src else s.escalate src

/-- A window expires with fewer than N events (R405). -/
def Chip.windowExpiry (s : Chip) (src : Nat) : Chip :=
  if s.on .fsCount_winOpen src && s.windowOver src then s.closeSource src else s

/-- The sticky and escalation bits of a lockout entry are taken, 10 ms after its t0 (R413). -/
def Chip.takeLockoutBits (s : Chip) (e : LockoutEntry) : LockoutEntry :=
  if e.waits.any fun t0 => decide (t0 + 10000000 ≤ s.clock.now) then
    { e with sticky := s.sourceWords .fsSticky_bits, esc := s.sourceWords .fsEsc_bits, waits := none }
  else e

/-- 10 ms after t0 the sticky and escalation bits are taken into the lockout entry (R413). -/
def Chip.captureLockoutBits (s : Chip) : Chip :=
  { s with modes := { s.modes with lockoutEntries := s.modes.lockoutEntries.map s.takeLockoutBits } }

/-- ALIVE_A or ALIVE_B toggles every 1 / (2 × f_alive), at the soonest 1 % before, unless it is frozen; both are low while
PORST_N is low (R415, R416). -/
def Chip.aliveToggle (s : Chip) (b : Bool) : Chip :=
  let due (last : Nat) : Bool := decide (last + 4950000 / s.rd .fcAlive_fAlive ≤ s.clock.now)
  if s.modes.porstLow then s
  else if b then
    if s.on .fcStat_aliveBFrozen || !due s.faults.aliveBAt then s
    else { s with faults := { s.faults with aliveB := !s.faults.aliveB, aliveBAt := s.clock.now } }
  else if s.on .fcStat_aliveAFrozen || !due s.faults.aliveAAt then s
  else { s with faults := { s.faults with aliveA := !s.faults.aliveA, aliveAAt := s.clock.now } }

/-- A write to FC_KICK (R416): a correct kick lets ALIVE_A run, unless the device is in SAFE HOLD or a warm reset is in
force; any other write sets kick_err. -/
def Chip.kick (s : Chip) (key : Nat) : Chip :=
  if key = s.faults.kickExpect then
    let s := { s with faults := { s.faults with
      kickExpect := if key = 0xAA then 0x55 else 0xAA, lastKick := s.clock.now, kicked := true } }
    if s.mode == .safeHold then s else s.wr .fcStat_aliveAFrozen 0
  else s.wr .fcStat_kickErr 1

/-- No correct kick for 10 ms (R416). -/
def Chip.kickTimeout (s : Chip) : Chip :=
  if s.faults.lastKick + 10000000 ≤ s.clock.now then s.wr .fcStat_aliveAFrozen 1 else s

end Sys2Proof.Machine
end

