-- ==== Sys2Proof/Machine/Ports.lean ====
section
/-! DEFINITION. The ports as the other chapters use them: modes of the pairs, PTP time, and frames entering the transmit
queues (R482, R484, R486, R487, R492). -/

namespace Sys2Proof.Machine

/-- Port, subscription and publisher records by number. -/
def Chip.port (s : Chip) (p : Nat) : PortState := storeGet s.net.ports p {}
def Chip.setPort (s : Chip) (p : Nat) (r : PortState) : Chip :=
  { s with net := { s.net with ports := storePut s.net.ports p {} r } }

/-- The mode of a pair (R482): 0 independent, 1 PRP, 2 HSR. Pair 0 faces the process bus, pair 1 the station bus. -/
def Chip.pairMode (s : Chip) (pair : Nat) : Nat :=
  if pair = 0 then s.rd .netCfg_processMode else s.rd .netCfg_stationMode

/-- The link mode of a port (R481); 0 is off. -/
def Chip.portMode (s : Chip) (p : Nat) : Nat := bits (s.rd .netCfg_portMode) (2 * p) 2

/-- The base MAC address (R484). -/
def Chip.macBase (s : Chip) : Nat := s.rd .netMacLo_mac + 2 ^ 32 * (s.rd .netMacHi_mac % 65536)

/-- The MAC address of a port (R484). -/
def Chip.portMac (s : Chip) (p : Nat) : Nat :=
  s.macBase + (if s.pairMode (p / 2) = 0 then p else 2 * (p / 2))

/-- What a frame carries as it departs now on a port (R491): a Sync takes the PTP time of its departure at the balls, a
Pdelay_Resp its turnaround time, a forwarded PTP event message its residence time and the peer delay of the port it came by. -/
def Chip.departing (s : Chip) (p : Nat) (f : FrameBody) : FrameBody :=
  let out := s.ptpNow + s.rd .pCorr_egress p
  match f with
  | .sync _ => .sync out
  | .pdelayResp rx _ => .pdelayResp rx (out - rx)
  | .forwarded bytes (some rx) c => .forwarded bytes (some rx) (c + (out - rx))
  | .tagged hsr seq path g => .tagged hsr seq path (s.departing p g)
  | g => g

/-- A frame is a Pdelay_Req. -/
def FrameBody.asksDelay : FrameBody → Bool
  | .pdelayReq => true
  | .tagged _ _ _ g => g.asksDelay
  | _ => false

/-- The frame that strict priority takes next: of the highest queue that holds one, the oldest (R486). -/
def nextFrame (q : List (Nat × FrameBody)) : Option (Nat × FrameBody) :=
  let top := q.foldl (fun m x => max m x.1) 0
  q.find? fun x => x.1 == top

/-- The queue without its first frame of queue number `k`. -/
def dropFirst (k : Nat) : List (Nat × FrameBody) → List (Nat × FrameBody)
  | [] => []
  | x :: r => if x.1 = k then r else x :: dropFirst k r

/-- An idle port starts its next frame. -/
def Chip.startFrame (s : Chip) (p : Nat) : Chip :=
  let r := s.port p
  if r.sending.isSome then s
  else match nextFrame r.queue with
    | some x =>
      let at_ := if x.2.asksDelay then some (s.ptpNow + s.rd .pCorr_egress p) else r.requestAt
      s.setPort p { r with queue := dropFirst x.1 r.queue, sending := some (s.departing p x.2), requestAt := at_ }
    | none => s

/-- A frame enters a transmit queue of a port that is in use, and starts at once on an idle port (R486, R487). -/
def Chip.enqueue (s : Chip) (p queue : Nat) (f : FrameBody) : Chip :=
  if s.portMode p = 0 then s
  else
    let r := s.port p
    (s.setPort p { r with queue := r.queue ++ [(queue, f)] }).startFrame p

/-- The next sequence number of a redundant pair (R482): of 16 bits. -/
def Chip.nextPairSeq (s : Chip) (pair : Nat) : Nat × Chip :=
  let k := storeGet s.net.pairSeq pair 0
  (k, { s with net := { s.net with pairSeq := storePut s.net.pairSeq pair 0 ((k + 1) % 65536) } })

/-- A frame the device originates goes out on both ports of its pair, in PRP and HSR as two copies of one number (R482). -/
def Chip.enqueuePair (s : Chip) (pair queue : Nat) (f : FrameBody) : Chip :=
  if s.pairMode pair = 0 then (s.enqueue (2 * pair) queue f).enqueue (2 * pair + 1) queue f
  else
    let k := s.nextPairSeq pair
    let hsr := s.pairMode pair == 2
    (k.2.enqueue (2 * pair) queue (.tagged hsr k.1 0 f)).enqueue (2 * pair + 1) queue (.tagged hsr k.1 1 f)

/-- A PTP message goes out by its port (R482, R492): without a trailer in PRP, with the tag in HSR. -/
def Chip.enqueuePtp (s : Chip) (p : Nat) (f : FrameBody) : Chip :=
  if s.pairMode (p / 2) = 2 then
    let k := s.nextPairSeq (p / 2)
    k.2.enqueue p 6 (.tagged true k.1 (p % 2) f)
  else s.enqueue p 6 f

/-- An answer to what came in by a port (R482): by that port where the ports are independent, else by both of its pair. -/
def Chip.answerBy (s : Chip) (p : Nat) (f : FrameBody) : Chip :=
  if s.pairMode (p / 2) = 0 then s.enqueue p 0 f else s.enqueuePair (p / 2) 0 f

/-- The address that a datagram for a host is handed to (R505): its own within the device's network, else the gateway's. -/
def Chip.nextHop (s : Chip) (host : Nat) : Nat :=
  let k := 2 ^ (32 - s.net.prefixLen)
  if host / k = s.net.ip / k then host else s.net.gateway

/-- FRAME_TRANSMISSION_END (R487): the frame in progress ends and the next starts after the gap. -/
def Chip.frameEnd (s : Chip) (p : Nat) : Chip := (s.setPort p { s.port p with sending := none }).startFrame p

end Sys2Proof.Machine
end

