-- ==== Sys2Proof/Machine/Spr.lean ====
section
/-! DEFINITION. Safe power removal (R423 to R445): the SPR inputs, the discrepancy, the consents, safe telegrams. -/

namespace Sys2Proof.Machine

/-- The Shroud follows a change of its inputs (R434, R435): a discrepancy begins or ends; one that begins is an episode of
its own. -/
def Chip.shroudInputs (s : Chip) : Chip :=
  let differ := s.on .shroudStat_sprA != s.on .shroudStat_sprB
  let at_ := if !differ then none else match s.spr.discAt with
    | some t => some t
    | none => some s.clock.now
  let begins := differ && s.spr.discAt.isNone
  let s := { s with spr := { s.spr with
    discAt := at_, discLong := s.spr.discLong && differ, discReported := s.spr.discReported && !begins } }
  s.shroudRefresh

/-- An episode of discrepancy is over when neither die sees one (R435). -/
def Chip.episodeOver (s : Chip) : Chip :=
  if s.spr.discAt = none ∧ s.spr.pairDiscAt = none then { s with spr := { s.spr with discReported := false } } else s

/-- Pair 0 takes the filtered SPR inputs from the event field of an IDB frame; it holds them while the link is down (R425).
A demand that begins drives channel A's reaction (R427, R428), and an entry into demand is counted. -/
def Chip.sprToMast (s : Chip) : Chip :=
  if !s.on .idbStat_linkUp then s
  else
    let a := s.on .shroudStat_sprA
    let b := s.on .shroudStat_sprB
    let fresh := (a && !s.on .sprStat_aDemand) || (b && !s.on .sprStat_bDemand)
    let entry := fresh && !s.sprDemand
    let at_ := if a == b then none else match s.spr.pairDiscAt with
      | some t => some t
      | none => some s.clock.now
    let s := ((s.wrFlag .sprStat_aDemand a).wrFlag .sprStat_bDemand b).wrFlag .sprStat_discrepancy (a != b)
    let s := { s with spr := { s.spr with pairDiscAt := at_, pairDiscLong := s.spr.pairDiscLong && (a != b) } }
    let s := (s.onlyIf entry fun s => s.count .sprStat_demands).episodeOver
    if fresh then s.sprReaction else s.withdrawConsent

/-- The filter of SPR_A and SPR_B (R425, R426): it takes an off-pulse longer than 1.0 µs as a demand, and accepts a high level that has
held for 2.0 µs. -/
def sprFilter (demand : Bool) (ns : Nat) : Bool := if demand then decide (1000 < ns) else decide (2000 ≤ ns)

/-- SPR_A_DEMAND (R425, R427): the filter accepts a demand on SPR_A. -/
def Chip.sprADemand (s : Chip) (ns : Nat) : Chip :=
  s.onlyIf (sprFilter true ns) fun s => (((s.wr .shroudStat_sprA 1).shroudInputs).sprToMast).episodeOver

/-- SPR_B_DEMAND (R425, R428): the Shroud asserts its wires, latches hold_cause 2 and reports the demand. -/
def Chip.sprBDemand (s : Chip) (ns : Nat) : Chip :=
  s.onlyIf (sprFilter true ns) fun s => ((((s.wr .shroudStat_sprB 1).shroudInputs).shroudLatch .spr).sprToMast).episodeOver

/-- SPR_INPUT_RELEASE (R435): the filter accepts a high level on SPR_B (`b`) or on SPR_A. -/
def Chip.sprRelease (s : Chip) (b : Bool) (ns : Nat) : Chip :=
  s.onlyIf (sprFilter false ns) fun s =>
    (((s.wr (if b then .shroudStat_sprB else .shroudStat_sprA) 0).shroudInputs).sprToMast).episodeOver

/-- DISCREPANCY_TIMEOUT (R434, R435): the Shroud's timer and pair 0's each report a discrepancy of more than 10 ms; the
collector takes the first report of an episode. -/
def Chip.discrepancyTimeout (s : Chip) : Chip :=
  let long (t : Option Nat) : Bool := match t with
    | some t => decide (t + 10000000 < s.clock.now)
    | none => false
  let shroud := long s.spr.discAt
  let pair := long s.spr.pairDiscAt
  let fresh := pair && !s.spr.pairDiscLong
  let s := s.onlyIf fresh fun s => (s.wr .sprStat_discFault 1).count .sprStat_discCount
  let report := (fresh || (shroud && !s.spr.discLong)) && !s.spr.discReported
  let s := { s with spr := { s.spr with
    discLong := shroud, pairDiscLong := pair, discReported := s.spr.discReported || report } }
  let s := s.shroudRefresh
  if report then (if fresh then s.raise originSpr else s.raiseRigging originSpr) else s

/-- CONSENT_LAPSE (R431, R434): the Shroud takes stock of both consents and blocks where one is missing. -/
def Chip.consentLapse (s : Chip) : Chip := s.withdrawConsent.shroudRefresh

/-- The payload of a command telegram is permit or remove (R440). -/
def commandOf (payload : List Byte) : Option Bool :=
  if payload.drop 1 ≠ List.replicate 7 0 then none
  else match payload.head? with
    | some b => if b = 0xC3 then some true else if b = 0x3C then some false else none
    | none => none

/-- A copy passes the checks of R439 on itself: length, conn_id, payload against inverse, CRC-32C, and its content (R440). -/
def Chip.telegramValid (s : Chip) (bytes : List Byte) : Bool :=
  let payload := (bytes.drop 8).take 8
  bytes.length == 32 && leAt bytes 0 2 == s.rd .stCfg_connId &&
    (payload.map fun b => ~~~b) == (bytes.drop 16).take 8 &&
    leAt bytes 24 4 == crc32c (bytes.take 24) && (commandOf payload).isSome

/-- A telegram outcome with SEVERE (R439). -/
def Chip.telegramFails (s : Chip) (code : Nat) : Chip := (s.wr .stStat_lastFail code).raise originTelegram

/-- The waiting copy of a sequence is judged and leaves (R439). -/
def Chip.dropCopies (s : Chip) (seq : Nat) : Chip :=
  { s with spr := { s.spr with copies := s.spr.copies.filter fun c => c.seq != seq } }

/-- A telegram is accepted (R439): its command waits to act (R440). -/
def Chip.acceptTelegram (s : Chip) (seq : Nat) (bytes : List Byte) : Chip :=
  let s := (((s.wr .stSeq_seq seq).wr .stStat_supervising 1).count .stCount_accepted)
  { s with spr := { s.spr with acceptedAt := s.clock.now, watchOn := true, accepted := commandOf ((bytes.drop 8).take 8) } }

/-- A first or second copy of a sequence not judged yet is judged (R439). -/
def Chip.judgeCopy (s : Chip) (port seq : Nat) (bytes : List Byte) : Chip :=
  let last := s.rd .stSeq_seq
  let watched := s.on .stStat_supervising
  if !s.telegramValid bytes then (s.dropCopies seq).telegramFails 1
  else if watched && decide (seq ≤ last) then s.count .stCount_stale
  else if watched && decide (last + 1 < seq) then (s.dropCopies seq).telegramFails 4
  else match s.spr.copies.find? fun c => c.seq == seq with
    | none =>
      let c : TelegramCopy := { seq, port, bytes, arrived := s.clock.now }
      { s with spr := { s.spr with copies := s.spr.copies ++ [c] } }
    | some c =>
      let s := s.dropCopies seq
      if c.arrived + 2000000 < s.clock.now then s.telegramFails 3
      else if c.bytes ≠ bytes then s.telegramFails 2
      else s.acceptTelegram seq bytes

/-- SAFE_TELEGRAM_RX (R437 to R439): a frame of Ethertype 0x88B5 by port `port`. Only kind 1 on the configured pair is a
copy; a sequence already seen on the same port is stale; a sequence already judged is judged once only. -/
def Chip.safeTelegram (s : Chip) (port : Nat) (bytes : List Byte) : Chip :=
  if !s.on .stCfg_enabled || port / 2 != s.rd .stCfg_pair || byteAt bytes 2 != 1 then s
  else
    let seq := leAt bytes 4 4
    if s.spr.seen.contains (seq, port) then s.count .stCount_stale
    else
      let waiting := s.spr.copies.any fun c => c.seq == seq
      let old := s.on .stStat_supervising && decide (seq ≤ s.rd .stSeq_seq)
      let judged := !waiting && !old && s.spr.seen.any fun x => x.1 == seq
      let s := { s with spr := { s.spr with seen := s.spr.seen ++ [(seq, port)] } }
      if judged then s else s.judgeCopy port seq bytes

/-- PERMIT_COMMAND (R440): an accepted permit acts; the Mast die may consent. -/
def Chip.permitCommand (s : Chip) : Chip :=
  if s.spr.accepted = some true then
    let s := (s.wr .stStat_permitted 1).wr .sprStat_stDemand 0
    { s with spr := { s.spr with accepted := none } }
  else s

/-- REMOVE_COMMAND (R440): an accepted remove acts as an SPR_A demand does. -/
def Chip.removeCommand (s : Chip) : Chip :=
  if s.spr.accepted = some false then
    let entry := !s.sprDemand
    let s := (s.wr .stStat_permitted 0).wr .sprStat_stDemand 1
    let s := { s with spr := { s.spr with accepted := none } }
    (s.onlyIf entry fun s => s.count .sprStat_demands).sprReaction
  else s

/-- TELEGRAM_COPY_TIMEOUT (R439): 2 ms after a first copy no second has come. -/
def Chip.copyTimeout (s : Chip) (seq : Nat) : Chip :=
  match s.spr.copies.find? fun c => c.seq == seq with
  | some c => if c.arrived + 2000000 ≤ s.clock.now then (s.dropCopies seq).telegramFails 3 else s
  | none => s

/-- TELEGRAM_WATCH_EXPIRY (R439): no telegram accepted for t_watch, counted from the last acceptance. -/
def Chip.watchExpiry (s : Chip) : Chip :=
  if s.spr.watchOn && decide (s.spr.acceptedAt + 100000 * s.rd .stTime_tWatch ≤ s.clock.now) then
    let s := s.telegramFails 5
    { s with spr := { s.spr with watchOn := false } }
  else s

/-- The status telegram (R437, R442). -/
def Chip.statusTelegram (s : Chip) : List Byte :=
  let hold := s.mode == .safeHold
  let payload : List Byte := (if hold then 0x3C else 0xC3) :: BitVec.ofNat 8 (s.rd .modeStat_holdCause) ::
    leBytes 4 (s.rd .stSeq_seq) ++ [0, 0]
  let head := leBytes 2 (s.rd .stCfg_connId) ++ [2, 0] ++ leBytes 4 s.spr.statusSeq ++ payload ++ payload.map fun b => ~~~b
  head ++ leBytes 4 (crc32c head) ++ [0, 0, 0, 0]

/-- STATUS_TELEGRAM_SEND (R442, R487): every t_tel the status telegram enters the trip queue of both ports, its seq raised by
1. -/
def Chip.sendStatus (s : Chip) : Chip :=
  if s.on .stCfg_enabled ∧ (s.spr.statusSeq = 0 ∨ s.spr.statusAt + 100000 * s.rd .stTime_tTel ≤ s.clock.now) then
    let s := { s with spr := { s.spr with statusSeq := (s.spr.statusSeq + 1) % 2 ^ 32, statusAt := s.clock.now } }
    s.enqueuePair (s.rd .stCfg_pair) 7 (.telegram s.statusTelegram)
  else s

end Sys2Proof.Machine
end

