-- ==== Sys2Proof/Machine/Storage.lean ====
section
/-! DEFINITION. Attached storage, the ledger and the disturbance records (R562 to R589). -/

namespace Sys2Proof.Machine

/-- Milliseconds of PTP time as UTC milliseconds (R579). -/
def utcMs (ptpNs : Nat) : Nat := ptpNs / 1000000 - 1000 * Config.utcOffset

/-- The time of a ledger entry (R579): UTC milliseconds where PTP time is valid, otherwise milliseconds of the timebase. -/
def Chip.ledgerTime (s : Chip) : Bool × Nat :=
  if s.on .ptpStat_locked then (true, utcMs s.ptpNow) else (false, s.clock.tb / 1000000)

/-- The bytes of a ledger entry (R579): header, body, CRC-32, padded with 0xFF to a multiple of 16. -/
def LedgerEntry.bytes (e : LedgerEntry) : List Byte :=
  let len := 20 + e.body.length + 4
  let head := leBytes 1 e.kind ++ leBytes 1 (flag e.timeValid) ++ leBytes 2 len ++ leBytes 4 e.seq ++ leBytes 4 e.start ++
    leBytes 8 e.time ++ e.body
  head ++ leBytes 4 (crc32 head) ++ List.replicate ((16 - len % 16) % 16) 0xFF

/-- The first block of a region, and how many blocks it has: 0 ANCHOR, 1 to 4 BOOT and IMAGE, 5 LEDGER, 6 LOG, 7 RECORDS
(R571). -/
def regionFirst : Nat → Nat
  | 0 => 0
  | 1 => 4
  | 2 => 24
  | 3 => 44
  | 4 => 84
  | 5 => 124
  | 6 => 188
  | _ => 444
def Chip.regionCount (s : Chip) : Nat → Nat
  | 0 => 4
  | 1 | 2 => 20
  | 3 | 4 => 40
  | 5 => 64
  | 6 => 256
  | _ => s.rd .nvDev_blocks - 444

/-- The good blocks a region needs (R571). -/
def regionNeeds : Nat → Nat
  | 0 => 2
  | 1 | 2 => 16
  | 3 | 4 => 32
  | 5 => 48
  | 6 => 64
  | _ => 65

/-- The region of a block. -/
def regionOf (b : Nat) : Nat := ((List.range 8).filter fun r => decide (regionFirst r ≤ b)).foldl max 0

/-- The good blocks of a region in order (R569). -/
def Chip.goodBlocks (s : Chip) (r : Nat) : List Nat :=
  (List.range' (regionFirst r) (s.regionCount r)).filter fun b => !s.storage.bad.contains b

/-- A region has fewer good blocks than it needs (R571). -/
def Chip.regionShort (s : Chip) (r : Nat) : Bool := decide ((s.goodBlocks r).length < regionNeeds r)

/-- `short` follows the regions; each region that becomes short raises one event (R571). -/
def Chip.checkRegions (s : Chip) : Chip :=
  let short := (List.range 8).filter s.regionShort
  let s := s.each (short.filter fun r => !s.storage.shortRegions.contains r) fun s _ => s.raise originStorageLost
  { s with storage := { s.storage with shortRegions := short } }.wrFlag .nvStat_short (!short.isEmpty)

/-- The erase count of LOG and RECORDS blocks as NV_BLOCKS shows it, in units of 2 cycles (R576). -/
def Chip.showErases (s : Chip) : Chip :=
  let top := (s.storage.erases.filter fun e => decide (188 ≤ e.1)).foldl (fun m e => max m e.2) 0
  s.wr .nvBlocks_eraseMax (min (top / 2) 65535)

/-- A block is erased: its pages read as all ones. -/
def Chip.eraseBlock (s : Chip) (b : Nat) : Chip :=
  { s with storage := { s.storage with erases := storePut s.storage.erases b 0 (storeGet s.storage.erases b 0 + 1)
                                       nand := s.storage.nand.filter fun p => p.1 / 64 != b } }.showErases

/-! ## The BOOT and IMAGE slots -/

/-- The device drives the balls of the octal serial memory port (R94, R562): they are at high impedance while PORST_N is low, and no
operation of the flash is begun then. -/
def Chip.serialPortDriven (s : Chip) : Bool := !s.modes.porstLow

/-- A page of a BOOT or IMAGE slot as it stands in the array, by its number 64 × block + page, and its write. -/
def Chip.flashPage (s : Chip) (p : Nat) : NandPage := storeGet s.storage.nand p {}
def Chip.putFlash (s : Chip) (p : Nat) (x : NandPage) : Chip :=
  { s with storage := { s.storage with nand := storePut s.storage.nand p {} x } }

/-- A page of the controller's own in the format of R565, in its block: the metadata name the region, the block's place in it and its
erase count. -/
def Chip.programFlash (s : Chip) (b page : Nat) (payload : List Byte) (writeSeq : Nat) : Chip :=
  let r := regionOf b
  s.putFlash (64 * b + page)
    (nandPage payload { region := r, logical := b - regionFirst r, writeSeq, erases := storeGet s.storage.erases b 0 })

/-- Bytes that the spec lists without their layout, in the `n` bytes they stand in: what is left of those is 0xFF. -/
def padTo (n : Nat) (bytes : List Byte) : List Byte := (List.range n).map fun i => bytes.getD i 0xFF

/-- Pages from page 0 of a block on, 4,096 bytes each, with the next write sequences. -/
def Chip.programBlock (s : Chip) (b : Nat) (bytes : List Byte) : Chip :=
  let n := (bytes.length + 4095) / 4096
  let s := s.each (List.range n) fun s k => s.programFlash b k ((bytes.drop (4096 * k)).take 4096) (s.storage.nextWriteSeq + k)
  { s with storage := { s.storage with nextWriteSeq := s.storage.nextWriteSeq + n } }

/-- The bad-block marker of a block is set (R565, R569). -/
def Chip.markerSet (s : Chip) (b : Nat) : Bool := s.storage.marked.contains b || (s.flashPage (64 * b)).marked

/-- The good blocks of a slot, by its region, in order: those of BOOT by the markers alone (R573). -/
def Chip.slotBlocks (s : Chip) (r : Nat) : List Nat :=
  if r ≤ 2 then (List.range' (regionFirst r) (s.regionCount r)).filter fun b => !s.markerSet b else s.goodBlocks r

/-- The pages of a slot in the order in which a copy fills them, from page 0 of its first good block onward (R572). -/
def Chip.slotPages (s : Chip) (r : Nat) : List Nat :=
  (s.slotBlocks r).flatMap fun b => (List.range 64).map fun i => 64 * b + i

/-- A copy as it is read out of its slot: whether the page of its header and directory reads, whether all its pages do, and its bytes,
those of its last page whole. -/
structure SlotCopy where
  headerReads : Bool := true
  pagesRead : Bool := true
  bytes : List Byte := []
  deriving DecidableEq, Repr

/-- The payload of a page; none where a codeword is uncorrectable. -/
def Chip.payload (s : Chip) (p : Nat) : Option (List Byte) := ((s.flashPage p).read.content).map (·.1)

/-- The pages of a copy by its header page (R76, R572, R594): that page alone where its length field is above every length a header check accepts, since
such a copy is refused by its header. -/
def copyPages (head : List Byte) : Nat :=
  if 6291456 < leAt head 0x10 4 then 1 else max 1 ((leAt head 0x10 4 + 4095) / 4096)

/-- The copy in a slot (R83, R571, R572, R595): its header and directory lie in its first page; a slot that is short gives a read
error. -/
def Chip.slotCopy (s : Chip) (r : Nat) : SlotCopy :=
  match (s.slotPages r).head?.bind s.payload with
  | none => { headerReads := false, pagesRead := false }
  | some head =>
    let n := copyPages head
    let rest := (((s.slotPages r).take n).drop 1).map s.payload
    let whole := decide (n ≤ (s.slotPages r).length) && rest.all (·.isSome) && !s.regionShort r
    { pagesRead := whole, bytes := head ++ (if whole then rest.flatMap fun x => x.getD [] else []) }

/-- The erased pages ahead of the ledger's write point (R578). -/
def Chip.showLedger (s : Chip) : Chip :=
  s.wr .nvLedger_erasedPages (64 - s.storage.writePage + 64 * s.storage.erased.length)

/-- The page is written at the write point, which moves on to the next page or the next erased block (R578). -/
def Chip.putPage (s : Chip) (entries : List LedgerEntry) : Chip :=
  let st := s.storage
  let p : LedgerPage := { block := st.writeBlock, page := st.writePage, writeSeq := st.nextPageSeq, entries }
  let s := s.programFlash p.block p.page (entries.flatMap LedgerEntry.bytes) p.writeSeq
  let st := { st with pages := st.pages ++ [p], nextPageSeq := st.nextPageSeq + 1, writePage := st.writePage + 1 }
  let st := if st.writePage < 64 then st else
    match st.erased with
    | b :: r => { st with writeBlock := b, writePage := 0, erased := r }
    | [] => st
  let st := { st with nand := s.storage.nand }
  { s with storage := st }.showLedger

/-- Whether two entries are of one kind as R578 carries it forward: totals by point, scrub by copy. -/
def sameKind (a b : LedgerEntry) : Bool :=
  a.kind == b.kind && (!(a.kind == 1 || a.kind == 9) || a.body.head? == b.body.head?)

/-- The entries of a page that can be read (R579). -/
def LedgerPage.sound (p : LedgerPage) : List LedgerEntry :=
  if p.readable then ((p.entries.mapIdx fun k e => (k, e)).filter fun x => !p.lost.contains x.1).map (·.2) else []

/-- All readable entries, oldest first. -/
def Chip.ledgerEntries (s : Chip) : List LedgerEntry := s.storage.pages.foldl (fun l p => l ++ p.sound) []

/-- The entries R578 carries forward out of a block: the newest of each listed kind that still lies there. -/
def Chip.toCarry (s : Chip) (b : Nat) : List LedgerEntry :=
  let here := (s.storage.pages.filter fun p => p.block == b).foldl (fun l p => l ++ p.sound) []
  let all := s.ledgerEntries
  here.filter fun e => (e.kind == 1 || e.kind == 4 || e.kind == 5 || e.kind == 6 || e.kind == 8 || e.kind == 9) &&
    !all.any fun f => sameKind e f && decide (e.seq < f.seq)

/-- The oldest written block is carried forward into the write point and erased (R578). -/
def Chip.carryBlock (s : Chip) : Chip :=
  match s.storage.pages with
  | [] => s
  | p :: _ =>
    let carry := s.toCarry p.block
    let n := s.storage.nextSeq
    let fresh := carry.mapIdx fun k e => { e with seq := n + k }
    let s := { s with storage := { s.storage with nextSeq := n + fresh.length } }
    let s := if fresh.isEmpty then s else s.putPage fresh
    let s := (s.eraseBlock p.block).count .nvLedger_carryForwards
    { s with storage := { s.storage with pages := s.storage.pages.filter fun q => q.block != p.block
                                         erased := s.storage.erased ++ [p.block] } }.showLedger

/-- A carry-forward that is due takes place once it holds leave (R578). -/
def Chip.tryCarry (s : Chip) : Chip :=
  if !s.storage.carryDue then s
  else
    let s := s.askLeave .ledgerCarry
    if !s.holdsLeave .ledgerCarry then s
    else (({ s with storage := { s.storage with carryDue := false } }).carryBlock).returnLeave .ledgerCarry

/-- Where the write point has entered the second-to-last erased block, a carry-forward is due (R578). -/
def Chip.carryForward (s : Chip) : Chip :=
  if s.storage.writePage ≠ 0 ∨ 1 < s.storage.erased.length then s
  else { s with storage := { s.storage with carryDue := true } }.tryCarry

/-- The body of a shutdown entry (R580). -/
def ShutdownRecord.body (r : ShutdownRecord) : List Byte :=
  leBytes 2 r.sensor ++ leBytes 2 (unsigned 16 r.reading) ++ leBytes 1 r.limSet ++ leBytes 1 r.mode ++ leBytes 1 r.reef

/-- The shutdown record that a page holds. -/
def Chip.recordOf (s : Chip) (p : LedgerJob × List (Nat × List Byte)) : Option ShutdownRecord :=
  if p.1 = .shutdown then s.thermal.records.find? fun r => p.2 == [(7, r.body)] else none

/-- The time that the entries of a page carry (R524, R579): a shutdown record its own, the others the present time. -/
def Chip.pageTime (s : Chip) (p : LedgerJob × List (Nat × List Byte)) : Bool × Nat :=
  match s.recordOf p with
  | some r => (r.ptpValid, if r.ptpValid then utcMs r.time else r.time / 1000000)
  | none => s.ledgerTime

/-- One page of entries is programmed at the write point (R578, R579). -/
def Chip.programPage (s : Chip) (t : Bool × Nat) (bodies : List (Nat × List Byte)) : Chip :=
  let n := s.storage.nextSeq
  let entries := bodies.mapIdx fun k x =>
    { kind := x.1, timeValid := t.1, seq := n + k, start := s.rd .saStart_start, time := t.2, body := x.2 : LedgerEntry }
  let s := { s with storage := { s.storage with nextSeq := n + entries.length } }
  (s.putPage entries).carryForward

/-- The bad-block table is written to page 0 of the first two good blocks of ANCHOR, with its CRC-32 (R570), once the flash takes a
program. -/
def Chip.writeTable (s : Chip) : Chip :=
  if !s.storage.tableDue || !s.serialPortDriven || !s.on .flTemp_inRange then s
  else
    let bytes := padTo 4092 (Config.tableBytes s.storage.bad)
    let s := { s with storage := { s.storage with tableDue := false } }
    (s.each ((s.goodBlocks 0).take 2) fun s b => (s.eraseBlock b).programBlock b (bytes ++ leBytes 4 (crc32 bytes))).wr .nvStat_anchorValid 1

/-- A page is handed to the controller to be written to the ledger. -/
def Chip.queuePage (s : Chip) (j : LedgerJob) (bodies : List (Nat × List Byte)) : Chip :=
  { s with storage := { s.storage with jobs := s.storage.jobs ++ [(j, bodies)] } }

/-- The body of a lockout entry (R580). -/
def LockoutEntry.body (e : LockoutEntry) : List Byte :=
  leBytes 1 e.cause ++ (e.sticky.map fun w => leBytes 4 w).flatten ++ (e.esc.map fun w => leBytes 4 w).flatten

/-- The first lockout entry as a page that may be written now: it is wanted, its bits are taken (R413), and it holds leave or asks
for none (R53, R59, R581). -/
def Chip.lockoutPage (s : Chip) : Option (LedgerJob × List (Nat × List Byte)) :=
  match s.modes.lockoutEntries with
  | e :: _ =>
    if e.waits.isSome || s.modes.lockoutRefused.isSome || !(e.noLeave || s.holdsLeave .lockoutWrite) then none
    else some (.lockout, [(4, e.body)])
  | [] => none

/-- The page the controller writes next (R581): the final save, then a shutdown record, then the lockout entry, then the others
in order. -/
def Chip.nextPage (s : Chip) : Option (LedgerJob × List (Nat × List Byte)) :=
  let of (j : LedgerJob) := s.storage.jobs.find? fun x => x.1 == j
  (((of .final).orElse fun _ => of .shutdown).orElse fun _ => (of .cleared).orElse fun _ => s.lockoutPage).orElse fun _ =>
    s.storage.jobs.head?

/-- A page has left the queue. -/
def Chip.donePage (s : Chip) (p : LedgerJob × List (Nat × List Byte)) : Chip :=
  { s with storage := { s.storage with jobs := s.storage.jobs.erase p } }

/-- A program or an erase is refused for the flash temperature (R530): a save and the final save are refused (R369, R371), a
shutdown record stays pending, with step 3 of R524 at once (R525), and the lockout entry awaits its retry (R59); the other pages
wait. -/
def Chip.refusePage (s : Chip) (p : LedgerJob × List (Nat × List Byte)) : Chip :=
  let s := s.count .flTemp_refused
  match p.1 with
  | .save =>
    let s := ((s.donePage p).returnLeave .metrologySave).wr .metStat_saveRefused 1
    let s := { s with metrology := { s.metrology with retryFrom := some s.clock.now } }
    (s.count .metStat_refusals).raise originMetrology
  | .final => (((s.donePage p).wr .metStat_saveRefused 1).count .metStat_refusals).raise originMetrology
  | .shutdown =>
    let s := { (s.donePage p).wr .thStat_recordPending 1 with thermal := { s.thermal with recordTriedAt := s.clock.now } }
    let s := s.raise originStorage
    if s.on .thStat_shutdownPending then s.shutdownStep3 else s
  | .lockout =>
    { (s.returnLeave .lockoutWrite).raise originStorage with modes := { s.modes with lockoutRefused := some s.clock.now } }
  | _ => s.raise originStorage

/-- What a written save takes off a point (R369, R372): the unmeasured time and the gaps that its entries hold. -/
def Chip.saveTaken (s : Chip) (entries : List (Nat × List Byte)) (k : Nat) : Chip :=
  let mine := entries.filter fun e => byteAt e.2 0 == k
  let ms := ((mine.find? fun e => e.1 == 1).map fun e => leAt e.2 2 4).getD 0
  let gaps := (mine.filter fun e => e.1 == 2 && byteAt e.2 1 != 3).length
  let r := storeGet s.metrology.points k {}
  let ns := r.unmeasuredNs - 1000000 * ms
  let s := { s with metrology := { s.metrology with
    points := storePut s.metrology.points k {} { r with unmeasuredNs := ns, gaps := r.gaps.drop gaps } } }
  s.wr .mptStat_unmeasuredMs (min 16777215 (ns / 1000000)) k

/-- Pages that wait to be written of a job give way to a later one, which holds all that they hold. -/
def Chip.dropJobs (s : Chip) (j : LedgerJob) : Chip :=
  { s with storage := { s.storage with jobs := s.storage.jobs.filter fun x => x.1 != j } }

/-- The time for which the device has been powered (R574). -/
def Chip.poweredNs (s : Chip) : Nat := s.clock.now - s.storage.unpowered

/-- The scrub entry of copy `c` is in the ledger: its 30 days count from here (R574). -/
def Chip.noteRefreshed (s : Chip) (c : Nat) : Chip :=
  let at_ := (s.poweredNs, if s.on .ptpStat_locked then some s.ptpNow else none)
  { s with storage := { s.storage with refreshed := storePut s.storage.refreshed c (0, none) at_ } }

/-- What a written page brings about at once (R369, R372, R574): leave is returned, saves are counted, the unmeasured time and the
gaps written with it start anew. -/
def Chip.pageWritten (s : Chip) (p : LedgerJob × List (Nat × List Byte)) : Chip :=
  let s := s.donePage p
  let s := { s with storage := { s.storage with written := s.storage.written ++ [p.1] } }
  match p.1 with
  | .save | .final =>
    let s := (s.returnLeave .metrologySave).wr .metStat_saves ((s.rd .metStat_saves + 1) % 65536)
    let s := s.each [0, 1] fun s k => s.saveTaken p.2 k
    let held := (p.2.filter fun e => e.1 == 4).length
    { s.onlyIf (p.1 == .final) fun s => s.dropJobs .cleared with
      modes := { s.modes with lockoutEntries := s.modes.lockoutEntries.drop held } }
  | .lockout =>
    { s.returnLeave .lockoutWrite with modes := { s.modes with lockoutEntries := s.modes.lockoutEntries.drop 1 } }
  | .shutdown =>
    match s.recordOf p with
    | some r => { s with thermal := { s.thermal with records := s.thermal.records.erase r } }
    | none => s
  | .scrub => s.each p.2 fun s e => s.noteRefreshed (byteAt e.2 0)
  | _ => s

/-- The lockout entry asks for leave (R59, R532). -/
def Chip.askLockout (s : Chip) : Chip :=
  match s.modes.lockoutEntries with
  | e :: _ => if e.waits.isSome || s.modes.lockoutRefused.isSome || e.noLeave then s else s.askLeave .lockoutWrite
  | [] => s

/-- LEDGER_WRITE (R59, R530, R570, R578 to R581): a table or a carry-forward that waits is written; then the page that comes next is
programmed at the write point, or refused for the flash temperature. With no erased page ahead it waits. -/
def Chip.ledgerWrite (s : Chip) : Chip :=
  let s := (s.onlyIf (s.serialPortDriven && s.on .flTemp_inRange) fun s => s.writeTable.tryCarry).askLockout
  match s.nextPage with
  | none => s
  | some p =>
    if !s.serialPortDriven || decide (64 ≤ s.storage.writePage) then s
    else if s.on .flTemp_inRange then (s.programPage (s.pageTime p) p.2).pageWritten p else s.refusePage p

/-- A written page is reported once. -/
def Chip.takeWritten (s : Chip) (j : LedgerJob) : Bool × Chip :=
  (s.storage.written.contains j, { s with storage := { s.storage with written := s.storage.written.filter (· != j) } })

/-- The newest readable entry of a kind (R587). -/
def Chip.newestEntry (s : Chip) (kind : Nat) : Option LedgerEntry :=
  (s.ledgerEntries.filter fun e => e.kind == kind).getLast?

/-- The pages of a slot stand anew in its good blocks, as they stood in them before a block went bad: an interrupted write goes on in
the next good block (R569, R572). -/
def Chip.moveSlot (s old : Chip) (r : Nat) : Chip :=
  if 1 ≤ r ∧ r ≤ 4 then s.each ((s.slotPages r).zip (old.slotPages r)) fun s x => s.putFlash x.1 (old.flashPage x.2) else s

/-- The next block of a region's circle: its first good block from number `from_` on, or the first of all (R576). -/
def Chip.circleNext (s : Chip) (r from_ : Nat) : Nat :=
  match (s.goodBlocks r).find? fun b => decide (from_ ≤ b) with
  | some b => b
  | none => (s.goodBlocks r).headD (regionFirst r)

/-- The next block of LOG is erased, and what it held is lost (R576). -/
def Chip.takeLog (s : Chip) : Nat × Chip :=
  let b := s.circleNext 6 s.storage.logNext
  let s := s.eraseBlock b
  (b, { s with storage := { s.storage with logBlocks := s.storage.logBlocks.filter (fun x => x.1 != b), logNext := b + 1 } })

/-- The firmware log is written to a block of LOG, in the format of R565 (R576): 64 bytes for each entry, which is what a block has for each
of the log's 4,096 (DESIGN CHOICE, log entry 2001). -/
def Chip.putLog (s : Chip) (b : Nat) (log : List FirmwareLogEntry) : Chip :=
  let s := { s with storage := { s.storage with logBlocks := s.storage.logBlocks ++ [(b, log)] } }
  s.programBlock b (log.flatMap fun e => padTo 64 (Config.logBytes e.source e.cls e.merged e.ptp e.ms))

/-- The next block of RECORDS is erased, and the records of which it held a part are lost (R576). -/
def Chip.takeRecords (s : Chip) : Nat × Chip :=
  let b := s.circleNext 7 s.storage.recNext
  let s := s.eraseBlock b
  (b, { s with storage := { s.storage with records := s.storage.records.filter (fun x => !x.blocks.contains b), recNext := b + 1 } })

/-- The pages that stand in a block stand anew in another, with that one's erase count (R568, R569). -/
def Chip.copyBlock (s : Chip) (b target : Nat) : Chip :=
  let pages := (List.range 64).filterMap fun k => ((s.flashPage (64 * b + k)).read.content).map fun c => (k, c)
  s.each (pages.filter fun x => !(s.flashPage (64 * b + x.1)).isErased) fun s x =>
    s.putFlash (64 * target + x.1) (nandPage x.2.1 { x.2.2 with logical := target - regionFirst (regionOf target), erases := storeGet s.storage.erases target 0 })

/-- What stands in a block of LOG or RECORDS goes to the next block of its circle (R568, R569). -/
def Chip.moveCircle (s : Chip) (b : Nat) : Chip :=
  if regionOf b = 6 then
    match s.storage.logBlocks.find? fun x => x.1 == b with
    | some x =>
      let t := s.takeLog
      let s := t.2.copyBlock b t.1
      { s with storage := { s.storage with logBlocks := s.storage.logBlocks.filter (fun y => y.1 != b) ++ [(t.1, x.2)] } }
    | none => s
  else if s.storage.records.any (fun r => r.blocks.contains b) || s.storage.locked.any (fun r => r.blocks.contains b) then
    let t := s.takeRecords
    let s := t.2.copyBlock b t.1
    let moved (l : List Nat) : List Nat := l.map fun x => if x = b then t.1 else x
    { s with storage := { s.storage with records := s.storage.records.map (fun r => { r with blocks := moved r.blocks })
                                         locked := s.storage.locked.map (fun r => { r with blocks := moved r.blocks }) } }
  else s

/-- A program or an erase that the flash temperature forbids (R530): counted, with the event of the storage origin. -/
def Chip.refuseFlash (s : Chip) : Chip := (s.count .flTemp_refused).raise originStorage

/-- The write that a bad block interrupted goes on in the next good block of its region (R569): in the ledger with the page that was being
written, in LOG and RECORDS with what the block held. -/
def Chip.resumeWrite (s : Chip) (b : Nat) : Chip :=
  if regionOf b = 6 ∨ regionOf b = 7 then s.moveCircle b
  else if s.storage.writeBlock ≠ b then s
  else
    let moved := s.storage.pages.getLast?
    let st := s.storage
    let st := match st.erased with
      | n :: r => { st with writeBlock := n, writePage := 0, erased := r }
      | [] => st
    let s := { s with storage := st }
    match moved with
    | some p =>
      if p.block = b then
        ({ s with storage := { s.storage with pages := s.storage.pages.dropLast } }.putPage p.entries).carryForward
      else s.showLedger
    | none => s.showLedger

/-- A block goes bad (R569, R570): marked, added to the table, which is to be written anew, one event; the write that it interrupted goes
on elsewhere, unless the flash temperature forbids it (R530). -/
def Chip.markBad (s : Chip) (b : Nat) : Chip :=
  if s.storage.bad.contains b then s
  else
    let old := s
    let s := { s with storage := { s.storage with
      bad := b :: s.storage.bad, marked := b :: s.storage.marked.filter (· != b), erased := s.storage.erased.filter (· != b), tableDue := true } }
    let s := ((s.count .nvBlocks_grown).raise originStorage).checkRegions
    if s.on .flTemp_inRange then (((s.moveSlot old (regionOf b)).resumeWrite b).writeTable) else s.refuseFlash

/-- A ledger block is copied to a fresh block, which stands in its place in the order, and is erased (R568). -/
def Chip.refreshLedger (s : Chip) (b : Nat) : Chip :=
  match s.storage.erased with
  | [] => s
  | n :: r =>
    let s := s.copyBlock b n
    let st := s.storage
    let pages := st.pages.map fun p => if p.block = b then { p with block := n } else p
    let s := { s with storage := { st with
      pages, erased := r ++ [b], writeBlock := if st.writeBlock = b then n else st.writeBlock } }
    (s.eraseBlock b).showLedger

/-- The copy whose block needs a refresh is scheduled (R568); blocks of other regions are copied to a fresh block and erased, the table to
the first good blocks of ANCHOR; not where the flash temperature forbids it (R530), nor in LOG and RECORDS while degraded (R577). -/
def Chip.scheduleRefresh (s : Chip) (b : Nat) : Chip :=
  let r := regionOf b
  let s := s.raise originStorage
  if 1 ≤ r ∧ r ≤ 4 then
    let c := r - 1
    let s := { s with storage := { s.storage with scheduled := c :: s.storage.scheduled.filter (· != c) } }
    s.wr .nvScrub_earlyDue 1
  else if 6 ≤ r ∧ s.on .nvStat_degraded = true then s
  else if s.on .flTemp_inRange = false then s.refuseFlash
  else if r = 0 then { s with storage := { s.storage with tableDue := true } }.writeTable
  else if r = 5 then s.refreshLedger b
  else (s.moveCircle b).eraseBlock b

/-- What the controller notes of a page of a block that it has read (R567, R568): per codeword the bits corrected, or (none) more than
16 errors. -/
def Chip.noteRead (s : Chip) (block : Nat) (words : List (Option Nat)) : Chip :=
  let lost := (words.filter (·.isNone)).length
  let fixed := words.filterMap id |>.filter (0 < ·)
  let s := s.count .nvEcc_corrected 0 fixed.length
  let s := s.wr .nvEcc_maxBits (min 31 (fixed.foldl max (s.rd .nvEcc_maxBits)))
  let s := if lost = 0 then s else (s.count .nvEcc_uncorrectable 0 lost).raise originStorageLost
  if fixed.any fun n => decide (s.rd .nvCfg_refreshBits < n) then s.scheduleRefresh block else s

/-- Pages of a slot are read. -/
def Chip.readFlash (s : Chip) (pages : List Nat) : Chip :=
  s.each pages fun s p => s.noteRead (p / 64) (s.flashPage p).read.words

/-- The pages of a slot that hold its copy's header, and the others of its copy. -/
def Chip.headPages (s : Chip) (r : Nat) : List Nat := (s.slotPages r).take 1
def Chip.bodyPages (s : Chip) (r : Nat) (c : SlotCopy) : List Nat := ((s.slotPages r).take (copyPages c.bytes)).drop 1

/-- The places of the entries of a page whose CRC fails in the bytes read (R579): entry `k` of the list from byte `o` on. -/
def entriesLost (bytes : List Byte) : Nat → Nat → List LedgerEntry → List Nat
  | _, _, [] => []
  | k, o, e :: l =>
    let n := 20 + e.body.length
    let mine := (bytes.drop o).take (n + 4)
    let rest := entriesLost bytes (k + 1) (o + e.bytes.length) l
    if crc32 (mine.take n) = leAt mine n 4 then rest else k :: rest

/-- A page of the ledger has been read (R567, R579): with an uncorrectable codeword its entries are unreadable, else those whose own CRC
fails. -/
def Chip.ledgerPageRead (s : Chip) (block page : Nat) (found : Option (List Byte)) : Chip :=
  { s with storage := { s.storage with
    pages := s.storage.pages.map fun p =>
      if p.block = block ∧ p.page = page then
        match found with
        | none => { p with readable := false }
        | some bytes => { p with lost := entriesLost bytes 0 0 p.entries }
      else p } }

/-- A page of LOG or RECORDS with an uncorrectable codeword is reported to its requester as a read error (R567): the log of its block is
lost, and the record cannot be read. -/
def Chip.circlePageLost (s : Chip) (block : Nat) : Chip :=
  { s with storage := { s.storage with
    logBlocks := s.storage.logBlocks.filter fun x => x.1 != block
    records := s.storage.records.map fun r => if r.blocks.contains block then { r with readable := false } else r } }

/-- NAND_OP_COMPLETE (R564 to R569): an operation on a block has ended. A read finds a page as it stands in the array; a failed program
or erase marks the block bad. -/
def Chip.nandComplete (s : Chip) (block page : Nat) (read ok : Bool) (found : NandPage) : Chip :=
  let s := s.wr .nvStat_busy 0
  if read then
    let r := regionOf block
    let x := found.read
    let s := s.putFlash (64 * block + page) found
    let s := s.onlyIf (r == 5) fun s => s.ledgerPageRead block page (x.content.map (·.1))
    let s := s.onlyIf (decide (6 ≤ r) && x.content.isNone) fun s => s.circlePageLost block
    s.noteRead block x.words
  else if ok then s
  else s.markBad block

/-- NAND_OP_TIMEOUT (R564, R569): an operation that exceeds its maximum by more than 100 % is treated as failed. -/
def Chip.nandTimeout (s : Chip) (block : Nat) (read : Bool) : Chip :=
  let s := s.wr .nvStat_busy 0
  if read then s.raise originStorageLost else s.markBad block

/-- The device identities are read, at every cold and warm reset (R563, R564): the present devices meet the profile where device 0
answers. -/
def Chip.readIdentities (s : Chip) : Chip :=
  let d := s.storage.devices
  (((s.wrFlag .nvDev_dev0 d.1).wrFlag .nvDev_dev1 d.2.1).wrFlag .nvDev_profileOk (d.1 && d.2.2.1)).wr .nvDev_blocks d.2.2.2

/-- At a cold start the flash is looked at (R563, R564, R570, R571): the devices found, and the bad-block table where a copy is valid, with the
markers, which are authoritative; where none is, the table is built of the markers, and is to be written; and the pages that a
programmer wrote (R94, R95), which make a copy that failed its refresh a new one (R575). A first use of the ledger finds all its good
blocks erased. -/
def Chip.flashFound (s : Chip) (dev0 dev1 profile : Bool) (blocks : Nat) (table : Option (List Nat)) (markers : List Nat)
    (pages : List (Nat × NandPage)) : Chip :=
  let s := { s with storage := { s.storage with devices := (dev0, dev1, profile, blocks), marked := markers } }.readIdentities
  let s := match table with
    | some t =>
      { s.wr .nvStat_anchorValid 1 with storage := { s.storage with bad := t ++ markers.filter fun b => !t.contains b } }
    | none => { s.wr .nvStat_firstStart 1 with storage := { s.storage with bad := markers, tableDue := true } }
  let s := s.each pages fun s x => s.putFlash x.1 x.2
  let s := { s with storage := { s.storage with
    failedCopies := s.storage.failedCopies.filter fun c => !pages.any fun x => regionOf (x.1 / 64) == c + 1 } }
  let s := s.wr .nvBlocks_factory (min markers.length 255)
  let s := if s.storage.pages.isEmpty ∧ s.storage.erased.isEmpty then
      match s.goodBlocks 5 with
      | b :: r => { s with storage := { s.storage with writeBlock := b, erased := r } }
      | [] => s
    else s
  (s.showLedger.writeTable).checkRegions

/-- The controller writes nothing to LOG or RECORDS while degraded, in HOLD-UP or outside the flash temperature (R530, R577,
R581), nor while PORST_N is low (R94). -/
def Chip.logOpen (s : Chip) : Bool :=
  s.serialPortDriven && s.on .flTemp_inRange && !s.on .nvStat_degraded && !s.on .modeStat_holdUp

/-- LOG_WRITE (R576, R577): under leave, the next good block of LOG is erased and the firmware log written to it. -/
def Chip.logWrite (s : Chip) : Chip :=
  let s := s.askLeave .logWrite
  if !s.holdsLeave .logWrite then s
  else if !s.logOpen then (s.onlyIf (!s.on .flTemp_inRange) Chip.refuseFlash).returnLeave .logWrite
  else
    let t := s.takeLog
    (t.2.putLog t.1 s.faults.log).returnLeave .logWrite

/-- Days in nanoseconds. -/
def dayNs : Nat := 86400000000000

/-- The newest scrub entry of copy `c` that the ledger holds (R574). -/
def Chip.scrubEntry (s : Chip) (c : Nat) : Option LedgerEntry :=
  (s.ledgerEntries.filter fun e => e.kind == 9 && byteAt e.body 0 == c).getLast?

/-- A copy is due for refresh (R574): scheduled, or 30 days after its last refresh by PTP time where its scrub entry's time and the present
time are both valid, by powered time otherwise. -/
def Chip.refreshAge (s : Chip) (c : Nat) : Nat :=
  let powered := s.poweredNs - (storeGet s.storage.refreshed c (0, none)).1
  match s.scrubEntry c with
  | some e => if e.timeValid && s.on .ptpStat_locked then 1000000 * (utcMs s.ptpNow - e.time) else powered
  | none => s.poweredNs
def Chip.refreshDue (s : Chip) (c : Nat) : Bool :=
  s.storage.scheduled.contains c || decide (30 * dayNs ≤ s.refreshAge c)

/-- The number of sample sets the ring holds (R583). -/
def Chip.ringSets (s : Chip) : Nat := 16777216 / (2 * max 1 (s.rd .drCfg_channels))

/-- The words of the configured channels as they stand (R583). -/
def Chip.sampleSet (s : Chip) : List Nat :=
  (List.range (s.rd .drCfg_channels)).map fun c => s.sramHalf (s.rd .drChan_addr c)

/-- The ring positions of the open and the locked records. -/
def Chip.heldSets (s : Chip) : List Nat :=
  let o := match s.storage.openRecord with
    | some r => r.sets.map (·.1)
    | none => []
  o ++ (s.storage.locked.map fun r => r.sets.map (·.1)).flatten

/-- DR_STAT follows the recorder (R589). -/
def Chip.showRecorder (s : Chip) : Chip :=
  let state := if !s.on .drCfg_enabled then 0 else if s.storage.openRecord.isSome then 2 else 1
  ((s.wr .drStat_state state).wrFlag .drStat_locked (!s.storage.locked.isEmpty)).wr .drStat_stored s.storage.records.length

/-- One sample set is written to a position of the ring; it belongs to the open record until the end of its span. -/
def Chip.putSet (s : Chip) (pos : Nat) : Chip :=
  let n := s.rd .drCfg_channels
  let set := s.sampleSet
  let s := s.sramTouch ((List.range n).map fun c => s.rd .drChan_addr c)
  let s := s.each (List.range n) fun s c => s.sramPutHalf (0x11000000 + 2 * (n * pos + c)) (set.getD c 0)
  let ring := s.storage.ring.filter (fun x => x.1 != pos) ++ [(pos, s.clock.now)]
  let o := s.storage.openRecord.map fun r =>
    if s.clock.now < r.trigAt + 1000000 * s.rd .drSpan_postMs then { r with sets := r.sets ++ [(pos, s.clock.now)] } else r
  { s with storage := { s.storage with ring, ringNext := (pos + 1) % s.ringSets, openRecord := o } }

/-- RECORDER_SAMPLE (R583): at a whole multiple of 100 µs after the grid last started, every configured channel is sampled into
the next unlocked set. -/
def Chip.recorderSample (s : Chip) : Chip :=
  let due := s.on .drCfg_enabled && s.clock.gridOn && !s.on .pllStat_synthDown && decide ((s.clock.tb - s.clock.b0) % 100000 = 0)
  if !due then s
  else
    let held := s.heldSets
    let c := s.ringSets
    match (List.range c).find? fun k => !held.contains ((s.storage.ringNext + k) % c) with
    | some k => (s.putSet ((s.storage.ringNext + k) % c)).showRecorder
    | none => s

/-- A new record starts (R584): with the unlocked sets of the last pre_ms. -/
def Chip.startRecord (s : Chip) (cause : RecordCause) : Chip :=
  let pre := s.rd .drSpan_preMs
  let span := 10 * (pre + s.rd .drSpan_postMs)
  let waiting := (s.storage.locked.map fun r => r.sets.length).foldl (· + ·) 0
  if s.ringSets < waiting + span then s.count .drCount_lost
  else
    let held := s.heldSets
    let sets := s.storage.ring.filter fun x => !held.contains x.1 && decide (s.clock.now ≤ x.2 + 1000000 * pre)
    let short := decide (sets.length < 10 * pre)
    let r : DrRecord := { id := s.storage.nextId, trigAt := s.clock.now, causes := [cause], sets,
                          channels := s.rd .drCfg_channels, truncated := short }
    let s := s.onlyIf short fun s => s.count .drCount_truncated
    { s with storage := { s.storage with openRecord := some r, nextId := s.storage.nextId + 1 } }.showRecorder

/-- RECORD_LOCK (R585): at the end of its post-trigger span the record is locked and asks for leave to be flushed. -/
def Chip.recordLock (s : Chip) : Chip :=
  match s.storage.openRecord with
  | some r =>
    if r.trigAt + 1000000 * s.rd .drSpan_postMs ≤ s.clock.now then
      let held := r.sets.map (·.1)
      { s with storage := { s.storage with openRecord := none, locked := s.storage.locked ++ [r]
                                           ring := s.storage.ring.filter fun x => !held.contains x.1 } }.showRecorder.askLeave .recordFlush
    else s
  | none => s

/-- RECORD_TRIGGER (R584): the oldest trigger joins the record whose post-trigger span runs, starts a new one, or is lost. -/
def Chip.recordTrigger (s : Chip) : Chip :=
  match s.triggers with
  | [] => s
  | c :: rest =>
    let s := { s with triggers := rest }.recordLock
    match s.storage.openRecord with
    | some r =>
      let s := s.count .drCount_joined
      if r.causes.length < 8 then
        { s with storage := { s.storage with openRecord := some { r with causes := r.causes ++ [c] } } }
      else s
    | none => if s.on .drCfg_enabled then s.startRecord c else s

/-- The pages a record needs in RECORDS: a header page and its sets packed (R585). -/
def DrRecord.pages (r : DrRecord) : Nat := 1 + (r.sets.length * 2 * r.channels + 4095) / 4096

/-- A record as it is stored: its samples read from the ring. -/
def Chip.storeRecord (s : Chip) (r : DrRecord) (blocks : List Nat) : StoredRecord :=
  let valid := s.on .ptpStat_locked
  let stamp (t : Nat) : Nat := if valid then utcMs (s.ptpNow - (s.clock.now - t)) else t / 1000000
  let first := (r.sets.head?.map (·.2)).getD r.trigAt
  { id := r.id, timeValid := valid, first := stamp first, trig := stamp r.trigAt, causes := r.causes, truncated := r.truncated,
    channels := r.channels, times := r.sets.map fun x => (x.2 - first) / 1000,
    samples := r.sets.map fun x => (List.range r.channels).map fun c => s.sramHalf (0x11000000 + 2 * (r.channels * x.1 + c)),
    blocks }

/-- The bytes of a stored record (R585): one header page, then the sample sets in time order, packed across pages. -/
def Chip.recordBytes (s : Chip) (r : StoredRecord) : List Byte :=
  padTo 4096 (Config.recordHeader r.id r.first r.trig r.samples.length r.channels s.storage.channelTable) ++ r.samples.flatMap fun set => set.flatMap (leBytes 2)

/-- The blocks that the next MiB of a record takes are erased, each before it is written (R576). -/
def Chip.takeBlocks (s : Chip) : Nat → List Nat → List Nat × Chip
  | 0, l => (l, s)
  | n + 1, l => let t := s.takeRecords; t.2.takeBlocks n (l ++ [t.1])

/-- The last page of a record is written (R585): it stands in the blocks it took, and is unlocked. -/
def Chip.recordDone (s : Chip) (r : DrRecord) : Chip :=
  let s := s.sramTouch (r.sets.flatMap fun x => (List.range r.channels).map fun c => 0x11000000 + 2 * (r.channels * x.1 + c))
  let x := s.storeRecord r r.blocks
  let bytes := s.recordBytes x
  let s := s.each (r.blocks.mapIdx fun k b => (k, b)) fun s y => s.programBlock y.2 ((bytes.drop (262144 * y.1)).take 262144)
  let s := { s with storage := { s.storage with records := s.storage.records ++ [x], locked := s.storage.locked.drop 1 } }
  ((s.wr .drLast_id r.id).wr .drStat_flushing 0).showRecorder

/-- The next MiB of the oldest locked record is written, four blocks of it, or what is left (R576, R585). -/
def Chip.writeMib (s : Chip) (r : DrRecord) (rest : List DrRecord) : Chip :=
  let need := min 4 ((r.pages + 63) / 64 - r.blocks.length)
  let t := s.takeBlocks need r.blocks
  let r := { r with flushed := r.flushed + 1, blocks := t.1 }
  { t.2.wr .drStat_flushing 1 with storage := { t.2.storage with locked := r :: rest } }

/-- RECORD_FLUSH (R576, R577, R585): under leave, up to 1 MiB of the oldest locked record is written; with its last page the
record is unlocked. Each leave serves 1 MiB. -/
def Chip.recordFlush (s : Chip) : Chip :=
  match s.storage.locked with
  | [] => s
  | r :: rest =>
    let s := s.askLeave .recordFlush
    if !s.holdsLeave .recordFlush then s
    else if !s.logOpen then (s.onlyIf (!s.on .flTemp_inRange) Chip.refuseFlash).returnLeave .recordFlush
    else
      let s := (s.writeMib r rest).returnLeave .recordFlush
      let s := match s.storage.locked with
        | r :: _ => if r.pages ≤ 256 * r.flushed then s.recordDone r else s
        | [] => s
      s.onlyIf (!s.storage.locked.isEmpty) fun s => s.askLeave .recordFlush

/-- The .dat file of a record (R586). -/
def StoredRecord.dat (r : StoredRecord) : List Byte :=
  (r.samples.mapIdx fun k set => leBytes 4 (k + 1) ++ leBytes 4 (r.times.getD k 0) ++ (set.map fun w => leBytes 2 w).flatten).flatten

end Sys2Proof.Machine
end

