-- ==== Sys2Proof/Machine/Metrology.lean ====
section
/-! DEFINITION. Billed quantities (R355 to R379): input samples, windows, credits, saves and gaps. Energies are exact
fractions until they are credited; where the spec states no rounding, a free value decides it (log entry 2). Point 0 is the MV
point, point 1 the LV point. -/

namespace Sys2Proof.Machine

/-- A fraction brought to a whole number where the spec does not say how: the whole number below it or the one above, by a
free value; a whole number stays itself. -/
def Chip.roundOpen (s : Chip) (q : Rat) : Int × Chip :=
  if q.den = 1 then (q.num, s)
  else
    let r := s.freeNat
    (q.floor + (r.1 % 2 : Nat), r.2)

/-- The used phases of a point (R355). -/
def Chip.usedPhases (s : Chip) (k : Nat) : List Nat := (List.range 3).filter fun ph => s.on .mptSrc_used (3 * k + ph)

/-- The input interval of a point in nanoseconds (R355). -/
def Chip.meterInterval (s : Chip) (k : Nat) : Nat :=
  if k = 0 then s.tCtlNs else s.rd .adcSeqTrig_div (s.rd .mptCfg_seq 1) * s.tCtlNs

/-- ρ as a fraction (R358): elapsed PTP time over elapsed grid time across the valid captures of the last second, none of
them from before a stop of the grid, and its default without them. -/
def Chip.rho (s : Chip) : Nat × Nat :=
  let l := s.metrology.captures.filter fun c => decide (s.clock.now ≤ c.2.2 + 1000000000)
  match l, l.getLast? with
  | a :: _, some b => if a.1 < b.1 then (b.2.1 - a.2.1, b.1 - a.1) else if s.spreadOn then (10000, 9975) else (1, 1)
  | _, _ => if s.spreadOn then (10000, 9975) else (1, 1)

/-- A valid boundary capture is kept for a second (R358). -/
def Chip.keepCapture (s : Chip) (ptp : Nat) : Chip :=
  let l := (s.metrology.captures ++ [(s.boundaryTb, ptp, s.clock.now)]).filter fun c => decide (s.clock.now ≤ c.2.2 + 1000000000)
  { s with metrology := { s.metrology with captures := l } }

/-- An entry of the LV sequence that a phase names is enabled and its channel served by a slice that is READY (R65). -/
def Chip.entryReady (s : Chip) (n : Nat) : Bool :=
  let q := s.rd .mptCfg_seq 1
  s.on .adcSeqCfg_enabled q && decide (s.rd .adcSeqCfg_first q ≤ n) && decide (n ≤ s.rd .adcSeqCfg_last q) &&
    (List.range 25).any fun c => s.rd .adcSlice_serving c == s.rd .adcEntry_channel n && !s.on .adcSlice_retired c &&
      s.rdBit .readyIo_slice c

/-- A point is READY (R65). -/
def Chip.meterReady (s : Chip) (k : Nat) : Bool :=
  s.on .mptCfg_enabled k && (s.usedPhases k).all fun ph =>
    if k = 0 then
      s.on .ptpStat_locked && s.on .svStat_valid (s.rd .mptSrc_vSrc ph / 16) && s.on .svStat_valid (s.rd .mptSrc_iSrc ph / 16)
    else s.entryReady (s.rd .mptSrc_vSrc (3 + ph)) && s.entryReady (s.rd .mptSrc_iSrc (3 + ph))

/-- The READY bits of the points follow their conditions (R65, R66); class_lost follows no_rotation, and ew_armed the mode
(R371, R375). -/
def Chip.meterStatus (s : Chip) : Chip :=
  let s := (s.wrFlag .readyIo_meterMv (s.meterReady 0)).wrFlag .mptStat_ready (s.meterReady 0) 0
  let s := (s.wrFlag .readyIo_meterLv (s.meterReady 1)).wrFlag .mptStat_ready (s.meterReady 1) 1
  let s := s.wrFlag .metStat_classLost (s.on .adcStat_noRotation)
  s.wrFlag .metStat_ewArmed ((s.mode == .run || s.mode == .shadow) && !s.on .modeStat_holdUp)

/-- An input sample joins the window in progress of a point in use (R355, R356, R359). -/
def Chip.addSample (s : Chip) (k : Nat) (missing : Bool) (instant : Nat) (v i : List Int) : Chip :=
  if !s.on .mptCfg_enabled k || s.metrology.closedEarly then s
  else
    let r := s.rho
    let x : MeterSample := { bad := missing || !s.on .mptStat_ready k, instant, num := s.meterInterval k * r.1, den := r.2, v, i }
    let m := s.meter k
    let m := if m.firstStart.isNone then { m with firstStart := some instant } else m
    s.setMeter k { m with window := m.window ++ [x] }

/-- The MV point takes one input sample at every boundary, from the streams resampled at it (R355, R356). -/
def Chip.meterBoundary (s : Chip) (fresh : Nat → Bool) (full : Nat → Nat → Int) : Chip :=
  let src (f : Fld) : List Nat := (List.range 3).map fun ph => s.rd f ph
  let used := s.usedPhases 0
  let missing := !used.all fun ph =>
    let a := s.rd .mptSrc_vSrc ph / 16
    let b := s.rd .mptSrc_iSrc ph / 16
    s.on .svStat_valid a && fresh a && s.on .svStat_valid b && fresh b
  let value (x : Nat) : Int := full (x / 16) (x % 16)
  s.addSample 0 missing s.boundaryTb ((src .mptSrc_vSrc).map value) ((src .mptSrc_iSrc).map value)

/-- The LV point takes one input sample from every run of its sequence (R355, R356). -/
def Chip.meterRun (s : Chip) (q sampling : Nat) : Chip :=
  if q != s.rd .mptCfg_seq 1 then s
  else
    let src (f : Fld) : List Nat := (List.range 3).map fun ph => s.rd f (3 + ph)
    let missing := !(s.usedPhases 1).all fun ph =>
      (s.adcEntry (s.rd .mptSrc_vSrc (3 + ph))).latest.valid && (s.adcEntry (s.rd .mptSrc_iSrc (3 + ph))).latest.valid
    let value (n : Nat) : Int := (s.adcEntry n).latest.value
    s.addSample 1 missing sampling ((src .mptSrc_vSrc).map value) ((src .mptSrc_iSrc).map value)

/-- ADC_RESULT_COMPLETE with the LV point's share in it. -/
def Chip.adcResult (s : Chip) (n : Nat) (new : List Bool) (retries : Nat) (arrives : Bool) : Chip :=
  let q := (s.sequenceOf n).getD 0
  let r := s.sequence q
  let ends := s.adcDue n && s.runComplete q (n :: r.done)
  let s := s.adcComplete n new retries arrives
  if ends then s.meterRun q (s.clock.tb + r.sampling - s.clock.now) else s

/-- A quantity of the samples at instant `t`, linear between adjacent samples (R357, R359); none where one of them is missing. -/
def interpolate (f : MeterSample → Int) (t : Rat) : List MeterSample → Option Rat
  | a :: b :: r =>
    if t = a.instant then (if a.bad then interpolate f t (b :: r) else some (f a))
    else if (a.instant : Rat) < t ∧ t < b.instant then
      if a.bad || b.bad then none
      else some (f a + (t - a.instant) / ((b.instant : Rat) - a.instant) * (f b - f a))
    else interpolate f t (b :: r)
  | [a] => if t = a.instant ∧ a.bad = false then some (f a) else none
  | [] => none

/-- The positive zero crossings of a quantity since instant `from_`, interpolated between samples (R360). -/
def crossings (f : MeterSample → Int) (from_ : Int) : List MeterSample → List Rat
  | a :: b :: r =>
    let rest := crossings f from_ (b :: r)
    if from_ ≤ a.instant ∧ f a < 0 ∧ 0 ≤ f b ∧ a.bad = false ∧ b.bad = false then
      ((a.instant : Rat) + (-(f a) : Rat) / (f b - f a : Int) * ((b.instant : Rat) - a.instant)) :: rest
    else rest
  | _ => []

/-- The nominal frequency in hertz. -/
def Chip.nominalHz (s : Chip) (k : Nat) : Rat := if s.on .mptCfg_fNom k then 60 else 50

/-- The frequency of a point (R360): whole periods between the crossings of the last 200 ms, in real time; none where it lies
outside its range. -/
def Chip.frequency (s : Chip) (k : Nat) : Option Rat :=
  match s.usedPhases k with
  | [] => none
  | ph :: _ =>
    let m := s.meter k
    let all := m.past ++ m.window
    let end_ := (all.getLast?.map (·.instant)).getD 0
    let c := crossings (fun x => x.v.getD ph 0) ((end_ : Int) - 200000000) all
    match c, c.getLast? with
    | a :: _, some b =>
      if a < b then
        let r := s.rho
        let f : Rat := ((c.length - 1 : Nat) : Rat) * 1000000000 * r.2 / ((b - a) * r.1)
        let n := s.nominalHz k
        if n - 5 ≤ f ∧ f ≤ n + 5 then some f else none
      else none
    | _, _ => none

/-- MPT_FREQ follows the measurement (R360). -/
def Chip.showFrequency (s : Chip) (k : Nat) : Chip :=
  match s.frequency k with
  | some f =>
    let r := s.roundOpen (f * 1000)
    (r.2.wr .mptFreq_valid 1 k).wr .mptFreq_freq (min 65535 r.1.toNat) k
  | none => s.wr .mptFreq_valid 0 k

/-- The integer square root, by halving from a power of two above it. -/
def isqrtFrom : Nat → Nat → Nat → Nat
  | 0, _, r => r
  | b + 1, n, r => if (r + 2 ^ b) * (r + 2 ^ b) ≤ n then isqrtFrom b n (r + 2 ^ b) else isqrtFrom b n r
def isqrt (n : Nat) : Nat := isqrtFrom (n.log2 / 2 + 1) n 0

/-- An interpolated value, or a free one where the samples it needs are not there (log entry 2). -/
def Chip.orOpen (s : Chip) (q : Option Rat) : Rat × Chip :=
  match q with
  | some x => (x, s)
  | none => let r := s.freeNat; ((signed 24 r.1 : Int), r.2)

/-- The scale from raw × raw × nanoseconds to 2⁻³² of a unit of energy (R357, R364): gains in 2⁻¹⁶ µV and µA, and
3.6 J to a unit. -/
def Chip.energyScale (s : Chip) (k ph : Nat) : Rat :=
  (s.rd .mptVgain_gain (3 * k + ph) : Rat) * s.rd .mptIgain_gain (3 * k + ph) / (3600000000000 * 1000000000)

/-- The sums of v × i × dt and v_q × i × dt over a window (R357, R359): each sample paired with the current at t + i_delay. -/
def Chip.sums (s : Chip) (k ph : Nat) (all : List MeterSample) (quarter : Rat) : List MeterSample → Rat × Rat × Chip
  | [] => (0, 0, s)
  | x :: r =>
    let delay := s.rdInt .mptIdelay_iDelay (3 * k + ph)
    let i := s.orOpen (interpolate (fun y => y.i.getD ph 0) ((x.instant : Rat) + delay) all)
    let q := i.2.orOpen (interpolate (fun y => y.v.getD ph 0) ((x.instant : Rat) - quarter) all)
    let dt : Rat := (x.num : Rat) / x.den
    let v : Rat := (x.v.getD ph 0 : Int)
    let rest := q.2.sums k ph all quarter r
    (v * i.1 * dt + rest.1, q.1 * i.1 * dt + rest.2.1, rest.2.2)

/-- The apparent energy of a phase squared, in (2⁻³² unit)² (R359): V_rms² × I_rms² × (sum of dt)². -/
def apparentSquared (scale : Rat) (ph : Nat) (w : List MeterSample) : Rat :=
  let vv := w.foldl (fun a x => a + x.v.getD ph 0 * x.v.getD ph 0) (0 : Int)
  let ii := w.foldl (fun a x => a + x.i.getD ph 0 * x.i.getD ph 0) (0 : Int)
  let dt := w.foldl (fun a x => a + (x.num : Rat) / x.den) (0 : Rat)
  let n : Rat := w.length
  scale * scale * vv * ii * dt * dt / (n * n)

/-- E_P and E_Q of one phase over a window in 2⁻³² unit, and E_S as the whole number below it and whether E_S lies above that
number (R359). -/
def Chip.phaseEnergy (s : Chip) (k ph : Nat) (all w : List MeterSample) : (Rat × Rat × Nat × Nat) × Chip :=
  let f := (s.frequency k).getD (s.nominalHz k)
  let rho := s.rho
  let quarter : Rat := 250000000 / f * rho.2 / rho.1
  let scale := s.energyScale k ph
  let r := s.sums k ph all quarter w
  let sgn : Rat := if s.on .mptCfg_reverse k then -1 else 1
  let sq := apparentSquared scale ph w
  let root := isqrt sq.floor.toNat
  let above : Nat := if ((root * root : Nat) : Rat) = sq then 0 else 1
  ((sgn * scale * r.1, sgn * scale * r.2.1, root, above), r.2.2)

/-- A 64-bit register of two halves. -/
def Chip.rd64 (s : Chip) (lo hi : Fld) (i : Nat) : Nat := s.rd lo i + 2 ^ 32 * s.rd hi i
def Chip.wr64 (s : Chip) (lo hi : Fld) (v i : Nat) : Chip := (s.wr lo v i).wr hi (v / 2 ^ 32) i

/-- A credit of `c` in 2⁻³² unit to the delta and the total of register `r` (R364 to R366). -/
def Chip.creditRegister (s : Chip) (k r c : Nat) : Chip :=
  let i := 28 * k + r
  let m := s.meter k
  let d := storeGet m.deltaRes r 0 + c
  let t := storeGet m.totalRes r 0 + c
  let s := s.setMeter k { m with deltaRes := storePut m.deltaRes r 0 (d % 2 ^ 32), totalRes := storePut m.totalRes r 0 (t % 2 ^ 32) }
  let s := s.wr64 .mptDeltaLo_energy .mptDeltaHi_energy (s.rd64 .mptDeltaLo_energy .mptDeltaHi_energy i + d / 2 ^ 32) i
  s.wr64 .mptTotalLo_energy .mptTotalHi_energy (s.rd64 .mptTotalLo_energy .mptTotalHi_energy i + t / 2 ^ 32) i

/-- The signed energy of a window joins the net register of a phase (R362, R367). -/
def Chip.creditNet (s : Chip) (k ph : Nat) (c : Int) : Chip :=
  let i := 4 * k + ph
  let m := s.meter k
  let x := ((storeGet m.netRes ph 0 : Nat) : Int) + c
  let s := s.setMeter k { m with netRes := storePut m.netRes ph 0 (x % (2 ^ 32 : Nat)).toNat }
  s.wr64 .mptNetLo_energy .mptNetHi_energy
    (unsigned 64 (signed 64 (s.rd64 .mptNetLo_energy .mptNetHi_energy i) + x / (2 ^ 32 : Nat))) i

/-- The quantity that a reactive energy is credited to (R361): quadrants I to IV are 2 to 5. -/
def quadrant (ep eq : Rat) : Nat :=
  if 0 ≤ ep then (if 0 ≤ eq then 2 else 5) else (if 0 ≤ eq then 3 else 4)

/-- A number known to lie above `n` and below `n + above`, or to be `n` where `above` is 0, as a whole number near it: by a free
value where the spec does not say which. -/
def Chip.roundAbove (s : Chip) (n above : Nat) : Nat × Chip :=
  if above = 0 then (n, s)
  else
    let r := s.freeNat
    (n + r.1 % (above + 1), r.2)

/-- The credits of one phase, or of the total, for a window (R361, R362). -/
def Chip.creditPhase (s : Chip) (k ph : Nat) (ep eq : Rat) (es above : Nat) : Chip :=
  let p := s.roundOpen ep
  let q := p.2.roundOpen eq
  let a := q.2.roundAbove es above
  let s := a.2
  let s := s.creditRegister k (4 * (if 0 ≤ ep then 0 else 1) + ph) p.1.natAbs
  let s := s.creditRegister k (4 * quadrant ep eq + ph) q.1.natAbs
  (s.creditRegister k (24 + ph) a.1).creditNet k ph p.1

/-- The credits of a measured window (R359 to R362). -/
def Chip.creditWindow (s : Chip) (k : Nat) (all w : List MeterSample) : Chip :=
  let step := fun (x : (Rat × Rat × Nat × Nat) × Chip) (ph : Nat) =>
    let e := x.2.phaseEnergy k ph all w
    let s := e.2.creditPhase k ph e.1.1 e.1.2.1 e.1.2.2.1 e.1.2.2.2
    ((x.1.1 + e.1.1, x.1.2.1 + e.1.2.1, x.1.2.2.1 + e.1.2.2.1, x.1.2.2.2 + e.1.2.2.2), s)
  let t := (s.usedPhases k).foldl step ((0, 0, 0, 0), s)
  t.2.creditPhase k 3 t.1.1 t.1.2.1 t.1.2.2.1 t.1.2.2.2

/-- A gap of kind 2 is known at the first window credited after a warm reset (R372). -/
def Chip.closeWarmGap (s : Chip) (k start : Nat) : Chip :=
  let m := s.meter k
  match m.warmFrom with
  | some t => s.setMeter k { m with warmFrom := none, gaps := m.gaps ++ [⟨2, some ((start - t) / 1000000)⟩] }
  | none => s

/-- A window of a point ends (R361, R363): credited, or unmeasured. `w` are its samples; `rest` those after it. -/
def Chip.endWindow (s : Chip) (k : Nat) (w rest : List MeterSample) : Chip :=
  let m := s.meter k
  let s := s.showFrequency k
  let s := if w.any (·.bad) then s.unmeasured k w
    else
      let s := s.creditWindow k (m.past ++ w ++ rest) w
      let end_ := ((w.getLast?.map (·.instant)).getD 0) + s.meterInterval k
      let s := s.closeWarmGap k ((w.head?.map (·.instant)).getD 0)
      s.setMeter k { s.meter k with lastEnd := some end_ }
  let last := (w.getLast?.map (·.instant)).getD 0
  let past := (m.past ++ w).filter fun x => decide (last ≤ x.instant + 250000000)
  s.setMeter k { s.meter k with past, window := rest }

/-- The samples a window needs before it can be credited: one more than n_w where a current is taken after its voltage (R357). -/
def Chip.windowNeeds (s : Chip) (k : Nat) : Nat :=
  s.rd .mptCfg_nW k + flag ((s.usedPhases k).any fun ph => decide (0 < s.rdInt .mptIdelay_iDelay (3 * k + ph)))

/-- The time of the first window is found once PTP is locked, and a gap of kind 1 with it (R372, R373). -/
def Chip.resolveGap (s : Chip) (k : Nat) : Chip :=
  let m := s.meter k
  match m.coldFrom, m.firstStart with
  | some (valid, t), some start =>
    if s.on .ptpStat_locked then
      let at_ := utcMs (s.ptpNow - (s.clock.tb - start))
      let s := s.setMeter k { m with coldFrom := none, gaps := m.gaps ++ [⟨1, if valid then some (at_ - t) else none⟩] }
      s.wr .mptStat_gapPending 0 k
    else s
  | _, _ => s

/-- METERING_WINDOW_END (R359 to R364): n_w input samples of a point are there. -/
def Chip.windowEnd (s : Chip) (k : Nat) : Chip :=
  let m := s.meter k
  let n := s.rd .mptCfg_nW k
  if s.on .mptCfg_enabled k && decide (s.windowNeeds k ≤ m.window.length) then
    (s.endWindow k (m.window.take n) (m.window.drop n)).resolveGap k
  else s

/-- Step 2 of the early-warning save (R371): each point closes its window in progress and credits it; no later one is. -/
def Chip.closeEarly (s : Chip) : Chip :=
  let s := s.each [0, 1] fun s k =>
    let m := s.meter k
    if s.on .mptCfg_enabled k && !m.window.isEmpty then s.endWindow k m.window [] else s
  { s with metrology := { s.metrology with closedEarly := true } }

/-- The body of a totals entry (R580). -/
def Chip.totalsBody (s : Chip) (k : Nat) (final : Bool) : List Byte :=
  leBytes 1 k ++ leBytes 1 (flag final + 2 * flag (s.on .metStat_classLost)) ++ leBytes 4 (s.rd .mptStat_unmeasuredMs k) ++
    ((List.range 28).map fun r => leBytes 8 (s.rd64 .mptTotalLo_energy .mptTotalHi_energy (28 * k + r))).flatten

/-- The body of a gap entry (R373, R580): the bound is s_max × duration in mVAh, rounded up. -/
def Chip.gapBody (s : Chip) (k : Nat) (g : MeterGap) : List Byte :=
  let head := leBytes 1 k ++ leBytes 1 g.kind ++ leBytes 1 (flag g.ms.isSome)
  match g.ms with
  | some ms => head ++ leBytes 8 ms ++ leBytes 8 ((s.rd .mptSmax_sMax k * ms * 5 + 17) / 18)
  | none => head ++ List.replicate 8 0xFF ++ leBytes 8 0

/-- The entries of a save: for each enabled point the totals and its gaps, those of kind 3 included (R369, R372). -/
def Chip.saveEntries (s : Chip) (final : Bool) : List (Nat × List Byte) :=
  (([0, 1].filter fun k => s.on .mptCfg_enabled k).map fun k =>
    let u := s.rd .mptStat_unmeasuredMs k
    let gaps := (s.meter k).gaps ++ (if u = 0 then [] else [⟨3, some u⟩])
    (1, s.totalsBody k final) :: gaps.map fun g => (2, s.gapBody k g)).flatten

/-- A save is refused (R369). -/
def Chip.refuseSave (s : Chip) : Chip :=
  let s := (s.returnLeave .metrologySave).dropRequest .metrologySave
  let s := { s with metrology := { s.metrology with retryFrom := some s.clock.now } }
  ((s.wr .metStat_saveRefused 1).count .metStat_refusals).raise originMetrology

/-- A gap of kind 1 whose duration has not been found by the save that records it, or before the first periodic save, is written without
it (R372, R373). -/
def Chip.giveUpGap (s : Chip) (k : Nat) : Chip :=
  let m := s.meter k
  if m.coldFrom.isSome then
    (s.setMeter k { m with coldFrom := none, gaps := m.gaps ++ [⟨1, none⟩] }).wr .mptStat_gapPending 0 k
  else s
def Chip.giveUpGaps (s : Chip) : Chip := (s.giveUpGap 0).giveUpGap 1

/-- A save (R369): under leave and within the flash temperature its page is handed to the ledger; otherwise it is refused. -/
def Chip.save (s : Chip) : Chip :=
  let s := s.askLeave .metrologySave
  if s.holdsLeave .metrologySave && s.on .flTemp_inRange then
    let s := { s with metrology := { s.metrology with retryFrom := none } }.giveUpGaps
    (s.dropJobs .save).queuePage .save (s.saveEntries false)
  else (s.onlyIf (s.holdsLeave .metrologySave) fun s => s.count .flTemp_refused).refuseSave

/-- PERIODIC_SAVE (R369): when it falls due, counted from the start of the grid, in every mode and state except HOLD-UP. -/
def Chip.periodicSave (s : Chip) : Chip :=
  if s.clock.gridOn && !s.on .modeStat_holdUp && decide (s.metrology.nextSave ≤ s.clock.tb) then
    let next := s.metrology.nextSave + 60000000000 * s.rd .metCfg_saveInterval
    let s := { s with metrology := { s.metrology with nextSave := next, savedOnce := true } }
    s.giveUpGaps.save
  else s

/-- SAVE_RETRY (R369): a refused save is tried again 10 s later. -/
def Chip.saveRetry (s : Chip) : Chip :=
  match s.metrology.retryFrom with
  | some t => if t + 10000000000 ≤ s.clock.now ∧ s.on .modeStat_holdUp = false then s.save else s
  | none => s

/-- METROLOGY_SAVE (R370): the command of unit 0x0008 under the conditions of R369. -/
def Chip.metrologySave (s : Chip) : Chip := if s.on .modeStat_holdUp then s else s.save

/-- The fault image of a final save (R580). -/
def Chip.faultImage (s : Chip) : List Byte :=
  leBytes 1 (s.rd .modeStat_holdCause) ++ ((s.sourceWords .fsSticky_bits).map fun w => leBytes 4 w).flatten ++
    ((s.sourceWords .fsEsc_bits).map fun w => leBytes 4 w).flatten

/-- No save but the final one is written in HOLD-UP (R369, R371): one that waits is tried again later. -/
def Chip.holdSaves (s : Chip) : Chip :=
  if s.storage.jobs.any fun x => x.1 == .save then
    let s := (s.dropJobs .save).returnLeave .metrologySave
    { s with metrology := { s.metrology with retryFrom := some s.clock.now } }
  else s

/-- The final save (R371, R581): totals, fault image and lockout entry on one page, without leave. -/
def Chip.finalSave (s : Chip) : Chip :=
  let lock := s.modes.lockoutEntries.map fun e => (4, e.body)
  let s := s.giveUpGaps
  (s.dropJobs .final).queuePage .final (s.saveEntries true ++ [(3, s.faultImage)] ++ lock)

/-- FINAL_SAVE_WRITTEN (R371): the final page has reached flash; final_written tells of the present HOLD-UP. -/
def Chip.finalWritten (s : Chip) : Chip :=
  let r := s.takeWritten .final
  if r.1 then
    (r.2.onlyIf (s.on .modeStat_holdUp) fun s => s.wr .metStat_finalWritten 1).wrFlag .modeStat_lockoutPersisted
      (s.mode == .safeHold && s.modes.lockoutEntries.isEmpty)
  else s

/-- A number at the end of a totals body: register `r`. -/
def totalIn (body : List Byte) (r : Nat) : Nat := leAt body (6 + 8 * r) 8

/-- The newest readable totals entry of a point, and whether an unreadable page follows it (R372, R582). -/
def Chip.newestTotals (s : Chip) (k : Nat) : Option LedgerEntry :=
  (s.ledgerEntries.filter fun e => e.kind == 1 && byteAt e.body 0 == k).getLast?
def Chip.lostTotals (s : Chip) (k : Nat) : Bool :=
  let after := match s.newestTotals k with
    | some e => e.seq
    | none => 0
  s.storage.pages.any fun p => !p.readable && p.entries.any fun e => e.kind == 1 && byteAt e.body 0 == k && decide (after < e.seq)

/-- A point's totals and gap cases at a cold start (R366, R372, R582). -/
def Chip.restorePoint (s : Chip) (k : Nat) : Chip :=
  let s := match s.newestTotals k with
    | some e =>
      let s := s.each (List.range 28) fun s r => s.wr64 .mptTotalLo_energy .mptTotalHi_energy (totalIn e.body r) (28 * k + r)
      let s := s.wr .mptStat_totalsRestored 1 k
      if byteAt e.body 1 % 2 = 1 then s
      else (s.setMeter k { s.meter k with coldFrom := some (e.timeValid, e.time) }).wr .mptStat_gapPending 1 k
    | none => s
  if s.lostTotals k then s.setMeter k { s.meter k with gaps := (s.meter k).gaps ++ [⟨4, none⟩] } else s

/-- The lockout that the ledger records (R60): the last lockout entry, unless a later one cleared it. -/
def Chip.lockoutInLedger (s : Chip) : Option Nat :=
  match s.newestEntry 4 with
  | none => none
  | some e =>
    match s.newestEntry 5 with
    | some c => if e.seq < c.seq then none else some (byteAt e.body 0)
    | none => some (byteAt e.body 0)

/-- A new start count, written to the ledger with the reset's class (R507, R582). -/
def Chip.newStart (s : Chip) (count : Nat) : Chip :=
  let s := s.wr .saStart_start count
  let r := s.freeByte
  r.2.queuePage .start [(8, leBytes 4 (count % 2 ^ 32) ++ [r.1])]

/-- LEDGER_SCAN (R366, R372, R582): at a cold start, once and before the image is applied, the whole ledger is read; `unreadable` names the write
sequences of the pages of which a codeword is uncorrectable. -/
def Chip.ledgerScan (s : Chip) (unreadable : List Nat) : Chip :=
  if s.storage.scanned || s.modes.porstLow || s.applied then s
  else
    let pages := s.storage.pages.map fun p => if unreadable.contains p.writeSeq then { p with readable := false } else p
    let s := { s with storage := { s.storage with pages, scanned := true } }
    let s := s.each (s.storage.pages.filter fun p => unreadable.contains p.writeSeq) fun s p => s.noteRead p.block [none]
    let s := (s.restorePoint 0).restorePoint 1
    let s := { s with storage := { s.storage with lockoutFound := s.lockoutInLedger } }
    let last := match s.newestEntry 8 with
      | some e => leAt e.body 0 4
      | none => 0
    s.newStart (last + 1)

end Sys2Proof.Machine
end

