-- ==== Sys2Proof/Machine/Inputs.lean ====
section
/-! DEFINITION. Sampled-value and GOOSE input (R304 to R325). Instants of samples are compared as whole numbers: a sample
has the number J = S × f_s + smpCnt and the instant J / f_s. -/

namespace Sys2Proof.Machine

/-- Streams and subscriptions by number. -/
def Chip.stream (s : Chip) (n : Nat) : SvStream := storeGet s.inputs.streams n {}
def Chip.setStream (s : Chip) (n : Nat) (r : SvStream) : Chip :=
  { s with inputs := { s.inputs with streams := storePut s.inputs.streams n {} r } }
def Chip.goose (s : Chip) (g : Nat) : GooseSub := storeGet s.inputs.goose g {}
def Chip.setGoose (s : Chip) (g : Nat) (r : GooseSub) : Chip :=
  { s with inputs := { s.inputs with goose := storePut s.inputs.goose g {} r } }

/-- The rate f_s of a code (R304, R323). -/
def svRate : Nat → Nat
  | 1 => 14400
  | 2 => 4000
  | _ => 4800

/-- The number of the sample with count `cnt` whose instant is the latest at or before the arrival (R308). -/
def sampleNumber (f cnt arrival : Nat) : Nat :=
  let base := arrival * f / 1000000000
  let j := base / f * f + cnt
  if j ≤ base then j else j - f

/-- Sample `j` arrives too late, or is not there at PTP time `at_` (R310): after t_j + Δ. -/
def pastDelta (c : SvConfig) (j at_ : Nat) : Bool :=
  decide (j * 1000000000 + c.delta * 1000 * svRate c.rate < at_ * svRate c.rate)

/-- The run of consecutive good samples that ends with the last one received (R314): those after `runAfter`, newest first. -/
def goodSamples (after : Nat) : Nat → List SvSample → Nat
  | _, [] => 0
  | j, x :: l => if x.idx = j ∧ x.good = true ∧ after < j then 1 + goodSamples after (j - 1) l else 0

/-- The length of that run. -/
def SvStream.goodRun (r : SvStream) : Nat := goodSamples r.runAfter r.last r.samples.reverse

/-- A stream becomes invalid (R312): one event until it has been valid again. The first cause stays. A run of good samples begins anew
after a cause that no sample shows (R314). -/
def Chip.streamInvalid (s : Chip) (n reason : Nat) : Chip :=
  let r := s.stream n
  let r := if reason = 4 ∨ reason = 5 then { r with runAfter := r.last } else r
  let s := s.setStream n r
  if r.reported then s.wr .svStat_valid 0 n
  else
    ((s.setStream n { r with reported := true }).wr .svStat_valid 0 n).wr .svStat_invalidReason reason n
      |>.raise (originStream n)

/-- A value of an ASDU is checked where the stream's mask names it (R312, R323). -/
def usedValues (c : SvConfig) (a : SvAsduRx) : List SvQuality :=
  (a.values.mapIdx fun k v => (k, v.2)).filterMap fun x => if bitAt c.used x.1 then some x.2 else none

/-- The cause for which a sample makes its stream invalid, if any (R307, R312). -/
def sampleFault (c : SvConfig) (commission : Bool) (a : SvAsduRx) : Option Nat :=
  if !commission && a.values.any (·.2.test) then some 6
  else if (usedValues c a).any fun q => q.validity == 1 || q.operatorBlocked then some 2
  else none

/-- A sample is kept in the order of the numbers; the newest 128 stay for the resampler, more than the 72 that Δ spans (R309). -/
def keepSample (x : SvSample) (l : List SvSample) : List SvSample :=
  let l := l.filter (fun y => y.idx < x.idx) ++ [x] ++ l.filter fun y => x.idx < y.idx
  l.drop (l.length - 128)

/-- Sample `j` is declared missing (R310); two in a row make the stream invalid (R312). -/
def Chip.declareMissing (s : Chip) (n j : Nat) : Chip :=
  let r := s.stream n
  let two := r.missing.contains (j + 1) || (0 < j && r.missing.contains (j - 1))
  let s := (s.setStream n { r with missing := j :: r.missing }).count .svCount_missing n
  if two then s.streamInvalid n 1 else s

/-- One ASDU of a frame that its stream takes (R306 to R310, R313). -/
def Chip.takeAsdu (s : Chip) (n : Nat) (c : SvConfig) (frame : SvFrameRx) (a : SvAsduRx) : Chip :=
  let j := sampleNumber (svRate c.rate) a.smpCnt frame.arrival
  let r := s.stream n
  if r.heard.contains j || r.lateSeen.contains j then s
  else if r.missing.contains j then (s.setStream n { r with lateSeen := j :: r.lateSeen }).count .svCount_late n
  else if pastDelta c j frame.arrival then
    let s := s.setStream n { r with lateSeen := j :: r.lateSeen, seen := true }
    (s.declareMissing n j).count .svCount_late n
  else
    let commission := s.mode == .commission
    let fault := sampleFault c commission a
    let sim := commission && (frame.simulation || a.values.any (·.2.test))
    let x : SvSample := { idx := j, values := a.values.map (·.1), good := fault.isNone,
                          questionable := a.values.any fun v => v.2.validity == 2, simulated := sim }
    let s := s.setStream n { r with samples := keepSample x r.samples, heard := j :: r.heard, last := max j r.last, seen := true }
    let s := (s.wr .svStat_smpCnt a.smpCnt n).wrFlag .svStat_simulated sim n
    match fault with
    | some reason => s.streamInvalid n reason
    | none => s

/-- A stream discards a frame with the ASDUs `mine` for it (R304 to R307): counted once, the second copy not again. -/
def Chip.discardSv (s : Chip) (n : Nat) (c : SvConfig) (frame : SvFrameRx) (mine : List SvAsduRx) : Chip :=
  let r := s.stream n
  let keys := mine.map fun a => (frame.simulation, sampleNumber (svRate c.rate) a.smpCnt frame.arrival)
  if keys.all r.turned.contains then s
  else (s.setStream n { r with turned := keys ++ r.turned }).count .svCount_rejected n

/-- An ASDU within R304: its count is one of the rate's, and its values are those the stream takes. -/
def asduSupported (c : SvConfig) (a : SvAsduRx) : Bool :=
  decide (a.smpCnt < svRate c.rate) && decide (c.values ≤ a.values.length) && decide (a.values.length ≤ 16)

/-- A stream and a frame with ASDUs `mine` for it (R304, R305, R307, R312). -/
def Chip.svTake (s : Chip) (n : Nat) (c : SvConfig) (frame : SvFrameRx) (mine : List SvAsduRx) : Chip :=
  let discarded := s.discardSv n c frame mine
  if frame.simulation && s.mode != .commission then discarded
  else if mine.any fun a => a.confRev != c.confRev then discarded.streamInvalid n 4
  else if !frame.supported || decide (8 < frame.asdus.length) || !mine.all (asduSupported c) then discarded
  else if mine.any fun a => a.smpSynch != 2 then discarded.streamInvalid n 3
  else s.each mine fun s a => s.takeAsdu n c frame a

/-- SV_FRAME_RX (R304 to R308): a frame on the process-bus pair is taken by the streams it matches. -/
def Chip.svFrame (s : Chip) (port : Nat) (frame : SvFrameRx) : Chip :=
  if 2 ≤ port then s
  else s.each (List.range 16) fun s n =>
    match (s.stream n).cfg with
    | none => s
    | some c =>
      let mine := frame.asdus.filter fun a => a.svId == c.svId
      if frame.dst ≠ c.dst ∨ frame.appid ≠ c.appid ∨ mine.isEmpty = true then s else s.svTake n c frame mine

/-- SAMPLE_MISSING (R310, R312): the sample of second `second` and count `cnt` has not been received by t_j + Δ; two in a row
make the stream invalid. -/
def Chip.sampleMissing (s : Chip) (n second cnt : Nat) : Chip :=
  match (s.stream n).cfg with
  | none => s
  | some c =>
    let r := s.stream n
    let j := second * svRate c.rate + cnt
    let first := (r.samples.head?.map (·.idx)).getD (j + 1)
    if !r.seen || decide (j < first) || r.missing.contains j || r.heard.contains j ||
        !pastDelta c j (s.ptpNow + 1) then s
    else s.declareMissing n j

/-- What a boundary makes of a stream (R311), with the number of sample a where there is one. -/
inductive Resampled where
  | hold (a : Nat)
  | nothing (a : Option Nat)
  | value (a : Nat) (wide : Bool) (questionable : Bool) (xs : List Rat)
  deriving DecidableEq, Repr

/-- The resampler at the grid instant g (R311); `g` in nanoseconds of PTP time. -/
def resample (c : SvConfig) (r : SvStream) (g : Nat) : Resampled :=
  let f := svRate c.rate
  let before := r.samples.filter fun x => decide (x.idx * 1000000000 ≤ g * f)
  let after := r.samples.filter fun x => decide (g * f < x.idx * 1000000000)
  match before.getLast?, after.head? with
  | some a, none =>
    if r.missing.contains (a.idx + 1) || decide ((a.idx + 1) * 1000000000 ≤ g * f) then .nothing (some a.idx) else .hold a.idx
  | some a, some b =>
    if 2 < b.idx - a.idx then .nothing (some a.idx)
    else
      let w : Rat := ((g * f : Nat) - (a.idx * 1000000000 : Nat) : Int) / ((b.idx - a.idx : Nat) * 1000000000 : Rat)
      let xs := (List.range c.values).map fun v =>
        let p := a.values.getD v 0
        (p : Rat) + w * ((b.values.getD v 0 - p : Int) : Rat)
      .value a.idx (decide (b.idx - a.idx = 2)) (a.questionable || b.questionable) xs
  | none, _ => .nothing none

/-- A fraction rounded to the nearest whole number, halves upward. -/
def ratHalfUp (q : Rat) : Int := (q + 1 / 2).floor

/-- The block of a stream in the snapshot (R316). -/
def Chip.putStream (s : Chip) (n : Nat) (fresh questionable wide : Bool) (cnt : Nat) : Chip :=
  let base := 0x10450000 + 0x40 * n
  let w := 2 ^ 31 * s.rd .svStat_valid n + 2 ^ 30 * flag fresh + 2 ^ 29 * flag questionable +
    2 ^ 28 * s.rd .svStat_simulated n + 2 ^ 27 * flag wide + 2 ^ 24 * s.rd .svStat_invalidReason n + cnt % 65536
  let s := s.sramPutWord base w
  s.each (s.stream n).words.zipIdx fun s x => s.sramPutHalf (base + 0x10 + 2 * x.2) (unsigned 16 x.1)

/-- The Q1.15 value of a resampled value (R311), and whether it saturated. -/
def toQ15 (x : Rat) (scale : Nat) : Int × Bool :=
  let q := ratHalfUp (x * 32768 / scale)
  let v := clamp (-32768) 32767 q
  (v, v != q)

/-- One stream at a boundary (R311 to R316): `b` is the PTP time of the boundary where its capture is valid. Answers whether the
values were formed at this boundary. Late brackets and bridged ones are counted whether the stream is valid or not; a stream without
any sample keeps reason 7 (R312). -/
def Chip.resampleStream (s : Chip) (n : Nat) (b : Option Nat) : Bool × Chip :=
  match (s.stream n).cfg with
  | none => (false, s)
  | some c =>
    let r := s.stream n
    let cntOf (j : Nat) := j % svRate c.rate
    match b with
    | none => (false, (s.onlyIf r.seen fun s => s.streamInvalid n 5).putStream n false false false 0)
    | some b =>
      match resample c r (b - 1000 * c.delta) with
      | .hold a => (false, (s.count .svCount_late n).putStream n false false false (cntOf a))
      | .nothing a => (false, (s.onlyIf r.seen fun s => s.streamInvalid n 1).putStream n false false false ((a.map cntOf).getD 0))
      | .value a wide quest xs =>
        let s := s.onlyIf wide fun s => s.count .svCount_interpolated n
        let q := xs.mapIdx fun v x => toQ15 x (c.fullScale.getD v 1)
        let s := s.onlyIf (q.any (·.2)) fun s => s.wr .svStat_sat 1 n
        if !s.on .svStat_valid n && (decide (r.goodRun < 32) || decide (a + r.goodRun ≤ r.last)) then
          (false, s.putStream n false false wide (cntOf a))
        else
          let s := s.setStream n { r with words := q.map (·.1), full := xs.map ratHalfUp, reported := false }
          let s := (s.wr .svStat_valid 1 n).wr .svStat_invalidReason 0 n
          let s := s.onlyIf quest fun s => s.wr .svStat_questionable 1 n
          (true, s.putStream n true quest wide (cntOf a))

/-- The resampler at a boundary (R311): the streams whose values were formed, and the state. -/
def Chip.resampleAll (s : Chip) (b : Option Nat) : List Nat × Chip :=
  (List.range 16).foldl (fun x n =>
    let r := x.2.resampleStream n b
    (if r.1 then n :: x.1 else x.1, r.2)) ([], s)

/-- A trip event of a GOOSE subscription (R321, R322). -/
def Chip.gooseTrips (s : Chip) (g : Nat) : Chip := (s.count .goCount_trips).raise (originGooseTrip g)

/-- A GOOSE subscription becomes invalid (R318, R322): one event until it has been valid again. -/
def Chip.gooseInvalid (s : Chip) (g reason : Nat) : Chip :=
  let r := s.goose g
  if r.reported then s.wr .goStat_valid 0 g
  else
    let s := ((s.setGoose g { r with reported := true }).wr .goStat_valid 0 g).wr .goStat_invalidReason reason g
    let s := s.raise (originGoose g)
    let fails := match r.cfg with
      | some c => c.failTrip
      | none => false
    if fails && (reason == 1 || reason == 3) then s.gooseTrips g else s

/-- The value of a member in a message, where its type is the one the image names (R304, R317). -/
def memberIn (m : GooseMember) (data : List GooseValueRx) : Option Nat :=
  match data[m.position]?, m.dbpos with
  | some (.boolean b), false => some (flag b)
  | some (.dbpos v), true => some v.val
  | _, _ => none

/-- A member's bit: 1 for true or on (10) (R317). -/
def memberBit (m : GooseMember) (v : Nat) : Bool := if m.dbpos then v == 2 else v == 1

/-- An accepted message (R317 to R319, R321). -/
def Chip.gooseAccept (s : Chip) (g : Nat) (c : GooseConfig) (f : GooseFrameRx) : Chip :=
  let r := s.goose g
  let new := !r.seen || f.stNum != r.stNum
  let codes := c.members.map fun m => (memberIn m f.data).getD 0
  let vals := c.members.zip codes
  let now := (vals.mapIdx fun k x => (k, memberBit x.1 x.2)).foldl (fun a x => setBit a x.1 x.2) 0
  let moved := (codes.mapIdx fun k v => (k, v != r.values.getD k 0)).foldl (fun a x => setBit a x.1 x.2) 0
  let trip := vals.any fun x => x.1.trip && x.2 == x.1.tripValue
  let r := { r with stNum := f.stNum, sqNum := f.sqNum, seen := true, liveUntil := s.clock.now + 1000000 * f.ttl, reported := false,
                    values := if new then codes else r.values, changed := if new then r.changed ||| moved else r.changed }
  let s := ((s.setGoose g r).wr .goStat_valid 1 g).wr .goStat_invalidReason 0 g
  let s := s.wrFlag .goStat_simulated (f.simulation || f.test) g
  if new then
    let s := ((s.wr .goStat_values now g).wr .goStat_stNum f.stNum g).wrFlag .goStat_trip trip g
    if trip then s.gooseTrips g else s
  else s

/-- A subscription discards a message (R304, R305, R307): counted once, the second copy not again (R306). -/
def Chip.discardGoose (s : Chip) (g : Nat) (f : GooseFrameRx) : Chip :=
  let r := s.goose g
  let key := (f.simulation, f.stNum, f.sqNum)
  if r.turned.contains key then s else (s.setGoose g { r with turned := key :: r.turned }).count .goCount_rejected

/-- One subscription and a frame that matches it (R304 to R307, R318, R319): an older stNum is discarded before its other fields count. -/
def Chip.gooseTake (s : Chip) (g : Nat) (c : GooseConfig) (f : GooseFrameRx) : Chip :=
  let commission := s.mode == .commission
  if f.simulation && !commission then s.discardGoose g f
  else if f.confRev ≠ c.confRev then (s.discardGoose g f).gooseInvalid g 2
  else if !f.supported || c.members.any (fun m => (memberIn m f.data).isNone) then s.discardGoose g f
  else if (s.goose g).taken.contains (f.stNum, f.sqNum) then s
  else
    let s := s.setGoose g { s.goose g with taken := (f.stNum, f.sqNum) :: (s.goose g).taken }
    let r := s.goose g
    let wrap := r.stNum == 4294967295 && f.stNum == 1
    if r.seen && decide (f.stNum < r.stNum) && !wrap then s.count .goCount_rejected
    else if f.test && !commission then s.gooseInvalid g 4
    else if f.ndsCom then s.gooseInvalid g 3
    else if r.seen && f.stNum == r.stNum && decide (f.sqNum ≤ r.sqNum) then s
    else s.gooseAccept g c f

/-- GOOSE_FRAME_RX (R304 to R307, R318 to R322): a message is taken by the subscriptions of its pair that it matches. -/
def Chip.gooseFrame (s : Chip) (port : Nat) (f : GooseFrameRx) : Chip :=
  s.each (List.range 64) fun s g =>
    match (s.goose g).cfg with
    | none => s
    | some c =>
      if c.station == decide (2 ≤ port) && f.dst == c.dst && f.appid == c.appid && f.ref == c.ref then s.gooseTake g c f else s

/-- GOOSE_TTL_EXPIRY (R318, R322). -/
def Chip.gooseExpiry (s : Chip) (g : Nat) : Chip :=
  if s.on .goStat_valid g && decide ((s.goose g).liveUntil ≤ s.clock.now) then s.gooseInvalid g 1 else s

/-- The snapshot words of the GOOSE subscriptions (R317, R320); the changed bits then start anew. -/
def Chip.gooseSnapshot (s : Chip) : Chip :=
  s.each (List.range 64) fun s g =>
    let r := s.goose g
    if r.cfg.isNone then s
    else
      let w := 2 ^ 31 * s.rd .goStat_valid g + 2 ^ 30 * s.rd .goStat_simulated g + 256 * (r.changed % 256) + s.rd .goStat_values g
      (s.sramPutWord (0x10450800 + 4 * g) w).setGoose g { r with changed := 0 }

end Sys2Proof.Machine
end

