-- ==== Sys2Proof/Machine/Network.lean ====
section
/-! DEFINITION. Ports, PTP, timed pulses and publishing (R481 to R504). -/

namespace Sys2Proof.Machine

/-- A port's READY bit and its mirror (R65, R485): link up, and joined in a PRP or HSR pair. -/
def Chip.showPort (s : Chip) (p : Nat) : Chip :=
  let ready := s.on .pStat_linkUp p && (s.pairMode (p / 2) == 0 || s.on .pStat_joined p)
  (s.wrFlag .pStat_ready ready p).wrBit .readyIo_port p ready

/-- A frame of another node of the pair has come (R485). -/
def Chip.heardPartner (s : Chip) (p : Nat) : Chip :=
  let s := s.setPort p { s.port p with heardAt := s.clock.now, lanArmed := true }
  if s.pairMode (p / 2) ≠ 0 then (s.wr .pStat_joined 1 p).showPort p else s

/-- The partner's SGMII control word suits the port (R481): `speed` is what it reports, in Mb/s; 1000BASE-X has none. -/
def Chip.speedSuits (s : Chip) (p speed : Nat) : Bool :=
  match s.portMode p with
  | 0 => false
  | 1 => true
  | 2 => speed == 1000
  | _ => speed == 100

/-- PORT_LINK_UP (R481, R485): the PCS synchronises; `joined` tells whether a frame of the pair has come with it. -/
def Chip.portLinkUp (s : Chip) (p speed : Nat) (joined : Bool) : Chip :=
  if s.speedSuits p speed = false then s
  else
    let s := (s.wr .pStat_linkUp 1 p).showPort p
    if joined then s.heardPartner p else s

/-- PORT_LINK_LOSS (R485). -/
def Chip.portLinkLoss (s : Chip) (p : Nat) : Chip :=
  if s.portMode p ≠ 0 ∧ s.on .pStat_linkUp p = true then
    let s := ((s.wr .pStat_linkUp 0 p).wr .pStat_joined 0 p).showPort p
    (s.count .pStat_linkLosses p).raise originPorts
  else s

/-- LAN_FAULT_TIMEOUT (R485): on a PRP port no frame from another node for 4 s. -/
def Chip.lanFault (s : Chip) (p : Nat) : Chip :=
  let r := s.port p
  if s.pairMode (p / 2) = 1 ∧ s.portMode p ≠ 0 ∧ r.lanArmed = true ∧ r.heardAt + 4000000000 ≤ s.clock.now then
    ((s.setPort p { r with lanArmed := false }).wr .pStat_lanFault 1 p).raise originPorts
  else s

/-- The entries of duplicate discard that are still held: 400 ms (R482). -/
def Chip.liveDiscard (s : Chip) : List (Nat × Nat × Nat × Nat) :=
  s.net.discard.filter fun e => decide (s.clock.now < e.2.2.2 + 400000000)

/-- A copy is the first of its frame on `key` (R482, R483); it is noted. -/
def Chip.firstCopy (s : Chip) (key src seq : Nat) : Bool × Chip :=
  let l := s.liveDiscard
  let known := l.any fun e => e.1 == key && e.2.1 == src && e.2.2.1 == seq
  (!known, { s with net := { s.net with discard := if known then l else l ++ [(key, src, seq, s.clock.now)] } })

/-- A frame belongs to the reserved receive buffer (R488). -/
def Chip.reservedFrame (s : Chip) (p : Nat) (f : EthFrameRx) : Bool :=
  let telegram := f.ethertype == 0x88B5 && s.on .stCfg_enabled && p / 2 == s.rd .stCfg_pair
  let trip := f.ethertype == 0x88B8 && (List.range 64).any fun g =>
    match (s.goose g).cfg with
    | some c => c.members.any (·.trip) && c.station == decide (2 ≤ p) && f.dst == c.dst && f.appid == c.appid && f.ref == c.ref
    | none => false
  telegram || trip

/-! ## The best master -/

/-- PTP runs on a port (R489). -/
def Chip.runsPtp (s : Chip) (p : Nat) : Bool := s.on .ptpCfg_enabled && p / 2 == s.rd .ptpCfg_pair

/-- The peer delay of a port's link is measured: where PTP runs, and on an HSR pair, a transparent clock in any case (R489). -/
def Chip.measuresDelay (s : Chip) (p : Nat) : Bool := s.runsPtp p || s.pairMode (p / 2) == 2

/-- The device's clock identity (PRESUMED, log entry 1706): the base MAC address with 0xFFFE in its middle. -/
def Chip.clockIdentity (s : Chip) : Nat := s.macBase / 2 ^ 24 * 2 ^ 40 + 0xFFFE * 2 ^ 24 + s.macBase % 2 ^ 24

/-- The device's data set as master (R489). -/
def Chip.ownData (s : Chip) : AnnounceData :=
  { domain := s.rd .ptpCfg_domain, priority1 := s.rd .ptpCfg_priority1, clockClass := 248, accuracy := 0xFE
    variance := Config.clockVariance, priority2 := s.rd .ptpCfg_priority2, grandmaster := s.clockIdentity, steps := 0
    source := s.clockIdentity }

/-- The order of the default best master clock algorithm (R489; IEEE 1588, PRESUMED, log entry 1706): the first field that differs
decides, the lower value being better. -/
def announceOrder (a : AnnounceData) : List Nat :=
  [a.priority1, a.clockClass, a.accuracy, a.variance, a.priority2, a.grandmaster, a.steps, a.source]
def lexLess : List Nat → List Nat → Bool
  | a :: l, b :: m => decide (a < b) || (a == b && lexLess l m)
  | _, _ => false
def betterMaster (a b : AnnounceData) : Bool := lexLess (announceOrder a) (announceOrder b)

/-- announceReceiptTimeout, three intervals of 1 s, has run out since the newest Announce (R489). -/
def ForeignMaster.timedOut (now : Nat) (r : ForeignMaster) : Bool := decide (r.heard.headD 0 + 3000000000 ≤ now)

/-- The clocks that are qualified as masters (R492). -/
def Chip.qualified (s : Chip) : List ForeignMaster :=
  s.net.ptp.masters.filter fun r => r.qualifiedAt.isSome && !r.timedOut s.clock.now

/-- The one for which `better` holds against every other, the earliest in the list of equals. -/
def bestBy {α : Type} (better : α → α → Bool) : List α → Option α
  | [] => none
  | a :: l => some (l.foldl (fun m x => if better x m then x else m) a)

/-- A new master is selected, the runs of Syncs begin anew. -/
def Chip.withMaster (s : Chip) (m : Option Nat) : Chip :=
  { s with net := { s.net with ptp := { s.net.ptp with selected := m, lastSync := none, insideRun := 0, outsideRun := 0 } } }

/-- The slave takes master `m` (R492), on the port on which it was first qualified; a device that was master counts as locked no
longer. -/
def Chip.followMaster (s : Chip) (m : Nat) : Chip :=
  if s.net.ptp.selected = some m then s
  else
    let s := if s.on .ptpStat_master then ((s.wr .ptpStat_master 0).wr .ptpStat_locked 0).meterStatus else s
    let first := bestBy (fun a b => decide (a.qualifiedAt.getD 0 < b.qualifiedAt.getD 0)) (s.qualified.filter fun r => r.data.source == m)
    match first with
    | some r => (s.wr .ptpStat_slavePort (r.port % 2)).withMaster (some m)
    | none => s

/-- PTP lock is lost (R492): the clock keeps its rate, one event. -/
def Chip.ptpLoseLock (s : Chip) : Chip :=
  if s.on .ptpStat_locked then (((s.wr .ptpStat_locked 0).count .ptpStat_lockLosses).raise originPtp).meterStatus else s

/-- PTP locks (R492): the MV point may become READY, and gaps that wait for the time find it. -/
def Chip.ptpLock (s : Chip) : Chip := (((s.wr .ptpStat_locked 1).meterStatus).resolveGap 0).resolveGap 1

/-- The device becomes master (R489, R492), and counts as locked. -/
def Chip.becomeMaster (s : Chip) : Chip :=
  if s.on .ptpStat_master then s else ((s.withMaster none).wr .ptpStat_master 1).ptpLock

/-- The default best master clock algorithm (R489): the best of the qualified clocks, or the device itself where it is better and
may be master. With no clock qualified nothing is decided before the time runs out. -/
def Chip.decideMaster (s : Chip) : Chip :=
  match bestBy (fun a b : ForeignMaster => betterMaster a.data b.data) s.qualified with
  | none => s
  | some r => if !s.on .ptpCfg_slaveOnly && betterMaster s.ownData r.data then s.becomeMaster else s.followMaster r.data.source

/-- A clock heard on a port. -/
def Chip.foreignMaster (s : Chip) (p source : Nat) : Option ForeignMaster :=
  s.net.ptp.masters.find? fun r => r.port == p && r.data.source == source
def Chip.dropForeign (s : Chip) (p source : Nat) : Chip :=
  let l := s.net.ptp.masters.filter fun r => !(r.port == p && r.data.source == source)
  { s with net := { s.net with ptp := { s.net.ptp with masters := l } } }

/-- An Announce of another clock in the device's domain (R489): with a second one in four intervals its clock is qualified. -/
def Chip.announceReceived (s : Chip) (p : Nat) (a : AnnounceData) : Chip :=
  if !s.runsPtp p || a.domain != s.rd .ptpCfg_domain || a.source == s.clockIdentity then s
  else
    let old := s.foreignMaster p a.source
    let heard := s.clock.now :: ((old.map (·.heard)).getD []).filter fun t => decide (s.clock.now < t + 4000000000)
    let qualifiedAt := ((old.bind (·.qualifiedAt)).or (if 2 ≤ heard.length then some s.clock.now else none))
    let s := s.dropForeign p a.source
    let ptp := s.net.ptp
    let s := { s with net := { s.net with ptp := { ptp with masters := ptp.masters ++ [(⟨p, a, heard, qualifiedAt⟩ : ForeignMaster)]
                                                            listensFrom := s.clock.now } } }
    s.decideMaster

/-- A Pdelay_Resp (R491): half of what the exchange took, less the answering clock's turnaround, is the peer delay of the link. -/
def Chip.delayReceived (s : Chip) (p correction : Nat) : Chip :=
  match (s.port p).requestAt with
  | some sent =>
    let rx : Int := (s.ptpNow : Int) - s.rd .pCorr_ingress p
    s.setPort p { s.port p with peerDelay := (rx - sent - correction).toNat / 2, requestAt := none }
  | none => s

/-- What a PTP frame brings to the device (R489, R491). -/
def Chip.takePtp (s : Chip) (p : Nat) (f : EthFrameRx) : Chip :=
  if f.ethertype != 0x88F7 then s
  else match f.ptp with
    | .announce a => s.announceReceived p a
    | .pdelayResp c => s.delayReceived p c
    | .other => s

/-! ## Received frames -/

/-- What waits in a port's buffers once the device has served them since the frame before (R488): the reserved buffer loses at least
one frame, and the ordinary frames are served only when it is empty. -/
def PortState.served (r : PortState) (reserved ordinary : Nat) : PortState :=
  let left := r.reserved - max 1 reserved
  { r with reserved := left, ordinary := if left = 0 then r.ordinary.drop ordinary else r.ordinary }

/-- FRAME_RX_CLASSIFY (R481, R483, R485, R488): `reserved` and `ordinary` frames have been taken out of the port's buffers since the
frame before. An ordinary frame that is kept brings what it carries for PTP. -/
def Chip.classify (s : Chip) (p : Nat) (f : EthFrameRx) (reserved ordinary : Nat) : Chip :=
  if s.portMode p = 0 then s
  else
    let r := s.port p
    let s := s.setPort p (r.served reserved ordinary)
    if f.pause || decide (1522 < f.length) then s.count .pCount_rxDrop p
    else
      let s := if f.redundancy.isSome || f.supervision then s.heardPartner p else s
      let r := s.port p
      if s.reservedFrame p f then
        (s.setPort p { r with reserved := min 32 (r.reserved + 1) }).count .pCount_tripRx p
      else
        let every := f.ethertype == 0x88BA || f.ethertype == 0x88B8 || f.ethertype == 0x88B5 || f.ethertype == 0x88F7
        let c := match f.redundancy with
          | some seq => if every || s.pairMode (p / 2) == 0 then (true, s) else s.firstCopy (p / 2) f.src seq
          | none => (true, s)
        if !c.1 then c.2
        else if 65536 < (r.ordinary.foldl (· + ·) 0) + f.length then c.2.count .pCount_rxDrop p
        else (c.2.setPort p { r with ordinary := r.ordinary ++ [f.length] }).takePtp p f

/-- HSR_FORWARD (R482, R486, R489, R491): a ring frame that is not addressed to this node alone, not its own and not forwarded
already goes out by the other port, in the queue of its priority; a PTP event message takes its residence time and the peer delay
of the port it came by. -/
def Chip.hsrForward (s : Chip) (p : Nat) (f : RingFrameRx) : Chip :=
  let own := s.portMac p
  if s.pairMode (p / 2) ≠ 2 ∨ f.src = own ∨ f.dst = own then s
  else
    let c := s.firstCopy (8 + p / 2) f.src f.seq
    if !c.1 then c.2
    else
      let q := match f.priority with
        | some k => min 6 k.val
        | none => 0
      let rx := if f.ptp then some (s.ptpNow - s.rd .pCorr_ingress p) else none
      c.2.enqueue (if p % 2 = 0 then p + 1 else p - 1) q (.forwarded f.bytes rx (s.port p).peerDelay)

/-- What is sent at an interval of `ns`, by a number of its own, is due: it was never sent, or that long ago. -/
def Chip.intervalDue (s : Chip) (k ns : Nat) : Bool :=
  match storeGet s.net.sentAt k none with
  | some t => decide (t + ns ≤ s.clock.now)
  | none => true
def Chip.noteSent (s : Chip) (k : Nat) : Chip :=
  { s with net := { s.net with sentAt := storePut s.net.sentAt k none (some s.clock.now) } }

/-- SUPERVISION_FRAME_SEND (R482): every 2 s. -/
def Chip.sendSupervision (s : Chip) (pair : Nat) : Chip :=
  if s.pairMode pair = 0 ∨ s.intervalDue pair 2000000000 = false then s else (s.noteSent pair).enqueuePair pair 0 .supervision

/-- A step of the PTP clock (R495): the periodic schedules restart at the next whole second, and armed once pulses whose time
was skipped are missed. -/
def Chip.ptpStep (s : Chip) (time : Nat) : Chip :=
  let s := (s.setPtp time s.net.ptp.rate).count .ptpStat_steps
  s.each (List.range 8) fun s n =>
    let r := storeGet s.net.pulses n {}
    let r := { r with restartAt := (time / 1000000000 + 1) * 1000000000, lastEdge := 0 }
    let s := { s with net := { s.net with pulses := storePut s.net.pulses n {} r } }
    let at_ := s.rd .poArmSec_sec n * 1000000000 + s.rd .poArmNs_ns n
    if s.on .poArmNs_armed n && decide (at_ ≤ time % (2 ^ 32 * 1000000000)) then
      (s.wr .poArmNs_armed 0 n).wr .poArmNs_missed 1 n
    else s

/-- The clock is steered by an offset (R492): by rate alone while locked; otherwise stepped beyond 10 µs and slewed at up to
200 ppm within. The rates are free values (log entry 2). -/
def Chip.steer (s : Chip) (offset : Int) : Chip :=
  let r := s.freeNat
  if s.on .ptpStat_locked then r.2.setPtp s.ptpNow (signed 32 r.1)
  else if 10000 < offset.natAbs then s.ptpStep ((s.ptpNow : Int) - offset).toNat
  else r.2.setPtp s.ptpNow ((r.1 % 400001 : Nat) - 200000)

/-- A one-step Sync of the selected master on the slave port (R492). -/
def Chip.takeSync (s : Chip) (p : Nat) (f : SyncRx) : Chip :=
  let rx : Int := (s.ptpNow : Int) - s.rd .pCorr_ingress p
  let offset := rx - f.origin - f.correction - (s.port p).peerDelay
  let s := s.wrInt .ptpOffset_offset (satSigned 32 offset)
  let ptp := s.net.ptp
  let inside := if offset.natAbs ≤ 100 then ptp.insideRun + 1 else 0
  let outside := if 1000 < offset.natAbs then ptp.outsideRun + 1 else 0
  let s := { s with net := { s.net with ptp := { ptp with insideRun := inside, outsideRun := outside, lastSync := some f.seq } } }
  if s.on .ptpStat_locked && decide (4 ≤ outside) then s.ptpLoseLock
  else
    let s := s.steer offset
    if !s.on .ptpStat_locked && decide (8 ≤ inside) then s.ptpLock else s

/-- PTP_SYNC_RX (R489, R492): a two-step Sync is discarded; otherwise the slave takes the Sync of the master that is selected, on
its slave port (PRP and independent ports), or the first copy of each (HSR). -/
def Chip.ptpSync (s : Chip) (p : Nat) (f : SyncRx) : Chip :=
  if !s.runsPtp p || f.domain != s.rd .ptpCfg_domain then s
  else if f.twoStep then
    let s := if s.on .ptpStat_twoStepSeen then s else s.raise originPtp
    s.wr .ptpStat_twoStepSeen 1
  else if s.net.ptp.selected != some f.master then s
  else if s.pairMode (p / 2) = 2 then
    if s.net.ptp.lastSync = some f.seq then s else (s.wr .ptpStat_slavePort (p % 2)).takeSync p f
  else if s.rd .ptpStat_slavePort = p % 2 then s.takeSync p f
  else s

/-- The selected master is heard no longer (R492): another that is qualified is selected; with none, lock is lost, and a device that
may be master becomes it. -/
def Chip.masterLost (s : Chip) : Chip :=
  let s := s.withMaster none
  if !s.qualified.isEmpty then s.decideMaster
  else
    let s := if s.on .ptpStat_master then s else s.ptpLoseLock
    if s.on .ptpCfg_slaveOnly then s else s.becomeMaster

/-- The timer of the clock `source` on a port has run out: in PRP the slave moves to the other port without losing lock where the same
master is qualified there (R492), and in HSR it goes on with the copies of the other port. -/
def Chip.masterTimedOut (s : Chip) (p source : Nat) : Chip :=
  let s := s.dropForeign p source
  let elsewhere := s.pairMode (p / 2) != 0 && s.qualified.any fun r => r.data.source == source
  if s.net.ptp.selected != some source || (s.pairMode (p / 2) != 2 && s.rd .ptpStat_slavePort != p % 2) then s
  else if elsewhere then s.wr .ptpStat_slavePort (1 - p % 2)
  else s.masterLost

/-- PTP_ANNOUNCE_TIMEOUT (R489, R492): announceReceiptTimeout of the clock `source` on a port; a device that has heard no clock, and
follows none, has waited for one as long. -/
def Chip.announceTimeout (s : Chip) (p source : Nat) : Chip :=
  if !s.runsPtp p then s
  else match s.foreignMaster p source with
    | some r => if r.timedOut s.clock.now then s.masterTimedOut p source else s
    | none =>
      if s.net.ptp.selected.isNone && !s.on .ptpStat_master && s.qualified.isEmpty &&
          decide (s.net.ptp.listensFrom + 3000000000 ≤ s.clock.now) then s.masterLost
      else s

/-- PDELAY_REQ_RX (R491): answered by a one-step Pdelay_Resp. -/
def Chip.pdelayReq (s : Chip) (p : Nat) : Chip :=
  if s.measuresDelay p then s.enqueuePtp p (.pdelayResp (s.ptpNow - s.rd .pCorr_ingress p) 0) else s

/-- The number of a PTP message of a port among what is sent at an interval, and the frame it becomes. -/
def ptpSlot (p : Nat) : PtpMessage → Nat
  | .announce => 8 + 4 * p
  | .sync => 9 + 4 * p
  | .pdelayReq => 10 + 4 * p
def Chip.ptpFrame (s : Chip) : PtpMessage → FrameBody
  | .announce => .announce s.ownData 0xA0
  | .sync => .sync 0
  | .pdelayReq => .pdelayReq

/-- A port sends a PTP message (R489): Announce and Sync only as master. -/
def Chip.sendsPtp (s : Chip) (p : Nat) : PtpMessage → Bool
  | .pdelayReq => s.measuresDelay p
  | _ => s.runsPtp p && s.on .ptpStat_master

/-- PTP_MESSAGE_SEND (R489): each at 1 s, per port. -/
def Chip.ptpSend (s : Chip) (p : Nat) (m : PtpMessage) : Chip :=
  if s.sendsPtp p m && s.intervalDue (ptpSlot p m) 1000000000 then (s.noteSent (ptpSlot p m)).enqueuePtp p (s.ptpFrame m) else s

/-- Pulse outputs by number. -/
def Chip.pulse (s : Chip) (n : Nat) : PulseState := storeGet s.net.pulses n {}
def Chip.setPulse (s : Chip) (n : Nat) (r : PulseState) : Chip :=
  { s with net := { s.net with pulses := storePut s.net.pulses n {} r } }

/-- The leading edge of a periodic output that lies nearest to PTP time `t` (R494): S + round(i × 10⁹ / N), halves upward. -/
def nearestEdge (rate t : Nat) : Nat :=
  let sec := t / 1000000000 * 1000000000
  let i := ((t % 1000000000) * rate + 500000000) / 1000000000
  sec + (2 * i * 1000000000 + rate) / (2 * rate)

/-- The time of a once pulse, its seconds completed from the present ones (R494). -/
def Chip.onceTime (s : Chip) (n : Nat) : Nat :=
  let sec := s.ptpNow / 1000000000
  (sec / 2 ^ 32 * 2 ^ 32 + s.rd .poArmSec_sec n) * 1000000000 + s.rd .poArmNs_ns n

/-- A time lies within 4 ns of now (R494). -/
def Chip.isNow (s : Chip) (t : Nat) : Bool := decide (t ≤ s.ptpNow + 4) && decide (s.ptpNow ≤ t + 4)

/-- PULSE_EDGE (R494, R495): the trailing edge at the end of the width; a leading edge at its scheduled time. -/
def Chip.pulseEdge (s : Chip) (n : Nat) : Chip :=
  let r := s.pulse n
  if !s.on .poCfg_enabled n || s.modes.porstLow || (s.on .poCfg_gateLock n && !s.on .ptpStat_locked) then
    s.setPulse n { r with active := false }
  else if r.active then
    if r.lastEdge + 100 * s.rd .poCfg_width n ≤ s.ptpNow + 4 then s.setPulse n { r with active := false } else s
  else match s.rd .poCfg_mode n with
    | 1 =>
      let t := s.onceTime n
      if s.on .poArmNs_armed n && s.isNow t then
        (s.wr .poArmNs_armed 0 n).setPulse n { r with active := true, lastEdge := t }
      else s
    | 2 =>
      let t := nearestEdge (s.rd .poRate_rate n) s.ptpNow
      if s.isNow t && decide (r.lastEdge < t) && decide (r.restartAt ≤ t) then s.setPulse n { r with active := true, lastEdge := t }
      else s
    | _ => s

/-- The level of a pulse output's ball (R494): none is high impedance. -/
def Chip.pulseLevel (s : Chip) (n : Nat) : Option Bool :=
  if s.modes.porstLow then none
  else
    let shown := (s.pulse n).active && s.on .poCfg_enabled n && !(s.on .poCfg_gateLock n && !s.on .ptpStat_locked)
    some (shown == s.on .poCfg_polarity n)

/-- PO_ARM (R494): a write to PO_ARM_NS arms a once pulse, or sets missed where its time is past. -/
def Chip.poArm (s : Chip) (n ns : Nat) : Chip :=
  let s := s.wr .poArmNs_ns ns n
  if !s.on .poCfg_enabled n || s.rd .poCfg_mode n != 1 then s
  else if s.onceTime n ≤ s.ptpNow then (s.wr .poArmNs_missed 1 n).wr .poArmNs_armed 0 n
  else s.wr .poArmNs_armed 1 n

/-- The PTP time of an instant of the model's clock (R497): from the capture of the preceding boundary, else of the oldest one held, and
the count elapsed since. -/
def Chip.ptpOf (s : Chip) (instant : Nat) : Int :=
  let l := s.net.boundaries
  let c := ((l.filter fun c => decide (c.1 ≤ instant)).getLast?.or l.head?).getD (0, 0)
  (c.2 : Int) + ((instant : Int) - c.1)

/-- One published value (R497, R498): 0 and invalid where a result is missing or not valid, or the two lie too far apart. -/
def Chip.pubValue (s : Chip) (p : PubStream) (j f second : Nat) (v : Nat × Nat) : Int × Bool :=
  let tj : Rat := ((second * f + j : Nat) : Rat) * 1000000000 / f
  let l := (s.adcEntry v.1).recent.map fun x => (s.ptpOf x.1, x.2)
  let before := l.find? fun x => decide ((x.1 : Rat) ≤ tj)
  let after := (l.filter fun x => decide (tj < (x.1 : Rat))).getLast?
  let tIn := s.rd .adcSeqTrig_div p.sequence * s.tCtlNs
  match before, after with
  | some a, some b =>
    if !a.2.valid || !b.2.valid || decide ((tIn : Int) + 1000 < b.1 - a.1) then (0, false)
    else
      let x : Rat := (a.2.value : Rat) + (tj - a.1) / ((b.1 - a.1 : Int) : Rat) * ((b.2.value - a.2.value : Int) : Rat)
      (satSigned 32 (ratHalfUp (x * v.2 / 65536)), true)
  | _, _ => (0, false)

/-- A stream or block publishes (R504). -/
def Chip.publishes (s : Chip) (primaryOnly : Bool) : Bool := !primaryOnly || s.isPrimary

/-- The ASDUs that wait for their frame belong before sample `j` of a stream (R496, R504): its own samples up to the one before. -/
def followsOn (f j : Nat) (l : List Asdu) : List Asdu :=
  match l.getLast? with
  | some a => if (a.smpCnt + 1) % f = j then l else []
  | none => []

/-- SV_PUBLISH_SAMPLE (R496 to R498): sample `j` of PTP second `second`, not before its time; the frame goes out with its last ASDU. -/
def Chip.svPublish (s : Chip) (n second j : Nat) : Chip :=
  match s.net.streams[n]? with
  | none => s
  | some p =>
    let f := svRate p.rate
    if f ≤ j ∨ s.publishes p.primaryOnly = false ∨ s.ptpNow * f < (second * f + j) * 1000000000 then s
    else
      let vals := p.values.map fun v => s.pubValue p j f second v
      let synch := if s.on .ptpStat_master then 1 else if s.on .ptpStat_locked then 2 else 0
      let a : Asdu := { smpCnt := j, smpSynch := synch, values := vals, test := s.mode == .commission }
      let s := s.onlyIf (vals.any fun v => !v.2) fun s => s.count .pubStat_svInvalid
      let all := followsOn f j p.collected ++ [a]
      let full := decide (p.perFrame ≤ all.length)
      let p := { p with collected := if full then [] else all }
      let s := { s with net := { s.net with streams := s.net.streams.set n p } }
      if full then s.enqueuePair 0 5 (.samples n all) else s

/-- The value of a published member (R500). -/
def Chip.memberValueOf (s : Chip) (m : PubMember) : Nat :=
  match m.kind with
  | 0 =>
    let w := s.sramHalf m.source
    if m.dbpos then bits w m.bit 2 else bits w m.bit 1
  | 1 => flag (s.rdBit .fsEsc_bits (m.source % 32) (m.source / 32))
  | _ => match m.source with
    | 0 => flag (s.mode == .safeHold)
    | 1 => flag s.isPrimary
    | 2 => flag s.reaction
    | _ => flag s.sprDemand

/-- The half-words of SRAM from which a block's members take their values (R500). -/
def PubGoose.reads (b : PubGoose) : List Nat := b.members.filterMap fun m => if m.kind = 0 then some m.source else none

/-- A block's message enters its queue on the station-bus pair (R501 to R503). -/
def Chip.sendGoose (s : Chip) (n : Nat) (b : PubGoose) : Chip :=
  let s := { s with net := { s.net with blocks := s.net.blocks.set n b } }
  s.enqueuePair 1 (if b.fast then 7 else 4) (.goose n b.stNum b.sqNum (2 * b.interval) b.values (s.mode == .commission))

/-- A block examines its members (R501, R504): on a change, or when it begins to publish, the next stNum goes out at once. -/
def Chip.gooseEvaluate (s : Chip) (n : Nat) : Chip :=
  match s.net.blocks[n]? with
  | none => s
  | some b =>
    let pub := s.publishes b.primaryOnly
    let vals := b.members.map s.memberValueOf
    let s := s.sramTouch b.reads
    if !pub then { s with net := { s.net with blocks := s.net.blocks.set n { b with publishing := false } } }
    else if vals ≠ b.values ∨ b.publishing = false then
      let st := if b.stNum = 4294967295 then 1 else b.stNum + 1
      s.sendGoose n { b with stNum := st, sqNum := 0, values := vals, publishing := true, interval := b.tMin
                             repeatAt := s.clock.now + 1000000 * b.tMin }
    else s

/-- The change of primary reaches publishing (R504): a stream that publishes no longer keeps no ASDU, and a fast block that begins to
publish sends its own next stNum at once. -/
def Chip.publishFollows (s : Chip) : Chip :=
  let streams := s.net.streams.map fun p => if s.publishes p.primaryOnly then p else { p with collected := [] }
  let s := { s with net := { s.net with streams } }
  s.each (List.range 16) fun s n =>
    match s.net.blocks[n]? with
    | some b => if b.fast && b.publishing != s.publishes b.primaryOnly then s.gooseEvaluate n else s
    | none => s

/-- The blocks that are not fast examine their members at each boundary (R502), and publishing follows the primary (R504). -/
def Chip.publishBoundary (s : Chip) : Chip :=
  let s := s.each (List.range 16) fun s n =>
    match s.net.blocks[n]? with
    | some b => if b.fast then s else s.gooseEvaluate n
    | none => s
  s.publishFollows

/-- The streams and the blocks that publish, as PUB_STAT shows them (R504, R514). -/
def Chip.svPublishing (s : Chip) : Nat :=
  ((List.range s.net.streams.length).map fun n =>
    2 ^ n * flag (s.publishes ((s.net.streams.getD n {}).primaryOnly))).foldl (· + ·) 0
def Chip.goPublishing (s : Chip) : Nat :=
  ((List.range s.net.blocks.length).map fun n =>
    2 ^ n * flag (s.publishes ((s.net.blocks.getD n {}).primaryOnly))).foldl (· + ·) 0

/-- GOOSE_FAST_CHANGE (R503). -/
def Chip.gooseFast (s : Chip) (n : Nat) : Chip :=
  match s.net.blocks[n]? with
  | some b => if b.fast then s.gooseEvaluate n else s
  | none => s

/-- GOOSE_REPEAT (R501): the message again, at intervals that double up to t_max. -/
def Chip.gooseRepeat (s : Chip) (n : Nat) : Chip :=
  match s.net.blocks[n]? with
  | some b =>
    if b.publishing && s.publishes b.primaryOnly && decide (b.repeatAt ≤ s.clock.now) then
      let iv := min b.tMax (2 * b.interval)
      s.sendGoose n { b with sqNum := (b.sqNum + 1) % 2 ^ 32, interval := iv, repeatAt := b.repeatAt + 1000000 * iv }
    else s
  | none => s

/-- The ports as an image sets them: the 4 s of R485 count from here, and PTP listens from here. -/
def Chip.startPorts (s : Chip) : Chip :=
  let s := { s with net := { s.net with ptp := { s.net.ptp with listensFrom := s.clock.now } } }
  s.each (List.range 4) fun s p => s.setPort p { s.port p with heardAt := s.clock.now }

/-- The blocks as they start when an image is applied (R501): stNum 1, sqNum 0. -/
def Chip.gooseStart (s : Chip) : Chip :=
  s.each (List.range s.net.blocks.length) fun s n =>
    match s.net.blocks[n]? with
    | some b =>
      let b := { b with stNum := 1, sqNum := 0, values := b.members.map s.memberValueOf, interval := b.tMin
                        repeatAt := s.clock.now + 1000000 * b.tMin, publishing := s.publishes b.primaryOnly }
      let s := s.sramTouch b.reads
      if b.publishing then s.sendGoose n b else { s with net := { s.net with blocks := s.net.blocks.set n b } }
    | none => s

/-- ARP_ICMP_RX (R505): on the station access pair ARP and ICMP echo for the device's IPv4 address are answered; other IP traffic is
discarded. -/
def Chip.arpIcmp (s : Chip) (p : Nat) (m : IpMessage) : Chip :=
  if p / 2 ≠ s.rd .netCfg_saPair then s
  else match m with
    | .arp a h => s.onlyIf (a.toNat == s.net.ip) fun s => s.answerBy p (.arpReply (s.portMac p) s.net.ip h)
    | .icmpEcho a h d => s.onlyIf (a.toNat == s.net.ip) fun s => s.answerBy p (.echoReply h (s.nextHop h.ip.toNat) d)
    | .other => s

end Sys2Proof.Machine
end

