-- ==== Sys2Proof/Machine/Address.lean ====
section
/-! DEFINITION. Registers by address: which register and instance an address names (R8 and the chapters' address tables), the
value of a register as one word, and the writing of a whole register from a word. -/

namespace Sys2Proof.Machine

/-- The instances that exist of a register whose blocks leave gaps: the LINK registers are those of the cell lanes (R198); EE_L is
block 96 and has its own configuration, half-bridge and carry registers, and EE_S[0] and EE_S[1] are blocks 100 and 101 (R231). -/
def Reg.hasInstance (r : Reg) (i : Nat) : Bool :=
  match r with
  | .linkBale | .linkCell | .linkTb => i != 96 && i != 97
  | .eeCfg => i < 96 || i == 100 || i == 101
  | .eeHb | .eeCarry => i < 6 * 96 || decide (6 * 100 ≤ i)
  | .eeRefresh | .eeCarryLim | .eeEstat | .eeCounts => i < 97 || i == 100 || i == 101
  | _ => true

/-- The instance of register `r` that lies at address `a`. -/
def Reg.instanceAt (r : Reg) (a : Nat) : Option Nat :=
  let g := r.spec
  if a < g.base then none
  else
    let d := a - g.base
    let outer := if g.stride = 0 then 0 else d / g.stride
    let rest := d - outer * g.stride
    let inner := if g.innerStride = 0 then 0 else rest / g.innerStride
    let i := outer * g.inner + inner
    if outer < g.count ∧ inner < g.inner ∧ rest = inner * g.innerStride ∧ r.hasInstance i = true then some i else none

/-- The first register of a list that has an instance at address `a`. -/
def findReg : List Reg → Nat → Option (Reg × Nat)
  | [], _ => none
  | r :: l, a =>
    match r.instanceAt a with
    | some i => some (r, i)
    | none => findReg l a

/-- The fields of a register as one word, reserved bits 0. -/
def Chip.fieldsWord (s : Chip) (r : Reg) (i : Nat := 0) : Nat :=
  r.spec.fields.foldl (fun a f => a + s.rd f i * 2 ^ f.spec.lo) 0

/-- A field of a configuration register that reports a state and is no setting (R530): no image sets it, and it stays when the
settings return to those of a cold start. -/
def Fld.reports : Fld → Bool
  | .flTemp_inRange | .flTemp_refused => true
  | _ => false

/-- Every setting of a register from a word; the reserved bits of the word are dropped. -/
def Chip.setFields (s : Chip) (r : Reg) (i v : Nat) : Chip :=
  s.each (r.spec.fields.filter fun f => !f.reports) fun s f => s.wr f (bits v f.spec.lo f.spec.width) i

/-- Every instance of the settings of some registers at its value after a cold start. -/
def Chip.coldFields (s : Chip) (rs : List Reg) : Chip :=
  let fs := ((rs.flatMap fun r => r.spec.fields).filter fun f => !f.reports).map fun f => f.key 0
  { s with regs := s.regs.filter fun (k, _) => !fs.contains (k % 1024) }

/-- The fields of one instance of a register at their values after a cold start. -/
def Chip.coldFieldsAt (s : Chip) (r : Reg) (i : Nat) : Chip := s.each r.spec.fields fun s f => s.wr f (f.coldAt i) i

/-- The fields of some registers taken over from another state of the block. -/
def Chip.takeFields (s old : Chip) (rs : List Reg) : Chip :=
  let ks := (rs.flatMap fun r => r.spec.fields).map fun f => f.key 0
  s.each (old.regs.filter fun (k, _) => ks.contains (k % 1024)) fun s (k, v) =>
    { s with regs := storeInsert (storeDrop s.regs k) k v }

end Sys2Proof.Machine
end

