-- ==== Sys2Proof/Machine/Sections.lean ====
section
/-! DEFINITION. The image's sections of register entries (R82, R132, R229, R261, R352, R377, R398, R421, R444, R478, R537, R560)
and the application checks of their chapters. A section's settings are staged in a copy of the state; `none` refuses the
image (R85, R86). -/

namespace Sys2Proof.Machine

/-! ## Register entries -/

/-- The entries of a section of 8-byte entries: address and value; `none` where the length is not a whole number of entries. -/
def sectionEntries (sec : List Byte) : Option (List (Nat × Nat)) :=
  if sec.length % 8 ≠ 0 then none
  else some ((List.range (sec.length / 8)).map fun k => (leAt sec (8 * k) 4, leAt sec (8 * k + 4) 4))

/-- Entries written to the registers of a list; an address that is none of theirs refuses the image. -/
def Chip.stageEntries (s : Chip) (rs : List Reg) (banned : Reg → Nat → Bool) : List (Nat × Nat) → Option Chip
  | [] => some s
  | (a, v) :: l =>
    match findReg rs a with
    | some (r, i) => if banned r i then none else (s.setFields r i v).stageEntries rs banned l
    | none => none

/-- A section that is register entries alone. -/
def Chip.stageRegisters (s : Chip) (rs : List Reg) (sec : List Byte) : Option Chip :=
  (sectionEntries sec).bind fun l => s.stageEntries rs (fun _ _ => false) l

/-! ## System (0x01) and lanes (0x02) -/

/-- A reference of R103: the crystal at 25 MHz, the external reference at 25, 10 or 125 MHz, a recovered clock at 125 MHz. -/
def referenceAccepted (source freq : Nat) : Bool :=
  match source with
  | 0 => freq == 0
  | 1 => freq != 3
  | _ => freq == 2

/-- A value of PLL_PLAN[p] obeys R82, R103 and R107. -/
def planValid (p v : Nat) : Bool :=
  if bitAt v 31 then referenceAccepted (bits v 0 2) (bits v 4 2) else p != 0 && v == 0

/-- The divider limits of a clock output (R126, R127). -/
def clockValid (v : Nat) : Bool :=
  let n := bits v 16 12
  let lo := if bits v 0 2 = 3 then (if bitAt v 4 then 48 else 80) else if bitAt v 4 then 24 else 40
  let hi := if bitAt v 4 then 2400 else 4000
  bits v 2 2 != 3 && (bits v 0 2 == 0 || (decide (lo ≤ n) && decide (n ≤ hi)))

/-- The system section (R82). -/
def Chip.stageSystem (s : Chip) (sec : List Byte) : Option Chip :=
  let t := leAt sec 0 2
  let lead := byteAt sec 2
  let f := leAt sec 0xC 4
  let ok := sec.length == 48 && decide (20 ≤ t) && decide (t ≤ 2000) && decide (4 ≤ lead) && decide (lead ≤ 200) &&
    decide (lead ≤ t) && decide (byteAt sec 3 ≤ 2) && decide (byteAt sec 4 ≤ 1) && decide (byteAt sec 5 ≤ 1) &&
    decide (byteAt sec 6 ≤ 1) && byteAt sec 7 == 0 && leAt sec 8 2 != 0 && leAt sec 0xA 2 == 0 && decide (f < 8) &&
    (List.range 4).all (fun p => planValid p (leAt sec (0x10 + 4 * p) 4)) &&
    (List.range 4).all fun n => clockValid (leAt sec (0x20 + 4 * n) 4)
  if !ok then none
  else
    let s := (s.wr .periodCfg_tCtl t).wr .periodCfg_lead lead
    let s := s.wr .sramScrubStat_enabled (byteAt sec 5)
    let settings : SystemSettings := {
      startMode := byteAt sec 3, autoRun := byteAt sec 4 == 1, lockstep := byteAt sec 6 == 1, stopRamp := leAt sec 8 2
      pair := bitAt f 0, dualSend := bitAt f 1, mvUsed := bitAt f 2 }
    let s := { s with sys := settings }
    let s := s.each (List.range 4) fun s p => s.setFields .pllPlan p (leAt sec (0x10 + 4 * p) 4)
    some (s.each (List.range 4) fun s n => s.setFields .clkoCfg n (leAt sec (0x20 + 4 * n) 4))

/-- The reserved bits of LANE_CFG and LANE_ASYM (R165). -/
def laneReserved (cfg asym : Nat) : Bool := bits cfg 24 7 != 0 || bits asym 16 16 != 0

/-- The lanes section (R85, R132, R165): field code is ignored; a drift limit lies from 1 to 255. -/
def Chip.stageLanes (s : Chip) (sec : List Byte) : Option Chip :=
  let entry (n : Nat) : Nat × Nat := (leAt sec (8 * n) 4, leAt sec (8 * n + 4) 4)
  let bad := (List.range 100).any fun n =>
    bits (entry n).1 0 2 == 3 || bits (entry n).1 16 8 == 0 || laneReserved (entry n).1 (entry n).2
  if sec.length ≠ 800 || bad then none
  else some (s.each (List.range 100) fun s n =>
    let code := s.rd .laneCfg_code n
    ((s.setFields .laneCfg n (entry n).1).wr .laneCfg_code code n).setFields .laneAsym n (entry n).2)

/-- The slowest rate of the cell lanes in service, as sheaf_rate codes it (R19, R39); the cold value where none is. -/
def Chip.slowestRate (s : Chip) : Nat :=
  let rates := (((List.range 96) ++ [98, 99]).filter fun n => s.on .laneCfg_enabled n && (s.cellOfLane n).isSome).map
    fun n => s.rd .laneCfg_rate n
  match rates with
  | [] => 1
  | r :: l => l.foldl min r

/-! ## Arms and cells (0x03) and edge engines (0x04) -/

/-- The configuration registers of R261. -/
def armRegs : List Reg := [.armCfg, .armScale, .armVref, .armBal, .armLimit, .armPc, .cellCfg]

/-- The checks of R262. Those of n_min and n_act are made of enabled arms, since a disabled one has no cell and a cold n_act of 1 (DESIGN
CHOICE, log entry 805). -/
def Chip.armsValid (s : Chip) : Bool :=
  (List.range 6).all (fun a =>
    let cells := s.cellsOfArm a
    let slots := cells.map s.slot
    let n := cells.length
    s.on .armCfg_enabled a == decide (0 < n) && decide (n ≤ 32) && decide slots.Nodup &&
      (!s.on .armCfg_enabled a ||
        (s.rd .armCfg_nMin a != 0 && decide (s.rd .armCfg_nMin a ≤ s.rd .armCfg_nAct a) && decide (s.rd .armCfg_nAct a ≤ n))) &&
      cells.all (fun nn => s.rd .eeCfg_hbrMode nn == s.rd .armCfg_method a + 1) &&
      s.rd .armScale_iArmFs a != 0 && s.rd .armScale_vCapFs a != 0 && s.rd .armVref_armVfs a != 0 &&
      s.rd .armVref_vSecFs a != 0 && s.rd .armBal_rotationPeriods a != 0 && s.rd .armPc_pcTimeout a != 0 &&
      decide (s.rd .armCfg_iSrc a < 2)) &&
  (List.range 96).all fun nn => s.rd .cellCfg_initState nn != 3

/-- The configuration registers of R229; the blocks of the spares are not configured. -/
def edgeRegs : List Reg := [.eePscArm, .eeTripMap, .eeCfg, .eeRefresh, .eeCarryLim, .eeHb, .eeLCfg, .eeLMode, .eeLHb]

/-- The edge engines' section (R229). -/
def Chip.stageEdges (s : Chip) (sec : List Byte) : Option Chip :=
  let spare (r : Reg) (i : Nat) : Bool := if r = .eeHb then decide (6 * 100 ≤ i) else decide (100 ≤ i)
  (sectionEntries sec).bind fun l => s.stageEntries edgeRegs spare l

/-- Dead time and minimum pulse of a half-bridge against the period (R230). -/
def Chip.pulseFits (s : Chip) (dead pulse : Nat) : Bool := decide (4 * (dead + pulse) ≤ s.tCtl)

/-- The refresh of an engine against one of its half-bridges (R230). It is judged of the half-bridges that a refresh may serve in some mode
(R219), the two H-bridge legs of a cell engine and the pairs of EE_L, in whatever mode they stand, and of no DAB leg, and both halves of
the bullet only where refresh_interval is not 0 (DESIGN CHOICE, log entry 711). -/
def Chip.refreshFits (s : Chip) (e dead pulse : Nat) : Bool :=
  let w := s.rd .eeRefresh_width e
  s.rd .eeRefresh_interval e == 0 || (decide (pulse ≤ w) && decide (w + 2 * dead + pulse ≤ s.tCtl))

/-- The checks of R230 on one cell engine. -/
def Chip.cellEngineValid (s : Chip) (nn : Nat) : Bool :=
  let hbr := s.rd .eeCfg_hbrMode nn
  let dab := s.rd .eeCfg_dabMode nn
  let ratio := s.rd .eeCfg_dabRatio nn
  let dead (m : Nat) : Nat := s.rd .eeHb_deadTime (6 * nn + m)
  let pulse (m : Nat) : Nat := s.rd .eeHb_minPulse (6 * nn + m)
  let modulated (m : Nat) : Bool := if m < 2 then hbr == 1 || hbr == 2 else decide (1 ≤ dab) && decide (dab ≤ 3)
  decide (hbr ≤ 3) && decide (dab ≤ 4) && (ratio == 1 || ratio == 2) && s.rd .eeCfg_laneSel nn != 3 &&
    s.rd .eeCfg_arm nn != 6 && !(hbr == 1 && s.rd .eeCfg_arm nn == 7) && s.rd .eeCarryLim_carryLimit nn != 0 &&
    !(s.rd .eeCfg_laneSel nn != 0 && s.on .laneCfg_enabled nn) &&
    (List.range 6).all (fun m => !modulated m || s.pulseFits (dead m) (pulse m)) &&
    (List.range 6).all (fun m => m < 2 || !modulated m || decide (2 * ratio * (dead m + pulse m) ≤ s.tCtl)) &&
    (List.range 2).all fun m => s.refreshFits nn (dead m) (pulse m)

/-- The checks of R230. -/
def Chip.edgesValid (s : Chip) : Bool :=
  let used := (List.range 96).filter fun nn => s.on .eeCfg_enabled nn
  let lanes := used.map s.laneOfCell
  let rL := s.rd .eeLCfg_rL
  decide lanes.Nodup && (List.range 96).all s.cellEngineValid && (rL == 1 || rL == 2 || rL == 4 || rL == 8) &&
    s.rd .eeCarryLim_carryLimit 96 != 0 &&
    (List.range 16).all fun p =>
      let dead := s.rd .eeLHb_deadTime p
      let pulse := s.rd .eeLHb_minPulse p
      (s.rd .eeLMode_mode p != 1 || s.pulseFits dead pulse) && s.refreshFits 96 dead pulse

/-! ## Converter and comparators (0x07) -/

/-- The configuration registers of R352. -/
def converterRegs : List Reg := [.adcSeqCfg, .adcSeqTrig, .adcEntry, .adcRb, .adcCalLim, .wcCfg]

/-- The entries of sequence `q`. -/
def Chip.sequenceEntries (s : Chip) (q : Nat) : List Nat :=
  (List.range 32).filter fun n => decide (s.rd .adcSeqCfg_first q ≤ n) && decide (n ≤ s.rd .adcSeqCfg_last q)

/-- The mode of the pair of EE_L channel `c` is OFF (R202). -/
def Chip.pairOff (s : Chip) (c : Nat) : Bool := s.rd .eeLMode_mode (c / 2) == 0

/-- The checks of R353. -/
def Chip.convertersValid (s : Chip) : Bool :=
  let qs := (List.range 4).filter fun q => s.on .adcSeqCfg_enabled q
  qs.all (fun q => decide (s.rd .adcSeqCfg_first q ≤ s.rd .adcSeqCfg_last q) &&
    (s.sequenceEntries q).all (fun n => s.on .adcEntry_enabled n && n != s.rd .adcRb_entry)) &&
  (List.range 4).all (fun q => !(s.rd .adcSeqCfg_source q == 1 && s.pairOff (s.rd .adcSeqTrig_channel q))) &&
  decide (qs.flatMap s.sequenceEntries).Nodup &&
  (List.range 4).all (fun q => s.rd .adcSeqTrig_div q != 0 && decide (s.rd .adcSeqTrig_div q ≤ 256)) &&
  (List.range 32).all (fun n => decide (s.rd .adcEntry_channel n < 24) && decide (1 ≤ s.rd .adcEntry_order n) &&
    decide (s.rd .adcEntry_order n ≤ 5) && decide (8 ≤ s.rd .adcEntry_dec n) && decide (s.rd .adcEntry_dec n ≤ 4096)) &&
  !(s.on .sltCfg_enabled && !s.on .adcRb_enabled) &&
  (List.range 24).all (fun n => decide (s.rd .wcCfg_tripSel n ≤ 16) && (!s.on .wcCfg_enabled n ||
    decide (s.rd .wcCfg_lo n + 2 * hystSteps (s.rd .wcCfg_hyst n) < s.rd .wcCfg_hi n))) &&
  s.rd .adcCalLim_offsetLimit != 0 && s.rd .adcCalLim_gainLimit != 0

/-! ## Metrology (0x08) -/

/-- The configuration registers of R377. -/
def meterRegs : List Reg := [.metCfg, .mptCfg, .mptSmax, .mptSrc, .mptVgain, .mptIgain, .mptIdelay]

/-- A source of the MV point names a stream of the image and one of its values (R355, R378). -/
def Chip.sourceValid (s : Chip) (v : Nat) : Bool :=
  match (storeGet s.inputs.streams (v / 16) {}).cfg with
  | some c => decide (v % 16 < c.values)
  | none => false

/-- The checks of R378. -/
def Chip.meterValid (s : Chip) : Bool :=
  let save := s.rd .metCfg_saveInterval
  let q := s.rd .mptCfg_seq 1
  decide (1 ≤ save) && decide (save ≤ 60) && s.on .mptCfg_enabled 0 == s.sys.mvUsed &&
  (List.range 2).all fun k => !s.on .mptCfg_enabled k ||
    (let ph := (s.usedPhases k).map fun p => 3 * k + p
     let tIn := s.meterInterval k
     let hz := if s.on .mptCfg_fNom k then 60 else 50
     !ph.isEmpty && s.rd .mptSmax_sMax k != 0 && decide (tIn ≤ 1000000) &&
       (s.rd .mptCfg_nW k : Int) == roundHalfUp 1000000000 (hz * tIn) &&
       ph.all (fun i => s.rd .mptVgain_gain i != 0 && s.rd .mptIgain_gain i != 0 &&
         (if k = 0 then s.sourceValid (s.rd .mptSrc_vSrc i) && s.sourceValid (s.rd .mptSrc_iSrc i)
          else (s.sequenceEntries q).contains (s.rd .mptSrc_vSrc i) && (s.sequenceEntries q).contains (s.rd .mptSrc_iSrc i))) &&
       (k = 0 || (s.on .adcSeqCfg_enabled q && s.rd .adcSeqCfg_source q == 0)) &&
       (List.range 3).all fun p => decide ((s.rdInt .mptIdelay_iDelay (3 * k + p)).natAbs ≤ tIn))

/-! ## Local power (0x09) -/

/-- The configuration registers of R398. -/
def powerRegs : List Reg := [.gdCfg, .gdDidt, .lpCfg, .tripCfg]

/-- The checks of R399. -/
def Chip.powerValid (s : Chip) : Bool :=
  let follow := (List.range 8).filter fun n => s.rd .gdCfg_src n == 1
  (List.range 8).all (fun n =>
    s.rd .gdCfg_src n != 3 && s.rd .gdCfg_drvUvlo n != 3 && decide (s.rd .gdCfg_negUvlo n ≤ 1) &&
    !(s.rd .gdCfg_src n == 1 && s.pairOff (s.rd .gdCfg_channel n)) &&
    (!s.on .gdCfg_pair n || (n % 2 == 0 && s.on .gdCfg_enabled (n + 1) && s.rd .gdCfg_src n == s.rd .gdCfg_src (n + 1))) &&
    decide (s.rd .gdDidt_loThr n < s.rd .gdDidt_hiThr n) && decide (10 ≤ s.rd .gdDidt_loThr n) &&
    decide (s.rd .gdDidt_hiThr n ≤ 1000)) &&
  decide (follow.map fun n => s.rd .gdCfg_channel n).Nodup &&
  (List.range 32).all (fun c => s.rd .lpCfg_safe c != 3 && s.rd .lpCfg_drive c != 3) &&
  (List.range 16).all fun t => decide (s.rd .tripCfg_filter t ≤ 3)

/-! ## Fault sources (0x0A) and safe power removal (0x0B) -/

/-- A source's settings as FS_CFG codes them (R421). -/
def sourceSettingsValid (v : Nat) : Bool :=
  bits v 30 2 != 3 && bits v 20 8 != 0 && bits v 0 20 != 0 && decide (bits v 0 20 ≤ 600000)

/-- The fault section (R410, R421). -/
def Chip.stageFaults (s : Chip) (sec : List Byte) : Option Chip :=
  let cfg (n : Nat) : Nat := leAt sec (4 * n) 4
  let src (o : Nat) : Nat := leAt sec (0x800 + 2 * o) 2
  let alive := leAt sec 0x1000 4
  let ok := sec.length == 0x1004 && (List.range 512).all (fun n => sourceSettingsValid (cfg n)) &&
    (List.range 1024).all (fun o => decide (src o < 512) || src o == 65535) &&
    fixedOrigins.all (fun o => decide (src o < 512) && bits (cfg (src o)) 30 2 == 2 && bits (cfg (src o)) 20 8 == 1) &&
    ((List.range 1024).drop 861).all (fun o => src o == 65535) && decide (5 ≤ bits alive 0 7) && decide (bits alive 0 7 ≤ 100)
  if !ok then none
  else
    let s := s.each (List.range 512) fun s n => s.setFields .fsCfg n (cfg n)
    let s := s.each (List.range 1024) fun s o => s.setFields .fcOrigin o (src o)
    some (s.setFields .fcAlive 0 alive)

/-- The section of safe power removal (R444). -/
def Chip.stageSpr (s : Chip) (sec : List Byte) : Option Chip :=
  let tel := leAt sec 4 2
  let watch := leAt sec 6 2
  let ok := sec.length == 16 && decide (byteAt sec 0 < 4) && byteAt sec 1 == 0 && decide (5 ≤ tel) && decide (tel ≤ 20) &&
    decide (10 ≤ watch) && decide (watch ≤ 1000) && decide (2 * tel ≤ watch) && leAt sec 8 8 == 0
  if !ok then none
  else
    let s := (s.wrFlag .stCfg_enabled (bitAt (byteAt sec 0) 0)).wrFlag .stCfg_pair (bitAt (byteAt sec 0) 1)
    some (((s.wr .stCfg_connId (leAt sec 2 2)).wr .stTime_tTel tel).wr .stTime_tWatch watch)

/-- Safe telegrams run on a pair in PRP whose ports are both enabled (R444). -/
def Chip.sprValid (s : Chip) : Bool :=
  let b := s.rd .stCfg_pair
  let m := if b = 0 then s.rd .netCfg_processMode else s.rd .netCfg_stationMode
  let port (p : Nat) : Nat := bits (s.rd .netCfg_portMode) (2 * p) 2
  !s.on .stCfg_enabled || (m == 1 && port (2 * b) != 0 && port (2 * b + 1) != 0)

/-! ## Halyard (0x0C) -/

/-- The registers of R478. -/
def halyardRegs : List Reg := [.halCfg, .halCopyA, .halCopyB, .halPeerHash]

/-- The blocks on one lane up to the end of part `p` with both lanes READY (R465, R467): the HAL_MARK, and a COPY_SOF and a COPY_EOF
to each part. -/
def laneBlocks (n1 n2 n3 p : Nat) : Nat :=
  let half (n : Nat) : Nat := (n + 1) / 2
  1 + 2 * p + (if p = 1 then half n1 else if p = 2 then half n1 + half n2 else half n1 + half n2 + half n3)

/-- The bound of R467 for part `p`, in units of 0.1 ns. -/
def Chip.copyFits (s : Chip) (p : Nat) : Bool :=
  let b := laneBlocks (s.rd .halCopyA_p1) (s.rd .halCopyA_p2) (s.rd .halCopyB_p3) p
  let spare := if p = 1 then 26000 else if p = 2 then 16000 else 1000
  decide (1000 + 194 * b + 5000 * s.rd .halCfg_dMax + spare ≤ 10 * s.tCtlNs)

/-- The blocks of part `p` of a copy, eight bytes each, which the device computes from the image (R455, R479; log entry 1605). -/
def partBlocks (p : Nat) (image : List Byte) : Nat := (Config.copyBytes p image + 7) / 8

/-- The bound of R22 on the state copied in one period: 8 KiB for each 10 µs of T_ctl, and at most 64 KiB. -/
def Chip.copyLimit (s : Chip) : Nat := min 65536 (8192 * s.tCtlNs / 10000)

/-- The checks of R479, with the bound of R22; the part counts where the image has section 0x0C and so gives them (`given`; log entry 1605). -/
def Chip.halyardValid (s : Chip) (pairEn : Bool) (image : List Byte) (given : Bool) : Bool :=
  s.on .halCfg_enabled == s.sys.pair && s.on .halCfg_enabled == pairEn && s.on .halCfg_dualSend == s.sys.dualSend &&
  decide (1 ≤ s.rd .halCfg_holdTime) && decide (s.rd .halCfg_holdTime ≤ 3600) && decide (1 ≤ s.rd .halCfg_dMax) &&
  decide (s.rd .halCfg_dMax ≤ 200) && s.on .halCfg_divLimit &&
  (!s.on .halCfg_enabled ||
    (s.on .laneCfg_enabled 96 && s.on .laneCfg_enabled 97 && s.rd .laneCfg_rate 96 == 2 && s.rd .laneCfg_rate 97 == 2)) &&
  !(s.rd .halCfg_rank == 1 && s.sys.startMode != 0) && decide (s.rd .halCfg_dMax ≤ s.rd .periodCfg_tCtl) &&
  (!given ||
    (s.rd .halCopyA_p1 == partBlocks 1 image && s.rd .halCopyA_p2 == partBlocks 2 image &&
     s.rd .halCopyB_p3 == partBlocks 3 image &&
     decide (Config.copyBytes 1 image + Config.copyBytes 2 image + Config.copyBytes 3 image ≤ s.copyLimit) &&
     s.copyFits 1 && s.copyFits 2 && s.copyFits 3))

/-! ## Temperature (0x0E) and slice test (0x0F) -/

/-- The configuration registers of R537. -/
def thermalRegs : List Reg :=
  [.tsCfg, .thSensor, .thLimA, .thLimB, .thLimC, .thHood, .grCfg, .grReef, .grClass, .huCfg, .flTemp]

/-- The checks of R538. -/
def Chip.thermalValid (s : Chip) : Bool :=
  let low := s.rdInt .huCfg_huLow
  let high := s.rdInt .huCfg_huHigh
  (List.range 16).all (fun l =>
    decide (s.rdInt .thLimB_tMin l < s.rdInt .thLimB_tRearm l) && decide (s.rdInt .thLimB_tRearm l < s.rdInt .thLimA_tMax l) &&
    decide (s.rdInt .thLimA_tMax l < s.rdInt .thLimA_tShut l) && decide (1 ≤ s.rd .thLimC_rateWindow l) &&
    decide (s.rd .thLimC_rateWindow l ≤ 60)) &&
  (List.range 63).all (fun h =>
    decide (((List.range 406).filter fun k => s.rd .thSensor_hood k == h).length ≤ 8) && s.rd .thHood_devLimit h != 0) &&
  (List.range 16).all (fun k => s.rd .tsCfg_kind k != 3 && !(s.on .thSensor_enabled k && s.rd .tsCfg_kind k == 0)) &&
  decide (120 ≤ s.rd .grCfg_pLim) && decide (s.rd .grCfg_pLim ≤ 310) &&
  decide (s.rd .grReef_reef2 < s.rd .grReef_reef1) && decide (s.rd .grReef_reef3 < s.rd .grReef_reef2) &&
  s.rd .grReef_hold != 0 && decide (low < high) && decide (-40 ≤ low) && decide (low ≤ 85) && decide (-40 ≤ high) &&
  decide (high ≤ 85) && decide (s.rd .huCfg_huSensor ≤ 21) && decide (s.rd .flTemp_flashSensor ≤ 21)

/-- The checks of R560. -/
def Chip.sliceTestValid (s : Chip) : Bool :=
  decide (6 ≤ s.rd .sltCfg_cyclePeriod) && decide (10 ≤ s.rd .sltCfg_secInterval) && decide (s.rd .sltCfg_secInterval ≤ 3600)

end Sys2Proof.Machine
end

