-- ==== Sys2Proof/Machine/Programs.lean ====
section
/-! DEFINITION. The image's sections of control engine programs (0x05: R273 to R302) and of live parameter declarations (0x11:
R97), with their application checks. -/

namespace Sys2Proof.Machine

/-! ## Instruction words (R273, R274) -/

/-- The instructions that no REP block and no SKN range holds (R276), by code: END, REP, SKN, MSEL. -/
def unskippable (op : Nat) : Bool := op == 0x3F || op == 0x1E || op == 0x1F || op == 0x1B

/-- An instruction word has a code of R274 and its fields in their ranges (R273, R274, R276, R278). -/
def wordValid (groups w : Nat) : Bool :=
  let op := wordOp w
  decide (w < 2 ^ 56) && bits w 39 3 == 0 && (decide (op ≤ 0x1F) || op == 0x3F) &&
    (match op with
     | 0x0A => decide (wordN w ≤ 1)
     | 0x13 => decide (2 ≤ wordN w) && decide (wordN w ≤ 8)
     | 0x19 => decide (wordA w < 512)
     | 0x1A => decide (wordC w < 512)
     | 0x1B => decide (wordA w < groups)
     | 0x1E => decide (1 ≤ wordA w) && decide (wordA w ≤ 16) && decide (1 ≤ wordB w) && decide (wordB w ≤ 4096)
     | 0x1F => decide (1 ≤ wordN w)
     | _ => true)

/-- The cycles of one instruction (R274). -/
def wordCycles (groups : List GroupDesc) (w : Nat) : Nat :=
  match wordOp w with
  | 0x09 | 0x0A | 0x14 | 0x15 | 0x16 | 0x17 | 0x18 => 2
  | 0x13 => 3
  | 0x1B => 2 + 2 * (groups.getD (wordA w) {}).members.length
  | _ => 1

/-- The cycles of a loop's words (R277): each REP block counted b times. -/
def loopCycles (groups : List GroupDesc) : List Nat → Nat
  | [] => 0
  | w :: r =>
    let again := if wordOp w = 0x1E then
        (wordB w - 1) * ((r.take (wordA w)).map (wordCycles groups)).foldl (· + ·) 0
      else 0
    wordCycles groups w + again + loopCycles groups r

/-- The words of a loop, END included (R285). -/
def EngineImage.loopWords (im : EngineImage) (d : LoopDesc) : List Nat :=
  (im.program.drop d.progStart).take (d.progEnd + 1 - d.progStart)

/-- The cycle count of an engine (R297). -/
def EngineImage.count (im : EngineImage) : Nat :=
  let w := ((im.outSlots.map (· / 16)).eraseDups).length
  let words := (im.ranges.map (·.2)).foldl (· + ·) 0
  16 + (im.loops.map fun d => 4 + loopCycles im.groups (im.loopWords d)).foldl (· + ·) 0 + w + (words + 7) / 8

/-! ## Reading section 0x05 (R301) -/

/-- An address or a group that may be none. -/
def orNone (none_ v : Nat) : Option Nat := if v = none_ then none else some v

/-- A loop descriptor. -/
def readLoop (b : List Byte) (o : Nat) : LoopDesc :=
  { progStart := leAt b o 2, progEnd := leAt b (o + 2) 2, coefBase := leAt b (o + 4) 2, coefCount := byteAt b (o + 6),
    initClosed := bitAt (byteAt b (o + 7)) 0, intAddr := orNone 0xFFFF (leAt b (o + 8) 2),
    outWord := orNone 0xFFFF (leAt b (o + 10) 2), manualWord := orNone 0xFFFF (leAt b (o + 12) 2),
    group := orNone 0xFF (byteAt b (o + 14)) }

/-- A group descriptor, and whether its fields are in range: 1 to 8 members, the unused places 0xFF, an arm of 0 to 5 or none. -/
def readGroup (b : List Byte) (o : Nat) : GroupDesc × Bool :=
  let n := byteAt b o
  let arm := byteAt b (o + 1)
  let m := (List.range 8).map fun k => byteAt b (o + 2 + k)
  ({ members := m.take n, arm := orNone 0xFF arm },
   decide (1 ≤ n) && decide (n ≤ 8) && (m.drop n).all (· == 0xFF) && (decide (arm ≤ 5) || arm == 0xFF))

/-- The initial data memory (8,192 words of 2 bytes), by address, words of 0 left out. -/
def readInitial (bs : List Byte) (x : Nat) : Nat → Store Nat
  | 0 => []
  | n + 1 =>
    match bs with
    | lo :: hi :: r =>
      let v := leNat [lo, hi]
      if v = 0 then readInitial r (x + 1) n else (x, v) :: readInitial r (x + 1) n
    | _ => []

/-- Engine `e` of the section: the recorded count and what the image gives the engine; `none` where a table or a count lies outside
its range. -/
def readEngine (sec : List Byte) (e : Nat) : Option (Nat × EngineImage) :=
  let o := 0x20 + 48 * e
  let nl := leAt sec (o + 4) 2
  let ng := leAt sec (o + 6) 2
  let np := leAt sec (o + 0x14) 2
  let ni := leAt sec (o + 0x16) 2
  let no := leAt sec (o + 0x20) 2
  let nr := leAt sec (o + 0x22) 2
  let at_ (k : Nat) : Nat := leAt sec (o + k) 4
  let inside (k size : Nat) : Bool := size == 0 || decide (at_ k + size ≤ sec.length)
  let groups := (List.range ng).map fun g => readGroup sec (at_ 0xC + 16 * g)
  let words := (List.range np).map fun k => leAt sec (at_ 0x10 + 8 * k) 8
  let fits := decide (1 ≤ nl) && decide (nl ≤ 64) && decide (ng ≤ 8) && decide (1 ≤ np) && decide (np ≤ 4096) &&
    decide (ni ≤ 512) && decide (no ≤ 512) && decide (nr ≤ 8) && inside 8 (16 * nl) && inside 0xC (16 * ng) &&
    inside 0x10 (8 * np) && inside 0x18 (4 * ni) && inside 0x1C (4 * no) && inside 0x24 (4 * nr) && inside 0x28 16384 &&
    at_ 0x2C == 0 && groups.all (·.2)
  if !fits then none
  else
    let range (k : Nat) : Nat × Nat :=
      let v := leAt sec (at_ 0x24 + 4 * k) 4
      (bits v 0 13, bits v 16 13)
    let loops := (List.range nl).map fun l => readLoop sec (at_ 8 + 16 * l)
    let im : EngineImage := {
      loops := loops, groups := groups.map (·.1), program := words
      inSlots := (List.range ni).map fun k => leAt sec (at_ 0x18 + 4 * k) 4
      outSlots := (List.range no).map fun k => leAt sec (at_ 0x1C + 4 * k) 4
      ranges := (List.range nr).map range, initial := readInitial (sec.drop (at_ 0x28)) 0 8192 }
    some (at_ 0, im)

/-! ## The checks of R302 -/

/-- An input slot's address (R279) and an output slot's (R282). -/
def inSlotValid (a : Nat) : Bool := a % 2 == 0 && decide (0x10400000 ≤ a) && decide (a ≤ 0x107FFFFF)
def outSlotValid (a : Nat) : Bool :=
  a % 2 == 0 && ((decide (stagingBase ≤ a) && decide (a < stagingBase + 4 * refSetWords)) ||
    ((List.range 6).any fun k => a / 4 * 4 == armBlock k) || (decide (0x10480000 ≤ a) && decide (a ≤ 0x1048FFFF)))

/-- No two of some ranges (first, length) share a number. -/
def rangesApart : List (Nat × Nat) → Bool
  | [] => true
  | (a, n) :: r => r.all (fun (b, m) => decide (a + n ≤ b) || decide (b + m ≤ a)) && rangesApart r

/-- The REP block or SKN range after word `pc` lies in the loop that holds `pc` and has none of the instructions of R276. -/
def EngineImage.blockValid (im : EngineImage) (pc : Nat) : Bool :=
  let w := im.program.getD pc 0
  let len := if wordOp w = 0x1E then wordA w else wordN w
  im.loops.any (fun d => decide (d.progStart ≤ pc) && decide (pc + len ≤ d.progEnd)) &&
    ((im.program.drop (pc + 1)).take len).all fun w => !unskippable (wordOp w)

/-- Loop `ll` with its group and its TRK (R291, R302). -/
def EngineImage.loopValid (im : EngineImage) (ll : Nat) (d : LoopDesc) : Bool :=
  let words := im.loopWords d
  let tracks := words.filter fun w => wordOp w == 0x0A && some (wordC w) == d.outWord
  let memberOf := (List.range im.groups.length).filter fun g => (im.groups.getD g {}).members.contains ll
  decide (d.progStart ≤ d.progEnd) && decide (d.progEnd < im.program.length) &&
    wordOp (im.program.getD d.progEnd 0) == 0x3F && (words.filter fun w => wordOp w == 0x3F).length == 1 &&
    (d.outWord.isNone || d.group.isSome || tracks.length == 1) && decide (d.coefCount ≤ 64) &&
    (d.coefCount == 0 || decide (d.coefBase + d.coefCount ≤ 8192)) && (d.intAddr.all fun i => decide (i + 3 ≤ 8191)) &&
    (d.outWord.all fun i => decide (i ≤ 8191)) && (d.manualWord.all fun i => decide (i ≤ 8191)) &&
    (match d.group with
     | none => memberOf.isEmpty
     | some g => memberOf == [g])

/-- Group `g` (R291): members with an output word, evaluated by exactly one MSEL, in a loop above every member. -/
def EngineImage.groupValid (im : EngineImage) (g : Nat) (d : GroupDesc) : Bool :=
  let evals := (List.range im.loops.length).flatMap fun ll =>
    ((im.loopWords (im.loops.getD ll {})).filter fun w => wordOp w == 0x1B && wordA w == g).map fun _ => ll
  decide d.members.Nodup &&
    d.members.all (fun m => decide (m < im.loops.length) && (im.loops.getD m {}).outWord.isSome) &&
    (match evals with
     | [ll] => d.members.all fun m => decide (m < ll)
     | _ => false)

/-- The integrators of an engine, by address: those of its descriptors and those that its INT, ADDI and TRK words name without X (R272,
R274, R302). -/
def EngineImage.integrators (im : EngineImage) : List Nat :=
  let named := im.program.filterMap fun w =>
    match wordOp w with
    | 0x08 => if bitAt w 49 then none else some (wordA w)
    | 0x09 => if bitAt w 47 then none else some (wordC w)
    | 0x0A => if wordN w = 1 ∧ bitAt w 49 = false then some (wordA w) else none
    | _ => none
  ((im.loops.filterMap fun d => d.intAddr) ++ named).eraseDups

/-- The checks of R302 on one active engine. -/
def EngineImage.valid (im : EngineImage) : Bool :=
  let n := im.program.length
  im.program.all (wordValid im.groups.length) &&
    rangesApart (im.loops.map fun d => (d.progStart, d.progEnd + 1 - d.progStart)) &&
    (List.range n).all (fun pc => wordOp (im.program.getD pc 0) != 0x3F || im.loops.any fun d => d.progEnd == pc) &&
    (List.range n).all (fun pc =>
      let op := wordOp (im.program.getD pc 0)
      (op != 0x1E && op != 0x1F) || im.blockValid pc) &&
    (List.range im.loops.length).all (fun ll => im.loopValid ll (im.loops.getD ll {})) &&
    (List.range im.groups.length).all (fun g => im.groupValid g (im.groups.getD g {})) &&
    im.ranges.all (fun r => decide (r.1 + r.2 ≤ 8192)) &&
    im.integrators.all (fun i => decide (i + 3 ≤ 8191)) && rangesApart (im.integrators.map fun i => (i, 4)) &&
    im.inSlots.all inSlotValid && im.outSlots.all outSlotValid

/-- The cycles of the compute window, C × 500 MHz (R19, R85). -/
def Chip.computeCycles (s : Chip) : Nat := (s.tCtlNs - 4000 - s.sheafWindowNs) / 2

/-- Section 0x05 staged: CE_CFG and what the image gives each engine; the recorded counts are kept for R298. -/
def Chip.stageEngines (s : Chip) (sec : List Byte) : Option Chip :=
  let mask := leAt sec 4 4
  let head := decide (0x20 + 48 * 24 ≤ sec.length) && leAt sec 0 2 == 24 && leAt sec 2 2 == 0 && decide (mask < 2 ^ 24) &&
    ((sec.drop 8).take 24).all (· == 0)
  if !head then none
  else (List.range 24).foldlM (init := s) fun s e =>
    if bitAt mask e then
      (readEngine sec e).bind fun (count, im) =>
        if im.valid && count == im.count then
          let s := s.setEngine e { s.engine e with image := im }
          some ((((s.wr .ceCfg_active 1 e).wr .ceCfg_loopCount im.loops.length e).wr .ceCfg_progLength im.program.length e).wr .ceCycles_count
            im.count e)
        else none
    else if ((sec.drop (0x20 + 48 * e)).take 48).all (· == 0) then some s
    else none

/-- The active engines. -/
def Chip.activeEngines (s : Chip) : List Nat := (List.range 24).filter fun e => s.on .ceCfg_active e

/-- The checks of R282, R298 and R302 that span the engines: distinct output slots, the budget, and one power-setpoint group to every
enabled arm and none to a disabled one. -/
def Chip.enginesValid (s : Chip) : Bool :=
  let act := s.activeEngines
  let arms := act.flatMap fun e => (s.engine e).image.groups.filterMap fun g => g.arm
  decide (act.flatMap fun e => (s.engine e).image.outSlots).Nodup &&
    act.all (fun e => decide ((s.engine e).image.count ≤ s.computeCycles)) &&
    (List.range 6).all fun a => (arms.filter (· == a)).length == flag (s.on .armCfg_enabled a)

/-! ## Live parameter declarations (0x11) -/

/-- A declaration (R97). -/
def readDecl (b : List Byte) (o : Nat) : Nat × LiveDecl :=
  (leAt b o 2, { kind := byteAt b (o + 2), format := byteAt b (o + 3), target := leAt b (o + 4) 4,
                 min := signed 32 (leAt b (o + 8) 4), max := signed 32 (leAt b (o + 12) 4) })

/-- The live parameter section (R97). -/
def Chip.stageLive (s : Chip) (sec : List Byte) : Option Chip :=
  let l := (List.range (sec.length / 16)).map fun k => readDecl sec (16 * k)
  let ok := sec.length % 16 == 0 && decide (l.length ≤ 256) && decide (l.map (·.1)).Nodup &&
    l.all fun (i, d) => decide (i < 256) && decide (1 ≤ d.kind) && decide (d.kind ≤ 4) && decide (d.format ≤ 1)
  if ok then some { s with live := { s.live with decls := l } } else none

/-- A unit's command of kind 2 (R241, R370, R385). -/
def commandListed (unit command : Nat) : Bool :=
  (unit == 3 && decide (1 ≤ command) && decide (command ≤ 3)) || (unit == 8 && command == 1) ||
    (unit == 9 && decide (1 ≤ command) && decide (command ≤ 3))

/-- The targets of the declarations (R280, R287, R288, R302). -/
def Chip.liveValid (s : Chip) : Bool :=
  s.live.decls.all fun (_, d) =>
    let im := (s.engine d.engine).image
    let named := s.on .ceCfg_active d.engine && decide (d.engine < 24) && decide (d.loop < im.loops.length)
    match d.kind with
    | 1 =>
      let inRange (a n : Nat) : Bool := decide (a ≤ d.dataWord) && decide (d.dataWord < a + n)
      decide (d.engine < 24) && bits d.target 13 11 == 0 && bits d.target 29 3 == 0 &&
        !im.loops.any (fun l => inRange l.coefBase l.coefCount) && !im.integrators.any fun i => inRange i 4
    | 2 => commandListed d.unit d.command
    | 3 => named
    | _ => named && decide (d.coefficient < (im.loops.getD d.loop {}).coefCount)

end Sys2Proof.Machine
end

