-- ==== Sys2Proof/Machine/Records.lean ====
section
/-! DEFINITION. The image's sections with records of their own: subscriptions (0x06: R323, R324), network (0x0D: R512, R513),
storage (0x10: R588) and SRAM data (0x12: R80). -/

namespace Sys2Proof.Machine

/-- A text field, without its padding. -/
def textAt (b : List Byte) (o n : Nat) : List Byte := ((b.drop o).take n).takeWhile (· != 0)

/-- `n` bytes at an offset are 0. -/
def zerosAt (b : List Byte) (o n : Nat) : Bool := ((b.drop o).take n).all (· == 0)

/-- A text field holds ASCII characters, padded with 0 (R323, R512). -/
def textValid (b : List Byte) (o n : Nat) : Bool :=
  (textAt b o n).all (fun c => decide (c.toNat < 128)) && zerosAt b (o + (textAt b o n).length) (n - (textAt b o n).length)

/-! ## Subscriptions (0x06) -/

/-- A stream entry (R323). -/
def readStream (b : List Byte) : SvConfig :=
  { dst := leAt b 0 6, appid := leAt b 6 2, rate := byteAt b 8, asdus := byteAt b 9, values := byteAt b 0xA,
    confRev := leAt b 0xC 4, delta := leAt b 0x10 2, used := leAt b 0x12 2, svId := textAt b 0x20 64,
    fullScale := (List.range 16).map fun v => leAt b (0x60 + 4 * v) 4 }

/-- The checks of R324 on a stream entry: full_scale is an INT32. -/
def streamValid (b : List Byte) : Bool :=
  let c := readStream b
  decide (c.rate ≤ 3) && decide (1 ≤ c.asdus) && decide (c.asdus ≤ 8) && decide (1 ≤ c.values) && decide (c.values ≤ 16) &&
    byteAt b 0xB == 0 && zerosAt b 0x14 12 && textValid b 0x20 64 && decide (2000000 ≤ c.delta * svRate c.rate) && decide (c.delta ≤ 5000) &&
    (List.range 16).all fun v => c.fullScale.getD v 0 != 0 && decide (c.fullScale.getD v 0 < 2 ^ 31)

/-- A GOOSE entry (R323). -/
def readGoose (b : List Byte) : GooseConfig :=
  { dst := leAt b 0 6, appid := leAt b 6 2, station := byteAt b 8 == 1, failTrip := bitAt (byteAt b 0xA) 0,
    confRev := leAt b 0xC 4, ref := textAt b 0x10 64,
    members := (List.range (byteAt b 9)).map fun k =>
      let o := 0x50 + 4 * k
      { position := byteAt b o, dbpos := byteAt b (o + 1) == 1, tripValue := byteAt b (o + 2), trip := bitAt (byteAt b (o + 3)) 0 } }

/-- The checks of R324 on a GOOSE entry: the fields of all eight members lie in their ranges, those past the count too. -/
def gooseValid (b : List Byte) : Bool :=
  let n := byteAt b 9
  decide (byteAt b 8 ≤ 1) && decide (1 ≤ n) && decide (n ≤ 8) && decide (byteAt b 0xA ≤ 1) && byteAt b 0xB == 0 &&
    zerosAt b 0x70 16 && textValid b 0x10 64 &&
    (List.range 8).all fun k =>
      let o := 0x50 + 4 * k
      decide (byteAt b o ≤ 63) && decide (byteAt b (o + 1) ≤ 1) && decide (byteAt b (o + 3) ≤ 1) &&
        decide (byteAt b (o + 2) ≤ if byteAt b (o + 1) = 1 then 3 else 1)

/-- The subscription section (R323, R324). -/
def Chip.stageInputs (s : Chip) (sec : List Byte) : Option Chip :=
  let ns := byteAt sec 0
  let ng := byteAt sec 1
  let stream (n : Nat) : List Byte := (sec.drop (0x10 + 160 * n)).take 160
  let goose (g : Nat) : List Byte := (sec.drop (0x10 + 160 * ns + 128 * g)).take 128
  let cs := (List.range ns).map fun n => readStream (stream n)
  let gs := (List.range ng).map fun g => readGoose (goose g)
  let ok := decide (ns ≤ 16) && decide (ng ≤ 64) && zerosAt sec 2 14 && sec.length == 0x10 + 160 * ns + 128 * ng &&
    (List.range ns).all (fun n => streamValid (stream n)) && (List.range ng).all (fun g => gooseValid (goose g)) &&
    decide (cs.map fun c => (c.dst, c.appid, c.svId)).Nodup && decide (gs.map fun c => (c.dst, c.appid, c.ref)).Nodup
  if !ok then none
  else
    let s := s.each (List.range ns) fun s n => s.setStream n { cfg := cs[n]? }
    some (s.each (List.range ng) fun s g => s.setGoose g { cfg := gs[g]? })

/-! ## Network (0x0D) -/

/-- The registers of R512. -/
def networkRegs : List Reg := [.netCfg, .pCorr, .ptpCfg, .poCfg, .poRate]

/-- A published stream (R512). -/
def readPubStream (b : List Byte) : PubStream :=
  { dst := leAt b 0 6, appid := leAt b 6 2, vlan := leAt b 8 2, rate := byteAt b 0xA, perFrame := byteAt b 0xB,
    sequence := byteAt b 0xD, primaryOnly := bitAt (byteAt b 0xE) 0, confRev := leAt b 0x10 4, svId := textAt b 0x20 64,
    values := (List.range (byteAt b 0xC)).map fun v => (byteAt b (0x60 + 4 * v), leAt b (0x61 + 4 * v) 3) }

/-- The checks of R512 and R513 on a stream, given the registers staged. -/
def Chip.pubStreamValid (s : Chip) (b : List Byte) : Bool :=
  let p := readPubStream b
  let q := p.sequence
  byteAt b 0xF == 0 && zerosAt b 0x14 12 && textValid b 0x20 64 && decide (p.rate ≤ 3) && decide (1 ≤ p.perFrame) && decide (p.perFrame ≤ 8) && decide (1 ≤ byteAt b 0xC) &&
    decide (byteAt b 0xC ≤ 8) && decide (q ≤ 3) && decide (byteAt b 0xE ≤ 1) && s.on .adcSeqCfg_enabled q &&
    decide (s.rd .adcSeqTrig_div q * s.tCtlNs * svRate p.rate ≤ 1000000000) &&
    p.values.all fun v => (s.sequenceEntries q).contains v.1 && v.2 != 0

/-- A published member (R500, R512). -/
def readPubMember (b : List Byte) (o : Nat) : PubMember :=
  { kind := byteAt b o, dbpos := byteAt b (o + 1) == 1, bit := byteAt b (o + 2), source := leAt b (o + 4) 4 }

/-- The ranges of R500 on a member. -/
def pubMemberValid (b : List Byte) (o : Nat) : Bool :=
  let m := readPubMember b o
  decide (byteAt b (o + 1) ≤ 1) &&
    (match m.kind with
     | 0 => decide (m.bit + flag m.dbpos ≤ 15) && m.source % 2 == 0 && decide (0x10480000 ≤ m.source) && decide (m.source ≤ 0x1048FFFF)
     | 1 => !m.dbpos && decide (m.source < 512)
     | 2 => !m.dbpos && decide (m.source ≤ 3)
     | _ => false)

/-- A published GOOSE block (R512). -/
def readPubGoose (b : List Byte) : PubGoose :=
  { dst := leAt b 0 6, appid := leAt b 6 2, vlan := leAt b 8 2, fast := bitAt (byteAt b 0xB) 0,
    primaryOnly := bitAt (byteAt b 0xB) 1, tMin := leAt b 0xC 2, tMax := leAt b 0xE 2, confRev := leAt b 0x10 4,
    ref := textAt b 0x20 64, datSet := textAt b 0x60 64,
    members := (List.range (byteAt b 0xA)).map fun k => readPubMember b (0xA0 + 8 * k) }

/-- The checks of R512 and R513 on a GOOSE block. -/
def pubGooseValid (b : List Byte) : Bool :=
  let p := readPubGoose b
  zerosAt b 0x14 12 && textValid b 0x20 64 && textValid b 0x60 64 &&
    decide (1 ≤ byteAt b 0xA) && decide (byteAt b 0xA ≤ 8) && decide (byteAt b 0xB < 4) && decide (1 ≤ p.tMin) &&
    decide (p.tMin ≤ 1000) && decide (p.tMin ≤ p.tMax) && decide (p.tMax ≤ 60000) &&
    (List.range (byteAt b 0xA)).all (fun k => pubMemberValid b (0xA0 + 8 * k)) &&
    !(p.fast && p.members.any fun m => m.kind == 0)

/-- The link mode of a port in the staged NET_CFG, and whether both ports of a pair are off. -/
def Chip.stagedPort (s : Chip) (p : Nat) : Nat := bits (s.rd .netCfg_portMode) (2 * p) 2
def Chip.pairDark (s : Chip) (b : Nat) : Bool := s.stagedPort (2 * b) == 0 && s.stagedPort (2 * b + 1) == 0

/-- The checks of R513 on the registers; `streams` tells whether a stream is published (on the process-bus pair, R496). -/
def Chip.networkValid (s : Chip) (streams : Bool) : Bool :=
  let mode (b : Nat) : Nat := if b = 0 then s.rd .netCfg_processMode else s.rd .netCfg_stationMode
  (List.range 2).all (fun b => mode b != 3 && (mode b == 0 ||
    (s.stagedPort (2 * b) != 0 && s.stagedPort (2 * b) == s.stagedPort (2 * b + 1)))) &&
  !(s.on .ptpCfg_enabled && s.pairDark (s.rd .ptpCfg_pair)) && !(streams && s.pairDark 0) &&
  !s.pairDark (s.rd .netCfg_saPair) && s.rd .netCfg_saPort != 0 &&
  (List.range 8).all fun n =>
    let rate := s.rd .poRate_rate n
    let w := s.rd .poCfg_width n
    s.rd .poCfg_mode n != 3 && decide (1 ≤ rate) && decide (rate ≤ 1000000) && w != 0 &&
      (s.rd .poCfg_mode n != 2 || decide (100 * w * rate < 1000000000))

/-- The network section (R512, R513): its register entries, then keys, streams and GOOSE blocks. The checks that need the
converter's settings are made on the whole image. -/
def Chip.stageNetwork (s : Chip) (sec : List Byte) : Option Chip :=
  let nr := leAt sec 0 2
  let nk := byteAt sec 2
  let ns := byteAt sec 3
  let ng := byteAt sec 4
  let o1 := 0x10 + 8 * nr
  let o2 := o1 + 112 * nk
  let o3 := o2 + 128 * ns
  let key (k : Nat) : StationKey := { publicKey := (sec.drop (o1 + 112 * k)).take 96, role := byteAt sec (o1 + 112 * k + 96) }
  let regs := (List.range nr).map fun k => (leAt sec (0x10 + 8 * k) 4, leAt sec (0x14 + 8 * k) 4)
  let ok := decide (nr ≤ 64) && decide (nk ≤ 8) && decide (ns ≤ 4) && decide (ng ≤ 16) && zerosAt sec 5 3 && zerosAt sec 13 3 &&
    sec.length == o3 + 224 * ng && (regs.head?.all fun e => e.1 == 0) &&
    (List.range nk).all (fun k => (key k).role != 0 && decide ((key k).role < 8)) &&
    (List.range ng).all fun g => pubGooseValid ((sec.drop (o3 + 224 * g)).take 224)
  if !ok then none
  else
    (s.stageEntries networkRegs (fun _ _ => false) (regs.drop 1)).bind fun s =>
      some { s with net := { s.net with
        ip := leAt sec 8 4, prefixLen := byteAt sec 12, gateway := (regs.head?.map (·.2)).getD 0
        keys := (List.range nk).map key
        streams := (List.range ns).map fun n => readPubStream ((sec.drop (o2 + 128 * n)).take 128)
        blocks := (List.range ng).map fun g => readPubGoose ((sec.drop (o3 + 224 * g)).take 224) } }

/-- The checks of R513 on the whole image, where it has the section. -/
def Chip.networkImageValid (s : Chip) (sec : List Byte) : Bool :=
  let nr := leAt sec 0 2
  let o2 := 0x10 + 8 * nr + 112 * byteAt sec 2
  s.networkValid (byteAt sec 3 != 0) &&
    (List.range (byteAt sec 3)).all fun n => s.pubStreamValid ((sec.drop (o2 + 128 * n)).take 128)

/-! ## Storage (0x10) -/

/-- The registers of R588. -/
def storageRegs : List Reg := [.nvCfg, .drCfg, .drSpan, .drTrigWc, .drTrigTrip, .drChan]

/-- The storage section (R588). -/
def Chip.stageStorage (s : Chip) (sec : List Byte) : Option Chip :=
  let nr := leAt sec 0 2
  let nc := leAt sec 2 2
  let o := 0x50 + 8 * nr
  let regs := (List.range nr).map fun k => (leAt sec (0x50 + 8 * k) 4, leAt sec (0x54 + 8 * k) 4)
  if sec.length ≠ o + 48 * nc then none
  else
    (s.stageEntries storageRegs (fun _ _ => false) regs).bind fun s =>
      let ch := s.rd .drCfg_channels
      let spanSets := 10 * (s.rd .drSpan_preMs + s.rd .drSpan_postMs)
      let ok := nc == ch && decide (1 ≤ ch) && decide (ch ≤ 256) && decide (s.rd .drSpan_preMs ≤ 3000) &&
        decide (spanSets ≤ 16777216 / (2 * ch)) && decide (1 ≤ s.rd .nvCfg_refreshBits) &&
        (List.range 256).all fun n =>
          let a := s.rd .drChan_addr n
          a % 2 == 0 && decide (0x10400000 ≤ a) && decide (a ≤ 0x107FFFFF)
      if !ok then none
      else some { s with storage := { s.storage with
        station := textAt sec 0x10 64, channelTable := (List.range nc).map fun k => (sec.drop (o + 48 * k)).take 48 } }

/-- The SRAM data section (R34, R80): at most the 4 MiB of image data. -/
def Chip.stageSram (s : Chip) (sec : List Byte) : Option Chip :=
  if sec.length ≤ 0x400000 then some (s.sramFill 0x10800000 sec) else none

end Sys2Proof.Machine
end

