-- ==== Sys2Proof/Machine/Slices.lean ====
section
/-! DEFINITION. The slice test (R540 to R561): the cycle, hand-over, signatures, retirement, and the tests in place. An
instance is numbered 128 × kind + index, with the kinds of SLT_LAST: 1 control engine, 2 cell edge engine, 3 EE_S, 4 the EE_L
compare unit, 5 lane PCS, 6 spare PCS, 7 block wire, 8 security block. -/

namespace Sys2Proof.Machine

def sliceInst (kind index : Nat) : Nat := 128 * kind + index
def instKind (i : Nat) : Nat := i / 128
def instIndex (i : Nat) : Nat := i % 128

/-- The slice length of a kind in nanoseconds (R540). -/
def sliceLength : Nat → Nat
  | 1 => 35000
  | 2 | 3 => 30000
  | 4 => 2000
  | 5 | 6 => 20000
  | 7 => 200
  | _ => 50000

/-- The run of a track. -/
def Chip.sliceRun (s : Chip) (track : Nat) : Option SliceRun := if track = 0 then s.slices.run0 else s.slices.run1
def Chip.setSliceRun (s : Chip) (track : Nat) (r : Option SliceRun) : Chip :=
  { s with slices := if track = 0 then { s.slices with run0 := r } else { s.slices with run1 := r } }

/-- An instance is retired. -/
def Chip.instRetired (s : Chip) (i : Nat) : Bool :=
  let n := instIndex i
  match instKind i with
  | 1 => s.on .ceCfg_retired n
  | 2 => s.rdBit .sltRetEe_retired (n % 32) (n / 32)
  | 3 => s.rdBit .sltRetMisc_eeS n
  | 4 => s.on .sltRetMisc_eeL
  | 5 => s.rdBit .sltRetPcs_retired (n % 32) (n / 32)
  | 6 => s.rdBit .sltRetMisc_pcsS n
  | 7 => s.rdBit .sltRetMisc_bw n
  | _ => s.on .sltRetMisc_security

/-- The logical engine that a physical engine runs, if any (R266). -/
def Chip.logicalOf (s : Chip) (p : Nat) : Option Nat :=
  (List.range 24).find? fun e => s.on .ceCfg_active e && s.rd .ceCfg_runsOn e == p

/-- The spare edge engines that are free: not retired and standing for nothing (R227, R544). -/
def Chip.freeEdgeSpares (s : Chip) : List Nat :=
  [0, 1].filter fun n => !s.rdBit .sltRetMisc_eeS n && s.rd .eeEstat_standFor (100 + n) == 127

/-- The spare PCS units that are free (R546). -/
def Chip.freePcs (s : Chip) : List Nat :=
  [0, 1].filter fun n => !s.rdBit .sltRetMisc_pcsS n && (storeGet s.slices.pcsFor n none).isNone

/-- The instances of track 0 in the order of R540, and of track 1; the security block where it is due (R547, R553). -/
def Chip.cycleTrack0 (s : Chip) : List Nat :=
  let ce := (List.range 24).filter fun p => !s.on .ceCfg_retired p
  let active := ce.filter fun p => (s.logicalOf p).isSome
  let spare := ce.filter fun p => (s.logicalOf p).isNone
  let ee := (List.range 96).filter fun n => s.on .eeCfg_enabled n && !s.instRetired (sliceInst 2 n)
  let eeS := [0, 1].filter fun n => !s.rdBit .sltRetMisc_eeS n
  (active ++ spare).map (sliceInst 1) ++ ee.map (sliceInst 2) ++ eeS.map (sliceInst 3)
def Chip.cycleTrack1 (s : Chip) (security : Bool) : List Nat :=
  let pcs := (List.range 100).filter fun n => s.on .laneCfg_enabled n && !s.instRetired (sliceInst 5 n)
  let rest := ([sliceInst 6 0, sliceInst 6 1] ++ (List.range 4).map (sliceInst 7)).filter fun i => !s.instRetired i
  (if s.on .eeLCfg_enabled && !s.on .sltRetMisc_eeL then [sliceInst 4 0] else []) ++ pcs.map (sliceInst 5) ++ rest ++
    (if security && !s.on .sltRetMisc_security then [sliceInst 8 0] else [])

/-- An engine is tested in place while steps 2 or 4 are inactive, and one whose cell computes nothing always (R544); an EE_S while it is
free, and never while it carries a lane (R545). -/
def Chip.inPlace (s : Chip) (i : Nat) : Bool :=
  let still := !s.stepActive 2 || !s.stepActive 4
  match instKind i with
  | 1 => still || (s.logicalOf (instIndex i)).isNone
  | 2 => still || decide (2 ≤ s.rd .cellStat_state (instIndex i))
  | 3 => s.rd .eeEstat_standFor (100 + instIndex i) == 127
  | 5 => false
  | _ => true

/-- The spare that would carry an instance's load now (R543 to R546). -/
def Chip.spareFor (s : Chip) (i : Nat) : Option Nat :=
  match instKind i with
  | 1 => s.engineSpares.head?
  | 2 =>
    match s.freeEdgeSpares with
    | [] => none
    | l => some (if l.contains (1 - s.slices.lastSpare) then 1 - s.slices.lastSpare else l.headD 0)
  | 3 => (s.freeEdgeSpares.filter (· != instIndex i)).head?
  | 5 => s.freePcs.head?
  | _ => none

/-- An instance is skipped (R552): counted, and for an active control engine no_cover. -/
def Chip.skipInst (s : Chip) (i : Nat) : Chip :=
  let s := { s.count .sltCount_skipped with slices := { s.slices with skippedAny := true } }
  if instKind i = 1 then s.wr .ceStat_noCover 1 else s

/-- The slices in progress (R561). -/
def Chip.showSlices (s : Chip) : Chip :=
  let on_ (r : Option SliceRun) : Nat := match r with
    | some x => flag (!x.done)
    | none => 0
  (s.wr .sltStat_active (on_ s.slices.run0 + on_ s.slices.run1)).engineStat

/-- A cycle completes when both tracks have finished (R553, R561). -/
def Chip.cycleEnd (s : Chip) : Chip :=
  let sl := s.slices
  if s.on .sltStat_running && sl.queue0.isEmpty && sl.queue1.isEmpty && sl.run0.isNone && sl.run1.isNone then
    let last := min 65535 ((s.clock.now - sl.cycleFrom) / 10000)
    let s := ((s.wr .sltStat_running 0).wr .sltStat_cycles ((s.rd .sltStat_cycles + 1) % 65536)).wr .sltCycle_last last
    let s := s.wr .sltCycle_worst (max last (s.rd .sltCycle_worst))
    s.wrFlag .sltStat_uncovered (sl.skippedAny || s.on .adcStat_noRotation)
  else s

/-- SLICE_CYCLE_START (R547, R552, R553, R556): a cycle starts when it falls due and the one before has completed. -/
def Chip.cycleStart (s : Chip) : Chip :=
  match s.slices.nextStart with
  | none => s
  | some t =>
    if !s.on .sltCfg_enabled || s.on .sltStat_running || decide (s.clock.now < t) then s
    else
      let security := decide (s.slices.securityAt ≤ s.clock.now)
      let off := s.on .adcStat_noRotation
      let s := s.wr .sltStat_running 1
      let s := { s with converter := { s.converter with readBackDone := false } }
      let next := if s.slices.lateSeen then s.clock.now else t
      let s := { s with slices := { s.slices with
        cycleFrom := s.clock.now, nextStart := some (next + 1000000 * s.rd .sltCfg_cyclePeriod), lateSeen := false
        skippedAny := off, supplyDone := []
        securityAt := if security then s.clock.now + 1000000000 * s.rd .sltCfg_secInterval else s.slices.securityAt } }
      let q0 := s.cycleTrack0
      let q1 := s.cycleTrack1 security
      let skip (i : Nat) : Bool := !s.inPlace i && (s.spareFor i).isNone
      let s := s.each ((q0 ++ q1).filter skip) fun s i => s.skipInst i
      let s := { s with slices := { s.slices with queue0 := q0.filter (fun i => !skip i), queue1 := q1.filter (fun i => !skip i) } }
      s.cycleEnd

/-- CYCLE_LATE (R553): a cycle has not completed when the next start falls due. -/
def Chip.cycleLate (s : Chip) : Chip :=
  match s.slices.nextStart with
  | some t =>
    if s.on .sltStat_running && decide (t ≤ s.clock.now) && !s.slices.lateSeen then
      ({ s.wr .sltStat_cycleLate 1 with slices := { s.slices with lateSeen := true } }).raise originSliceTest
    else s
  | none => s

/-- The queue of a track, and its first instance taken off. -/
def Chip.sliceQueue (s : Chip) (track : Nat) : List Nat := if track = 0 then s.slices.queue0 else s.slices.queue1
def Chip.dropQueue (s : Chip) (track : Nat) : Chip :=
  { s with slices := if track = 0 then { s.slices with queue0 := s.slices.queue0.drop 1 }
                     else { s.slices with queue1 := s.slices.queue1.drop 1 } }

/-- The track of a kind (R540). -/
def trackOf (kind : Nat) : Nat := if kind ≤ 3 then 0 else 1

/-- The point at which an instance of a kind may be taken out of service or put back (R540, R543 to R546, R548, R554): a control engine at a
boundary, an edge engine at a reload, the compare unit between t_E + 1.5 µs and the next boundary, a lane PCS while no sheaf goes
out. -/
def Chip.slicePoint (s : Chip) (kind : Nat) : Bool :=
  match kind with
  | 1 => s.handoverBoundary
  | 2 | 3 => s.handoverReload
  | 4 => s.inPeriod && decide (4 ≤ s.clock.step) && decide (s.tE + 1500 ≤ s.phaseNs) && decide (s.phaseNs + sliceLength 4 ≤ s.tCtlNs)
  | 5 => !s.clock.windowOpen
  | _ => true

/-- A slice may begin now: the instance is next on its track, no slice of the track runs, and the point is one of its kind; during debug
halt only in place (R542, R553, R554, R559). -/
def Chip.sliceNext (s : Chip) (i : Nat) : Bool :=
  let t := trackOf (instKind i)
  (s.sliceQueue t).head? == some i && (s.sliceRun t).isNone && (!s.on .eeStat_halted || s.inPlace i) && s.slicePoint (instKind i)

/-- The periods a control engine stays out (R543), and how long an edge engine does at least (R544). -/
def Chip.cePeriods (s : Chip) : Nat := (43000 + s.sheafWindowNs + s.tCtlNs - 1) / max 1 s.tCtlNs

/-- Leave is asked for a slice (R542, R554): without it the slice moves on, which track 0 counts. -/
def Chip.sliceLeave (s : Chip) (i : Nat) : Bool × Chip :=
  let s := s.askLeave (.slice i)
  if s.holdsLeave (.slice i) then (true, s)
  else (false, s.onlyIf (trackOf (instKind i) == 0) fun s => s.count .sltCount_waits)

/-- The load of an instance goes to a spare (R266, R227, R545, R546). -/
def Chip.carry (s : Chip) (i spare : Nat) : Nat × Chip :=
  let n := instIndex i
  match instKind i with
  | 1 =>
    let e := (s.logicalOf n).getD n
    (e, (s.wr .ceCfg_runsOn spare e).engineStat)
  | 2 =>
    let s := { s with slices := { s.slices with lastSpare := spare } }
    (n, s.wr .eeEstat_standFor n (100 + spare))
  | 3 =>
    let lane := s.rd .eeEstat_standFor (100 + n)
    (lane, (s.wr .eeEstat_standFor lane (100 + spare)).wr .eeEstat_standFor 127 (100 + n))
  | _ => (n, { s with slices := { s.slices with pcsFor := storePut s.slices.pcsFor spare none (some n) } })

/-- The load comes back (R266, R227, R545, R546). -/
def Chip.handBack (s : Chip) (r : SliceRun) : Chip :=
  let n := instIndex r.inst
  match r.carrier with
  | none => s
  | some sp =>
    match instKind r.inst with
    | 1 => (s.wr .ceCfg_runsOn n r.load).engineStat
    | 2 => s.wr .eeEstat_standFor 127 (100 + sp)
    | 3 => (s.wr .eeEstat_standFor r.load (100 + n)).wr .eeEstat_standFor 127 (100 + sp)
    | _ => { s with slices := { s.slices with pcsFor := storePut s.slices.pcsFor sp none none } }

/-- A slice begins (R541, R543 to R548): in place, or with its load carried by a spare; without a free spare it is skipped. -/
def Chip.sliceBegin (s : Chip) (i : Nat) : Chip :=
  if !s.sliceNext i then s
  else
    let t := trackOf (instKind i)
    let place := s.inPlace i
    if !place && (s.spareFor i).isNone then ((s.dropQueue t).skipInst i).cycleEnd
    else
      let l := s.sliceLeave i
      if !l.1 then l.2
      else
        let s := l.2.dropQueue t
        let back := if instKind i = 1 then s.clock.count + s.cePeriods else s.clock.now + 35000
        let r : SliceRun := { inst := i, began := s.clock.now, backFrom := back }
        if place then (s.setSliceRun t (some r)).showSlices
        else
          let sp := (s.spareFor i).getD 0
          let c := s.carry i sp
          (c.2.setSliceRun t (some { r with carrier := some sp, load := c.1 })).showSlices

/-- CE_SLICE_HANDOVER (R543): at a boundary; an engine that was stopped at t_B of the period before keeps its slice for the
next. -/
def Chip.ceSlice (s : Chip) (p : Nat) : Chip :=
  let i := sliceInst 1 p
  let released := match s.logicalOf p with
    | some e => s.inPlace i || !((s.engine e).late || (s.engine e).phase == .stopped)
    | none => true
  if s.sliceNext i && !released then s.count .sltCount_waits else s.sliceBegin i

/-- The security block: the vault is cleared before its scan (R547, R593). -/
def Chip.vaultClear (s : Chip) : Chip :=
  let s := (s.wr .secStat_vaultClear 1).wr .secStat_idReady 0
  (s.each [96, 97] fun s n => s.voidNonce n).voidChallenge

/-- The security block goes under scan (R547): its vault is cleared, and ECDSA requests wait until it has derived its keys again. -/
def Chip.scanSecurity (s : Chip) : Chip :=
  let s := s.vaultClear
  { s with security := { s.security with rederiving := true } }

/-- SECURITY_SLICE (R547): it takes place once its turn on track 1 has come. -/
def Chip.securitySlice (s : Chip) : Chip :=
  let i := sliceInst 8 0
  if s.sliceNext i then
    let s := s.sliceBegin i
    if (s.sliceRun 1).isSome then s.scanSecurity else s
  else s

/-- The retirement's record and event (R551). -/
def Chip.noteRetired (s : Chip) (kind index : Nat) : Chip :=
  let s := ((s.wr .sltLast_kind kind).wr .sltLast_index index).wr .sltLast_result 2
  (s.count .sltCount_failures).raise originSliceTest

/-- A control engine is retired (R268, R551): a spare keeps its loops; without one they stop, with one SEVERE event. -/
def Chip.retireEngine (s : Chip) (p : Nat) : Chip :=
  let l := s.logicalOf p
  let s := ((s.wr .ceCfg_retired 1 p).wrBit .readyUnit_ce p false).unusable (256 + p)
  match l with
  | none => s.engineStat
  | some e =>
    match s.engineSpares with
    | sp :: _ => (s.wr .ceCfg_runsOn sp e).engineStat
    | [] => ((s.wr .ceCfg_lost 1 e).raise originEngineLoss).engineStat

/-- A cell edge engine is retired (R551): the spare that stands for it keeps it; an enabled one that none stands for takes a free spare, and
with none free its cell is bypassed with last_cause 6. -/
def Chip.retireEdge (s : Chip) (n : Nat) : Chip :=
  let s := (s.wrBit .sltRetEe_retired (n % 32) true (n / 32)).setEdgeReady n false
  if s.edgeServed n || !s.on .eeCfg_enabled n then s
  else match s.freeEdgeSpares with
    | sp :: _ => s.wr .eeEstat_standFor n (100 + sp)
    | [] =>
      let s := s.setCell n { s.cell n with engineLost := true }
      if s.rd .cellStat_state n < 2 then
        { s with arms := { s.arms with commands := s.arms.commands ++ [(.bypass, n)] } }
      else s

/-- An instance fails and is retired with the result of its kind (R551). -/
def Chip.retire (s : Chip) (kind n : Nat) : Chip :=
  let s := s.noteRetired kind n
  match kind with
  | 1 => s.retireEngine n
  | 2 => s.retireEdge n
  | 3 =>
    let s := (s.wrBit .sltRetMisc_eeS n true).setEdgeReady (100 + n) false
    s.wr .eeEstat_standFor 127 (100 + n)
  | 4 => s.withOutputs fun s => (s.wr .sltRetMisc_eeL 1).setEdgeReady 96 false
  | 5 => s.wrBit .sltRetPcs_retired (n % 32) true (n / 32)
  | 6 => s.wrBit .sltRetMisc_pcsS n true
  | 7 => s.wrBit .sltRetMisc_bw n true
  | 8 =>
    let s := ((s.wr .sltRetMisc_security 1).wr .secStat_retired 1).lockDebug
    { s with security := { s.security with rederiving := false } }
  | _ => s.withOutputs fun s => s.wrBit .sltRetMisc_gdMon n true

/-- EE_L_LOCKSTEP_MISMATCH (R551). -/
def Chip.eeLMismatch (s : Chip) : Chip := if s.on .sltRetMisc_eeL then s else s.retire 4 0

/-- A slice ends without failure: its leave is returned, and a test in place is over (R542). -/
def Chip.slicePassed (s : Chip) (track : Nat) (r : SliceRun) : Chip :=
  let s := s.returnLeave (.slice r.inst)
  let s := if instKind r.inst = 8 then { s with security := { s.security with deriveDue := true } } else s
  let s := if r.again then
      (((s.count .sltCount_transients).wr .sltLast_kind (instKind r.inst)).wr .sltLast_index (instIndex r.inst)).wr .sltLast_result 1
    else s
  match r.carrier with
  | none => ((s.setSliceRun track none).showSlices).cycleEnd
  | some _ => (s.setSliceRun track (some { r with done := true })).showSlices

/-- A second mismatch (R550, R551): the instance is retired; the spare keeps its load. An EE_S that fails while another carries
its lane leaves the lane there. -/
def Chip.sliceFailed (s : Chip) (track : Nat) (r : SliceRun) : Chip :=
  let s := (s.returnLeave (.slice r.inst)).setSliceRun track none
  ((s.retire (instKind r.inst) (instIndex r.inst)).showSlices).cycleEnd

/-- SLICE_SIGNATURE_COMPARE (R541, R550): at the end of a slice its signature is compared with the one ROM holds for its kind; a first
mismatch repeats it under new leave. -/
def Chip.signatureCompare (s : Chip) (track signature : Nat) : Chip :=
  match s.sliceRun track with
  | none => s
  | some r =>
    if r.done || instKind r.inst == 7 || !s.holdsLeave (.slice r.inst) || decide (s.clock.now < r.began + sliceLength (instKind r.inst)) then s
    else if signature = storeGet s.security.signatures (instKind r.inst) 0 then s.slicePassed track r
    else if r.again then s.sliceFailed track r
    else
      let s := (s.returnLeave (.slice r.inst)).askLeave (.slice r.inst)
      s.setSliceRun track (some { r with again := true, began := s.clock.now })

/-- SLICE_HANDBACK (R543 to R546, R559): once the test is over, at the boundary or reload that its kind allows. -/
def Chip.sliceHandback (s : Chip) (track : Nat) : Chip :=
  match s.sliceRun track with
  | none => s
  | some r =>
    let due := if instKind r.inst = 1 then decide (r.backFrom ≤ s.clock.count) else
      instKind r.inst == 5 || decide (r.backFrom ≤ s.clock.now)
    if !r.done || s.on .eeStat_halted || !due || !s.slicePoint (instKind r.inst) then s
    else (((s.handBack r).setSliceRun track none).showSlices).cycleEnd

/-- PCS_HANDOVER_TIMEOUT (R546): a hand-over or hand-back not confirmed within 4 blocks completes as a lane reset, with the unit
that was to take the lane in place; no hand-back takes place during debug halt (R559). -/
def Chip.pcsTimeout (s : Chip) (lane : Nat) : Chip :=
  match s.slices.run1 with
  | some r =>
    if r.inst = sliceInst 5 lane ∧ ¬ (r.done = true ∧ s.on .eeStat_halted = true) then
      let s := if r.done then (((s.handBack r).setSliceRun 1 none).showSlices).cycleEnd else s
      s.laneReset lane
    else s
  | none => s

/-- The receivers of a block wire's pulse (R549): every lane transmitter, and both paths of the local output stage. -/
def wireReceivers : List Nat := List.range 102

/-- The pulse on wire `w` begins (R549): a slice of track 1, under leave. -/
def Chip.wireBegin (s : Chip) (w : Nat) : Chip :=
  let i := sliceInst 7 w
  if !s.sliceNext i then s
  else
    let l := s.sliceLeave i
    if !l.1 then l.2
    else ((l.2.dropQueue 1).setSliceRun 1 (some { inst := i, began := s.clock.now })).showSlices

/-- The pulse on wire `w` ends, not before 200 ns: the wire fails at its first failed test, where a receiver's check bit is not set
(R549, R550). -/
def Chip.wireEnd (s : Chip) (w : Nat) (r : SliceRun) (latched : List Nat) : Chip :=
  if s.clock.now < r.began + sliceLength 7 then s
  else
    let s := (s.returnLeave (.slice r.inst)).setSliceRun 1 none
    ((if wireReceivers.all latched.contains then s else s.retire 7 w).showSlices).cycleEnd

/-- BLOCK_WIRE_TEST (R549, R550): the pulse on wire `w` begins, or where it runs, ends. `latched` names the receivers whose check bit is set
at the end of the pulse: 0 to 99 the lanes, 100 and 101 the paths of the local output stage. -/
def Chip.wireTest (s : Chip) (w : Nat) (latched : List Nat) : Chip :=
  match s.slices.run1 with
  | some r => if r.inst = sliceInst 7 w then s.wireEnd w r latched else s
  | none => s.wireBegin w

/-- SUPPLY_MONITOR_CHECK (R555, R556): once in each cycle the conversions of VDRV[n] and VNEG[n] in millivolts against the monitors. -/
def Chip.supplyCheck (s : Chip) (n : Nat) (vdrv vneg : Int) : Chip :=
  if !s.on .gdCfg_enabled n || !s.on .sltStat_running || s.on .adcStat_noRotation || s.rdBit .sltRetMisc_gdMon n ||
      s.slices.supplyDone.contains n then s
  else
    let s := { s with slices := { s.slices with supplyDone := n :: s.slices.supplyDone } }
    let fall : Int := 12000 + 1000 * s.rd .gdCfg_drvUvlo n
    let fallN : Int := if s.rd .gdCfg_negUvlo n = 0 then -2000 else -2500
    let pos := s.on .gdStat_uvloPos n
    let neg := s.on .gdStat_uvloNeg n
    let bad := (!pos && decide (vdrv < fall - 300)) || (pos && decide (fall + 800 + 300 < vdrv)) ||
      (!neg && decide (fallN + 300 < vneg)) || (neg && decide (vneg < fallN - 300 - 300))
    if bad then s.retire 9 n else s

/-- The instances the power-on test covers (R540, R558): all but the PCS units in service, those of enabled lanes; after a deliberate
reset the engines alone (R64). -/
def Chip.powerOnInstances (s : Chip) (enginesOnly : Bool) : List Nat :=
  let engines := (List.range 24).map (sliceInst 1) ++ (List.range 96).map (sliceInst 2) ++ [sliceInst 3 0, sliceInst 3 1, sliceInst 4 0]
  if enginesOnly then engines
  else engines ++ ((List.range 100).filter fun n => !s.on .laneCfg_enabled n).map (sliceInst 5) ++ [sliceInst 6 0, sliceInst 6 1] ++ (List.range 4).map (sliceInst 7) ++ [sliceInst 8 0]

/-- An instance that passes raises its READY bit (R65). -/
def Chip.instReady (s : Chip) (i : Nat) : Chip :=
  let n := instIndex i
  match instKind i with
  | 1 => s.wrBit .readyUnit_ce n true
  | 2 => s.setEdgeReady n true
  | 3 => s.setEdgeReady (100 + n) true
  | 4 => s.setEdgeReady 96 true
  | _ => s

/-- POWER_ON_SLICE_TEST (R64, R268, R551, R558): every instance is tested in place; `failed` names those that fail. The spares
among them are retired before the engines that would need one. The vault is cleared before the security block is scanned, and the keys
are derived anew after it (R547, R593). In QUIESCENT the engines stay gated (R51, R66). -/
def Chip.powerOnTest (s : Chip) (failed : List Nat) : Chip :=
  if !s.applied || s.modes.sliceDone then s
  else
    let all := s.powerOnInstances s.slices.enginesOnly
    let s := s.onlyIf (!s.slices.enginesOnly) Chip.scanSecurity
    let bad := all.filter fun i => failed.contains i
    let spares := bad.filter fun i => (instKind i = 1 && (s.logicalOf (instIndex i)).isNone) || instKind i == 3
    let s := s.each (all.filter fun i => !bad.contains i) fun s i =>
      if s.on .modeStat_quiescent then s else s.instReady i
    let s := s.each (spares ++ bad.filter fun i => !spares.contains i) fun s i => s.retire (instKind i) (instIndex i)
    let s := s.engineStat
    let next := s.clock.now + 1000000 * s.rd .sltCfg_cyclePeriod
    let due := s.security.deriveDue || s.security.rederiving
    { s with modes := { s.modes with sliceDone := true }
             security := { s.security with deriveDue := due }
             slices := { s.slices with nextStart := some next, enginesOnly := false
                                       securityAt := if s.slices.enginesOnly then s.slices.securityAt
                                         else s.clock.now + 1000000000 * s.rd .sltCfg_secInterval } }

end Sys2Proof.Machine
end

