-- ==== Sys2Proof/Machine/Security.lean ====
section
/-! DEFINITION. Identity, boot and debug access (chapter 21): the boot ROM, the key derivation, the owner key's fuses, the
attestation and the test access port. -/

namespace Sys2Proof.Machine

/-- The status that a firmware copy's header gives (R594, R595), in the codes of R83; `none` where it passes. -/
def firmwareHeader (c : SlotCopy) : Option Nat :=
  let b := c.bytes
  let v := leAt b 0xC 4
  if !c.headerReads then some 12
  else if leAt b 0 4 ≠ 0x56594657 then some 3
  else if leAt b 4 2 ≠ 1 ∨ 1 < leAt b 6 2 ∨ v = 0 ∨ v = 0xFFFFFFFF then some 4
  else if leAt b 8 2 ≠ 0x9612 ∨ byteAt b 0xA ≠ 2 then some 5
  else if 3145728 < leAt b 0x10 4 ∨ leAt b 0x10 4 < 256 then some 6
  else none

/-- The SHA-384 digest of a copy's bytes up to its signature (R79, R595). -/
def SlotCopy.digest (c : SlotCopy) : List Byte := sha384 (c.bytes.take (leAt c.bytes 0x10 4 - 96))

/-- The signature that ends a copy verifies under a key (R79, R594). -/
def SlotCopy.signed (c : SlotCopy) (key : List Byte) : Bool :=
  let len := leAt c.bytes 0x10 4
  signatureVerifies key (c.bytes.take (len - 96)) ((c.bytes.drop (len - 96)).take 96)

/-- The key in a firmware copy (R594). -/
def firmwareKey (c : SlotCopy) : List Byte := (c.bytes.drop 0x40).take 96

/-- The ROM digest that a firmware copy's key index names (R594, R595). -/
def Chip.romDigest (s : Chip) (c : SlotCopy) : List Byte :=
  if leAt c.bytes 6 2 = 0 then s.security.romDigest0 else s.security.romDigest1

/-- The verification of a copy whose header passed (R595). -/
def Chip.firmwareVerify (s : Chip) (c : SlotCopy) : Option Nat :=
  if !c.pagesRead then some 12
  else if sha384 (firmwareKey c) ≠ s.romDigest c then some 8
  else if !c.signed (firmwareKey c) then some 10
  else none

/-- The version in a copy's header. -/
def firmwareVersion (c : SlotCopy) : Nat := leAt c.bytes 0xC 4

/-- The copies that pass the header checks, in the order in which the boot ROM verifies them (R595): the higher version first, A where
they tie; true for B. -/
def bootOrder (a b : SlotCopy) : List Bool :=
  let pass (second : Bool) (c : SlotCopy) := if (firmwareHeader c).isNone then [second] else []
  if firmwareVersion a < firmwareVersion b then pass true b ++ pass false a else pass false a ++ pass true b

/-- Words of a digest written to a register array: byte 4n in bits [31:24] of word n (R102, R608). -/
def Chip.wrBytes (s : Chip) (f : Fld) (bs : List Byte) (words : Nat) : Chip :=
  s.each (List.range words) fun s n => s.wr f (beNat ((bs.drop (4 * n)).take 4)) n

/-- The bytes that a register array of `words` words shows. -/
def Chip.rdBytes (s : Chip) (f : Fld) (words : Nat) : List Byte :=
  (List.range words).flatMap fun n => (leBytes 4 (s.rd f n)).reverse

/-- The status field of a firmware copy. -/
def bootStatus (second : Bool) : Fld := if second then .bootStat_statusB else .bootStat_statusA

/-- A firmware copy is loaded to 0x1000_0000 and started (R595); `higher` tells that the other copy's version is higher (R601). -/
def Chip.startFirmware (s : Chip) (second higher : Bool) (c : SlotCopy) : Chip :=
  let s := ((s.wr .bootStat_copy (flag second)).wr .bootStat_keyIndex (leAt c.bytes 6 2)).wr .fwVersion_version (firmwareVersion c)
  let s := s.wrBytes .fwDigest_bytes c.digest 12
  { s with security := { s.security with notHighest := higher } }.sramFill sramBase (c.bytes.take (leAt c.bytes 0x10 4))

/-- The copies verified in turn (R595): the first that verifies is started, and each one that failed before it then raises one event
(R607). -/
def Chip.bootFrom (s : Chip) (copy : Bool → SlotCopy) : List Bool → Chip
  | [] => s
  | second :: l =>
    let c := copy second
    let s := s.readFlash (s.bodyPages (if second then 2 else 1) c)
    match s.firmwareVerify c with
    | some e => (s.wr (bootStatus second) e).bootFrom copy l
    | none =>
      let other := copy (!second)
      let higher := (firmwareHeader other).isNone && decide (firmwareVersion c < firmwareVersion other)
      let s := (s.wr (bootStatus second) 1).startFirmware second higher c
      s.each ([s.rd .bootStat_statusA, s.rd .bootStat_statusB].filter fun x => x == 8 || x == 10 || x == 12) fun s _ =>
        s.raise originSecurity

/-- The boot ROM's pass over both copies (R595, R597): it reads both headers first. -/
def Chip.boot (s : Chip) : Chip :=
  let a := s.slotCopy 1
  let b := s.slotCopy 2
  let s := s.readFlash (s.headPages 1 ++ s.headPages 2)
  let s := (s.wr .bootStat_statusA ((firmwareHeader a).getD 0)).wr .bootStat_statusB ((firmwareHeader b).getD 0)
  let s := { s with security := { s.security with bootTried := some s.clock.now } }
  s.bootFrom (fun second => if second then b else a) (bootOrder a b)

/-- No firmware copy runs (R608). -/
def Chip.noFirmware (s : Chip) : Bool := s.rd .bootStat_copy == 3

/-- FIRMWARE_BOOT (R595, R596): once after each start, from PLL lock. -/
def Chip.firmwareBoot (s : Chip) : Chip :=
  if s.on .pllStat_locked && s.noFirmware && s.security.bootTried.isNone then s.boot else s

/-- FIRMWARE_RETRY (R597): every 10 s while no copy has verified. -/
def Chip.firmwareRetry (s : Chip) : Chip :=
  match s.security.bootTried with
  | some t => if s.noFirmware && decide (t + 10000000000 ≤ s.clock.now) then s.boot else s
  | none => s

/-- The SHA-384 digest of the identity public key, as fused (R590). -/
def Chip.identityDigest (s : Chip) : List Byte := (leBytes 48 s.security.idDigest).reverse

/-- IDENTITY_DERIVATION (R592): after a cold or warm reset and after each security slice the block derives the key pair, whose public
key the command carries, and compares its digest with the fused one. -/
def Chip.deriveIdentity (s : Chip) (derived : List Byte) : Chip :=
  if s.security.deriveDue && !s.on .secStat_retired then
    let s := { s with security := { s.security with deriveDue := false, rederiving := false } }
    if sha384 derived = s.identityDigest then ((s.wr .secStat_idReady 1).wr .secStat_vaultClear 0).granary
    else ((s.retire 8 0).raise originSecurity).granary
  else s

/-- The sequence number of the applied copy, 0 before any application. -/
def Chip.appliedSequence (s : Chip) : Nat :=
  if !s.applied then 0
  else if s.on .imageStat_appliedCopy then s.rd .imageSeqB_sequence else s.rd .imageSeqA_sequence

/-- ECDSA operations of the identity key are available (R551, R592). -/
def Chip.canSign (s : Chip) : Bool := !s.on .secStat_retired && s.on .secStat_idReady

/-- The statement of ATTEST over an 8-byte nonce, and the state after it (R601): its signature is made of free values. -/
def Chip.attest (s : Chip) (nonce : List Byte) : List Byte × Chip :=
  if !s.canSign then ([], s)
  else
    let flags := flag (s.on .imageStat_fallback) + 2 * flag (s.on .dbgStat_unlocked) +
      4 * flag (s.security.inForce == 1) + 8 * flag s.security.notHighest
    let head := leBytes 4 0x56594154 ++ leBytes 2 1 ++ leBytes 2 0 ++ nonce ++ leBytes 4 (s.rd .saStart_start) ++
      leBytes 4 s.appliedSequence ++ leBytes 4 (s.rd .fwVersion_version) ++ leBytes 1 (s.rd .modeStat_mode) ++
      leBytes 1 (s.rd .modeStat_holdCause) ++ leBytes 1 (s.rd .imageStat_appliedCopy) ++ leBytes 1 flags ++
      s.rdBytes .fwDigest_bytes 12 ++ s.rdBytes .imageDigest_digest 12
    let r := s.draw
    (head ++ (List.range 96).map fun i => Config.freeByte r.1 i, r.2.count .secStat_attests)

/-! ## The test access port (R602) -/

/-- The bits of a register as the port shifts them out, least significant first (IEEE 1149.1, cited by R602). -/
def shiftBits (w v : Nat) : List Bool := (List.range w).map (bitAt v)

/-- What the port shifts out. An instruction other than the EXTESTs leaves the balls to the device. -/
def Chip.tapOut (s : Chip) (out : List Bool) : Chip :=
  { s with security := { s.security with shiftOut := out, drive := .off } }

/-- BYPASS: one bit of delay between the data in and the data out. -/
def Chip.tapBypass (s : Chip) (din : List Bool) : Chip := s.tapOut ((false :: din).take din.length)

/-- IDCODE. -/
def Chip.tapIdcode (s : Chip) : Chip := s.tapOut (shiftBits 32 0x296124F5)

/-- SAMPLE/PRELOAD: the balls are captured and shifted out, and the data in stands in the cells. -/
def Chip.tapSample (s : Chip) (balls din : List Bool) : Chip :=
  let s := s.tapOut balls
  { s with security := { s.security with scan := din } }

/-- STATUS: SEC_STAT, then BOOT_STAT. -/
def Chip.tapStatus (s : Chip) : Chip :=
  s.tapOut (shiftBits 32 (s.fieldsWord .secStat) ++ shiftBits 32 (s.fieldsWord .bootStat))

/-- DBG_LOCK (R606). -/
def Chip.tapLock (s : Chip) : Chip := (s.tapOut []).lockDebug

/-- The 64 bytes of a challenge over a nonce (R603). -/
def Chip.challengeBytes (s : Chip) (nonce : List Byte) : List Byte :=
  nonce ++ s.identityDigest.take 16 ++ leBytes 4 (s.rd .saStart_start) ++ leBytes 4 s.appliedSequence ++ List.replicate 8 0

/-- DBG_CHALLENGE (R603, R605): in COMMISSION, unless barred. -/
def Chip.tapChallenge (s : Chip) (din : List Bool) : Chip :=
  if s.mode ≠ .commission then s.tapBypass din
  else if s.on .dbgStat_barred then s.tapOut []
  else
    let r := s.draw
    let s := r.2
    let c := s.challengeBytes ((List.range 32).map fun i => Config.freeByte r.1 i)
    let s := s.tapOut (c.flatMap fun b => shiftBits 8 b.toNat)
    let s := { s with security := { s.security with challenge := c, challengeAt := s.clock.now } }
    (s.wr .dbgStat_challengeOpen 1).wr .dbgStat_windowLeft 60

/-- A response fails (R605). -/
def Chip.responseFails (s : Chip) : Chip :=
  let s := (s.count .dbgStat_failCount).raise originSecurity
  if s.rd .dbgStat_failCount = 3 then s.wr .dbgStat_barred 1 else s

/-- The bytes of bits as the port shifts them in, each byte's least significant bit first. -/
def bytesOfBits (n : Nat) (l : List Bool) : List Byte :=
  (List.range n).map fun i => BitVec.ofNat 8 (((l.drop (8 * i)).take 8).foldr (fun b v => flag b + 2 * v) 0)

/-- DBG_RESPONSE (R604): closes the challenge; its check waits for leave. Without an open challenge it fails. -/
def Chip.tapResponse (s : Chip) (din : List Bool) : Chip :=
  if s.mode ≠ .commission then s.tapBypass din
  else
    let s := s.tapOut []
    if s.on .dbgStat_challengeOpen then
      let s := (s.wr .dbgStat_challengeOpen 0).wr .dbgStat_windowLeft 0
      { s with security := { s.security with response := some ⟨s.security.challenge, bytesOfBits 96 din, true⟩ } }.askLeave .debugResponse
    else s.responseFails

/-- DBG_RESPONSE_CHECK (R604, R605): the check against the owner key in force completes under its leave. -/
def Chip.responseCheck (s : Chip) : Chip :=
  match s.security.response with
  | none => s
  | some x =>
    if !s.holdsLeave .debugResponse then s
    else
      let verifies := signatureVerifies s.security.ownerKey x.message x.sig
      let s := { s with security := { s.security with response := none } }.returnLeave .debugResponse
      let s := if verifies then s else s.count .secStat_sigFails
      if x.stands && verifies && s.mode == .commission && !s.on .dbgStat_barred && !s.on .secStat_retired then
        s.wr .dbgStat_unlocked 1
      else s.responseFails

/-- CHALLENGE_EXPIRY (R603): 60 s after the challenge opened it is void, and a response to it fails. -/
def Chip.challengeExpiry (s : Chip) : Chip :=
  let stands := s.on .dbgStat_challengeOpen || (s.security.response.any fun x => x.stands)
  if stands && decide (s.security.challengeAt + 60000000000 ≤ s.clock.now) then s.voidChallenge else s

/-- The bits of `a` or of `b`, byte by byte over 48 bytes. -/
def orBytes (a b : List Byte) : List Byte := (List.range 48).map fun i => a.getD i 0 ||| b.getD i 0

/-- Whether every bit of `a` is also set in `b`. -/
def bitsWithin (a b : List Byte) : Bool := orBytes a b == orBytes [] b

/-- The hash in force, as OWNER_HASH shows it: 0 while unfused (R598, R608). -/
def Chip.showOwner (s : Chip) : Chip :=
  let x := s.security
  let s := (s.wrFlag .secStat_ownerFused x.slot0.valid).wrFlag .secStat_slot1InForce (x.inForce == 1)
  let h := if x.inForce = 1 then x.slot1.hash else if x.slot0.valid then x.slot0.hash else []
  s.wrBytes .ownerHash_bytes h 12

/-- The burn of R599 on one slot: `burned` tells which bits of the hash the burn reached, `interrupted` that it ended before its last
step. The valid field is burned only where the hash reads back as written. -/
def burnSlot (x : OwnerSlot) (hash burned : List Byte) (interrupted : Bool) : OwnerSlot :=
  let reached := (List.range 48).map fun i => hash.getD i 0 &&& burned.getD i 0
  let now := orBytes x.hash reached
  { hash := now, valid := !interrupted && now == orBytes [] hash }

/-- OWNER_FUSE (R599, R600, R607). -/
def Chip.ownerFuse (s : Chip) (din : List Bool) (slot1 : Bool) (hash burned : List Byte) (interrupted : Bool) : Chip :=
  let x := s.security
  let available :=
    if slot1 then !x.slot1.valid && x.inForce == 0 && x.slot0.valid && s.mode == .commission && s.on .dbgStat_unlocked
    else !x.slot0.valid
  if !available then s.tapBypass din
  else
    let s := s.tapOut []
    let old := if slot1 then x.slot1 else x.slot0
    if !bitsWithin old.hash hash then s.raise originSecurity
    else
      let new := burnSlot old hash burned interrupted
      let s := if slot1 then { s with security := { s.security with slot1 := new } }
        else { s with security := { s.security with slot0 := new } }
      s.showOwner

/-- The EXTESTs (R602): while the owner key is not fused, or while unlocked. -/
def Chip.tapExtest (s : Chip) (d : ScanDrive) (balls din : List Bool) : Chip :=
  if !s.on .secStat_ownerFused || s.on .dbgStat_unlocked then
    { s with security := { s.security with shiftOut := balls, scan := din, drive := d } }
  else s.tapBypass din

/-- ENGINE_READ (R602): a word of a control engine's data or program memory, or of the committed set of an edge engine. -/
def Chip.engineRead (s : Chip) (din : List Bool) (m : EngineMemory) : Chip :=
  if !s.on .dbgStat_unlocked then s.tapBypass din
  else match m with
    | .data e x => s.tapOut (shiftBits 16 (storeGet (s.engine e.val).dm (x % 8192) 0))
    | .program e x => s.tapOut (shiftBits 56 ((s.engine e.val).image.program.getD x 0))
    | .references nn i =>
      (s.sramTouch [committedBase + 0x40 * nn.val + 4 * i.val]).tapOut (shiftBits 32 (s.refWord nn.val i.val))

/-- HALT and RESUME (R226): taken at the next reload. -/
def Chip.tapHalt (s : Chip) (din : List Bool) (halt : Bool) : Chip :=
  if !s.on .dbgStat_unlocked then s.tapBypass din
  else
    let s := s.tapOut []
    { s with edges := { s.edges with haltWanted := halt && s.mode == .commission } }

end Sys2Proof.Machine
end

