-- ==== Sys2Proof/Machine/Image.lean ====
section
/-! DEFINITION. The configuration image (chapter 03): the examination of a copy (R83), the choice of a copy (R84), the staging
and the application of its settings (R85, R86), the background check (R89), and the retention scrub of the copies
(R96, R575). -/

namespace Sys2Proof.Machine

/-! ## The examination of a copy -/

/-- One entry of the section directory (R77): type, offset, length. -/
structure SectionEntry where
  type : Nat
  offset : Nat
  length : Nat
  deriving DecidableEq, Repr

/-- The section directory. -/
def directory (b : List Byte) : List SectionEntry :=
  (List.range (leAt b 0x14 2)).map fun k =>
    let o := 0x100 + 16 * k
    ⟨leAt b o 2, leAt b (o + 4) 4, leAt b (o + 8) 4⟩

/-- The types of a directory rise strictly. -/
def typesRise : List SectionEntry → Bool
  | a :: b :: r => decide (a.type < b.type) && typesRise (b :: r)
  | _ => true

/-- The directory obeys R77. -/
def directoryValid (b : List Byte) : Bool :=
  let d := directory b
  (List.range d.length).all (fun k => leAt b (0x102 + 16 * k) 2 == 0 && leAt b (0x10C + 16 * k) 4 == 0) &&
    d.all (fun e => e.offset % 64 == 0) && rangesApart (d.map fun e => (e.offset, e.length)) && typesRise d

/-- The sequence number in a copy's header. -/
def imageSequence (c : SlotCopy) : Nat := leAt c.bytes 0xC 4

/-- Checks 1 to 3 of R83. -/
def checkForm (c : SlotCopy) : Option Nat :=
  let b := c.bytes
  let q := imageSequence c
  let n := leAt b 0x14 2
  if !c.headerReads then some 12
  else if leAt b 0 4 ≠ 0x5659494D then some 3
  else if leAt b 4 2 ≠ 1 ∨ leAt b 6 2 ≠ 256 ∨ q = 0 ∨ q = 0xFFFFFFFF ∨ n = 0 ∨ 32 < n ∨ directoryValid b = false then some 4
  else none

/-- Checks 1 to 5 of R83: the failing code, or none. -/
def checkHeader (c : SlotCopy) : Option Nat :=
  let b := c.bytes
  let len := leAt b 0x10 4
  match checkForm c with
  | some e => some e
  | none =>
    if leAt b 8 2 ≠ 0x9612 ∨ byteAt b 0xA ≠ 2 then some 5
    else if 6291456 < len ∨ (directory b).any (fun e => decide (len < e.offset + e.length + 100)) = true then some 6
    else none

/-- The owner key in a copy (R76). -/
def ownerKey (c : SlotCopy) : List Byte := (c.bytes.drop 0x20).take 96

/-- Checks 6 to 9 of R83. -/
def Chip.checkContent (s : Chip) (c : SlotCopy) : Option Nat :=
  let b := c.bytes
  let len := leAt b 0x10 4
  if !c.pagesRead then some 12
  else if leAt b (len - 100) 4 ≠ crc32 (b.take (len - 100)) then some 7
  else if !s.on .secStat_ownerFused then some 9
  else if sha384 (ownerKey c) ≠ s.rdBytes .ownerHash_bytes 12 then some 8
  else if !c.signed (ownerKey c) then some 10
  else none

/-! ## Staging -/

/-- The registers that the image sets, at their values after a cold start before a copy is staged (R81, R86). The result of a lock and the band
table's entry of a plan stay valid where an image gives the plan other settings (DESIGN CHOICE, log entry 405). -/
def configRegs : List Reg :=
  [.pllPlan, .clkoCfg, .laneCfg, .laneAsym] ++ armRegs ++ edgeRegs ++ converterRegs ++ meterRegs ++ powerRegs ++
    [.fsCfg, .fcOrigin, .fcAlive, .stCfg, .stTime] ++ halyardRegs ++ networkRegs ++ thermalRegs ++ [.sltCfg] ++ storageRegs

/-- The settings of every unit as they are before an image (R81, R82). -/
def Chip.beforeImage (s : Chip) : Chip :=
  let s := s.coldFields configRegs
  let s := ((s.wr .periodCfg_tCtl 100).wr .periodCfg_lead 10).wr .sramScrubStat_enabled 1
  let s := s.each (List.range 24) fun s e => ((s.wr .ceCfg_active 0 e).wr .ceCfg_loopCount 0 e).wr .ceCfg_progLength 0 e
  { s with sys := {}, live := {}, inputs := {}, engines := {}
           net := { s.net with streams := [], blocks := [], keys := [], ip := 0, prefixLen := 0, gateway := 0 }
           storage := { s.storage with station := [], channelTable := [] } }

/-- One section staged by its type (R80): an unknown type refuses the copy. -/
def Chip.stageSection (s : Chip) (type : Nat) (sec : List Byte) : Option Chip :=
  match type with
  | 0x01 => s.stageSystem sec
  | 0x02 => s.stageLanes sec
  | 0x03 => s.stageRegisters armRegs sec
  | 0x04 => s.stageEdges sec
  | 0x05 => s.stageEngines sec
  | 0x06 => s.stageInputs sec
  | 0x07 => s.stageRegisters converterRegs sec
  | 0x08 => s.stageRegisters meterRegs sec
  | 0x09 => s.stageRegisters powerRegs sec
  | 0x0A => s.stageFaults sec
  | 0x0B => s.stageSpr sec
  | 0x0C => s.stageRegisters halyardRegs sec
  | 0x0D => s.stageNetwork sec
  | 0x0E => s.stageRegisters thermalRegs sec
  | 0x0F => s.stageRegisters [.sltCfg] sec
  | 0x10 => s.stageStorage sec
  | 0x11 => s.stageLive sec
  | 0x12 => s.stageSram sec
  | _ => none

/-- The bytes of a section. -/
def sectionBytes (b : List Byte) (e : SectionEntry) : List Byte := (b.drop e.offset).take e.length

/-- The application checks on the staged settings (R85), those of the network section where the copy has one. -/
def Chip.stagedValid (s : Chip) (c : SlotCopy) : Bool :=
  s.armsValid && s.edgesValid && s.convertersValid && s.meterValid && s.powerValid && s.sprValid &&
    s.halyardValid s.halyard.pairEn c.bytes ((directory c.bytes).any fun e => e.type == 0x0C) && s.thermalValid && s.sliceTestValid && s.enginesValid && s.liveValid &&
    (directory c.bytes).all fun e => e.type != 0x0D || s.networkImageValid (sectionBytes c.bytes e)

/-- The settings of a verified copy staged and checked (R84 to R86): `none` gives status 11. -/
def Chip.stage (s : Chip) (c : SlotCopy) : Option Chip :=
  let d := directory c.bytes
  if !(d.any fun e => e.type == 1) then none
  else
    (d.foldlM (init := s.beforeImage) fun (s : Chip) e => s.stageSection e.type (sectionBytes c.bytes e)).bind fun s =>
      let s := s.wr .periodCfg_sheafRate s.slowestRate
      if s.stagedValid c then some s else none

/-! ## Application -/

/-- The lanes take their settings (R131, R150, R165): one that the image sets to eye scan shows no figure of merit; a lane whose rate differs begins anew, one that the image disables is down; the others
may leave HUNT now that an image is applied. -/
def Chip.applyLanes (s old : Chip) : Chip :=
  s.each (List.range 100) fun s n =>
    let s := s.onlyIf (s.on .laneCfg_qualityMode n) fun s => s.wr .laneQuality_fom 0 n
    let s := if !s.on .laneCfg_enabled n || s.laneHeld n then ((s.laneDown n).laneToHunt n).endLaneWork n
      else if s.rd .laneCfg_rate n = old.rd .laneCfg_rate n ∧ old.on .laneCfg_enabled n = true then s
      else s.laneReset n
    s.laneTryMeasure n

/-- The comparators take their thresholds (R348, R557). -/
def Chip.applyComparators (s old : Chip) (levels : List Int) : Chip :=
  let s := { s with converter := { s.converter with degraded := 0, fresh := false } }
  s.each (List.range 24) fun s n =>
    let same (f : Fld) : Bool := s.rd f n == old.rd f n
    let changed := old.converter.fresh || !(same .wcCfg_lo && same .wcCfg_hi && same .wcCfg_hyst)
    s.comparatorApplied n changed (levels.getD n 0)

/-- The collector takes its settings: every window closes and every count clears (R410). -/
def Chip.applyFaults (s : Chip) : Chip :=
  let s := s.each (List.range 512) fun s n => (s.wr .fsCount_winCount 0 n).wr .fsCount_winOpen 0 n
  { s with faults := { s.faults with openAt := [] } }

/-- Two plans differ (R113). -/
def Chip.planDiffers (old new : Chip) : Bool :=
  let p := old.rd .pllStat_activePlan
  old.rd .pllPlan_source p != new.rd .pllPlan_source 0 || old.rd .pllPlan_refFreq p != new.rd .pllPlan_refFreq 0 ||
    old.rd .pllPlan_spread p != new.rd .pllPlan_spread 0

/-- CE_POWER names the power-setpoint group of each arm (R291, R303). -/
def Chip.designatePower (s : Chip) : Chip :=
  let groups := (List.range 24).flatMap fun e =>
    if s.on .ceCfg_active e then (s.engine e).image.groups.zipIdx.map fun (g, i) => (e, i, g.arm) else []
  s.each (List.range 6) fun s a =>
    match groups.find? fun x => x.2.2 == some a with
    | some (e, i, _) => ((s.wr .cePower_designated 1 a).wr .cePower_engine e a).wr .cePower_group i a
    | none => s.coldFieldsAt .cePower a

/-- The staged settings are committed (R84 to R86, R91), and every unit takes its own. -/
def Chip.takeImage (s old : Chip) (second : Bool) (c : SlotCopy) (levels : List Int) : Chip :=
  let s := (s.wr .imageStat_appliedValid 1).wrFlag .imageStat_appliedCopy second
  let s := (if second then s.wr .imageStat_statusB 1 else s.wr .imageStat_statusA 1).wrBytes .imageDigest_digest c.digest 12
  let s := s.queuePage .image [(6, leBytes 1 (flag second) ++ leBytes 4 (imageSequence c) ++ c.digest)]
  let s := { s with security := { s.security with ownerKey := ownerKey c } }
  let s := if s.modes.fromNoImage then s.queuePage .cleared [(5, [])] else s
  let s := { s with modes := { s.modes with fromNoImage := false } }
  let s := (s.each (List.range 24) fun s e => s.engineDefault e).designatePower.engineStat.liveDefault
  let s := s.applyFaults.convertersApplied.applyComparators old levels
  let s := (s.applyLanes old).applyOutputs old
  let s := s.clearBroken
  let s := { s with thermal := { s.thermal with evalAt := s.clock.now } }
  s.startPorts.gooseStart

/-- The image is applied (R84 to R86): the period grid starts, after a hop to PLAN[0] where the plan in force differs from it (R113). -/
def Chip.commitImage (s old : Chip) (second : Bool) (c : SlotCopy) (levels : List Int) (edges : Bool) : Chip :=
  let s := s.takeImage old second c levels
  if planDiffers old s then (s.setPtp old.ptpNow s.net.ptp.rate).hop 0 edges else (s.wr .pllStat_activePlan 0).startGrid

/-- One event on the image source for a status from 4 to 12 (R87). -/
def Chip.statusEvent (s : Chip) (status : Nat) : Chip :=
  if 4 ≤ status ∧ status ≤ 12 then s.raise originImage else s

/-- The region of an image slot (R571). -/
def imageRegion (second : Bool) : Nat := if second then 4 else 3

/-- The status field of a slot. -/
def statusField (second : Bool) : Fld := if second then .imageStat_statusB else .imageStat_statusA

/-- Candidates in turn (R84): the first that verifies and passes application is applied; true where one is. -/
def Chip.tryCandidates (s : Chip) (levels : List Int) (edges : Bool) : List (Bool × SlotCopy) → Bool × Chip
  | [] => (false, s)
  | (second, c) :: l =>
    let s := s.readFlash (s.bodyPages (imageRegion second) c)
    match s.checkContent c with
    | some e => (s.wr (statusField second) e).tryCandidates levels edges l
    | none =>
      match s.stage c with
      | some new => (true, new.commitImage s second c levels edges)
      | none => (s.wr (statusField second) 11).tryCandidates levels edges l

/-- A slot's header is read (R84): its status where a check of 1 to 5 fails, and its sequence number (R102). -/
def Chip.readHeader (s : Chip) (second : Bool) (c : SlotCopy) : Chip :=
  let s := s.wr (if second then .imageSeqB_sequence else .imageSeqA_sequence)
    (if (checkForm c).isSome then 0 else imageSequence c)
  s.wr (statusField second) ((checkHeader c).getD 0)

/-- The end of the selection (R84, R87, R93): the events of the two statuses, and SAFE HOLD where no copy was applied. The applied copy
is a fall-back where the other header's sequence number is the higher; with equal numbers neither is (DESIGN CHOICE, log entry 305). -/
def Chip.selectionDone (s : Chip) (chosen : Bool) : Chip :=
  let s := (s.statusEvent (s.rd .imageStat_statusA)).statusEvent (s.rd .imageStat_statusB)
  if !chosen then s.enterSafeHold .noImage
  else
    let theirs := if s.on .imageStat_appliedCopy then s.rd .imageSeqA_sequence else s.rd .imageSeqB_sequence
    s.onlyIf (decide (s.appliedSequence < theirs)) fun s => (s.wr .imageStat_fallback 1).raise originImage

/-- Both copies have verified, applied or not, with the same sequence number (R88): seq_tie, and one event where their digests differ. -/
def Chip.tieNoted (s : Chip) (a b : SlotCopy) : Chip :=
  let verified (f : Fld) : Bool := s.rd f == 1 || s.rd f == 2 || s.rd f == 11
  if verified .imageStat_statusA && verified .imageStat_statusB && imageSequence a == imageSequence b then
    (s.wr .imageStat_seqTie 1).onlyIf (a.digest != b.digest) fun s => s.raise originImage
  else s

/-- The candidates of a selection: the copies that pass checks 1 to 5, the newer first, A where they tie (R84). -/
def imageOrder (a b : SlotCopy) : List (Bool × SlotCopy) :=
  let pass (second : Bool) (c : SlotCopy) := if (checkHeader c).isNone then [(second, c)] else []
  if imageSequence a < imageSequence b then pass true b ++ pass false a else pass false a ++ pass true b

/-- IMAGE_SELECTION (R84, R87, R88, R93): at the end of boot, once after each cold or warm reset. -/
def Chip.imageSelection (s : Chip) (levels : List Int) (edges : Bool) : Chip :=
  if s.noFirmware || s.modes.imageDone then s
  else
    let a := s.slotCopy (imageRegion false)
    let b := s.slotCopy (imageRegion true)
    let s := s.readFlash (s.headPages (imageRegion false) ++ s.headPages (imageRegion true))
    let s := { (s.readHeader false a).readHeader true b with modes := { s.modes with imageDone := true } }
    let r := s.tryCandidates levels edges (imageOrder a b)
    (r.2.selectionDone r.1).tieNoted a b

/-- BACKGROUND_IMAGE_CHECK (R87 to R89): under leave, after CONFIGURE; the result is the other copy's status. -/
def Chip.backgroundCheck (s : Chip) : Chip :=
  let second := !s.on .imageStat_appliedCopy
  let due := s.applied && !s.on .secStat_retired && s.mode != .configure && s.rd (statusField second) == 0
  if !due then s
  else
    let s := if s.holdsLeave .imageCheck || s.waitsLeave .imageCheck then s else s.askLeave .imageCheck
    if !s.holdsLeave .imageCheck then s
    else
      let s := s.returnLeave .imageCheck
      let c := s.slotCopy (imageRegion second)
      let s := s.readFlash (s.headPages (imageRegion second) ++ s.bodyPages (imageRegion second) c)
      match s.checkContent c with
      | some e => (s.wr (statusField second) e).statusEvent e
      | none => (s.wr (statusField second) 2).tieNoted (s.slotCopy (imageRegion false)) (s.slotCopy (imageRegion true))

/-! ## Retention -/

/-- The copy in a slot verifies (R96, R575): BOOT A, BOOT B, IMAGE A and IMAGE B by their regions 1 to 4. -/
def Chip.copyVerifies (s : Chip) (r : Nat) : Bool :=
  let c := s.slotCopy r
  if s.on .secStat_retired then false
  else if r ≤ 2 then (firmwareHeader c).isNone && (s.firmwareVerify c).isNone
  else (checkHeader c).isNone && (s.checkContent c).isNone

/-- A block of a copy is refreshed (R575): read into a buffer, erased and programmed again from it; `wrong` tells the bits that come out
wrong in the array, by page; then it is read back. -/
def Chip.rewriteBlock (s : Chip) (wrong : List (Nat × List Nat)) (b : Nat) (pages : List Nat) : Chip :=
  let buffer := pages.map fun p => (p, (s.flashPage p).read.content)
  let s := (s.readFlash pages).eraseBlock b
  let s := s.each buffer fun s x =>
    match x.2 with
    | some (d, m) => s.putFlash x.1 ((nandPage d { m with erases := storeGet s.storage.erases b 0 }).flip (storeGet wrong x.1 []))
    | none => s
  s.readFlash pages

/-- A whole copy is refreshed, block by block (R575). -/
def Chip.rewriteCopy (s : Chip) (r : Nat) (wrong : List (Nat × List Nat)) : Chip :=
  let pages := (s.slotPages r).take (copyPages (s.slotCopy r).bytes)
  s.each (s.slotBlocks r) fun s b =>
    let mine := pages.filter fun p => p / 64 == b
    s.onlyIf (!mine.isEmpty) fun s => s.rewriteBlock wrong b mine

/-- The copy that NV_SCRUB names next, after copy `c` (R575). -/
def Chip.nextCopy (s : Chip) (c : Nat) : Chip :=
  s.wr .nvScrub_nextCopy (if s.rd .nvScrub_nextCopy = c then (c + 1) % 4 else s.rd .nvScrub_nextCopy)

/-- A refreshed copy has verified (R574, R575): its scrub entry goes to the ledger. -/
def Chip.refreshDone (s : Chip) (c : Nat) : Chip :=
  let r := s.freeByte
  let s := r.2.queuePage .scrub [(9, [BitVec.ofNat 8 c, r.1])]
  let s := { s with storage := { s.storage with
    scheduled := s.storage.scheduled.filter (· != c)
    failedCopies := s.storage.failedCopies.filter (· != c) } }
  (s.wrFlag .nvScrub_earlyDue (!s.storage.scheduled.isEmpty)).nextCopy c

/-- RETENTION_REFRESH (R96, R530, R575): the copy `next_copy` names, or one scheduled, is rewritten under leave and verified; a copy that
does not verify is passed over. A second copy of a pair waits until the first one's ledger entry is written, and so does the copy itself; a
failed copy stops its partner, which is passed over. -/
def Chip.retentionRefresh (s : Chip) (c : Nat) (wrong : List (Nat × List Nat)) : Chip :=
  let partner := if c % 2 = 0 then c + 1 else c - 1
  let waits := s.storage.jobs.any fun x => x.1 == .scrub && x.2.any fun b => byteAt b.2 0 == partner || byteAt b.2 0 == c
  let mine := s.storage.scheduled.contains c || s.rd .nvScrub_nextCopy == c
  if !s.serialPortDriven || s.on .modeStat_holdUp || !s.refreshDue c || waits || !mine then s
  else if s.storage.failedCopies.contains partner then s.nextCopy c
  else
    let s := s.askLeave .retention
    if !s.holdsLeave .retention then s
    else if !s.on .flTemp_inRange then s.refuseFlash.returnLeave .retention
    else
    let s := s.readFlash ((s.slotPages (c + 1)).take (copyPages (s.slotCopy (c + 1)).bytes))
    if !s.copyVerifies (c + 1) then (s.nextCopy c).returnLeave .retention
    else
      let s := s.rewriteCopy (c + 1) wrong
      let s := s.readFlash ((s.slotPages (c + 1)).take (copyPages (s.slotCopy (c + 1)).bytes))
      if s.copyVerifies (c + 1) then (s.refreshDone c).returnLeave .retention
      else
        let s := { s with storage := { s.storage with failedCopies := c :: s.storage.failedCopies } }
        (((s.wr .nvScrub_lastFail 1).raise originStorageLost).nextCopy c).returnLeave .retention

end Sys2Proof.Machine
end

