-- ==== Sys2Proof/Machine/Resets.lean ====
section
/-! DEFINITION. The resets (R55 to R64): cold, warm and deliberate, each as one operation written from the table of what
survives (R62). A lane reset stands in Lanes.lean. -/

namespace Sys2Proof.Machine

/-- The causes of a cold reset (R55). -/
def coldCauseField : Nat → Fld
  | 0 => .resetCause_coldPowerOn
  | 1 => .resetCause_coldSupply
  | _ => .resetCause_coldPin

/-- The registers that fuses fill (R484, R590, R608). -/
def fuseRegs : List Reg := [.netMacLo, .netMacHi, .idSerialLo, .idSerialHi, .idPubkey, .idEndorse]

/-- The owner slot in force from a start on (R600): slot 1 once it is valid. -/
def Chip.takeSlot (s : Chip) : Chip :=
  { s with security := { s.security with inForce := if s.security.slot1.valid then 1 else 0 } }.showOwner

/-- The fuses of another state of the block, and its ROM digests (R62, R590, R594). -/
def Chip.keepFuses (s old : Chip) : Chip :=
  let x := old.security
  let s := { s with security := { s.security with
    romDigest0 := x.romDigest0, romDigest1 := x.romDigest1, signatures := x.signatures, deviceSecret := x.deviceSecret, idDigest := x.idDigest, slot0 := x.slot0, slot1 := x.slot1 } }
  (s.takeFields old fuseRegs).takeSlot

/-- What flash holds, which every reset keeps (R62, R648): pages handed over and not yet programmed are abandoned. -/
def StorageState.flash (x : StorageState) : StorageState :=
  { bad := x.bad, marked := x.marked, nand := x.nand, erases := x.erases, pages := x.pages, erased := x.erased, writeBlock := x.writeBlock, writePage := x.writePage,
    nextSeq := x.nextSeq, nextPageSeq := x.nextPageSeq, logNext := x.logNext, logBlocks := x.logBlocks, recNext := x.recNext,
    records := x.records, refreshed := x.refreshed, nextId := x.nextId, failedCopies := x.failedCopies, unpowered := x.unpowered,
    devices := x.devices, nextWriteSeq := x.nextWriteSeq, carryDue := x.carryDue }

/-- PAIR_EN as sampled makes the member hold its cell lanes on entry into CONFIGURE (R447). -/
def Chip.holdLanes (s : Chip) : Chip :=
  if s.halyard.pairEn then
    let s := { s with halyard := { s.halyard with cellsHeld := true } }
    s.each s.heldLanes fun s n => if s.on .laneCfg_enabled n then (s.laneDown n).laneToHunt n else s
  else s

/-- The device was without power for a while, which does not count as powered time (R574). -/
def Chip.powerLost (s : Chip) (ns : Nat) : Chip := { s with storage := { s.storage with unpowered := s.storage.unpowered + ns } }

/-- A cold reset of both dies (R55, R62). The balls stand as they stood except at power-on; PORST_N is low until it is released. -/
def Chip.coldReset (s : Chip) (cause : Nat) : Chip :=
  let new : Chip := { clock := { now := s.clock.now }, drawn := s.drawn, storage := s.storage.flash
                      net := { ptp := { since := s.clock.now } } }
  let new := ((new.wr .resetCause_coldPowerOn 0).wr (coldCauseField cause) 1).keepFuses s
  let new := if cause = 0 then new
    else
      let new := (new.wr .shroudStat_sprA (s.rd .shroudStat_sprA)).wr .shroudStat_sprB (s.rd .shroudStat_sprB)
      { new with spr := { new.spr with warned := s.spr.warned, discAt := s.spr.discAt, discLong := s.spr.discLong
                                       discReported := s.spr.discReported } }.keepTrips s
  (new.showErases).shroudRefresh

/-- The registers of the Mast die that a warm reset keeps or that follow a state it does not touch (R62, R119). The definitions PLAN[0] to
PLAN[3] stay, and can be hopped to, where the reset applies no copy (DESIGN CHOICE, log entry 405). -/
def warmRegs : List Reg :=
  fuseRegs ++ [.resetCause, .idbStat, .sramCorrCount, .sramUncorrAddr, .pllStat, .pllPlan, .pllBandTable, .pllBandStore, .fsSticky,
    .fsEsc, .mptStat, .mptDeltaLo, .mptDeltaHi, .mptTotalLo, .mptTotalHi, .mptNetLo, .mptNetHi, .nvDev, .nvEcc, .nvBlocks, .nvScrub,
    .nvLedger, .saStart, .drStat, .drCount, .drLast, .tripStat, .wcState, .wcUnres, .wcLatch, .wcRbFail, .thStat, .huStat]

/-- The registers of the Rigging die, which a warm reset does not touch (R55). -/
def riggingRegs : List Reg := Reg.all.filter fun r => decide (0x50000000 ≤ r.spec.base)

/-- The pages waiting for the ledger whose data a warm reset leaves to be written: those of saves and of the start count are made anew
(R62, R363, R507). -/
def LedgerJob.kept : LedgerJob → Bool
  | .save | .final | .start => false
  | _ => true

/-- What a warm reset keeps of the metrology: totals, residues and what is not written to the ledger yet; a window in progress is
unmeasured (R62, R363, R372). -/
def Chip.metersOver (s : Chip) : MetrologyState :=
  { points := s.metrology.points.map fun (k, m) =>
      (k, { m with past := [], window := [], warmFrom := m.lastEnd.orElse fun _ => m.warmFrom, lastEnd := none })
    closedEarly := s.metrology.closedEarly }

/-- The Mast die as it comes out of a warm reset, in CONFIGURE (R55 to R57, R62, R648). -/
def Chip.warmImage (s : Chip) (cause : Fld) : Chip :=
  let s := s.cutWindow 0 |>.cutWindow 1
  let new : Chip :=
    { sram := s.sram, clock := { now := s.clock.now, tb := s.clock.tb, started := s.clock.started }, drawn := s.drawn
      pll := { s.pll with yieldDeadline := none, takeoverSeen := false }
      modes := { porstLow := false, restoreDone := s.modes.restoreDone, holdSwitch := s.modes.holdSwitch
                 fromNoImage := s.holdCause == .noImage }
      faults := { log := s.faults.log, aliveA := s.faults.aliveA, aliveB := s.faults.aliveB
                  aliveAAt := s.faults.aliveAAt, aliveBAt := s.faults.aliveBAt, idbEvents := s.faults.idbEvents
                  lastKick := s.faults.lastKick }
      spr := { s.spr with copies := [], seen := [], watchOn := false, accepted := none, pairFall := none, statusSeq := 0 }
      thermal := { records := s.thermal.records }
      converter := { s.converter with degraded := 0 }
      power := { s.power with channelOn := [], stampsLeft := [], queued := [] }
      halyard := { pairEn := s.halyard.pairEn }
      net := { ptp := { time := s.net.ptp.time, since := s.net.ptp.since, rate := s.net.ptp.rate } }
      metrology := s.metersOver
      storage := { s.storage with jobs := s.storage.jobs.filter fun j => j.1.kept, written := s.storage.written.filter fun j => j.kept }
      security := { inForce := s.security.inForce } }
  let new := ((new.takeFields s (warmRegs ++ riggingRegs)).keepFuses s).readIdentities
  let new := (new.wrFlag .nvStat_short (!s.storage.shortRegions.isEmpty)).wr .nvStat_anchorValid (s.rd .nvStat_anchorValid)
  let new := new.each [0, 1] fun s k => s.wr .mptStat_ready 0 k
  let new := ((new.wr .fcStat_notePending (s.rd .fcStat_notePending)).wr .fcStat_degradePending (s.rd .fcStat_degradePending)).wr
    .fcStat_kickErr (s.rd .fcStat_kickErr)
  let new := new.onlyIf (s.rd .huStat_charge == 2) fun s => s.wr .huStat_charge 1
  let new := (new.wr .modeStat_holdUp (s.rd .modeStat_holdUp)).wr .fcStat_aliveBFrozen (s.rd .fcStat_aliveBFrozen)
  let new := (new.wr .sprStat_aDemand (s.rd .sprStat_aDemand)).wr .sprStat_bDemand (s.rd .sprStat_bDemand)
  let new := (new.wr .sprStat_discrepancy (s.rd .sprStat_discrepancy)).clearStaticOn
  let new := ((new.each (List.range 100) fun s n => s.laneToHunt n).holdLanes).wr cause 1
  new.showConverter.newStart ((s.rd .saStart_start + 1) % 2 ^ 32)

/-- The device is in SAFE HOLD again after a warm reset, with the cause it had (R56, R58). -/
def Chip.holdAgain (s : Chip) (c : HoldCause) : Chip :=
  let s := s.enterSafeHold c
  { s with modes := { s.modes with lockoutEntries := s.modes.lockoutEntries.map fun e => { e with waits := none } } }

/-- A warm reset by request 7 (R55 to R57): the Mast die withdraws its consent, and the Shroud blocks for the whole of it. A
lockout stays, except that hold_cause 5 leaves it to R84 again. -/
def Chip.warmRequest (s : Chip) : Chip :=
  let s := (s.wr .shroudStat_mastConsent 0).shroudAssert
  let old := s.holdCause
  let new := (s.warmImage .resetCause_warmRequest).shroudRefresh
  if s.mode = .safeHold ∧ old ≠ .noImage then new.holdAgain old else new

/-- A warm reset by the watchdog or by a lockstep mismatch (R55, R57, R58): the Shroud's latch is set with hold_cause 7, and the
device is in SAFE HOLD with the cause that R645 gives. -/
def Chip.warmFailure (s : Chip) (cause : Fld) : Chip :=
  let s := ((s.wr .shroudStat_mastConsent 0).shroudAssert).shroudLatch .warmReset
  let old := s.holdCause
  let new := s.warmImage cause
  let new := { new with modes := { new.modes with fromNoImage := false } }
  ((new.holdAgain (if s.mode = .safeHold then old.merge .warmReset else .warmReset)).raise originLockstep).shroudRefresh

/-- The edge engines, the control engines and the balancing stages at their defaults, and none of them READY (R55, R62); their
retirements are for the slice test to decide (R64). -/
def Chip.enginesToDefault (s : Chip) : Chip :=
  let s := { s with edges := {}, arms := {} }
  let s := s.coldFields [.eeStat, .eeEstat, .eeCounts, .eeCarry, .eeLCarry, .armStat, .armCount, .armTb, .cellStat, .ceEstat]
  let s := s.each (List.range 24) fun s e =>
    (((s.engineDefault e).wr .ceCfg_retired 0 e).wr .ceCfg_lost 0 e).wr .ceCfg_runsOn e e
  let s := s.each (List.range 6) fun s a => (s.wr .cePower_ramp 0 a).wr .cePower_stopping 0 a
  let s := s.each (List.range 3) fun s n => s.wr .sltRetEe_retired 0 n
  let s := (s.wr .sltRetMisc_eeL 0).wr .sltRetMisc_eeS 0
  let s := ((s.wr .readyUnit_ce 0).enginesUnusable).coldFields [.readyEdgeA, .readyEdgeB, .readyEdgeC]
  ((s.wr .readyUnit_eeL 0).wr .readyUnit_eeS 0).engineStat

/-- The power-on slice test of the engines is due (R64), and a slice of theirs under way ends; the cycle completes where track 1 has
finished (R553). -/
def Chip.retestEngines (s : Chip) : Chip :=
  let s := match s.slices.run0 with
    | some r => s.returnLeave (.slice r.inst)
    | none => s
  let s := { s with modes := { s.modes with sliceDone := false, lockoutEntries := [] }
                    slices := { s.slices with enginesOnly := true, run0 := none, queue0 := [] } }
  s.showSlices.cycleEnd

/-- Event counters and windows of the collector cleared (R62). -/
def Chip.clearFaultCounts (s : Chip) : Chip :=
  let s := ((s.coldFields [.fsCount]).wr .fcStat_escalations 0).wr .fcStat_merged 0
  { s with faults := { s.faults with openAt := [] } }

/-- The role in the pair is to be decided anew (R62). -/
def Chip.forgetRole (s : Chip) : Chip :=
  let s := { s with halyard := { s.halyard with
    probing := false, probeRun := 0, coasting := false, stoppedSending := false, takeover := false, takeNext := false, sendsNow := false
    yieldNext := false, handover := none, goodCopies := 0, stepFrom := none, probeLeave := none, parts := [] } }
  ((s.wr .halStat_inStep 0).wr .halStat_aligned 0).wr .halStat_returnPending 0

/-- ALIVE_A and ALIVE_B run again on leaving SAFE HOLD, ALIVE_A only after a correct kick within 10 ms (R416). -/
def Chip.resumeAlive (s : Chip) : Chip :=
  let recent := s.faults.kicked && decide (s.clock.now < s.faults.lastKick + 10000000)
  (s.wrFlag .fcStat_aliveAFrozen (!recent)).wr .fcStat_aliveBFrozen 0

/-- The deliberate reset (R55, R62 to R64): engines, cells, live set and fault counters return to their defaults; the device is in
CONFIGURE. -/
def Chip.deliberateReset (s : Chip) : Chip :=
  let s := s.enginesToDefault.liveDefault.clearFaultCounts.retestEngines.lockDebug.forgetRole
  let s := ((s.wr .modeStat_holdCause 0).wr .modeStat_lockoutPersisted 0).wr .fcStat_reaction 0
  let s := (s.setMode .configure).clearShorts.initCells.holdLanes.wr .resetCause_deliberate 1
  s.resumeAlive

end Sys2Proof.Machine
end

