-- ==== Sys2Proof/Machine/Modes.lean ====
section
/-! DEFINITION. Mode requests and transitions (R44 to R50), QUIESCENT and HOLD-UP (R50 to R54), lockouts (R56 to R60), the
acknowledge window (R67 to R71), and the supervised supplies (R621, R631). -/

namespace Sys2Proof.Machine

/-- A boundary has just come: transitions take effect at boundaries (R45), within 1 µs in this model (log entry 30). -/
def Chip.atBoundary (s : Chip) : Bool := s.clock.gridOn && s.clock.n != 0 && decide (s.clock.tb < s.boundaryTb + 1000)

/-- A change of mode at a boundary: its snapshot is that of the new mode (R29, R281, R294), and entry into SHADOW aligns (R460). -/
def Chip.modeAtBoundary (s : Chip) (m : Mode) : Chip := (s.enterMode m).alignSilent.snapshotAnew

/-! ## QUIESCENT -/

/-- QUIESCENT begins (R50, R51, R66): the gated engines are not READY. -/
def Chip.enterQuiescent (s : Chip) : Chip :=
  let s := ((s.wr .modeStat_quiescent 1).wr .readyUnit_ce 0).enginesUnusable
  let s := (s.coldFields [.readyEdgeA, .readyEdgeB, .readyEdgeC]).wr .readyUnit_eeL 0
  { s.wr .readyUnit_eeS 0 with modes := { s.modes with resumeIn := none } }.judgeEdges

/-- QUIESCENT ends (R52): the engines that are not retired raise READY, once tested. -/
def Chip.quiescentEnds (s : Chip) : Chip :=
  let s := { s.wr .modeStat_quiescent 0 with modes := { s.modes with resumeIn := none } }.judgeEdges
  if s.applied && s.modes.sliceDone then
    s.each ((s.powerOnInstances true).filter fun i => !s.instRetired i) fun s i => s.instReady i
  else s

/-- QUIESCENT_RESUME (R52). -/
def Chip.quiescentResume (s : Chip) : Chip :=
  if s.on .modeStat_quiescent && s.modes.resumeIn == some 0 && s.atBoundary then s.quiescentEnds else s

/-! ## Requests and transitions -/

/-- The pending request stands for its condition (R44). -/
def Chip.stand (s : Chip) : Chip := { s with modes := { s.modes with reqStands := true } }

/-- The pending request takes effect as a change of mode. -/
def Chip.takeRequest (s : Chip) (m : Mode) : Chip := s.dropPending.modeAtBoundary m

/-- The pending request is judged by the table of R44 (R44, R45, R48, R50, R52, R56, R295). In CONFIGURE and while probing,
requests 1 and 2 stand for the end of that state. -/
def Chip.judgeRequest (s : Chip) : Chip :=
  let r := s.rd .modeReq_pending
  if r = 0 then s
  else if !s.requestHasRow r then s.dropPending.refuseRequest
  else match r with
    | 1 => if s.mode = .charge then s.takeRequest .commission else s.stand
    | 2 => if s.mode = .commission ∧ s.on .eeStat_halted = false then s.takeRequest .charge else s.stand
    | 3 => if s.prechargeComplete then s.takeRequest .run else s.stand
    | 4 => if s.modes.stopping then s.dropPending else s.dropPending.beginStopping
    | 5 => s.dropPending.enterQuiescent
    | 6 =>
      let s := s.dropPending
      if s.clock.gridOn then
        { s with modes := { s.modes with resumeIn := some (s.modes.resumeIn.getD 2) } }
      else s.quiescentEnds
    | _ => s.dropPending.warmRequest

/-- A request written to MODE_REQ (R44, R45, R48): it replaces a pending one, and waits for its snapshot while the grid runs; otherwise
it is judged at once. -/
def Chip.modeRequest (s : Chip) (r : Nat) : Chip :=
  if r = 0 ∨ 7 < r then s
  else
    let s := { s.wr .modeReq_pending r with modes := { s.modes with reqStands := false, reqReached := false } }
    if s.clock.gridOn then s else s.judgeRequest

/-- A SAFE HOLD cause fell due at the boundary that has just come (R47). -/
def Chip.heldAtBoundary (s : Chip) : Bool :=
  s.mode == .safeHold && decide (s.clock.now ≤ s.modes.reactionAt + (s.clock.tb - s.boundaryTb))

/-- The request pending at the boundary, judged at its snapshot or for its condition; with a SAFE HOLD cause at the same boundary the
transition it asks for is discarded (R47). -/
def Chip.boundaryRequest (s : Chip) : Chip :=
  let r := s.rd .modeReq_pending
  if s.modes.reqStands then s.judgeRequest
  else if !s.modes.reqReached || r == 0 then s
  else if s.heldAtBoundary && (r ≤ 4 || r == 7) then s.dropPending
  else s.judgeRequest

/-- MODE_TRANSITION (R44, R45, R47, R295): what falls due at the boundary, once. -/
def Chip.modeTransition (s : Chip) : Chip :=
  if !s.atBoundary || s.modes.transitionAt == some s.boundaryTb then s
  else
    let old := s.mode
    let ended := s.modes.stopping && s.powerIsZero
    let s := { s with modes := { s.modes with transitionAt := some s.boundaryTb } }
    let s := s.boundaryRequest
    if s.mode ≠ old then s
    else if old = .charge ∧ s.sys.autoRun = true ∧ s.prechargeComplete = true then s.modeAtBoundary .run
    else if old = .run ∧ ended = true then s.modeAtBoundary .charge
    else s

/-- The cause that R60 restores from the entry's cause. -/
def restoredCause (c : Nat) : Option HoldCause :=
  match HoldCause.ofCode c with
  | .none | .noImage => none
  | x => some (if x.isSystem then .restored else x)

/-- The cause to be restored at the first boundary after the application (R60), if any. The lockout that the scan at the cold start found
(R582) is restored even where the image that is applied first after it comes by request 7 out of hold_cause 5, whose entry and whose
lockout-cleared entry (R56) are later than the scan: the spec does not say whether R60 still holds then (DESIGN CHOICE, log entry 207). -/
def Chip.toRestore (s : Chip) : Option HoldCause :=
  if s.modes.restoreDone then none else s.storage.lockoutFound.bind restoredCause

/-- The conditions of R44 for the end of CONFIGURE; a lockout to be restored comes before it (R60). -/
def Chip.configureMayEnd (s : Chip) : Bool :=
  s.mode == .configure && !s.on .modeStat_quiescent && s.applied && s.modes.sliceDone && s.on .pllStat_locked &&
    s.on .shroudStat_shroudConsent && s.toRestore.isNone

/-- The mode that a pending request 1 or 2 names, once its snapshot has come (R29, R45). -/
def Chip.requestedMode (s : Chip) : Option Mode :=
  if s.modes.reqReached || s.modes.reqStands then
    match s.rd .modeReq_pending with
    | 1 => some .commission
    | 2 => some .charge
    | _ => none
  else none

/-- The mode that start_mode names, or with start_mode 0 a request. -/
def Chip.startTarget (s : Chip) : Option Mode :=
  match s.sys.startMode with
  | 0 => s.requestedMode
  | 1 => some .commission
  | _ => some .charge

/-- Where the end of CONFIGURE leads, and whether to a probing standby (R44, R448, R450). -/
def Chip.configureTarget (s : Chip) : Option (Mode × Bool) :=
  if !s.sys.pair then s.startTarget.map fun m => (m, false)
  else if s.halyardDown then some (.shadow, true)
  else if s.partnerPrimary then (if 2 ≤ s.halyard.recent.headD 0 then some (.shadow, false) else none)
  else (if s.on .halCfg_rank then s.requestedMode else s.startTarget).map fun m => (m, false)

/-- END_OF_CONFIGURE (R44, R45, R448, R450). -/
def Chip.endOfConfigure (s : Chip) : Chip :=
  if s.configureMayEnd && s.atBoundary then
    match s.configureTarget with
    | none => s
    | some (.shadow, probing) =>
      { s with halyard := { s.halyard with probing := probing, probeRun := 0, probeLeave := none } }.modeAtBoundary .shadow
    | some (m, _) =>
      let s := if s.requestedMode = some m then s.dropPending else s
      s.modeAtBoundary m
  else s

/-! ## HOLD-UP -/

/-- EARLY_WARNING_TRIP (R53, R62, R371): HOLD-UP begins. The lockout latch is set (R62), and debug locks. -/
def Chip.earlyWarning (s : Chip) : Chip :=
  if s.on .modeStat_holdUp then s
  else
    let armed := s.mode == .run || s.mode == .shadow
    let s := ((s.wr .modeStat_holdUp 1).wr .metStat_finalWritten 0).lockDebug
    let s := (s.enterSafeHold .earlyWarning).shroudLatch .earlyWarning
    (s.holdSaves.onlyIf armed fun s => s.closeEarly.finalSave).wr .metStat_ewArmed 0

/-- VSYS_FALLS_TO_HOLD (R621): the Rigging die connects HOLD to VSYS. -/
def Chip.vsysFalls (s : Chip) : Chip :=
  if s.on .modeStat_holdUp then { s with modes := { s.modes with holdSwitch := true } } else s

/-- VSYS_RETURN (R54, R371, R621): HOLD-UP ends, and metering resumes with the next window. -/
def Chip.vsysReturn (s : Chip) : Chip :=
  if s.on .modeStat_holdUp then
    { (s.wr .modeStat_holdUp 0).wr .metStat_finalWritten 0 with
      modes := { s.modes with holdSwitch := false }
      metrology := { s.metrology with closedEarly := false } }
  else s

/-- SUPPLY_WARNING (R434, R631): supply `n` (0 VDD_C, 1 VDD_M, 2 VSYS, 3 the internal Rigging rails) leaves its range; one event
until it has returned. -/
def Chip.supplyWarning (s : Chip) (n : Nat) : Chip :=
  if s.spr.warned.contains n then s
  else ({ s with spr := { s.spr with warned := n :: s.spr.warned } }.raiseRigging originSupply).shroudRefresh

/-- SUPPLY_RETURN (R631). -/
def Chip.supplyReturn (s : Chip) (n : Nat) : Chip :=
  { s with spr := { s.spr with warned := s.spr.warned.filter (· != n) } }.shroudRefresh

/-! ## Lockouts -/

/-- LOCKOUT_ENTRY_PERSISTED (R59). -/
def Chip.lockoutPersisted (s : Chip) : Chip :=
  let r := s.takeWritten .lockout
  if r.1 then r.2.wrFlag .modeStat_lockoutPersisted (s.mode == .safeHold && s.modes.lockoutEntries.isEmpty) else s

/-- LOCKOUT_ENTRY_RETRY (R59): an entry that could not be written is tried again after 1 s, in SAFE HOLD. -/
def Chip.lockoutRetry (s : Chip) : Chip :=
  if s.mode = .safeHold then
    match s.modes.lockoutRefused with
    | some t =>
      if t + 1000000000 ≤ s.clock.now then ({ s with modes := { s.modes with lockoutRefused := none } }).askLockout else s
    | none => s.askLockout
  else s

/-- LOCKOUT_RESTORE (R60, R62): at the first boundary after the application that follows a cold reset. -/
def Chip.lockoutRestore (s : Chip) : Chip :=
  if s.modes.restoreDone || !s.applied || !s.atBoundary then s
  else
    let found := s.toRestore
    let s := { s with modes := { s.modes with restoreDone := true } }
    match found with
    | some c => (s.enterSafeHold c).shroudLatch c
    | none => s

/-! ## The acknowledge window -/

/-- A pulse of SPR_RST of this width has passed its filter (R67, R68, R436). -/
def Chip.filteredPulse (s : Chip) (width : Nat) : Chip :=
  let valid := decide (500000000 ≤ width) && decide (width ≤ 5000000000)
  let s := if valid then { s with spr := { s.spr with shroudFall := some s.clock.now } } else s
  if !s.on .idbStat_linkUp then s
  else if valid then
    let s := { s with spr := { s.spr with pairFall := some s.clock.now }
                      modes := { s.modes with windowFall := s.clock.now, edgeDemand := s.sprDemand
                                              edgeThermal := !s.on .thStat_rearmOk } }
    (s.wr .delibStat_windowOpen 1).wr .delibStat_windowLeft 100
  else s.wr .delibStat_lastRefusal (if width < 500000000 then 1 else 2)

/-- SPR_RST_PULSE (R67 to R69, R425, R436): the input falls after `width` ns of high. Its filter never passes a pulse of less than 1 ms
and passes one of 2 ms; between them whether it does is open, and a free value decides (log entry 1501). The Shroud and pair 0 each
measure what passes; pair 0 learns of it over the IDB. -/
def Chip.resetPulse (s : Chip) (width : Nat) : Chip :=
  let open_ := decide (1000000 ≤ width) && decide (width < 2000000)
  let passes := if open_ then (Config.freeByte s.drawn 0).getLsbD 0 else decide (2000000 ≤ width)
  let s := s.onlyIf open_ fun s => (s.draw).2
  if passes then s.filteredPulse width else s

/-- The 10 s of the acknowledge window are over. -/
def Chip.ackWindowOver (s : Chip) : Bool := decide (s.modes.windowFall + 10000000000 ≤ s.clock.now)

/-- ACK_WINDOW_EXPIRY (R69). -/
def Chip.ackWindowExpiry (s : Chip) : Chip := if s.on .delibStat_windowOpen && s.ackWindowOver then s.closeWindow else s

/-- The Shroud's checks on a request to clear its latch, and its consent but for the latch (R67, R434, R436). -/
def Chip.shroudClears (s : Chip) : Bool :=
  let fall := match s.spr.shroudFall with
    | some t => decide (s.clock.now ≤ t + 10000000000)
    | none => false
  fall && !s.on .shroudStat_sprA && !s.on .shroudStat_sprB && !s.spr.discLong && s.spr.idbUp && !s.spr.warned.any (2 ≤ ·) &&
    !s.on .pllStat_synthDown

/-- The refusal of an acknowledge, as last_refusal codes it; 0 when it is accepted (R67, R69). -/
def Chip.ackRefusal (s : Chip) (authentic : Bool) : Nat :=
  if !authentic then 8
  else if !s.on .delibStat_windowOpen || s.ackWindowOver then 7
  else if s.mode ≠ .safeHold then 3
  else if s.holdCause = .noImage then 6
  else if s.modes.edgeDemand || s.sprDemand then 4
  else if s.holdCause = .thermal ∧ s.modes.edgeThermal = true then 5
  else if !s.shroudClears then 9
  else 0

/-- ACK (R67, R69, R71, R436). -/
def Chip.ack (s : Chip) (authentic : Bool) : Chip :=
  let r := s.ackRefusal authentic
  if r ≠ 0 then s.wr .delibStat_lastRefusal r
  else
    let s := (s.closeWindow).queuePage .cleared [(5, [])]
    let s := (s.returnLeave .lockoutWrite).dropRequest .lockoutWrite
    let s := (s.wr .shroudStat_lockout 0).wr .shroudStat_holdCause 0
    s.deliberateReset.shroudRefresh

/-! ## Resets as commands -/

/-- WATCHDOG_EXPIRY and LOCKSTEP_MISMATCH (R58); lockstep compares only where lockstep_enable is set (R82). -/
def Chip.watchdogExpiry (s : Chip) : Chip := if s.modes.porstLow then s else s.warmFailure .resetCause_warmWatchdog
def Chip.lockstepMismatch (s : Chip) : Chip :=
  if s.modes.porstLow || !s.sys.lockstep then s else s.warmFailure .resetCause_warmLockstep

/-- PORST_N_RELEASE (R55, R65, R447). -/
def Chip.porstRelease (s : Chip) (x : ReleaseFinds) : Chip :=
  if s.modes.porstLow then
    let s := { s with modes := { s.modes with porstLow := false }, halyard := { s.halyard with pairEn := x.pairEn } }
    let s := s.wrFlag .pllStat_refPresent x.refEdges
    let s := (s.each (List.range 100) fun s n => s.laneToHunt n).holdLanes
    s.flashFound x.dev0 x.dev1 x.profile x.blocks x.table x.markers x.pages
  else s

/-! ## Thermal shutdown -/

/-- The shutdown records that are not in flash are handed to the ledger, but for those it has already (R524, R525, R581). -/
def Chip.queueShutdown (s : Chip) : Chip :=
  let handed := s.storage.jobs.filter fun j => j.1 == .shutdown
  let left := handed.foldl (fun l j => l.erase j.2) (s.thermal.records.map fun r => [(7, r.body)])
  s.each left fun s e => s.queuePage .shutdown e

/-- THERMAL_EVALUATION (R516), with the record of a shutdown it declares (R524). -/
def Chip.evaluateTemperatures (s : Chip) (raw : List SensorReading) : Chip :=
  let t := s.thermalEvaluation raw
  if t.on .thStat_shutdownPending && !s.on .thStat_shutdownPending then t.queueShutdown else t

/-- SHUTDOWN_RECORD_WRITTEN (R524, R525): with the last record, that of the last shutdown, step 3 follows. -/
def Chip.shutdownWritten (s : Chip) : Chip :=
  let r := s.takeWritten .shutdown
  if r.1 then
    let s := r.2
    if s.thermal.records.isEmpty then
      let s := (s.wr .thStat_recordWritten 1).wr .thStat_recordPending 0
      s.onlyIf (s.on .thStat_shutdownPending) Chip.shutdownStep3
    else s
  else s

/-- SHUTDOWN_DEADLINE (R524): 3 ms after the declaration. -/
def Chip.shutdownDeadline (s : Chip) : Chip :=
  if s.on .thStat_shutdownPending && decide (s.thermal.declaredAt + 3000000 ≤ s.clock.now) then s.shutdownStep3 else s

/-- SHUTDOWN_RECORD_RETRY (R525): every 1 s in SAFE HOLD while a record that could not be written waits. -/
def Chip.shutdownRetry (s : Chip) : Chip :=
  if s.mode = .safeHold ∧ s.on .thStat_recordPending = true ∧ s.thermal.recordTriedAt + 1000000000 ≤ s.clock.now then s.queueShutdown
  else s

end Sys2Proof.Machine
end

