-- ==== Sys2Proof/Machine/Period.lean ====
section
/-! DEFINITION. The steps of one control period (R10 to R33), each composed of what the chapters do in it, and the inter-die
bridge and the scrub of the SRAM (R14 to R18, R35 to R38). -/

namespace Sys2Proof.Machine

/-- The next period boundary has come (R119). -/
def Chip.boundaryDue (s : Chip) : Bool := s.clock.gridOn && decide (s.clock.b0 + s.clock.n * s.tCtlNs ≤ s.clock.tb)

/-- The period index counts (R13): from 0 once the grid first runs, and on from its last value after a relock (R119). -/
def Chip.countBoundary (s : Chip) : Chip :=
  let s := if s.clock.ran then s.wr .periodIndex_index ((s.rd .periodIndex_index + 1) % 2 ^ 32) else s
  { s with clock := { s.clock with n := s.clock.n + 1, count := s.clock.count + 1, ran := true, step := 0 } }

/-- The captures of the boundaries of the last millisecond, from which the instants of results are converted (R497). -/
def Chip.keepBoundary (s : Chip) (ptp : Nat) : Chip :=
  let l := (s.net.boundaries.filter fun c => decide (s.clock.now ≤ c.1 + 1000000)) ++ [(s.clock.now - (s.clock.tb - s.boundaryTb), ptp)]
  { s with net := { s.net with boundaries := l } }

/-- The PTP time of the boundary, within 8 ns of the PTP clock at its instant by a free value (R121, R646), and whether the capture is
valid. -/
def Chip.captureBoundary (s : Chip) : Option Nat × Chip :=
  let r := s.freeNat
  let v := s.ptpAt (s.clock.now - (s.clock.tb - s.boundaryTb)) + r.1 % 17 - 8
  let valid := s.on .ptpStat_locked && !s.on .pllStat_holdover && !s.on .pllStat_synthDown
  let s := ((r.2.wr .tbBoundaryLo_time (v % 1000000000)).wr .tbBoundaryHi_time (v / 1000000000)).wrFlag .tbStat_boundaryValid valid
  let s := s.keepBoundary v
  if valid then (some v, s.keepCapture v) else (none, s)

/-- What a pair member does at a boundary: part 3 of the copy, the judgement of step, take-over and yield, the end of probing,
and alignment while it sends no sheaves (R450, R460, R463, R468, R471). -/
def Chip.pairBoundary (s : Chip) : Chip :=
  ((((s.applyPart 3 2).judgeStep).watchStep).roleBoundary).probeBoundary.alignSilent

/-- Step 1 of R11, taken at once (R28, R30): bales, converter words, GOOSE members, sampled values, with what each of them brings
about. `ptp` is the capture of the boundary where it is valid. -/
def Chip.takeSnapshot (s : Chip) (ptp : Option Nat) : Chip :=
  let s := (s.each cellLanes fun s n => s.useBale n).countExec
  let s := s.converterSnapshot.driversSnapshot.gooseSnapshot
  let r := s.resampleAll ptp
  let s := r.2
  s.meterBoundary (fun n => r.1.contains n) (fun n v => (s.stream n).full.getD v 0)

/-- A live command of kind 2 reaches its snapshot: unit 0x0003 cells (R241), 0x0008 metrology (R370), 0x0009 gate drivers
(R385). `gdi` is each channel's GDI in millivolts. -/
def liveCommand (gdi : List Int) (s : Chip) (c : LiveCommand) : Chip :=
  match c.unit, c.command with
  | 3, 1 => s.queueCellCommand .bypass c.value
  | 3, 2 => s.queueCellCommand .release c.value
  | 3, 3 => s.queueCellCommand .swap c.value
  | 8, 1 => s.metrologySave
  | 9, 1 => s.gdStaticOn c.value
  | 9, 2 => s.gdStaticOff c.value
  | 9, 3 => s.gdRearm c.value (gdi.getD c.value 0)
  | _, _ => s

/-- QUIESCENT's count of boundaries after request 6 (R52), and the snapshot of a pending request (R45). -/
def Chip.countResume (s : Chip) : Chip :=
  { s with modes := { s.modes with resumeIn := s.modes.resumeIn.map (· - 1), reqReached := s.rd .modeReq_pending != 0 } }

/-- PERIOD_BOUNDARY (R11, R13, R19, R29, R30, R121): the boundary that is due, and the snapshot of the period it begins. -/
def Chip.periodBoundary (s : Chip) (gdi : List Int) : Chip :=
  if s.boundaryDue then
    let first := !s.clock.ran
    let s := (s.onlyIf s.clock.ran Chip.keepReleased).countBoundary.takeReady.slicesServe
    let r := s.captureBoundary
    let s := (r.2.pairBoundary).takeSnapshot r.1
    let s := (s.onlyIf (!first) Chip.advanceCarriers).advanceArms
    let s := s.enginesSnapshot.liveSnapshot (liveCommand gdi)
    s.systemWords.publishBoundary.meterStatus.countResume.judgeEdges
  else s

/-- Instant `k` of the period, `due` nanoseconds after its boundary, has come (R19, R123): it is taken once, not before its count, and
not after a later one. -/
def Chip.atInstant (s : Chip) (k due : Nat) (g : Chip → Chip) : Chip :=
  if s.inPeriod && decide (s.clock.step < k) && decide (due ≤ s.phaseNs) then g { s with clock := { s.clock with step := k } } else s

/-- INPUT_DISTRIBUTION_CLOSE (R19, R27, R243, R279, R280): the mirrored words, the cell table, the setpoints and the input slots
are in place. -/
def Chip.distributeInputs (s : Chip) : Chip :=
  let s := s.converterDistribute
  let s := s.each ((List.range 96).filter fun nn => s.on .eeCfg_enabled nn) fun s nn => s.writeCellTable nn
  s.liveDistribute.fillInputs

/-- BALANCING_START (R24, R238, R463): at t_B. -/
def Chip.balancingStart (s : Chip) : Chip := ((s.engineOverruns).applyPart 1 1).balance

/-- EDGE_RELOAD (R205, R207, R224, R463): at t_E, from the edge state that the standby takes there; the stamps of EE_L then await the
next E. In QUIESCENT the edge engines are clock-gated with their memories kept (R51). -/
def Chip.reloadEdges (s : Chip) (lateArms unfinished : List Nat) : Chip :=
  if s.on .modeStat_quiescent then s else ((s.applyPart 2 1).edgeReload lateArms unfinished).queueInterval

/-! ## Sheaves -/

/-- The sheaves of R41 with the block request flag and no stamps. -/
def Chip.flaggedSheaves (s : Chip) : Bool := s.mode == .configure || s.mode == .safeHold

/-- The instant at which the first bit of a sheaf leaves, in picoseconds of the timebase: the lane acts up to 3 ns after t_S (R123), when
the block in progress has ended (R136); where it lies in there is open (log entry 511). -/
def Chip.sheafLeaves (s : Chip) (n draw : Nat) : Nat :=
  1000 * (s.boundaryTb + s.tS) + (Config.freeWord draw).toNat % (3000 + 68 * s.bitPs n)

/-- The sheaf of a BYPASSED cell (R235, R241): bypass, but for a release under way, the block request flag, no stamps. Under the
flags of R41 and R42 too a release under way carries bypass = 0, which R236 and R241 leave open between them (DESIGN CHOICE, log entry
808). -/
def Chip.bypassedSheaf (s : Chip) (nn : Nat) (base : Sheaf) : Sheaf :=
  { base with bypass := !s.on .cellStat_releasePending nn, blockReq := true }

/-- The sheaf that lane `n` sends at t_S, if any, but for its mark (R41, R170, R174, R208, R222, R235, R236): none on a lane without a
cell engine but for the flagged ones. A repeat carries the present period's flags (DESIGN CHOICE, log entry 705), and of more than 52
stamps those after the 52nd are left out (DESIGN CHOICE, log entry 709). -/
def Chip.sheafFor (s : Chip) (n : Nat) : Option Sheaf :=
  let base : Sheaf :=
    { seq := s.rd .periodIndex_index % 65536, precharge := s.mode == .charge, member := s.sys.pair && s.on .halCfg_member
      mode := s.rd .modeStat_mode, tCtl := s.rd .periodCfg_tCtl, lead := s.rd .periodCfg_lead }
  if !s.laneReady n || !s.sendsSheaves then none
  else match s.cellOfLane n with
    | none => if s.flaggedSheaves then some { base with blockReq := true } else none
    | some nn =>
      if s.rd .cellStat_state nn = 2 then some (s.bypassedSheaf nn base)
      else if s.flaggedSheaves then some { base with blockReq := true }
      else if s.rd .cellStat_state nn = 3 then none
      else some { base with stamps := (s.stampsOf nn).take 52, isRepeat := s.edges.repeats.contains nn }

/-- A sheaf goes onto lane `n` with its mark (R136, R167, R173). -/
def Chip.sendFrame (s : Chip) (n : Nat) (f : Sheaf) : Chip :=
  let d := s.draw
  let x := d.2.nextTx n
  x.2.layFrame n f ⟨x.1, x.2.sheafLeaves n d.1, List.replicate (f.blocks false).length (x.2.laneBlock n)⟩

/-- One lane at t_S; the first sheaf with bypass = 1 starts the watch of R240. -/
def Chip.sendSheaf (s : Chip) (n : Nat) : Chip :=
  match s.sheafFor n with
  | none => s.sendIdle n
  | some f =>
    let s := s.sendFrame n f
    match s.cellOfLane n with
    | some nn =>
      if f.bypass && (s.cell nn).bypassAge.isNone then s.setCell nn { s.cell nn with bypassAge := some 0 } else s
    | none => s

/-- An edge engine that has not finished at t_S (R25): one event each. -/
def Chip.edgeOverruns (s : Chip) : Chip :=
  let l := s.edges.unfinished
  let s := s.each l fun s _ => (s.wr .periodStat_edgeOverrun 1).raise originOverrun
  { s with edges := { s.edges with unfinished := [] } }

/-- SHEAF_TRANSMISSION_START (R20, R25, R450, R460, R465): every READY lane sends its sheaf, the copy window opens, a probing
standby examines its bales. `overrun` tells that the copy of the period before did not complete in its window. -/
def Chip.sheavesStart (s : Chip) (overrun : Bool) : Chip :=
  let s := s.edgeOverruns
  let s := { s with clock := { s.clock with windowOpen := true } }
  let s := s.each cellLanes fun s n => s.sendSheaf n
  let s := s.onlyIf overrun fun s => s.wr .periodStat_halyardOverrun 1
  s.sendMarks.sendCopy.probe

/-- SHEAF_WINDOW_CLOSE (R19, R39, R136): `incomplete` tells that some sheaf is not complete; the lanes go on with IDLE blocks. -/
def Chip.sheavesClose (s : Chip) (incomplete : Bool) : Chip :=
  let s := { s with clock := { s.clock with windowOpen := false } }
  let s := s.each cellLanes fun s n => s.setLane n { s.lane n with frame := none, sent := [] }
  s.onlyIf incomplete fun s => s.wr .periodStat_sheafLate 1

/-! ## The inter-die bridge -/

/-- A valid frame reaches the Mast die (R14, R414, R425): the link is up, and the event field and the mirrored words are taken. -/
def Chip.frameToMast (s : Chip) : Chip :=
  let waiting := s.faults.idbEvents
  let s := { s.wr .idbStat_linkUp 1 with
    spr := { s.spr with mastHeard := s.clock.now }
    faults := { s.faults with events := s.faults.events ++ waiting, idbEvents := [] } }
  s.deliverMirrors.sprToMast

/-- A valid frame reaches the Shroud (R431, R432): it hears the Mast die, latches a reaction that waited for the
frame, and takes the consent. -/
def Chip.frameToShroud (s : Chip) : Chip :=
  let c := s.spr.reaction
  let s := { s with spr := { s.spr with idbUp := true, shroudHeard := s.clock.now, reaction := .none } }
  let s := s.onlyIf (c != .none) fun s => s.shroudLatch c
  (s.wrFlag .shroudStat_mastConsent s.mastConsents).shroudUnblock

/-- IDB_FRAME_RX (R14, R432): a frame that fails its CRC or arrives out of sequence is sent again and counted, and withdraws the
consent that it carries. -/
def Chip.idbFrame (s : Chip) (toShroud good : Bool) : Chip :=
  if good then (if toShroud then s.frameToShroud else s.frameToMast)
  else
    let s := s.count .idbStat_retries
    if toShroud then (s.wr .shroudStat_mastConsent 0).shroudRefresh else s

/-- SHROUD_IDB_SILENCE (R18, R416, R431): 20 µs without a valid frame. -/
def Chip.shroudSilence (s : Chip) : Chip :=
  if s.spr.idbUp && decide (s.spr.shroudHeard + 20000 ≤ s.clock.now) then
    let s := { s with spr := { s.spr with idbUp := false } }
    ((s.shroudLatch .severe).wr .fcStat_aliveBFrozen 1).raiseRigging originIdbSilence
  else s

/-- MAST_IDB_SILENCE (R404): 20 µs without a valid frame at the Mast die's receiver. -/
def Chip.mastSilence (s : Chip) : Chip :=
  if s.on .idbStat_linkUp && decide (s.spr.mastHeard + 20000 ≤ s.clock.now) then
    (s.wr .idbStat_linkUp 0).raise originIdbSilence
  else s

/-! ## The scrub -/

/-- The number of 128-bit words of the SRAM. -/
def sramWords : Nat := 2097152

/-- Bits of a 128-bit word's code flip (R35): a bit that flips twice is right again. -/
def Chip.sramUpset (s : Chip) (word : Nat) (flips : List Nat) : Chip :=
  let old := storeGet s.sram.upsets word []
  let new := old.filter (fun b => !flips.contains b) ++ (flips.filter fun b => !old.contains b)
  { s with sram := { s.sram with upsets := storePut s.sram.upsets word [] new } }

/-- The scrub reads the word it stands at, corrects it and writes it back (R35, R36, R38), and goes on to the next; a pass ends with
the last word. -/
def Chip.scrubWord (s : Chip) : Chip :=
  let w := s.sram.scrubAt
  let s := (s.sramAccess w).onlyIf (s.sramIntact w) fun s => s.sramHeal w
  if w + 1 = sramWords then
    { s.wr .sramScrubStat_passes ((s.rd .sramScrubStat_passes + 1) % 2 ^ 24) with sram := { s.sram with scrubAt := 0 } }
  else { s with sram := { s.sram with scrubAt := w + 1 } }

/-- SRAM_SCRUB_STEP (R36): what has befallen SRAM words since the step before, by word number and bit, and how many words the scrub
reads. -/
def Chip.scrubStep (s : Chip) (upsets : List (Nat × List Nat)) (words : Nat) : Chip :=
  let s := s.each upsets fun s u => s.sramUpset u.1 u.2
  if s.on .sramScrubStat_enabled then s.each (List.range words) fun s _ => s.scrubWord else s

end Sys2Proof.Machine
end

