-- ==== Sys2Proof/Machine/Bus.lean ====
section
/-! DEFINITION. The register bus: what a read returns and does, and what a write does, at every address (R5 to R9, R15, R16, R34
to R38). -/

namespace Sys2Proof.Machine

/-! ## Fields that report a present state -/

/-- Lane `n` sends BLOCK (R143, R452): in the headers of a lane that sends at all. -/
def Chip.txBlock (s : Chip) (n : Nat) : Bool :=
  s.rd .laneStat_state n != LinkState.disabled.code && !s.modes.porstLow && s.lanesRun && s.laneBlock n

/-- A valid pulse on SPR_RST fell within the last 10 s. -/
def Chip.fellRecently (s : Chip) (fall : Option Nat) : Bool :=
  match fall with
  | some t => decide (s.clock.now ≤ t + 10000000000)
  | none => false

/-- The tenths of a second left of the acknowledge window, and the seconds left of an open challenge. -/
def Chip.windowLeft (s : Chip) : Nat :=
  if s.on .delibStat_windowOpen then (s.modes.windowFall + 10000000000 - s.clock.now + 99999999) / 100000000 else 0
def Chip.challengeLeft (s : Chip) : Nat :=
  if s.on .dbgStat_challengeOpen then (s.security.challengeAt + 60000000000 - s.clock.now + 999999999) / 1000000000 else 0

/-- Days until the copy `next_copy` names is due (R574). -/
def Chip.refreshDaysLeft (s : Chip) : Nat :=
  let c := s.rd .nvScrub_nextCopy
  if s.refreshDue c then 0 else (30 * dayNs - s.refreshAge c + dayNs - 1) / dayNs

/-- A field as a read shows it: the fields that follow another state of the block are formed from it. -/
def Chip.viewField (s : Chip) (f : Fld) (i : Nat) : Nat :=
  match f with
  | .tbCountLo_count => s.clock.tb
  | .tbCountHi_count => s.clock.tb / 2 ^ 32
  | .ptpTimeLo_time => s.ptpNow % 1000000000
  | .ptpTimeHi_time => s.ptpNow / 1000000000
  | .laneStat_txBlock => flag (s.txBlock i)
  | .gdStat_on => flag (s.gdOn i)
  | .gdStat_disabled => s.rd .shroudStat_drvDisable
  | .gdStat_cut => flag (s.gdCut i)
  | .lpStat_atSafe => ((List.range 32).map fun c => 2 ^ c * flag (s.lpAtSafe c)).foldl (· + ·) 0
  | .delibStat_windowLeft => s.windowLeft
  | .dbgStat_windowLeft => s.challengeLeft
  | .sprStat_rstSeen => flag (s.fellRecently s.spr.pairFall)
  | .shroudStat_rstOk => flag (s.fellRecently s.spr.shroudFall)
  | .halStat_sending => flag s.sendsSheaves
  | .halStat_lanesReady => flag (s.laneReady 96) + 2 * flag (s.laneReady 97)
  | .grPower_base => min s.powerBase 65535
  | .nvScrub_daysLeft => s.refreshDaysLeft
  | .pubStat_svPublishing => s.svPublishing
  | .pubStat_goPublishing => s.goPublishing
  | .sltStat_readbackOff => flag (s.on .adcStat_noRotation || !s.on .sltCfg_enabled)
  | .sltStat_uncovered => flag (s.on .sltStat_uncovered || s.on .adcStat_noRotation)
  | _ => s.rd f i

/-- A field as a read of its register returns it (R5). -/
def Chip.readField (s : Chip) (f : Fld) (i : Nat) : Nat :=
  if f.spec.access = .wo then 0 else s.viewField f i % 2 ^ f.spec.width

/-- A register as a read returns it. -/
def Chip.readWord (s : Chip) (r : Reg) (i : Nat) : Nat :=
  r.spec.fields.foldl (fun a f => a + s.readField f i * 2 ^ f.spec.lo) 0

/-! ## Reads -/

/-- The high half of a 64-bit register with a shadow, by its low half (R5, R6, R365 to R368). -/
def highHalfOf : Reg → Option Fld
  | .tbCountLo => some .tbCountHi_count
  | .tbBoundaryLo => some .tbBoundaryHi_time
  | .mptDeltaLo => some .mptDeltaHi_energy
  | .mptTotalLo => some .mptTotalHi_energy
  | .mptNetLo => some .mptNetHi_energy
  | .ptpTimeLo => some .ptpTimeHi_time
  | _ => none

/-- The high half that a register is, and its STALE flag for instance `i` (R6, R368). -/
def Chip.setStale (s : Chip) (f : Fld) (i : Nat) : Chip :=
  match f with
  | .tbCountHi_count => s.wr .tbStat_countStale 1
  | .tbBoundaryHi_time => s.wr .tbStat_boundaryStale 1
  | .mptDeltaHi_energy => s.wrBit .mptStaleA_stale (i % 28) true (i / 28)
  | .mptTotalHi_energy => s.wrBit .mptStaleB_stale (i % 28) true (i / 28)
  | .mptNetHi_energy => s.wrBit .mptStaleA_net (i % 4) true (i / 4)
  | .ptpTimeHi_time => s.wr .ptpStat_timeStale 1
  | _ => s

/-- The high half of a pair of 32-bit registers that R6 reads by way of a shadow, by the field of its shadow. ID_SERIAL_LO and ID_SERIAL_HI hold
eight fused bytes, with no STALE flag in any map, and are read plainly (DESIGN CHOICE, log entry 107). -/
def isHighHalf : Reg → Option Fld
  | .tbCountHi => some .tbCountHi_count
  | .tbBoundaryHi => some .tbBoundaryHi_time
  | .mptDeltaHi => some .mptDeltaHi_energy
  | .mptTotalHi => some .mptTotalHi_energy
  | .mptNetHi => some .mptNetHi_energy
  | .ptpTimeHi => some .ptpTimeHi_time
  | _ => none

/-- The shadow of a high half. -/
def Chip.shadow (s : Chip) (f : Fld) (i : Nat) : Shadow := storeGet s.bus.shadows (f.key i) {}
def Chip.setShadow (s : Chip) (f : Fld) (i : Nat) (x : Shadow) : Chip :=
  { s with bus := { s.bus with shadows := storePut s.bus.shadows (f.key i) {} x } }

/-- The RC fields of a register clear as it is read (R5). -/
def Chip.clearOnRead (s : Chip) (r : Reg) (i : Nat) : Chip :=
  s.each (r.spec.fields.filter fun f => f.spec.access == .rc) fun s f => s.wr f 0 i

/-- A read of the low half of a 64-bit register: the high half goes into its shadow; an RS register resets (R5, R365). -/
def Chip.readLow (s : Chip) (r : Reg) (hi : Fld) (i : Nat) : Nat × Chip :=
  let v := s.readWord r i
  let s := s.setShadow hi i ⟨s.readField hi i, true⟩
  (v, if r = .mptDeltaLo then s.wr64 .mptDeltaLo_energy .mptDeltaHi_energy 0 i else s)

/-- A read of a high half: the shadow, and the STALE flag unless its own low half was read since the last such read (R6). -/
def Chip.readHigh (s : Chip) (f : Fld) (i : Nat) : Nat × Chip :=
  let x := s.shadow f i
  let s := if x.lowRead then s.setShadow f i { x with lowRead := false } else s.setStale f i
  (x.value, s)

/-- A read of a register (R5, R6). -/
def Chip.readReg (s : Chip) (r : Reg) (i : Nat) : Nat × Chip :=
  match highHalfOf r, isHighHalf r with
  | some hi, _ => s.readLow r hi i
  | none, some f => s.readHigh f i
  | none, none => (s.readWord r i, s.clearOnRead r i)

/-- A word of SRAM read: an error is corrected and counted, or reported with the value left open (R35, R38). -/
def Chip.readSram (s : Chip) (a : Nat) : Nat × Chip :=
  (s.sramWord (a / 4 * 4), s.sramAccess (sramWordOf a))

/-- An address on the Rigging die (R9, R15). -/
def onRigging (a : Nat) : Bool := decide (0x50000000 ≤ a)

/-- An access to the Rigging die that goes unanswered (R16). -/
def Chip.lostAccess (s : Chip) : Chip := s.count .idbStat_lostAccesses

/-- A read of the word at address `a` (R5 to R8, R15, R16): addresses that nothing occupies read as 0. -/
def Chip.busRead (s : Chip) (a : Nat) : Nat × Chip :=
  if sramBase ≤ a ∧ a < sramEnd then s.readSram a
  else if onRigging a && !s.on .idbStat_linkUp then (0xFFFFFFFF, s.lostAccess)
  else match findReg Reg.all a with
    | some (r, i) => s.readReg r i
    | none => (0, s)

/-- A read command: the word returned stands in `lastRead`. -/
def Chip.readAt (s : Chip) (a : Nat) : Chip :=
  let r := s.busRead a
  { r.2 with bus := { r.2.bus with lastRead := BitVec.ofNat 32 r.1 } }

/-! ## Writes -/

/-- RW and W1C fields as a write leaves them (R5); reserved and read-only bits of the value are ignored (R7). -/
def Chip.writeFields (s : Chip) (r : Reg) (i v : Nat) : Chip :=
  s.each r.spec.fields fun s f =>
    let x := bits v f.spec.lo f.spec.width
    match f.spec.access with
    | .rw => s.wr f x i
    | .w1c => s.wr f (s.rd f i - (s.rd f i &&& x)) i
    | _ => s

/-- Writing 1 to restart of BUDGET_MARGIN (R39). -/
def Chip.restartMargin (s : Chip) : Chip := (s.wr .budgetMargin_minMargin 65535).wr .budgetMargin_worstCe 0

/-- Writing 1 to commit of EE_COMMIT (R205): the supervisor's way in COMMISSION, so that `writeReg` commits in no other mode (DESIGN CHOICE,
log entry 710). -/
def Chip.commitNow (s : Chip) : Chip := s.commitSet (if s.inPeriod then s.phaseNs else 0)

/-- LANE_CTRL (R161 to R163): its three requests, in the order of their bits. -/
def Chip.laneControl (s : Chip) (n v : Nat) : Chip :=
  let s := s.onlyIf (bitAt v 0) fun s => s.laneReset n
  let s := s.onlyIf (bitAt v 1) fun s => s.eyeScanRequest n
  s.onlyIf (bitAt v 2) fun s => s.readaptRequest n

/-- A write to a live word (R98, R463, R509): refused and counted in SHADOW, and otherwise judged by R98. -/
def Chip.writeLive (s : Chip) (i v : Nat) : Chip :=
  if s.mode = .shadow then s.count .halCount_liveRefused else s.liveWrite i v

/-- A write of `v` to a register (R5, and the maps): `edges` tells whether the reference of a plan that the write hops to shows
edges (R112). -/
def Chip.writeReg (s : Chip) (r : Reg) (i v : Nat) (edges : Bool) : Chip :=
  match r with
  | .modeReq => s.modeRequest (bits v 0 4)
  | .budgetMargin => s.onlyIf (bitAt v 31) Chip.restartMargin
  | .liveWord => s.writeLive i v
  | .pllPlanReq => s.hopRequest (bits v 0 3) edges
  | .laneCtrl => s.laneControl i v
  | .eeCommit => s.onlyIf (bitAt v 0 && s.mode == .commission) Chip.commitNow
  | .wcLatch => (s.writeFields r i v).showConverter
  | .fcKick => s.kick (bits v 0 8)
  | .poArmNs => (s.writeFields r i v).poArm i (bits v 0 30)
  | _ => s.writeFields r i v

/-- The part of the SRAM that is read-only (R203). -/
def sramReadOnly (a : Nat) : Bool := decide (0x10510000 ≤ a) && decide (a < 0x10511880)

/-- A word of SRAM written (R34, R37, R203): a merge into an uncorrectable word is aborted and reported. -/
def Chip.writeSram (s : Chip) (a v : Nat) : Chip :=
  if sramReadOnly a then s else s.sramPutWord (a / 4 * 4) v

/-- A write of the word at address `a` (R5 to R8, R15, R16). -/
def Chip.busWrite (s : Chip) (a v : Nat) (edges : Bool) : Chip :=
  if sramBase ≤ a ∧ a < sramEnd then s.writeSram a v
  else if onRigging a && !s.on .idbStat_linkUp then s.lostAccess
  else match findReg Reg.all a with
    | some (r, i) => s.writeReg r i v edges
    | none => s

/-- An access to the Rigging die that it answers within its 2 µs (R15): a write, or a read. -/
def Chip.riggingAccess (s : Chip) (a : Nat) (write : Option Nat) : Chip :=
  match write with
  | some v => s.busWrite a v false
  | none => s.readAt a

/-- An access that has found no answer when its 2 µs end (R16): a write has no effect, a read returns all ones. -/
def Chip.riggingTimeout (s : Chip) (write : Bool) : Chip :=
  let s := s.lostAccess
  if write then s else { s with bus := { s.bus with lastRead := 0xFFFFFFFF } }

end Sys2Proof.Machine
end

