-- ==== Sys2Proof/Machine/Station.lean ====
section
/-! DEFINITION. Station access (R505 to R511), with the storage operations (R587) and attestation (R601). -/

namespace Sys2Proof.Machine

/-- One operation of a request (R506). -/
structure StationOp where
  code : Nat
  count : Nat := 0
  address : Nat := 0
  value : Nat := 0
  deriving DecidableEq, Repr

/-- What an operation answers: its status and its words (R511). -/
structure StationReply where
  status : Nat
  words : List Nat := []
  deriving DecidableEq, Repr

/-- A reply as the response carries it (R511): the status byte, three reserved bytes, and the words. -/
def StationReply.bytes (r : StationReply) : List Byte := leBytes 1 r.status ++ leBytes 3 0 ++ (r.words.map (leBytes 4)).flatten

/-- The role bit that an operation code needs: 0 read, 1 write, 2 acknowledge (R508, R587, R601); none for an unknown code. -/
def opRole : Nat → Option Nat
  | 1 | 17 | 18 | 19 | 20 | 21 | 24 => some 0
  | 2 | 16 => some 1
  | 3 => some 2
  | _ => none

/-! ## READ and WRITE -/

/-- An address that READ may name (R509, R608). -/
def readable (a : Nat) : Bool :=
  (decide (0x40000000 ≤ a) && decide (a ≤ 0x4A00FFFF)) || onRigging a || (decide (0x10400000 ≤ a) && decide (a ≤ 0x10FFFFFF)) ||
    (decide (0x4B000000 ≤ a) && decide (a < 0x4C000000) && (findReg Reg.all a).isSome)

/-- The words of a READ, in ascending address order, in one sequence (R508). -/
def Chip.readWords (s : Chip) : Nat → Nat → List Nat × Chip
  | _, 0 => ([], s)
  | a, n + 1 =>
    let r := s.busRead a
    let q := r.2.readWords (a + 4) n
    (r.1 :: q.1, q.2)

/-- READ (R508, R509). -/
def Chip.opRead (s : Chip) (a n : Nat) : StationReply × Chip :=
  if (List.range n).all fun k => readable (a + 4 * k) then
    let r := s.readWords a n
    (⟨0, r.1⟩, r.2)
  else (⟨1, []⟩, s)

/-- A register that WRITE may name besides the live words (R509): the listed ones, and every register with a W1C field. -/
def writable (r : Reg) : Bool :=
  match r with
  | .modeReq | .laneCtrl | .pllPlanReq | .budgetMargin | .poArmSec | .poArmNs => true
  | _ => r.spec.fields.any fun f => f.spec.access == .w1c

/-- WRITE to a live word (R98, R463, R509, R511): refused in SHADOW with status 4, and otherwise judged by R98. -/
def Chip.opWriteLive (s : Chip) (i v : Nat) : StationReply × Chip :=
  (⟨if s.mode = .shadow then 4 else if s.liveRefusal i v = 0 then 0 else 3, []⟩, s.writeLive i v)

/-- WRITE (R509). -/
def Chip.opWrite (s : Chip) (a v : Nat) (edges : Bool) : StationReply × Chip :=
  match findReg Reg.all a with
  | some (.liveWord, i) => s.opWriteLive i v
  | some (r, _) => if writable r then (⟨0, []⟩, s.busWrite a v edges) else (⟨1, []⟩, s)
  | none => (⟨1, []⟩, s)

/-- ACK (R67, R69, R511). -/
def Chip.opAck (s : Chip) : StationReply × Chip := (⟨if s.ackRefusal true = 0 then 0 else 5, []⟩, s.ack true)

/-! ## Storage operations -/

/-- A word of a file from byte `o`: bytes past its end are 0xFF, so that a word beyond it reads 0xFFFF_FFFF (R587). -/
def fileWord (b : List Byte) (o : Nat) : Nat :=
  leNat ((List.range 4).map fun k => (b[o + k]?).getD 0xFF)

/-- `n` words of a file from byte offset `o` (R587). -/
def fileWords (b : List Byte) (o n : Nat) : List Nat := (List.range n).map fun k => fileWord b (o + 4 * k)

/-- `n` of the words of a list, 0xFFFF_FFFF past its end (R587). -/
def listWords (l : List Nat) (n : Nat) : List Nat := (List.range n).map fun k => l.getD k 0xFFFFFFFF

/-- The .cfg file of a record (R586). -/
def Chip.cfgFile (s : Chip) (r : StoredRecord) : List Byte :=
  Config.cfgFile s.storage.station s.storage.channelTable r.timeValid r.first r.trig

/-- TRIGGER (R584, R587): a trigger by the station. -/
def Chip.opTrigger (s : Chip) : StationReply × Chip := (⟨0, []⟩, s.trigger .station)

/-- REC_LIST (R587): five words for each record from the first id on. -/
def Chip.opRecList (s : Chip) (first n : Nat) : StationReply × Chip :=
  let l := (s.storage.records.filter fun r => decide (first ≤ r.id)).flatMap fun r =>
    [r.id, r.trig % 2 ^ 32, r.trig / 2 ^ 32 % 2 ^ 32, (s.cfgFile r).length, r.dat.length]
  (⟨0, listWords l n⟩, s)

/-- REC_READ (R586, R587): the words of a record whose pages do not read are free values (log entry 2004). -/
def Chip.opRecRead (s : Chip) (id n value : Nat) : StationReply × Chip :=
  match s.storage.records.find? fun r => r.id == id with
  | some r =>
    if r.readable then (⟨0, fileWords (if bitAt value 31 then r.dat else s.cfgFile r) (bits value 0 31) n⟩, s)
    else
      let d := s.draw
      (⟨0, fileWords ((List.range (4 * n)).map fun i => Config.freeByte d.1 i) 0 n⟩, d.2)
  | none => (⟨0, fileWords [] 0 n⟩, s)

/-- LEDGER_READ (R579, R587). -/
def Chip.opLedgerRead (s : Chip) (seq n offset : Nat) : StationReply × Chip :=
  let b := match s.ledgerEntries.find? fun e => e.seq == seq with
    | some e => e.bytes
    | none => []
  (⟨0, fileWords b offset n⟩, s)

/-- LEDGER_NEWEST (R587). -/
def Chip.opLedgerNewest (s : Chip) (kind n : Nat) : StationReply × Chip :=
  (⟨0, listWords [match s.newestEntry kind with | some e => e.seq | none => 0] n⟩, s)

/-- LOG_READ (R419, R587). -/
def Chip.opLogRead (s : Chip) (index n offset : Nat) : StationReply × Chip :=
  let b := match s.faults.log[index]? with
    | some e => Config.logBytes e.source e.cls e.merged e.ptp e.ms
    | none => []
  (⟨0, fileWords b offset n⟩, s)

/-- ATTEST (R551, R601): the 56 words of the statement; none where the identity key cannot sign. -/
def Chip.opAttest (s : Chip) (address value : Nat) : StationReply × Chip :=
  let r := s.attest (leBytes 4 address ++ leBytes 4 value)
  if r.1.isEmpty then (⟨1, []⟩, r.2) else (⟨0, fileWords r.1 0 56⟩, r.2)

/-! ## One operation -/

/-- The words an operation returns, which count toward the limit of a request (R508, R587, R601). -/
def StationOp.words (o : StationOp) : Nat :=
  match o.code with
  | 1 | 17 | 18 | 19 | 20 | 21 => o.count
  | 24 => 56
  | _ => 0

/-- The count of a reading operation lies in its range (R508, R587). -/
def StationOp.countOk (o : StationOp) : Bool :=
  match o.code with
  | 1 | 17 | 18 | 19 | 20 | 21 => decide (1 ≤ o.count) && decide (o.count ≤ 64)
  | _ => true

/-- The effect of an operation whose role is held. -/
def Chip.opEffect (s : Chip) (o : StationOp) (edges : Bool) : StationReply × Chip :=
  match o.code with
  | 1 => s.opRead o.address o.count
  | 2 => s.opWrite o.address o.value edges
  | 3 => s.opAck
  | 16 => s.opTrigger
  | 17 => s.opRecList o.address o.count
  | 18 => s.opRecRead o.address o.count o.value
  | 19 => s.opLedgerRead o.address o.count o.value
  | 20 => s.opLedgerNewest o.address o.count
  | 21 => s.opLogRead o.address o.count o.value
  | 24 => s.opAttest o.address o.value
  | _ => (⟨6, []⟩, s)

/-- One operation under a key's role, with `left` words of the request still to be given (R508, R511). -/
def Chip.runOp (s : Chip) (role left : Nat) (o : StationOp) (edges : Bool) : StationReply × Chip :=
  match opRole o.code with
  | none => (⟨6, []⟩, s)
  | some b =>
    if !bitAt role b then (⟨2, []⟩, s)
    else if !o.countOk || decide (left < o.words) then (⟨1, []⟩, s)
    else s.opEffect o edges

/-- Operations in their order (R508, R510): the bytes of their replies. -/
def Chip.runOps (s : Chip) (role left : Nat) (edges : Bool) : List StationOp → List Byte × Chip
  | [] => ([], s)
  | o :: l =>
    let r := s.runOp role left o edges
    let q := r.2.runOps role (left - r.1.words.length) edges l
    (r.1.bytes ++ q.1, q.2)

/-- An operation given as a command of its own, under station key `key`: its reply stands in the block's answer. -/
def Chip.singleOp (s : Chip) (key : Nat) (o : StationOp) (edges : Bool) : Chip :=
  let r := s.runOp ((s.net.keys.getD key {}).role) 256 o edges
  { r.2 with bus := { r.2.bus with reply := r.1.bytes } }

/-! ## Requests -/

/-- The operations of a request (R506). -/
def requestOps (b : List Byte) : List StationOp :=
  (List.range (byteAt b 3)).map fun k =>
    let o := 0x10 + 12 * k
    { code := byteAt b o, count := leAt b (o + 2) 2, address := leAt b (o + 4) 4, value := leAt b (o + 8) 4 }

/-- The key a request names. -/
def requestKey (b : List Byte) : Nat := byteAt b 2

/-- Check 1 of R507: length, version and key. -/
def Chip.requestFormed (s : Chip) (b : List Byte) : Bool :=
  let n := byteAt b 3
  decide (1 ≤ n) && decide (n ≤ 32) && b.length == 0x10 + 12 * n + 96 && leAt b 0 2 == 1 && decide (requestKey b < s.net.keys.length)

/-- Check 2 of R507. -/
def Chip.requestForUs (s : Chip) (b : List Byte) : Bool := (b.drop 12).take 4 == s.identityDigest.take 4

/-- A request is discarded whole (R507, R607): `status` as last_status codes it; the failure of check 1, 2 or 3 (status 6, 2 or 1)
raises one event. -/
def Chip.discardRequest (s : Chip) (b : List Byte) (status : Nat) : Chip :=
  let s := ((s.wr .saStat_lastStatus status).wr .saStat_lastKey (requestKey b)).count .saStat_refused
  s.onlyIf (status == 6 || status == 2 || status == 1) fun s => s.raise originSecurity

/-- A datagram is for the station access protocol (R505): it came by the pair of sa_pair, for the device's address and sa_port; all
other IP traffic is discarded. -/
def Chip.forStation (s : Chip) (p : Nat) (d : UdpRx) : Bool :=
  p / 2 == s.rd .netCfg_saPair && d.target.ip.toNat == s.net.ip && d.target.port == s.rd .netCfg_saPort

/-- STATION_REQUEST_RX (R505, R507, R510): the first two checks, and the request for leave to check the signature. -/
def Chip.stationRequest (s : Chip) (p : Nat) (d : UdpRx) : Chip :=
  let b := d.payload
  if s.forStation p d = false ∨ s.applied = false then s
  else if !s.requestFormed b then s.discardRequest b 6
  else if !s.requestForUs b then s.discardRequest b 2
  else
    let id := s.net.nextRequest
    let s := { s with net := { s.net with nextRequest := id + 1, requests := s.net.requests ++ [(⟨id, b, s.clock.now, p, d.source⟩ : StationRequest)] } }
    s.askLeave (.stationCheck id)

/-- A request under check by its number. -/
def Chip.requestOf (s : Chip) (id : Nat) : Option StationRequest := s.net.requests.find? fun r => r.id == id

/-- A request leaves the list; with `dropStation` its leave is returned as well. -/
def Chip.takeStation (s : Chip) (id : Nat) : Chip :=
  { s with net := { s.net with requests := s.net.requests.filter fun r => r.id != id } }
def Chip.dropStation (s : Chip) (id : Nat) : Chip :=
  ((s.takeStation id).returnLeave (.stationCheck id)).dropRequest (.stationCheck id)

/-- The requests accepted in the last second. -/
def Chip.acceptedLately (s : Chip) : List Nat := s.net.acceptedAt.filter fun t => decide (s.clock.now < t + 1000000000)

/-- A request's signature verifies under its station key (R506, R507). -/
def Chip.requestSigned (s : Chip) (b : List Byte) : Bool :=
  signatureVerifies (s.net.keys.getD (requestKey b) {}).publicKey (b.take (b.length - 96)) (b.drop (b.length - 96))

/-- Checks 3 to 6 of R507: the status of the first that fails, 0 where all pass. -/
def Chip.requestRefusal (s : Chip) (b : List Byte) : Nat :=
  let key := requestKey b
  let last := storeGet s.net.lastSeq key none
  if s.on .secStat_retired || !s.requestSigned b then 1
  else if (match last with | some x => decide (leAt b 4 4 ≤ x) | none => false) then 3
  else if leAt b 8 4 != s.rd .saStart_start && !(requestOps b).all (fun o => opRole o.code == some 0) then 7
  else if 64 ≤ s.acceptedLately.length then 5
  else 0

/-- A request whose checks pass (R507, R510, R511): its operations run, and one signed response is sent. -/
def Chip.acceptRequest (s : Chip) (q : StationRequest) (edges : Bool) : Chip :=
  let b := q.bytes
  let key := requestKey b
  let s := { s with net := { s.net with lastSeq := storePut s.net.lastSeq key none (some (leAt b 4 4))
                                        acceptedAt := s.acceptedLately ++ [s.clock.now] } }
  let r := s.runOps ((s.net.keys.getD key {}).role) 256 edges (requestOps b)
  let s := { r.2 with bus := { r.2.bus with reply := b.take 16 ++ r.1 } }
  if s.canSign then
    let d := s.draw
    d.2.answerBy q.port (.response q.source (d.2.nextHop q.source.ip.toNat)
      (b.take 16 ++ r.1 ++ (List.range 96).map fun i => Config.freeByte d.1 i))
  else s

/-- STATION_CHECK_COMPLETE (R69, R507, R510): the checks of a request that holds leave end. The response is signed under the leave, which
is returned then. An acknowledge in a request that does not authenticate is refused as such. -/
def Chip.stationCheck (s : Chip) (id : Nat) (edges : Bool) : Chip :=
  match s.requestOf id with
  | none => s
  | some q =>
    if !s.holdsLeave (.stationCheck id) then s
    else
      let r := s.requestRefusal q.bytes
      if r = 0 then ((s.takeStation id).acceptRequest q edges).dropStation id
      else
        let s := (s.dropStation id).discardRequest q.bytes r
        let s := s.onlyIf (r == 1) fun s => s.count .secStat_sigFails
        s.onlyIf (r == 1 && (requestOps q.bytes).any fun o => o.code == 3) fun s => s.ack false

/-- STATION_LEAVE_TIMEOUT (R507, R510): a check that still waits for leave after 100 ms fails check 6. -/
def Chip.stationTimeout (s : Chip) (id : Nat) : Chip :=
  match s.requestOf id with
  | none => s
  | some q =>
    if s.waitsLeave (.stationCheck id) && decide (q.arrived + 100000000 ≤ s.clock.now) then
      (s.dropStation id).discardRequest q.bytes 5
    else s

end Sys2Proof.Machine
end

