-- ==== Sys2Proof/Machine/BusCommands.lean ====
section
/-! DEFINITION. The meanings of the commands: accesses to the register bus and the inter-die bridge, and the scrub (R5 to R16, R36, R39, R404, R432). -/

namespace Sys2Proof.Machine

/-- REGISTER_WRITE (R5). -/
def execRegisterWrite (t : Nat) (address value : Word) (edges : Bool) (s : State) : Host.Outcome State Fault Refusal
    :=
  s.does fun c =>
    let c := c.atTime t
    c.busWrite address.toNat value.toNat edges

/-- W1C_WRITE (R5). -/
def execW1cWrite (t : Nat) (address value : Word) (s : State) : Host.Outcome State Fault Refusal :=
  s.does fun c =>
    let c := c.atTime t
    c.busWrite address.toNat value.toNat false

/-- RC_READ (R5). -/
def execRcRead (t : Nat) (address : Word) (s : State) : Host.Outcome State Fault Refusal :=
  s.does fun c =>
    let c := c.atTime t
    c.readAt address.toNat

/-- LOW_HALF_READ (R5). -/
def execLowHalfRead (t : Nat) (address : Word) (s : State) : Host.Outcome State Fault Refusal :=
  s.does fun c =>
    let c := c.atTime t
    c.readAt address.toNat

/-- HIGH_HALF_READ (R6). -/
def execHighHalfRead (t : Nat) (address : Word) (s : State) : Host.Outcome State Fault Refusal :=
  s.does fun c =>
    let c := c.atTime t
    c.readAt address.toNat

/-- RIGGING_ACCESS (R15). -/
def execRiggingAccess (t : Nat) (address : Word) (write : Option Word) (s : State) : Host.Outcome State Fault Refusal
    :=
  s.does fun c =>
    let c := c.atTime t
    c.riggingAccess address.toNat (write.map BitVec.toNat)

/-- RIGGING_ACCESS_TIMEOUT (R16). -/
def execRiggingAccessTimeout (t : Nat) (write : Bool) (s : State) : Host.Outcome State Fault Refusal :=
  s.does fun c =>
    let c := c.atTime t
    c.riggingTimeout write

/-- BUDGET_MARGIN_RESTART (R39). -/
def execBudgetMarginRestart (t : Nat) (s : State) : Host.Outcome State Fault Refusal :=
  s.does fun c =>
    let c := c.atTime t
    c.restartMargin

/-- IDB_FRAME_RX (R14). -/
def execIdbFrameRx (t : Nat) (toShroud good : Bool) (s : State) : Host.Outcome State Fault Refusal :=
  s.does fun c =>
    let c := c.atTime t
    c.idbFrame toShroud good

/-- SHROUD_IDB_SILENCE (R18). -/
def execShroudIdbSilence (t : Nat) (s : State) : Host.Outcome State Fault Refusal :=
  s.does fun c =>
    let c := c.atTime t
    c.shroudSilence

/-- MAST_IDB_SILENCE (R404). -/
def execMastIdbSilence (t : Nat) (s : State) : Host.Outcome State Fault Refusal :=
  s.does fun c =>
    let c := c.atTime t
    c.mastSilence

/-- SRAM_SCRUB_STEP (R36). -/
def execSramScrubStep (t : Nat) (upsets : List (Nat × List Nat)) (words : Nat) (s : State) : Host.Outcome State Fault Refusal :=
  s.does fun c =>
    let c := c.atTime t
    c.scrubStep upsets words

end Sys2Proof.Machine
end

