-- ==== Sys2Proof/Machine/EdgeCommands.lean ====
section
/-! DEFINITION. The meanings of the commands: the edge engines, the arms and the local power stage (R199 to R263, R380 to R400). -/

namespace Sys2Proof.Machine

/-- EE_COMMIT (R205). -/
def execEeCommit (t : Nat) (s : State) : Host.Outcome State Fault Refusal :=
  s.does fun c =>
    let c := c.atTime t
    c.commitNow

/-- TRIP_ASSERTED (R224). -/
def execTripAsserted (t : Nat) (input : Fin 16) (level : Bool) (ns : Nat) (s : State) : Host.Outcome State Fault Refusal :=
  s.does fun c =>
    let c := c.atTime t
    c.tripPin input level ns

/-- TRIP_DEASSERTED (R396). -/
def execTripDeasserted (t : Nat) (input : Fin 16) (level : Bool) (ns : Nat) (s : State) : Host.Outcome State Fault Refusal :=
  s.does fun c =>
    let c := c.atTime t
    c.tripRelease input level ns

/-- TRIP_MASK_END (R396). -/
def execTripMaskEnd (t : Nat) (input : Fin 16) (s : State) : Host.Outcome State Fault Refusal :=
  s.does fun c =>
    let c := c.atTime t
    c.tripMaskEnd input

/-- LOCAL_EDGE (R223). -/
def execLocalEdge (t : Nat) (s : State) : Host.Outcome State Fault Refusal :=
  s.does fun c =>
    let c := c.atTime t
    c.localEdge

/-- CELL_BYPASS (R241). -/
def execCellBypass (t : Nat) (cell : Fin 96) (s : State) : Host.Outcome State Fault Refusal :=
  s.does fun c =>
    let c := c.atTime t
    c.queueCellCommand .bypass cell

/-- CELL_RELEASE (R241). -/
def execCellRelease (t : Nat) (cell : Fin 96) (s : State) : Host.Outcome State Fault Refusal :=
  s.does fun c =>
    let c := c.atTime t
    c.queueCellCommand .release cell

/-- CELL_SWAP (R241). -/
def execCellSwap (t : Nat) (cell : Fin 96) (s : State) : Host.Outcome State Fault Refusal :=
  s.does fun c =>
    let c := c.atTime t
    c.queueCellCommand .swap cell

/-- BYPASS_CONFIRM_TIMEOUT (R240). -/
def execBypassConfirmTimeout (t : Nat) (cell : Fin 96) (s : State) : Host.Outcome State Fault Refusal :=
  s.does fun c =>
    let c := c.atTime t
    c.bypassTimeout cell

/-- ROTATION_ADVANCE (R248). -/
def execRotationAdvance (t : Nat) (arm : Fin 6) (s : State) : Host.Outcome State Fault Refusal :=
  s.does fun c =>
    let c := c.atTime t
    c.rotationAdvance arm

/-- SPREAD_WATCH_FIRE (R250). -/
def execSpreadWatchFire (t : Nat) (arm : Fin 6) (s : State) : Host.Outcome State Fault Refusal :=
  s.does fun c =>
    let c := c.atTime t
    c.spreadFire arm

/-- PRECHARGE_TIMEOUT (R259). -/
def execPrechargeTimeout (t : Nat) (arm : Fin 6) (s : State) : Host.Outcome State Fault Refusal :=
  s.does fun c =>
    let c := c.atTime t
    c.prechargeTimeout arm

/-- GD_STATIC_ON (R385). -/
def execGdStaticOn (t : Nat) (channel : Fin 8) (s : State) : Host.Outcome State Fault Refusal :=
  s.does fun c =>
    let c := c.atTime t
    c.gdStaticOn channel

/-- GD_STATIC_OFF (R385). -/
def execGdStaticOff (t : Nat) (channel : Fin 8) (s : State) : Host.Outcome State Fault Refusal :=
  s.does fun c =>
    let c := c.atTime t
    c.gdStaticOff channel

/-- GD_REARM (R385). -/
def execGdRearm (t : Nat) (channel : Fin 8) (mv : Int) (s : State) : Host.Outcome State Fault Refusal :=
  s.does fun c =>
    let c := c.atTime t
    c.gdRearm channel mv

/-- GD_STAMPS_LATE (R384). -/
def execGdStampsLate (t : Nat) (channel : Fin 8) (s : State) : Host.Outcome State Fault Refusal :=
  s.does fun c =>
    let c := c.atTime t
    c.stampsLate channel

/-- GD_UVLO_ENTRY (R387). -/
def execGdUvloEntry (t : Nat) (channel : Fin 8) (negative : Bool) (mv : Nat) (s : State) : Host.Outcome State Fault Refusal :=
  s.does fun c =>
    let c := c.atTime t
    c.uvloEntry channel negative mv

/-- GD_UVLO_EXIT (R387). -/
def execGdUvloExit (t : Nat) (channel : Fin 8) (drv neg ns : Nat) (s : State) : Host.Outcome State Fault Refusal :=
  s.does fun c =>
    let c := c.atTime t
    c.uvloExit channel drv neg ns

/-- GD_SHORT_DETECT (R390). -/
def execGdShortDetect (t : Nat) (channel : Fin 8) (mv : Int) (s : State) : Host.Outcome State Fault Refusal :=
  s.does fun c =>
    let c := c.atTime t
    c.gdiCrossing channel mv

/-- GD_BLANK_END (R389). -/
def execGdBlankEnd (t : Nat) (channel : Fin 8) (mv : Int) (s : State) : Host.Outcome State Fault Refusal :=
  s.does fun c =>
    let c := c.atTime t
    c.blankEnd channel mv

/-- GD_SOFT_OFF_END (R390). -/
def execGdSoftOffEnd (t : Nat) (channel : Fin 8) (s : State) : Host.Outcome State Fault Refusal :=
  s.does fun c =>
    let c := c.atTime t
    c.softOffEnd channel

/-- GD_INTERLOCK (R392). -/
def execGdInterlock (t : Nat) (channel : Fin 8) (s : State) : Host.Outcome State Fault Refusal :=
  s.does fun c =>
    let c := c.atTime t
    c.gdInterlock channel

end Sys2Proof.Machine
end

