-- ==== Sys2Proof/Machine/EngineCommands.lean ====
section
/-! DEFINITION. The meanings of the commands: the operations of the control engines (R270 to R278, R290, R292). -/

namespace Sys2Proof.Machine

/-- NOP (R274). -/
def execNop (engine : Fin 24) (w : Machine.OpWord) (s : State) : Host.Outcome State Fault Refusal :=
  s.does fun c => c.engineOp engine 0x00 w fun c => c

/-- CLR (R274). -/
def execClr (engine : Fin 24) (w : Machine.OpWord) (s : State) : Host.Outcome State Fault Refusal :=
  s.does fun c => c.engineOp engine 0x01 w fun c => c.setAcc engine w.acc 0

/-- LDA (R274). -/
def execLda (engine : Fin 24) (w : Machine.OpWord) (s : State) : Host.Outcome State Fault Refusal :=
  s.does fun c => c.engineOp engine 0x02 w fun c => c.setAcc engine w.acc (c.argA engine w * 32768)

/-- MAC (R274). -/
def execMac (engine : Fin 24) (w : Machine.OpWord) (s : State) : Host.Outcome State Fault Refusal :=
  s.does fun c => c.engineOp engine 0x03 w fun c => c.setAcc engine w.acc (c.accOf engine w + c.argA engine w * c.argB engine w)

/-- MSU (R274). -/
def execMsu (engine : Fin 24) (w : Machine.OpWord) (s : State) : Host.Outcome State Fault Refusal :=
  s.does fun c => c.engineOp engine 0x04 w fun c => c.setAcc engine w.acc (c.accOf engine w - c.argA engine w * c.argB engine w)

/-- MAC2 (R274). -/
def execMac2 (engine : Fin 24) (w : Machine.OpWord) (s : State) : Host.Outcome State Fault Refusal :=
  s.does fun c => c.engineOp engine 0x05 w fun c => c.opMac2 engine (c.addrA engine w) (c.addrB engine w) (c.addrC engine w)

/-- ASH (R274). -/
def execAsh (engine : Fin 24) (w : Machine.OpWord) (s : State) : Host.Outcome State Fault Refusal :=
  s.does fun c => c.engineOp engine 0x06 w fun c => c.opAsh engine w.acc w.n.toInt

/-- SAT (R274). -/
def execSat (engine : Fin 24) (w : Machine.OpWord) (s : State) : Host.Outcome State Fault Refusal :=
  s.does fun c => c.engineOp engine 0x07 w fun c => c.storeWord engine (c.addrC engine w) (c.accOf engine w) 32768

/-- ADDI (R274). -/
def execAddi (engine : Fin 24) (w : Machine.OpWord) (s : State) : Host.Outcome State Fault Refusal :=
  s.does fun c => c.engineOp engine 0x08 w fun c => c.setAcc engine w.acc (c.accOf engine w + (c.engine engine).integrator (c.addrA engine w) / 2)

/-- INT (R274). -/
def execInt (engine : Fin 24) (w : Machine.OpWord) (s : State) : Host.Outcome State Fault Refusal :=
  s.does fun c => c.engineOp engine 0x09 w fun c => c.opInt engine w.n.toNat (c.addrA engine w) (c.addrB engine w) (c.addrC engine w)

/-- TRK (R290). -/
def execTrk (engine : Fin 24) (w : Machine.OpWord) (s : State) : Host.Outcome State Fault Refusal :=
  s.does fun c => c.engineOp engine 0x0A w fun c => c.opTrk engine w.n.toNat (c.addrA engine w) (c.addrC engine w)

/-- MOV (R274). -/
def execMov (engine : Fin 24) (w : Machine.OpWord) (s : State) : Host.Outcome State Fault Refusal :=
  s.does fun c => c.engineOp engine 0x0B w fun c => c.storeWord engine (c.addrC engine w) (c.argA engine w) 1

/-- NEG (R274). -/
def execNeg (engine : Fin 24) (w : Machine.OpWord) (s : State) : Host.Outcome State Fault Refusal :=
  s.does fun c => c.engineOp engine 0x0C w fun c => c.storeWord engine (c.addrC engine w) (-c.argA engine w) 1

/-- ADD (R274). -/
def execAdd (engine : Fin 24) (w : Machine.OpWord) (s : State) : Host.Outcome State Fault Refusal :=
  s.does fun c => c.engineOp engine 0x0D w fun c => c.storeWord engine (c.addrC engine w) (c.argA engine w + c.argB engine w) 1

/-- SUB (R274). -/
def execSub (engine : Fin 24) (w : Machine.OpWord) (s : State) : Host.Outcome State Fault Refusal :=
  s.does fun c => c.engineOp engine 0x0E w fun c => c.storeWord engine (c.addrC engine w) (c.argA engine w - c.argB engine w) 1

/-- MUL (R274). -/
def execMul (engine : Fin 24) (w : Machine.OpWord) (s : State) : Host.Outcome State Fault Refusal :=
  s.does fun c => c.engineOp engine 0x0F w fun c => c.storeWord engine (c.addrC engine w) (c.argA engine w * c.argB engine w) 32768

/-- MIN (R274). -/
def execMin (engine : Fin 24) (w : Machine.OpWord) (s : State) : Host.Outcome State Fault Refusal :=
  s.does fun c => c.engineOp engine 0x10 w fun c => c.storeWord engine (c.addrC engine w) (Min.min (c.argA engine w) (c.argB engine w)) 1

/-- MAX (R274). -/
def execMax (engine : Fin 24) (w : Machine.OpWord) (s : State) : Host.Outcome State Fault Refusal :=
  s.does fun c => c.engineOp engine 0x11 w fun c => c.storeWord engine (c.addrC engine w) (Max.max (c.argA engine w) (c.argB engine w)) 1

/-- LIM (R274). -/
def execLim (engine : Fin 24) (w : Machine.OpWord) (s : State) : Host.Outcome State Fault Refusal :=
  s.does fun c => c.engineOp engine 0x12 w fun c => c.opLim engine (c.addrA engine w) (c.addrB engine w) (c.addrC engine w)

/-- TAB (R278). -/
def execTab (engine : Fin 24) (w : Machine.OpWord) (s : State) : Host.Outcome State Fault Refusal :=
  s.does fun c => c.engineOp engine 0x13 w fun c => c.opTab engine w.n.toNat (c.addrA engine w) (c.addrB engine w) (c.addrC engine w)

/-- SIN (R278). -/
def execSin (engine : Fin 24) (w : Machine.OpWord) (s : State) : Host.Outcome State Fault Refusal :=
  s.does fun c => c.engineOp engine 0x14 w fun c => c.opSin engine (c.addrA engine w) (c.addrC engine w)

/-- CLK (R278). -/
def execClk (engine : Fin 24) (w : Machine.OpWord) (s : State) : Host.Outcome State Fault Refusal :=
  s.does fun c => c.engineOp engine 0x15 w fun c => c.opClk engine (c.addrA engine w) (c.addrC engine w)

/-- ICK (R278). -/
def execIck (engine : Fin 24) (w : Machine.OpWord) (s : State) : Host.Outcome State Fault Refusal :=
  s.does fun c => c.engineOp engine 0x16 w fun c => c.opIck engine (c.addrA engine w) (c.addrC engine w)

/-- PRK (R278). -/
def execPrk (engine : Fin 24) (w : Machine.OpWord) (s : State) : Host.Outcome State Fault Refusal :=
  s.does fun c => c.engineOp engine 0x17 w fun c => c.opRotate engine (c.addrA engine w) (c.addrB engine w) (c.addrC engine w) 1

/-- IPK (R278). -/
def execIpk (engine : Fin 24) (w : Machine.OpWord) (s : State) : Host.Outcome State Fault Refusal :=
  s.does fun c => c.engineOp engine 0x18 w fun c => c.opRotate engine (c.addrA engine w) (c.addrB engine w) (c.addrC engine w) (-1)

/-- IN (R279). -/
def execInSlot (engine : Fin 24) (w : Machine.OpWord) (s : State) : Host.Outcome State Fault Refusal :=
  s.does fun c => c.engineOp engine 0x19 w fun c => c.opIn engine ((c.engine engine).slotNo w.xa w.a.toNat) (c.addrC engine w)

/-- OUT (R282). -/
def execOutSlot (engine : Fin 24) (w : Machine.OpWord) (s : State) : Host.Outcome State Fault Refusal :=
  s.does fun c => c.engineOp engine 0x1A w fun c => c.opOut engine ((c.engine engine).slotNo w.xc w.c.toNat) (c.addrA engine w)

/-- MSEL (R292). -/
def execMsel (engine : Fin 24) (w : Machine.OpWord) (s : State) : Host.Outcome State Fault Refusal :=
  s.does fun c => c.engineOp engine 0x1B w fun c => c.opMsel engine w.a.toNat (c.addrC engine w)

/-- SETX (R274). -/
def execSetx (engine : Fin 24) (w : Machine.OpWord) (s : State) : Host.Outcome State Fault Refusal :=
  s.does fun c => c.engineOp engine 0x1C w fun c => c.setEngine engine { c.engine engine with x := w.a.toNat }

/-- ADDX (R274). -/
def execAddx (engine : Fin 24) (w : Machine.OpWord) (s : State) : Host.Outcome State Fault Refusal :=
  s.does fun c => c.engineOp engine 0x1D w fun c => c.setEngine engine { c.engine engine with x := ((c.engine engine).x + w.a.toNat) % 8192 }

/-- REP (R276). -/
def execRep (engine : Fin 24) (w : Machine.OpWord) (s : State) : Host.Outcome State Fault Refusal :=
  s.does fun c => c.engineOp engine 0x1E w fun c => c.opRep engine w.a.toNat w.b.toNat

/-- SKN (R276). -/
def execSkn (engine : Fin 24) (w : Machine.OpWord) (s : State) : Host.Outcome State Fault Refusal :=
  s.does fun c => c.engineOp engine 0x1F w fun c => c.opSkn engine w.n.toNat (c.addrA engine w)

/-- END (R274). -/
def execEndLoop (engine : Fin 24) (w : Machine.OpWord) (s : State) : Host.Outcome State Fault Refusal :=
  s.does fun c => c.onlyIf (c.executes engine 0x3F w) fun c => c.opEnd engine

end Sys2Proof.Machine
end

