-- ==== Sys2Proof/Machine/FaultCommands.lean ====
section
/-! DEFINITION. The meanings of the commands: the fault collector and safe power removal (R401 to R445). -/

namespace Sys2Proof.Machine

/-- FAULT_EVENT (R405). -/
def execFaultEvent (t : Nat) (origins : List Nat) (s : State) : Host.Outcome State Fault Refusal :=
  s.does fun c =>
    let c := c.atTime t
    c.faultEvents origins

/-- FAULT_WINDOW_EXPIRY (R405). -/
def execFaultWindowExpiry (t : Nat) (source : Fin 512) (s : State) : Host.Outcome State Fault Refusal :=
  s.does fun c =>
    let c := c.atTime t
    c.windowExpiry source

/-- LOCKOUT_BITS_CAPTURE (R413). -/
def execLockoutBitsCapture (t : Nat) (s : State) : Host.Outcome State Fault Refusal :=
  s.does fun c =>
    let c := c.atTime t
    c.captureLockoutBits

/-- ALIVE_TOGGLE (R415). -/
def execAliveToggle (t : Nat) (b : Bool) (s : State) : Host.Outcome State Fault Refusal :=
  s.does fun c =>
    let c := c.atTime t
    c.aliveToggle b

/-- FC_KICK (R416). -/
def execFcKick (t : Nat) (key : Byte) (s : State) : Host.Outcome State Fault Refusal :=
  s.does fun c =>
    let c := c.atTime t
    c.kick key.toNat

/-- KICK_TIMEOUT (R416). -/
def execKickTimeout (t : Nat) (s : State) : Host.Outcome State Fault Refusal :=
  s.does fun c =>
    let c := c.atTime t
    c.kickTimeout

/-- SPR_A_DEMAND (R427). -/
def execSprADemand (t ns : Nat) (s : State) : Host.Outcome State Fault Refusal :=
  s.does fun c =>
    let c := c.atTime t
    c.sprADemand ns

/-- SPR_B_DEMAND (R428). -/
def execSprBDemand (t ns : Nat) (s : State) : Host.Outcome State Fault Refusal :=
  s.does fun c =>
    let c := c.atTime t
    c.sprBDemand ns

/-- SPR_INPUT_RELEASE (R435). -/
def execSprInputRelease (t : Nat) (b : Bool) (ns : Nat) (s : State) : Host.Outcome State Fault Refusal :=
  s.does fun c =>
    let c := c.atTime t
    c.sprRelease b ns

/-- DISCREPANCY_TIMEOUT (R435). -/
def execDiscrepancyTimeout (t : Nat) (s : State) : Host.Outcome State Fault Refusal :=
  s.does fun c =>
    let c := c.atTime t
    c.discrepancyTimeout

/-- CONSENT_LAPSE (R431). -/
def execConsentLapse (t : Nat) (s : State) : Host.Outcome State Fault Refusal :=
  s.does fun c =>
    let c := c.atTime t
    c.consentLapse

/-- SAFE_TELEGRAM_RX (R439). -/
def execSafeTelegramRx (t : Nat) (port : Fin 4) (bytes : List Byte) (s : State) : Host.Outcome State Fault Refusal :=
  s.does fun c =>
    let c := c.atTime t
    c.safeTelegram port bytes

/-- PERMIT_COMMAND (R440). -/
def execPermitCommand (t : Nat) (s : State) : Host.Outcome State Fault Refusal :=
  s.does fun c =>
    let c := c.atTime t
    c.permitCommand

/-- REMOVE_COMMAND (R440). -/
def execRemoveCommand (t : Nat) (s : State) : Host.Outcome State Fault Refusal :=
  s.does fun c =>
    let c := c.atTime t
    c.removeCommand

/-- TELEGRAM_COPY_TIMEOUT (R439). -/
def execTelegramCopyTimeout (t seq : Nat) (s : State) : Host.Outcome State Fault Refusal :=
  s.does fun c =>
    let c := c.atTime t
    c.copyTimeout seq

/-- TELEGRAM_WATCH_EXPIRY (R439). -/
def execTelegramWatchExpiry (t : Nat) (s : State) : Host.Outcome State Fault Refusal :=
  s.does fun c =>
    let c := c.atTime t
    c.watchExpiry

/-- STATUS_TELEGRAM_SEND (R442). -/
def execStatusTelegramSend (t : Nat) (s : State) : Host.Outcome State Fault Refusal :=
  s.does fun c =>
    let c := c.atTime t
    c.sendStatus

end Sys2Proof.Machine
end

