-- ==== Sys2Proof/Machine/HalyardCommands.lean ====
section
/-! DEFINITION. The meanings of the commands: the redundant pair over the Halyard link (R447 to R480). -/

namespace Sys2Proof.Machine

/-- HALYARD_HEADER_RX (R454). -/
def execHalyardHeaderRx (t : Nat) (lane : Fin 2) (header : Word) (s : State) : Host.Outcome State Fault Refusal :=
  s.does fun c =>
    let c := c.atTime t
    c.halyardHeader (96 + lane) header

/-- PARTNER_SILENCE (R474). -/
def execPartnerSilence (t : Nat) (s : State) : Host.Outcome State Fault Refusal :=
  s.does fun c =>
    let c := c.atTime t
    c.partnerSilence

/-- SILENCE_TAKEOVER_CHECK (R474). -/
def execSilenceTakeoverCheck (t : Nat) (s : State) : Host.Outcome State Fault Refusal :=
  s.does fun c =>
    let c := c.atTime t
    c.silenceTakeover

/-- SILENCE_YIELD_CHECK (R475). -/
def execSilenceYieldCheck (t : Nat) (s : State) : Host.Outcome State Fault Refusal :=
  s.does fun c =>
    let c := c.atTime t
    c.silenceYield

/-- HAL_MARK_RX (R460). -/
def execHalMarkRx (t arrival countdown : Nat) (index : Fin 65536) (handover : Nat) (s : State) : Host.Outcome State
    Fault Refusal :=
  s.does fun c =>
    let c := c.atTime t
    c.markReceived arrival countdown index handover

/-- COPY_FRAME_RX (R466). -/
def execCopyFrameRx (t index : Nat) (part share : Nat) (content : Machine.CopyPart) (crcOk : Bool) (s : State) :
    Host.Outcome State Fault Refusal :=
  s.does fun c =>
    let c := c.atTime t
    c.copyReceived index part share content crcOk

/-- ID_NONCE_RX (R457). -/
def execIdNonceRx (t : Nat) (lane : Fin 2) (frame : List Byte) (crc : BitVec 32) (s : State) : Host.Outcome State Fault
    Refusal :=
  s.does fun c =>
    let c := c.atTime t
    c.nonceReceived (96 + lane) frame crc

/-- ID_PROOF_RX (R457). -/
def execIdProofRx (t : Nat) (lane member rank : Fin 2) (key proof : List Byte) (crc : BitVec 32) (s : State) :
    Host.Outcome State Fault Refusal :=
  s.does fun c =>
    let c := c.atTime t
    c.proofReceived (96 + lane) member rank key proof crc

/-- IDENTITY_CHECK_COMPLETE (R458). -/
def execIdentityCheckComplete (t : Nat) (s : State) : Host.Outcome State Fault Refusal :=
  s.does fun c =>
    let c := c.atTime t
    c.identityChecked

/-- IDENTITY_RETRY (R456). -/
def execIdentityRetry (t : Nat) (s : State) : Host.Outcome State Fault Refusal :=
  s.does fun c =>
    let c := c.atTime t
    c.identityRetry

/-- HANDOVER_REQUEST (R476). -/
def execHandoverRequest (t : Nat) (s : State) : Host.Outcome State Fault Refusal :=
  s.does fun c =>
    let c := c.atTime t
    c.handoverRequest

/-- HANDOVER_ACT (R476). -/
def execHandoverAct (t : Nat) (s : State) : Host.Outcome State Fault Refusal :=
  s.does fun c =>
    let c := c.atTime t
    c.handoverAct.publishFollows

/-- HANDOVER_RETRY (R476). -/
def execHandoverRetry (t : Nat) (s : State) : Host.Outcome State Fault Refusal :=
  s.does fun c =>
    let c := c.atTime t
    c.handoverRetry

end Sys2Proof.Machine
end

