-- ==== Sys2Proof/Machine/ImageCommands.lean ====
section
/-! DEFINITION. The meanings of the commands: the image, the live parameter set, and the synthesisers (R84 to R118, R280, R287, R288). -/

namespace Sys2Proof.Machine

/-- IMAGE_SELECTION (R84). -/
def execImageSelection (t : Nat) (levels : List Int) (edges : Bool) (s : State) :
    Host.Outcome State Fault Refusal :=
  s.does fun c =>
    let c := c.atTime t
    c.imageSelection levels edges

/-- BACKGROUND_IMAGE_CHECK (R89). -/
def execBackgroundImageCheck (t : Nat) (s : State) : Host.Outcome State Fault Refusal :=
  s.does fun c =>
    let c := c.atTime t
    c.backgroundCheck

/-- SETPOINT_WRITE (R280). -/
def execSetpointWrite (t : Nat) (index : Fin 256) (value : Word) (s : State) : Host.Outcome State Fault Refusal :=
  s.does fun c =>
    let c := c.atTime t
    c.writeLive index value.toNat

/-- LOOP_CONTROL_WRITE (R287). -/
def execLoopControlWrite (t : Nat) (index : Fin 256) (value : Word) (s : State) : Host.Outcome State Fault Refusal :=
  s.does fun c =>
    let c := c.atTime t
    c.writeLive index value.toNat

/-- COEFFICIENT_WRITE (R288). -/
def execCoefficientWrite (t : Nat) (index : Fin 256) (value : Word) (s : State) : Host.Outcome State Fault Refusal :=
  s.does fun c =>
    let c := c.atTime t
    c.writeLive index value.toNat

/-- PLL_LOCK (R108). -/
def execPllLock (t : Nat) (stored table full : Bool) (band : Nat) (temperature : Option Int) (s : State) :
    Host.Outcome State Fault Refusal :=
  s.does fun c =>
    let c := c.atTime t
    c.pllLock (stored, table, full) band temperature

/-- RELOCK_RETRY (R118). -/
def execRelockRetry (t : Nat) (s : State) : Host.Outcome State Fault Refusal :=
  s.does fun c =>
    let c := c.atTime t
    c.relockRetry

/-- BAND_TABLE_UPDATE (R110). -/
def execBandTableUpdate (t : Nat) (bands : List Nat) (s : State) : Host.Outcome State Fault Refusal :=
  s.does fun c =>
    let c := c.atTime t
    c.bandTable bands

/-- PLAN_HOP_REQUEST (R111). -/
def execPlanHopRequest (t : Nat) (plan : Fin 8) (edges : Bool) (s : State) : Host.Outcome State Fault Refusal :=
  s.does fun c =>
    let c := c.atTime t
    c.hopRequest plan edges

/-- LOSS_OF_REFERENCE (R115). -/
def execLossOfReference (t : Nat) (s : State) : Host.Outcome State Fault Refusal :=
  s.does fun c =>
    let c := c.atTime t
    c.referenceLost

/-- LOSS_OF_LOCK (R116). -/
def execLossOfLock (t : Nat) (s : State) : Host.Outcome State Fault Refusal :=
  s.does fun c =>
    let c := c.atTime t
    c.lockLost

/-- HOLDOVER_EXPIRY (R116). -/
def execHoldoverExpiry (t : Nat) (s : State) : Host.Outcome State Fault Refusal :=
  s.does fun c =>
    let c := c.atTime t
    c.holdoverExpiry

/-- REFERENCE_RETURN (R118). -/
def execReferenceReturn (t : Nat) (s : State) : Host.Outcome State Fault Refusal :=
  s.does fun c =>
    let c := c.atTime t
    c.referenceReturn

/-- YIELD_DEADLINE (R117). -/
def execYieldDeadline (t : Nat) (s : State) : Host.Outcome State Fault Refusal :=
  s.does fun c =>
    let c := c.atTime t
    c.yieldDeadline

end Sys2Proof.Machine
end

