-- ==== Sys2Proof/Machine/InputCommands.lean ====
section
/-! DEFINITION. The meanings of the commands: sampled values, GOOSE, the converter, the comparators and metrology (R304 to R379). -/

namespace Sys2Proof.Machine

/-- SV_FRAME_RX (R305). -/
def execSvFrameRx (t : Nat) (port : Fin 4) (frame : SvFrameRx) (s : State) : Host.Outcome State Fault Refusal :=
  s.does fun c =>
    let c := c.atTime t
    c.svFrame port frame

/-- SAMPLE_MISSING (R310). -/
def execSampleMissing (t : Nat) (stream : Fin 16) (second count : Nat) (s : State) : Host.Outcome State Fault Refusal
    :=
  s.does fun c =>
    let c := c.atTime t
    c.sampleMissing stream second count

/-- GOOSE_FRAME_RX (R319). -/
def execGooseFrameRx (t : Nat) (port : Fin 4) (frame : GooseFrameRx) (s : State) : Host.Outcome State Fault Refusal
    :=
  s.does fun c =>
    let c := c.atTime t
    c.gooseFrame port frame

/-- GOOSE_TTL_EXPIRY (R318). -/
def execGooseTtlExpiry (t : Nat) (subscription : Fin 64) (s : State) : Host.Outcome State Fault Refusal :=
  s.does fun c =>
    let c := c.atTime t
    c.gooseExpiry subscription

/-- SEQUENCE_TRIGGER (R339). -/
def execSequenceTrigger (t : Nat) (sequence : Fin 4) (s : State) : Host.Outcome State Fault Refusal :=
  s.does fun c =>
    let c := c.atTime t
    c.sequenceTrigger sequence

/-- ADC_RESULT_COMPLETE (R335). -/
def execAdcResultComplete (t : Nat) (entry : Fin 32) (bits : List Bool) (retries : Nat) (arrives : Bool) (s : State) :
    Host.Outcome State Fault Refusal :=
  s.does fun c =>
    let c := c.atTime t
    c.adcResult entry bits retries arrives

/-- SLICE_ROTATION (R328). -/
def execSliceRotation (t : Nat) (s : State) : Host.Outcome State Fault Refusal :=
  s.does fun c =>
    let c := c.atTime t
    c.sliceRotation

/-- CHANNEL_SOURCE_CHANGE (R329). -/
def execChannelSourceChange (t : Nat) (s : State) : Host.Outcome State Fault Refusal :=
  s.does fun c =>
    let c := c.atTime t
    c.sourceChange

/-- CALIBRATION_COMPLETE (R330). -/
def execCalibrationComplete (t : Nat) (slice : Fin 25) (offset gain : Int) (inLimits : Bool) (s : State) :
    Host.Outcome State Fault Refusal :=
  s.does fun c =>
    let c := c.atTime t
    c.calibrationComplete slice offset gain inLimits

/-- COMPARATOR_OUTSIDE (R349). -/
def execComparatorOutside (t : Nat) (comparator : Fin 24) (level : Int) (s : State) : Host.Outcome State Fault Refusal :=
  s.does fun c =>
    let c := c.atTime t
    c.comparatorOutside comparator level

/-- COMPARATOR_INSIDE (R346). -/
def execComparatorInside (t : Nat) (comparator : Fin 24) (level : Int) (s : State) : Host.Outcome State Fault Refusal :=
  s.does fun c =>
    let c := c.atTime t
    c.comparatorInside comparator level

/-- COMPARATOR_RESOLVED (R348). -/
def execComparatorResolved (t : Nat) (comparator : Fin 24) (level : Int) (s : State) : Host.Outcome State Fault
    Refusal :=
  s.does fun c =>
    let c := c.atTime t
    c.comparatorResolved comparator level

/-- THRESHOLD_READBACK (R351). -/
def execThresholdReadback (t : Nat) (conversions : List (List Bool × List Bool)) (s : State) : Host.Outcome State Fault Refusal :=
  s.does fun c =>
    let c := c.atTime t
    c.thresholdReadback conversions

/-- METERING_WINDOW_END (R361). -/
def execMeteringWindowEnd (t : Nat) (point : Fin 2) (s : State) : Host.Outcome State Fault Refusal :=
  s.does fun c =>
    let c := c.atTime t
    c.windowEnd point

/-- PERIODIC_SAVE (R369). -/
def execPeriodicSave (t : Nat) (s : State) : Host.Outcome State Fault Refusal :=
  s.does fun c =>
    let c := c.atTime t
    c.periodicSave

/-- SAVE_RETRY (R369). -/
def execSaveRetry (t : Nat) (s : State) : Host.Outcome State Fault Refusal :=
  s.does fun c =>
    let c := c.atTime t
    c.saveRetry

/-- METROLOGY_SAVE (R370). -/
def execMetrologySave (t : Nat) (s : State) : Host.Outcome State Fault Refusal :=
  s.does fun c =>
    let c := c.atTime t
    c.metrologySave

/-- FINAL_SAVE_WRITTEN (R371). -/
def execFinalSaveWritten (t : Nat) (s : State) : Host.Outcome State Fault Refusal :=
  s.does fun c =>
    let c := c.atTime t
    c.finalWritten

end Sys2Proof.Machine
end

