-- ==== Sys2Proof/Machine/LaneCommands.lean ====
section
/-! DEFINITION. The meanings of the commands: the lanes (R131 to R163, R455). -/

namespace Sys2Proof.Machine

/-- LANE_BLOCK_LOCK (R140). -/
def execLaneBlockLock (t : Nat) (lane : Fin 100) (line : List Bool) (s : State) : Host.Outcome State Fault Refusal :=
  s.does fun c =>
    let c := c.atTime t
    c.laneBlockLock lane line

/-- LANE_LOSS_OF_LOCK (R142). -/
def execLaneLossOfLock (t : Nat) (lane : Fin 100) (line : List Bool) (signalLost : Bool) (s : State) : Host.Outcome
    State Fault Refusal :=
  s.does fun c =>
    let c := c.atTime t
    c.laneLossOfLock lane line signalLost

/-- LANE_RESET_REQUEST (R55). -/
def execLaneResetRequest (t : Nat) (lane : Fin 100) (s : State) : Host.Outcome State Fault Refusal :=
  s.does fun c =>
    let c := c.atTime t
    c.laneReset lane

/-- LOOP_TIMED_TIMEOUT (R150). -/
def execLoopTimedTimeout (t : Nat) (lane : Fin 100) (s : State) : Host.Outcome State Fault Refusal :=
  s.does fun c =>
    let c := c.atTime t
    c.loopTimedTimeout lane

/-- ECHO_REQUEST_SEND (R153). -/
def execEchoRequestSend (t : Nat) (lane : Fin 100) (departure : Nat) (s : State) : Host.Outcome State Fault Refusal
    :=
  s.does fun c =>
    let c := c.atTime t
    c.echoSend lane departure

/-- ECHO_RESPONSE_RX (R153). -/
def execEchoResponseRx (t : Nat) (lane : Fin 100) (line : List Bool) (arrival : Nat) (s : State) : Host.Outcome State Fault
    Refusal :=
  s.does fun c =>
    let c := c.atTime t
    c.echoResponse lane line arrival

/-- ECHO_REQUEST_RX (R455). -/
def execEchoRequestRx (t : Nat) (lane : Fin 2) (tag : Fin 256) (s : State) : Host.Outcome State Fault Refusal :=
  s.does fun c =>
    let c := c.atTime t
    c.echoRequest (96 + lane) tag

/-- ECHO_TIMEOUT (R153). -/
def execEchoTimeout (t : Nat) (lane : Fin 100) (tag : Nat) (s : State) : Host.Outcome State Fault Refusal :=
  s.does fun c =>
    let c := c.atTime t
    c.echoTimeout lane tag

/-- IDLE_BLOCK_RX (R135). -/
def execIdleBlockRx (t : Nat) (lane : Fin 100) (line : List Bool) (s : State) : Host.Outcome State Fault Refusal :=
  s.does fun c =>
    let c := c.atTime t
    c.idleBlock lane line

/-- FOM_UPDATE (R160). -/
def execFomUpdate (t : Nat) (lane : Fin 100) (figure : Nat) (s : State) : Host.Outcome State Fault Refusal :=
  s.does fun c =>
    let c := c.atTime t
    c.fomUpdate lane figure

/-- EYE_SCAN_REQUEST (R161). -/
def execEyeScanRequest (t : Nat) (lane : Fin 100) (s : State) : Host.Outcome State Fault Refusal :=
  s.does fun c =>
    let c := c.atTime t
    c.eyeScanRequest lane

/-- EYE_SCAN_INTERVAL (R161). -/
def execEyeScanInterval (t : Nat) (lane : Fin 100) (s : State) : Host.Outcome State Fault Refusal :=
  s.does fun c =>
    let c := c.atTime t
    c.eyeScanInterval lane

/-- EYE_SCAN_COMPLETE (R161). -/
def execEyeScanComplete (t : Nat) (lane : Fin 100) (width height : Nat) (s : State) : Host.Outcome State Fault
    Refusal :=
  s.does fun c =>
    let c := c.atTime t
    c.eyeScanComplete lane width height

/-- READAPT_REQUEST (R162). -/
def execReadaptRequest (t : Nat) (lane : Fin 100) (s : State) : Host.Outcome State Fault Refusal :=
  s.does fun c =>
    let c := c.atTime t
    c.readaptRequest lane

/-- READAPT_COMPLETE (R162). -/
def execReadaptComplete (t : Nat) (lane : Fin 100) (s : State) : Host.Outcome State Fault Refusal :=
  s.does fun c =>
    let c := c.atTime t
    c.readaptComplete lane

end Sys2Proof.Machine
end

