-- ==== Sys2Proof/Machine/ModeCommands.lean ====
section
/-! DEFINITION. The meanings of the commands: mode requests, transitions, resets, lockouts, the acknowledge window and the supplies (R40 to R71, R621, R631). -/

namespace Sys2Proof.Machine

/-- REQUEST_COMMISSION (R44). -/
def execRequestCommission (t : Nat) (s : State) : Host.Outcome State Fault Refusal :=
  s.does fun c =>
    let c := c.atTime t
    c.modeRequest 1

/-- REQUEST_CHARGE (R44). -/
def execRequestCharge (t : Nat) (s : State) : Host.Outcome State Fault Refusal :=
  s.does fun c =>
    let c := c.atTime t
    c.modeRequest 2

/-- REQUEST_RUN (R44). -/
def execRequestRun (t : Nat) (s : State) : Host.Outcome State Fault Refusal :=
  s.does fun c =>
    let c := c.atTime t
    c.modeRequest 3

/-- REQUEST_STOP_TRANSFER (R295). -/
def execRequestStopTransfer (t : Nat) (s : State) : Host.Outcome State Fault Refusal :=
  s.does fun c =>
    let c := c.atTime t
    c.modeRequest 4

/-- REQUEST_ENTER_QUIESCENT (R50). -/
def execRequestEnterQuiescent (t : Nat) (s : State) : Host.Outcome State Fault Refusal :=
  s.does fun c =>
    let c := c.atTime t
    c.modeRequest 5

/-- REQUEST_LEAVE_QUIESCENT (R52). -/
def execRequestLeaveQuiescent (t : Nat) (s : State) : Host.Outcome State Fault Refusal :=
  s.does fun c =>
    let c := c.atTime t
    c.modeRequest 6

/-- REQUEST_WARM_RESET (R56). -/
def execRequestWarmReset (t : Nat) (s : State) : Host.Outcome State Fault Refusal :=
  s.does fun c =>
    let c := c.atTime t
    c.modeRequest 7

/-- MODE_TRANSITION (R45). -/
def execModeTransition (t : Nat) (s : State) : Host.Outcome State Fault Refusal :=
  s.does fun c =>
    let c := c.atTime t
    c.modeTransition

/-- END_OF_CONFIGURE (R44). -/
def execEndOfConfigure (t : Nat) (s : State) : Host.Outcome State Fault Refusal :=
  s.does fun c =>
    let c := c.atTime t
    c.endOfConfigure

/-- QUIESCENT_RESUME (R52). -/
def execQuiescentResume (t : Nat) (s : State) : Host.Outcome State Fault Refusal :=
  s.does fun c =>
    let c := c.atTime t
    c.quiescentResume

/-- LOCKOUT_ENTRY_PERSISTED (R59). -/
def execLockoutEntryPersisted (t : Nat) (s : State) : Host.Outcome State Fault Refusal :=
  s.does fun c =>
    let c := c.atTime t
    c.lockoutPersisted

/-- LOCKOUT_ENTRY_RETRY (R59). -/
def execLockoutEntryRetry (t : Nat) (s : State) : Host.Outcome State Fault Refusal :=
  s.does fun c =>
    let c := c.atTime t
    c.lockoutRetry

/-- LOCKOUT_RESTORE (R60). -/
def execLockoutRestore (t : Nat) (s : State) : Host.Outcome State Fault Refusal :=
  s.does fun c =>
    let c := c.atTime t
    c.lockoutRestore

/-- EARLY_WARNING_TRIP (R53). -/
def execEarlyWarningTrip (t : Nat) (s : State) : Host.Outcome State Fault Refusal :=
  s.does fun c =>
    let c := c.atTime t
    c.earlyWarning

/-- VSYS_RETURN (R54). -/
def execVsysReturn (t : Nat) (s : State) : Host.Outcome State Fault Refusal :=
  s.does fun c =>
    let c := c.atTime t
    c.vsysReturn

/-- VSYS_FALLS_TO_HOLD (R621). -/
def execVsysFallsToHold (t : Nat) (s : State) : Host.Outcome State Fault Refusal :=
  s.does fun c =>
    let c := c.atTime t
    c.vsysFalls

/-- SUPPLY_WARNING (R631). -/
def execSupplyWarning (t : Nat) (supply : Fin 4) (s : State) : Host.Outcome State Fault Refusal :=
  s.does fun c =>
    let c := c.atTime t
    c.supplyWarning supply

/-- SUPPLY_RETURN (R631). -/
def execSupplyReturn (t : Nat) (supply : Fin 4) (s : State) : Host.Outcome State Fault Refusal :=
  s.does fun c =>
    let c := c.atTime t
    c.supplyReturn supply

/-- COLD_RESET (R55). -/
def execColdReset (t : Nat) (cause : Fin 3) (s : State) : Host.Outcome State Fault Refusal :=
  s.does fun c =>
    let d := c.atTime t
    (d.coldReset cause).powerLost (if cause.val = 0 then d.clock.now - c.clock.now else 0)

/-- PORST_N_RELEASE (R55). -/
def execPorstNRelease (t : Nat) (finds : Machine.ReleaseFinds) (s : State) : Host.Outcome State Fault Refusal :=
  s.does fun c =>
    let c := c.atTime t
    c.porstRelease finds

/-- WATCHDOG_EXPIRY (R58). -/
def execWatchdogExpiry (t : Nat) (s : State) : Host.Outcome State Fault Refusal :=
  s.does fun c =>
    let c := c.atTime t
    c.watchdogExpiry

/-- LOCKSTEP_MISMATCH (R58). -/
def execLockstepMismatch (t : Nat) (s : State) : Host.Outcome State Fault Refusal :=
  s.does fun c =>
    let c := c.atTime t
    c.lockstepMismatch

/-- SPR_RST_PULSE (R68). -/
def execSprRstPulse (t width : Nat) (s : State) : Host.Outcome State Fault Refusal :=
  s.does fun c =>
    let c := c.atTime t
    c.resetPulse width

/-- ACK_WINDOW_EXPIRY (R69). -/
def execAckWindowExpiry (t : Nat) (s : State) : Host.Outcome State Fault Refusal :=
  s.does fun c =>
    let c := c.atTime t
    c.ackWindowExpiry

/-- ACK (R69). -/
def execAck (t : Nat) (authentic : Bool) (s : State) : Host.Outcome State Fault Refusal :=
  s.does fun c =>
    let c := c.atTime t
    c.ack authentic

end Sys2Proof.Machine
end

