-- ==== Sys2Proof/Machine/NetworkCommands.lean ====
section
/-! DEFINITION. The meanings of the commands: the ports, time, publishing and station access (R481 to R514, R587, R601). -/

namespace Sys2Proof.Machine

/-- PORT_LINK_UP (R485). -/
def execPortLinkUp (t : Nat) (port : Fin 4) (speed : Nat) (joined : Bool) (s : State) : Host.Outcome State Fault Refusal :=
  s.does fun c =>
    let c := c.atTime t
    c.portLinkUp port speed joined

/-- PORT_LINK_LOSS (R485). -/
def execPortLinkLoss (t : Nat) (port : Fin 4) (s : State) : Host.Outcome State Fault Refusal :=
  s.does fun c =>
    let c := c.atTime t
    c.portLinkLoss port

/-- LAN_FAULT_TIMEOUT (R485). -/
def execLanFaultTimeout (t : Nat) (port : Fin 4) (s : State) : Host.Outcome State Fault Refusal :=
  s.does fun c =>
    let c := c.atTime t
    c.lanFault port

/-- FRAME_RX_CLASSIFY (R488). -/
def execFrameRxClassify (t : Nat) (port : Fin 4) (frame : EthFrameRx) (reserved ordinary : Nat) (s : State) :
    Host.Outcome State Fault Refusal :=
  s.does fun c =>
    let c := c.atTime t
    c.classify port frame reserved ordinary

/-- HSR_FORWARD (R482). -/
def execHsrForward (t : Nat) (port : Fin 4) (frame : RingFrameRx) (s : State) : Host.Outcome State Fault Refusal :=
  s.does fun c =>
    let c := c.atTime t
    c.hsrForward port frame

/-- SUPERVISION_FRAME_SEND (R482). -/
def execSupervisionFrameSend (t : Nat) (pair : Fin 2) (s : State) : Host.Outcome State Fault Refusal :=
  s.does fun c =>
    let c := c.atTime t
    c.sendSupervision pair

/-- FRAME_TRANSMISSION_END (R487). -/
def execFrameTransmissionEnd (t : Nat) (port : Fin 4) (s : State) : Host.Outcome State Fault Refusal :=
  s.does fun c =>
    let c := c.atTime t
    c.frameEnd port

/-- PTP_SYNC_RX (R492). -/
def execPtpSyncRx (t : Nat) (port : Fin 4) (message : SyncRx) (s : State) : Host.Outcome State Fault Refusal :=
  s.does fun c =>
    let c := c.atTime t
    c.ptpSync port message

/-- PTP_ANNOUNCE_TIMEOUT (R492). -/
def execPtpAnnounceTimeout (t : Nat) (port : Fin 4) (source : Nat) (s : State) : Host.Outcome State Fault
    Refusal :=
  s.does fun c =>
    let c := c.atTime t
    c.announceTimeout port source

/-- PDELAY_REQ_RX (R491). -/
def execPdelayReqRx (t : Nat) (port : Fin 4) (s : State) : Host.Outcome State Fault Refusal :=
  s.does fun c =>
    let c := c.atTime t
    c.pdelayReq port

/-- PTP_MESSAGE_SEND (R489). -/
def execPtpMessageSend (t : Nat) (port : Fin 4) (message : PtpMessage) (s : State) : Host.Outcome State Fault Refusal
    :=
  s.does fun c =>
    let c := c.atTime t
    c.ptpSend port message

/-- PULSE_EDGE (R494). -/
def execPulseEdge (t : Nat) (output : Fin 8) (s : State) : Host.Outcome State Fault Refusal :=
  s.does fun c =>
    let c := c.atTime t
    c.pulseEdge output

/-- PO_ARM (R494). -/
def execPoArm (t : Nat) (output : Fin 8) (ns : BitVec 30) (s : State) : Host.Outcome State Fault Refusal :=
  s.does fun c =>
    let c := c.atTime t
    c.poArm output ns.toNat

/-- SV_PUBLISH_SAMPLE (R497). -/
def execSvPublishSample (t : Nat) (stream : Fin 4) (second sample : Nat) (s : State) : Host.Outcome State Fault
    Refusal :=
  s.does fun c =>
    let c := c.atTime t
    c.svPublish stream second sample

/-- GOOSE_FAST_CHANGE (R503). -/
def execGooseFastChange (t : Nat) (block : Fin 16) (s : State) : Host.Outcome State Fault Refusal :=
  s.does fun c =>
    let c := c.atTime t
    c.gooseFast block

/-- GOOSE_REPEAT (R501). -/
def execGooseRepeat (t : Nat) (block : Fin 16) (s : State) : Host.Outcome State Fault Refusal :=
  s.does fun c =>
    let c := c.atTime t
    c.gooseRepeat block

/-- STATION_REQUEST_RX (R507). -/
def execStationRequestRx (t : Nat) (port : Fin 4) (datagram : UdpRx) (s : State) : Host.Outcome State Fault Refusal
    :=
  s.does fun c =>
    let c := c.atTime t
    c.stationRequest port datagram

/-- STATION_CHECK_COMPLETE (R510). -/
def execStationCheckComplete (t id : Nat) (edges : Bool) (s : State) : Host.Outcome State Fault Refusal :=
  s.does fun c =>
    let c := c.atTime t
    c.stationCheck id edges

/-- STATION_LEAVE_TIMEOUT (R510). -/
def execStationLeaveTimeout (t id : Nat) (s : State) : Host.Outcome State Fault Refusal :=
  s.does fun c =>
    let c := c.atTime t
    c.stationTimeout id

/-- READ (R508). -/
def execRead (t : Nat) (key : Fin 8) (address : Word) (count : Nat) (s : State) : Host.Outcome State Fault Refusal :=
  s.does fun c =>
    let c := c.atTime t
    c.singleOp key { code := 1, count, address := address.toNat } false

/-- WRITE (R509). -/
def execWrite (t : Nat) (key : Fin 8) (address value : Word) (edges : Bool) (s : State) : Host.Outcome State Fault
    Refusal :=
  s.does fun c =>
    let c := c.atTime t
    c.singleOp key { code := 2, address := address.toNat, value := value.toNat } edges

/-- TRIGGER (R587). -/
def execTrigger (t : Nat) (key : Fin 8) (s : State) : Host.Outcome State Fault Refusal :=
  s.does fun c =>
    let c := c.atTime t
    c.singleOp key { code := 16 } false

/-- REC_LIST (R587). -/
def execRecList (t : Nat) (key : Fin 8) (first : Word) (count : Nat) (s : State) : Host.Outcome State Fault Refusal
    :=
  s.does fun c =>
    let c := c.atTime t
    c.singleOp key { code := 17, count, address := first.toNat } false

/-- REC_READ (R587). -/
def execRecRead (t : Nat) (key : Fin 8) (record offset : Word) (count : Nat) (s : State) : Host.Outcome State Fault
    Refusal :=
  s.does fun c =>
    let c := c.atTime t
    c.singleOp key { code := 18, count, address := record.toNat, value := offset.toNat } false

/-- LEDGER_READ (R587). -/
def execLedgerRead (t : Nat) (key : Fin 8) (entry offset : Word) (count : Nat) (s : State) : Host.Outcome State Fault
    Refusal :=
  s.does fun c =>
    let c := c.atTime t
    c.singleOp key { code := 19, count, address := entry.toNat, value := offset.toNat } false

/-- LEDGER_NEWEST (R587). -/
def execLedgerNewest (t : Nat) (key : Fin 8) (kind : Word) (count : Nat) (s : State) : Host.Outcome State Fault
    Refusal :=
  s.does fun c =>
    let c := c.atTime t
    c.singleOp key { code := 20, count, address := kind.toNat } false

/-- LOG_READ (R587). -/
def execLogRead (t : Nat) (key : Fin 8) (index offset : Word) (count : Nat) (s : State) : Host.Outcome State Fault
    Refusal :=
  s.does fun c =>
    let c := c.atTime t
    c.singleOp key { code := 21, count, address := index.toNat, value := offset.toNat } false

/-- ATTEST (R601). -/
def execAttest (t : Nat) (key : Fin 8) (address value : Word) (s : State) : Host.Outcome State Fault Refusal :=
  s.does fun c =>
    let c := c.atTime t
    c.singleOp key { code := 24, address := address.toNat, value := value.toNat } false

/-- UNKNOWN_OPERATION (R511). -/
def execUnknownOperation (t : Nat) (key : Fin 8) (code : Byte) (s : State) : Host.Outcome State Fault Refusal :=
  s.does fun c =>
    let c := c.atTime t
    c.singleOp key { code := code.toNat } false

/-- ARP_ICMP_RX (R505). -/
def execArpIcmpRx (t : Nat) (port : Fin 4) (message : IpMessage) (s : State) : Host.Outcome State Fault Refusal :=
  s.does fun c =>
    let c := c.atTime t
    c.arpIcmp port message

end Sys2Proof.Machine
end

