-- ==== Sys2Proof/Machine/PeriodCommands.lean ====
section
/-! DEFINITION. The meanings of the commands: the steps of a control period (R11 to R33, R205, R224, R238, R283, R296). -/

namespace Sys2Proof.Machine

/-- PERIOD_BOUNDARY (R11). -/
def execPeriodBoundary (t : Nat) (gdi : List Int) (s : State) : Host.Outcome State Fault Refusal :=
  s.does fun c =>
    let c := c.atTime t
    c.periodBoundary gdi

/-- INPUT_DISTRIBUTION_CLOSE (R27). -/
def execInputDistributionClose (t : Nat) (s : State) : Host.Outcome State Fault Refusal :=
  s.does fun c =>
    let c := c.atTime t
    c.atInstant 1 1000 Chip.distributeInputs

/-- ENGINE_COMPUTE_START (R296). -/
def execEngineComputeStart (t : Nat) (s : State) : Host.Outcome State Fault Refusal :=
  s.does fun c =>
    let c := c.atTime t
    c.atInstant 2 1000 Chip.enginesStart

/-- ENGINE_RELEASE (R283). -/
def execEngineRelease (t : Nat) (engine : Fin 24) (s : State) : Host.Outcome State Fault Refusal :=
  s.does fun c =>
    let c := c.atTime t
    c.engineRelease engine c.phaseNs

/-- BALANCING_START (R238). -/
def execBalancingStart (t : Nat) (s : State) : Host.Outcome State Fault Refusal :=
  s.does fun c =>
    let c := c.atTime t
    c.atInstant 3 c.tB Chip.balancingStart

/-- EDGE_RELOAD (R205). -/
def execEdgeReload (t : Nat) (lateArms unfinished : List Nat) (s : State) : Host.Outcome State Fault Refusal :=
  s.does fun c =>
    let c := c.atTime t
    c.atInstant 4 c.tE fun c => c.reloadEdges lateArms unfinished

/-- SHEAF_TRANSMISSION_START (R20). -/
def execSheafTransmissionStart (t : Nat) (overrun : Bool) (s : State) : Host.Outcome State Fault Refusal :=
  s.does fun c =>
    let c := c.atTime t
    c.atInstant 5 c.tS fun c => c.sheavesStart overrun

/-- SHEAF_WINDOW_CLOSE (R19). -/
def execSheafWindowClose (t : Nat) (incomplete : Bool) (s : State) : Host.Outcome State Fault Refusal :=
  s.does fun c =>
    let c := c.atTime t
    c.atInstant 6 (c.tCtlNs - 500) fun c => c.sheavesClose incomplete

/-- INTERVAL_START (R224). -/
def execIntervalStart (t : Nat) (s : State) : Host.Outcome State Fault Refusal :=
  s.does fun c =>
    let c := c.atTime t
    c.intervalStart

/-- BALE_RECEIVED (R28). -/
def execBaleReceived (t : Nat) (lane : Fin 100) (line : List Bool) (late : Bool) (s : State) : Host.Outcome
    State Fault Refusal :=
  s.does fun c =>
    let c := c.atTime t
    c.baleReceived lane line late

end Sys2Proof.Machine
end

