-- ==== Sys2Proof/Machine/SecurityCommands.lean ====
section
/-! DEFINITION. The meanings of the commands: boot, identity and the test access port (R226, R590 to R608). -/

namespace Sys2Proof.Machine

/-- FIRMWARE_BOOT (R595). -/
def execFirmwareBoot (t : Nat) (s : State) : Host.Outcome State Fault Refusal :=
  s.does fun c =>
    let c := c.atTime t
    c.firmwareBoot

/-- FIRMWARE_RETRY (R597). -/
def execFirmwareRetry (t : Nat) (s : State) : Host.Outcome State Fault Refusal :=
  s.does fun c =>
    let c := c.atTime t
    c.firmwareRetry

/-- IDENTITY_DERIVATION (R592). -/
def execIdentityDerivation (t : Nat) (derived : List Byte) (s : State) : Host.Outcome State Fault Refusal :=
  s.does fun c =>
    let c := c.atTime t
    c.deriveIdentity derived

/-- VAULT_CLEAR (R593). -/
def execVaultClear (t : Nat) (s : State) : Host.Outcome State Fault Refusal :=
  s.does fun c =>
    let c := c.atTime t
    c.vaultClear

/-- BYPASS (R602). -/
def execBypass (t : Nat) (din : List Bool) (s : State) : Host.Outcome State Fault Refusal :=
  s.does fun c =>
    let c := c.atTime t
    c.tapBypass din

/-- IDCODE (R602). -/
def execIdcode (t : Nat) (s : State) : Host.Outcome State Fault Refusal :=
  s.does fun c =>
    let c := c.atTime t
    c.tapIdcode

/-- SAMPLE_PRELOAD (R602). -/
def execSamplePreload (t : Nat) (balls din : List Bool) (s : State) : Host.Outcome State Fault Refusal :=
  s.does fun c =>
    let c := c.atTime t
    c.tapSample balls din

/-- STATUS (R602). -/
def execStatus (t : Nat) (s : State) : Host.Outcome State Fault Refusal :=
  s.does fun c =>
    let c := c.atTime t
    c.tapStatus

/-- DBG_LOCK (R606). -/
def execDbgLock (t : Nat) (s : State) : Host.Outcome State Fault Refusal :=
  s.does fun c =>
    let c := c.atTime t
    c.tapLock

/-- DBG_CHALLENGE (R603). -/
def execDbgChallenge (t : Nat) (din : List Bool) (s : State) : Host.Outcome State Fault Refusal :=
  s.does fun c =>
    let c := c.atTime t
    c.tapChallenge din

/-- DBG_RESPONSE (R604). -/
def execDbgResponse (t : Nat) (din : List Bool) (s : State) : Host.Outcome State Fault Refusal :=
  s.does fun c =>
    let c := c.atTime t
    c.tapResponse din

/-- DBG_RESPONSE_CHECK (R604). -/
def execDbgResponseCheck (t : Nat) (s : State) : Host.Outcome State Fault Refusal :=
  s.does fun c =>
    let c := c.atTime t
    c.responseCheck

/-- CHALLENGE_EXPIRY (R603). -/
def execChallengeExpiry (t : Nat) (s : State) : Host.Outcome State Fault Refusal :=
  s.does fun c =>
    let c := c.atTime t
    c.challengeExpiry

/-- OWNER_FUSE (R599). -/
def execOwnerFuse (t : Nat) (din : List Bool) (slot1 : Bool) (hash burned : List Byte) (interrupted : Bool) (s :
    State) : Host.Outcome State Fault Refusal :=
  s.does fun c =>
    let c := c.atTime t
    c.ownerFuse din slot1 hash burned interrupted

/-- EXTEST (R602). -/
def execExtest (t : Nat) (balls din : List Bool) (s : State) : Host.Outcome State Fault Refusal :=
  s.does fun c =>
    let c := c.atTime t
    c.tapExtest .level balls din

/-- EXTEST_PULSE (R602). -/
def execExtestPulse (t : Nat) (balls din : List Bool) (s : State) : Host.Outcome State Fault Refusal :=
  s.does fun c =>
    let c := c.atTime t
    c.tapExtest .pulse balls din

/-- EXTEST_TRAIN (R602). -/
def execExtestTrain (t : Nat) (balls din : List Bool) (s : State) : Host.Outcome State Fault Refusal :=
  s.does fun c =>
    let c := c.atTime t
    c.tapExtest .train balls din

/-- ENGINE_READ (R602). -/
def execEngineRead (t : Nat) (din : List Bool) (memory : EngineMemory) (s : State) : Host.Outcome State Fault Refusal
    :=
  s.does fun c =>
    let c := c.atTime t
    c.engineRead din memory

/-- HALT (R226). -/
def execHalt (t : Nat) (din : List Bool) (s : State) : Host.Outcome State Fault Refusal :=
  s.does fun c =>
    let c := c.atTime t
    c.tapHalt din true

/-- RESUME (R226). -/
def execResume (t : Nat) (din : List Bool) (s : State) : Host.Outcome State Fault Refusal :=
  s.does fun c =>
    let c := c.atTime t
    c.tapHalt din false

end Sys2Proof.Machine
end

