-- ==== Sys2Proof/Machine/StorageCommands.lean ====
section
/-! DEFINITION. The meanings of the commands: storage, the ledger and the disturbance recorder (R562 to R589). -/

namespace Sys2Proof.Machine

/-- NAND_OP_COMPLETE (R564). -/
def execNandOpComplete (t block page : Nat) (read ok : Bool) (found : NandPage) (s : State) : Host.Outcome State
    Fault Refusal :=
  s.does fun c =>
    let c := c.atTime t
    c.nandComplete block page read ok found

/-- NAND_OP_TIMEOUT (R564). -/
def execNandOpTimeout (t block : Nat) (read : Bool) (s : State) : Host.Outcome State Fault Refusal :=
  s.does fun c =>
    let c := c.atTime t
    c.nandTimeout block read

/-- RETENTION_REFRESH (R575). -/
def execRetentionRefresh (t : Nat) (copy : Fin 4) (wrong : List (Nat × List Nat)) (s : State) : Host.Outcome State Fault Refusal :=
  s.does fun c =>
    let c := c.atTime t
    c.retentionRefresh copy wrong

/-- LEDGER_WRITE (R578). -/
def execLedgerWrite (t : Nat) (s : State) : Host.Outcome State Fault Refusal :=
  s.does fun c =>
    let c := c.atTime t
    c.ledgerWrite

/-- LEDGER_SCAN (R582). -/
def execLedgerScan (t : Nat) (unreadable : List Nat) (s : State) : Host.Outcome State Fault Refusal :=
  s.does fun c =>
    let c := c.atTime t
    c.ledgerScan unreadable

/-- RECORDER_SAMPLE (R583). -/
def execRecorderSample (t : Nat) (s : State) : Host.Outcome State Fault Refusal :=
  s.does fun c =>
    let c := c.atTime t
    c.recorderSample

/-- RECORD_TRIGGER (R584). -/
def execRecordTrigger (t : Nat) (s : State) : Host.Outcome State Fault Refusal :=
  s.does fun c =>
    let c := c.atTime t
    c.recordTrigger

/-- RECORD_LOCK (R585). -/
def execRecordLock (t : Nat) (s : State) : Host.Outcome State Fault Refusal :=
  s.does fun c =>
    let c := c.atTime t
    c.recordLock

/-- RECORD_FLUSH (R585). -/
def execRecordFlush (t : Nat) (s : State) : Host.Outcome State Fault Refusal :=
  s.does fun c =>
    let c := c.atTime t
    c.recordFlush

/-- LOG_WRITE (R576). -/
def execLogWrite (t : Nat) (s : State) : Host.Outcome State Fault Refusal :=
  s.does fun c =>
    let c := c.atTime t
    c.logWrite

end Sys2Proof.Machine
end

