-- ==== Sys2Proof/Machine/ThermalCommands.lean ====
section
/-! DEFINITION. The meanings of the commands: temperatures, the Granary and the slice test (R515 to R561). -/

namespace Sys2Proof.Machine

/-- THERMAL_EVALUATION (R516). -/
def execThermalEvaluation (t : Nat) (readings : List SensorReading) (s : State) : Host.Outcome State Fault Refusal :=
  s.does fun c =>
    let c := c.atTime t
    c.evaluateTemperatures readings

/-- SHUTDOWN_RECORD_WRITTEN (R524). -/
def execShutdownRecordWritten (t : Nat) (s : State) : Host.Outcome State Fault Refusal :=
  s.does fun c =>
    let c := c.atTime t
    c.shutdownWritten

/-- SHUTDOWN_DEADLINE (R524). -/
def execShutdownDeadline (t : Nat) (s : State) : Host.Outcome State Fault Refusal :=
  s.does fun c =>
    let c := c.atTime t
    c.shutdownDeadline

/-- SHUTDOWN_RECORD_RETRY (R525). -/
def execShutdownRecordRetry (t : Nat) (s : State) : Host.Outcome State Fault Refusal :=
  s.does fun c =>
    let c := c.atTime t
    c.shutdownRetry

/-- REEF_FORCED_CLEAR (R523). -/
def execReefForcedClear (t : Nat) (s : State) : Host.Outcome State Fault Refusal :=
  s.does fun c =>
    let c := c.atTime t
    c.reefForcedClear

/-- HOLD_READY_CHANGE (R528). -/
def execHoldReadyChange (t millivolts : Nat) (s : State) : Host.Outcome State Fault Refusal :=
  s.does fun c =>
    let c := c.atTime t
    c.holdReadyChange millivolts

/-- HOLDUP_READY_TIMEOUT (R528). -/
def execHoldupReadyTimeout (t : Nat) (s : State) : Host.Outcome State Fault Refusal :=
  s.does fun c =>
    let c := c.atTime t
    c.holdReadyTimeout

/-- GRANARY_REQUEST (R533). -/
def execGranaryRequest (t : Nat) (what : Machine.Leave) (s : State) : Host.Outcome State Fault Refusal :=
  s.does fun c =>
    let c := c.atTime t
    c.askLeave what

/-- GRANARY_RETURN (R533). -/
def execGranaryReturn (t : Nat) (what : Machine.Leave) (s : State) : Host.Outcome State Fault Refusal :=
  s.does fun c =>
    let c := c.atTime t
    c.returnLeave what

/-- GRANARY_STARVED (R534). -/
def execGranaryStarved (t : Nat) (what : Machine.Leave) (s : State) : Host.Outcome State Fault Refusal :=
  s.does fun c =>
    let c := c.atTime t
    c.starve what

/-- SLICE_CYCLE_START (R553). -/
def execSliceCycleStart (t : Nat) (s : State) : Host.Outcome State Fault Refusal :=
  s.does fun c =>
    let c := c.atTime t
    c.cycleStart

/-- CE_SLICE_HANDOVER (R543). -/
def execCeSliceHandover (t : Nat) (engine : Fin 24) (s : State) : Host.Outcome State Fault Refusal :=
  s.does fun c =>
    let c := c.atTime t
    c.ceSlice engine

/-- EE_SLICE_HANDOVER (R544). -/
def execEeSliceHandover (t : Nat) (engine : Fin 96) (s : State) : Host.Outcome State Fault Refusal :=
  s.does fun c =>
    let c := c.atTime t
    c.sliceBegin (sliceInst 2 engine)

/-- EE_S_SLICE (R545). -/
def execEeSSlice (t : Nat) (spare : Fin 2) (s : State) : Host.Outcome State Fault Refusal :=
  s.does fun c =>
    let c := c.atTime t
    c.sliceBegin (sliceInst 3 spare)

/-- PCS_SLICE_HANDOVER (R546). -/
def execPcsSliceHandover (t : Nat) (pcs : Fin 102) (s : State) : Host.Outcome State Fault Refusal :=
  s.does fun c =>
    let c := c.atTime t
    c.sliceBegin (if pcs.val < 100 then sliceInst 5 pcs else sliceInst 6 (pcs.val - 100))

/-- PCS_HANDOVER_TIMEOUT (R546). -/
def execPcsHandoverTimeout (t : Nat) (lane : Fin 100) (s : State) : Host.Outcome State Fault Refusal :=
  s.does fun c =>
    let c := c.atTime t
    c.pcsTimeout lane

/-- BLOCK_WIRE_TEST (R549). -/
def execBlockWireTest (t : Nat) (wire : Fin 4) (latched : List Nat) (s : State) : Host.Outcome State Fault Refusal :=
  s.does fun c =>
    let c := c.atTime t
    c.wireTest wire latched

/-- SECURITY_SLICE (R547). -/
def execSecuritySlice (t : Nat) (s : State) : Host.Outcome State Fault Refusal :=
  s.does fun c =>
    let c := c.atTime t
    c.securitySlice

/-- COMPARE_UNIT_TEST (R548). -/
def execCompareUnitTest (t : Nat) (s : State) : Host.Outcome State Fault Refusal :=
  s.does fun c =>
    let c := c.atTime t
    c.sliceBegin (sliceInst 4 0)

/-- SLICE_SIGNATURE_COMPARE (R550). -/
def execSliceSignatureCompare (t : Nat) (track : Fin 2) (signature : Word) (s : State) : Host.Outcome State Fault Refusal :=
  s.does fun c =>
    let c := c.atTime t
    c.signatureCompare track signature.toNat

/-- SLICE_HANDBACK (R543). -/
def execSliceHandback (t : Nat) (track : Fin 2) (s : State) : Host.Outcome State Fault Refusal :=
  s.does fun c =>
    let c := c.atTime t
    c.sliceHandback track

/-- CYCLE_LATE (R553). -/
def execCycleLate (t : Nat) (s : State) : Host.Outcome State Fault Refusal :=
  s.does fun c =>
    let c := c.atTime t
    c.cycleLate

/-- SUPPLY_MONITOR_CHECK (R555). -/
def execSupplyMonitorCheck (t : Nat) (channel : Fin 8) (vdrv vneg : Int) (s : State) : Host.Outcome State Fault
    Refusal :=
  s.does fun c =>
    let c := c.atTime t
    c.supplyCheck channel vdrv vneg

/-- POWER_ON_SLICE_TEST (R558). -/
def execPowerOnSliceTest (t : Nat) (failed : List Nat) (s : State) : Host.Outcome State Fault Refusal :=
  s.does fun c =>
    let c := c.atTime t
    c.powerOnTest failed

/-- EE_L_LOCKSTEP_MISMATCH (R551). -/
def execEeLLockstepMismatch (t : Nat) (s : State) : Host.Outcome State Fault Refusal :=
  s.does fun c =>
    let c := c.atTime t
    c.eeLMismatch

end Sys2Proof.Machine
end

