-- ==== Sys2Proof/Machine/Dispatch.lean ====
section
/-! DEFINITION. The meaning of every command: one call for each row of the opcode table. -/

namespace Sys2Proof.Machine

def exec (i : Instr) (s : State) : Host.Outcome State Fault Refusal :=
  match i with
  | .registerWrite t address value edges => Sys2Proof.Machine.execRegisterWrite t address value edges s
  | .w1cWrite t address value => Sys2Proof.Machine.execW1cWrite t address value s
  | .rcRead t address => Sys2Proof.Machine.execRcRead t address s
  | .lowHalfRead t address => Sys2Proof.Machine.execLowHalfRead t address s
  | .highHalfRead t address => Sys2Proof.Machine.execHighHalfRead t address s
  | .riggingAccess t address write => Sys2Proof.Machine.execRiggingAccess t address write s
  | .riggingAccessTimeout t write => Sys2Proof.Machine.execRiggingAccessTimeout t write s
  | .budgetMarginRestart t => Sys2Proof.Machine.execBudgetMarginRestart t s
  | .periodBoundary t gdi => Sys2Proof.Machine.execPeriodBoundary t gdi s
  | .inputDistributionClose t => Sys2Proof.Machine.execInputDistributionClose t s
  | .engineComputeStart t => Sys2Proof.Machine.execEngineComputeStart t s
  | .engineRelease t engine => Sys2Proof.Machine.execEngineRelease t engine s
  | .balancingStart t => Sys2Proof.Machine.execBalancingStart t s
  | .edgeReload t lateArms unfinished => Sys2Proof.Machine.execEdgeReload t lateArms unfinished s
  | .sheafTransmissionStart t overrun => Sys2Proof.Machine.execSheafTransmissionStart t overrun s
  | .sheafWindowClose t incomplete => Sys2Proof.Machine.execSheafWindowClose t incomplete s
  | .intervalStart t => Sys2Proof.Machine.execIntervalStart t s
  | .idbFrameRx t toShroud good => Sys2Proof.Machine.execIdbFrameRx t toShroud good s
  | .shroudIdbSilence t => Sys2Proof.Machine.execShroudIdbSilence t s
  | .mastIdbSilence t => Sys2Proof.Machine.execMastIdbSilence t s
  | .baleReceived t lane line late => Sys2Proof.Machine.execBaleReceived t lane line late s
  | .sramScrubStep t upsets words => Sys2Proof.Machine.execSramScrubStep t upsets words s
  | .requestCommission t => Sys2Proof.Machine.execRequestCommission t s
  | .requestCharge t => Sys2Proof.Machine.execRequestCharge t s
  | .requestRun t => Sys2Proof.Machine.execRequestRun t s
  | .requestStopTransfer t => Sys2Proof.Machine.execRequestStopTransfer t s
  | .requestEnterQuiescent t => Sys2Proof.Machine.execRequestEnterQuiescent t s
  | .requestLeaveQuiescent t => Sys2Proof.Machine.execRequestLeaveQuiescent t s
  | .requestWarmReset t => Sys2Proof.Machine.execRequestWarmReset t s
  | .modeTransition t => Sys2Proof.Machine.execModeTransition t s
  | .endOfConfigure t => Sys2Proof.Machine.execEndOfConfigure t s
  | .quiescentResume t => Sys2Proof.Machine.execQuiescentResume t s
  | .lockoutEntryPersisted t => Sys2Proof.Machine.execLockoutEntryPersisted t s
  | .lockoutEntryRetry t => Sys2Proof.Machine.execLockoutEntryRetry t s
  | .lockoutRestore t => Sys2Proof.Machine.execLockoutRestore t s
  | .earlyWarningTrip t => Sys2Proof.Machine.execEarlyWarningTrip t s
  | .vsysReturn t => Sys2Proof.Machine.execVsysReturn t s
  | .coldReset t cause => Sys2Proof.Machine.execColdReset t cause s
  | .porstNRelease t finds => Sys2Proof.Machine.execPorstNRelease t finds s
  | .watchdogExpiry t => Sys2Proof.Machine.execWatchdogExpiry t s
  | .lockstepMismatch t => Sys2Proof.Machine.execLockstepMismatch t s
  | .sprRstPulse t width => Sys2Proof.Machine.execSprRstPulse t width s
  | .ackWindowExpiry t => Sys2Proof.Machine.execAckWindowExpiry t s
  | .ack t authentic => Sys2Proof.Machine.execAck t authentic s
  | .imageSelection t levels edges => Sys2Proof.Machine.execImageSelection t levels edges s
  | .backgroundImageCheck t => Sys2Proof.Machine.execBackgroundImageCheck t s
  | .setpointWrite t index value => Sys2Proof.Machine.execSetpointWrite t index value s
  | .loopControlWrite t index value => Sys2Proof.Machine.execLoopControlWrite t index value s
  | .coefficientWrite t index value => Sys2Proof.Machine.execCoefficientWrite t index value s
  | .pllLock t stored table full band temperature => Sys2Proof.Machine.execPllLock t stored table full band temperature s
  | .relockRetry t => Sys2Proof.Machine.execRelockRetry t s
  | .bandTableUpdate t bands => Sys2Proof.Machine.execBandTableUpdate t bands s
  | .planHopRequest t plan edges => Sys2Proof.Machine.execPlanHopRequest t plan edges s
  | .lossOfReference t => Sys2Proof.Machine.execLossOfReference t s
  | .lossOfLock t => Sys2Proof.Machine.execLossOfLock t s
  | .holdoverExpiry t => Sys2Proof.Machine.execHoldoverExpiry t s
  | .referenceReturn t => Sys2Proof.Machine.execReferenceReturn t s
  | .yieldDeadline t => Sys2Proof.Machine.execYieldDeadline t s
  | .laneBlockLock t lane line => Sys2Proof.Machine.execLaneBlockLock t lane line s
  | .laneLossOfLock t lane line signalLost => Sys2Proof.Machine.execLaneLossOfLock t lane line signalLost s
  | .laneResetRequest t lane => Sys2Proof.Machine.execLaneResetRequest t lane s
  | .loopTimedTimeout t lane => Sys2Proof.Machine.execLoopTimedTimeout t lane s
  | .echoRequestSend t lane departure => Sys2Proof.Machine.execEchoRequestSend t lane departure s
  | .echoResponseRx t lane line arrival => Sys2Proof.Machine.execEchoResponseRx t lane line arrival s
  | .echoTimeout t lane tag => Sys2Proof.Machine.execEchoTimeout t lane tag s
  | .idleBlockRx t lane line => Sys2Proof.Machine.execIdleBlockRx t lane line s
  | .fomUpdate t lane figure => Sys2Proof.Machine.execFomUpdate t lane figure s
  | .eyeScanRequest t lane => Sys2Proof.Machine.execEyeScanRequest t lane s
  | .eyeScanInterval t lane => Sys2Proof.Machine.execEyeScanInterval t lane s
  | .eyeScanComplete t lane width height => Sys2Proof.Machine.execEyeScanComplete t lane width height s
  | .readaptRequest t lane => Sys2Proof.Machine.execReadaptRequest t lane s
  | .readaptComplete t lane => Sys2Proof.Machine.execReadaptComplete t lane s
  | .eeCommit t => Sys2Proof.Machine.execEeCommit t s
  | .tripAsserted t input level ns => Sys2Proof.Machine.execTripAsserted t input level ns s
  | .tripMaskEnd t input => Sys2Proof.Machine.execTripMaskEnd t input s
  | .cellBypass t cell => Sys2Proof.Machine.execCellBypass t cell s
  | .cellRelease t cell => Sys2Proof.Machine.execCellRelease t cell s
  | .cellSwap t cell => Sys2Proof.Machine.execCellSwap t cell s
  | .bypassConfirmTimeout t cell => Sys2Proof.Machine.execBypassConfirmTimeout t cell s
  | .rotationAdvance t arm => Sys2Proof.Machine.execRotationAdvance t arm s
  | .spreadWatchFire t arm => Sys2Proof.Machine.execSpreadWatchFire t arm s
  | .prechargeTimeout t arm => Sys2Proof.Machine.execPrechargeTimeout t arm s
  | .nop engine w => Sys2Proof.Machine.execNop engine w s
  | .clr engine w => Sys2Proof.Machine.execClr engine w s
  | .lda engine w => Sys2Proof.Machine.execLda engine w s
  | .mac engine w => Sys2Proof.Machine.execMac engine w s
  | .msu engine w => Sys2Proof.Machine.execMsu engine w s
  | .mac2 engine w => Sys2Proof.Machine.execMac2 engine w s
  | .ash engine w => Sys2Proof.Machine.execAsh engine w s
  | .sat engine w => Sys2Proof.Machine.execSat engine w s
  | .addi engine w => Sys2Proof.Machine.execAddi engine w s
  | .int engine w => Sys2Proof.Machine.execInt engine w s
  | .trk engine w => Sys2Proof.Machine.execTrk engine w s
  | .mov engine w => Sys2Proof.Machine.execMov engine w s
  | .neg engine w => Sys2Proof.Machine.execNeg engine w s
  | .add engine w => Sys2Proof.Machine.execAdd engine w s
  | .sub engine w => Sys2Proof.Machine.execSub engine w s
  | .mul engine w => Sys2Proof.Machine.execMul engine w s
  | .min engine w => Sys2Proof.Machine.execMin engine w s
  | .max engine w => Sys2Proof.Machine.execMax engine w s
  | .lim engine w => Sys2Proof.Machine.execLim engine w s
  | .tab engine w => Sys2Proof.Machine.execTab engine w s
  | .sin engine w => Sys2Proof.Machine.execSin engine w s
  | .clk engine w => Sys2Proof.Machine.execClk engine w s
  | .ick engine w => Sys2Proof.Machine.execIck engine w s
  | .prk engine w => Sys2Proof.Machine.execPrk engine w s
  | .ipk engine w => Sys2Proof.Machine.execIpk engine w s
  | .inSlot engine w => Sys2Proof.Machine.execInSlot engine w s
  | .outSlot engine w => Sys2Proof.Machine.execOutSlot engine w s
  | .msel engine w => Sys2Proof.Machine.execMsel engine w s
  | .setx engine w => Sys2Proof.Machine.execSetx engine w s
  | .addx engine w => Sys2Proof.Machine.execAddx engine w s
  | .rep engine w => Sys2Proof.Machine.execRep engine w s
  | .skn engine w => Sys2Proof.Machine.execSkn engine w s
  | .endLoop engine w => Sys2Proof.Machine.execEndLoop engine w s
  | .svFrameRx t port frame => Sys2Proof.Machine.execSvFrameRx t port frame s
  | .sampleMissing t stream second count => Sys2Proof.Machine.execSampleMissing t stream second count s
  | .gooseFrameRx t port frame => Sys2Proof.Machine.execGooseFrameRx t port frame s
  | .gooseTtlExpiry t subscription => Sys2Proof.Machine.execGooseTtlExpiry t subscription s
  | .sequenceTrigger t sequence => Sys2Proof.Machine.execSequenceTrigger t sequence s
  | .adcResultComplete t entry bits retries arrives => Sys2Proof.Machine.execAdcResultComplete t entry bits retries arrives s
  | .sliceRotation t => Sys2Proof.Machine.execSliceRotation t s
  | .channelSourceChange t => Sys2Proof.Machine.execChannelSourceChange t s
  | .calibrationComplete t slice offset gain inLimits => Sys2Proof.Machine.execCalibrationComplete t slice offset gain inLimits s
  | .comparatorOutside t comparator level => Sys2Proof.Machine.execComparatorOutside t comparator level s
  | .comparatorInside t comparator level => Sys2Proof.Machine.execComparatorInside t comparator level s
  | .comparatorResolved t comparator level => Sys2Proof.Machine.execComparatorResolved t comparator level s
  | .thresholdReadback t conversions => Sys2Proof.Machine.execThresholdReadback t conversions s
  | .meteringWindowEnd t point => Sys2Proof.Machine.execMeteringWindowEnd t point s
  | .periodicSave t => Sys2Proof.Machine.execPeriodicSave t s
  | .saveRetry t => Sys2Proof.Machine.execSaveRetry t s
  | .metrologySave t => Sys2Proof.Machine.execMetrologySave t s
  | .finalSaveWritten t => Sys2Proof.Machine.execFinalSaveWritten t s
  | .gdStaticOn t channel => Sys2Proof.Machine.execGdStaticOn t channel s
  | .gdStaticOff t channel => Sys2Proof.Machine.execGdStaticOff t channel s
  | .gdRearm t channel mv => Sys2Proof.Machine.execGdRearm t channel mv s
  | .gdStampsLate t channel => Sys2Proof.Machine.execGdStampsLate t channel s
  | .gdUvloEntry t channel negative mv => Sys2Proof.Machine.execGdUvloEntry t channel negative mv s
  | .gdUvloExit t channel drv neg ns => Sys2Proof.Machine.execGdUvloExit t channel drv neg ns s
  | .gdShortDetect t channel mv => Sys2Proof.Machine.execGdShortDetect t channel mv s
  | .gdBlankEnd t channel mv => Sys2Proof.Machine.execGdBlankEnd t channel mv s
  | .gdSoftOffEnd t channel => Sys2Proof.Machine.execGdSoftOffEnd t channel s
  | .gdInterlock t channel => Sys2Proof.Machine.execGdInterlock t channel s
  | .faultEvent t origins => Sys2Proof.Machine.execFaultEvent t origins s
  | .faultWindowExpiry t source => Sys2Proof.Machine.execFaultWindowExpiry t source s
  | .lockoutBitsCapture t => Sys2Proof.Machine.execLockoutBitsCapture t s
  | .aliveToggle t b => Sys2Proof.Machine.execAliveToggle t b s
  | .fcKick t key => Sys2Proof.Machine.execFcKick t key s
  | .kickTimeout t => Sys2Proof.Machine.execKickTimeout t s
  | .sprADemand t ns => Sys2Proof.Machine.execSprADemand t ns s
  | .sprBDemand t ns => Sys2Proof.Machine.execSprBDemand t ns s
  | .sprInputRelease t b ns => Sys2Proof.Machine.execSprInputRelease t b ns s
  | .discrepancyTimeout t => Sys2Proof.Machine.execDiscrepancyTimeout t s
  | .consentLapse t => Sys2Proof.Machine.execConsentLapse t s
  | .safeTelegramRx t port bytes => Sys2Proof.Machine.execSafeTelegramRx t port bytes s
  | .permitCommand t => Sys2Proof.Machine.execPermitCommand t s
  | .removeCommand t => Sys2Proof.Machine.execRemoveCommand t s
  | .telegramCopyTimeout t seq => Sys2Proof.Machine.execTelegramCopyTimeout t seq s
  | .telegramWatchExpiry t => Sys2Proof.Machine.execTelegramWatchExpiry t s
  | .statusTelegramSend t => Sys2Proof.Machine.execStatusTelegramSend t s
  | .halyardHeaderRx t lane header => Sys2Proof.Machine.execHalyardHeaderRx t lane header s
  | .partnerSilence t => Sys2Proof.Machine.execPartnerSilence t s
  | .silenceTakeoverCheck t => Sys2Proof.Machine.execSilenceTakeoverCheck t s
  | .silenceYieldCheck t => Sys2Proof.Machine.execSilenceYieldCheck t s
  | .halMarkRx t arrival countdown index handover => Sys2Proof.Machine.execHalMarkRx t arrival countdown index handover s
  | .copyFrameRx t index part share content crcOk => Sys2Proof.Machine.execCopyFrameRx t index part share content crcOk s
  | .idNonceRx t lane frame crc => Sys2Proof.Machine.execIdNonceRx t lane frame crc s
  | .idProofRx t lane member rank key proof crc => Sys2Proof.Machine.execIdProofRx t lane member rank key proof crc s
  | .identityCheckComplete t => Sys2Proof.Machine.execIdentityCheckComplete t s
  | .identityRetry t => Sys2Proof.Machine.execIdentityRetry t s
  | .handoverRequest t => Sys2Proof.Machine.execHandoverRequest t s
  | .handoverAct t => Sys2Proof.Machine.execHandoverAct t s
  | .handoverRetry t => Sys2Proof.Machine.execHandoverRetry t s
  | .portLinkUp t port speed joined => Sys2Proof.Machine.execPortLinkUp t port speed joined s
  | .portLinkLoss t port => Sys2Proof.Machine.execPortLinkLoss t port s
  | .lanFaultTimeout t port => Sys2Proof.Machine.execLanFaultTimeout t port s
  | .frameRxClassify t port frame reserved ordinary => Sys2Proof.Machine.execFrameRxClassify t port frame reserved ordinary s
  | .hsrForward t port frame => Sys2Proof.Machine.execHsrForward t port frame s
  | .supervisionFrameSend t pair => Sys2Proof.Machine.execSupervisionFrameSend t pair s
  | .ptpSyncRx t port message => Sys2Proof.Machine.execPtpSyncRx t port message s
  | .ptpAnnounceTimeout t port source => Sys2Proof.Machine.execPtpAnnounceTimeout t port source s
  | .pdelayReqRx t port => Sys2Proof.Machine.execPdelayReqRx t port s
  | .ptpMessageSend t port message => Sys2Proof.Machine.execPtpMessageSend t port message s
  | .pulseEdge t output => Sys2Proof.Machine.execPulseEdge t output s
  | .poArm t output ns => Sys2Proof.Machine.execPoArm t output ns s
  | .svPublishSample t stream second sample => Sys2Proof.Machine.execSvPublishSample t stream second sample s
  | .gooseFastChange t block => Sys2Proof.Machine.execGooseFastChange t block s
  | .gooseRepeat t block => Sys2Proof.Machine.execGooseRepeat t block s
  | .stationRequestRx t port datagram => Sys2Proof.Machine.execStationRequestRx t port datagram s
  | .stationCheckComplete t id edges => Sys2Proof.Machine.execStationCheckComplete t id edges s
  | .read t key address count => Sys2Proof.Machine.execRead t key address count s
  | .write t key address value edges => Sys2Proof.Machine.execWrite t key address value edges s
  | .trigger t key => Sys2Proof.Machine.execTrigger t key s
  | .recList t key first count => Sys2Proof.Machine.execRecList t key first count s
  | .recRead t key record offset count => Sys2Proof.Machine.execRecRead t key record offset count s
  | .ledgerRead t key entry offset count => Sys2Proof.Machine.execLedgerRead t key entry offset count s
  | .ledgerNewest t key kind count => Sys2Proof.Machine.execLedgerNewest t key kind count s
  | .logRead t key index offset count => Sys2Proof.Machine.execLogRead t key index offset count s
  | .attest t key address value => Sys2Proof.Machine.execAttest t key address value s
  | .unknownOperation t key code => Sys2Proof.Machine.execUnknownOperation t key code s
  | .arpIcmpRx t port message => Sys2Proof.Machine.execArpIcmpRx t port message s
  | .thermalEvaluation t readings => Sys2Proof.Machine.execThermalEvaluation t readings s
  | .shutdownRecordWritten t => Sys2Proof.Machine.execShutdownRecordWritten t s
  | .shutdownDeadline t => Sys2Proof.Machine.execShutdownDeadline t s
  | .shutdownRecordRetry t => Sys2Proof.Machine.execShutdownRecordRetry t s
  | .reefForcedClear t => Sys2Proof.Machine.execReefForcedClear t s
  | .holdupReadyTimeout t => Sys2Proof.Machine.execHoldupReadyTimeout t s
  | .granaryRequest t what => Sys2Proof.Machine.execGranaryRequest t what s
  | .granaryReturn t what => Sys2Proof.Machine.execGranaryReturn t what s
  | .granaryStarved t what => Sys2Proof.Machine.execGranaryStarved t what s
  | .sliceCycleStart t => Sys2Proof.Machine.execSliceCycleStart t s
  | .ceSliceHandover t engine => Sys2Proof.Machine.execCeSliceHandover t engine s
  | .eeSliceHandover t engine => Sys2Proof.Machine.execEeSliceHandover t engine s
  | .eeSSlice t spare => Sys2Proof.Machine.execEeSSlice t spare s
  | .pcsSliceHandover t pcs => Sys2Proof.Machine.execPcsSliceHandover t pcs s
  | .pcsHandoverTimeout t lane => Sys2Proof.Machine.execPcsHandoverTimeout t lane s
  | .blockWireTest t wire latched => Sys2Proof.Machine.execBlockWireTest t wire latched s
  | .securitySlice t => Sys2Proof.Machine.execSecuritySlice t s
  | .compareUnitTest t => Sys2Proof.Machine.execCompareUnitTest t s
  | .sliceSignatureCompare t track signature => Sys2Proof.Machine.execSliceSignatureCompare t track signature s
  | .sliceHandback t track => Sys2Proof.Machine.execSliceHandback t track s
  | .cycleLate t => Sys2Proof.Machine.execCycleLate t s
  | .supplyMonitorCheck t channel vdrv vneg => Sys2Proof.Machine.execSupplyMonitorCheck t channel vdrv vneg s
  | .powerOnSliceTest t failed => Sys2Proof.Machine.execPowerOnSliceTest t failed s
  | .eeLLockstepMismatch t => Sys2Proof.Machine.execEeLLockstepMismatch t s
  | .nandOpComplete t block page read ok found => Sys2Proof.Machine.execNandOpComplete t block page read ok found s
  | .nandOpTimeout t block read => Sys2Proof.Machine.execNandOpTimeout t block read s
  | .retentionRefresh t copy wrong => Sys2Proof.Machine.execRetentionRefresh t copy wrong s
  | .ledgerWrite t => Sys2Proof.Machine.execLedgerWrite t s
  | .ledgerScan t unreadable => Sys2Proof.Machine.execLedgerScan t unreadable s
  | .recorderSample t => Sys2Proof.Machine.execRecorderSample t s
  | .recordTrigger t => Sys2Proof.Machine.execRecordTrigger t s
  | .recordLock t => Sys2Proof.Machine.execRecordLock t s
  | .recordFlush t => Sys2Proof.Machine.execRecordFlush t s
  | .logWrite t => Sys2Proof.Machine.execLogWrite t s
  | .firmwareBoot t => Sys2Proof.Machine.execFirmwareBoot t s
  | .firmwareRetry t => Sys2Proof.Machine.execFirmwareRetry t s
  | .identityDerivation t derived => Sys2Proof.Machine.execIdentityDerivation t derived s
  | .vaultClear t => Sys2Proof.Machine.execVaultClear t s
  | .supplyWarning t supply => Sys2Proof.Machine.execSupplyWarning t supply s
  | .bypass t din => Sys2Proof.Machine.execBypass t din s
  | .idcode t => Sys2Proof.Machine.execIdcode t s
  | .samplePreload t balls din => Sys2Proof.Machine.execSamplePreload t balls din s
  | .status t => Sys2Proof.Machine.execStatus t s
  | .dbgLock t => Sys2Proof.Machine.execDbgLock t s
  | .dbgChallenge t din => Sys2Proof.Machine.execDbgChallenge t din s
  | .dbgResponse t din => Sys2Proof.Machine.execDbgResponse t din s
  | .dbgResponseCheck t => Sys2Proof.Machine.execDbgResponseCheck t s
  | .challengeExpiry t => Sys2Proof.Machine.execChallengeExpiry t s
  | .ownerFuse t din slot1 hash burned interrupted => Sys2Proof.Machine.execOwnerFuse t din slot1 hash burned interrupted s
  | .extest t balls din => Sys2Proof.Machine.execExtest t balls din s
  | .extestPulse t balls din => Sys2Proof.Machine.execExtestPulse t balls din s
  | .extestTrain t balls din => Sys2Proof.Machine.execExtestTrain t balls din s
  | .engineRead t din memory => Sys2Proof.Machine.execEngineRead t din memory s
  | .halt t din => Sys2Proof.Machine.execHalt t din s
  | .resume t din => Sys2Proof.Machine.execResume t din s
  | .supplyReturn t supply => Sys2Proof.Machine.execSupplyReturn t supply s
  | .tripDeasserted t input level ns => Sys2Proof.Machine.execTripDeasserted t input level ns s
  | .localEdge t => Sys2Proof.Machine.execLocalEdge t s
  | .stationLeaveTimeout t id => Sys2Proof.Machine.execStationLeaveTimeout t id s
  | .vsysFallsToHold t => Sys2Proof.Machine.execVsysFallsToHold t s
  | .holdReadyChange t millivolts => Sys2Proof.Machine.execHoldReadyChange t millivolts s
  | .frameTransmissionEnd t port => Sys2Proof.Machine.execFrameTransmissionEnd t port s
  | .echoRequestRx t lane tag => Sys2Proof.Machine.execEchoRequestRx t lane tag s

end Sys2Proof.Machine
end

