-- ==== Sys2Proof/Safety.lean ====
section
/-! DEFINITION. What counts as a safe state: memory and registers in canonical form, and the wires of the Shroud deasserted only
while every condition for it holds (R431 to R434). -/

namespace Sys2Proof.Machine

/-- The canonical form of the SRAM's cells: addresses strictly rising, and no entry equal to what an unlisted address reads as. -/
def Memory.wf (cells : List Host.Cell) : Bool := storeCanon (fun _ b => b != sramDefault) cells

/-- An entry of the register store: it is the field of some instance, within its width, and not its value after a cold start. -/
def registerEntryOk (k v : Nat) : Bool :=
  let f := Fld.ofNat (k % 1024)
  f.key (k / 1024) == k && decide (v < 2 ^ f.spec.width) && v != f.coldAt (k / 1024)

/-- The canonical form of the register store. -/
def Registers.wf (regs : Store Nat) : Bool := storeCanon registerEntryOk regs

/-- The Shroud asserts its four block wires and every driver disable (R431). -/
def Chip.wiresAsserted (s : Chip) : Bool := s.rd .shroudStat_bw == 15 && s.rd .shroudStat_drvDisable == 1

/-- Both consents are present: the Shroud's with every condition of R434, and the Mast die's as the Shroud holds it (R431, R432). -/
def Chip.consentsPresent (s : Chip) : Bool :=
  s.on .shroudStat_shroudConsent && s.on .shroudStat_mastConsent && s.shroudWithheld == 0

/-- The wires are safe: asserted, or both consents present (R431, R433). -/
def Chip.wiresSafe (s : Chip) : Bool := s.wiresAsserted || s.consentsPresent

/-- A safe state. -/
def Chip.safe (s : Chip) : Bool := Memory.wf s.sram.cells && Registers.wf s.regs && s.wiresSafe

/-- Command `c` answers a next state: the queue as it stands, and a block of which `P` holds. -/
def Completes (c : Instr) (s : State) (P : Chip → Prop) : Prop := ∃ u, exec c s = .next { s with chip := u } ∧ P u

/-- The parts of the block beside its register fields. -/
inductive Part where
  | sram | bus | clock | live | sys | modes | pll | lanes | edges | arms | engines | faults | spr | thermal | converter
  | power | triggers | halyard | inputs | net | metrology | storage | slices | security | drawn
  deriving DecidableEq, Repr

/-- A part of the block is the same in two states. -/
def Part.same (p : Part) (s u : Chip) : Prop :=
  match p with
  | .sram => u.sram = s.sram
  | .bus => u.bus = s.bus
  | .clock => u.clock = s.clock
  | .live => u.live = s.live
  | .sys => u.sys = s.sys
  | .modes => u.modes = s.modes
  | .pll => u.pll = s.pll
  | .lanes => u.lanes = s.lanes
  | .edges => u.edges = s.edges
  | .arms => u.arms = s.arms
  | .engines => u.engines = s.engines
  | .faults => u.faults = s.faults
  | .spr => u.spr = s.spr
  | .thermal => u.thermal = s.thermal
  | .converter => u.converter = s.converter
  | .power => u.power = s.power
  | .triggers => u.triggers = s.triggers
  | .halyard => u.halyard = s.halyard
  | .inputs => u.inputs = s.inputs
  | .net => u.net = s.net
  | .metrology => u.metrology = s.metrology
  | .storage => u.storage = s.storage
  | .slices => u.slices = s.slices
  | .security => u.security = s.security
  | .drawn => u.drawn = s.drawn

/-- The frame of command `c`: it answers a next state with the queue as it stands, in which every register field outside `fields`
has, in every instance, the value it had, and every part outside `parts` is as it was. -/
def Changes (c : Instr) (s : State) (fields : List Fld) (parts : List Part) : Prop :=
  Completes c s fun u => (∀ f, f ∉ fields → ∀ i, u.rd f i = s.chip.rd f i) ∧ ∀ p, p ∉ parts → p.same s.chip u

/-- The block stands in SAFE HOLD with cause `c` (R41, R46, R70, R226, R386, R408, R416, R431, R432): the mode and the cause, no window open, the
consent withdrawn and the Shroud's wires asserted, a debug halt and static_on ended, ALIVE_A and ALIVE_B frozen. -/
def Chip.heldFor (s : Chip) (c : HoldCause) : Prop :=
  s.mode = .safeHold ∧ s.rd .modeStat_holdCause = c.code ∧ s.rd .delibStat_windowOpen = 0 ∧
    s.rd .fcStat_reaction = flag c.isSystem ∧ s.rd .shroudStat_mastConsent = 0 ∧ s.wiresAsserted = true ∧
    s.rd .eeStat_halted = 0 ∧ (∀ n < 8, s.rd .gdStat_staticOn n = 0) ∧ s.rd .fcStat_aliveAFrozen = 1 ∧ s.rd .fcStat_aliveBFrozen = 1

/-- The registers of two states of the block agree but for the listed fields. -/
def Chip.sameBut (u s : Chip) (fields : List (Fld × Nat)) : Prop := ∀ f i, (f, i) ∉ fields → u.rd f i = s.rd f i

/-- Counter `f` of instance `i` of state `s` rose by `n`, held at the largest value of its field (R5). -/
def Chip.counted (u s : Chip) (f : Fld) (i : Nat := 0) (n : Nat := 1) : Prop :=
  u.rd f i = min (s.rd f i + n) (2 ^ f.spec.width - 1)

/-- One event of origin `o` of the Rigging die is on its way: to the collector over a link that is up, otherwise waiting for it (R414). -/
def Chip.raisedRigging (u s : Chip) (o : Nat) : Prop :=
  if s.on .idbStat_linkUp then u.faults.events = s.faults.events ++ [o] else u.faults.idbEvents = s.faults.idbEvents ++ [o]

/-- One event of origin `o` of the Mast die is on its way to the collector, and no other (R401). -/
def Chip.raised (u s : Chip) (o : Nat) : Prop := u.faults.events = s.faults.events ++ [o]

/-- A request for leave waits in the Granary's queue or holds its leave (R533). -/
def Chip.asks (s : Chip) (w : Leave) : Prop := s.waitsLeave w = true ∨ s.holdsLeave w = true

/-- Frame `f` waits in transmit queue `q` of port `p`, or is going out on it (R486, R487). -/
def Chip.goesOut (s : Chip) (p q : Nat) (f : FrameBody) : Prop := (q, f) ∈ (s.port p).queue ∨ (s.port p).sending = some f

/-- Frame `f` as port `p` sends its copy: in PRP and HSR with the pair's sequence number and the port's LAN or path (R482). -/
def Chip.copyOn (s : Chip) (p : Nat) (f : FrameBody) : FrameBody :=
  if s.pairMode (p / 2) = 0 then f else .tagged (s.pairMode (p / 2) == 2) (storeGet s.net.pairSeq (p / 2) 0) (p % 2) f

/-- PTP message `f` as port `p` sends it: tagged in HSR alone (R482, R492). -/
def Chip.ptpOn (s : Chip) (p : Nat) (f : FrameBody) : FrameBody := if s.pairMode (p / 2) = 2 then s.copyOn p f else f

/-- The state of the block with the bytes of an operation's reply in its answer (R511). -/
def Chip.replying (s : Chip) (status : Nat) (words : List Nat) : Chip :=
  { s with bus := { s.bus with reply := StationReply.bytes ⟨status, words⟩ } }

/-- The fields that an entry into SAFE HOLD may change, at the Mast die and at the Shroud (R46, R59, R70, R386, R413, R416, R427, R431, R432, R606). -/
def holdFields : List Fld :=
  [.armStat_pcPhase, .cePower_stopping, .dbgStat_challengeOpen, .dbgStat_unlocked, .dbgStat_windowLeft, .delibStat_windowLeft,
   .delibStat_windowOpen, .eeStat_halted, .fcStat_aliveAFrozen, .fcStat_aliveBFrozen, .fcStat_reaction, .gdStat_staticOn, .laneStat_state,
   .modeReq_pending, .modeStat_holdCause, .modeStat_lockoutPersisted, .modeStat_mode, .shroudStat_bw, .shroudStat_drvDisable,
   .shroudStat_holdCause, .shroudStat_lockout, .shroudStat_mastConsent, .shroudStat_shroudConsent, .shroudStat_withheld]

/-- The fields that the walk of the Granary over its queue may change (R527, R533, R534). -/
def leaveFields : List Fld :=
  [.grCount_grants, .grCount_setAside, .grPower_granted, .huStat_charge]

/-- The fields that follow a lane out of or into service, with its cell (R61, R65, R66, R151, R237). -/
def laneFields : List Fld :=
  [.cellStat_bypassPending, .cellStat_lastCause, .cellStat_releasePending, .cellStat_state, .halStat_lanesReady, .laneStat_heldReason,
   .laneStat_ready, .laneStat_state, .readyLaneA_ready, .readyLaneB_ready, .readyLaneC_ready, .readyUnit_ax]

/-- The fields that the slice cycle changes as a slice begins or is handed over (R540 to R547). -/
def sliceFields : List Fld :=
  [.ceCfg_runsOn, .ceStat_nActive, .ceStat_nRetired, .ceStat_nSpare, .ceStat_noCover, .eeEstat_standFor, .sltCount_skipped,
   .sltCount_waits, .sltCycle_last, .sltCycle_worst, .sltStat_active, .sltStat_cycles, .sltStat_running, .sltStat_uncovered]

/-- The fields that the retirement of an instance may change (R551). -/
def retireFields : List Fld :=
  [.ceCfg_lost, .ceCfg_retired, .ceCfg_runsOn, .ceStat_nActive, .ceStat_nRetired, .ceStat_nSpare, .ceStat_noCover, .dbgStat_unlocked,
   .eeEstat_standFor, .readyEdgeA_ready, .readyEdgeB_ready, .readyEdgeC_ready, .readyUnit_ce, .readyUnit_eeL, .readyUnit_eeS,
   .secStat_retired, .sltCount_failures, .sltLast_index, .sltLast_kind, .sltLast_result, .sltRetEe_retired, .sltRetMisc_bw,
   .sltRetMisc_eeL, .sltRetMisc_eeS, .sltRetMisc_gdMon, .sltRetMisc_pcsS, .sltRetMisc_security, .sltRetPcs_retired]

/-- The six 64-bit registers with a shadow: low half, high half, the field of the high half, and the STALE flag of instance `i` as field,
bit and instance (R6, R119, R121, R365 to R368, R514). -/
def halfTable (i : Nat) : List (Reg × Reg × Fld × Fld × Nat × Nat) :=
  [(.tbCountLo, .tbCountHi, .tbCountHi_count, .tbStat_countStale, 0, 0),
   (.tbBoundaryLo, .tbBoundaryHi, .tbBoundaryHi_time, .tbStat_boundaryStale, 0, 0),
   (.mptDeltaLo, .mptDeltaHi, .mptDeltaHi_energy, .mptStaleA_stale, i % 28, i / 28),
   (.mptTotalLo, .mptTotalHi, .mptTotalHi_energy, .mptStaleB_stale, i % 28, i / 28),
   (.mptNetLo, .mptNetHi, .mptNetHi_energy, .mptStaleA_net, i % 4, i / 4),
   (.ptpTimeLo, .ptpTimeHi, .ptpTimeHi_time, .ptpStat_timeStale, 0, 0)]

end Sys2Proof.Machine
end

