-- ==== Sys2Proof/Certificates/Slice0/Obligations.lean ====
section
/-! DEFINITION. The statements for the provers. A command that completes answers a next state with the queue as it stands (`Completes`); its
own effect is what the statement says of the block after it. `c` is the block at the instant `t` of the command. -/

open Sys2Proof Sys2Proof.Machine

/-- A step with a command at the front of the queue is exec of that command on the state with the queue's rest, and on an empty queue the block idles:
it answers the state as it stands. The queue and the idling are the model's choice (log entry 1); the spec's bus takes one access after another (R3).
-/
def Obligations.StepTakesTheFrontOfTheQueue : Prop :=
  (∀ (c : Instr) (rest : List Instr) (s : State), step { s with pending := c :: rest } = exec c { s with pending := rest }) ∧
  ∀ s : State, s.pending = [] → step s = .next s

/-- After reset the SRAM and the registers stand in their canonical forms and the Shroud asserts its wires (R431, R620): the invariant of the model
holds at State.reset. The canonical forms are the model's own (log entry 5). -/
def Obligations.ResetIsSafe : Prop :=
  State.reset.chip.safe = true ∧ State.reset.chip.wiresAsserted = true ∧ State.reset.pending = []

/-- Whatever command is taken, from every safe state the step leads to a safe state: the SRAM and the registers stay in canonical form, each field
within its width, and the Shroud's block wires and driver disables are deasserted only while the Mast consent and every condition of the Shroud
consent hold (R431, R432, R433, R434). What the spec leaves open follows log entry 5. -/
def Obligations.EveryStepKeepsTheBlockSafe : Prop :=
  ∀ s u : State, s.chip.safe = true → step s = .next u → u.chip.safe = true

/-- A write to a register without a row of its own: each field of the register takes what its access code gives it (R5): RW fields the bits of the
word at their place, W1C bits written as 1 clear, every other field stays; no other field and no other instance changes. A write to the SRAM sets the
four bytes of its word, the least significant at the lowest address, and nothing else; where the code of the 128-bit word corrects an error, it is
counted and the word stands right after the write, and where it detects an uncorrectable one the write is aborted and the word reported (R35, R37,
R38). What the spec leaves open follows log entries 6, 104. -/
def Obligations.WritesActByAccessCodeAndWord : Prop :=
  (∀ (s : State) (t : Nat) (a v : Word) (edges : Bool) (r : Reg) (i : Nat),
    (a.toNat < sramBase ∨ sramEnd ≤ a.toNat) → (onRigging a.toNat = true → s.chip.on .idbStat_linkUp = true) →
    findReg Reg.all a.toNat = some (r, i) →
    r ∉ [.modeReq, .budgetMargin, .liveWord, .pllPlanReq, .laneCtrl, .eeCommit, .wcLatch, .fcKick, .poArmNs] →
    ∀ c ∈ [Instr.registerWrite t a v edges, Instr.w1cWrite t a v], Completes c s fun u =>
      (∀ f ∈ r.spec.fields,
        (f.spec.access = .rw → u.rd f i = bits v.toNat f.spec.lo f.spec.width) ∧
        (f.spec.access = .w1c → ∀ n < f.spec.width,
          bitAt (u.rd f i) n = (bitAt (s.chip.rd f i) n && !bitAt v.toNat (f.spec.lo + n))) ∧
        (f.spec.access ≠ .rw → f.spec.access ≠ .w1c → u.rd f i = s.chip.rd f i)) ∧
      (∀ f j, f ∉ r.spec.fields ∨ j ≠ i → u.rd f j = s.chip.rd f j) ∧
      u = { s.chip with regs := u.regs, clock := (s.chip.atTime t).clock }) ∧
  (∀ (s : State) (t : Nat) (a v : Word) (edges : Bool), sramBase ≤ a.toNat → a.toNat < sramEnd → sramReadOnly a.toNat = false →
    let w := a.toNat / 4 * 4
    let k := sramWordOf a.toNat
    let written (u : Chip) : Prop :=
      ∀ b, u.sramByte b = if w ≤ b ∧ b < w + 4 then BitVec.ofNat 8 (v.toNat / 256 ^ (b - w)) else s.chip.sramByte b
    (s.chip.sramShows k = .clean → Completes (.registerWrite t a v edges) s fun u =>
      written u ∧ u = { s.chip.atTime t with sram := { s.chip.sram with cells := u.sram.cells } }) ∧
    (s.chip.sramShows k = .corrected → Completes (.registerWrite t a v edges) s fun u =>
      written u ∧ u.counted s.chip .sramCorrCount_count ∧ u.sameBut s.chip [(.sramCorrCount_count, 0)] ∧
      (∀ j, u.sramShows j = if j = k then .clean else s.chip.sramShows j)) ∧
    (s.chip.sramShows k = .uncorrectable → Completes (.registerWrite t a v edges) s fun u =>
      u.rd .sramUncorrAddr_addr = (sramBase + 16 * k) / 16 ∧ u.rd .sramUncorrAddr_valid = 1 ∧
      u.faults.events = s.chip.faults.events ++ [originSram] ∧ u.sram = s.chip.sram))

/-- A write to a register whose write is a command of the table is that command (R39, R44, R56, R111, R163, R205, R415): of EE_COMMIT in COMMISSION.
In every other mode a write to it does nothing (the model's choice, log entry 710). -/
def Obligations.CommandRegistersCarryTheirCommands : Prop :=
  ∀ (s : State) (t : Nat) (v : Word) (edges : Bool),
    let w (a : Word) : Host.Outcome State Fault Refusal := exec (.registerWrite t a v edges) s
    (∀ c, (bits v.toNat 0 4, c) ∈ [(1, Instr.requestCommission t), (2, .requestCharge t), (3, .requestRun t),
        (4, .requestStopTransfer t), (5, .requestEnterQuiescent t), (6, .requestLeaveQuiescent t), (7, .requestWarmReset t)] →
      w 0x40000008 = exec c s) ∧
    (bitAt v.toNat 31 = true → w 0x4000010C = exec (.budgetMarginRestart t) s) ∧
    (∀ p : Fin 8, bits v.toNat 0 3 = p → w 0x40000304 = exec (.planHopRequest t p edges) s) ∧
    (∀ n : Fin 100, bits v.toNat 0 3 = 1 → w (BitVec.ofNat 32 (0x41000018 + 4096 * n)) = exec (.laneResetRequest t n) s) ∧
    (s.chip.mode = .commission → bitAt v.toNat 0 = true → w 0x42000000 = exec (.eeCommit t) s) ∧
    (s.chip.mode ≠ .commission → w 0x42000000 = .next { s with chip := s.chip.atTime t })

/-- A read returns the register's fields at their places and clears its RC fields in the same access; every other field, and every other instance,
stays (R5). Where no register and no memory stands, a read returns 0 and a write has no effect (R8). -/
def Obligations.ReadsClearRcFieldsAndEmptyAddressesReadZero : Prop :=
  (∀ (s : State) (t : Nat) (a : Word) (r : Reg) (i : Nat),
    (a.toNat < sramBase ∨ sramEnd ≤ a.toNat) → (onRigging a.toNat = true → s.chip.on .idbStat_linkUp = true) →
    findReg Reg.all a.toNat = some (r, i) → highHalfOf r = none → isHighHalf r = none →
    ∀ c ∈ [Instr.rcRead t a, .riggingAccess t a none], Completes c s fun u =>
      u.bus.lastRead = BitVec.ofNat 32 ((s.chip.atTime t).readWord r i) ∧
      (∀ f ∈ r.spec.fields, f.spec.access = .rc → u.rd f i = 0) ∧
      (∀ f j, f ∉ r.spec.fields ∨ f.spec.access ≠ .rc ∨ j ≠ i → u.rd f j = s.chip.rd f j) ∧
      u = { s.chip.atTime t with regs := u.regs, bus := { s.chip.bus with lastRead := u.bus.lastRead } }) ∧
  (∀ (s : State) (t : Nat) (a v : Word) (edges : Bool),
    (a.toNat < sramBase ∨ sramEnd ≤ a.toNat) → (onRigging a.toNat = true → s.chip.on .idbStat_linkUp = true) →
    findReg Reg.all a.toNat = none →
    (∀ c ∈ [Instr.registerWrite t a v edges, .w1cWrite t a v, .riggingAccess t a (some v)], Completes c s fun u => u = s.chip.atTime t) ∧
    (∀ c ∈ [Instr.rcRead t a, .lowHalfRead t a, .highHalfRead t a, .riggingAccess t a none], Completes c s fun u =>
      u.bus.lastRead = 0 ∧ u = { s.chip.atTime t with bus := { s.chip.bus with lastRead := 0 } }))

/-- The two halves of a 64-bit register (R5, R6): the low half's read returns the low word, latches the high word and, for the delta registers alone,
resets the whole; the high half's read returns the shadow, and sets STALE exactly where no read of its own low half came since the last read of the
high half. -/
def Obligations.HalvesReadThroughTheShadow : Prop :=
  ∀ (s : State) (t : Nat) (a : Word) (i : Nat), (onRigging a.toNat = true → s.chip.on .idbStat_linkUp = true) →
    (a.toNat < sramBase ∨ sramEnd ≤ a.toNat) → ∀ e ∈ halfTable i, match e with
    | (lo, hi, f, stale, bit, n) =>
      (findReg Reg.all a.toNat = some (lo, i) → Completes (.lowHalfRead t a) s fun u =>
        u.bus.lastRead = BitVec.ofNat 32 ((s.chip.atTime t).readWord lo i) ∧
        u.shadow f i = ⟨(s.chip.atTime t).readField f i, true⟩ ∧
        (if lo = .mptDeltaLo then u.rd .mptDeltaLo_energy i = 0 ∧ u.rd .mptDeltaHi_energy i = 0 else u.regs = s.chip.regs)) ∧
      (findReg Reg.all a.toNat = some (hi, i) → Completes (.highHalfRead t a) s fun u =>
        u.bus.lastRead = BitVec.ofNat 32 (s.chip.shadow f i).value ∧ (u.shadow f i).lowRead = false ∧
        (u.shadow f i).value = (s.chip.shadow f i).value ∧
        if (s.chip.shadow f i).lowRead then u.regs = s.chip.regs else u.rdBit stale bit n = true)

/-- The Rigging die over a silent link (R16): an access that finds link_up 0, or whose 2 µs end without an answer, completes: a read returns all ones,
a write has no effect, and lost_accesses rises by 1, saturating at 255. Over a link that is up, an access does what the same access does on the bus
(R15). -/
def Obligations.RiggingAccessWithoutAnswerIsCounted : Prop :=
  ∀ (s : State) (t : Nat) (a v : Word), onRigging a.toNat = true →
    let lost (u : Chip) : Prop := u.rd .idbStat_lostAccesses = min (s.chip.rd .idbStat_lostAccesses + 1) 255 ∧
      (∀ f i, f ≠ .idbStat_lostAccesses ∨ i ≠ 0 → u.rd f i = s.chip.rd f i)
    (s.chip.on .idbStat_linkUp = false →
      (Completes (.riggingAccess t a none) s fun u =>
        u.bus.lastRead = 0xFFFFFFFF ∧ lost u ∧ u = { s.chip.atTime t with regs := u.regs, bus := { s.chip.bus with lastRead := 0xFFFFFFFF } }) ∧
      (Completes (.riggingAccess t a (some v)) s fun u => lost u ∧ u = { s.chip.atTime t with regs := u.regs })) ∧
    (Completes (.riggingAccessTimeout t false) s fun u =>
        u.bus.lastRead = 0xFFFFFFFF ∧ lost u ∧ u = { s.chip.atTime t with regs := u.regs, bus := { s.chip.bus with lastRead := 0xFFFFFFFF } }) ∧
    (Completes (.riggingAccessTimeout t true) s fun u => lost u ∧ u = { s.chip.atTime t with regs := u.regs }) ∧
    (s.chip.on .idbStat_linkUp = true →
      exec (.riggingAccess t a (some v)) s = exec (.registerWrite t a v false) s ∧ exec (.riggingAccess t a none) s = exec (.rcRead t a) s)

/-- A frame of the inter-die bridge (R14, R413, R414, R425, R427, R431, R432). A good one to the Mast die brings the link up, hands over the waiting
events and the SPR inputs; a good one to the Shroud carries the Mast die's consent, and a reaction that waited for a frame, which sets the lockout
latch with its cause; the wires are deasserted exactly where both consents are then present; a bad one is counted and, to the Shroud, withdraws the
consent it carries. 20 µs without a valid frame (R18, R404, R416, R431): the Mast die takes the
link down and raises its event; the Shroud asserts its block wires and every driver disable, sets its lockout with the cause that R645 orders, freezes
ALIVE_B and raises its event. Before the 20 µs are over neither does anything. What the spec leaves open follows log entries 105, 1503. -/
def Obligations.InterDieFramesAndSilence : Prop :=
  (∀ (s : State) (t : Nat),
    let waiting := s.chip.spr.reaction
    let old := if s.chip.on .shroudStat_lockout then HoldCause.ofCode (s.chip.rd .shroudStat_holdCause) else .none
    let latched := if waiting = .none then s.chip else s.chip.wr .shroudStat_lockout 1
    let hears : Chip := { latched with spr := { s.chip.spr with idbUp := true, shroudHeard := max s.chip.clock.now t, reaction := .none } }
    (Completes (.idbFrameRx t false true) s fun u =>
      u.rd .idbStat_linkUp = 1 ∧ u.spr.mastHeard = max s.chip.clock.now t ∧ u.faults.idbEvents = [] ∧
      u.rd .sprStat_aDemand = flag (s.chip.on .shroudStat_sprA) ∧ u.rd .sprStat_bDemand = flag (s.chip.on .shroudStat_sprB)) ∧
    (Completes (.idbFrameRx t true true) s fun u =>
      u.spr = hears.spr ∧ u.rd .shroudStat_mastConsent = flag s.chip.mastConsents ∧
      u.rd .shroudStat_withheld = hears.shroudWithheld ∧
      (waiting ≠ .none → u.rd .shroudStat_lockout = 1 ∧ u.rd .shroudStat_holdCause = (old.merge waiting).code) ∧
      if s.chip.mastConsents = true ∧ hears.shroudWithheld = 0 then u.rd .shroudStat_bw = 0 ∧ u.rd .shroudStat_drvDisable = 0
        else u.wiresAsserted = true) ∧
    (Completes (.idbFrameRx t false false) s fun u =>
      u.rd .idbStat_retries = min (s.chip.rd .idbStat_retries + 1) 65535 ∧ u.sameBut s.chip [(.idbStat_retries, 0)] ∧
      u = { s.chip.atTime t with regs := u.regs }) ∧
    (Completes (.idbFrameRx t true false) s fun u =>
      u.rd .idbStat_retries = min (s.chip.rd .idbStat_retries + 1) 65535 ∧ u.rd .shroudStat_mastConsent = 0 ∧ u.wiresAsserted = true ∧
      u = { s.chip.atTime t with regs := u.regs, lanes := u.lanes, power := u.power })) ∧
  (∀ (s : State) (t : Nat), let now := max s.chip.clock.now t
    let old := if s.chip.on .shroudStat_lockout then HoldCause.ofCode (s.chip.rd .shroudStat_holdCause) else .none
    (s.chip.on .idbStat_linkUp = true → s.chip.spr.mastHeard + 20000 ≤ now → Completes (.mastIdbSilence t) s fun u =>
      u.rd .idbStat_linkUp = 0 ∧ u.faults.events = s.chip.faults.events ++ [originIdbSilence] ∧
      u.sameBut s.chip [(.idbStat_linkUp, 0)]) ∧
    (s.chip.spr.idbUp = true → s.chip.spr.shroudHeard + 20000 ≤ now → Completes (.shroudIdbSilence t) s fun u =>
      u.wiresAsserted = true ∧ u.rd .shroudStat_lockout = 1 ∧ u.rd .shroudStat_holdCause = (old.merge .severe).code ∧
      u.rd .fcStat_aliveBFrozen = 1 ∧ u.spr.idbUp = false ∧
      (if s.chip.on .idbStat_linkUp then u.faults.events = s.chip.faults.events ++ [originIdbSilence]
        else u.faults.idbEvents = s.chip.faults.idbEvents ++ [originIdbSilence])) ∧
    (now < s.chip.spr.mastHeard + 20000 → Completes (.mastIdbSilence t) s fun u => u = s.chip.atTime t) ∧
    (now < s.chip.spr.shroudHeard + 20000 → Completes (.shroudIdbSilence t) s fun u => u = s.chip.atTime t))

/-- The scrub walks the SRAM word by word (R35, R36, R38): of the words it reads, each that the code corrects is counted and stands right after it,
each uncorrectable one raises its event and is not written back, and a pass ends with the last word. Writing 1 to restart (R39). What the spec leaves
open follows log entry 104. -/
def Obligations.ScrubWalksAndMarginRestarts : Prop :=
  (∀ (s : State) (t words : Nat) (upsets : List (Nat × List Nat)), Registers.wf s.chip.regs = true → s.chip.sram.scrubAt < sramWords →
    s.chip.on .sramScrubStat_enabled = true → words ≤ sramWords →
    let c := s.chip.each upsets fun c x => c.sramUpset x.1 x.2
    let at_ (i : Nat) : Nat := (s.chip.sram.scrubAt + i) % sramWords
    let found := (List.range words).map fun i => c.sramShows (at_ i)
    .beyond ∉ found → Completes (.sramScrubStep t upsets words) s fun u =>
      u.rd .sramCorrCount_count = min (s.chip.rd .sramCorrCount_count + found.count .corrected) (2 ^ 32 - 1) ∧
      u.faults.events = s.chip.faults.events ++ List.replicate (found.count .uncorrectable) originSram ∧
      (∀ i < words, u.sramShows (at_ i) = if c.sramShows (at_ i) = .corrected then .clean else c.sramShows (at_ i)) ∧
      u.sram.scrubAt = at_ words ∧
      u.rd .sramScrubStat_passes = (s.chip.rd .sramScrubStat_passes + (s.chip.sram.scrubAt + words) / sramWords) % 2 ^ 24 ∧
      u.sram.cells = s.chip.sram.cells) ∧
  (∀ (s : State) (t : Nat), Completes (.budgetMarginRestart t) s fun u =>
    u.rd .budgetMargin_minMargin = 65535 ∧ u.rd .budgetMargin_worstCe = 0 ∧
    u.sameBut s.chip [(.budgetMargin_minMargin, 0), (.budgetMargin_worstCe, 0)] ∧ u = { s.chip.atTime t with regs := u.regs })

/-- While the grid runs, a mode request is kept as the one pending request, in place of an earlier one, and waits for its snapshot (R45, R48). Without
a grid a request is judged at once (R44, R45): one that no row of the table of R44 allows is refused and counted on the mode-request source, and one
whose row allows it takes effect: the modes of requests 1 to 3, stopping, QUIESCENT and its end, the warm reset. What the spec leaves open follows log
entry 202. -/
def Obligations.ModeRequestsWaitOrActAtOnce : Prop :=
  (∀ (s : State) (t : Nat), s.chip.clock.gridOn = true →
    ∀ p ∈ [(1, Instr.requestCommission t), (2, .requestCharge t), (3, .requestRun t), (4, .requestStopTransfer t),
      (5, .requestEnterQuiescent t), (6, .requestLeaveQuiescent t), (7, .requestWarmReset t)],
    Completes p.2 s fun u => u.rd .modeReq_pending = p.1 ∧ u.sameBut s.chip [(.modeReq_pending, 0)] ∧
      u = { s.chip.atTime t with regs := u.regs, modes := { s.chip.modes with reqStands := false, reqReached := false } }) ∧
  (∀ (s : State) (t : Nat), s.chip.clock.gridOn = false →
    (∀ p ∈ [(1, Instr.requestCommission t), (2, .requestCharge t), (3, .requestRun t), (4, .requestStopTransfer t),
        (5, .requestEnterQuiescent t), (6, .requestLeaveQuiescent t), (7, .requestWarmReset t)],
      s.chip.requestHasRow p.1 = false → Completes p.2 s fun u => u.rd .modeReq_pending = 0 ∧
        u.faults.events = s.chip.faults.events ++ [originModeRequest] ∧ u.sameBut s.chip [(.modeReq_pending, 0)]) ∧
    (s.chip.mode = .charge → s.chip.on .modeStat_quiescent = false →
      Completes (.requestCommission t) s fun u => u.mode = .commission ∧ u.rd .modeReq_pending = 0) ∧
    (s.chip.mode = .commission → s.chip.on .modeStat_quiescent = false → s.chip.on .eeStat_halted = false →
      Completes (.requestCharge t) s fun u => u.mode = .charge ∧ u.rd .modeReq_pending = 0 ∧ u.rd .dbgStat_unlocked = 0) ∧
    (s.chip.mode = .charge → s.chip.on .modeStat_quiescent = false → s.chip.prechargeComplete = true →
      Completes (.requestRun t) s fun u => u.mode = .run ∧ u.rd .modeReq_pending = 0) ∧
    (s.chip.mode = .run → s.chip.on .modeStat_quiescent = false → s.chip.modes.stopping = false →
      Completes (.requestStopTransfer t) s fun u => u.modes.stopping = true ∧ u.mode = .run ∧ u.rd .modeReq_pending = 0 ∧
        ∀ a < 6, s.chip.on .cePower_designated a = true → u.rd .cePower_stopping a = 1) ∧
    (s.chip.requestHasRow 5 = true → Completes (.requestEnterQuiescent t) s fun u =>
      u.rd .modeStat_quiescent = 1 ∧ u.mode = s.chip.mode ∧ u.rd .readyUnit_ce = 0 ∧ u.rd .readyUnit_eeL = 0 ∧
      u.rd .readyUnit_eeS = 0 ∧ u.rd .readyEdgeA_ready = 0 ∧ u.rd .readyEdgeB_ready = 0 ∧ u.rd .readyEdgeC_ready = 0) ∧
    (s.chip.on .modeStat_quiescent = true → Completes (.requestLeaveQuiescent t) s fun u =>
      u.rd .modeStat_quiescent = 0 ∧ u.mode = s.chip.mode ∧ u.rd .modeReq_pending = 0) ∧
    (s.chip.requestHasRow 7 = true → Completes (.requestWarmReset t) s fun u =>
      u.rd .resetCause_warmRequest = 1 ∧ u.wiresAsserted = true ∧ u.rd .shroudStat_mastConsent = 0 ∧
      u.rd .modeStat_quiescent = 0 ∧ u.rd .saStart_start = (s.chip.rd .saStart_start + 1) % 2 ^ 32 ∧ u.sram = s.chip.sram ∧
      if s.chip.mode = .safeHold ∧ s.chip.holdCause ≠ .noImage then u.heldFor s.chip.holdCause else u.mode = .configure))

/-- What falls due at a boundary, once (R44, R45, R295): a request that stands takes effect where its condition holds, is refused where the mode has
no row for it, and stays otherwise; with auto_run CHARGE passes to RUN when pre-charge is complete; RUN passes to CHARGE when stopping has brought the
power to zero. CONFIGURE ends at a boundary at which the image is applied, the slice test complete, the timebase locked, the Shroud consenting and no
lockout to be restored, outside QUIESCENT; it leads where R44, R448 and R450 say, and stays where they name no mode. QUIESCENT ends at the second
boundary after request 6 (R52): its bit clears and the mode it overlaid goes on. What the spec leaves open follows log entries 30, 201, 202. -/
def Obligations.TransitionsConfigureAndQuiescentEnd : Prop :=
  (∀ (s : State) (t : Nat), let c := s.chip.atTime t
    c.atBoundary = true → c.modes.transitionAt ≠ some c.boundaryTb →
    let goes (m : Mode) : Prop := Completes (.modeTransition t) s fun u => u.mode = m ∧ u.modes.transitionAt = some c.boundaryTb
    let stands (r : Nat) : Prop := c.modes.reqStands = true ∧ c.rd .modeReq_pending = r
    let free : Prop := c.modes.reqStands = false ∧ c.modes.reqReached = false
    c.on .modeStat_quiescent = false →
    (stands 1 → c.mode = .charge → goes .commission) ∧
    (stands 2 → c.mode = .commission → c.on .eeStat_halted = false → goes .charge) ∧
    (stands 3 → c.mode = .charge → c.prechargeComplete = true → goes .run) ∧
    (free → c.mode = .charge → c.sys.autoRun = true → c.prechargeComplete = true → goes .run) ∧
    (free → c.mode = .run → c.modes.stopping = true → c.powerIsZero = true → goes .charge) ∧
    (∀ r, stands r → r ≠ 0 → c.requestHasRow r = false → (c.mode ≠ .charge ∧ c.mode ≠ .run) → Completes (.modeTransition t) s fun u =>
      u.mode = c.mode ∧ u.rd .modeReq_pending = 0 ∧ u.faults.events = c.faults.events ++ [originModeRequest])) ∧
  (∀ (s : State) (t : Nat), let c := s.chip.atTime t
    (c.configureMayEnd = true → c.atBoundary = true → ∀ m probing, c.configureTarget = some (m, probing) →
      Completes (.endOfConfigure t) s fun u => u.mode = m ∧ (m = .shadow → u.halyard.probing = probing)) ∧
    (c.configureMayEnd = false ∨ c.atBoundary = false ∨ c.configureTarget = none →
      Completes (.endOfConfigure t) s fun u => u = c)) ∧
  (∀ (s : State) (t : Nat), let c := s.chip.atTime t
    c.on .modeStat_quiescent = true → c.atBoundary = true →
    (c.modes.resumeIn = some 0 → Completes (.quiescentResume t) s fun u =>
      u.rd .modeStat_quiescent = 0 ∧ u.modes.resumeIn = none ∧ u.mode = c.mode) ∧
    (∀ n, c.modes.resumeIn = some (n + 1) → Completes (.quiescentResume t) s fun u => u = c))

/-- The lockout and its entry (R59, R60): a written entry is reported once and shown where none is wanted any more; an entry refused for 1 s is tried
again; after a cold reset the cause found in the ledger is restored at the first boundary after the application, with the Shroud's latch. What the
spec leaves open follows log entry 207. -/
def Obligations.LockoutIsKeptAndRestored : Prop :=
  ∀ (s : State) (t : Nat), let c := s.chip.atTime t
    (c.storage.written.contains .lockout = true → Completes (.lockoutEntryPersisted t) s fun u =>
      u.rd .modeStat_lockoutPersisted = flag (c.mode == .safeHold && c.modes.lockoutEntries.isEmpty) ∧
      u.storage.written.contains .lockout = false ∧ u.sameBut c [(.modeStat_lockoutPersisted, 0)]) ∧
    (c.mode = .safeHold → ∀ at_, c.modes.lockoutRefused = some at_ → at_ + 1000000000 ≤ c.clock.now →
      Completes (.lockoutEntryRetry t) s fun u => u.modes.lockoutRefused = none ∧
        ∀ e, c.modes.lockoutEntries.head? = some e → e.waits = none → e.noLeave = false →
          c.thermal.grants = [] → u.asks .lockoutWrite) ∧
    (c.modes.restoreDone = false → c.applied = true → c.atBoundary = true → c.mode ≠ .safeHold →
      ∀ k, c.storage.lockoutFound.bind restoredCause = some k → Completes (.lockoutRestore t) s fun u =>
        u.heldFor k ∧ u.rd .shroudStat_lockout = 1 ∧ u.modes.restoreDone = true)

/-- HOLD-UP (R53, R54, R62, R371, R621): the early warning begins it, locks debug, disarms the detector, holds the device with cause 4 where it was
not held yet and sets the lockout latch; HOLD takes VSYS over while it lasts; the return of VSYS ends it and leaves mode and cause as they are. A
supervised supply (R434, R631): one event at its fall until it has returned; the Rigging die's own supplies withhold the Shroud's consent while they
are low, and block. What the spec leaves open follows log entries 203, 204. -/
def Obligations.HoldUpAndSupplies : Prop :=
  (∀ (s : State) (t : Nat), let c := s.chip
    (c.on .modeStat_holdUp = false → Completes (.earlyWarningTrip t) s fun u =>
      u.rd .modeStat_holdUp = 1 ∧ u.rd .shroudStat_lockout = 1 ∧ u.wiresAsserted = true ∧ u.rd .dbgStat_unlocked = 0 ∧
      u.rd .metStat_ewArmed = 0 ∧ (c.mode ≠ .safeHold → u.heldFor .earlyWarning) ∧
      (c.mode = .safeHold → u.mode = .safeHold ∧ u.rd .modeStat_holdCause = if c.holdCause.merge .earlyWarning = c.holdCause then c.rd .modeStat_holdCause else (c.holdCause.merge .earlyWarning).code)) ∧
    (c.on .modeStat_holdUp = true →
      (Completes (.vsysFallsToHold t) s fun u => u.modes = { c.modes with holdSwitch := true } ∧ u.regs = c.regs) ∧
      (Completes (.vsysReturn t) s fun u => u.rd .modeStat_holdUp = 0 ∧ u.rd .metStat_finalWritten = 0 ∧ u.modes.holdSwitch = false ∧
        u.sameBut c [(.modeStat_holdUp, 0), (.metStat_finalWritten, 0)]))) ∧
  (∀ (s : State) (t : Nat) (n : Fin 4),
    (s.chip.spr.warned.contains n.val = false → Completes (.supplyWarning t n) s fun u =>
      u.spr.warned = n.val :: s.chip.spr.warned ∧ (2 ≤ n.val → u.wiresAsserted = true ∧ u.rd .shroudStat_shroudConsent = 0) ∧
      (if s.chip.on .idbStat_linkUp then u.faults.events = s.chip.faults.events ++ [originSupply]
        else u.faults.idbEvents = s.chip.faults.idbEvents ++ [originSupply])) ∧
    (s.chip.spr.warned.contains n.val = true → Completes (.supplyWarning t n) s fun u => u = s.chip.atTime t) ∧
    (Completes (.supplyReturn t n) s fun u => u.spr.warned.contains n.val = false ∧ u.faults = s.chip.faults ∧
      u.rd .shroudStat_shroudConsent = flag (u.shroudWithheld == 0) ∧ u.rd .shroudStat_withheld = u.shroudWithheld))

/-- The cold reset (R55, R62, R65, R514): every state outside flash, fuses and the balls is as after power-on, PTP time counts from 0 again, PORST_N is
low, the reset's cause is the one bit set; the release of PORST_N samples PAIR_EN, notes whether the reference shows edges and starts every enabled lane that is not held. The watchdog
and a lockstep mismatch (R55, R57, R58, R645): a warm reset that blocks, sets the Shroud's latch and leaves SAFE HOLD with hold_cause 7 or the earlier
cause as R645 orders. What the spec leaves open follows log entries 206, 1503. -/
def Obligations.ColdResetAndSupervisorFailures : Prop :=
  (∀ (s : State) (t : Nat),
    (∀ cause : Fin 3, Completes (.coldReset t cause) s fun u =>
      u.mode = .configure ∧ u.modes = {} ∧ u.sram = {} ∧ u.faults = {} ∧ u.wiresAsserted = true ∧
      u.storage = { s.chip.storage.flash with unpowered := s.chip.storage.unpowered + if cause.val = 0 then t - s.chip.clock.now else 0 } ∧
      u.net.ptp.time = 0 ∧ u.net.ptp.since = max s.chip.clock.now t ∧
      u.rd .resetCause_coldPowerOn = flag (cause.val == 0) ∧ u.rd .resetCause_coldSupply = flag (cause.val == 1) ∧
      u.rd .resetCause_coldPin = flag (cause.val == 2) ∧ u.security.slot0 = s.chip.security.slot0 ∧
      u.security.slot1 = s.chip.security.slot1 ∧ u.security.deviceSecret = s.chip.security.deviceSecret) ∧
    (∀ x : ReleaseFinds, s.chip.modes.porstLow = true → Completes (.porstNRelease t x) s fun u =>
      u.modes = { s.chip.modes with porstLow := false } ∧ u.halyard.pairEn = x.pairEn ∧ u.rd .pllStat_refPresent = flag x.refEdges ∧
      (x.pairEn = false → s.chip.halyard.cellsHeld = false → ∀ n < 100,
        u.rd .laneStat_state n = if s.chip.on .laneCfg_enabled n then LinkState.hunt.code else LinkState.disabled.code) ∧
      u.rd .nvDev_dev0 = flag x.dev0 ∧ u.rd .nvDev_dev1 = flag x.dev1)) ∧
  (∀ (s : State) (t : Nat), s.chip.modes.porstLow = false →
    let after (bit : Fld) (u : Chip) : Prop := u.rd bit = 1 ∧
      u.heldFor (if s.chip.mode = .safeHold then s.chip.holdCause.merge .warmReset else .warmReset) ∧ u.rd .shroudStat_lockout = 1 ∧
      u.sram = s.chip.sram ∧ u.rd .saStart_start = (s.chip.rd .saStart_start + 1) % 2 ^ 32
    (Completes (.watchdogExpiry t) s (after .resetCause_warmWatchdog)) ∧
    (s.chip.sys.lockstep = true → Completes (.lockstepMismatch t) s (after .resetCause_warmLockstep)) ∧
    (s.chip.sys.lockstep = false → Completes (.lockstepMismatch t) s fun u => u = s.chip.atTime t))

/-- A pulse on SPR_RST of 0.5 s to 5 s opens the acknowledge window for 10 s; any other that its filter passes is ignored and recorded (R67, R68). The
filter never passes one of less than 1 ms, and passes one of 2 ms (R425); between them both are possible. The window closes after its 10 s (R69). What
the spec leaves open follows log entries 205, 1501. -/
def Obligations.ResetPulseOpensTheWindow : Prop :=
  ∀ (s : State) (t width : Nat), s.chip.on .idbStat_linkUp = true → let now := max s.chip.clock.now t
    (500000000 ≤ width → width ≤ 5000000000 → Completes (.sprRstPulse t width) s fun u =>
      u.rd .delibStat_windowOpen = 1 ∧ u.rd .delibStat_windowLeft = 100 ∧ u.spr.shroudFall = some now ∧ u.spr.pairFall = some now ∧
      u.modes.windowFall = now ∧ u.modes.edgeDemand = s.chip.sprDemand ∧
      u.sameBut s.chip [(.delibStat_windowOpen, 0), (.delibStat_windowLeft, 0)]) ∧
    (2000000 ≤ width → width < 500000000 → Completes (.sprRstPulse t width) s fun u => u.rd .delibStat_lastRefusal = 1 ∧
      u.sameBut s.chip [(.delibStat_lastRefusal, 0)] ∧ u.spr = s.chip.spr) ∧
    (1000000 ≤ width → width < 2000000 → Completes (.sprRstPulse t width) s fun u =>
      (u.rd .delibStat_lastRefusal = 1 ∨ u.regs = s.chip.regs) ∧ u.sameBut s.chip [(.delibStat_lastRefusal, 0)] ∧ u.spr = s.chip.spr) ∧
    (width < 1000000 → Completes (.sprRstPulse t width) s fun u => u = s.chip.atTime t) ∧
    (5000000000 < width → Completes (.sprRstPulse t width) s fun u => u.rd .delibStat_lastRefusal = 2 ∧
      u.sameBut s.chip [(.delibStat_lastRefusal, 0)] ∧ u.spr = s.chip.spr) ∧
    (s.chip.on .delibStat_windowOpen = true → s.chip.modes.windowFall + 10000000000 ≤ now → Completes (.ackWindowExpiry t) s fun u =>
      u.rd .delibStat_windowOpen = 0 ∧ u.rd .delibStat_windowLeft = 0 ∧
      u.sameBut s.chip [(.delibStat_windowOpen, 0), (.delibStat_windowLeft, 0)]) ∧
    (now < s.chip.modes.windowFall + 10000000000 → Completes (.ackWindowExpiry t) s fun u => u = s.chip.atTime t)

/-- An acknowledge (R67, R69, R71, R390): refused, it records why and changes nothing else; accepted, it clears the lockout and the latched shorts,
writes the lockout-cleared entry and carries out the deliberate reset into CONFIGURE, still blocked. What the spec leaves open follows log entry 205. -/
def Obligations.AcknowledgeRefusesOrResets : Prop :=
  ∀ (s : State) (t : Nat) (authentic : Bool), let c := s.chip.atTime t
    (c.ackRefusal authentic ≠ 0 → Completes (.ack t authentic) s fun u =>
      u.rd .delibStat_lastRefusal = c.ackRefusal authentic ∧ u.sameBut c [(.delibStat_lastRefusal, 0)] ∧ u = { c with regs := u.regs }) ∧
    (c.ackRefusal authentic = 0 → Completes (.ack t authentic) s fun u =>
      u.mode = .configure ∧ u.rd .modeStat_holdCause = 0 ∧ u.rd .modeStat_lockoutPersisted = 0 ∧ u.rd .fcStat_reaction = 0 ∧
      u.rd .delibStat_windowOpen = 0 ∧ u.rd .shroudStat_lockout = 0 ∧ u.rd .shroudStat_holdCause = 0 ∧ u.rd .resetCause_deliberate = 1 ∧
      u.wiresAsserted = true ∧ u.modes.sliceDone = false ∧ u.storage.jobs = c.storage.jobs ++ [(.cleared, [(5, [])])] ∧
      ∀ n < 8, u.rd .gdStat_shortLatched n = 0)

/-- Headers over the Halyard link (R452 to R454, R472, R474). A valid header on a locked lane shows the partner and its BLOCK bit at once, far_block
by the two most recent valid headers (R145), and the other fields once it agrees in them with the lane's valid header before it; agreed by an accepted
partner of a pair, a reaction brings SAFE HOLD. An invalid header is counted and nothing else. 2 µs without a header: the partner is silent from the
present period on. A silent partner makes a standby take over after its examinations of the bales, of which each boundary counts once, and send that
period's sheaves; a standby without its reference stays silent (R117, R459). A member in RUN yields where the bales show the partner, unless it
refuses it (R458, R475). What the spec leaves open follows log entries 512, 1602. -/
def Obligations.HalyardHeadersAndSilence : Prop :=
  ∀ (s : State) (t : Nat), let c := s.chip.atTime t
    (∀ (lane : Fin 2) (h : Word), let n := 96 + lane.val
      ((c.lane n).locked = true → halHeaderValid h = true → let v := readHalHeader h
        Completes (.halyardHeaderRx t lane h) s fun u =>
          u.rd .halStat_partnerSeen = 1 ∧ u.rd .halStat_partnerBlock = flag v.block ∧
          u.rd .laneStat_farBlock n = flag ((c.lane n).lastBlock && v.block) ∧
          (∀ k b, c.halyard.heads.find? (·.1 == n) = some (k, b) → { b with block := v.block } = v → c.on .halStat_idRefused = false →
            u.rd .halStat_partnerHealthy = flag v.healthy ∧ u.rd .halStat_partnerMode = v.mode ∧
            u.rd .halStat_partnerReact = flag v.react ∧ u.rd .halStat_partnerTakeover = flag v.takeover ∧
            (v.react = true → c.sys.pair = true → c.on .halStat_accepted = true → c.mode ≠ .safeHold → u.heldFor .severe))) ∧
      ((c.lane n).locked = true → halHeaderValid h = false → Completes (.halyardHeaderRx t lane h) s fun u =>
        u.rd .laneErrs_invalidHeaders n =
          min (c.rd .laneErrs_invalidHeaders n + 1) (2 ^ Fld.laneErrs_invalidHeaders.spec.width - 1) ∧
        u.sameBut c [(.laneErrs_invalidHeaders, n)] ∧ u = { c with regs := u.regs })) ∧
    (c.on .halStat_partnerSeen = true → c.halyard.seenAt + 2000 ≤ c.clock.now → Completes (.partnerSilence t) s fun u =>
      u.rd .halStat_partnerSeen = 0 ∧ u.halyard.silentPeriod = some (c.rd .periodIndex_index) ∧ u.halyard.heads = [] ∧
      u.halyard.coasting = (c.mode == .shadow && c.on .halStat_inStep && c.sys.dualSend) ∧ u.sameBut c [(.halStat_partnerSeen, 0)]) ∧
    (c.clock.now < c.halyard.seenAt + 2000 → Completes (.partnerSilence t) s fun u => u = c) ∧
    (∀ j, c.halyard.silentPeriod = some j → let seen := c.waitingBales.any c.showsPartner
      let mayTakeOver : Prop := c.mode = .shadow ∧ c.halyard.probing = false ∧ c.on .pllStat_locked = true
      (mayTakeOver → c.halyard.coasting = true → c.periodsSince j = 3 →
        Completes (.silenceTakeoverCheck t) s fun u => u.regs = c.regs ∧ u.halyard.coasting = false ∧
          if seen then u.halyard.stoppedSending = true ∧ u.halyard.takeNext = c.halyard.takeNext
          else u.halyard.takeNext = true ∧ u.halyard.takeover = true ∧ u.halyard.sendsNow = true) ∧
      (mayTakeOver → c.halyard.coasting = false → ∀ k, c.halyard.noExecAt = some k → c.periodsSince k = 1 →
        Completes (.silenceTakeoverCheck t) s fun u => u.regs = c.regs ∧
          u.halyard.noExecRun = (if seen then 0 else c.halyard.noExecRun + 1) ∧
          u.halyard.takeNext = (c.halyard.takeNext || (!seen && decide (1 ≤ c.halyard.noExecRun)))) ∧
      (mayTakeOver → c.halyard.coasting = false → ∀ k, c.halyard.noExecAt = some k → c.periodsSince k = 0 →
        Completes (.silenceTakeoverCheck t) s fun u => u.regs = c.regs ∧ u.halyard.noExecRun = c.halyard.noExecRun) ∧
      (¬ mayTakeOver → Completes (.silenceTakeoverCheck t) s fun u => u = c) ∧
      (c.mode = .run → c.on .halStat_idRefused = false → 5 ≤ c.periodsSince j → seen = true → c.rd .halCfg_rank = 1 ∨ c.waitingBales.all c.showsPartner = true →
        Completes (.silenceYieldCheck t) s fun u => u.regs = c.regs ∧ u.halyard.yieldNext = true ∧ u.halyard.stoppedSending = true))

/-- What reaches a standby, and handing back (R460, R461, R465, R466, R471, R476). A mark of an accepted partner is kept in every mode; in SHADOW it
gives the offset of the own next boundary from the instant it counts to, and the eighth in a row more than 1 ns away ends the step and raises an
event. A share of a copy is kept with its part. A healthy rank-0
standby in step for hold_time asks for return; three periods on, an acknowledged request makes the requester take over and its partner yield. What the
spec leaves open follows log entries 1603, 1606. -/
def Obligations.MarksCopiesAndHandingBack : Prop :=
  ∀ (s : State) (t : Nat), let c := s.chip.atTime t
    let accepted : Prop := c.on .halStat_accepted = true ∧ c.on .halStat_idRefused = false
    (accepted → ∀ arrival countdown (index : Fin 65536) field, Completes (.halMarkRx t arrival countdown index field) s fun u =>
      u.halyard.markIndex = index ∧ u.halyard.markTarget = some (arrival + countdown)) ∧
    (accepted → c.mode = .shadow → c.clock.gridOn = true → ∀ arrival countdown (index : Fin 65536) field,
      let o : Int := (8 * (c.clock.b0 + c.clock.n * c.tCtlNs) : Nat) - (arrival + countdown : Nat)
      Completes (.halMarkRx t arrival countdown index field) s fun u =>
        u.rd .halAlign_valid = 1 ∧ u.rd .halAlign_offset = unsigned 16 o ∧
        (c.on .halStat_aligned = true → 8 < o.natAbs → c.halyard.driftRun = 7 →
          u.rd .halAlign_drift = 1 ∧ u.rd .halStat_inStep = 0 ∧ u.faults.events = c.faults.events ++ [originHalyard])) ∧
    (accepted → c.mode = .shadow → c.halyard.probing = false → ∀ index part share content,
      (Completes (.copyFrameRx t index part share content true) s fun u => u.regs = c.regs ∧ u.halyard.copySof = some index ∧
        ∃ p, storeGet u.halyard.parts (copyPlace part index) none = some p ∧ p.index = index ∧ share ∈ p.shares ∧ p.content = content ∧ p.doneAt = c.clock.now) ∧
      (Completes (.copyFrameRx t index part share content false) s fun u =>
        u = { c with halyard := { c.halyard with copySof := some index } })) ∧
    (c.mayAskReturn = true →
      let j := (c.rd .periodIndex_index + flag (decide (5 ≤ c.clock.step))) % 2 ^ 32
      (c.halyard.askAgainAt = 0 → Completes (.handoverRequest t) s fun u =>
        u.rd .halStat_returnPending = 1 ∧ u.halyard.handover = some ⟨j, true, false⟩ ∧
        u.sameBut c [(.halStat_returnPending, 0)]) ∧
      (c.halyard.askAgainAt ≠ 0 → c.halyard.askAgainAt ≤ c.clock.now → Completes (.handoverRetry t) s fun u =>
        u.rd .halStat_returnPending = 1 ∧ u.halyard.handover = some ⟨j, true, false⟩ ∧
        u.sameBut c [(.halStat_returnPending, 0)])) ∧
    (∀ h, c.halyard.handover = some h → c.periodsSince h.period = 3 →
      (h.own = true → c.mode = .shadow → c.halyard.probing = false → c.on .pllStat_locked = true → h.acknowledged = true →
        c.halyard.partner.healthy = true → c.partnerSpeaks = true →
        Completes (.handoverAct t) s fun u => u.mode = .run ∧ u.rd .halStat_returnPending = 0 ∧ u.halyard.handover = none ∧
          u.rd .halCount_takeovers = min (c.rd .halCount_takeovers + 1) 255) ∧
      (h.own = true → c.mode ≠ .shadow ∨ c.halyard.probing = true ∨ c.on .pllStat_locked = false ∨ h.acknowledged = false ∨ c.halyard.partner.healthy = false ∨ c.partnerSpeaks = false →
        Completes (.handoverAct t) s fun u => u.mode = c.mode ∧ u.rd .halStat_returnPending = 0 ∧
          u.halyard.askAgainAt = c.clock.now + 1000000000) ∧
      (h.own = false → c.mode = .run → c.halyard.partner.healthy = true → c.halyard.partner.mode = 4 →
        Completes (.handoverAct t) s fun u => u.mode = .shadow ∧ (c.halyard.markTarget = none → u.rd .halStat_aligned = 0) ∧ u.halyard.handover = none ∧
          u.rd .halCount_yields = min (c.rd .halCount_yields + 1) 255))

/-- The identity exchange (R455 to R458, R551, R593). A nonce that comes in MEASURE or in READY, in an ID frame whose CRC-32 is right, is to be
answered, and is answered under leave by an ID frame of kind 2 with this member's key; a proof is kept with what it shows; checked under leave, it
accepts the partner and lets its measured lane go to READY, or refuses the partner with one event; while the partner stands refused, the exchange
is repeated every 10 s with a fresh nonce. What the spec leaves open follows log entries 12, 1601, 2104. -/
def Obligations.PartnerIdentityIsExchangedAndJudged : Prop :=
  ∀ (s : State) (t : Nat), let c := s.chip.atTime t
    (∀ (lane : Fin 2), let n := 96 + lane.val
      (c.exchanges n = true → ∀ frame crc, crc32 frame = crc.toNat → byteAt frame 0 = 0xB4 → byteAt frame 1 = 1 →
        Completes (.idNonceRx t lane frame crc) s fun u => (storeGet u.halyard.ids n {}).toAnswer = frame.drop 8 ∧
          u.asks .halyardIdentity) ∧
      (c.linkState n = .measure → ∀ (member rank : Fin 2) key proof crc, crc32 (idSof 2 member rank ++ key ++ proof) = crc.toNat →
        Completes (.idProofRx t lane member rank key proof crc) s fun u =>
          (storeGet u.halyard.ids n {}).proof = some ⟨(storeGet c.halyard.ids n {}).nonce, member, rank, key, proof⟩ ∧
          u.asks .halyardIdentity) ∧
      (∀ frame crc, crc32 frame ≠ crc.toNat → Completes (.idNonceRx t lane frame crc) s fun u => u = c)) ∧
    (c.holdsLeave .halyardIdentity = true → ∀ n ∈ [96, 97], (storeGet c.halyard.ids n {}).toAnswer ≠ [] →
      Completes (.identityCheckComplete t) s fun u => (storeGet u.halyard.ids n {}).toAnswer = [] ∧
        (c.exchanges n = true → c.on .secStat_retired = false → ∃ (x : LineTx) (proof : List Byte), proof.length = 96 ∧
          (u.lane n).sent = (x.sendAll (c.halFrame n (idSof 2 (c.rd .halCfg_member) (c.rd .halCfg_rank)) (c.ownKey ++ proof) 0xCC)).1)) ∧
    (∀ n, c.holdsLeave .halyardIdentity = true → c.proofLane = some n → let x := storeGet c.halyard.ids n {}
      let ok := (x.proof.any fun p => p.nonce == x.nonce && c.proofGood p) && !x.nonce.isEmpty && !c.on .secStat_retired
      Completes (.identityCheckComplete t) s fun u =>
        u.rd .halStat_accepted = flag ok ∧ u.rd .halStat_idRefused = flag (!ok) ∧ (storeGet u.halyard.ids n {}).proof = none ∧
        u.halyard.refusedAt = (if ok then none else some c.clock.now) ∧
        (ok = true → c.linkState n = .measure → c.on .laneLatency_valid n = true → u.linkState n = .ready) ∧
        (ok = false → c.on .halStat_idRefused = false → u.faults.events = c.faults.events ++ [originPartner])) ∧
    (∀ at_, c.halyard.refusedAt = some at_ → at_ + 10000000000 ≤ c.clock.now → c.on .halStat_idRefused = true →
      Completes (.identityRetry t) s fun u => u.halyard.refusedAt = some c.clock.now ∧ u.regs = c.regs ∧
        ∀ n ∈ [96, 97], c.linkState n = .measure → c.on .laneLatency_valid n = true →
          (storeGet u.halyard.ids n {}).nonce.length = 16 ∧ (storeGet u.halyard.ids n {}).proof = none)

/-- The accumulators (R270, R274): each operation leaves its exact result in its accumulator, at the nearer end of the 40-bit range where it lies
outside, which sets acc_sat; the data memory, the other accumulator, every other engine and every other register stay, and the program counter moves
on. It holds where the engine runs and the word at its program counter is that instruction (R273). What the spec leaves open follows log entries 901,
902. -/
def Obligations.AccumulatorsTakeTheirResults : Prop :=
  ∀ (s : State) (e : Fin 24) (w : Machine.OpWord), let c := s.chip; let g := c.engine e
    g.skip = 0 →
    let A := g.dmAt (c.addrA e w); let B := g.dmAt (c.addrB e w); let acc := if w.acc then g.a1 else g.a0
    let holds (v : Option Int) (old new : Int) : Prop := new = (v.map (satSigned 40)).getD old
    let fits (v : Option Int) : Prop := ∀ x, v = some x → satSigned 40 x = x
    let sets (op : Instr) (code : Nat) (v0 v1 : Option Int) : Prop := c.executes e code w = true → Completes op s fun u =>
      holds v0 g.a0 (u.engine e).a0 ∧ holds v1 g.a1 (u.engine e).a1 ∧ (u.engine e).dm = g.dm ∧
      (u.engine e).pc = g.advance.pc ∧ (u.engine e).rep = g.advance.rep ∧ (∀ j, j ≠ e.val → u.engine j = c.engine j) ∧
      u.sameBut c [(.ceEstat_accSat, e)] ∧
      (fits v0 ∧ fits v1 → u.rd .ceEstat_accSat e = c.rd .ceEstat_accSat e) ∧ (¬(fits v0 ∧ fits v1) → u.rd .ceEstat_accSat e = 1)
    let one (op : Instr) (code : Nat) (v : Int) : Prop := sets op code (if w.acc then none else some v) (if w.acc then some v else none)
    one (.clr e w) 0x01 0 ∧ one (.lda e w) 0x02 (A * 32768) ∧ one (.mac e w) 0x03 (acc + A * B) ∧ one (.msu e w) 0x04 (acc - A * B) ∧
    (∀ k : Nat, w.n.toInt = k → one (.ash e w) 0x06 (acc * 2 ^ k)) ∧ (∀ k : Nat, w.n.toInt = -(k : Int) → one (.ash e w) 0x06 (acc / 2 ^ k)) ∧
    one (.addi e w) 0x08 (acc + g.integrator (c.addrA e w) / 2) ∧
    sets (.mac2 e w) 0x05 (some (g.a0 + A * g.dmAt (c.addrC e w))) (some (g.a1 + B * g.dmAt (c.addrC e w + 1)))

/-- The operations that store data words (R271, R274, R278): each result, rounded to the nearest unit with halves upward and saturated to 16 bits,
stands in its word; every other word, both accumulators, every other engine stay; a store that saturates is counted in the loop in progress. What the
spec leaves open follows log entries 901 to 904. -/
def Obligations.DataWordsTakeTheirResults : Prop :=
  ∀ (s : State) (e : Fin 24) (w : Machine.OpWord), let c := s.chip; let g := c.engine e
    g.skip = 0 →
    let a := c.addrA e w; let b := c.addrB e w; let d := c.addrC e w
    let A := g.dmAt a; let B := g.dmAt b; let A1 := g.dmAt (a + 1); let A2 := g.dmAt (a + 2); let B1 := g.dmAt (b + 1)
    let ll := loopIx e g.loop
    let stores (op : Instr) (code : Nat) (l : List (Nat × Int × Nat)) : Prop := c.executes e code w = true → Completes op s fun u =>
      (∀ p ∈ l, (u.engine e).dmAt p.1 = satSigned 16 (roundHalfUp p.2.1 p.2.2)) ∧
      (∀ x, (∀ p ∈ l, p.1 % 8192 ≠ x % 8192) → (u.engine e).dmAt x = g.dmAt x) ∧ (∀ j, j ≠ e.val → u.engine j = c.engine j) ∧
      (u.engine e).a0 = g.a0 ∧ (u.engine e).a1 = g.a1 ∧ (u.engine e).pc = g.advance.pc ∧ (u.engine e).rep = g.advance.rep ∧
      u.sameBut c [(.ceLoopStat_sat, ll), (.ceLoopStat_satCount, ll)] ∧
      let n := (l.filter fun p => roundHalfUp p.2.1 p.2.2 != satSigned 16 (roundHalfUp p.2.1 p.2.2)).length
      u.rd .ceLoopStat_sat ll = (if n = 0 then c.rd .ceLoopStat_sat ll else 1) ∧
      (n ≠ 0 → u.rd .ceLoopStat_satCount ll = min (c.rd .ceLoopStat_satCount ll + n) 255)
    stores (.sat e w) 0x07 [(d, if w.acc then g.a1 else g.a0, 32768)] ∧ stores (.mov e w) 0x0B [(d, A, 1)] ∧ stores (.neg e w) 0x0C [(d, -A, 1)] ∧
    stores (.add e w) 0x0D [(d, A + B, 1)] ∧ stores (.sub e w) 0x0E [(d, A - B, 1)] ∧ stores (.mul e w) 0x0F [(d, A * B, 32768)] ∧
    stores (.min e w) 0x10 [(d, if A ≤ B then A else B, 1)] ∧ stores (.max e w) 0x11 [(d, if A ≤ B then B else A, 1)] ∧
    (let p := ((A + 32768) * 2 ^ w.n.toNat).toNat
     let t := g.dmAt (b + p / 65536)
     stores (.tab e w) 0x13 [(d, t * 65536 + (p % 65536 : Nat) * (g.dmAt (b + p / 65536 + 1) - t), 65536)]) ∧
    stores (.sin e w) 0x14 [(d, sineOf (unsigned 16 A), 64), (d + 1, sineOf (unsigned 16 A + 16384), 64)] ∧
    stores (.clk e w) 0x15 [(d, 21845 * A - 10923 * A1 - 10923 * A2, 32768), (d + 1, 18919 * A1 - 18919 * A2, 32768)] ∧
    stores (.ick e w) 0x16 [(d, A, 1), (d + 1, -16384 * A + 28378 * A1, 32768), (d + 2, -16384 * A - 28378 * A1, 32768)] ∧
    stores (.prk e w) 0x17 [(d, A * B1 + A1 * B, 32768), (d + 1, -(A * B) + A1 * B1, 32768)] ∧
    stores (.ipk e w) 0x18 [(d, A * B1 - A1 * B, 32768), (d + 1, A * B + A1 * B1, 32768)]

/-- The other operations of a control engine (R272, R274, R276, R279, R282, R290, R292): limiting, integration, tracking, slots, min-select, the index
register, repetition, skipping and the end of a loop. A skipped instruction only moves the program counter on; a command that is not the instruction
at the program counter of an engine that runs has no effect (R268, R273, R286, R299). What the spec leaves open follows log entries 901, 902, 904. -/
def Obligations.EngineControlOperations : Prop :=
  ∀ (s : State) (e : Fin 24) (w : Machine.OpWord), let c := s.chip; let g := c.engine e
    let a := c.addrA e w; let b := c.addrB e w; let d := c.addrC e w; let ll := g.loop; let i := loopIx e g.loop
    let ops : List (Instr × Nat) := [
      (.nop e w, 0x00), (.clr e w, 0x01), (.lda e w, 0x02), (.mac e w, 0x03), (.msu e w, 0x04), (.mac2 e w, 0x05), (.ash e w, 0x06),
      (.sat e w, 0x07), (.addi e w, 0x08), (.int e w, 0x09), (.trk e w, 0x0A), (.mov e w, 0x0B), (.neg e w, 0x0C), (.add e w, 0x0D),
      (.sub e w, 0x0E), (.mul e w, 0x0F), (.min e w, 0x10), (.max e w, 0x11), (.lim e w, 0x12), (.tab e w, 0x13), (.sin e w, 0x14), (.clk e w, 0x15),
      (.ick e w, 0x16), (.prk e w, 0x17), (.ipk e w, 0x18), (.inSlot e w, 0x19), (.outSlot e w, 0x1A), (.msel e w, 0x1B), (.setx e w, 0x1C),
      (.addx e w, 0x1D), (.rep e w, 0x1E), (.skn e w, 0x1F)]
    let runs (op : Instr) (code : Nat) (P : Engine → Prop) : Prop := c.executes e code w = true → Completes op s fun u =>
      P (u.engine e) ∧ (∀ j, j ≠ e.val → u.engine j = c.engine j) ∧ u.regs = c.regs
    (∀ p ∈ (.endLoop e w, 0x3F) :: ops, c.executes e p.2 w = false → Completes p.1 s fun u => u = c) ∧
    (g.skip ≠ 0 → ∀ p ∈ ops, runs p.1 p.2 fun h => h = { g with skip := g.skip - 1 }.advance) ∧
    (g.skip = 0 →
      runs (.nop e w) 0x00 (fun h => h = g.advance) ∧
      runs (.setx e w) 0x1C (fun h => h = { g with x := w.a.toNat }.advance) ∧
      runs (.addx e w) 0x1D (fun h => h = { g with x := (g.x + w.a.toNat) % 8192 }.advance) ∧
      (w.a ≠ 0 → runs (.rep e w) 0x1E fun h => h = { g with rep := some ⟨g.pc + 1, w.a.toNat, w.b.toNat⟩, pc := g.pc + 1 }) ∧
      runs (.skn e w) 0x1F (fun h => h = { g with skip := if g.dmAt a < 0 then w.n.toNat else 0 }.advance) ∧
      runs (.inSlot e w) 0x19 (fun h => h.dmAt d = signed 16 (storeGet g.inVals (g.slotNo w.xa w.a.toNat) 0) ∧
        ∀ x, x % 8192 ≠ d → h.dmAt x = g.dmAt x) ∧
      runs (.outSlot e w) 0x1A (fun h => storeGet h.outVals (g.slotNo w.xc w.c.toNat) 0 = unsigned 16 (g.dmAt a) ∧ h.dm = g.dm) ∧
      runs (.int e w) 0x09 (fun h => let lo := g.dmAt (d + 2) * 65536; let hi := g.dmAt (d + 3) * 65536
        let v := g.integrator d + roundHalfUp (2 * (g.dmAt a * g.dmAt b)) (2 ^ w.n.toNat)
        h.integrator d = (if hi < lo then lo else if v < lo then lo else if hi < v then hi else v) ∧
        ∀ x, x % 8192 ≠ d → x % 8192 ≠ (d + 1) % 8192 → h.dmAt x = g.dmAt x) ∧
      (let acts := (g.desc ll).group.isNone && (c.loopOpen e ll || c.loopRestarts e ll)
       runs (.trk e w) 0x0A fun h => (acts = false → h = g.advance) ∧
         (acts = true → h.dmAt d = c.trackTarget e ll ∧ (h.loopState ll).tracked = some (c.trackTarget e ll))) ∧
      (let v := min (max (g.dmAt d) (g.dmAt a)) (g.dmAt b)
       c.executes e 0x12 w = true → Completes (.lim e w) s fun u => (u.engine e).dmAt d = v ∧ (∀ x, x % 8192 ≠ d → (u.engine e).dmAt x = g.dmAt x) ∧
         u.rd .ceLoopStat_lim i = (if v = g.dmAt d then c.rd .ceLoopStat_lim i else 1) ∧
         u.sameBut c [(.ceLoopStat_lim, i), (.ceLoopStat_limCount, i)]) ∧
      (let k := g.image.groups.getD w.a.toNat {}
       let all := k.members.map (c.memberValue e) ++ c.hardwareMembers k.arm
       runs (.msel e w) 0x1B fun h => ∃ least, (∀ v ∈ all, least ≤ v) ∧ (all ≠ [] → least ∈ all) ∧
         h.dmAt d = if k.arm.isSome then max least 0 else least)) ∧
    ((g.loop + 1 < g.image.loops.length → runs (.endLoop e w) 0x3F fun h => h = g.startLoop (g.loop + 1)) ∧
      (c.executes e 0x3F w = true → g.image.loops.length ≤ g.loop + 1 → Completes (.endLoop e w) s fun u => (u.engine e).phase = .ended ∧
        ∀ k < g.image.loops.length, ∀ o, (g.desc k).outWord = some o → u.rdInt .ceLoopOut_out (loopIx e k) = g.dmAt o))

/-- A boundary that is due (R13, R29, R45, R52, R99, R119, R121, R281): the boundaries count, the time capture is judged, the live writes that waited
reach their snapshot, which writes mode and index to the system words, a pending request has reached its own, and QUIESCENT counts down. The grid goes on from the boundary and the period index counts,
where no standby aligns to its partner's marks (R460); the mode stays, but for a member in RUN that yields and a standby that takes over (R471). No
boundary comes early. What the spec leaves open follows log entries 101 to 103, 202. -/
def Obligations.BoundaryCountsAndTakesTheSnapshot : Prop :=
  ∀ (s : State) (t : Nat) (gdi : List Int), let c := s.chip.atTime t
    (c.boundaryDue = true → Completes (.periodBoundary t gdi) s fun u =>
      u.clock.count = c.clock.count + 1 ∧ u.clock.ran = true ∧ u.clock.step = 0 ∧
      u.rd .tbStat_boundaryValid =
        flag (c.on .ptpStat_locked && !c.on .pllStat_holdover && !c.on .pllStat_synthDown) ∧
      u.live.waiting = [] ∧ (∀ i v, c.live.waiting = [(i, v)] → storeGet u.live.inForce i 0 = v) ∧ u.modes.resumeIn = c.modes.resumeIn.map (· - 1) ∧
      u.modes.reqReached = (u.rd .modeReq_pending != 0) ∧
      (c.sram.upsets = [] → u.sramHalf 0x10470000 = u.rd .modeStat_mode % 65536 ∧ u.sramHalf 0x10470004 = u.rd .periodIndex_index % 65536) ∧
      (c.mode ≠ .shadow → c.halyard.yieldNext = false →
        u.clock = { c.clock with n := c.clock.n + 1, count := c.clock.count + 1, ran := true, step := 0 } ∧
        u.rd .periodIndex_index = (if c.clock.ran then (c.rd .periodIndex_index + 1) % 2 ^ 32 else c.rd .periodIndex_index) ∧
        u.rd .modeReq_pending = c.rd .modeReq_pending ∧ u.mode = c.mode) ∧
      (c.mode = .run → c.halyard.yieldNext = true → u.mode = .shadow) ∧
      (c.mode = .shadow → c.halyard.probing = false → c.halyard.takeNext = true → c.on .pllStat_locked = true → u.mode = .run)) ∧
    (c.boundaryDue = false → Completes (.periodBoundary t gdi) s fun u => u = c)

/-- The steps of a period (R19, R20, R24, R39, R41, R238, R241, R279, R280, R283, R284, R286, R296, R298): setpoints and input slots are in place; the
engines that run start their first loop and the others stay; a release writes its output slots and keeps its state ranges; at t_B an engine without
its release is stopped, and a queued bypass acts; at t_S a lane that is not READY or sends nothing has no sheaf, and the flagged sheaves carry BLOCK and no stamp.
Each instant acts when its count has come, once (R123). What the spec leaves open follows log entries 101, 709. -/
def Obligations.StepsOfThePeriod : Prop :=
  ∀ (s : State) (t : Nat), let c := s.chip.atTime t
    let due (k ns : Nat) : Prop := c.inPeriod = true ∧ c.clock.step < k ∧ ns ≤ c.phaseNs
    (∀ (e : Fin 24), let g := c.engine e; c.engineRuns e = true → g.phase = .ended → Completes (.engineRelease t e) s fun u =>
      (u.engine e).phase = .released ∧
      (u.engine e).released = (g.image.ranges.flatMap fun p => (List.range p.2).map fun i => g.dmAt (p.1 + i)) ∧
      u.rd .ceEstat_marginLast e = min ((c.tB - c.phaseNs) / 2) 65535 ∧
      ∀ k v, g.outVals = [(k, v)] → let a := g.image.outSlots.getD k 0
        a % 2 = 0 → c.sramIntact (sramWordOf a) = true → u.sramHalf a = v % 65536) ∧
    (∀ (e : Fin 24), c.engineRuns e = false ∨ (c.engine e).phase ≠ .ended → Completes (.engineRelease t e) s fun u => u = c) ∧
    (∀ b, let rests (op : Instr) : Prop := Completes op s fun u => u = c
      (¬ due 1 1000 → rests (.inputDistributionClose t)) ∧ (¬ due 2 1000 → rests (.engineComputeStart t)) ∧
      (¬ due 3 c.tB → rests (.balancingStart t)) ∧ (¬ due 5 c.tS → rests (.sheafTransmissionStart t b)) ∧
      (¬ due 6 (c.tCtlNs - 500) → rests (.sheafWindowClose t b))) ∧
    ((due 1 1000 → Completes (.inputDistributionClose t) s fun u => u.live.setpoints = [] ∧ u.clock.step = 1 ∧
        (∀ e a v, c.live.setpoints = [(e, a, v)] → (u.engine e).dmAt a = signed 16 v) ∧
        ∀ e < 24, ∀ k a, (u.engine e).image.inSlots[k]? = some a → u.sramIntact (sramWordOf a) = true →
          u.sramIntact (sramWordOf (a + 1)) = true → storeGet (u.engine e).inVals k 0 = u.sramHalf a) ∧
      (due 2 1000 → Completes (.engineComputeStart t) s fun u => u.regs = c.regs ∧ u.clock.step = 2 ∧ ∀ e < 24,
        if c.engineRuns e then (u.engine e).phase = .running ∧ (u.engine e).loop = 0 ∧ (u.engine e).a0 = 0 ∧ (u.engine e).a1 = 0 ∧
          (u.engine e).pc = ((c.engine e).desc 0).progStart ∧ (u.engine e).dm = (c.engine e).dm
        else u.engine e = c.engine e) ∧
      (due 3 c.tB → Completes (.balancingStart t) s fun u => u.clock.step = 3 ∧
        (∀ e < 24, c.engineRuns e = true → (c.engine e).phase ≠ .released →
          (u.engine e).phase = .stopped ∧ (u.engine e).outVals = [] ∧ u.rd .ceEstat_overrun e = 1 ∧ u.rd .periodStat_computeOverrun = 1) ∧
        ∀ nn < 96, c.mode ≠ .shadow → c.arms.commands = [(.bypass, nn)] → c.on .eeCfg_enabled nn = true →
          c.laneReady (c.laneOfCell nn) = true → c.rd .cellStat_state nn < 2 → u.rd .cellStat_state nn = 2) ∧
      (∀ overrun, due 5 c.tS → Completes (.sheafTransmissionStart t overrun) s fun u => u.clock.windowOpen = true ∧ u.clock.step = 5 ∧
        (overrun = true → u.rd .periodStat_halyardOverrun = 1) ∧ u.edges.unfinished = [] ∧
        ∀ n ∈ cellLanes, ((c.laneReady n = false ∨ c.sendsSheaves = false) → (u.lane n).sheaf = none ∧ (u.lane n).sent = []) ∧
          (c.laneReady n = true → c.sendsSheaves = true → c.flaggedSheaves = true →
            ∃ f, (u.lane n).sheaf = some f ∧ f.blockReq = true ∧ f.stamps = [])) ∧
      (∀ incomplete, due 6 (c.tCtlNs - 500) → Completes (.sheafWindowClose t incomplete) s fun u =>
        u.clock = { c.clock with windowOpen := false, step := 6 } ∧ (∀ n ∈ cellLanes, (u.lane n).sent = []) ∧
        u.rd .periodStat_sheafLate = if incomplete then 1 else c.rd .periodStat_sheafLate))

/-- The edge engines (R203 to R206, R208, R226): EE_COMMIT keeps the staging set for the next reload, or, from t_E − 32 ns until it, for the one
after; a set that awaits the same reload is counted superseded, a commit before t_E late. At t_E the reload takes the set committed in time, the debug
halt is judged, and an engine that does not compute gives no stamps. In QUIESCENT nothing is taken (R51). What the spec leaves open follows log
entries 701, 702. -/
def Obligations.CommitsAndReloadsOfTheReferenceSet : Prop :=
  ∀ (s : State) (t : Nat), let c := s.chip.atTime t
    let phase := if c.inPeriod then c.phaseNs else 0
    let late := c.commitLate phase
    (Completes (.eeCommit t) s fun u => u.rd .eeCommit_pending = 1 ∧ u.sram = c.sram ∧
      (c.sram.upsets = [] → (if late then u.edges.lateSet else u.edges.pendingSet) = some c.stagedSet) ∧
      (if late then u.edges.pendingSet = c.edges.pendingSet else u.edges.lateSet = c.edges.lateSet) ∧
      ((if late then c.edges.lateSet else c.edges.pendingSet) ≠ none → u.counted c .eeStat_superseded) ∧
      (late = true → phase < c.tE → u.counted c .eeStat_late)) ∧
    (c.inPeriod = true → c.clock.step < 4 → c.tE ≤ c.phaseNs → ∀ lateArms unfinished,
      (c.on .modeStat_quiescent = true → Completes (.edgeReload t lateArms unfinished) s fun u =>
        u = { c with clock := { c.clock with step := 4 } }) ∧
      (c.on .modeStat_quiescent = false → Completes (.edgeReload t lateArms unfinished) s fun u =>
        let halted := c.edges.haltWanted && c.mode == .commission && c.on .dbgStat_unlocked
        u.clock.step = 4 ∧ u.edges.pendingSet = c.edges.lateSet ∧ u.edges.lateSet = none ∧
        u.rd .eeCommit_pending = flag c.edges.lateSet.isSome ∧
        (∀ set, c.edges.pendingSet = some set → ∀ i < refSetWords, u.sramWord (committedBase + 4 * i) = storeGet set i 0 % 2 ^ 32) ∧
        (c.mode ≠ .shadow → c.edges.pendingSet = none → u.sram = c.sram) ∧
        u.rd .eeStat_halted = flag halted ∧ (halted = true → u.edges.stamps = []) ∧
        (halted = false → ∀ nn < 96, c.engineComputes nn = false → u.stampsOf nn = [] ∧ nn ∈ u.edges.paused) ∧
        (lateArms ≠ [] → u.rd .periodStat_sortOverrun = 1) ∧
          u.power.queued.getLast? = some (c.clock.b0 + c.clock.n * c.tCtlNs + c.leadNs, u.stampsOf 96)))

/-- The interval of EE_L (R12, R125, R207, R223 to R225): it begins at E, LEAD after a boundary, with the stamps computed for it, trip inputs still
asserted cut it with one event each and the other cuts end; a stamp that is due is placed on its channel, and the others wait. Where no E has come,
nothing begins. What the spec leaves open follows log entry 1301. -/
def Obligations.IntervalsPlaceTheirStamps : Prop :=
  ∀ (s : State) (t : Nat), let c := s.chip.atTime t
    (c.localIntervalDue = true → Completes (.intervalStart t) s fun u => u.power.e = c.reachedE ∧ u.power.begun = true ∧
      (∀ i < 16, u.rdBit .eeTripStat_cutting i = c.tripAsserted i) ∧
      u.faults.events = c.faults.events ++ ((List.range 16).filter c.tripAsserted).map originTripInput ∧
      ∀ q sts, c.power.queued = [(q, sts)] → q < c.reachedE + c.tCtlNs / 2 → c.reachedE ≤ q + c.tCtlNs / 2 →
        u.power.queued = [] ∧ ∀ st, st ∈ u.power.stampsLeft ↔ st ∈ sts ∧ 8 * c.clock.tb < u.stampAt st) ∧
    (c.localIntervalDue = false → Completes (.intervalStart t) s fun u => u = c) ∧
    (Completes (.localEdge t) s fun u => u.regs = c.regs ∧
      (∀ st, st ∈ u.power.stampsLeft ↔ st ∈ c.power.stampsLeft ∧ 8 * c.clock.tb < c.stampAt st) ∧
      ∀ st, c.power.stampsLeft = [st] → c.stampAt st ≤ 8 * c.clock.tb → u.channelOn st.channel = st.level)

/-- The trip inputs (R224, R225, R350, R396, R400): a pin's assertion shows whether the input is enabled or not; an enabled input asserted outside its mask, or still asserted at the end of the mask, cuts its channels
with one event; an input that ends inside its mask is noted as masked; released, it is asserted only by a comparator. A level that has not stood for
the input's filter does nothing. What the spec leaves open follows log entries 1301, 1302. -/
def Obligations.TripInputsCutTheirChannels : Prop :=
  ∀ (s : State) (t : Nat) (i : Fin 16), let c := s.chip.atTime t; let r := c.tripIn i
    let cuts (op : Instr) : Prop := Completes op s fun u =>
      u.rdBit .tripStat_asserted i = true ∧ u.rdBit .eeTripStat_cutting i = true ∧ (u.tripIn i).counts = true ∧
      (c.rdBit .eeTripStat_cutting i = false → u.raised c (originTripInput i)) ∧
      (c.rdBit .eeTripStat_cutting i = true → u.faults = c.faults)
    let passed (level : Bool) (ns : Nat) (asserted : Bool) : Prop :=
      c.tripFilter i ≤ ns ∧ (level == c.on .tripCfg_polarity i) = asserted
    (∀ level ns, passed level ns true → c.on .tripCfg_enabled i = true → (c.on .tripCfg_unblanked i = true ∨ r.maskUntil ≤ c.clock.now) →
      cuts (.tripAsserted t i level ns)) ∧
    (c.on .tripCfg_enabled i = true → r.pin = true → r.maskUntil ≤ c.clock.now → cuts (.tripMaskEnd t i)) ∧
    (∀ level ns, passed level ns true → c.on .tripCfg_enabled i = false → c.comparatorTrips i = false →
      (c.on .tripCfg_unblanked i = true ∨ r.maskUntil ≤ c.clock.now) → Completes (.tripAsserted t i level ns) s fun u =>
        u.rdBit .tripStat_asserted i = true ∧ u.sameBut c [(.tripStat_asserted, 0)] ∧ u.faults = c.faults) ∧
    (∀ level ns, passed level ns true → c.on .tripCfg_unblanked i = false → c.clock.now < r.maskUntil → r.counts = false →
      c.comparatorTrips i = false → Completes (.tripAsserted t i level ns) s fun u => (u.tripIn i).pin = true ∧ u.rdBit .tripStat_asserted i = false ∧ u.faults = c.faults) ∧
    (∀ level ns, ns < c.tripFilter i → Completes (.tripAsserted t i level ns) s (fun u => u = c) ∧
      Completes (.tripDeasserted t i level ns) s fun u => u = c) ∧
    (∀ level ns, passed level ns false → Completes (.tripDeasserted t i level ns) s fun u => (u.tripIn i).pin = false ∧ (u.tripIn i).counts = false ∧
      u.rdBit .tripStat_asserted i = c.comparatorTrips i ∧
      u.rdBit .tripStat_masked i = (c.rdBit .tripStat_masked i || (r.pin && !r.counts)))

/-- Cells and arms (R240, R241, R248, R250, R259): a command on a cell waits, in order, for the next t_B; a bypass not confirmed within four snapshots
is reported once; the rotation pointer advances with its period; a spread too wide for eight t_B, and a phase that stands for pc_timeout, are flagged
and reported. What the spec leaves open follows log entry 803. -/
def Obligations.CellCommandsAndArmWatches : Prop :=
  ∀ (s : State) (t : Nat), let c := s.chip.atTime t
    (∀ (n : Fin 96), ∀ p ∈ [(Instr.cellBypass t n, Machine.CellCommand.bypass), (.cellRelease t n, .release), (.cellSwap t n, .swap)],
      Completes p.1 s fun u => u = { c with arms := { c.arms with commands := c.arms.commands ++ [(p.2, n.val)] } }) ∧
    (∀ (n : Fin 96), c.on .cellStat_bypassPending n = true → 4 ≤ c.bypassSnapshots n → (c.cell n).bypassReported = false →
      Completes (.bypassConfirmTimeout t n) s fun u => (u.cell n).bypassReported = true ∧ u.regs = c.regs ∧
        u.raised c (match c.armOf n with | some a => originBypass a | none => originLink (c.laneOfCell n))) ∧
    (∀ (a : Fin 6), c.rd .armBal_rotationPeriods a ≤ (c.arm a).rotCount → Completes (.rotationAdvance t a) s fun u =>
      (u.arm a).rotCount = 0 ∧ u.rd .armStat_rotPtr a = (c.rd .armStat_rotPtr a + 1) % 32 ∧ u.sameBut c [(.armStat_rotPtr, a)]) ∧
    (∀ (a : Fin 6), 8 ≤ (c.arm a).spreadRun → (c.arm a).spreadArmed = true → Completes (.spreadWatchFire t a) s fun u =>
      (u.arm a).spreadArmed = false ∧ u.rd .armStat_spread a = 1 ∧ u.sameBut c [(.armStat_spread, a)] ∧ u.raised c (originBalance a)) ∧
    (∀ (a : Fin 6), let p := c.rd .armStat_pcPhase a
      p ≠ 0 → p ≠ 4 → 100000000 * c.rd .armPc_pcTimeout a ≤ c.clock.now - (c.arm a).phaseAt → Completes (.prechargeTimeout t a) s fun u =>
        (u.arm a).phaseAt = c.clock.now ∧ u.rd .armStat_pcTimeout a = 1 ∧ u.sameBut c [(.armStat_pcTimeout, a)] ∧
        u.raised c (originPrecharge a))

/-- The gate drivers (R384 to R392): static commands in the modes that allow them, and counted without effect otherwise; late stamps; the lock-outs of
both supplies with one event per entry, which a FOLLOW channel leaves at the next E; a short latched with its soft-off, though a disable turns the
output off at the same moment; its re-arm below the threshold; the interlock of a pair. What the spec
leaves open follows log entries 1301, 1302. -/
def Obligations.GateDriversActAndProtect : Prop :=
  ∀ (s : State) (t : Nat) (n : Fin 8), let c := s.chip.atTime t; let g := c.driver n
    let ignored (op : Instr) : Prop := Completes op s fun u =>
      u.counted c .gdCount_cmdIgnored ∧ u.sameBut c [(.gdCount_cmdIgnored, 0)] ∧ u = { c with regs := u.regs }
    (c.rd .gdCfg_src n = 2 → c.mode.energised = true → Completes (.gdStaticOn t n) s fun u =>
      u.rd .gdStat_staticOn n = 1 ∧ u.sameBut c [(.gdStat_staticOn, n)]) ∧
    (c.rd .gdCfg_src n ≠ 2 ∨ c.mode.energised = false → ignored (.gdStaticOn t n)) ∧
    (c.rd .gdCfg_src n = 2 → Completes (.gdStaticOff t n) s fun u => u.rd .gdStat_staticOn n = 0 ∧ u.sameBut c [(.gdStat_staticOn, n)]) ∧
    (c.rd .gdCfg_src n ≠ 2 → ignored (.gdStaticOff t n)) ∧
    (∀ mv : Int, c.on .gdStat_shortLatched n = true → mv < 10 * (c.rd .gdDidt_loThr n : Int) → Completes (.gdRearm t n mv) s fun u =>
      u.rd .gdStat_shortLatched n = 0 ∧ (u.driver n).softOff = none ∧ u.sameBut c [(.gdStat_shortLatched, n)]) ∧
    (∀ mv : Int, c.on .gdStat_shortLatched n = false ∨ 10 * (c.rd .gdDidt_loThr n : Int) ≤ mv → ignored (.gdRearm t n mv)) ∧
    (c.on .gdCfg_enabled n = true → c.rd .gdCfg_src n = 1 → Completes (.gdStampsLate t n) s fun u =>
      (u.driver n).nextLate = true ∧ u.counted c .gdCount_lateStamps ∧ u.raisedRigging c originIdbLate) ∧
    (∀ neg mv, mv < (if neg then 2000 + 500 * c.rd .gdCfg_negUvlo n else 12000 + 1000 * c.rd .gdCfg_drvUvlo n) →
      Completes (.gdUvloEntry t n neg mv) s fun u => 
      u.rd (if neg then .gdStat_uvloNeg else .gdStat_uvloPos) n = 1 ∧
      (c.on .gdStat_uvloPos n = false → c.on .gdStat_uvloNeg n = false →
        u.counted c .gdStat_uvloCount n ∧ u.rd .gdStat_staticOn n = 0 ∧
        (c.on .gdCfg_enabled n = true → c.rdBit .sltRetMisc_gdMon n = false → c.mode ≠ .configure → u.raisedRigging c (originUvlo n)))) ∧
    (∀ drv neg ns, 12800 + 1000 * c.rd .gdCfg_drvUvlo n < drv → 2300 + 500 * c.rd .gdCfg_negUvlo n < neg → 100000 ≤ ns →
      Completes (.gdUvloExit t n drv neg ns) s fun u => u.rd .gdStat_uvloPos n = 0 ∧ u.rd .gdStat_uvloNeg n = 0 ∧
      (c.on .gdStat_uvloPos n = true ∨ c.on .gdStat_uvloNeg n = true → (u.driver n).untilNextE = (c.rd .gdCfg_src n == 1)) ∧
      u.sameBut c [(.gdStat_uvloPos, n), (.gdStat_uvloNeg, n)]) ∧
    (let short (op : Instr) : Prop := Completes op s fun u =>
        u.rd .gdStat_shortLatched n = 1 ∧ u.rd .gdStat_staticOn n = 0 ∧ u.counted c .gdStat_shortCount n ∧
        u.raisedRigging c (originShort n) ∧
        (u.driver n).softOff = if c.rd .gdCfg_softOff n = 0 then none else some (c.clock.now + 200 * c.rd .gdCfg_softOff n)
     c.gdCompared n = true → ∀ mv : Int, (10 * (c.rd .gdDidt_hiThr n : Int) < mv → short (.gdShortDetect t n mv)) ∧
      (g.blankUntil ≤ c.clock.now → 10 * (c.rd .gdDidt_loThr n : Int) < mv → short (.gdShortDetect t n mv) ∧ short (.gdBlankEnd t n mv))) ∧
    (∀ at_, g.softOff = some at_ → at_ ≤ c.clock.now → Completes (.gdSoftOffEnd t n) s fun u =>
      (u.driver n).softOff = none ∧ u.regs = c.regs) ∧
    (∀ p, c.gdPair n = some p → c.pairConflict p = true → (c.driver p).interlockCut = false → Completes (.gdInterlock t n) s fun u =>
      u.raisedRigging c originGdInterlock ∧ ∀ k ∈ [p, p + 1], (u.driver k).interlockCut = true ∧ u.rd .gdStat_interlock k = 1 ∧
        (c.rd .gdCfg_src k = 2 → u.rd .gdStat_staticOn k = 0))

/-- Lanes lock, hold, reset and take bales (R28, R61, R135, R137, R139, R140, R142, R145, R150, R151, R163, R195, R237, R447): of the line's bits the
receiver makes blocks; 64 headers with at most 2 invalid ones are block lock; 16 of 64, whichever blocks bring them, a lost signal or a request reset
an enabled lane, which leaves READY with its cell and goes on with IDLE blocks; 10 ms without loop_timed hold it; an IDLE block tells the far end's state; invalid headers, unknown
control blocks and stuffing violations are counted; a bad or late bale is counted and reported, a good one waits for the next snapshot. What the spec
leaves open follows log entries 501, 601, 602. -/
def Obligations.LanesLockResetAndTakeBales : Prop :=
  (∀ (x : LineRx) (b : LineBlock), x.locked = false → x.seen = 63 → x.bad + flag (!b.valid) ≤ 2 →
    (x.after b).locked = true ∧ (x.after b).first = true) ∧
  ∀ (s : State) (t : Nat) (n : Fin 100), let c := s.chip.atTime t; let l := c.lane n
    let begun (u : Chip) : Prop := u.laneReady n = false ∧ u.linkState n = (if c.laneHeld n then .disabled else .hunt) ∧
      u.rd .laneLatency_valid n = 0 ∧ u.rd .resetCause_lane = 1 ∧ (u.lane n).locked = false ∧ (u.lane n).baleNext = none ∧
      (u.lane n).sheaf = none ∧ (u.lane n).sent = [] ∧ ∀ nn, c.cellOfLane n = some nn → u.rd .cellStat_state nn = 3
    let heard (farRx farTimed : Bool) : LinkState :=
      if farRx && (isHalyardLane n || farTimed) && c.applied then .measure else .hunt
    let receives (line : List Bool) : Prop := c.lanesRun = true ∧ c.linkState n ≠ .disabled ∧ (l.rx.take (isHalyardLane n) line).1.lost = false
    (∀ line, receives line → (l.rx.take (isHalyardLane n) line).1.locked = true → c.linkState n = .hunt → Completes (.laneBlockLock t n line) s fun u =>
      (u.lane n).locked = true ∧ u.linkState n = heard (c.on .laneStat_farRxLocked n) (c.on .laneStat_farLoopTimed n)) ∧
    (c.on .laneCfg_enabled n = true → (Completes (.laneResetRequest t n) s begun) ∧
      (∀ line, receives line → (l.rx.take (isHalyardLane n) line).1.locked = true → Completes (.laneLossOfLock t n line true) s fun u =>
        begun u ∧ u.counted c .laneStat_lockLosses n) ∧
      ∀ line, c.lanesRun = true → c.linkState n ≠ .disabled → let x := l.rx.take (isHalyardLane n) line
        x.1.lost = true → x.2.2.2 = [] → ∀ op ∈ [Instr.laneLossOfLock t n line false, .laneBlockLock t n line, .idleBlockRx t n line],
          Completes op s fun u => begun u ∧ u.counted c .laneStat_lockLosses n) ∧
    (isHalyardLane n = false → c.linkState n = .hunt → l.locked = true → c.applied = true → c.on .laneStat_farLoopTimed n = false →
      Completes (.loopTimedTimeout t n) s fun u => u.linkState n = .held ∧ u.rd .laneStat_heldReason n = 3 ∧
        u.laneReady n = false ∧ u.raised c (originLink n)) ∧
    (∀ line, receives line → let x := l.rx.take (isHalyardLane n) line
      Completes (.idleBlockRx t n line) s fun u =>
        u.rd .laneErrs_stuffViolations n = min (c.rd .laneErrs_stuffViolations n + x.2.2.1) (2 ^ Fld.laneErrs_stuffViolations.spec.width - 1) ∧
        ∀ b, x.2.1 = [b] →
          (isHalyardLane n = false → lineValid b = false → u.counted c .laneErrs_invalidHeaders n) ∧
          (isHalyardLane n = false → lineValid b = true → u.rd .laneStat_farBlock n = flag (l.lastBlock && b.h2) ∧ (u.lane n).lastBlock = b.h2) ∧
          (lineValid b = true → b.usable = true → lineControl b = true →
            (knownControl (isHalyardLane n) (lineKind b) = false → u.counted c .laneErrs_invalidHeaders n) ∧
            (lineKind b = 0x1E → let v := byteAt b.payload 1
              u.rd .laneStat_farRxLocked n = flag (bitAt v 0) ∧
              (isHalyardLane n = false → u.rd .laneStat_farLoopTimed n = flag (bitAt v 1)) ∧
              (x.1.locked = true → c.linkState n = .hunt → u.linkState n = heard (bitAt v 0) (if isHalyardLane n then true else bitAt v 1))))) ∧
    (isHalyardLane n = false → c.laneReady n = true → ∀ line, receives line → let bs := (l.rx.take false line).2.1
      let good := baleForm bs && baleCrc bs
      (good = false → ∀ late, Completes (.baleReceived t n line late) s fun u =>
        u.counted c .linkBale_badBales n ∧ u.raised c (originLink n) ∧ (u.lane n).baleNext = l.baleNext) ∧
      (good = true → (Completes (.baleReceived t n line true) s fun u => u.counted c .linkBale_lateBales n ∧
          u.rd .periodStat_baleLate = 1 ∧ u.raised c (originLink n) ∧ (u.lane n).baleNext = l.baleNext) ∧
        Completes (.baleReceived t n line false) s fun u => (u.lane n).baleNext = some (readBale bs) ∧ u.faults = c.faults))

/-- The latency of a lane (R33, R152 to R154, R158, R455, R456): requests leave outside the sheaf window, each lost tag again; a response gives its
loop delay; the 64th fixes D, admits the lane or holds it, and measures anew where the delays spread too far, the fourth time into HELD; in READY the
drift watch, for which one request falls due in a period, on a Halyard lane one in 64, fires at the eighth in a row; 64 losses in a row hold the
lane; a Halyard lane answers a request with its tag. The quality of a lane (R160
to R162, R533): the figure of merit is shown, with one event per fall below the threshold; an eye scan, asked for or due by its interval, asks for
leave and shows its eye when it ends; so does a re-adaptation, which a READY lane ignores. What the spec leaves open follows log entries 502 to 504,
513, 514. -/
def Obligations.EchoesAndQualityOfLanes : Prop :=
  (∀ (s : State) (t : Nat) (n : Fin 100), let c := s.chip.atTime t; let l := c.lane n
    let leaves (tag : Nat) (u : Chip) : Prop := u.regs = c.regs ∧
      ∃ x : LineTx, (u.lane n).sent = (x.sendAll [c.controlOf n [0x2D, BitVec.ofNat 8 tag]]).1
    let now := c.rd .periodIndex_index
    (c.clock.windowOpen = true → ∀ d, Completes (.echoRequestSend t n d) s fun u => u = c) ∧
    (c.clock.windowOpen = false → c.lanesRun = true → ∀ d,
      (c.linkState n = .measure → l.echoLost = [] → l.echoTag < 64 → Completes (.echoRequestSend t n d) s fun u =>
        (u.lane n).echoTag = l.echoTag + 1 ∧ storeGet (u.lane n).echoSent l.echoTag (0, 0) = (d, now) ∧ leaves l.echoTag u) ∧
      (c.linkState n = .measure → ∀ tag r, l.echoLost = tag :: r → Completes (.echoRequestSend t n d) s fun u =>
        (u.lane n).echoTag = l.echoTag ∧ (u.lane n).echoLost = r ∧ storeGet (u.lane n).echoSent tag (0, 0) = (d, now) ∧ leaves tag u) ∧
      (c.linkState n = .ready → c.echoDue n = true → Completes (.echoRequestSend t n d) s fun u =>
        storeGet (u.lane n).echoSent (l.echoTag % 64) (0, 0) = (d, now) ∧ (u.lane n).echoPeriod = some now ∧ leaves (l.echoTag % 64) u) ∧
      (c.linkState n = .ready → c.echoDue n = false → Completes (.echoRequestSend t n d) s fun u => u = c)) ∧
    (∀ line arrival b, (l.rx.take (isHalyardLane n) line).1.lost = false → (c.receive n line).1 = [b] → lineValid b = true → b.usable = true → lineControl b = true → lineKind b = 0x33 →
      let tag := byteAt b.payload 1; let hold := leAt b.payload 2 3; let op := Instr.echoResponseRx t n line arrival
      ((∀ e ∈ l.echoSent, e.1 ≠ tag) → Completes op s fun u => u = (c.receive n line).2) ∧
      ∀ at_ p : Nat, l.echoSent.find? (·.1 == tag) = some (tag, at_, p) →
      (at_ + 2000000 < arrival → Completes op s fun u => u = (c.receive n line).2) ∧
      (arrival ≤ at_ + 2000000 → let loop : Int := (arrival : Int) - at_ - hold; let got := l.echoGot ++ [loop]
       let near : Prop := ∀ x ∈ got, ∀ y ∈ got, x - y ≤ 16
       let d := (latencyConstant got (c.rdInt .laneAsym_asym n)).toNat
       (c.linkState n = .measure → got.length ≠ 64 → Completes op s fun u => (u.lane n).echoGot = got ∧ (u.lane n).lostRun = 0 ∧
         u.rd .laneRtt_loopDelay n = unsigned Fld.laneRtt_loopDelay.spec.width loop ∧ u.linkState n = .measure ∧ u.faults = c.faults) ∧
       (c.linkState n = .measure → got.length = 64 → near → Completes op s fun u =>
         u.rd .laneLatency_latency n = d % 2 ^ 24 ∧ u.rd .laneLatency_valid n = 1 ∧
         (c.laneAdmits n d = false → u.linkState n = .held ∧ u.rd .laneStat_heldReason n = 1 ∧ u.raised c (originLink n)) ∧
         (c.laneAdmits n d = true → u.faults = c.faults ∧
           if isHalyardLane n then u.linkState n = .measure ∧ (storeGet u.halyard.ids n {}).nonce.length = 16
           else u.linkState n = .ready ∧ u.laneReady n = true)) ∧
       (c.linkState n = .measure → got.length = 64 → ¬near → Completes op s fun u =>
         (u.lane n).echoGot = [] ∧ (u.lane n).echoTag = 0 ∧
         if l.spreadFails = 3 then u.linkState n = .held ∧ u.rd .laneStat_heldReason n = 2 else u.linkState n = .measure) ∧
       (c.linkState n = .ready → c.rd .laneCfg_driftLimit n < (loop - (2 * c.rd .laneLatency_latency n - c.rdInt .laneAsym_asym n)).natAbs →
         l.driftArmed = true → c.driftFollows n p = true → 7 ≤ l.driftOut → Completes op s fun u =>
           u.rd .laneRtt_drift n = 1 ∧ u.raised c (originLink n) ∧ (u.lane n).driftArmed = false))) ∧
    (∀ tag, (∀ e ∈ l.echoSent, e.1 = tag → 8 * c.clock.now < e.2.1 + 2000000) → Completes (.echoTimeout t n tag) s fun u => u = c) ∧
    (∀ e ∈ l.echoSent, e.2.1 + 2000000 ≤ 8 * c.clock.now → c.linkState n = .measure →
      (l.lostRun = 63 → Completes (.echoTimeout t n e.1) s fun u =>
        u.linkState n = .held ∧ u.rd .laneStat_heldReason n = 4 ∧ u.raised c (originLink n)) ∧
      (l.lostRun ≠ 63 → Completes (.echoTimeout t n e.1) s fun u =>
        (u.lane n).echoLost = l.echoLost ++ [e.1] ∧ (u.lane n).lostRun = l.lostRun + 1 ∧ u.regs = c.regs)) ∧
    (∀ (a : Fin 2) (tag : Fin 256), (c.lane (96 + a)).locked = true → Completes (.echoRequestRx t a tag) s fun u =>
      u.regs = c.regs ∧ ∃ h ≤ 80000, (u.lane (96 + a)).echoReply = some (tag.val, h) ∧ ∃ x : LineTx,
        (u.lane (96 + a)).sent = (x.sendAll [c.controlOf (96 + a) ([0x33] ++ leBytes 1 tag ++ leBytes 3 h)]).1)) ∧
  (∀ (s : State) (t : Nat) (n : Fin 100), let c := s.chip.atTime t; let q := c.rd .laneCfg_qualityThreshold n
    (∀ fom, c.on .laneCfg_qualityMode n = false → Completes (.fomUpdate t n fom) s fun u =>
      u.rd .laneQuality_fom n = fom % 2 ^ Fld.laneQuality_fom.spec.width ∧ (u.lane n).fomBelow = decide (fom < q) ∧
      if fom < q ∧ (c.lane n).fomBelow = false then u.raised c (originLink n) else u.faults = c.faults) ∧
    (c.on .laneCfg_enabled n = true → c.on .laneCfg_qualityMode n = true → (Completes (.eyeScanRequest t n) s fun u => u.asks (.eyeScan n) ∧ u.lanes = c.lanes) ∧
      (c.rd .laneCfg_scanInterval n ≠ 0 → Completes (.eyeScanInterval t n) s fun u => u.asks (.eyeScan n) ∧ u.lanes = c.lanes)) ∧
    (c.on .laneCfg_qualityMode n = false → (Completes (.eyeScanRequest t n) s fun u => u = c) ∧
      (c.holdsLeave (.eyeScan n) = true → ∀ width height, Completes (.eyeScanComplete t n width height) s fun u =>
        u.rd .laneQuality_scanValid n = c.rd .laneQuality_scanValid n ∧ u.faults = c.faults)) ∧
    (c.on .laneCfg_qualityMode n = true → c.holdsLeave (.eyeScan n) = true → ∀ width height, Completes (.eyeScanComplete t n width height) s fun u =>
      u.rd .laneQuality_eyeWidth n = width % 2 ^ Fld.laneQuality_eyeWidth.spec.width ∧
      u.rd .laneQuality_eyeHeight n = height % 2 ^ Fld.laneQuality_eyeHeight.spec.width ∧ u.rd .laneQuality_scanValid n = 1 ∧
      (c.waitsLeave (.eyeScan n) = false → u.holdsLeave (.eyeScan n) = false) ∧
      if width < q then u.raised c (originLink n) else u.faults = c.faults) ∧
    (c.linkState n = .hunt ∨ c.linkState n = .measure ∨ c.linkState n = .held → Completes (.readaptRequest t n) s fun u =>
      u.asks (.readapt n) ∧ u.lanes = c.lanes) ∧
    (c.linkState n = .ready → Completes (.readaptRequest t n) s fun u => u = c) ∧
    (c.holdsLeave (.readapt n) = true → c.waitsLeave (.readapt n) = false → Completes (.readaptComplete t n) s fun u =>
      u.holdsLeave (.readapt n) = false ∧ u.lanes = c.lanes))

/-- An evaluation of the temperatures, every 10 ms (R515, R516, R518, R521, R523 to R525, R530): every enabled sensor that is not broken is read; an
invalid reading marks it broken; the words of one whose cell is BYPASSED or UNREACHABLE stand; once an image is applied the limits are judged on what
was read; the second evaluation in a row at or above t_shut declares the shutdown and hands over its record. The last record written, or 3 ms, brings
SAFE HOLD with cause 3; an unwritten record is tried again;
reef_forced ends after 60 s of calm. What the spec leaves open follows log entries 20, 1801 to 1804. -/
def Obligations.TemperaturesAreEvaluated : Prop :=
  ∀ (s : State) (t : Nat), let c := s.chip.atTime t
    let shut (u : Chip) : Prop := u.heldFor .thermal ∧ u.rd .thStat_shutdownPending = 0 ∧
      u.faults.events.getLast? = some originTempShutdown
    let queued (u : Chip) : Prop := u.storage.jobs.any (fun j => j.1 == .shutdown) = true
    let ticks := (c.clock.now - c.thermal.evalAt) / 10000000
    (∀ raw, ticks = 0 → Completes (.thermalEvaluation t raw) s fun u => u = c) ∧
    (∀ raw, ticks ≠ 0 → let words := c.temperatureWords raw
      Completes (.thermalEvaluation t raw) s fun u =>
      u.thermal.evalAt = c.thermal.evalAt + 10000000 * ticks ∧ u.thermal.mirror = words ∧ u.rd .flTemp_inRange = flag u.flashInRange ∧
      (∀ k < 406, c.on .thSensor_enabled k = true → c.on .thRead_broken k = false →
        (∀ v, c.reading words k = some (true, v) → u.rd .thRead_valid k = 1 ∧ u.rd .thRead_reading k = unsigned 16 v) ∧
        (∀ v, c.reading words k = some (false, v) → u.rd .thRead_valid k = 0 ∧ u.rd .thRead_broken k = 1 ∧ u.rd .thRead_brokenReason k = 2) ∧
        (c.reading words k = none → u.rd .thRead_valid k = c.rd .thRead_valid k ∧ u.rd .thRead_reading k = c.rd .thRead_reading k)) ∧
      (c.applied = true → ∀ k < 406, c.on .thSensor_enabled k = true → u.rd .thRead_above k = flag (u.sensorLive k &&
        (decide (u.rdInt .thLimA_tMax (u.rd .thSensor_limSet k) < u.rdInt .thRead_reading k) ||
          decide (u.rdInt .thRead_reading k < u.rdInt .thLimB_tMin (u.rd .thSensor_limSet k)))) ∧
        (u.sensorLive k = true → (u.sensor k).inside = !u.on .thRead_above k)) ∧
      (c.applied = true → c.thermal.shutRun = 1 → c.on .thStat_shutdownPending = false → u.enabledSensors.any u.atShutdown = true →
        u.flashInRange = true → u.rd .thStat_shutdownPending = 1 ∧ queued u)) ∧
    (c.storage.written.contains .shutdown = true → Completes (.shutdownRecordWritten t) s fun u =>
      (c.thermal.records = [] → u.rd .thStat_recordWritten = 1 ∧ u.rd .thStat_recordPending = 0 ∧
        (c.on .thStat_shutdownPending = true → c.mode ≠ .safeHold → shut u)) ∧
      (c.thermal.records ≠ [] → u.regs = c.regs)) ∧
    (c.on .thStat_shutdownPending = true → c.thermal.declaredAt + 3000000 ≤ c.clock.now → c.mode ≠ .safeHold →
      Completes (.shutdownDeadline t) s shut) ∧
    (c.mode = .safeHold → c.on .thStat_recordPending = true → c.thermal.recordTriedAt + 1000000000 ≤ c.clock.now →
      c.thermal.records ≠ [] → Completes (.shutdownRecordRetry t) s fun u => queued u ∧ u.regs = c.regs) ∧
    (∀ from_, c.thermal.calmFrom = some from_ → 60000000000 ≤ c.clock.now - from_ → Completes (.reefForcedClear t) s fun u =>
      u.rd .grStat_reefForced = 0 ∧ u.rd .grStat_reefLevel = c.thermal.reefOwn % 4 ∧
      u.sameBut c [(.grStat_reefForced, 0), (.grStat_reefLevel, 0)])

/-- The Granary and the hold-up stack (R161, R162, R528, R531 to R534): a request waits or is granted; one that fits, alone and not below its floor, is granted at
once with its cost, an eye scan or a re-adaptation that its lane admits none of is not asked for; what is granted never grows past 2 W; returned leave ends; a request that waits too long is counted and reported once; HOLD's
ready follows 13.3 V, and 10 s without it in RUN or SHADOW are reported. What the spec leaves open follows log entries 1805, 1806. -/
def Obligations.GranaryGrantsAndReadyIsWatched : Prop :=
  ∀ (s : State) (t : Nat), let c := s.chip.atTime t
    let bounded (u : Chip) : Prop := u.rd .grPower_granted ≤ max 2000 (c.rd .grPower_granted)
    (∀ w, c.mayAsk w = false → c.holdsLeave w = false → c.waitsLeave w = false → Completes (.granaryRequest t w) s fun u => u = c) ∧
    (∀ w, c.mayAsk w = true → Completes (.granaryRequest t w) s fun u => u.asks w ∧ bounded u ∧
      (c.thermal.queue = [] → c.holdsLeave w = false → (w.isEcdsa && c.security.rederiving) = false →
        (16 * c.rd .grClass_floor w.cls : Nat) ≤ c.rdInt .grStat_headroom →
        (w.isSlice = true → (c.thermal.grants.filter (·.what.isSlice)).length < 2) →
        c.powerBase + c.rd .grPower_granted + w.cost ≤ 100 * c.rd .grCfg_pLim → c.rd .grPower_granted + w.cost ≤ 2000 →
        u.holdsLeave w = true ∧ u.thermal.queue = [] ∧ u.rd .grPower_granted = c.rd .grPower_granted + w.cost ∧
        u.counted c .grCount_grants)) ∧
    (∀ w, c.holdsLeave w = true → c.waitsLeave w = false → Completes (.granaryReturn t w) s fun u =>
      u.holdsLeave w = false ∧ bounded u) ∧
    (∀ w, c.holdsLeave w = false → Completes (.granaryReturn t w) s fun u => u = c) ∧
    (∀ r : LeaveRequest, c.thermal.queue = [r] → r.starved = false → 1000000 * c.rd .grClass_maxWait r.what.cls < c.clock.now - r.since →
      Completes (.granaryStarved t r.what) s fun u => u.thermal.queue = [{ r with starved := true }] ∧
        u.counted c .grCount_starved ∧ u.raised c originGranary ∧ u.sameBut c [(.grCount_starved, 0)]) ∧
    (∀ mv, (13300 ≤ mv → Completes (.holdReadyChange t mv) s fun u => u.rd .huStat_ready = 1 ∧ u.rd .huStat_holdMv = mv % 65536 ∧
        u.thermal.readyClearFrom = none) ∧
      (mv < 13300 → Completes (.holdReadyChange t mv) s fun u => u.rd .huStat_ready = 0 ∧ u.rd .huStat_holdMv = mv % 65536 ∧
        (c.on .huStat_ready = true → u.thermal.readyClearFrom = some c.clock.now))) ∧
    (∀ from_, c.thermal.readyClearFrom = some from_ → c.on .huStat_ready = false → c.mode = .run ∨ c.mode = .shadow →
      10000000000 ≤ c.clock.now - from_ → c.thermal.readyReported = false → Completes (.holdupReadyTimeout t) s fun u =>
        u.thermal.readyReported = true ∧ u.raisedRigging c originCharger ∧ u.regs = c.regs)

/-- The slice test's cycle (R540 to R548, R552 to R554, R593): a cycle that falls due takes up every instance that can be tested, once, and the next
start follows; an instance whose turn has come begins its slice under leave, in place or with its load carried by the spare, and waits without leave;
the security slice clears the vault first; a cycle that overruns is reported once. What the spec leaves open follows log entries 1901, 1902, 1904. -/
def Obligations.SliceCyclesBeginTheirSlices : Prop :=
  ∀ (s : State) (t : Nat), let c := s.chip.atTime t
    let begins (op : Instr) (i : Nat) : Prop :=
      let k := trackOf (instKind i); let a := c.askLeave (.slice i)
      c.sliceNext i = true → (c.inPlace i = true ∨ c.spareFor i ≠ none) →
      (a.holdsLeave (.slice i) = true → Completes op s fun u => u.sliceQueue k = (c.sliceQueue k).drop 1 ∧
        ∃ r, u.sliceRun k = some r ∧ r.inst = i ∧ r.began = c.clock.now ∧ r.done = false ∧ r.again = false ∧
          r.carrier = if c.inPlace i then none else c.spareFor i) ∧
      (a.holdsLeave (.slice i) = false → Completes op s fun u => u.sliceQueue k = c.sliceQueue k ∧ u.sliceRun k = none ∧
        u.asks (.slice i))
    (∀ (e : Fin 24), (∀ l, c.logicalOf e = some l → (c.engine l).late = false ∧ (c.engine l).phase ≠ .stopped) →
      begins (.ceSliceHandover t e) (sliceInst 1 e)) ∧
    (∀ (e : Fin 96), begins (.eeSliceHandover t e) (sliceInst 2 e)) ∧ (∀ (n : Fin 2), begins (.eeSSlice t n) (sliceInst 3 n)) ∧
    (begins (.compareUnitTest t) (sliceInst 4 0)) ∧
    (∀ (n : Fin 102), begins (.pcsSliceHandover t n) (if n.val < 100 then sliceInst 5 n else sliceInst 6 (n.val - 100))) ∧
    (begins (.securitySlice t) (sliceInst 8 0)) ∧
    (c.sliceNext (sliceInst 8 0) = true → (c.askLeave (.slice (sliceInst 8 0))).holdsLeave (.slice (sliceInst 8 0)) = true →
      Completes (.securitySlice t) s fun u => u.rd .secStat_vaultClear = 1 ∧ u.rd .secStat_idReady = 0 ∧
        u.rd .dbgStat_challengeOpen = 0 ∧ u.security.rederiving = true) ∧
    (∀ start, c.slices.nextStart = some start → start ≤ c.clock.now →
      (c.on .sltCfg_enabled = true → c.on .sltStat_running = false → Completes (.sliceCycleStart t) s fun u =>
        let tested (i : Nat) : Bool := c.inPlace i || (c.spareFor i).isSome
        u.slices.cycleFrom = c.clock.now ∧ u.slices.lateSeen = false ∧
        u.slices.nextStart = some ((if c.slices.lateSeen then c.clock.now else start) + 1000000 * c.rd .sltCfg_cyclePeriod) ∧
        u.slices.queue0 = c.cycleTrack0.filter tested ∧
        u.slices.queue1 = (c.cycleTrack1 (decide (c.slices.securityAt ≤ c.clock.now))).filter tested ∧
        (u.slices.queue0 ≠ [] → u.rd .sltStat_running = 1)) ∧
      (c.on .sltStat_running = true → c.slices.lateSeen = false → Completes (.cycleLate t) s fun u =>
        u.rd .sltStat_cycleLate = 1 ∧ u.slices.lateSeen = true ∧ u.raised c originSliceTest ∧ u.sameBut c [(.sltStat_cycleLate, 0)]))

/-- How slices end (R543, R546, R549 to R551, R555, R558): an equal signature ends the test; the first mismatch repeats the slice, the second retires
the instance with its record and event; the load comes back; a hand-over without confirmation is a lane reset; a wire, a supply monitor and EE_L fail
at their first failed test, a wire's 200 ns after it began; the power-on test raises READY for every instance that passes, and clears the vault for a
derivation anew. What the spec leaves open follows log entries 1901 to 1904.
-/
def Obligations.SlicesJudgeRepeatAndRetire : Prop :=
  ∀ (s : State) (t : Nat), let c := s.chip.atTime t
    let failed (u : Chip) : Prop := u.counted c .sltCount_failures ∧ u.rd .sltLast_result = 2 ∧ originSliceTest ∈ u.faults.events
    (∀ (k : Fin 2) r, c.sliceRun k = some r → r.done = false → c.holdsLeave (.slice r.inst) = true →
      r.began + sliceLength (instKind r.inst) ≤ c.clock.now →
      let rom := storeGet c.security.signatures (instKind r.inst) 0
      (∀ sig : Word, sig.toNat = rom → Completes (.sliceSignatureCompare t k sig) s fun u =>
        u.sliceRun k = (if r.carrier.isNone then none else some { r with done := true }) ∧
        (r.again = true → u.counted c .sltCount_transients ∧ u.rd .sltLast_result = 1)) ∧
      (∀ sig : Word, sig.toNat ≠ rom → r.again = false → Completes (.sliceSignatureCompare t k sig) s fun u =>
        u.sliceRun k = some { r with again := true, began := c.clock.now } ∧ u.asks (.slice r.inst)) ∧
      (∀ sig : Word, sig.toNat ≠ rom → r.again = true → Completes (.sliceSignatureCompare t k sig) s fun u => u.sliceRun k = none ∧ failed u ∧
        u.rd .sltLast_kind = instKind r.inst % 2 ^ Fld.sltLast_kind.spec.width ∧
        u.rd .sltLast_index = instIndex r.inst % 2 ^ Fld.sltLast_index.spec.width)) ∧
    (∀ (k : Fin 2) r, c.sliceRun k = some r → r.done = true → c.on .eeStat_halted = false → c.slicePoint (instKind r.inst) = true →
      (if instKind r.inst = 1 then r.backFrom ≤ c.clock.count else instKind r.inst = 5 ∨ r.backFrom ≤ c.clock.now) →
      Completes (.sliceHandback t k) s fun u => u.sliceRun k = none ∧
        (instKind r.inst = 1 → r.carrier.isSome = true →
          u.rd .ceCfg_runsOn r.load = instIndex r.inst % 2 ^ Fld.ceCfg_runsOn.spec.width) ∧
        (∀ sp, instKind r.inst = 2 → r.carrier = some sp → u.rd .eeEstat_standFor (100 + sp) = 127)) ∧
    (∀ (n : Fin 100) r, c.slices.run1 = some r → r.inst = sliceInst 5 n → c.on .laneCfg_enabled n = true →
      ¬ (r.done = true ∧ c.on .eeStat_halted = true) → Completes (.pcsHandoverTimeout t n) s fun u => u.laneReady n = false ∧ u.rd .resetCause_lane = 1 ∧
        u.slices.run1 = if r.done then none else some r) ∧
    (∀ (w : Fin 4) latched, let i := sliceInst 7 w; let op := Instr.blockWireTest t w latched
      (c.sliceNext i = true → (c.askLeave (.slice i)).holdsLeave (.slice i) = true → Completes op s fun u =>
        u.slices.queue1 = c.slices.queue1.drop 1 ∧ u.slices.run1 = some { inst := i, began := c.clock.now } ∧ u.faults = c.faults) ∧
      (c.sliceNext i = true → (c.askLeave (.slice i)).holdsLeave (.slice i) = false → Completes op s fun u =>
        u.slices.queue1 = c.slices.queue1 ∧ u.slices.run1 = none ∧ u.asks (.slice i)) ∧
      ∀ r, c.slices.run1 = some r → r.inst = i →
        (c.clock.now < r.began + 200 → Completes op s fun u => u = c) ∧
        (r.began + 200 ≤ c.clock.now → (∀ k < 102, k ∈ latched) → Completes op s fun u => u.slices.run1 = none ∧ u.faults = c.faults) ∧
        (r.began + 200 ≤ c.clock.now → (∃ k < 102, k ∉ latched) → Completes op s fun u => u.slices.run1 = none ∧ failed u ∧
          u.rdBit .sltRetMisc_bw w = true)) ∧
    (∀ (n : Fin 8) vdrv vneg, c.on .gdCfg_enabled n = true → c.on .sltStat_running = true → c.on .adcStat_noRotation = false →
      c.rdBit .sltRetMisc_gdMon n = false → c.slices.supplyDone.contains n.val = false → c.on .gdStat_uvloPos n = false → c.on .gdStat_uvloNeg n = false →
      let fall : Int := 12000 + 1000 * c.rd .gdCfg_drvUvlo n; let fallN : Int := if c.rd .gdCfg_negUvlo n = 0 then -2000 else -2500
      (vdrv < fall - 300 ∨ fallN + 300 < vneg → Completes (.supplyMonitorCheck t n vdrv vneg) s fun u =>
        failed u ∧ u.rdBit .sltRetMisc_gdMon n = true) ∧
      (fall - 300 ≤ vdrv → vneg ≤ fallN + 300 → Completes (.supplyMonitorCheck t n vdrv vneg) s fun u =>
        u = { c with slices := { c.slices with supplyDone := n.val :: c.slices.supplyDone } })) ∧
    (c.applied = true → c.modes.sliceDone = false → ∀ l, Completes (.powerOnSliceTest t l) s fun u => u.modes.sliceDone = true ∧
      u.slices.nextStart = some (c.clock.now + 1000000 * c.rd .sltCfg_cyclePeriod) ∧
      (l = [] → c.on .modeStat_quiescent = false → u.faults = c.faults ∧ (∀ p < 24, u.rdBit .readyUnit_ce p = true) ∧
        (∀ e < 97, u.edgeReady e = true) ∧ u.edgeReady 100 = true ∧ u.edgeReady 101 = true ∧
        (c.slices.enginesOnly = false → u.rd .secStat_vaultClear = 1 ∧ u.rd .secStat_idReady = 0 ∧ u.security.deriveDue = true))) ∧
    (c.on .sltRetMisc_eeL = false → Completes (.eeLLockstepMismatch t) s fun u =>
      failed u ∧ u.rd .sltRetMisc_eeL = 1 ∧ u.rd .readyUnit_eeL = 0 ∧ u.rd .sltLast_kind = 4)

/-- The configuration image (R83 to R91): the copies are read out of their slots in flash; the first candidate that verifies and passes its
application is applied, with its status; with none that verifies the device enters SAFE HOLD with cause 5 and each candidate's status says why, as
does that of a slot whose header fails; once selected, or without firmware, nothing is selected again. The background check under leave gives the
other copy's status, with an event for a failure; a retired security block checks none. What the spec leaves open follows log entries 301, 303, 305, 2005, 2104. -/
def Obligations.ImageSelectionAndBackgroundCheck : Prop :=
  ∀ (s : State) (t : Nat), let c := s.chip.atTime t
    let a := c.slotCopy (imageRegion false); let b := c.slotCopy (imageRegion true)
    (∀ levels edges, c.noFirmware = false → c.modes.imageDone = false →
      let read := c.readFlash (c.headPages (imageRegion false) ++ c.headPages (imageRegion true))
      let c1 : Chip := { (read.readHeader false a).readHeader true b with modes := { c.modes with imageDone := true } }
      let op := Instr.imageSelection t levels edges
      (∀ second x l, imageOrder a b = (second, x) :: l → c.checkContent x = none →
        ((c1.readFlash (c1.bodyPages (imageRegion second) x)).stage x).isSome = true → Completes op s fun u =>
          u.rd .imageStat_appliedValid = 1 ∧ u.rd .imageStat_appliedCopy = flag second ∧ u.rd (statusField second) = 1 ∧
          u.modes.imageDone = true ∧ u.storage.jobs.any (fun j => j.1 == .image) = true) ∧
      ((∀ p ∈ imageOrder a b, c.checkContent p.2 ≠ none) → c.mode ≠ .safeHold → Completes op s fun u =>
        u.heldFor .noImage ∧ u.modes.imageDone = true ∧
        (∀ p ∈ imageOrder a b, ∀ e, c.checkContent p.2 = some e → u.rd (statusField p.1) = e) ∧
        (∀ e, checkHeader a = some e → u.rd .imageStat_statusA = e) ∧ ∀ e, checkHeader b = some e → u.rd .imageStat_statusB = e)) ∧
    (∀ levels edges, c.noFirmware = true ∨ c.modes.imageDone = true → Completes (.imageSelection t levels edges) s fun u => u = c) ∧
    (let second := !c.on .imageStat_appliedCopy; let f := statusField second; let x := c.slotCopy (imageRegion second)
      (c.on .secStat_retired = true → Completes (.backgroundImageCheck t) s fun u => u = c) ∧
      (c.applied = true → c.on .secStat_retired = false → c.mode ≠ .configure → c.rd f = 0 → c.holdsLeave .imageCheck = true →
      (∀ e, c.checkContent x = some e → Completes (.backgroundImageCheck t) s fun u =>
        u.rd f = e ∧ u.faults.events.getLast? = some originImage) ∧
      (c.checkContent x = none → Completes (.backgroundImageCheck t) s fun u =>
        u.rd f = 2 ∧ (c.waitsLeave .imageCheck = false → u.holdsLeave .imageCheck = false))))

/-- A write to a live word (R98, R99, R101, R463): without a declaration, out of format or range, or a coefficient of a loop that will be CLOSED, it
is refused with its reason, counted and reported, and the word stays; otherwise the word takes it and it waits for its snapshot. In SHADOW it is
refused and counted. What the spec leaves open follows log entry 304. -/
def Obligations.LiveWritesAreJudged : Prop :=
  ∀ (s : State) (t : Nat) (i : Fin 256) (v : Word), let c := s.chip.atTime t
    ∀ op ∈ [Instr.setpointWrite t i v, .loopControlWrite t i v, .coefficientWrite t i v],
    let refused (reason : Nat) : Prop := Completes op s fun u =>
      u.rd .liveStat_lastRefusal = reason ∧ u.rd .liveStat_lastIndex = i ∧ u.counted c .liveStat_refusals ∧ u.raised c originLive ∧
      u.sameBut c [(.liveStat_lastRefusal, 0), (.liveStat_lastIndex, 0), (.liveStat_refusals, 0)] ∧ u.live = c.live
    (c.mode = .shadow → Completes op s fun u => u.counted c .halCount_liveRefused ∧ u.sameBut c [(.halCount_liveRefused, 0)] ∧ u.live = c.live) ∧
    (c.mode ≠ .shadow → c.liveDecl i = none → refused 1) ∧
    (c.mode ≠ .shadow → ∀ d, c.liveDecl i = some d →
      (d.admits v.toNat = false → refused 2) ∧
      (d.admits v.toNat = true → d.kind = 4 → c.closedAtSnapshot d.engine d.loop = true → refused 3) ∧
      (d.admits v.toNat = true → (d.kind = 4 → c.closedAtSnapshot d.engine d.loop = false) → Completes op s fun u =>
        u.rd .liveWord_value i = v.toNat ∧ u.live = { c.live with waiting := c.live.waiting ++ [(i.val, v.toNat)] } ∧
        u.sameBut c [(.liveWord_value, i)] ∧ u.faults = c.faults))

/-- The timebase (R108 to R118): the PLL locks by the first path that succeeds and starts the grid anew, or waits 1 ms; a hop stops both synthesisers,
in CONFIGURE and SAFE HOLD alone; a lost reference brings holdover, a lost lock or 100 ms without its return stops the synthesisers, and either loss,
but for that of a hop's reference, holds the device where the mode asks for it; a member that waited for its partner yields to its report, or is held.
What the spec leaves open follows log entries 401, 403, 404, 406. -/
def Obligations.TimebaseLocksHopsAndIsLost : Prop :=
  ∀ (s : State) (t : Nat), let c := s.chip.atTime t
    let stopped (u : Chip) : Prop := u.rd .pllStat_synthDown = 1 ∧ u.rd .pllStat_locked = 0 ∧ u.rd .pllStat_holdover = 0 ∧
      u.clock.gridOn = false ∧ u.rd .periodStat_running = 0 ∧ u.pll.onBypass = true
    let lossHolds : Prop := c.mode ≠ .shadow ∧ c.mode ≠ .safeHold ∧ (c.mode = .run → c.waitsForTakeover = false)
    (∀ stored table full band temp, c.locking = true →
      let c1 : Chip := { c with pll := { c.pll with dieTemp := temp.getD c.pll.dieTemp, dieTempValid := temp.isSome } }
      (∀ path, c1.lockPath (stored, table, full) = some path → Completes (.pllLock t stored table full band temp) s fun u =>
        u.rd .pllStat_locked = 1 ∧ u.rd .pllStat_lockPath = path ∧ u.rd .pllStat_synthDown = 0 ∧ u.rd .pllStat_holdover = 0 ∧
        u.rd .pllStat_hopPending = 0 ∧ u.pll.onBypass = false ∧ u.clock.started = true ∧
        (c.clock.started = true → c.applied = true → u.clock.gridOn = true ∧ u.clock.n = 0 ∧ u.clock.b0 = c.clock.tb)) ∧
      (c1.lockPath (stored, table, full) = none → Completes (.pllLock t stored table full band temp) s fun u =>
        u.pll.failedAt = some c.clock.now ∧ u.regs = c.regs)) ∧
    (∀ at_, c.pll.failedAt = some at_ → at_ + 1000000 ≤ c.clock.now → c.on .pllStat_refPresent = true →
      Completes (.relockRetry t) s fun u => u = { c with pll := { c.pll with failedAt := none } }) ∧
    (c.modes.porstLow = false → c.noFirmware = false → (∀ at_, c.pll.bandAt = some at_ → at_ + 1000000000 ≤ c.clock.now) → ∀ bands,
      Completes (.bandTableUpdate t bands) s fun u => u.pll.bandAt = some c.clock.now ∧ ∀ p < 4,
      if c.on .pllPlan_defined p then u.rd .pllBandTable_valid p = 1 ∧ u.rd .pllBandTable_band p = bands.getD p 0 % 64
      else u.rd .pllBandTable_valid p = c.rd .pllBandTable_valid p ∧ u.rd .pllBandTable_band p = c.rd .pllBandTable_band p) ∧
    (∀ (p : Fin 8) edges, p.val ≤ 3 →
      ((c.mode = .configure ∨ c.mode = .safeHold) → c.on .pllPlan_defined p = true → Completes (.planHopRequest t p edges) s fun u =>
        u.rd .pllStat_activePlan = p ∧ u.rd .pllStat_hopPending = 1 ∧ u.rd .pllStat_refPresent = flag edges ∧ stopped u) ∧
      ((c.mode ≠ .configure ∧ c.mode ≠ .safeHold) ∨ c.on .pllPlan_defined p = false → Completes (.planHopRequest t p edges) s fun u =>
        u.raised c originModeRequest ∧ u.regs = c.regs)) ∧
    (c.on .pllStat_refPresent = true → c.on .pllStat_hopPending = false → Completes (.lossOfReference t) s fun u =>
      u.rd .pllStat_refPresent = 0 ∧ u.counted c .pllStat_refLosses ∧ u.faults.events.getLast? = some originClock ∧
      (c.synthRuns = true → u.rd .pllStat_locked = 0 ∧ u.rd .pllStat_holdover = 1 ∧ u.pll.holdoverAt = c.clock.now) ∧
      (lossHolds → u.heldFor .clockLoss) ∧ (c.mode = .shadow → u.mode = .shadow)) ∧
    (c.on .pllStat_refPresent = true → c.on .pllStat_hopPending = true → Completes (.lossOfReference t) s fun u =>
      u.rd .pllStat_refPresent = 0 ∧ u.sameBut c [(.pllStat_refPresent, 0)] ∧ u.faults = c.faults ∧ u.mode = c.mode) ∧
    (c.on .pllStat_locked = true → c.on .pllStat_refPresent = true → Completes (.lossOfLock t) s fun u =>
      stopped u ∧ u.counted c .pllStat_lockLosses ∧ (lossHolds → u.heldFor .clockLoss)) ∧
    (c.on .pllStat_holdover = true → c.on .pllStat_refPresent = false → c.pll.holdoverAt + 100000000 ≤ c.clock.now → Completes (.holdoverExpiry t) s stopped) ∧
    (Completes (.referenceReturn t) s fun u => u.rd .pllStat_refPresent = 1 ∧ u.sameBut c [(.pllStat_refPresent, 0)] ∧
      u.pll.failedAt = if c.on .pllStat_refPresent then c.pll.failedAt else none) ∧
    (∀ at_, c.pll.yieldDeadline = some at_ → at_ ≤ c.clock.now → c.mode ≠ .safeHold → c.mode ≠ .shadow → Completes (.yieldDeadline t) s fun u =>
      u.pll.yieldDeadline = none ∧
      if c.pll.takeoverSeen || c.on .halStat_partnerTakeover then u.mode = .shadow ∧ u.counted c .halCount_yields
      else u.heldFor .clockLoss)

/-- Sampled values and GOOSE (R304 to R310, R312, R314, R318, R319, R321, R322): a frame that a stream discards is counted once, not again for its
second copy; a sample of another configuration or without global synchronisation makes it invalid; a good sample in time is the latest seen; a sample
absent at t_j + Δ is missing, and two in a row make the stream invalid. A new GOOSE message is accepted with its values and time to live, its second
copy does nothing, and one of a lower stNum is discarded and counted; one that lives no longer makes its subscription invalid, with one event. What the spec leaves open follows log entries 1001, 1002,
1004. -/
def Obligations.SampledValuesAndGooseAreJudged : Prop :=
  ∀ (s : State) (t : Nat), let c := s.chip.atTime t
    (∀ port : Fin 4, 2 ≤ port.val → ∀ f, Completes (.svFrameRx t port f) s fun u => u = c) ∧
    (∀ (port : Fin 4) (f : SvFrameRx) (n : Fin 16) k, port.val < 2 → let r := c.stream n
      r.cfg = some k → f.dst = k.dst → f.appid = k.appid → ∀ a, f.asdus.filter (fun a => a.svId == k.svId) = [a] →
      let j := sampleNumber (svRate k.rate) a.smpCnt f.arrival
      let real : Prop := f.simulation = true → c.mode = .commission
      let formed : Prop := f.supported = true ∧ f.asdus.length ≤ 8 ∧ a.smpCnt < svRate k.rate ∧ k.values ≤ a.values.length ∧ a.values.length ≤ 16
      let discards (P : Chip → Prop) : Prop := Completes (.svFrameRx t port f) s fun u => P u ∧ (u.stream n).samples = r.samples ∧
        (r.turned.contains (f.simulation, j) = false → u.counted c .svCount_rejected n) ∧
        (r.turned.contains (f.simulation, j) = true → u.rd .svCount_rejected n = c.rd .svCount_rejected n)
      let same (u : Chip) : Prop := u.rd .svStat_valid n = c.rd .svStat_valid n
      let invalid (u : Chip) : Prop := u.rd .svStat_valid n = 0
      (¬real → discards same) ∧ (real → a.confRev ≠ k.confRev → discards invalid) ∧ (real → a.confRev = k.confRev → ¬formed → discards same) ∧
      (real → a.confRev = k.confRev → formed → a.smpSynch ≠ 2 → discards invalid) ∧
      (real → a.confRev = k.confRev → formed → a.smpSynch = 2 → r.heard.contains j = false →
        r.lateSeen.contains j = false → r.missing.contains j = false → pastDelta k j f.arrival = false → Completes (.svFrameRx t port f) s fun u =>
          (u.stream n).last = max j r.last ∧ (u.stream n).seen = true ∧ u.rd .svStat_smpCnt n = a.smpCnt ∧
          (r.samples.length < 128 → ∃ x ∈ (u.stream n).samples, x.idx = j ∧ x.values = a.values.map (·.1) ∧
            x.good = (sampleFault k (c.mode == .commission) a).isNone) ∧
          (sampleFault k (c.mode == .commission) a ≠ none → u.rd .svStat_valid n = 0))) ∧
    (∀ (n : Fin 16) second count k, let r := c.stream n; let j := second * svRate k.rate + count
      r.cfg = some k → r.seen = true → (∀ x, r.samples.head? = some x → x.idx ≤ j) → r.samples ≠ [] →
      r.heard.contains j = false → r.missing.contains j = false → pastDelta k j (c.ptpNow + 1) = true →
      Completes (.sampleMissing t n second count) s fun u => (u.stream n).missing = j :: r.missing ∧
        u.counted c .svCount_missing n ∧
        (r.missing.contains (j + 1) = true → r.reported = false →
          u.rd .svStat_valid n = 0 ∧ u.rd .svStat_invalidReason n = 1 ∧ u.raised c (originStream n))) ∧
    (∀ (port : Fin 4) (f : GooseFrameRx) (g : Fin 64) k, let r := c.goose g
      r.cfg = some k → k.station = decide (2 ≤ port.val) → f.dst = k.dst → f.appid = k.appid → f.ref = k.ref →
      let stays : Prop := Completes (.gooseFrameRx t port f) s fun u =>
        (u.goose g).stNum = r.stNum ∧ u.rd .goStat_valid g = c.rd .goStat_valid g ∧ u.rd .goStat_values g = c.rd .goStat_values g
      let real : Prop := f.simulation = true → c.mode = .commission
      let formed : Prop := f.supported = true ∧ (k.members.any fun m => (memberIn m f.data).isNone) = false
      (¬real → stays) ∧ (real → f.confRev = k.confRev → ¬formed → stays) ∧
      (real → f.confRev ≠ k.confRev → Completes (.gooseFrameRx t port f) s fun u => u.rd .goStat_valid g = 0) ∧
      (real → f.confRev = k.confRev → formed → r.taken.contains (f.stNum, f.sqNum) = true → stays) ∧
      (real → f.confRev = k.confRev → formed → r.taken.contains (f.stNum, f.sqNum) = false → r.seen = true → f.stNum < r.stNum →
        ¬ (r.stNum = 4294967295 ∧ f.stNum = 1) → stays ∧
        ((∀ h < 64, h ≠ g.val → ∀ o, (c.goose h).cfg = some o → o.ref ≠ f.ref) → Completes (.gooseFrameRx t port f) s fun u =>
          u.counted c .goCount_rejected ∧ u.faults = c.faults)) ∧
      (f.confRev = k.confRev → formed → r.taken.contains (f.stNum, f.sqNum) = false → f.simulation = false → f.test = false → f.ndsCom = false →
        (r.seen = true → r.stNum < f.stNum) →
        Completes (.gooseFrameRx t port f) s fun u => u.rd .goStat_valid g = 1 ∧ u.rd .goStat_stNum g = f.stNum % 2 ^ Fld.goStat_stNum.spec.width ∧
          (u.goose g).stNum = f.stNum ∧ (u.goose g).sqNum = f.sqNum ∧ (u.goose g).reported = false ∧
          (u.goose g).liveUntil = c.clock.now + 1000000 * f.ttl ∧ (u.goose g).taken.contains (f.stNum, f.sqNum) = true)) ∧
    (∀ (g : Fin 64), c.on .goStat_valid g = true → (c.goose g).liveUntil ≤ c.clock.now → (c.goose g).reported = false →
      Completes (.gooseTtlExpiry t g) s fun u => u.rd .goStat_valid g = 0 ∧ u.rd .goStat_invalidReason g = 1 ∧ (u.goose g).reported = true ∧
        u.faults.events = c.faults.events ++ originGoose g ::
          (match (c.goose g).cfg with | some k => if k.failTrip then [originGooseTrip g] else [] | none => []))

/-- The local converter (R327 to R331, R333 to R337, R339, R340, R342, R343): a trigger of the sequence's source starts its run at the next modulator
edge after its delay, or is held, or stands by for a run that ends at its own instant, and is counted where none does; a window whose bits the channel's history holds gives the filter's corrected value, saturated and marked
and, over a link that is up, mirrored; the calibrating slice takes over in turn, relieves after 1.1 ms, and calibrated it is READY; out of bounds it
is retired, which ends the rotation. What the spec leaves open follows log entries 1101, 1102, 1105, 1106. -/
def Obligations.ConverterRunsRotatesAndCalibrates : Prop :=
  ∀ (s : State) (t : Nat), let c := s.chip.atTime t
    (∀ (q : Fin 4) x, c.triggerDue q = some x → c.on .adcSeqCfg_enabled q = true → c.synthRuns = true →
      (c.rd .adcSeqCfg_source q = 1 → c.on .eeStat_halted = false) →
      let op := Instr.sequenceTrigger t q; let r := c.sequence q; let up := c.on .idbStat_linkUp
      (r.running = false → Completes op s fun u => (u.sequence q).running = true ∧ (u.sequence q).done = [] ∧ (u.sequence q).last = some x ∧
        (up = true → u.rd .adcSeqStat_running q = 1) ∧
        (8 * c.clock.b0 ≤ x → c.clock.tb ≤ c.clock.now → ∃ edge, (u.sequence q).sampling + c.clock.tb = c.clock.now + edge ∧
          c.clock.b0 ≤ edge ∧ (edge - c.clock.b0) % 50 = 0 ∧
          x + 8 * c.rd .adcSeqCfg_delay q ≤ 8 * edge ∧ 8 * edge < x + 8 * c.rd .adcSeqCfg_delay q + 400)) ∧
      (r.running = true → r.held = none → Completes op s fun u => (u.sequence q).held = some (c.samplingInstant q x, c.clock.now) ∧
        (u.sequence q).sampling = r.sampling ∧ (up = true → u.rd .adcSeqStat_heldPending q = 1)) ∧
      (r.running = true → r.held ≠ none → Completes op s fun u => (u.sequence q).sampling = r.sampling ∧ (u.sequence q).held = r.held ∧
        (u.sequence q).third = (match r.third with
          | some y => if y.2 = c.clock.now then some y else some (c.samplingInstant q x, c.clock.now)
          | none => some (c.samplingInstant q x, c.clock.now)) ∧
        let lost := r.overruns + if r.third.isSome then 1 else 0
        (up = true → u.counted c .adcSeqStat_overruns q lost) ∧ (up = false → (u.sequence q).overruns = lost))) ∧
    (∀ (n : Fin 32) new retries arrives q, c.adcDue n = true → c.sequenceOf n = some q →
      let r := c.sequence q; let ch := c.rd .adcEntry_channel n; let order := c.rd .adcEntry_order n; let dec := c.rd .adcEntry_dec n
      let first := r.sampling - c.halfWindow n; let last := r.sampling + c.halfWindow n
      Completes (.adcResultComplete t n new retries arrives) s fun u =>
        (u.adcEntry n).isNew = true ∧ (u.adcEntry n).latest.held = r.heldRun ∧ u.counted c .idbStat_retries 0 retries ∧
        (u.adcEntry n).delivered = (arrives && c.on .idbStat_linkUp) ∧
        (arrives = true → c.on .idbStat_linkUp = true → u.rd .adcRes_result n = unsigned 24 (u.adcEntry n).latest.value) ∧
        (∀ k b, c.sliceAt ch first = some k → (c.takeBits ch k last new).windowBits ch k last (order * dec) = some b →
          let raw := normalised order dec (sincSum order dec b) (c.slice k).offset (c.slice k).gain
          (u.adcEntry n).latest.value = satSigned 24 raw ∧ (u.adcEntry n).latest.ovr = (satSigned 24 raw != raw) ∧
          (u.adcEntry n).latest.valid = (c.channelServed ch && c.synthRuns && decide (c.converter.modulatorsFrom ≤ first)))) ∧
    (∀ k, c.converter.noRotation = false → c.slicesReady = true → c.converter.takeover = none →
      c.on .adcSlice_calibrating c.converter.calSlice = false →
      c.converter.rotateAt + 250000000 ≤ c.clock.now → c.nextServing = some k → Completes (.sliceRotation t) s fun u => u.regs = c.regs ∧
        u.converter = { c.converter with rotateAt := c.clock.now, takeover := some (c.converter.calSlice, k, c.clock.now) }) ∧
    (∀ inn out at_, c.converter.takeover = some (inn, out, at_) → inn ≠ out → at_ + 1100000 ≤ c.clock.now → c.rd .adcSlice_serving out < 24 →
      Completes (.channelSourceChange t) s fun u =>
        u.rd .adcSlice_serving inn = c.rd .adcSlice_serving out ∧ u.rd .adcSlice_serving out = 31 ∧ u.rd .adcSlice_calibrating out = 1 ∧
        u.converter.calSlice = out ∧ u.converter.takeover = none ∧ u.converter.lastRelieved = out ∧
        (c.on .idbStat_linkUp = true → u.rd .adcStat_calSlice = out % 32)) ∧
    (∀ (k : Fin 25) offset gain, c.on .adcSlice_calibrating k = true → c.on .adcSlice_retired k = false →
      (offset.natAbs ≤ 20000 → gain.natAbs ≤ 20000 → Completes (.calibrationComplete t k offset gain true) s fun u =>
        u.rd .adcSlice_calibrating k = 0 ∧ u.rdBit .readyIo_slice k = true ∧ u.slice k = ⟨offset, gain, true⟩ ∧
        u.rd .adcSlice_retired k = c.rd .adcSlice_retired k) ∧
      (∀ ok, ok = false ∨ 20000 < offset.natAbs ∨ 20000 < gain.natAbs → Completes (.calibrationComplete t k offset gain ok) s fun u =>
        u.rd .adcSlice_retired k = 1 ∧ u.rdBit .readyIo_slice k = false ∧ u.converter.noRotation = true ∧
        u.converter.retired = c.converter.retired + 1 ∧ originCalibration k ∈ u.faults.events ++ u.faults.idbEvents))

/-- The window comparators (R345 to R351): one whose level reaches a threshold is outside, remembered in WC_LATCH and reported; back past its
hysteresis on the side it left by it is inside and stays remembered; an unresolved one is resolved by its level once that has left the bands; a
threshold read back more than 3 steps off is flagged. What the spec leaves open follows log entries 1103, 1104. -/
def Obligations.ComparatorsFollowTheirWindows : Prop :=
  ∀ (s : State) (t : Nat), let c := s.chip.atTime t
    let reported (u : Chip) (n : Nat) : Prop := originWindow n ∈ u.faults.events ++ u.faults.idbEvents
    (∀ (n : Fin 24) (v : Int), let hi : Int := (c.rd .wcCfg_hi n - 512) * 2000; let lo : Int := (c.rd .wcCfg_lo n - 512) * 2000
      let h : Int := 2000 * hystSteps (c.rd .wcCfg_hyst n)
      let past : Prop := hi ≤ v ∨ v ≤ lo
      let back : Prop := lo < v ∧ v < hi ∧ (h ≠ 0 → if bitAt c.converter.above n then v < hi - h else lo + h < v)
      (c.on .wcCfg_enabled n = true → bitAt c.converter.unresolved n = false →
        (bitAt c.converter.outside n = false → past → Completes (.comparatorOutside t n v) s fun u =>
          bitAt u.converter.outside n = true ∧ bitAt u.converter.above n = decide (hi ≤ v) ∧ reported u n ∧
          (c.on .idbStat_linkUp = true → u.rdBit .wcLatch_flags n = true ∧ u.rdBit .wcState_state n = true)) ∧
        (¬past → Completes (.comparatorOutside t n v) s fun u => u = c) ∧
        (bitAt c.converter.outside n = true → back → Completes (.comparatorInside t n v) s fun u =>
          bitAt u.converter.outside n = false ∧ (c.rdBit .wcLatch_flags n = true → u.rdBit .wcLatch_flags n = true) ∧
          (c.on .idbStat_linkUp = true → u.rdBit .wcState_state n = false)) ∧
        (¬back → Completes (.comparatorInside t n v) s fun u => u = c)) ∧
      (bitAt c.converter.unresolved n = true → c.comparatorDegraded n = false → c.inBand n v = false →
        Completes (.comparatorResolved t n v) s fun u =>
          bitAt u.converter.outside n = c.beyond n v ∧ bitAt u.converter.unresolved n = false ∧ (c.beyond n v = true → reported u n))) ∧
    (∀ (l : List (List Bool × List Bool)), c.on .sltCfg_enabled = true → c.on .adcRb_enabled = true → c.on .sltStat_running = true →
      c.converter.noRotation = false → c.converter.readBackDone = false → c.converter.takeover = none → c.synthRuns = true →
      let off (code : Nat) (b : List Bool) : Bool :=
        decide (3 * 16384 < (c.filtered 3 128 c.converter.calSlice b.reverse - ((code : Int) - 512) * 16384).natAbs)
      let failed (u : Chip) (n : Nat) : Bool := u.rdBit .wcRbFail_flags n || bitAt u.converter.rbFail n
      Completes (.thresholdReadback t l) s fun u => u.converter.readBackDone = true ∧
        ∀ (n : Nat) (lo hi : List Bool), n < 24 → l[n]? = some (lo, hi) →
          failed u n = (failed c n || (c.on .wcCfg_enabled n && (off (c.rd .wcCfg_lo n) lo || off (c.rd .wcCfg_hi n) hi))))

/-- Metering and its saves (R357, R361, R363, R369 to R371, R375): a window with a bad sample is unmeasured and credits nothing, a good one is
credited; a save due, tried again or commanded outside HOLD-UP hands its page to the ledger under leave, or, the flash out of its range, is refused,
counted and reported; the final save is shown written while HOLD-UP is on. What the spec leaves open follows log entries 1201 to 1203. -/
def Obligations.MeteringWindowsAndSaves : Prop :=
  ∀ (s : State) (t : Nat), let c := s.chip.atTime t
    (∀ (k : Fin 2), let m := c.meter k; let n := c.rd .mptCfg_nW k
      c.on .mptCfg_enabled k = true → c.windowNeeds k ≤ m.window.length → Completes (.meteringWindowEnd t k) s fun u =>
        (u.meter k).window = m.window.drop n ∧
        ((m.window.take n).any (·.bad) = true → u.rd .mptStat_unmeasured k = 1 ∧ ∀ i, u.rd .mptTotalLo_energy i = c.rd .mptTotalLo_energy i ∧
          u.rd .mptTotalHi_energy i = c.rd .mptTotalHi_energy i ∧ u.rd .mptDeltaLo_energy i = c.rd .mptDeltaLo_energy i) ∧
        ((m.window.take n).any (·.bad) = false → u.rd .mptStat_unmeasuredMs k = c.rd .mptStat_unmeasuredMs k ∧
          (u.meter k).lastEnd = some (((m.window.take n).getLast?.map (·.instant)).getD 0 + c.meterInterval k))) ∧
    (c.on .modeStat_holdUp = false →
      let saves (op : Instr) (P : Chip → Prop) : Prop :=
        (c.holdsLeave .metrologySave = true → c.on .flTemp_inRange = true → Completes op s fun u => P u ∧
          u.storage.jobs.any (fun j => j.1 == .save) = true ∧ u.metrology.retryFrom = none ∧ u.faults = c.faults) ∧
        (c.on .flTemp_inRange = false → Completes op s fun u => P u ∧ u.rd .metStat_saveRefused = 1 ∧ u.counted c .metStat_refusals ∧
          u.raised c originMetrology ∧ u.metrology.retryFrom = some c.clock.now ∧ u.storage = c.storage ∧
          (c.holdsLeave .metrologySave = true → u.counted c .flTemp_refused))
      saves (.metrologySave t) (fun _ => True) ∧
      (∀ at_, c.metrology.retryFrom = some at_ → at_ + 10000000000 ≤ c.clock.now → saves (.saveRetry t) fun _ => True) ∧
      (c.clock.gridOn = true → c.metrology.nextSave ≤ c.clock.tb → saves (.periodicSave t) fun u => u.metrology.savedOnce = true ∧
        u.metrology.nextSave = c.metrology.nextSave + 60000000000 * c.rd .metCfg_saveInterval)) ∧
    (c.on .modeStat_holdUp = true → Completes (.metrologySave t) s fun u => u = c) ∧
    (c.storage.written.contains .final = true → Completes (.finalSaveWritten t) s fun u =>
      u.rd .metStat_finalWritten = (if c.on .modeStat_holdUp then 1 else c.rd .metStat_finalWritten) ∧ u.rd .modeStat_lockoutPersisted = flag (c.mode == .safeHold && u.modes.lockoutEntries.isEmpty) ∧ u.storage.written.contains .final = false)

/-- One event reaches the collector (R401, R405, R407 to R409, R411, R419): the sticky bit is set, the event counted, and the window opens or takes
one more. With the count complete the window closes: during a reaction the escalation is merged; otherwise its bit is set, it is counted, and its
class acts. What the spec leaves open follows log entries 22, 1401 to 1403. -/
def Obligations.FaultEventsCountAndEscalate : Prop :=
  ∀ (s : State) (t o : Nat), let c := s.chip.atTime t; let src := c.rd .fcOrigin_source o
    c.faults.events.contains o = true → src < 512 → c.rd .fsCfg_n src < 256 →
    let before := if c.on .fsCount_winOpen src && !c.windowOver src then c.rd .fsCount_winCount src else 0
    let counts (u : Chip) : Prop := u.sticky src = true ∧ u.counted c .fsCount_events src ∧
      (c.sticky src = false → ∃ e ∈ u.faults.log, e.source = src ∧ e.merged = false)
    let done (P : Chip → Prop) : Prop := Completes (.faultEvent t [o]) s fun u =>
      counts u ∧ u.rd .fsCount_winOpen src = 0 ∧ u.rd .fsCount_winCount src = 0 ∧ P u
    (before + 1 < c.rd .fsCfg_n src → Completes (.faultEvent t [o]) s fun u => counts u ∧
      u.on .fsCount_winOpen src = true ∧ u.rd .fsCount_winCount src = before + 1 ∧ u.faults.events = c.faults.events.erase o ∧
      u.sameBut c [(.fsSticky_bits, src / 32), (.fsCount_events, src), (.fsCount_winOpen, src), (.fsCount_winCount, src)]) ∧
    (before + 1 = c.rd .fsCfg_n src →
      (c.reaction = true → done fun u => u.counted c .fcStat_merged ∧ u.faults.events = c.faults.events.erase o ∧
        ∀ w, u.rd .fsEsc_bits w = c.rd .fsEsc_bits w) ∧
      (c.reaction = false → done fun u => u.rdBit .fsEsc_bits (src % 32) (src / 32) = true ∧ u.counted c .fcStat_escalations ∧
        (c.sourceClass src = .note → u.rd .fcStat_notePending = 1 ∧ u.mode = c.mode) ∧
        (c.sourceClass src = .degrade → u.rd .fcStat_degradePending = 1 ∧ u.mode = c.mode ∧
          (c.degradeSuspended = true → u.faults.events = c.faults.events.erase o) ∧
          (c.degradeSuspended = false → o < 288 → (u.cell (o % 96)).degradeDue = true)) ∧
        (c.sourceClass src = .severe → c.mode ≠ .safeHold → u.heldFor .severe ∧
          (c.spr.idbUp = true → u.rd .shroudStat_lockout = 1) ∧ (c.spr.idbUp = false → u.spr.reaction = c.spr.reaction.merge .severe))))

/-- Windows, the lockout's bits and the two ALIVE outputs (R405, R413, R415, R416): a window that has run closes; 10 ms after the t0 of its own entry each entry takes the bits;
an output toggles where its half period has run, unless frozen or under PORST_N; a correct kick turns the sequence and lets ALIVE_A run outside SAFE
HOLD; any other write sets kick_err; 10 ms without a kick freeze ALIVE_A. What the spec leaves open follows log entry 1401. -/
def Obligations.WindowsLockoutBitsAndAlive : Prop :=
  ∀ (s : State) (t : Nat), let c := s.chip.atTime t
    (∀ src : Fin 512, c.on .fsCount_winOpen src = true →
      (c.windowOver src = true → Completes (.faultWindowExpiry t src) s fun u =>
        u.rd .fsCount_winOpen src = 0 ∧ u.rd .fsCount_winCount src = 0 ∧
        u.sameBut c [(.fsCount_winOpen, src), (.fsCount_winCount, src)]) ∧
      (c.windowOver src = false → Completes (.faultWindowExpiry t src) s fun u => u = c)) ∧
    (Completes (.lockoutBitsCapture t) s fun u => u.regs = c.regs ∧ u.modes.lockoutEntries.length = c.modes.lockoutEntries.length ∧
      ∀ (i : Nat) e, c.modes.lockoutEntries[i]? = some e → ∃ x, u.modes.lockoutEntries[i]? = some x ∧
        x.cause = e.cause ∧ x.noLeave = e.noLeave ∧ (e.waits = none → x = e) ∧
        ∀ t0, e.waits = some t0 → if c.clock.now < t0 + 10000000 then x = e
          else x.waits = none ∧ (∀ w < 16, x.sticky[w]? = some (c.rd .fsSticky_bits w)) ∧
            ∀ w < 16, x.esc[w]? = some (c.rd .fsEsc_bits w)) ∧
    ((∀ e ∈ c.modes.lockoutEntries, ∀ t0, e.waits = some t0 → c.clock.now < t0 + 10000000) → Completes (.lockoutBitsCapture t) s fun u => u = c) ∧
    (c.modes.porstLow = false → let half := 4950000 / c.rd .fcAlive_fAlive
      (Completes (.aliveToggle t false) s fun u => u.faults.aliveB = c.faults.aliveB ∧ u.regs = c.regs ∧
        u.faults.aliveA = if c.on .fcStat_aliveAFrozen ∨ c.clock.now < c.faults.aliveAAt + half then c.faults.aliveA
          else !c.faults.aliveA) ∧
      (Completes (.aliveToggle t true) s fun u => u.faults.aliveA = c.faults.aliveA ∧ u.regs = c.regs ∧
        u.faults.aliveB = if c.on .fcStat_aliveBFrozen ∨ c.clock.now < c.faults.aliveBAt + half then c.faults.aliveB
          else !c.faults.aliveB)) ∧
    (c.modes.porstLow = true → ∀ b, Completes (.aliveToggle t b) s fun u => u = c) ∧
    (∀ key : Byte,
      (key.toNat = c.faults.kickExpect → Completes (.fcKick t key) s fun u =>
        u.faults.kickExpect = (if key = 0xAA then 0x55 else 0xAA) ∧ u.faults.lastKick = c.clock.now ∧
        u.rd .fcStat_aliveAFrozen = (if c.mode = .safeHold then c.rd .fcStat_aliveAFrozen else 0) ∧ u.sameBut c [(.fcStat_aliveAFrozen, 0)]) ∧
      (key.toNat ≠ c.faults.kickExpect → Completes (.fcKick t key) s fun u =>
        u.rd .fcStat_kickErr = 1 ∧ u.faults = c.faults ∧ u.sameBut c [(.fcStat_kickErr, 0)])) ∧
    (c.faults.lastKick + 10000000 ≤ c.clock.now → Completes (.kickTimeout t) s fun u =>
      u.rd .fcStat_aliveAFrozen = 1 ∧ u.sameBut c [(.fcStat_aliveAFrozen, 0)]) ∧
    (c.clock.now < c.faults.lastKick + 10000000 → Completes (.kickTimeout t) s fun u => u = c)

/-- Safe power removal by its inputs (R425 to R428, R431, R433 to R435): a demand of 1.0 µs or less and a release under 2.0 µs are nothing; a demand on
SPR_A reaches pair 0 and drives SAFE HOLD with cause 2, its reaction waiting for a Shroud not yet heard; one on SPR_B first asserts the Shroud's wires and latches its lockout; a release unblocks nothing; a
discrepancy of more than 10 ms is reported once in its episode; the Shroud blocks where either consent is missing. What the spec leaves open follows
log entry 1501. -/
def Obligations.SprInputsRemovePower : Prop :=
  ∀ (s : State) (t : Nat), let c := s.chip.atTime t
    let old := if c.on .shroudStat_lockout then HoldCause.ofCode (c.rd .shroudStat_holdCause) else .none
    let up := c.on .idbStat_linkUp
    (∀ ns, ns ≤ 1000 → (Completes (.sprADemand t ns) s fun u => u = c) ∧ Completes (.sprBDemand t ns) s fun u => u = c) ∧
    (∀ b ns, ns < 2000 → Completes (.sprInputRelease t b ns) s fun u => u = c) ∧
    (∀ ns, 1000 < ns → Completes (.sprADemand t ns) s fun u => u.rd .shroudStat_sprA = 1 ∧
      (up = true → u.rd .sprStat_aDemand = 1 ∧ u.rd .sprStat_discrepancy = flag (!c.on .shroudStat_sprB)) ∧
      (up = true → c.on .sprStat_aDemand = false → c.mode ≠ .safeHold → u.heldFor .spr ∧
        (c.sprDemand = false → u.counted c .sprStat_demands) ∧
        (c.spr.idbUp = true → u.rd .shroudStat_lockout = 1 ∧ u.rd .shroudStat_holdCause = (old.merge .spr).code) ∧
        (c.spr.idbUp = false → u.spr.reaction = c.spr.reaction.merge .spr))) ∧
    (∀ ns, 1000 < ns → Completes (.sprBDemand t ns) s fun u => u.rd .shroudStat_sprB = 1 ∧ u.wiresAsserted = true ∧ u.rd .shroudStat_shroudConsent = 0 ∧
      u.rd .shroudStat_withheld = 1 ∧ u.rd .shroudStat_lockout = 1 ∧ u.rd .shroudStat_holdCause = (old.merge .spr).code ∧
      (up = true → c.on .sprStat_bDemand = false → c.mode ≠ .safeHold → u.heldFor .spr ∧ u.rd .sprStat_bDemand = 1 ∧
        (c.sprDemand = false → u.counted c .sprStat_demands))) ∧
    (∀ b ns, 2000 ≤ ns → Completes (.sprInputRelease t b ns) s fun u => u.rd (if b then .shroudStat_sprB else .shroudStat_sprA) = 0 ∧
      (c.wiresAsserted = true → u.wiresAsserted = true) ∧ (c.on .shroudStat_lockout = true → u.on .shroudStat_lockout = true) ∧
      (up = true → u.rd (if b then .sprStat_bDemand else .sprStat_aDemand) = 0) ∧
      (up = false → ∀ f ∈ [Fld.sprStat_aDemand, .sprStat_bDemand, .sprStat_discrepancy, .modeStat_mode], u.rd f = c.rd f)) ∧
    (∀ at_, c.spr.pairDiscAt = some at_ → at_ + 10000000 < c.clock.now → c.spr.pairDiscLong = false →
      Completes (.discrepancyTimeout t) s fun u => u.rd .sprStat_discFault = 1 ∧ u.counted c .sprStat_discCount ∧
        u.spr.pairDiscLong = true ∧ u.spr.discReported = true ∧
        if c.spr.discReported then u.faults = c.faults else u.raised c originSpr) ∧
    (∀ at_, c.spr.discAt = some at_ → at_ + 10000000 < c.clock.now → c.spr.pairDiscAt = none → c.spr.discLong = false →
      Completes (.discrepancyTimeout t) s fun u => u.wiresAsserted = true ∧ u.rd .shroudStat_shroudConsent = 0 ∧
        u.spr.discReported = true ∧ if c.spr.discReported then u.faults = c.faults else u.raisedRigging c originSpr) ∧
    (Completes (.consentLapse t) s fun u => u.rd .shroudStat_withheld = c.shroudWithheld ∧
      u.rd .shroudStat_shroudConsent = flag (c.shroudWithheld == 0) ∧ (c.mastConsents = false → u.rd .shroudStat_mastConsent = 0) ∧
      (c.mastConsents = false ∨ c.shroudWithheld ≠ 0 ∨ c.on .shroudStat_mastConsent = false → u.wiresAsserted = true) ∧
      u = { c with regs := u.regs, lanes := u.lanes, power := u.power })

/-- Safe telegrams (R432, R437 to R440, R442): a frame of another port pair or kind is none; a first good copy waits; the second decides: accepted,
differing, too late; an invalid copy and a gap fail at once, an old one is only counted. An accepted permit or remove acts; a missing copy and a
silence of t_watch fail. What the spec leaves open follows log entry 1502. -/
def Obligations.SafeTelegramsAreJudgedAndAct : Prop :=
  ∀ (s : State) (t : Nat), let c := s.chip.atTime t
    let fails (op : Instr) (code : Nat) : Prop := Completes op s fun u => u.rd .stStat_lastFail = code ∧ u.raised c originTelegram
    let stale (op : Instr) : Prop := Completes op s fun u => u.counted c .stCount_stale ∧ u.faults = c.faults ∧
      u.sameBut c [(.stCount_stale, 0)]
    (∀ (port : Fin 4) (bytes : List Byte), let seq := leAt bytes 4 4; let op := Instr.safeTelegramRx t port bytes
      let last := c.rd .stSeq_seq; let watched := c.on .stStat_supervising
      (c.on .stCfg_enabled = false ∨ port.val / 2 ≠ c.rd .stCfg_pair ∨ byteAt bytes 2 ≠ 1 → Completes op s fun u => u = c) ∧
      (c.on .stCfg_enabled = true → port.val / 2 = c.rd .stCfg_pair → byteAt bytes 2 = 1 →
        (c.spr.seen.contains (seq, port.val) = true → stale op) ∧
        (c.spr.seen.contains (seq, port.val) = false →
          ((c.spr.seen.any (·.1 == seq) = false ∨ c.spr.copies.any (·.seq == seq) = true) →
            (c.telegramValid bytes = false → fails op 1) ∧
            (c.telegramValid bytes = true → watched = true → seq ≤ last → stale op) ∧
            (c.telegramValid bytes = true → watched = true → last + 1 < seq → fails op 4)) ∧
          (c.telegramValid bytes = true → watched = false ∨ seq = last + 1 →
            (c.spr.seen.any (·.1 == seq) = false → c.spr.copies.any (·.seq == seq) = false → Completes op s fun u => u.regs = c.regs ∧
              u.faults = c.faults ∧ u.spr.copies = c.spr.copies ++ [⟨seq, port, bytes, c.clock.now⟩] ∧
              u.spr.seen = c.spr.seen ++ [(seq, port.val)]) ∧
            (∀ x, c.spr.copies.find? (·.seq == seq) = some x →
              (x.arrived + 2000000 < c.clock.now → fails op 3) ∧
              (c.clock.now ≤ x.arrived + 2000000 → x.bytes ≠ bytes → fails op 2) ∧
              (c.clock.now ≤ x.arrived + 2000000 → x.bytes = bytes → Completes op s fun u =>
                u.rd .stSeq_seq = seq ∧ u.rd .stStat_supervising = 1 ∧ u.counted c .stCount_accepted ∧ u.faults = c.faults ∧
                u.spr.accepted = commandOf ((bytes.drop 8).take 8) ∧ u.spr.acceptedAt = c.clock.now ∧ u.spr.watchOn = true)))))) ∧
    (c.spr.accepted = some true → Completes (.permitCommand t) s fun u => u.rd .stStat_permitted = 1 ∧ u.rd .sprStat_stDemand = 0 ∧
      u.spr = { c.spr with accepted := none } ∧ u.sameBut c [(.stStat_permitted, 0), (.sprStat_stDemand, 0)]) ∧
    (c.spr.accepted = some false → c.mode ≠ .safeHold → Completes (.removeCommand t) s fun u =>
      u.rd .stStat_permitted = 0 ∧ u.rd .sprStat_stDemand = 1 ∧ u.heldFor .spr ∧ u.spr.accepted = none ∧
      (c.sprDemand = false → u.counted c .sprStat_demands)) ∧
    (∀ seq x, c.spr.copies.find? (·.seq == seq) = some x →
      (x.arrived + 2000000 ≤ c.clock.now → fails (.telegramCopyTimeout t seq) 3) ∧
      (c.clock.now < x.arrived + 2000000 → Completes (.telegramCopyTimeout t seq) s fun u => u = c)) ∧
    (c.spr.watchOn = true → c.spr.acceptedAt + 100000 * c.rd .stTime_tWatch ≤ c.clock.now → fails (.telegramWatchExpiry t) 5) ∧
    (c.on .stCfg_enabled = true → c.spr.statusSeq ≠ 0 → c.clock.now < c.spr.statusAt + 100000 * c.rd .stTime_tTel →
      Completes (.statusTelegramSend t) s fun u => u = c) ∧
    (c.on .stCfg_enabled = true → c.spr.statusSeq = 0 ∨ c.spr.statusAt + 100000 * c.rd .stTime_tTel ≤ c.clock.now →
      Completes (.statusTelegramSend t) s fun u => u.regs = c.regs ∧ u.spr.statusAt = c.clock.now ∧
      u.spr.statusSeq = (c.spr.statusSeq + 1) % 2 ^ 32 ∧ ∀ p, p / 2 = c.rd .stCfg_pair → c.portMode p ≠ 0 →
        let tg := FrameBody.telegram { c with spr := { c.spr with statusSeq := (c.spr.statusSeq + 1) % 2 ^ 32 } }.statusTelegram
        u.goesOut p 7 (c.copyOn p tg))

/-- The ports (R481 to R483, R485 to R488, R505): a link comes up and goes, a LAN fault after 4 s of silence, a frame's place in the buffers, of which
the reserved one is served first, the ring's forwarding, supervision frames, the next frame after the last, and the answers to ARP and echo, each
frame in both copies of its pair. What the spec leaves open follows log entry
1701. -/
def Obligations.PortsFollowLinksAndFrames : Prop :=
  ∀ (s : State) (t : Nat) (p : Fin 4), let c := s.chip.atTime t; let r := c.port p; let b := p.val / 2
    (∀ speed joined, c.portMode p = 1 ∨ c.portMode p = 2 ∧ speed = 1000 ∨ c.portMode p = 3 ∧ speed = 100 →
      Completes (.portLinkUp t p speed joined) s fun u => u.rd .pStat_linkUp p = 1 ∧
      let ready := c.pairMode b == 0 || joined || c.on .pStat_joined p
      u.rd .pStat_ready p = flag ready ∧ u.rdBit .readyIo_port p = ready) ∧
    (∀ speed joined, c.portMode p = 0 ∨ c.portMode p = 2 ∧ speed ≠ 1000 ∨ c.portMode p = 3 ∧ speed ≠ 100 → Completes (.portLinkUp t p speed joined) s fun u => u = c) ∧
    (c.portMode p ≠ 0 → c.on .pStat_linkUp p = true → Completes (.portLinkLoss t p) s fun u => u.rd .pStat_linkUp p = 0 ∧
      u.rd .pStat_joined p = 0 ∧ u.rd .pStat_ready p = 0 ∧ u.rdBit .readyIo_port p = false ∧ u.counted c .pStat_linkLosses p ∧
      u.raised c originPorts) ∧
    (c.pairMode b = 1 → c.portMode p ≠ 0 → r.lanArmed = true →
      (r.heardAt + 4000000000 ≤ c.clock.now → Completes (.lanFaultTimeout t p) s fun u => u.rd .pStat_lanFault p = 1 ∧
        u.raised c originPorts ∧ u.sameBut c [(.pStat_lanFault, p)]) ∧
      (c.clock.now < r.heardAt + 4000000000 → Completes (.lanFaultTimeout t p) s fun u => u = c)) ∧
    (∀ f kept taken, let op := Instr.frameRxClassify t p f kept taken; let held := r.reserved - max 1 kept
      let left := if held = 0 then r.ordinary.drop taken else r.ordinary
      (c.portMode p = 0 → Completes op s fun u => u = c) ∧
      (c.portMode p ≠ 0 →
        (f.pause = true ∨ 1522 < f.length → Completes op s fun u => u.counted c .pCount_rxDrop p ∧
          (u.port p).ordinary = left ∧ (u.port p).reserved = held) ∧
        (f.pause = false → f.length ≤ 1522 →
          (c.reservedFrame p f = true → Completes op s fun u => u.counted c .pCount_tripRx p ∧
            (u.port p).reserved = min 32 (held + 1) ∧ (u.port p).ordinary = left) ∧
          (c.reservedFrame p f = false → f.redundancy = none →
            (left.foldl (· + ·) 0 + f.length ≤ 65536 → Completes op s fun u => (u.port p).ordinary = left ++ [f.length]) ∧
            (65536 < left.foldl (· + ·) 0 + f.length → Completes op s fun u =>
              (u.port p).ordinary = left ∧ u.counted c .pCount_rxDrop p)) ∧
          (∀ seq, c.reservedFrame p f = false → f.redundancy = some seq → c.pairMode b ≠ 0 → f.ethertype = 0x0800 →
            (c.firstCopy b f.src seq).1 = false → Completes op s fun u => (u.port p).ordinary = left)))) ∧
    (∀ f, (c.pairMode b ≠ 2 ∨ f.src = c.portMac p ∨ f.dst = c.portMac p → Completes (.hsrForward t p f) s fun u => u = c) ∧
      (c.pairMode b = 2 → f.src ≠ c.portMac p → f.dst ≠ c.portMac p → let o := if p.val % 2 = 0 then p.val + 1 else p.val - 1
        let q := match f.priority with | some k => min 6 k.val | none => 0
        ((c.firstCopy (8 + b) f.src f.seq).1 = true → c.portMode o ≠ 0 → Completes (.hsrForward t p f) s fun u =>
          u.regs = c.regs ∧ ∃ rx d, u.goesOut o q (.forwarded f.bytes rx d) ∧
            if f.ptp then rx = some (c.ptpNow - c.rd .pCorr_ingress p) else rx = none ∧ d = r.peerDelay) ∧
        ((c.firstCopy (8 + b) f.src f.seq).1 = false → Completes (.hsrForward t p f) s fun u =>
          u.regs = c.regs ∧ u.net.ports = c.net.ports))) ∧
    (∀ pair : Fin 2, (c.pairMode pair ≠ 0 → c.intervalDue pair 2000000000 = true →
        Completes (.supervisionFrameSend t pair) s fun u => u.regs = c.regs ∧ u.intervalDue pair 2000000000 = false ∧
          ∀ o, o / 2 = pair.val → c.portMode o ≠ 0 → u.goesOut o 0 (c.copyOn o .supervision)) ∧
      (c.pairMode pair = 0 ∨ c.intervalDue pair 2000000000 = false → Completes (.supervisionFrameSend t pair) s fun u => u = c)) ∧
    (r.queue = [] → Completes (.frameTransmissionEnd t p) s fun u => (u.port p).sending = none ∧ (u.port p).queue = []) ∧
    (∀ x, nextFrame r.queue = some x → Completes (.frameTransmissionEnd t p) s fun u =>
      (u.port p).sending = some (c.departing p x.2) ∧ (u.port p).queue = dropFirst x.1 r.queue ∧ u.regs = c.regs) ∧
    (b = c.rd .netCfg_saPair → ∀ (a : Word) h, a.toNat = c.net.ip →
      let answers (m : IpMessage) (f : FrameBody) : Prop := Completes (.arpIcmpRx t p m) s fun u => u.regs = c.regs ∧
        ∀ o, o / 2 = b → o = p.val ∨ c.pairMode b ≠ 0 → c.portMode o ≠ 0 → u.goesOut o 0 (c.copyOn o f)
      answers (.arp a h) (.arpReply (c.portMac p) c.net.ip h) ∧
      ∀ d, answers (.icmpEcho a h d) (.echoReply h (c.nextHop h.ip.toNat) d)) ∧
    (∀ m, b ≠ c.rd .netCfg_saPair ∨ m = .other ∨ (∃ (a : Word) (h : IpHost), a.toNat ≠ c.net.ip ∧ (m = .arp a h ∨ ∃ d, m = .icmpEcho a h d)) →
      Completes (.arpIcmpRx t p m) s fun u => u = c)

/-- The PTP clock (R489, R491, R492): an Announce is kept, and a second one in time qualifies its clock, which a slave follows; a Pdelay_Resp gives
the link's delay. A two-step Sync sets its flag and one event; the offset of a Sync taken is shown, locks after eight within 100 ns and unlocks after
four beyond 1,000 ns; beyond 10 µs an unlocked clock steps. Three intervals without an Announce move the slave, lose lock or make a master. What the
spec leaves open follows log entries 1701, 1702, 1706. -/
def Obligations.PtpClockFollowsItsMaster : Prop :=
  ∀ (s : State) (t : Nat) (p : Fin 4), let c := s.chip.atTime t; let r := c.port p; let ptp := c.net.ptp
    let ours : Prop := c.on .ptpCfg_enabled = true ∧ p.val / 2 = c.rd .ptpCfg_pair
    let held := r.reserved - 1; let left := if held = 0 then [] else r.ordinary
    (∀ f, c.portMode p ≠ 0 → f.pause = false → f.ethertype = 0x88F7 → left.foldl (· + ·) 0 + f.length ≤ 65536 → f.length ≤ 1522 →
      let op := Instr.frameRxClassify t p f 1 r.ordinary.length
      (∀ a, f.ptp = .announce a → ours → a.domain = c.rd .ptpCfg_domain → a.source ≠ c.clockIdentity → Completes op s fun u =>
        u.net.ptp.listensFrom = c.clock.now ∧ ∃ x ∈ u.net.ptp.masters, x.port = p ∧ x.data = a ∧ x.heard.head? = some c.clock.now ∧
          ∀ y, c.foreignMaster p a.source = some y → y.qualifiedAt.isSome = true ∨ (∃ h ∈ y.heard, c.clock.now < h + 4000000000) →
            x.qualifiedAt.isSome = true ∧
            (c.on .ptpCfg_slaveOnly = true → ptp.masters = [y] → u.net.ptp.selected = some a.source ∧
              (ptp.selected ≠ some a.source → u.rd .ptpStat_slavePort = p % 2 ∧ u.rd .ptpStat_master = 0))) ∧
      (∀ correction sent, f.ptp = .pdelayResp correction → r.requestAt = some sent → Completes op s fun u =>
        (u.port p).peerDelay = ((c.ptpNow : Int) - c.rd .pCorr_ingress p - sent - correction).toNat / 2 ∧ (u.port p).requestAt = none)) ∧
    (∀ f, (¬ ours ∨ f.domain ≠ c.rd .ptpCfg_domain → Completes (.ptpSyncRx t p f) s fun u => u = c) ∧
      (ours → f.domain = c.rd .ptpCfg_domain →
        (f.twoStep = true → Completes (.ptpSyncRx t p f) s fun u => u.rd .ptpStat_twoStepSeen = 1 ∧ u.net = c.net ∧
          if c.on .ptpStat_twoStepSeen then u.faults = c.faults else u.raised c originPtp) ∧
        (f.twoStep = false → ptp.selected ≠ some f.master → Completes (.ptpSyncRx t p f) s fun u => u = c) ∧
        (f.twoStep = false → (if c.pairMode (p.val / 2) = 2 then ptp.lastSync = some f.seq else c.rd .ptpStat_slavePort ≠ p.val % 2) →
          Completes (.ptpSyncRx t p f) s fun u => u = c) ∧
        (f.twoStep = false → ptp.selected = some f.master →
          (if c.pairMode (p.val / 2) = 2 then ptp.lastSync ≠ some f.seq else c.rd .ptpStat_slavePort = p.val % 2) →
          let o : Int := (c.ptpNow : Int) - c.rd .pCorr_ingress p - f.origin - f.correction - r.peerDelay
          Completes (.ptpSyncRx t p f) s fun u => u.rdInt .ptpOffset_offset = satSigned 32 o ∧
            u.net.ptp.insideRun = (if o.natAbs ≤ 100 then ptp.insideRun + 1 else 0) ∧
            u.net.ptp.outsideRun = (if 1000 < o.natAbs then ptp.outsideRun + 1 else 0) ∧
            (c.on .ptpStat_locked = true → 1000 < o.natAbs → 3 ≤ ptp.outsideRun →
              u.rd .ptpStat_locked = 0 ∧ u.counted c .ptpStat_lockLosses ∧ originPtp ∈ u.faults.events) ∧
            (c.on .ptpStat_locked = true → o.natAbs ≤ 1000 → u.on .ptpStat_locked = true) ∧
            (c.on .ptpStat_locked = false → o.natAbs ≤ 100 → u.on .ptpStat_locked = decide (7 ≤ ptp.insideRun)) ∧
            (c.on .ptpStat_locked = false → 10000 < o.natAbs → u.counted c .ptpStat_steps)))) ∧
    (ours → ∀ src, let op := Instr.ptpAnnounceTimeout t p src
      let nobody : Prop := ∀ x ∈ ptp.masters, x.port = p ∧ x.data.source = src ∨ x.qualifiedAt = none ∨ x.timedOut c.clock.now = true
      let alone : Prop := c.on .ptpStat_master = false →
        (c.on .ptpCfg_slaveOnly = false → Completes op s fun u => u.rd .ptpStat_master = 1 ∧ u.rd .ptpStat_locked = 1 ∧ u.net.ptp.selected = none) ∧
        (c.on .ptpCfg_slaveOnly = true → Completes op s fun u => u.rd .ptpStat_master = 0 ∧ u.rd .ptpStat_locked = 0 ∧ u.net.ptp.selected = none)
      (∀ x, c.foreignMaster p src = some x → (x.timedOut c.clock.now = false → Completes op s fun u => u = c) ∧
        (x.timedOut c.clock.now = true → ptp.selected = some src → c.rd .ptpStat_slavePort = p.val % 2 →
          (c.pairMode (p.val / 2) = 1 → (∃ y ∈ ptp.masters, y.port ≠ p ∧ y.data.source = src ∧ y.qualifiedAt.isSome = true ∧
              y.timedOut c.clock.now = false) → Completes op s fun u =>
            u.rd .ptpStat_slavePort = 1 - p.val % 2 ∧ u.sameBut c [(.ptpStat_slavePort, 0)] ∧ u.net.ptp.selected = some src) ∧
          (nobody → alone))) ∧
      (c.foreignMaster p src = none → ptp.selected = none → nobody → ptp.listensFrom + 3000000000 ≤ c.clock.now → alone)) ∧
    (c.measuresDelay p = true → c.portMode p ≠ 0 →
      (Completes (.pdelayReqRx t p) s fun u => ∃ d, u.goesOut p 6 (c.ptpOn p (.pdelayResp (c.ptpNow - c.rd .pCorr_ingress p) d))) ∧
      (c.intervalDue (ptpSlot p .pdelayReq) 1000000000 = true → Completes (.ptpMessageSend t p .pdelayReq) s fun u =>
        u.goesOut p 6 (c.ptpOn p .pdelayReq) ∧ u.regs = c.regs)) ∧
    (c.measuresDelay p = false → Completes (.pdelayReqRx t p) s fun u => u = c) ∧
    (ours → c.portMode p ≠ 0 → c.on .ptpStat_master = true →
      (c.intervalDue (ptpSlot p .announce) 1000000000 = true → Completes (.ptpMessageSend t p .announce) s fun u =>
        u.goesOut p 6 (c.ptpOn p (.announce c.ownData 0xA0)) ∧ u.regs = c.regs) ∧
      (c.intervalDue (ptpSlot p .sync) 1000000000 = true → Completes (.ptpMessageSend t p .sync) s fun u =>
        (∃ o, u.goesOut p 6 (c.ptpOn p (.sync o))) ∧ u.regs = c.regs)) ∧
    (∀ m, c.intervalDue (ptpSlot p m) 1000000000 = false ∨ c.sendsPtp p m = false → Completes (.ptpMessageSend t p m) s fun u => u = c)

/-- Timed pulses and published messages (R494, R496, R501 to R504): arming sets the nanoseconds and either arms or misses; edges come at their times;
an ASDU is collected and the full frame goes out on the process bus; a fast block answers a change at once with the next stNum; a repeat raises sqNum
and doubles its interval up to t_max; what is published by the primary alone rests while the device is none. What the spec leaves open follows log entries 1703, 1704. -/
def Obligations.PulsesAndPublishedMessages : Prop :=
  ∀ (s : State) (t : Nat), let c := s.chip.atTime t
    (∀ (n : Fin 8), let r := c.pulse n
      (∀ ns, let a := c.wr .poArmNs_ns ns.toNat n; Completes (.poArm t n ns) s fun u => u.rd .poArmNs_ns n = ns.toNat ∧
        (c.on .poCfg_enabled n = true → c.rd .poCfg_mode n = 1 →
          (a.onceTime n ≤ c.ptpNow → u.rd .poArmNs_missed n = 1 ∧ u.rd .poArmNs_armed n = 0) ∧
          (c.ptpNow < a.onceTime n → u.rd .poArmNs_armed n = 1 ∧ u.rd .poArmNs_missed n = c.rd .poArmNs_missed n)) ∧
        u.sameBut c [(.poArmNs_ns, n), (.poArmNs_missed, n), (.poArmNs_armed, n)]) ∧
      (c.on .poCfg_enabled n = false ∨ c.on .poCfg_gateLock n = true ∧ c.on .ptpStat_locked = false → Completes (.pulseEdge t n) s fun u =>
        (u.pulse n).active = false ∧ u.regs = c.regs) ∧
      (c.on .poCfg_enabled n = true → c.modes.porstLow = false → c.on .ptpStat_locked = true →
        (r.active = true → r.lastEdge + 100 * c.rd .poCfg_width n ≤ c.ptpNow + 4 → Completes (.pulseEdge t n) s fun u =>
          (u.pulse n).active = false ∧ u.regs = c.regs) ∧
        (r.active = false → c.rd .poCfg_mode n = 1 → c.on .poArmNs_armed n = true → c.isNow (c.onceTime n) = true →
          Completes (.pulseEdge t n) s fun u => (u.pulse n).active = true ∧ u.rd .poArmNs_armed n = 0 ∧
            u.sameBut c [(.poArmNs_armed, n)]) ∧
        (r.active = false → c.rd .poCfg_mode n = 2 → let e := nearestEdge (c.rd .poRate_rate n) c.ptpNow
          c.isNow e = true → r.lastEdge < e → r.restartAt ≤ e → Completes (.pulseEdge t n) s fun u =>
            (u.pulse n).active = true ∧ (u.pulse n).lastEdge = e ∧ u.regs = c.regs))) ∧
    (∀ (n : Fin 4) second j p, c.net.streams[n.val]? = some p →
      svRate p.rate ≤ j ∨ c.publishes p.primaryOnly = false ∨ c.ptpNow * svRate p.rate < (second * svRate p.rate + j) * 1000000000 → Completes (.svPublishSample t n second j) s fun u => u = c) ∧
    (∀ (n : Fin 4) second j p, c.net.streams[n.val]? = some p → j < svRate p.rate → c.publishes p.primaryOnly = true →
      (second * svRate p.rate + j) * 1000000000 ≤ c.ptpNow * svRate p.rate → let before := followsOn (svRate p.rate) j p.collected
      Completes (.svPublishSample t n second j) s fun u => ∃ a : Asdu, a.smpCnt = j ∧ a.test = (c.mode == .commission) ∧
        a.smpSynch = (if c.on .ptpStat_master then 1 else if c.on .ptpStat_locked then 2 else 0) ∧ a.values.length = p.values.length ∧
        u.net.streams[n.val]? = some { p with
          collected := if p.perFrame ≤ before.length + 1 then [] else before ++ [a] } ∧
        (p.perFrame ≤ before.length + 1 → ∀ o < 2, c.portMode o ≠ 0 → u.goesOut o 5 (c.copyOn o (.samples n (before ++ [a])))) ∧
        ((∀ v ∈ a.values, v.2 = true) → u.regs = c.regs)) ∧
    (∀ (n : Fin 16) b, c.net.blocks[n.val]? = some b → let vals := b.members.map c.memberValueOf
      (b.fast = true → c.publishes b.primaryOnly = true →
        (vals ≠ b.values ∨ b.publishing = false → Completes (.gooseFastChange t n) s fun u =>
          let st := if b.stNum = 4294967295 then 1 else b.stNum + 1
          (c.sram.upsets = [] → u.regs = c.regs) ∧ (∃ x, u.net.blocks[n.val]? = some x ∧ x.stNum = st ∧ x.sqNum = 0 ∧ x.values = vals ∧ x.publishing = true) ∧
          ∀ o, o = 2 ∨ o = 3 → c.portMode o ≠ 0 → u.goesOut o 7 (c.copyOn o (.goose n st 0 (2 * b.tMin) vals (c.mode == .commission)))) ∧
        (vals = b.values → b.publishing = true → Completes (.gooseFastChange t n) s fun u => u.net = c.net ∧
          (c.sram.upsets = [] → u = c))) ∧
      (b.fast = true → c.publishes b.primaryOnly = false → Completes (.gooseFastChange t n) s fun u =>
        ∃ x, u.net.blocks[n.val]? = some x ∧ x.publishing = false ∧ x.stNum = b.stNum ∧ u.net.ports = c.net.ports) ∧
      (b.fast = false → Completes (.gooseFastChange t n) s fun u => u = c) ∧
      (b.publishing = true → c.publishes b.primaryOnly = true → b.repeatAt ≤ c.clock.now → Completes (.gooseRepeat t n) s fun u =>
        let sq := (b.sqNum + 1) % 2 ^ 32; let iv := min b.tMax (2 * b.interval)
        u.regs = c.regs ∧ (∃ x, u.net.blocks[n.val]? = some x ∧ x.stNum = b.stNum ∧ x.sqNum = sq ∧ x.interval = iv ∧ x.values = b.values) ∧
        ∀ o, o = 2 ∨ o = 3 → c.portMode o ≠ 0 →
          u.goesOut o (if b.fast then 7 else 4) (c.copyOn o (.goose n b.stNum sq (2 * iv) b.values (c.mode == .commission)))) ∧
      (b.publishing = false ∨ c.publishes b.primaryOnly = false ∨ c.clock.now < b.repeatAt → Completes (.gooseRepeat t n) s fun u => u = c))

/-- Station requests (R505, R507, R510): a request that is malformed or for another device is discarded, one that passes both checks asks for leave to
be checked; its check discards it with the code of the first failed check, those of checks 1 to 3 with an event, or runs it and answers it signed; after 100 ms without leave it is discarded. What
the spec leaves open follows log entries 12, 1705, 2104. -/
def Obligations.StationRequestsAreChecked : Prop :=
  ∀ (s : State) (t : Nat), let c := s.chip.atTime t
    let discards (op : Instr) (b : List Byte) (status : Nat) : Prop := Completes op s fun u => u.rd .saStat_lastStatus = status ∧
      u.rd .saStat_lastKey = requestKey b % 2 ^ Fld.saStat_lastKey.spec.width ∧ u.counted c .saStat_refused ∧
      if status = 6 ∨ status = 2 ∨ status = 1 then u.raised c originSecurity else u.faults = c.faults
    (∀ (p : Fin 4) d, let op := Instr.stationRequestRx t p d; let b := d.payload
      let ours : Prop := p.val / 2 = c.rd .netCfg_saPair ∧ d.target.ip.toNat = c.net.ip ∧ d.target.port = c.rd .netCfg_saPort
      (¬ ours ∨ c.applied = false → Completes op s fun u => u = c) ∧
      (ours → c.applied = true →
        (c.requestFormed b = false → discards op b 6) ∧ (c.requestFormed b = true → c.requestForUs b = false → discards op b 2) ∧
        (c.requestFormed b = true → c.requestForUs b = true → Completes op s fun u =>
          u.net = { c.net with nextRequest := c.net.nextRequest + 1
                               requests := c.net.requests ++ [⟨c.net.nextRequest, b, c.clock.now, p, d.source⟩] } ∧
          u.asks (.stationCheck c.net.nextRequest) ∧ u.faults = c.faults))) ∧
    (∀ id q, c.requestOf id = some q →
      (c.holdsLeave (.stationCheck id) = true → ∀ edges, let r := c.requestRefusal q.bytes
        let op := Instr.stationCheckComplete t id edges
        (r ≠ 0 → discards op q.bytes r ∧ Completes op s fun u => u.requestOf id = none ∧ (r = 1 → u.counted c .secStat_sigFails)) ∧
        (c.on .secStat_retired = true ∨ signatureVerifies (c.net.keys.getD (requestKey q.bytes) {}).publicKey
            (q.bytes.take (q.bytes.length - 96)) (q.bytes.drop (q.bytes.length - 96)) = false → r = 1) ∧
        (r = 0 → Completes op s fun u => ∃ replies, u.bus.reply = q.bytes.take 16 ++ replies ∧
          ((∀ o ∈ requestOps q.bytes, o.code ∈ [17, 19, 20, 21]) → c.canSign = true → c.portMode q.port ≠ 0 →
            ∃ signature : List Byte, signature.length = 96 ∧
              u.goesOut q.port 0 (c.copyOn q.port (.response q.source (c.nextHop q.source.ip.toNat) (u.bus.reply ++ signature)))))) ∧
      (c.holdsLeave (.stationCheck id) = false → ∀ edges, Completes (.stationCheckComplete t id edges) s fun u => u = c) ∧
      (c.waitsLeave (.stationCheck id) = true →
        (q.arrived + 100000000 ≤ c.clock.now → discards (.stationLeaveTimeout t id) q.bytes 5 ∧
          Completes (.stationLeaveTimeout t id) s fun u => u.requestOf id = none ∧ u.waitsLeave (.stationCheck id) = false) ∧
        (c.clock.now < q.arrived + 100000000 → Completes (.stationLeaveTimeout t id) s fun u => u = c)))

/-- The operations of station access (R508, R509, R511, R587, R601): one its key's role does not allow, and an unknown one, do nothing and answer 2
and 6; READ answers words; WRITE is the bus write of a register it may name; the storage operations answer their words, 0xFFFFFFFF past the end;
ATTEST answers its statement. What the spec leaves open follows log entries 1705, 2003, 2101. -/
def Obligations.StationOperationsAnswer : Prop :=
  ∀ (s : State) (t : Nat) (key : Fin 8) (a v : Word) (edges : Bool) (n : Nat), let c := s.chip.atTime t
    let role (b : Nat) : Bool := bitAt (c.net.keys.getD key {}).role b
    let replies (op : Instr) (status : Nat) (ws : List Nat) : Prop := Completes op s fun u => u = c.replying status ws
    let reads : List Instr := [.read t key a n, .recList t key a n, .recRead t key a v n, .ledgerRead t key a v n, .ledgerNewest t key a n,
      .logRead t key a v n]
    let file (b : List Byte) (o : Nat) : List Nat :=
      (List.range n).map fun k => leNat ((List.range 4).map fun j => b.getD (o + 4 * k + j) 0xFF)
    (role 0 = false → ∀ op ∈ Instr.attest t key a v :: reads, replies op 2 []) ∧
    (role 1 = false → ∀ op ∈ [Instr.write t key a v edges, .trigger t key], replies op 2 []) ∧
    (∀ code : Byte, opRole code.toNat = none → replies (.unknownOperation t key code) 6 []) ∧
    (role 0 = true → n = 0 ∨ 64 < n → ∀ op ∈ reads, replies op 1 []) ∧
    (role 0 = true → 1 ≤ n → n ≤ 64 →
      (readable a.toNat = false → replies (.read t key a n) 1 []) ∧
      (n = 1 → readable a.toNat = true → (a.toNat < sramBase ∨ sramEnd ≤ a.toNat) → (onRigging a.toNat = true → c.on .idbStat_linkUp = true) →
        ∀ r i, findReg Reg.all a.toNat = some (r, i) → highHalfOf r = none → isHighHalf r = none → r.spec.fields.all (·.spec.access != .rc) = true →
        replies (.read t key a n) 0 [c.readWord r i]) ∧
      replies (.recList t key a n) 0 (listWords ((c.storage.records.filter fun r => decide (a.toNat ≤ r.id)).flatMap fun r =>
        [r.id, r.trig % 2 ^ 32, r.trig / 2 ^ 32 % 2 ^ 32, (c.cfgFile r).length, r.dat.length]) n) ∧
      (∀ r, c.storage.records.find? (·.id == a.toNat) = some r → r.readable = true →
        replies (.recRead t key a v n) 0 (file (if bitAt v.toNat 31 then r.dat else c.cfgFile r) (bits v.toNat 0 31))) ∧
      (∀ e, c.ledgerEntries.find? (·.seq == a.toNat) = some e → replies (.ledgerRead t key a v n) 0 (file e.bytes v.toNat)) ∧
      (c.ledgerEntries.find? (·.seq == a.toNat) = none → replies (.ledgerRead t key a v n) 0 (List.replicate n 0xFFFFFFFF)) ∧
      replies (.ledgerNewest t key a n) 0 (((c.newestEntry a.toNat).map (·.seq)).getD 0 :: List.replicate (n - 1) 0xFFFFFFFF) ∧
      (c.faults.log[a.toNat]? = none → replies (.logRead t key a v n) 0 (List.replicate n 0xFFFFFFFF)) ∧
      (∀ e, c.faults.log[a.toNat]? = some e →
        replies (.logRead t key a v n) 0 (file (Config.logBytes e.source e.cls e.merged e.ptp e.ms) v.toNat))) ∧
    (role 0 = true → c.canSign = false → replies (.attest t key a v) 1 []) ∧
    (role 0 = true → c.canSign = true → Completes (.attest t key a v) s fun u => u.counted c .secStat_attests ∧
      u.bus.reply.length = 228 ∧ u.bus.reply.take 20 = leBytes 4 0 ++ leBytes 4 0x56594154 ++ leBytes 4 1 ++ leBytes 4 a.toNat ++ leBytes 4 v.toNat ∧
      u.sameBut c [(.secStat_attests, 0)]) ∧
    (role 1 = true →
      (Completes (.trigger t key) s fun u => u = { c.replying 0 [] with
        triggers := if c.on .drCfg_enabled then c.triggers ++ [.station] else c.triggers }) ∧
      (findReg Reg.all a.toNat = none → replies (.write t key a v edges) 1 []) ∧
      (∀ r i, findReg Reg.all a.toNat = some (r, i) → r ≠ .liveWord →
        (writable r = false → replies (.write t key a v edges) 1 []) ∧
        (writable r = true → ∃ u', exec (.registerWrite t a v edges) s = .next { s with chip := u' } ∧
          Completes (.write t key a v edges) s fun u => u = u'.replying 0 [])) ∧
      (∀ i, findReg Reg.all a.toNat = some (.liveWord, i) → ∃ u', exec (.registerWrite t a v edges) s = .next { s with chip := u' } ∧
        Completes (.write t key a v edges) s fun u =>
          u = u'.replying (if c.mode = .shadow then 4 else if c.liveRefusal i v.toNat = 0 then 0 else 3) []))

/-- The flash (R562, R564, R565, R568 to R570, R574, R575, R577): a read counts its corrected and lost codewords; a failed program or erase marks its
block bad; an operation that takes too long fails likewise; a copy that is due is rewritten under leave, block by block, or its failure is kept and reported, and its partner is left alone. What the
spec leaves open follows log entries 2001, 2002, 2005. -/
def Obligations.FlashOperationsAreJudged : Prop :=
  ∀ (s : State) (t block : Nat), let c := s.chip.atTime t
    let marks (op : Instr) : Prop := Completes op s fun u => u.rd .nvStat_busy = 0 ∧ u.storage.bad.contains block = true ∧
      (c.storage.bad.contains block = false → u.counted c .nvBlocks_grown ∧ c.faults.events ++ [originStorage] <+: u.faults.events)
    (∀ page ok (found : NandPage), let words := found.read.words
      let fixed := (words.filterMap id).filter (0 < ·); let lost := (words.filter (·.isNone)).length
      (∀ n ∈ fixed, n ≤ c.rd .nvCfg_refreshBits) → Completes (.nandOpComplete t block page true ok found) s fun u =>
        u.rd .nvStat_busy = 0 ∧ u.counted c .nvEcc_corrected 0 fixed.length ∧ (lost ≠ 0 → u.counted c .nvEcc_uncorrectable 0 lost) ∧
        u.rd .nvEcc_maxBits = min 31 (fixed.foldl max (c.rd .nvEcc_maxBits)) ∧
        u.flashPage (64 * block + page) = found ∧ (∀ p, p ≠ 64 * block + page → u.flashPage p = c.flashPage p) ∧
        (regionOf block = 5 → ∀ p ∈ u.storage.pages, p.block = block → p.page = page →
          match found.read.content with
          | none => p.readable = false
          | some x => p.lost = entriesLost x.1 0 0 p.entries) ∧
        (6 ≤ regionOf block → found.read.content = none → (∀ r ∈ u.storage.records, block ∈ r.blocks → r.readable = false) ∧
          ∀ x ∈ u.storage.logBlocks, x.1 ≠ block) ∧
        if lost = 0 then u.faults = c.faults else u.raised c originStorageLost) ∧
    (∀ page found, Completes (.nandOpComplete t block page false true found) s fun u => u.rd .nvStat_busy = 0 ∧ u.sameBut c [(.nvStat_busy, 0)] ∧
      u.storage = c.storage) ∧
    (∀ page found, marks (.nandOpComplete t block page false false found)) ∧ marks (.nandOpTimeout t block false) ∧
    (Completes (.nandOpTimeout t block true) s fun u => u.rd .nvStat_busy = 0 ∧ u.sameBut c [(.nvStat_busy, 0)] ∧
      u.raised c originStorageLost) ∧
    (∀ (copy : Fin 4), let partner := if copy.val % 2 = 0 then copy.val + 1 else copy.val - 1
      let r := copy.val + 1
      let next := if c.rd .nvScrub_nextCopy = copy.val then (copy.val + 1) % 4 else c.rd .nvScrub_nextCopy
      c.modes.porstLow = false → c.on .modeStat_holdUp = false → c.refreshDue copy = true →
      c.rd .nvScrub_nextCopy = copy.val ∨ c.storage.scheduled.contains copy.val = true →
      c.storage.jobs = [] → ∀ wrong, let op := Instr.retentionRefresh t copy wrong
      (c.storage.failedCopies.contains partner = true → Completes op s fun u => u.rd .nvScrub_nextCopy = next ∧ u.storage = c.storage) ∧
      (c.storage.failedCopies.contains partner = false →
      let d := c.readFlash ((c.slotPages r).take (copyPages (c.slotCopy r).bytes))
      let v := d.rewriteCopy r wrong; let w := v.readFlash ((v.slotPages r).take (copyPages (v.slotCopy r).bytes))
      (c.holdsLeave .retention = false → c.waitsLeave .retention = true → Completes op s fun u => u = c) ∧
      (c.holdsLeave .retention = true → c.on .flTemp_inRange = false → Completes op s fun u => u.counted c .flTemp_refused ∧
        u.raised c originStorage ∧ u.storage = c.storage) ∧
      (c.holdsLeave .retention = true → c.on .flTemp_inRange = true →
        (d.copyVerifies r = false → Completes op s fun u => u.rd .nvScrub_nextCopy = next ∧ u.storage = d.storage) ∧
        (d.copyVerifies r = true → w.copyVerifies r = true → Completes op s fun u =>
          (∃ b, u.storage.jobs = [(.scrub, [(9, [BitVec.ofNat 8 copy, b])])]) ∧ u.storage.nand = w.storage.nand ∧
          u.rd .nvScrub_nextCopy = next ∧ copy.val ∉ u.storage.scheduled ∧ copy.val ∉ u.storage.failedCopies) ∧
        (d.copyVerifies r = true → w.copyVerifies r = false → Completes op s fun u => u.rd .nvScrub_lastFail = 1 ∧
          u.rd .nvScrub_nextCopy = next ∧ originStorageLost ∈ u.faults.events ∧ copy.val ∈ u.storage.failedCopies ∧
          u.storage.nand = w.storage.nand ∧ u.storage.jobs = []))))

/-- The ledger (R59, R507, R530, R578 to R582): the page that comes next is written whole at the write point with the next sequence numbers, or
refused for the temperature of the flash and counted; a scan sets aside what cannot be read, finds the last start and writes the next one. The log
takes the next block under leave. What the spec leaves open follows log entries 207, 2001 to 2003. -/
def Obligations.LedgerTakesItsPages : Prop :=
  ∀ (s : State) (t : Nat), let c := s.chip.atTime t; let st := c.storage
    (c.modes.porstLow = true → c.modes.lockoutEntries = [] → Completes (.ledgerWrite t) s fun u => u = c) ∧
    (∀ p, c.modes.lockoutEntries = [] → c.modes.porstLow = false → st.tableDue = false → st.carryDue = false → c.nextPage = some p →
      st.writePage < 63 →
      (c.on .flTemp_inRange = true → Completes (.ledgerWrite t) s fun u => ∃ page, u.storage.pages = st.pages ++ [page] ∧
        page.block = st.writeBlock ∧ page.page = st.writePage ∧ page.writeSeq = st.nextPageSeq ∧
        page.entries.map (fun e => (e.kind, e.body)) = p.2 ∧ (∀ k e, page.entries[k]? = some e → e.seq = st.nextSeq + k) ∧
        u.storage.writePage = st.writePage + 1 ∧ u.storage.nextSeq = st.nextSeq + p.2.length ∧
        u.storage.jobs = (if p.1 = .final then (st.jobs.erase p).filter fun x => x.1 != .cleared else st.jobs.erase p) ∧
        u.flashPage (64 * st.writeBlock + st.writePage) = nandPage (page.entries.flatMap LedgerEntry.bytes)
          { region := regionOf st.writeBlock, logical := st.writeBlock - regionFirst (regionOf st.writeBlock), writeSeq := st.nextPageSeq,
            erases := storeGet st.erases st.writeBlock 0 } ∧
        (p.1 = .save → u.rd .metStat_saves = (c.rd .metStat_saves + 1) % 65536)) ∧
      (c.on .flTemp_inRange = false → p.1 ≠ .shutdown → Completes (.ledgerWrite t) s fun u => u.counted c .flTemp_refused ∧
        u.storage.pages = st.pages ∧ (p.1 = .save ∨ p.1 = .final → u.rd .metStat_saveRefused = 1 ∧ u.storage.jobs = st.jobs.erase p ∧
          u.raised c originMetrology))) ∧
    (∀ unreadable, st.scanned = true ∨ c.modes.porstLow = true ∨ c.applied = true → Completes (.ledgerScan t unreadable) s fun u => u = c) ∧
    (∀ unreadable, st.scanned = false → c.modes.porstLow = false → c.applied = false → Completes (.ledgerScan t unreadable) s fun u =>
      u.storage.scanned = true ∧
      u.storage.pages = st.pages.map (fun p => if unreadable.contains p.writeSeq then { p with readable := false } else p) ∧
      u.counted c .nvEcc_uncorrectable 0 (st.pages.filter fun p => unreadable.contains p.writeSeq).length ∧
      let last := match u.newestEntry 8 with | some e => leAt e.body 0 4 | none => 0
      u.rd .saStart_start = (last + 1) % 2 ^ 32 ∧ ∃ b, u.storage.jobs = st.jobs ++ [(.start, [(8, leBytes 4 ((last + 1) % 2 ^ 32) ++ [b])])]) ∧
    (c.holdsLeave .logWrite = true → c.modes.porstLow = false → c.on .flTemp_inRange = true → c.on .nvStat_degraded = false →
      c.on .modeStat_holdUp = false →
      Completes (.logWrite t) s fun u => u.faults = c.faults ∧ let b := c.circleNext 6 st.logNext
        u.storage.logNext = b + 1 ∧ (b, c.faults.log) ∈ u.storage.logBlocks ∧ storeGet u.storage.erases b 0 = storeGet st.erases b 0 + 1) ∧
    (c.holdsLeave .logWrite = true → c.on .flTemp_inRange = false → Completes (.logWrite t) s fun u => u.counted c .flTemp_refused ∧
      u.raised c originStorage ∧ u.storage = st)

/-- The disturbance recorder (R576, R577, R583 to R585): a sample set goes to the next unlocked place of the ring; a trigger starts a record with the
sets before it, joins the open one, or is lost; the record locks at the end of its span, and is written under leave, 1 MiB at a time, each block erased before, with the
records that stood in it. What the spec
leaves open follows log entry 2004. -/
def Obligations.RecordsAreTakenLockedAndWritten : Prop :=
  ∀ (s : State) (t : Nat), let c := s.chip.atTime t; let st := c.storage
    (c.on .drCfg_enabled = true → c.clock.gridOn = true → c.on .pllStat_synthDown = false → (c.clock.tb - c.clock.b0) % 100000 = 0 →
      c.heldSets = [] → st.ringNext < c.ringSets → c.sram.upsets = [] → Completes (.recorderSample t) s fun u => u.storage.ringNext = (st.ringNext + 1) % c.ringSets ∧
        (st.ringNext, c.clock.now) ∈ u.storage.ring ∧ u.faults = c.faults ∧
        let n := c.rd .drCfg_channels; ∀ k < n, u.sramHalf (0x11000000 + 2 * (n * st.ringNext + k)) = c.sramHalf (c.rd .drChan_addr k)) ∧
    (c.on .drCfg_enabled = false ∨ c.clock.gridOn = false → Completes (.recorderSample t) s fun u => u = c) ∧
    (∀ cause rest, c.triggers = cause :: rest →
      (st.openRecord = none → c.on .drCfg_enabled = true →
        let waiting := (st.locked.map fun r => r.sets.length).foldl (· + ·) 0
        let span := 10 * (c.rd .drSpan_preMs + c.rd .drSpan_postMs)
        (waiting + span ≤ c.ringSets → Completes (.recordTrigger t) s fun u => u.triggers = rest ∧ u.rd .drStat_state = 2 ∧
          u.storage.nextId = st.nextId + 1 ∧ ∃ r, u.storage.openRecord = some r ∧ r.id = st.nextId ∧ r.trigAt = c.clock.now ∧ r.causes = [cause]) ∧
        (c.ringSets < waiting + span → Completes (.recordTrigger t) s fun u => u.triggers = rest ∧ u.counted c .drCount_lost ∧
          u.storage = st)) ∧
      (∀ r, st.openRecord = some r → c.clock.now < r.trigAt + 1000000 * c.rd .drSpan_postMs → r.causes.length < 8 →
        Completes (.recordTrigger t) s fun u => u.triggers = rest ∧ u.counted c .drCount_joined ∧
          u.storage.openRecord = some { r with causes := r.causes ++ [cause] })) ∧
    (∀ r, st.openRecord = some r →
      (r.trigAt + 1000000 * c.rd .drSpan_postMs ≤ c.clock.now → Completes (.recordLock t) s fun u => u.storage.openRecord = none ∧
        u.storage.locked = st.locked ++ [r] ∧ u.rd .drStat_locked = 1 ∧ u.asks .recordFlush) ∧
      (c.clock.now < r.trigAt + 1000000 * c.rd .drSpan_postMs → Completes (.recordLock t) s fun u => u = c)) ∧
    (∀ r rest, st.locked = r :: rest → c.holdsLeave .recordFlush = true →
      (c.logOpen = true → r.pages ≤ 256 * (r.flushed + 1) → Completes (.recordFlush t) s fun u => u.storage.locked = rest ∧
        u.rd .drLast_id = r.id % 2 ^ 32 ∧ u.rd .drStat_flushing = 0 ∧ (∃ x ∈ u.storage.records, x.id = r.id ∧ x.causes = r.causes)) ∧
      (c.logOpen = true → 256 * (r.flushed + 1) < r.pages → Completes (.recordFlush t) s fun u => u.rd .drStat_flushing = 1 ∧
        ∃ bs, u.storage.locked = { r with flushed := r.flushed + 1, blocks := r.blocks ++ bs } :: rest ∧ bs.length ≤ 4 ∧
          ∀ x ∈ u.storage.records, x ∈ st.records ∧ ∀ b ∈ bs, b ∉ x.blocks) ∧
      (c.on .flTemp_inRange = false → Completes (.recordFlush t) s fun u => u.counted c .flTemp_refused ∧ u.raised c originStorage ∧
        u.storage = st))

/-- Boot and identity (R592, R593, R595, R597, R599, R600): both copies are judged and the one that passes is loaded, again every 10 s while none
does; the derived key is compared, and a mismatch retires the identity; the vault clear voids what it held; an owner slot takes only bits that it may
still burn. What the spec leaves open follows log entries 12, 2101 to 2103. -/
def Obligations.BootIdentityAndOwnerKey : Prop :=
  ∀ (s : State) (t : Nat), let c := s.chip.atTime t
    (let copy (second : Bool) : SlotCopy := c.slotCopy (if second then 2 else 1)
      let header (second : Bool) : Nat := (firmwareHeader (copy second)).getD 0
      let boots (op : Instr) : Prop :=
        (∀ l, bootOrder (copy false) (copy true) = l → (∀ x ∈ l, c.firmwareVerify (copy x) ≠ none) → Completes op s fun u =>
          u.rd .bootStat_copy = c.rd .bootStat_copy ∧ u.sram = c.sram ∧ u.security.bootTried = some c.clock.now ∧
          ∀ x, u.rd (bootStatus x) = if x ∈ l then (c.firmwareVerify (copy x)).getD 0 else header x) ∧
        (∀ before x after, bootOrder (copy false) (copy true) = before ++ x :: after → (∀ y ∈ before, c.firmwareVerify (copy y) ≠ none) →
          c.firmwareVerify (copy x) = none → Completes op s fun u => let b := (copy x).bytes
            u.rd (bootStatus x) = 1 ∧ u.rd (bootStatus !x) = (if !x ∈ before then (c.firmwareVerify (copy !x)).getD 0 else header !x) ∧
            u.rd .bootStat_copy = flag x ∧ u.rd .fwVersion_version = firmwareVersion (copy x) ∧ u.security.bootTried = some c.clock.now ∧
            (c.sram.upsets = [] → ∀ k y, (b.take (leAt b 0x10 4))[k]? = some y → u.sramByte (sramBase + k) = y) ∧
            ∃ e, u.faults.events = c.faults.events ++ e ++
              List.replicate ([u.rd .bootStat_statusA, u.rd .bootStat_statusB].filter fun x => x == 8 || x == 10 || x == 12).length originSecurity)
      c.noFirmware = true →
      (c.on .pllStat_locked = true → c.security.bootTried = none → boots (.firmwareBoot t)) ∧
      (∀ at_, c.security.bootTried = some at_ → at_ + 10000000000 ≤ c.clock.now → boots (.firmwareRetry t))) ∧
    (c.noFirmware = false → ∀ op ∈ [Instr.firmwareBoot t, .firmwareRetry t], Completes op s fun u => u = c) ∧
    (c.security.deriveDue = true → c.on .secStat_retired = false → ∀ key,
      (sha384 key = c.identityDigest → Completes (.identityDerivation t key) s fun u => u.rd .secStat_idReady = 1 ∧ u.rd .secStat_vaultClear = 0 ∧
        u.security.deriveDue = false ∧ u.rd .secStat_retired = 0 ∧ u.faults = c.faults) ∧
      (sha384 key ≠ c.identityDigest → Completes (.identityDerivation t key) s fun u => u.rd .secStat_retired = 1 ∧ u.security.deriveDue = false ∧
        originSecurity ∈ u.faults.events)) ∧
    (Completes (.vaultClear t) s fun u => u.rd .secStat_vaultClear = 1 ∧ u.rd .secStat_idReady = 0 ∧ u.rd .dbgStat_challengeOpen = 0 ∧
      u.security.challenge = [] ∧ (∀ n ∈ [96, 97], (storeGet u.halyard.ids n {}).nonce = []) ∧
      u.sameBut c [(.secStat_vaultClear, 0), (.secStat_idReady, 0), (.dbgStat_challengeOpen, 0), (.dbgStat_windowLeft, 0)]) ∧
    (∀ din slot1 hash burned, let x := c.security; let old := if slot1 then x.slot1 else x.slot0
      let free := if slot1 then !x.slot1.valid && x.inForce == 0 && x.slot0.valid && c.mode == .commission && c.on .dbgStat_unlocked else !x.slot0.valid
      (free = true → bitsWithin old.hash hash = true → ∀ interrupted, Completes (.ownerFuse t din slot1 hash burned interrupted) s fun u =>
        let new := if slot1 then u.security.slot1 else u.security.slot0
        (∀ i < 48, new.hash.getD i 0 = old.hash.getD i 0 ||| (hash.getD i 0 &&& burned.getD i 0)) ∧
        (interrupted = true → new.valid = false) ∧ (new.valid = true → new.hash = orBytes [] hash) ∧
        (if slot1 then u.security.slot0 = x.slot0 else u.security.slot1 = x.slot1) ∧ u.rd .secStat_ownerFused = flag u.security.slot0.valid) ∧
      (free = true → bitsWithin old.hash hash = false → ∀ interrupted, Completes (.ownerFuse t din slot1 hash burned interrupted) s fun u =>
        u.security.slot0 = x.slot0 ∧ u.security.slot1 = x.slot1 ∧ u.raised c originSecurity ∧ u.regs = c.regs) ∧
      (free = false → ∀ interrupted, exec (.ownerFuse t din slot1 hash burned interrupted) s = exec (.bypass t din) s))

/-- The test access port (R226, R602 to R606): each instruction's bits out; those that need an unlock act as BYPASS without it; a challenge opens in
COMMISSION and ends with its response or after 60 s; the check unlocks or fails; three failures bar. What the spec leaves open follows log entry 2103.
-/
def Obligations.TestPortActsAndUnlocks : Prop :=
  ∀ (s : State) (t : Nat) (balls din : List Bool), let c := s.chip.atTime t
    let unlocked := c.on .dbgStat_unlocked; let bitsOf (w v : Nat) : List Bool := (List.range w).map (v.testBit ·)
    let outs (op : Instr) (out : List Bool) : Prop := Completes op s fun u => u = { c with security := { c.security with shiftOut := out, drive := .off } }
    let bypasses (op : Instr) : Prop := outs op ((false :: din).take din.length)
    let fails (op : Instr) : Prop := Completes op s fun u => u.counted c .dbgStat_failCount ∧ u.rd .dbgStat_unlocked = c.rd .dbgStat_unlocked ∧
      originSecurity ∈ u.faults.events ∧ (c.rd .dbgStat_failCount = 2 → u.rd .dbgStat_barred = 1)
    bypasses (.bypass t din) ∧ outs (.idcode t) (bitsOf 32 0x296124F5) ∧
    outs (.status t) (bitsOf 32 (c.fieldsWord .secStat) ++ bitsOf 32 (c.fieldsWord .bootStat)) ∧
    (Completes (.samplePreload t balls din) s fun u => u.security = { c.security with shiftOut := balls, drive := .off, scan := din } ∧ u.regs = c.regs) ∧
    (Completes (.dbgLock t) s fun u => u.rd .dbgStat_unlocked = 0 ∧ u.edges.haltWanted = false ∧ u.sameBut c [(.dbgStat_unlocked, 0)]) ∧
    (∀ p ∈ [(Instr.extest t balls din, ScanDrive.level), (.extestPulse t balls din, .pulse), (.extestTrain t balls din, .train)],
      (c.on .secStat_ownerFused = false ∨ unlocked = true → Completes p.1 s fun u =>
        u = { c with security := { c.security with shiftOut := balls, scan := din, drive := p.2 } }) ∧
      (c.on .secStat_ownerFused = true → unlocked = false → bypasses p.1)) ∧
    (unlocked = false → (∀ m, bypasses (.engineRead t din m)) ∧ bypasses (.halt t din) ∧ bypasses (.resume t din)) ∧
    (unlocked = true →
      (∀ e x, outs (.engineRead t din (.data e x)) (bitsOf 16 (unsigned 16 ((c.engine e).dmAt x)))) ∧
      (∀ e x, outs (.engineRead t din (.program e x)) (bitsOf 56 ((c.engine e).image.program.getD x 0))) ∧
      (c.sram.upsets = [] → ∀ nn i, outs (.engineRead t din (.references nn i)) (bitsOf 32 (c.refWord nn i))) ∧
      (Completes (.halt t din) s fun u => u.edges = { c.edges with haltWanted := c.mode == .commission } ∧ u.regs = c.regs) ∧
      (Completes (.resume t din) s fun u => u.edges = { c.edges with haltWanted := false } ∧ u.regs = c.regs)) ∧
    (c.mode ≠ .commission → bypasses (.dbgChallenge t din) ∧ bypasses (.dbgResponse t din)) ∧
    (c.mode = .commission →
      (c.on .dbgStat_barred = true → outs (.dbgChallenge t din) []) ∧
      (c.on .dbgStat_barred = false → Completes (.dbgChallenge t din) s fun u => u.rd .dbgStat_challengeOpen = 1 ∧ u.rd .dbgStat_windowLeft = 60 ∧
        u.security.challengeAt = c.clock.now ∧ (∃ nonce, nonce.length = 32 ∧ u.security.challenge = c.challengeBytes nonce) ∧
        u.security.shiftOut = u.security.challenge.flatMap fun b => bitsOf 8 b.toNat) ∧
      (c.on .dbgStat_challengeOpen = true → Completes (.dbgResponse t din) s fun u => u.rd .dbgStat_challengeOpen = 0 ∧
        u.asks .debugResponse ∧ ∃ sig : List Byte, u.security.response = some ⟨c.security.challenge, sig, true⟩ ∧ sig.length = 96 ∧
          ∀ i < 96, ∀ j < 8, (sig.getD i 0).toNat.testBit j = din.getD (8 * i + j) false) ∧
      (c.on .dbgStat_challengeOpen = false → fails (.dbgResponse t din))) ∧
    (c.security.response = none ∨ c.holdsLeave .debugResponse = false → Completes (.dbgResponseCheck t) s fun u => u = c) ∧
    (∀ x, c.security.response = some x → c.holdsLeave .debugResponse = true →
      let good : Prop := signatureVerifies c.security.ownerKey x.message x.sig = true ∧ x.stands = true ∧ c.mode = .commission ∧
        c.on .dbgStat_barred = false ∧ c.on .secStat_retired = false
      (good → Completes (.dbgResponseCheck t) s fun u => u.rd .dbgStat_unlocked = 1 ∧ u.security.response = none ∧ u.faults = c.faults) ∧
      (¬ good → fails (.dbgResponseCheck t))) ∧
    (c.on .dbgStat_challengeOpen = true ∨ (∃ x, c.security.response = some x ∧ x.stands = true) →
      (c.security.challengeAt + 60000000000 ≤ c.clock.now → Completes (.challengeExpiry t) s fun u => u.rd .dbgStat_challengeOpen = 0 ∧
        u.security.challenge = [] ∧ u.security.response = c.security.response.map fun x => { x with stands := false }) ∧
      (c.clock.now < c.security.challengeAt + 60000000000 → Completes (.challengeExpiry t) s fun u => u = c))

/-- The frames of the commands of the period, the inter-die bridge, the modes and resets, the image and live words, the timebase, the temperatures,
the Granary, the faults and safe power removal: each changes no register field and no part of the block but those listed for it, and the SRAM stays,
with every byte read of it, where none is listed. The frames are the model's own accounts of its rules (R11, R38, R46, R62, R98, R111, R405, R413,
R427, R431, R439, R533). What the spec leaves open follows log entries 7, 14. -/
def Obligations.FramesOfPeriodModesPowerAndFaults : Prop :=
  ∀ (s : State) (t : Nat),
    (∀ write, Changes (.riggingAccessTimeout t write) s [.idbStat_lostAccesses] [.bus, .clock]) ∧
    (Changes (.budgetMarginRestart t) s [.budgetMargin_worstCe, .budgetMargin_minMargin] [.clock]) ∧
    (∀ gdi, Changes (.periodBoundary t gdi) s (leaveFields ++ ([.periodIndex_index, .sramCorrCount_count, .sramUncorrAddr_addr, .sramUncorrAddr_valid,
      .modeStat_mode, .modeReq_pending, .readyIo_meterLv, .readyIo_meterMv, .liveWord_value, .tbBoundaryLo_time, .tbBoundaryHi_time,
      .tbStat_boundaryValid, .laneStat_state, .linkCell_valid, .linkCell_cellState, .linkCell_execMember, .linkCell_repeat, .linkCell_bypassClosed,
      .linkCell_portValid, .linkCell_capLow, .linkCell_interlock, .linkCell_prechargeActive, .linkCell_echoSeq, .linkTb_tbFault, .linkTb_tbError,
      .eeCommit_pending, .eeStat_halted, .eeCarry_carry, .eeLCarry_carry, .armStat_pcPhase, .armStat_rotPtr, .cellStat_state,
      .cellStat_bypassPending, .cellStat_releasePending, .cellStat_lastCause, .cePower_stopping, .cePower_reefLevel, .cePower_ramp,
      .ceLoopStat_closed, .ceLoopStat_restart, .ceLoopOut_out, .svStat_valid, .svStat_questionable, .svStat_sat, .svStat_invalidReason,
      .svCount_interpolated, .svCount_late, .adcSlice_serving, .metStat_ewArmed, .metStat_saveRefused, .metStat_classLost, .metStat_refusals,
      .mptStat_ready, .mptStat_gapPending, .gdStat_shortLatched, .gdStat_staticOn, .gdCount_cmdIgnored, .shroudStat_bw, .shroudStat_drvDisable,
      .shroudStat_mastConsent, .shroudStat_shroudConsent, .shroudStat_withheld, .halStat_inStep, .halStat_returnPending, .halStat_aligned,
      .halStat_holdLeft, .halAlign_phi, .halExec_own, .halExec_partner, .halCount_takeovers, .halCount_yields, .halCount_copyFails, .flTemp_refused,
      .dbgStat_unlocked, .dbgStat_challengeOpen, .dbgStat_windowLeft] : List Fld)) [.sram, .clock, .live, .modes, .lanes, .edges, .arms, .engines, .faults,
      .thermal, .converter, .power, .halyard, .inputs, .net, .metrology, .storage, .security, .drawn]) ∧
    (Changes (.inputDistributionClose t) s [.periodStat_inputIncomplete, .sramCorrCount_count, .sramUncorrAddr_addr, .sramUncorrAddr_valid] [.sram,
      .clock, .live, .engines, .faults, .drawn]) ∧
    (Changes (.engineComputeStart t) s [] [.clock, .engines]) ∧
    (∀ engine, Changes (.engineRelease t engine) s [.budgetMargin_worstCe, .budgetMargin_minMargin, .sramCorrCount_count, .sramUncorrAddr_addr,
      .sramUncorrAddr_valid, .ceEstat_marginLast] [.sram, .clock, .engines, .faults, .drawn]) ∧
    (Changes (.balancingStart t) s [.periodStat_computeOverrun, .budgetMargin_worstCe, .budgetMargin_minMargin, .sramCorrCount_count,
      .sramUncorrAddr_addr, .sramUncorrAddr_valid, .liveWord_value, .eeCommit_pending, .eeCarry_carry, .eeLCarry_carry, .armStat_saturated,
      .armStat_capacity, .armStat_deficit, .armStat_pcPhase, .armStat_nActive, .armStat_nSpare, .armStat_rotPtr, .armCount_cmdIgnored,
      .armCount_bypasses, .armCount_insertions, .armCount_saturations, .armTb_tbSpread, .cellStat_state, .cellStat_bypassPending,
      .cellStat_releasePending, .cellStat_lastCause, .cellStat_rank, .cePower_stopping, .cePower_ramp, .ceEstat_overrun, .ceEstat_marginLast,
      .ceLoopStat_closed, .ceLoopStat_restart, .ceLoopOut_out, .halStat_inStep, .halCount_copyFails] [.sram, .clock, .live, .edges, .arms, .engines,
      .faults, .halyard, .drawn]) ∧
    (∀ lateArms unfinished, Changes (.edgeReload t lateArms unfinished) s [.periodStat_sortOverrun, .sramCorrCount_count, .sramUncorrAddr_addr,
      .sramUncorrAddr_valid, .liveWord_value, .eeCommit_pending, .eeStat_halted, .eeEstat_interlock, .eeEstat_stampsMax, .eeEstat_stampsLast,
      .eeCounts_refreshes, .eeCounts_drops, .eeCarry_clamped, .eeCarry_carry, .eeLCarry_clamped, .eeLCarry_carry, .armStat_pcPhase, .armStat_rotPtr,
      .cellStat_state, .cellStat_bypassPending, .cellStat_releasePending, .cellStat_lastCause, .cePower_stopping, .cePower_ramp, .ceLoopStat_closed,
      .ceLoopStat_restart, .ceLoopOut_out, .halStat_inStep, .halCount_copyFails] [.sram, .clock, .live, .edges, .arms, .engines, .faults, .power,
      .halyard, .drawn]) ∧
    (∀ overrun, Changes (.sheafTransmissionStart t overrun) s [.periodStat_halyardOverrun, .periodStat_edgeOverrun] [.clock, .lanes, .edges, .arms,
      .faults, .halyard, .drawn]) ∧
    (∀ incomplete, Changes (.sheafWindowClose t incomplete) s [.periodStat_sheafLate] [.clock, .lanes]) ∧
    (Changes (.intervalStart t) s [.eeTripStat_cutting] [.clock, .faults, .power]) ∧
    (∀ toShroud good, Changes (.idbFrameRx t toShroud good) s (holdFields ++ ([.idbStat_linkUp, .idbStat_retries, .adcRes_valid, .adcRes_ovr,
      .adcRes_held, .adcRes_rb, .adcRes_result, .adcSeqStat_running, .adcSeqStat_heldPending, .adcSeqStat_overruns, .adcStat_noRotation,
      .adcStat_nRetired, .adcStat_calSlice, .wcState_state, .wcUnres_state, .wcLatch_flags, .wcRbFail_flags, .metStat_ewArmed, .metStat_classLost,
      .sprStat_aDemand, .sprStat_bDemand, .sprStat_discrepancy, .sprStat_demands] : List Fld)) [.clock, .modes, .lanes, .edges, .faults, .spr, .thermal,
      .converter, .power, .triggers, .halyard, .security]) ∧
    (Changes (.shroudIdbSilence t) s [.fcStat_aliveBFrozen, .shroudStat_bw, .shroudStat_drvDisable, .shroudStat_lockout, .shroudStat_shroudConsent,
      .shroudStat_withheld, .shroudStat_holdCause] [.clock, .lanes, .faults, .spr, .power]) ∧
    (Changes (.mastIdbSilence t) s [.idbStat_linkUp] [.clock, .faults]) ∧
    (∀ upsets words, Changes (.sramScrubStep t upsets words) s [.sramCorrCount_count, .sramUncorrAddr_addr, .sramUncorrAddr_valid,
      .sramScrubStat_passes] [.sram, .clock, .faults, .drawn]) ∧
    (Changes (.endOfConfigure t) s [.periodIndex_index, .sramCorrCount_count, .sramUncorrAddr_addr, .sramUncorrAddr_valid, .modeStat_mode,
      .modeReq_pending, .laneStat_state, .eeStat_halted, .armStat_pcPhase, .cePower_stopping, .cePower_reefLevel, .cePower_ramp, .metStat_ewArmed,
      .gdStat_staticOn, .shroudStat_bw, .shroudStat_drvDisable, .shroudStat_mastConsent, .shroudStat_shroudConsent, .shroudStat_withheld,
      .halStat_aligned, .halAlign_phi, .dbgStat_unlocked, .dbgStat_challengeOpen, .dbgStat_windowLeft] [.sram, .clock, .modes, .lanes, .edges, .arms,
      .faults, .thermal, .power, .halyard, .security, .drawn]) ∧
    (Changes (.quiescentResume t) s [.modeStat_quiescent, .readyEdgeA_ready, .readyEdgeB_ready, .readyEdgeC_ready, .readyUnit_eeL, .readyUnit_eeS,
      .readyUnit_ce] [.clock, .modes]) ∧
    (Changes (.lockoutEntryPersisted t) s [.modeStat_lockoutPersisted] [.clock, .storage]) ∧
    (Changes (.lockoutEntryRetry t) s leaveFields [.clock, .modes, .thermal]) ∧
    (Changes (.lockoutRestore t) s (holdFields ++ ([.metStat_ewArmed] : List Fld)) [.clock, .modes, .lanes, .edges, .faults, .thermal, .power, .triggers,
      .halyard, .security]) ∧
    (Changes (.earlyWarningTrip t) s (holdFields ++ leaveFields ++ ([.modeStat_holdUp, .metStat_ewArmed, .metStat_finalWritten, .mptStat_unmeasured,
      .mptStat_gapPending, .mptStat_unmeasuredMs, .mptFreq_valid, .mptFreq_freq, .mptDeltaLo_energy, .mptDeltaHi_energy, .mptTotalLo_energy,
      .mptTotalHi_energy, .mptNetLo_energy, .mptNetHi_energy] : List Fld)) [.clock, .modes, .lanes, .edges, .faults, .thermal, .power, .triggers, .halyard,
      .metrology, .storage, .security, .drawn]) ∧
    (Changes (.vsysReturn t) s [.modeStat_holdUp, .metStat_finalWritten] [.clock, .modes, .metrology]) ∧
    (∀ finds, Changes (.porstNRelease t finds) s (laneFields ++ ([.pllStat_refPresent, .laneStat_farBlock, .laneStat_farLoopTimed,
      .laneStat_farRxLocked, .laneLatency_valid, .nvDev_dev0, .nvDev_dev1, .nvDev_profileOk, .nvDev_blocks, .nvStat_anchorValid, .nvStat_firstStart,
      .nvStat_short, .nvBlocks_eraseMax, .nvBlocks_factory, .nvLedger_erasedPages] : List Fld)) [.clock, .modes, .lanes, .arms, .faults, .halyard, .storage]) ∧
    (∀ width, Changes (.sprRstPulse t width) s [.delibStat_windowOpen, .delibStat_windowLeft, .delibStat_lastRefusal] [.clock, .modes, .spr, .drawn]) ∧
    (Changes (.ackWindowExpiry t) s [.delibStat_windowOpen, .delibStat_windowLeft] [.clock]) ∧
    (Changes (.backgroundImageCheck t) s (leaveFields ++ ([.imageStat_seqTie, .imageStat_appliedCopy, .imageStat_statusB, .imageStat_statusA,
      .flTemp_refused, .nvStat_anchorValid, .nvEcc_corrected, .nvEcc_uncorrectable, .nvEcc_maxBits, .nvBlocks_eraseMax, .nvScrub_earlyDue,
      .nvLedger_erasedPages] : List Fld)) [.clock, .faults, .thermal, .storage]) ∧
    (∀ index value, ∀ op ∈ [Instr.setpointWrite t index value, .loopControlWrite t index value, .coefficientWrite t index value],
      Changes op s [.liveStat_lastRefusal, .liveStat_lastIndex, .liveStat_refusals, .liveWord_value, .halCount_liveRefused] [.clock, .live, .faults]) ∧
    (∀ stored table full band temperature, Changes (.pllLock t stored table full band temperature) s (laneFields ++ ([.periodStat_running,
      .resetCause_lane, .pllStat_locked, .pllStat_holdover, .pllStat_synthDown, .pllStat_hopPending, .pllStat_lockPath, .pllBandStore_valid,
      .pllBandStore_temperature, .pllBandStore_band, .laneStat_farBlock, .laneStat_farLoopTimed, .laneStat_farRxLocked, .laneLatency_valid,
      .armStat_rotPtr, .mptStat_unmeasured, .mptStat_unmeasuredMs, .shroudStat_bw, .shroudStat_drvDisable, .shroudStat_shroudConsent,
      .shroudStat_withheld] : List Fld)) [.clock, .modes, .pll, .lanes, .arms, .converter, .power, .net, .metrology, .drawn]) ∧
    (Changes (.relockRetry t) s [] [.clock, .pll]) ∧
    (∀ bands, Changes (.bandTableUpdate t bands) s [.pllBandTable_valid, .pllBandTable_band] [.clock, .pll]) ∧
    (∀ plan edges, Changes (.planHopRequest t plan edges) s (laneFields ++ ([.periodStat_running, .resetCause_lane, .pllStat_locked,
      .pllStat_refPresent, .pllStat_holdover, .pllStat_synthDown, .pllStat_hopPending, .pllStat_activePlan, .laneStat_farBlock,
      .laneStat_farLoopTimed, .laneStat_farRxLocked, .laneLatency_valid, .adcRes_valid, .mptStat_unmeasured, .mptStat_unmeasuredMs, .shroudStat_bw,
      .shroudStat_drvDisable, .shroudStat_shroudConsent, .shroudStat_withheld] : List Fld)) [.clock, .modes, .pll, .lanes, .arms, .faults, .converter, .power,
      .net, .metrology]) ∧
    (Changes (.lossOfReference t) s [.modeStat_lockoutPersisted, .modeStat_holdCause, .modeStat_mode, .modeReq_pending, .delibStat_windowOpen,
      .delibStat_windowLeft, .pllStat_locked, .pllStat_refPresent, .pllStat_holdover, .pllStat_refLosses, .laneStat_state, .eeStat_halted,
      .armStat_pcPhase, .cePower_stopping, .metStat_ewArmed, .gdStat_staticOn, .fcStat_reaction, .fcStat_aliveAFrozen, .fcStat_aliveBFrozen,
      .shroudStat_bw, .shroudStat_drvDisable, .shroudStat_mastConsent, .shroudStat_shroudConsent, .shroudStat_withheld, .dbgStat_unlocked,
      .dbgStat_challengeOpen, .dbgStat_windowLeft] [.clock, .modes, .pll, .lanes, .edges, .faults, .thermal, .power, .triggers, .halyard, .security]) ∧
    (Changes (.lossOfLock t) s (laneFields ++ ([.periodStat_running, .modeStat_lockoutPersisted, .modeStat_holdCause, .modeStat_mode,
      .modeReq_pending, .resetCause_lane, .delibStat_windowOpen, .delibStat_windowLeft, .pllStat_locked, .pllStat_holdover, .pllStat_synthDown,
      .pllStat_lockLosses, .laneStat_farBlock, .laneStat_farLoopTimed, .laneStat_farRxLocked, .laneLatency_valid, .eeStat_halted, .armStat_pcPhase,
      .cePower_stopping, .adcRes_valid, .metStat_ewArmed, .mptStat_unmeasured, .mptStat_unmeasuredMs, .gdStat_staticOn, .fcStat_reaction,
      .fcStat_aliveAFrozen, .fcStat_aliveBFrozen, .shroudStat_bw, .shroudStat_drvDisable, .shroudStat_mastConsent, .shroudStat_shroudConsent,
      .shroudStat_withheld, .dbgStat_unlocked, .dbgStat_challengeOpen, .dbgStat_windowLeft] : List Fld)) [.clock, .modes, .pll, .lanes, .edges, .arms, .faults,
      .thermal, .converter, .power, .triggers, .halyard, .net, .metrology, .security]) ∧
    (Changes (.holdoverExpiry t) s (laneFields ++ ([.periodStat_running, .resetCause_lane, .pllStat_locked, .pllStat_holdover, .pllStat_synthDown,
      .laneStat_farBlock, .laneStat_farLoopTimed, .laneStat_farRxLocked, .laneLatency_valid, .adcRes_valid, .mptStat_unmeasured,
      .mptStat_unmeasuredMs, .shroudStat_bw, .shroudStat_drvDisable, .shroudStat_shroudConsent, .shroudStat_withheld] : List Fld)) [.clock, .modes, .pll, .lanes,
      .arms, .converter, .power, .net, .metrology]) ∧
    (Changes (.referenceReturn t) s [.pllStat_refPresent] [.clock, .pll]) ∧
    (Changes (.yieldDeadline t) s [.modeStat_lockoutPersisted, .modeStat_holdCause, .modeStat_mode, .modeReq_pending, .delibStat_windowOpen,
      .delibStat_windowLeft, .laneStat_state, .eeStat_halted, .armStat_pcPhase, .cePower_stopping, .metStat_ewArmed, .gdStat_staticOn,
      .fcStat_reaction, .fcStat_aliveAFrozen, .fcStat_aliveBFrozen, .shroudStat_bw, .shroudStat_drvDisable, .shroudStat_mastConsent,
      .shroudStat_shroudConsent, .shroudStat_withheld, .halStat_aligned, .halCount_yields, .dbgStat_unlocked, .dbgStat_challengeOpen,
      .dbgStat_windowLeft] [.clock, .modes, .pll, .lanes, .edges, .faults, .thermal, .power, .triggers, .halyard, .security]) ∧
    (∀ supply, Changes (.supplyWarning t supply) s [.shroudStat_bw, .shroudStat_drvDisable, .shroudStat_shroudConsent, .shroudStat_withheld] [.clock,
      .lanes, .faults, .spr, .power]) ∧
    (∀ supply, Changes (.supplyReturn t supply) s [.shroudStat_bw, .shroudStat_drvDisable, .shroudStat_shroudConsent, .shroudStat_withheld] [.clock,
      .lanes, .spr, .power]) ∧
    (∀ op ∈ [Instr.vsysFallsToHold t, .lockoutBitsCapture t], Changes op s [] [.clock, .modes]) ∧
    (∀ readings, Changes (.thermalEvaluation t readings) s (leaveFields ++ ([.modeStat_lockoutPersisted, .modeStat_holdCause, .modeStat_mode,
      .modeReq_pending, .delibStat_windowOpen, .delibStat_windowLeft, .laneStat_state, .eeStat_halted, .armStat_pcPhase, .cePower_stopping,
      .metStat_ewArmed, .gdStat_staticOn, .fcStat_reaction, .fcStat_aliveAFrozen, .fcStat_aliveBFrozen, .shroudStat_bw, .shroudStat_drvDisable,
      .shroudStat_mastConsent, .shroudStat_shroudConsent, .shroudStat_withheld, .thStat_shutdownPending, .thStat_recordPending, .thStat_rearmOk,
      .thStat_recordWritten, .thStat_shutSensor, .thStat_brokenCount, .thStat_rearmLeft, .grStat_reefLevel, .grStat_headroom, .flTemp_inRange,
      .flTemp_refused, .thRead_valid, .thRead_broken, .thRead_above, .thRead_rate, .thRead_brokenReason, .thRead_reading, .dbgStat_unlocked,
      .dbgStat_challengeOpen, .dbgStat_windowLeft] : List Fld)) [.clock, .modes, .lanes, .edges, .faults, .thermal, .power, .triggers, .halyard, .storage,
      .security]) ∧
    (Changes (.shutdownRecordWritten t) s [.modeStat_lockoutPersisted, .modeStat_holdCause, .modeStat_mode, .modeReq_pending, .delibStat_windowOpen,
      .delibStat_windowLeft, .laneStat_state, .eeStat_halted, .armStat_pcPhase, .cePower_stopping, .metStat_ewArmed, .gdStat_staticOn,
      .fcStat_reaction, .fcStat_aliveAFrozen, .fcStat_aliveBFrozen, .shroudStat_bw, .shroudStat_drvDisable, .shroudStat_mastConsent,
      .shroudStat_shroudConsent, .shroudStat_withheld, .thStat_shutdownPending, .thStat_recordPending, .thStat_recordWritten, .dbgStat_unlocked,
      .dbgStat_challengeOpen, .dbgStat_windowLeft] [.clock, .modes, .lanes, .edges, .faults, .thermal, .power, .triggers, .halyard, .storage,
      .security]) ∧
    (Changes (.shutdownDeadline t) s [.modeStat_lockoutPersisted, .modeStat_holdCause, .modeStat_mode, .modeReq_pending, .delibStat_windowOpen,
      .delibStat_windowLeft, .laneStat_state, .eeStat_halted, .armStat_pcPhase, .cePower_stopping, .metStat_ewArmed, .gdStat_staticOn,
      .fcStat_reaction, .fcStat_aliveAFrozen, .fcStat_aliveBFrozen, .shroudStat_bw, .shroudStat_drvDisable, .shroudStat_mastConsent,
      .shroudStat_shroudConsent, .shroudStat_withheld, .thStat_shutdownPending, .dbgStat_unlocked, .dbgStat_challengeOpen,
      .dbgStat_windowLeft] [.clock, .modes, .lanes, .edges, .faults, .thermal, .power, .triggers, .halyard, .security]) ∧
    (Changes (.shutdownRecordRetry t) s [] [.clock, .storage]) ∧
    (Changes (.reefForcedClear t) s [.grStat_reefForced, .grStat_reefLevel] [.clock]) ∧
    (Changes (.holdupReadyTimeout t) s [] [.clock, .faults, .thermal]) ∧
    (∀ what, ∀ op ∈ [Instr.granaryRequest t what, .granaryReturn t what], Changes op s leaveFields [.clock, .thermal]) ∧
    (∀ what, Changes (.granaryStarved t what) s [.grCount_starved] [.clock, .faults, .thermal]) ∧
    (∀ millivolts, Changes (.holdReadyChange t millivolts) s [.huStat_ready, .huStat_holdMv] [.clock, .thermal]) ∧
    (∀ origins, Changes (.faultEvent t origins) s (holdFields ++ ([.eeTripStat_cutting, .adcSeqStat_running, .adcSeqStat_heldPending,
      .adcSeqStat_overruns, .adcStat_noRotation, .adcStat_nRetired, .adcStat_calSlice, .wcState_state, .wcUnres_state, .wcLatch_flags,
      .wcRbFail_flags, .metStat_ewArmed, .metStat_classLost, .tripStat_asserted, .fcStat_degradePending, .fcStat_notePending, .fcStat_merged,
      .fcStat_escalations, .fsSticky_bits, .fsEsc_bits, .fsCount_winCount, .fsCount_winOpen, .fsCount_events, .halStat_inStep, .grStat_reefForced,
      .grStat_reefLevel, .nvStat_degraded] : List Fld)) [.clock, .modes, .lanes, .edges, .arms, .faults, .spr, .thermal, .converter, .power, .triggers, .halyard,
      .security]) ∧
    (∀ source, Changes (.faultWindowExpiry t source) s [.fsCount_winCount, .fsCount_winOpen] [.clock, .faults]) ∧
    (∀ b, Changes (.aliveToggle t b) s [] [.clock, .faults]) ∧
    (∀ key, Changes (.fcKick t key) s [.fcStat_aliveAFrozen, .fcStat_kickErr] [.clock, .faults]) ∧
    (Changes (.kickTimeout t) s [.fcStat_aliveAFrozen] [.clock]) ∧
    (∀ ns, Changes (.sprADemand t ns) s (holdFields ++ ([.metStat_ewArmed, .sprStat_aDemand, .sprStat_bDemand, .sprStat_discrepancy, .sprStat_demands,
      .shroudStat_sprA] : List Fld)) [.clock, .modes, .lanes, .edges, .faults, .spr, .thermal, .power, .triggers, .halyard, .security]) ∧
    (∀ ns, Changes (.sprBDemand t ns) s (holdFields ++ ([.metStat_ewArmed, .sprStat_aDemand, .sprStat_bDemand, .sprStat_discrepancy, .sprStat_demands,
      .shroudStat_sprB] : List Fld)) [.clock, .modes, .lanes, .edges, .faults, .spr, .thermal, .power, .triggers, .halyard, .security]) ∧
    (∀ b ns, Changes (.sprInputRelease t b ns) s (holdFields ++ ([.metStat_ewArmed, .sprStat_aDemand, .sprStat_bDemand, .sprStat_discrepancy,
      .sprStat_demands, .shroudStat_sprA, .shroudStat_sprB] : List Fld)) [.clock, .modes, .lanes, .edges, .faults, .spr, .thermal, .power, .triggers, .halyard,
      .security]) ∧
    (Changes (.discrepancyTimeout t) s [.sprStat_discFault, .sprStat_discCount, .shroudStat_bw, .shroudStat_drvDisable, .shroudStat_shroudConsent,
      .shroudStat_withheld] [.clock, .lanes, .faults, .spr, .power]) ∧
    (Changes (.consentLapse t) s [.shroudStat_bw, .shroudStat_drvDisable, .shroudStat_mastConsent, .shroudStat_shroudConsent,
      .shroudStat_withheld] [.clock, .lanes, .power]) ∧
    (∀ port bytes, Changes (.safeTelegramRx t port bytes) s [.stStat_supervising, .stStat_lastFail, .stSeq_seq, .stCount_accepted,
      .stCount_stale] [.clock, .faults, .spr]) ∧
    (Changes (.permitCommand t) s [.sprStat_stDemand, .stStat_permitted] [.clock, .spr]) ∧
    (Changes (.removeCommand t) s (holdFields ++ ([.metStat_ewArmed, .sprStat_stDemand, .sprStat_demands, .stStat_permitted] : List Fld)) [.clock, .modes, .lanes,
      .edges, .faults, .spr, .thermal, .power, .triggers, .halyard, .security]) ∧
    (∀ seq, Changes (.telegramCopyTimeout t seq) s [.stStat_lastFail] [.clock, .faults, .spr]) ∧
    (Changes (.telegramWatchExpiry t) s [.stStat_lastFail] [.clock, .faults, .spr]) ∧
    (Changes (.statusTelegramSend t) s [] [.clock, .spr, .net])

/-- The frames of the commands of the control engines, the lanes, the edge engines, the arms, the gate drivers, the inputs, the converter and
metering: each changes no register field and no part of the block but those listed for it, and the SRAM stays, with every byte read of it, where none
is listed. The frames are the model's own accounts of its rules (R151, R163, R205, R224, R240, R272, R274, R304, R326, R351, R361, R384). What the
spec leaves open follows log entries 7, 14. -/
def Obligations.FramesOfEnginesLanesEdgesAndMeasurement : Prop :=
  (∀ (s : State),
    (∀ engine w, ∀ op ∈ [Instr.nop engine w, .int engine w, .trk engine w, .inSlot engine w, .outSlot engine w, .msel engine w, .setx engine w,
      .addx engine w, .rep engine w, .skn engine w], Changes op s [] [.engines]) ∧
    (∀ engine w, ∀ op ∈ [Instr.clr engine w, .lda engine w, .mac engine w, .msu engine w, .mac2 engine w, .ash engine w, .addi engine w],
      Changes op s [.ceEstat_accSat] [.engines]) ∧
    (∀ engine w, ∀ op ∈ [Instr.sat engine w, .mov engine w, .neg engine w, .add engine w, .sub engine w, .mul engine w, .min engine w, .max engine w,
      .tab engine w, .sin engine w, .clk engine w, .ick engine w, .prk engine w, .ipk engine w], Changes op s [.ceLoopStat_sat,
      .ceLoopStat_satCount] [.engines]) ∧
    (∀ engine w, Changes (.lim engine w) s [.ceLoopStat_lim, .ceLoopStat_limCount] [.engines]) ∧
    (∀ engine w, Changes (.endLoop engine w) s [.ceLoopStat_tracking, .ceLoopStat_restart, .ceLoopOut_target, .ceLoopOut_out, .ceGroupStat_valid,
      .ceGroupStat_hwWin, .ceGroupStat_winner, .ceGroupStat_output] [.engines])) ∧
  (∀ (s : State) (t : Nat),
    (∀ lane line late, Changes (.baleReceived t lane line late) s (laneFields ++ ([.periodStat_baleLate, .resetCause_lane, .laneStat_farBlock,
      .laneStat_farLoopTimed, .laneStat_farRxLocked, .laneStat_lockLosses, .laneLatency_valid, .laneErrs_stuffViolations, .laneErrs_invalidHeaders,
      .linkBale_badBales, .linkBale_lateBales] : List Fld)) [.clock, .modes, .lanes, .arms, .faults]) ∧
    (∀ lane line, ∀ op ∈ [Instr.laneBlockLock t lane line, .idleBlockRx t lane line], Changes op s (laneFields ++ ([.resetCause_lane,
      .laneStat_farBlock, .laneStat_farLoopTimed, .laneStat_farRxLocked, .laneStat_lockLosses, .laneLatency_valid, .laneErrs_stuffViolations,
      .laneErrs_invalidHeaders] : List Fld)) [.clock, .modes, .lanes, .arms]) ∧
    (∀ lane line signalLost, Changes (.laneLossOfLock t lane line signalLost) s (laneFields ++ ([.resetCause_lane, .laneStat_farBlock,
      .laneStat_farLoopTimed, .laneStat_farRxLocked, .laneStat_lockLosses, .laneLatency_valid, .laneErrs_stuffViolations,
      .laneErrs_invalidHeaders] : List Fld)) [.clock, .modes, .lanes, .arms]) ∧
    (∀ lane, Changes (.laneResetRequest t lane) s (laneFields ++ ([.resetCause_lane, .laneStat_farBlock, .laneStat_farLoopTimed,
      .laneStat_farRxLocked, .laneLatency_valid] : List Fld)) [.clock, .modes, .lanes, .arms]) ∧
    (∀ lane, Changes (.loopTimedTimeout t lane) s laneFields [.clock, .modes, .arms, .faults]) ∧
    (∀ lane departure, Changes (.echoRequestSend t lane departure) s [] [.clock, .lanes, .drawn]) ∧
    (∀ lane line arrival, Changes (.echoResponseRx t lane line arrival) s (leaveFields ++ laneFields ++ ([.resetCause_lane, .laneStat_farBlock,
      .laneStat_farLoopTimed, .laneStat_farRxLocked, .laneStat_lockLosses, .laneLatency_valid, .laneLatency_latency, .laneRtt_drift,
      .laneRtt_loopDelay, .laneErrs_stuffViolations, .laneErrs_invalidHeaders] : List Fld)) [.clock, .modes, .lanes, .arms, .faults, .thermal, .halyard, .drawn]) ∧
    (∀ lane tag, Changes (.echoTimeout t lane tag) s laneFields [.clock, .modes, .lanes, .arms, .faults]) ∧
    (∀ lane figure, Changes (.fomUpdate t lane figure) s [.laneQuality_fom] [.clock, .lanes, .faults]) ∧
    (∀ lane, ∀ op ∈ [Instr.eyeScanRequest t lane, .eyeScanInterval t lane, .readaptRequest t lane, .readaptComplete t lane],
      Changes op s leaveFields [.clock, .thermal]) ∧
    (∀ lane width height, Changes (.eyeScanComplete t lane width height) s (leaveFields ++ ([.laneQuality_scanValid, .laneQuality_eyeHeight,
      .laneQuality_eyeWidth] : List Fld)) [.clock, .faults, .thermal]) ∧
    (Changes (.eeCommit t) s [.sramCorrCount_count, .sramUncorrAddr_addr, .sramUncorrAddr_valid, .eeCommit_pending, .eeStat_superseded,
      .eeStat_late] [.clock, .edges, .faults, .drawn]) ∧
    (∀ input level ns, Changes (.tripAsserted t input level ns) s [.eeTripStat_cutting, .tripStat_asserted] [.clock, .faults, .power, .triggers]) ∧
    (∀ input, Changes (.tripMaskEnd t input) s [.eeTripStat_cutting, .tripStat_asserted] [.clock, .faults, .power, .triggers]) ∧
    (∀ input level ns, Changes (.tripDeasserted t input level ns) s [.eeTripStat_cutting, .tripStat_asserted, .tripStat_masked] [.clock, .faults,
      .power, .triggers]) ∧
    (Changes (.localEdge t) s [] [.clock, .power]) ∧
    (∀ cell, ∀ op ∈ [Instr.cellBypass t cell, .cellRelease t cell, .cellSwap t cell], Changes op s [] [.clock, .arms]) ∧
    (∀ cell, Changes (.bypassConfirmTimeout t cell) s [] [.clock, .arms, .faults]) ∧
    (∀ arm, Changes (.rotationAdvance t arm) s [.armStat_rotPtr] [.clock, .arms]) ∧
    (∀ arm, Changes (.spreadWatchFire t arm) s [.armStat_spread] [.clock, .arms, .faults]) ∧
    (∀ arm, Changes (.prechargeTimeout t arm) s [.armStat_pcTimeout] [.clock, .arms, .faults]) ∧
    (∀ lane tag, Changes (.echoRequestRx t lane tag) s [] [.clock, .lanes, .drawn]) ∧
    (∀ channel, ∀ op ∈ [Instr.gdStaticOn t channel, .gdStaticOff t channel], Changes op s [.gdStat_staticOn, .gdCount_cmdIgnored] [.clock, .power]) ∧
    (∀ channel mv, Changes (.gdRearm t channel mv) s [.gdStat_shortLatched, .gdCount_cmdIgnored] [.clock, .power]) ∧
    (∀ channel, Changes (.gdStampsLate t channel) s [.gdCount_lateStamps] [.clock, .faults, .power]) ∧
    (∀ channel negative mv, Changes (.gdUvloEntry t channel negative mv) s [.gdStat_uvloPos, .gdStat_uvloNeg, .gdStat_staticOn,
      .gdStat_uvloCount] [.clock, .faults]) ∧
    (∀ channel drv neg ns, Changes (.gdUvloExit t channel drv neg ns) s [.gdStat_uvloPos, .gdStat_uvloNeg] [.clock, .power]) ∧
    (∀ channel mv, ∀ op ∈ [Instr.gdShortDetect t channel mv, .gdBlankEnd t channel mv], Changes op s [.gdStat_shortLatched, .gdStat_staticOn,
      .gdStat_shortCount] [.clock, .faults, .power]) ∧
    (∀ channel, Changes (.gdSoftOffEnd t channel) s [] [.clock, .power]) ∧
    (∀ channel, Changes (.gdInterlock t channel) s [.gdStat_interlock, .gdStat_staticOn] [.clock, .faults, .power]) ∧
    (∀ port frame, Changes (.svFrameRx t port frame) s [.svStat_valid, .svStat_simulated, .svStat_invalidReason, .svStat_smpCnt, .svCount_missing,
      .svCount_late, .svCount_rejected] [.clock, .faults, .inputs]) ∧
    (∀ stream second count, Changes (.sampleMissing t stream second count) s [.svStat_valid, .svStat_invalidReason, .svCount_missing] [.clock,
      .faults, .inputs]) ∧
    (∀ port frame, Changes (.gooseFrameRx t port frame) s [.goStat_valid, .goStat_trip, .goStat_simulated, .goStat_invalidReason, .goStat_values,
      .goStat_stNum, .goCount_rejected, .goCount_trips] [.clock, .faults, .inputs]) ∧
    (∀ subscription, Changes (.gooseTtlExpiry t subscription) s [.goStat_valid, .goStat_invalidReason, .goCount_trips] [.clock, .faults, .inputs]) ∧
    (∀ sequence, Changes (.sequenceTrigger t sequence) s [.adcSeqStat_running, .adcSeqStat_heldPending, .adcSeqStat_overruns, .adcStat_noRotation,
      .adcStat_nRetired, .adcStat_calSlice, .wcState_state, .wcUnres_state, .wcLatch_flags, .wcRbFail_flags, .metStat_classLost] [.clock, .converter]) ∧
    (∀ entry bits retries arrives, Changes (.adcResultComplete t entry bits retries arrives) s [.idbStat_retries, .adcRes_valid, .adcRes_ovr,
      .adcRes_held, .adcRes_rb, .adcRes_result, .adcSeqStat_running, .adcSeqStat_heldPending, .adcSeqStat_overruns, .adcStat_noRotation,
      .adcStat_nRetired, .adcStat_calSlice, .wcState_state, .wcUnres_state, .wcLatch_flags, .wcRbFail_flags, .metStat_classLost] [.clock, .converter,
      .metrology, .drawn]) ∧
    (Changes (.sliceRotation t) s [] [.clock, .converter]) ∧
    (Changes (.channelSourceChange t) s [.adcSlice_calibrating, .adcSlice_serving, .adcSeqStat_running, .adcSeqStat_heldPending,
      .adcSeqStat_overruns, .adcStat_noRotation, .adcStat_nRetired, .adcStat_calSlice, .wcState_state, .wcUnres_state, .wcLatch_flags,
      .wcRbFail_flags, .metStat_classLost] [.clock, .converter]) ∧
    (∀ slice offset gain inLimits, Changes (.calibrationComplete t slice offset gain inLimits) s [.readyIo_slice, .adcSlice_retired,
      .adcSlice_calibrating, .adcSlice_drift, .adcSlice_serving, .adcSlice_calCount, .adcSeqStat_running, .adcSeqStat_heldPending,
      .adcSeqStat_overruns, .adcStat_noRotation, .adcStat_nRetired, .adcStat_calSlice, .wcState_state, .wcUnres_state, .wcLatch_flags,
      .wcRbFail_flags, .metStat_classLost] [.clock, .modes, .faults, .converter]) ∧
    (∀ comparator level, ∀ op ∈ [Instr.comparatorOutside t comparator level, .comparatorInside t comparator level,
      .comparatorResolved t comparator level], Changes op s [.eeTripStat_cutting, .adcSeqStat_running, .adcSeqStat_heldPending, .adcSeqStat_overruns,
      .adcStat_noRotation, .adcStat_nRetired, .adcStat_calSlice, .wcState_state, .wcUnres_state, .wcLatch_flags, .wcRbFail_flags, .metStat_classLost,
      .tripStat_asserted] [.clock, .faults, .converter, .power, .triggers]) ∧
    (∀ conversions, Changes (.thresholdReadback t conversions) s [.adcRes_valid, .adcRes_ovr, .adcRes_held, .adcRes_rb, .adcRes_result,
      .adcSeqStat_running, .adcSeqStat_heldPending, .adcSeqStat_overruns, .adcStat_noRotation, .adcStat_nRetired, .adcStat_calSlice, .wcState_state,
      .wcUnres_state, .wcLatch_flags, .wcRbFail_flags, .metStat_classLost] [.clock, .faults, .converter]) ∧
    (∀ point, Changes (.meteringWindowEnd t point) s [.mptStat_unmeasured, .mptStat_gapPending, .mptStat_unmeasuredMs, .mptFreq_valid, .mptFreq_freq,
      .mptDeltaLo_energy, .mptDeltaHi_energy, .mptTotalLo_energy, .mptTotalHi_energy, .mptNetLo_energy, .mptNetHi_energy] [.clock, .metrology,
      .drawn]) ∧
    (∀ op ∈ [Instr.periodicSave t, .saveRetry t, .metrologySave t], Changes op s (leaveFields ++ ([.metStat_saveRefused, .metStat_refusals,
      .mptStat_gapPending, .flTemp_refused] : List Fld)) [.clock, .faults, .thermal, .metrology, .storage]) ∧
    (Changes (.finalSaveWritten t) s [.modeStat_lockoutPersisted, .metStat_finalWritten] [.clock, .storage]))

/-- The frames of the commands of the Halyard link, the network, the slice test, the storage and the security block: each changes no register field
and no part of the block but those listed for it, and the SRAM stays, with every byte read of it, where none is listed. The frames are the model's own
accounts of its rules (R456, R466, R485, R492, R501, R507, R542, R550, R568, R578, R585, R602). What the spec leaves open follows log entries 7, 14.
-/
def Obligations.FramesOfHalyardNetworkSlicesStorageAndDebug : Prop :=
  ∀ (s : State) (t : Nat),
    (∀ lane header, Changes (.halyardHeaderRx t lane header) s (holdFields ++ ([.laneStat_farBlock, .laneErrs_invalidHeaders, .metStat_ewArmed,
      .halStat_partnerSeen, .halStat_partnerReact, .halStat_partnerBlock, .halStat_partnerHealthy, .halStat_partnerMode,
      .halStat_partnerTakeover] : List Fld)) [.clock, .modes, .pll, .lanes, .edges, .faults, .spr, .thermal, .power, .triggers, .halyard, .security]) ∧
    (Changes (.partnerSilence t) s [.halStat_partnerSeen] [.clock, .lanes, .halyard]) ∧
    (∀ op ∈ [Instr.silenceTakeoverCheck t, .silenceYieldCheck t], Changes op s [] [.clock, .halyard]) ∧
    (∀ arrival countdown index handover, Changes (.halMarkRx t arrival countdown index handover) s [.halStat_inStep, .halAlign_valid,
      .halAlign_drift, .halAlign_offset] [.clock, .faults, .halyard]) ∧
    (∀ index part share content crcOk, Changes (.copyFrameRx t index part share content crcOk) s [] [.clock, .halyard]) ∧
    (∀ lane frame crc, Changes (.idNonceRx t lane frame crc) s leaveFields [.clock, .thermal, .halyard]) ∧
    (∀ lane member rank key proof crc, Changes (.idProofRx t lane member rank key proof crc) s leaveFields [.clock, .thermal, .halyard]) ∧
    (Changes (.identityCheckComplete t) s (leaveFields ++ ([.readyLaneA_ready, .readyLaneB_ready, .readyLaneC_ready, .readyUnit_ax, .laneStat_ready,
      .laneStat_state, .halStat_accepted, .halStat_idRefused, .halStat_lanesReady] : List Fld)) [.clock, .modes, .lanes, .faults, .thermal, .halyard, .drawn]) ∧
    (Changes (.identityRetry t) s [] [.clock, .lanes, .halyard, .drawn]) ∧
    (∀ op ∈ [Instr.handoverRequest t, .handoverRetry t], Changes op s [.halStat_returnPending] [.clock, .halyard]) ∧
    (Changes (.handoverAct t) s [.periodIndex_index, .sramCorrCount_count, .sramUncorrAddr_addr, .sramUncorrAddr_valid, .modeStat_mode,
      .modeReq_pending, .laneStat_state, .eeStat_halted, .armStat_pcPhase, .cePower_stopping, .cePower_reefLevel, .cePower_ramp, .metStat_ewArmed,
      .gdStat_staticOn, .shroudStat_bw, .shroudStat_drvDisable, .shroudStat_mastConsent, .shroudStat_shroudConsent, .shroudStat_withheld,
      .halStat_returnPending, .halStat_aligned, .halAlign_phi, .halCount_takeovers, .halCount_yields, .dbgStat_unlocked, .dbgStat_challengeOpen,
      .dbgStat_windowLeft] [.sram, .clock, .modes, .lanes, .edges, .faults, .thermal, .power, .halyard, .net, .security, .drawn]) ∧
    (∀ port speed joined, Changes (.portLinkUp t port speed joined) s [.readyIo_port, .pStat_ready, .pStat_linkUp, .pStat_joined] [.clock, .net]) ∧
    (∀ port, Changes (.portLinkLoss t port) s [.readyIo_port, .pStat_ready, .pStat_linkUp, .pStat_joined, .pStat_linkLosses] [.clock, .faults]) ∧
    (∀ port, Changes (.lanFaultTimeout t port) s [.pStat_lanFault] [.clock, .faults, .net]) ∧
    (∀ port frame reserved ordinary, Changes (.frameRxClassify t port frame reserved ordinary) s [.readyIo_meterLv, .readyIo_meterMv, .readyIo_port,
      .metStat_ewArmed, .metStat_classLost, .mptStat_ready, .mptStat_gapPending, .pStat_ready, .pStat_joined, .pCount_rxDrop, .pCount_tripRx,
      .ptpStat_locked, .ptpStat_master, .ptpStat_slavePort] [.clock, .net, .metrology]) ∧
    (∀ port frame, Changes (.hsrForward t port frame) s [] [.clock, .net]) ∧
    (∀ pair, Changes (.supervisionFrameSend t pair) s [] [.clock, .net]) ∧
    (∀ port message, Changes (.ptpSyncRx t port message) s [.readyIo_meterLv, .readyIo_meterMv, .metStat_ewArmed, .metStat_classLost, .mptStat_ready,
      .mptStat_gapPending, .ptpStat_locked, .ptpStat_twoStepSeen, .ptpStat_slavePort, .ptpStat_steps, .ptpStat_lockLosses, .ptpOffset_offset,
      .poArmNs_armed, .poArmNs_missed] [.clock, .faults, .net, .metrology, .drawn]) ∧
    (∀ port source, Changes (.ptpAnnounceTimeout t port source) s [.readyIo_meterLv, .readyIo_meterMv, .metStat_ewArmed, .metStat_classLost,
      .mptStat_ready, .mptStat_gapPending, .ptpStat_locked, .ptpStat_master, .ptpStat_slavePort, .ptpStat_lockLosses] [.clock, .faults, .net,
      .metrology]) ∧
    (∀ port, ∀ op ∈ [Instr.pdelayReqRx t port, .frameTransmissionEnd t port], Changes op s [] [.clock, .net]) ∧
    (∀ port message, Changes (.ptpMessageSend t port message) s [] [.clock, .net]) ∧
    (∀ output, Changes (.pulseEdge t output) s [.poArmNs_armed] [.clock, .net]) ∧
    (∀ output ns, Changes (.poArm t output ns) s [.poArmNs_armed, .poArmNs_missed, .poArmNs_ns] [.clock]) ∧
    (∀ stream second sample, Changes (.svPublishSample t stream second sample) s [.pubStat_svInvalid] [.clock, .net]) ∧
    (∀ block, Changes (.gooseFastChange t block) s [.sramCorrCount_count, .sramUncorrAddr_addr, .sramUncorrAddr_valid] [.clock, .faults, .net,
      .drawn]) ∧
    (∀ block, Changes (.gooseRepeat t block) s [] [.clock, .net]) ∧
    (∀ port datagram, Changes (.stationRequestRx t port datagram) s (leaveFields ++ ([.saStat_lastStatus, .saStat_lastKey, .saStat_refused] : List Fld)) [.clock,
      .faults, .thermal, .net]) ∧
    (∀ port message, Changes (.arpIcmpRx t port message) s [] [.clock, .net]) ∧
    (Changes (.sliceCycleStart t) s [.ceStat_noCover, .sltStat_running, .sltStat_uncovered, .sltStat_cycles, .sltCycle_last, .sltCycle_worst,
      .sltCount_skipped] [.clock, .converter, .slices]) ∧
    (∀ engine, Changes (.ceSliceHandover t engine) s (leaveFields ++ sliceFields) [.clock, .thermal, .slices]) ∧
    (∀ engine, Changes (.eeSliceHandover t engine) s (leaveFields ++ sliceFields) [.clock, .thermal, .slices]) ∧
    (∀ spare, Changes (.eeSSlice t spare) s (leaveFields ++ sliceFields) [.clock, .thermal, .slices]) ∧
    (∀ pcs, Changes (.pcsSliceHandover t pcs) s (leaveFields ++ sliceFields) [.clock, .thermal, .slices]) ∧
    (∀ lane, Changes (.pcsHandoverTimeout t lane) s (laneFields ++ ([.resetCause_lane, .laneStat_farBlock, .laneStat_farLoopTimed,
      .laneStat_farRxLocked, .laneLatency_valid, .eeEstat_standFor, .ceStat_noCover, .ceStat_nActive, .ceStat_nSpare, .ceStat_nRetired,
      .ceCfg_runsOn, .sltStat_running, .sltStat_uncovered, .sltStat_active, .sltStat_cycles, .sltCycle_last, .sltCycle_worst] : List Fld)) [.clock, .modes,
      .lanes, .arms, .slices]) ∧
    (∀ wire latched, Changes (.blockWireTest t wire latched) s (leaveFields ++ retireFields ++ ([.sltStat_running, .sltStat_uncovered,
      .sltStat_active, .sltStat_cycles, .sltCycle_last, .sltCycle_worst, .sltCount_waits] : List Fld)) [.clock, .modes, .edges, .arms, .faults, .thermal, .power,
      .slices, .security]) ∧
    (Changes (.securitySlice t) s (leaveFields ++ sliceFields ++ ([.secStat_idReady, .secStat_vaultClear, .dbgStat_challengeOpen,
      .dbgStat_windowLeft] : List Fld)) [.clock, .thermal, .halyard, .slices, .security]) ∧
    (Changes (.compareUnitTest t) s (leaveFields ++ sliceFields) [.clock, .thermal, .slices]) ∧
    (∀ track signature, Changes (.sliceSignatureCompare t track signature) s (leaveFields ++ retireFields ++ ([.sltStat_running, .sltStat_uncovered,
      .sltStat_active, .sltStat_cycles, .sltCycle_last, .sltCycle_worst, .sltCount_transients] : List Fld)) [.clock, .modes, .edges, .arms, .faults, .thermal,
      .power, .slices, .security]) ∧
    (∀ track, Changes (.sliceHandback t track) s [.eeEstat_standFor, .ceStat_noCover, .ceStat_nActive, .ceStat_nSpare, .ceStat_nRetired,
      .ceCfg_runsOn, .sltStat_running, .sltStat_uncovered, .sltStat_active, .sltStat_cycles, .sltCycle_last, .sltCycle_worst] [.clock, .slices]) ∧
    (Changes (.cycleLate t) s [.sltStat_cycleLate] [.clock, .faults, .slices]) ∧
    (∀ channel vdrv vneg, Changes (.supplyMonitorCheck t channel vdrv vneg) s retireFields [.clock, .modes, .edges, .arms, .faults, .power, .slices,
      .security]) ∧
    (∀ failed, Changes (.powerOnSliceTest t failed) s (retireFields ++ ([.secStat_idReady, .secStat_vaultClear, .dbgStat_challengeOpen,
      .dbgStat_windowLeft] : List Fld)) [.clock, .modes, .edges, .arms, .faults, .power, .halyard, .slices, .security]) ∧
    (Changes (.eeLLockstepMismatch t) s retireFields [.clock, .modes, .edges, .arms, .faults, .power, .security]) ∧
    (∀ block page read ok found, Changes (.nandOpComplete t block page read ok found) s (leaveFields ++ ([.flTemp_refused, .nvStat_anchorValid,
      .nvStat_short, .nvStat_busy, .nvEcc_corrected, .nvEcc_uncorrectable, .nvEcc_maxBits, .nvBlocks_eraseMax, .nvBlocks_grown, .nvScrub_earlyDue,
      .nvLedger_erasedPages, .nvLedger_carryForwards] : List Fld)) [.clock, .faults, .thermal, .storage]) ∧
    (∀ block read, Changes (.nandOpTimeout t block read) s (leaveFields ++ ([.flTemp_refused, .nvStat_anchorValid, .nvStat_short, .nvStat_busy,
      .nvBlocks_eraseMax, .nvBlocks_grown, .nvLedger_erasedPages, .nvLedger_carryForwards] : List Fld)) [.clock, .faults, .thermal, .storage]) ∧
    (∀ copy wrong, Changes (.retentionRefresh t copy wrong) s (leaveFields ++ ([.flTemp_refused, .nvStat_anchorValid, .nvEcc_corrected,
      .nvEcc_uncorrectable, .nvEcc_maxBits, .nvBlocks_eraseMax, .nvScrub_nextCopy, .nvScrub_earlyDue, .nvScrub_lastFail,
      .nvLedger_erasedPages] : List Fld)) [.clock, .faults, .thermal, .storage, .drawn]) ∧
    (Changes (.ledgerWrite t) s (leaveFields ++ ([.modeStat_lockoutPersisted, .modeStat_holdCause, .modeStat_mode, .modeReq_pending,
      .delibStat_windowOpen, .delibStat_windowLeft, .laneStat_state, .eeStat_halted, .armStat_pcPhase, .cePower_stopping, .metStat_ewArmed,
      .metStat_saveRefused, .metStat_refusals, .metStat_saves, .mptStat_unmeasuredMs, .gdStat_staticOn, .fcStat_reaction, .fcStat_aliveAFrozen,
      .fcStat_aliveBFrozen, .shroudStat_bw, .shroudStat_drvDisable, .shroudStat_mastConsent, .shroudStat_shroudConsent, .shroudStat_withheld,
      .thStat_shutdownPending, .thStat_recordPending, .flTemp_refused, .nvStat_anchorValid, .nvBlocks_eraseMax, .nvLedger_erasedPages,
      .nvLedger_carryForwards, .dbgStat_unlocked, .dbgStat_challengeOpen, .dbgStat_windowLeft] : List Fld)) [.clock, .modes, .lanes, .edges, .faults, .thermal,
      .power, .triggers, .halyard, .metrology, .storage, .security]) ∧
    (∀ unreadable, Changes (.ledgerScan t unreadable) s [.mptStat_totalsRestored, .mptStat_gapPending, .mptTotalLo_energy, .mptTotalHi_energy,
      .saStart_start, .flTemp_refused, .nvStat_anchorValid, .nvEcc_corrected, .nvEcc_uncorrectable, .nvEcc_maxBits, .nvBlocks_eraseMax,
      .nvScrub_earlyDue, .nvLedger_erasedPages] [.clock, .faults, .metrology, .storage, .drawn]) ∧
    (Changes (.recorderSample t) s [.sramCorrCount_count, .sramUncorrAddr_addr, .sramUncorrAddr_valid, .drStat_state, .drStat_locked,
      .drStat_stored] [.sram, .clock, .faults, .storage, .drawn]) ∧
    (Changes (.recordTrigger t) s (leaveFields ++ ([.drStat_state, .drStat_locked, .drStat_stored, .drCount_lost, .drCount_joined,
      .drCount_truncated] : List Fld)) [.clock, .thermal, .triggers, .storage]) ∧
    (Changes (.recordLock t) s (leaveFields ++ ([.drStat_state, .drStat_locked, .drStat_stored] : List Fld)) [.clock, .thermal, .storage]) ∧
    (Changes (.recordFlush t) s (leaveFields ++ ([.sramCorrCount_count, .sramUncorrAddr_addr, .sramUncorrAddr_valid, .flTemp_refused,
      .nvBlocks_eraseMax, .drStat_state, .drStat_locked, .drStat_flushing, .drStat_stored, .drLast_id] : List Fld)) [.clock, .faults, .thermal, .storage, .drawn]) ∧
    (Changes (.logWrite t) s (leaveFields ++ ([.flTemp_refused, .nvBlocks_eraseMax] : List Fld)) [.clock, .faults, .thermal, .storage]) ∧
    (∀ op ∈ [Instr.firmwareBoot t, .firmwareRetry t], Changes op s [.sramCorrCount_count, .sramUncorrAddr_addr, .sramUncorrAddr_valid,
      .flTemp_refused, .nvStat_anchorValid, .nvEcc_corrected, .nvEcc_uncorrectable, .nvEcc_maxBits, .nvBlocks_eraseMax, .nvScrub_earlyDue,
      .nvLedger_erasedPages, .bootStat_copy, .bootStat_keyIndex, .bootStat_statusB, .bootStat_statusA, .fwVersion_version, .fwDigest_bytes] [.sram,
      .clock, .faults, .storage, .security, .drawn]) ∧
    (∀ derived, Changes (.identityDerivation t derived) s (leaveFields ++ retireFields ++ ([.secStat_idReady, .secStat_vaultClear] : List Fld)) [.clock, .modes,
      .edges, .arms, .faults, .thermal, .power, .security]) ∧
    (Changes (.vaultClear t) s [.secStat_idReady, .secStat_vaultClear, .dbgStat_challengeOpen, .dbgStat_windowLeft] [.clock, .halyard, .security]) ∧
    (∀ din, Changes (.bypass t din) s [] [.clock, .security]) ∧
    (∀ op ∈ [Instr.idcode t, .status t], Changes op s [] [.clock, .security]) ∧
    (∀ balls din, ∀ op ∈ [Instr.samplePreload t balls din, .extest t balls din, .extestPulse t balls din, .extestTrain t balls din],
      Changes op s [] [.clock, .security]) ∧
    (Changes (.dbgLock t) s [.dbgStat_unlocked] [.clock, .edges, .security]) ∧
    (∀ din, Changes (.dbgChallenge t din) s [.dbgStat_challengeOpen, .dbgStat_windowLeft] [.clock, .security, .drawn]) ∧
    (∀ din, Changes (.dbgResponse t din) s (leaveFields ++ ([.dbgStat_challengeOpen, .dbgStat_barred, .dbgStat_windowLeft,
      .dbgStat_failCount] : List Fld)) [.clock, .faults, .thermal, .security]) ∧
    (Changes (.dbgResponseCheck t) s (leaveFields ++ ([.secStat_sigFails, .dbgStat_unlocked, .dbgStat_barred, .dbgStat_failCount] : List Fld)) [.clock, .faults,
      .thermal, .security]) ∧
    (Changes (.challengeExpiry t) s [.dbgStat_challengeOpen, .dbgStat_windowLeft] [.clock, .security]) ∧
    (∀ din slot1 hash burned interrupted, Changes (.ownerFuse t din slot1 hash burned interrupted) s [.secStat_ownerFused, .secStat_slot1InForce,
      .ownerHash_bytes] [.clock, .faults, .security]) ∧
    (∀ din memory, Changes (.engineRead t din memory) s [.sramCorrCount_count, .sramUncorrAddr_addr, .sramUncorrAddr_valid] [.clock, .faults,
      .security, .drawn]) ∧
    (∀ din, ∀ op ∈ [Instr.halt t din, .resume t din], Changes op s [] [.clock, .edges, .security]) ∧
    (∀ id, Changes (.stationLeaveTimeout t id) s (leaveFields ++ ([.saStat_lastStatus, .saStat_lastKey, .saStat_refused] : List Fld)) [.clock, .faults, .thermal,
      .net])
end

