-- ==== Sys2Proof/Laws/Store.lean ====
section
/-! SUPPORT. Laws of the sparse store: what a lookup gives after an entry is dropped, inserted or put, and that a put keeps the
canonical form. -/

namespace Sys2Proof.Machine

variable {ν : Type}

theorem storeGet_nil (k : Nat) (d : ν) : storeGet [] k d = d := rfl

theorem storeGet_cons (p : Nat × ν) (st : Store ν) (k : Nat) (d : ν) :
    storeGet (p :: st) k d = if p.1 = k then p.2 else storeGet st k d := rfl

theorem storeGet_drop_self (st : Store ν) (k : Nat) (d : ν) : storeGet (storeDrop st k) k d = d := by
  induction st with
  | nil => rfl
  | cons p st ih =>
    simp only [storeDrop]
    split
    · exact ih
    · rw [storeGet_cons, if_neg ‹_›, ih]

theorem storeGet_drop_ne (st : Store ν) {k j : Nat} (d : ν) (h : k ≠ j) :
    storeGet (storeDrop st k) j d = storeGet st j d := by
  induction st with
  | nil => rfl
  | cons p st ih =>
    simp only [storeDrop]
    split
    · rw [ih, storeGet_cons, if_neg (by omega)]
    · simp only [storeGet_cons, ih]

/-- No entry of the store is listed under `k`. -/
def storeFree (st : Store ν) (k : Nat) : Prop := ∀ p ∈ st, p.1 ≠ k

theorem storeFree_drop (st : Store ν) (k : Nat) : storeFree (storeDrop st k) k := by
  induction st with
  | nil => simp [storeFree, storeDrop]
  | cons p st ih =>
    simp only [storeDrop]
    split
    · exact ih
    · intro q hq
      rcases List.mem_cons.mp hq with rfl | hq
      · assumption
      · exact ih q hq

theorem storeGet_insert_self (st : Store ν) (k : Nat) (v d : ν) (h : storeFree st k) :
    storeGet (storeInsert st k v) k d = v := by
  induction st with
  | nil => simp [storeInsert, storeGet]
  | cons p st ih =>
    simp only [storeInsert]
    split
    · simp [storeGet]
    · rw [storeGet_cons, if_neg (h p (by simp))]
      exact ih fun q hq => h q (by simp [hq])

theorem storeGet_insert_ne (st : Store ν) {k j : Nat} (v d : ν) (h : k ≠ j) :
    storeGet (storeInsert st k v) j d = storeGet st j d := by
  induction st with
  | nil => simp [storeInsert, storeGet, h]
  | cons p st ih =>
    simp only [storeInsert]
    split
    · rw [storeGet_cons, if_neg h]
    · simp only [storeGet_cons, ih]

theorem storeGet_put_self [DecidableEq ν] (st : Store ν) (k : Nat) (d v : ν) : storeGet (storePut st k d v) k d = v := by
  unfold storePut
  split
  · rw [storeGet_drop_self]; exact Eq.symm ‹_›
  · exact storeGet_insert_self _ k v d (storeFree_drop st k)

theorem storeGet_put_ne [DecidableEq ν] (st : Store ν) {k j : Nat} (d v e : ν) (h : k ≠ j) :
    storeGet (storePut st k d v) j e = storeGet st j e := by
  unfold storePut
  split
  · exact storeGet_drop_ne st e h
  · rw [storeGet_insert_ne _ v e h, storeGet_drop_ne st e h]

theorem storeGet_put [DecidableEq ν] (st : Store ν) (k j : Nat) (d v : ν) :
    storeGet (storePut st k d v) j d = if k = j then v else storeGet st j d := by
  split
  · next h => subst h; exact storeGet_put_self st k d v
  · next h => exact storeGet_put_ne st d v d h

theorem storeCanon_cons (ok : Nat → ν → Bool) (p : Nat × ν) (r : Store ν) :
    storeCanon ok (p :: r) = true ↔ ok p.1 p.2 = true ∧ (∀ q ∈ r, p.1 < q.1) ∧ storeCanon ok r = true := by
  simp [storeCanon, and_assoc]

theorem mem_storeDrop {st : Store ν} {k : Nat} {p : Nat × ν} (h : p ∈ storeDrop st k) : p ∈ st := by
  induction st with
  | nil => simp [storeDrop] at h
  | cons q st ih =>
    simp only [storeDrop] at h
    split at h
    · exact List.mem_cons_of_mem _ (ih h)
    · rcases List.mem_cons.mp h with rfl | h
      · simp
      · exact List.mem_cons_of_mem _ (ih h)

theorem storeCanon_drop {ok : Nat → ν → Bool} {st : Store ν} (h : storeCanon ok st = true) (k : Nat) :
    storeCanon ok (storeDrop st k) = true := by
  induction st with
  | nil => rfl
  | cons p st ih =>
    obtain ⟨h1, h2, h3⟩ := (storeCanon_cons ok p st).mp h
    simp only [storeDrop]
    split
    · exact ih h3
    · exact (storeCanon_cons ok _ _).mpr ⟨h1, fun q hq => h2 q (mem_storeDrop hq), ih h3⟩

theorem mem_storeInsert {st : Store ν} {k : Nat} {v : ν} {p : Nat × ν} (h : p ∈ storeInsert st k v) :
    p = (k, v) ∨ p ∈ st := by
  induction st with
  | nil => simpa [storeInsert] using h
  | cons q st ih =>
    simp only [storeInsert] at h
    split at h
    · exact List.mem_cons.mp h
    · rcases List.mem_cons.mp h with rfl | h
      · simp
      · rcases ih h with h | h
        · exact .inl h
        · exact .inr (List.mem_cons_of_mem _ h)

theorem storeCanon_insert {ok : Nat → ν → Bool} {st : Store ν} (h : storeCanon ok st = true) {k : Nat} {v : ν}
    (hv : ok k v = true) (hk : storeFree st k) : storeCanon ok (storeInsert st k v) = true := by
  induction st with
  | nil => simp [storeInsert, storeCanon, hv]
  | cons p st ih =>
    obtain ⟨h1, h2, h3⟩ := (storeCanon_cons ok p st).mp h
    simp only [storeInsert]
    split
    · next hlt =>
      refine (storeCanon_cons ok _ _).mpr ⟨hv, fun q hq => ?_, h⟩
      rcases List.mem_cons.mp hq with rfl | hq
      · exact hlt
      · exact Nat.lt_trans hlt (h2 q hq)
    · next hge =>
      have hne : p.1 ≠ k := hk p (by simp)
      refine (storeCanon_cons ok _ _).mpr ⟨h1, fun q hq => ?_, ih h3 fun q hq => hk q (by simp [hq])⟩
      rcases mem_storeInsert hq with rfl | hq
      · show p.1 < k
        omega
      · exact h2 q hq

/-- A put keeps the canonical form in which no entry equals what its number reads as when it is not listed. -/
theorem storeCanon_put [DecidableEq ν] {ok : Nat → ν → Bool} {st : Store ν} (h : storeCanon ok st = true) (k : Nat) (d v : ν)
    (hv : v ≠ d → ok k v = true) : storeCanon ok (storePut st k d v) = true := by
  unfold storePut
  split
  · exact storeCanon_drop h k
  · exact storeCanon_insert (storeCanon_drop h k) (hv ‹_›) (storeFree_drop st k)

theorem storeCanon_filter {ok : Nat → ν → Bool} {st : Store ν} (h : storeCanon ok st = true) (p : Nat × ν → Bool) :
    storeCanon ok (st.filter p) = true := by
  induction st with
  | nil => rfl
  | cons q st ih =>
    obtain ⟨h1, h2, h3⟩ := (storeCanon_cons ok q st).mp h
    rw [List.filter_cons]
    split
    · exact (storeCanon_cons ok _ _).mpr ⟨h1, fun x hx => h2 x (List.mem_filter.mp hx).1, ih h3⟩
    · exact ih h3

end Sys2Proof.Machine
end

