-- ==== Sys2Proof/Laws/Registers.lean ====
section
/-! SUPPORT. Laws of the register fields: what a field reads as after a write, and that a write keeps the canonical form. -/

namespace Sys2Proof.Machine

theorem Fld.ctorIdx_lt (f : Fld) : f.ctorIdx < 1024 := by cases f <;> decide

theorem Fld.ctorIdx_inj {f g : Fld} (h : f.ctorIdx = g.ctorIdx) : f = g := by
  rw [← Fld.ofNat_ctorIdx f, ← Fld.ofNat_ctorIdx g, h]

theorem Fld.key_mod (f : Fld) (i : Nat) : f.key i % 1024 = f.ctorIdx := by
  have := f.ctorIdx_lt
  unfold Fld.key
  omega

theorem Fld.key_div (f : Fld) (i : Nat) : f.key i / 1024 = i := by
  have := f.ctorIdx_lt
  unfold Fld.key
  omega

/-- Two fields of instances share a key only when they are the same. -/
theorem Fld.key_inj {f g : Fld} {i j : Nat} : f.key i = g.key j ↔ f = g ∧ i = j := by
  constructor
  · intro h
    refine ⟨Fld.ctorIdx_inj ?_, ?_⟩
    · rw [← Fld.key_mod f i, ← Fld.key_mod g j, h]
    · rw [← Fld.key_div f i, ← Fld.key_div g j, h]
  · rintro ⟨rfl, rfl⟩
    rfl

theorem Chip.rd_wr_self (s : Chip) (f : Fld) (v i : Nat) : (s.wr f v i).rd f i = v % 2 ^ f.spec.width :=
  storeGet_put_self _ _ _ _

theorem Chip.rd_wr_ne (s : Chip) {f g : Fld} (v : Nat) {i j : Nat} (h : ¬(f = g ∧ i = j)) :
    (s.wr f v i).rd g j = s.rd g j :=
  storeGet_put_ne _ _ _ _ fun e => h (Fld.key_inj.mp e)

/-- What a field reads as after a write: the value written, cut to its width, where field and instance are the same. -/
theorem Chip.rd_wr (s : Chip) (f g : Fld) (v i j : Nat) :
    (s.wr f v i).rd g j = if f = g ∧ i = j then v % 2 ^ f.spec.width else s.rd g j := by
  split
  · next h => obtain ⟨rfl, rfl⟩ := h; exact s.rd_wr_self f v i
  · next h => exact s.rd_wr_ne v h

theorem Chip.wr_wf {s : Chip} (h : Registers.wf s.regs = true) (f : Fld) (v i : Nat) :
    Registers.wf (s.wr f v i).regs = true := by
  refine storeCanon_put h _ _ _ fun hne => ?_
  have hw : 0 < 2 ^ f.spec.width := Nat.two_pow_pos _
  simp [registerEntryOk, Fld.key_mod, Fld.key_div, Fld.ofNat_ctorIdx, Nat.mod_lt _ hw, hne]

/-- The memory keeps its canonical form when a byte is written. -/
theorem Chip.sramPutByte_wf {s : Chip} (h : Memory.wf s.sram.cells = true) (a : Nat) (v : Byte) :
    Memory.wf (s.sramPutByte a v).sram.cells = true :=
  storeCanon_put h _ _ _ fun hne => by simpa using hne

@[simp] theorem Chip.sramIntact_put (s : Chip) (a w : Nat) (v : Byte) : (s.sramPutByte a v).sramIntact w = s.sramIntact w := rfl

/-- What a byte reads as after a byte is written: the byte written, where the code of its word shows it (R35). -/
theorem Chip.sramByte_put (s : Chip) (a b : Nat) (v : Byte) :
    (s.sramPutByte a v).sramByte b = if a = b ∧ s.sramIntact (sramWordOf b) = true then v else s.sramByte b := by
  unfold Chip.sramByte
  rw [Chip.sramIntact_put]
  cases h : s.sramIntact (sramWordOf b) with
  | false => simp; rfl
  | true => simp only [and_true, if_true]; exact storeGet_put s.sram.cells a b sramDefault v

end Sys2Proof.Machine
end

