-- ==== Sys2Proof/Laws/Within.lean ====
section
/-! SUPPORT. The frame of an operation: which register fields and which parts of the state it may change. A set of fields is a
number whose bit k stands for the field with number k (`Fld.ctorIdx`); a set of parts is a number whose bit k stands for the k-th
part of `Chip` after `regs`, from bit 0 for `sram` to bit 24 for `drawn`. -/

namespace Sys2Proof.Machine

/-- `t` differs from `s` at most in the fields of `F` and the parts of `C`, and memory and registers keep their canonical form. -/
structure Within (F C : Nat) (s t : Chip) : Prop where
  rd : ∀ f i, F.testBit f.ctorIdx = false → t.rd f i = s.rd f i
  sram : C.testBit 0 = false → t.sram = s.sram
  bus : C.testBit 1 = false → t.bus = s.bus
  clock : C.testBit 2 = false → t.clock = s.clock
  live : C.testBit 3 = false → t.live = s.live
  sys : C.testBit 4 = false → t.sys = s.sys
  modes : C.testBit 5 = false → t.modes = s.modes
  pll : C.testBit 6 = false → t.pll = s.pll
  lanes : C.testBit 7 = false → t.lanes = s.lanes
  edges : C.testBit 8 = false → t.edges = s.edges
  arms : C.testBit 9 = false → t.arms = s.arms
  engines : C.testBit 10 = false → t.engines = s.engines
  faults : C.testBit 11 = false → t.faults = s.faults
  spr : C.testBit 12 = false → t.spr = s.spr
  thermal : C.testBit 13 = false → t.thermal = s.thermal
  converter : C.testBit 14 = false → t.converter = s.converter
  power : C.testBit 15 = false → t.power = s.power
  triggers : C.testBit 16 = false → t.triggers = s.triggers
  halyard : C.testBit 17 = false → t.halyard = s.halyard
  inputs : C.testBit 18 = false → t.inputs = s.inputs
  net : C.testBit 19 = false → t.net = s.net
  metrology : C.testBit 20 = false → t.metrology = s.metrology
  storage : C.testBit 21 = false → t.storage = s.storage
  slices : C.testBit 22 = false → t.slices = s.slices
  security : C.testBit 23 = false → t.security = s.security
  drawn : C.testBit 24 = false → t.drawn = s.drawn
  cells : Memory.wf s.sram.cells = true → Memory.wf t.sram.cells = true
  regs : Registers.wf s.regs = true → Registers.wf t.regs = true

variable {F C m c : Nat} {s t x y : Chip}

theorem testBit_sub {m F k : Nat} (h : Nat.land m F = m) (hk : F.testBit k = false) : m.testBit k = false := by
  rw [← h]
  show (m &&& F).testBit k = false
  rw [Nat.testBit_and, hk, Bool.and_false]

theorem land_trans {a b c : Nat} (h : Nat.land a b = a) (k : Nat.land b c = b) : Nat.land a c = a := by
  show a &&& c = a
  have h : a &&& b = a := h
  have k : b &&& c = b := k
  rw [← h, Nat.and_assoc, k]

theorem testBit_of_land {a b k : Nat} (h : Nat.land a b = a) (hk : a.testBit k = true) : b.testBit k = true := by
  cases hb : b.testBit k with
  | true => rfl
  | false => rw [testBit_sub h hb] at hk; cases hk

theorem Within.refl : Within F C s s := by constructor <;> simp

/-- One more operation, of narrower sets. -/
theorem Within.step (h : Within m c x y) (k : Within F C s x) (hF : Nat.land m F = m) (hC : Nat.land c C = c) :
    Within F C s y where
  rd f i hf := (h.rd f i (testBit_sub hF hf)).trans (k.rd f i hf)
  sram b := (h.sram (testBit_sub hC b)).trans (k.sram b)
  bus b := (h.bus (testBit_sub hC b)).trans (k.bus b)
  clock b := (h.clock (testBit_sub hC b)).trans (k.clock b)
  live b := (h.live (testBit_sub hC b)).trans (k.live b)
  sys b := (h.sys (testBit_sub hC b)).trans (k.sys b)
  modes b := (h.modes (testBit_sub hC b)).trans (k.modes b)
  pll b := (h.pll (testBit_sub hC b)).trans (k.pll b)
  lanes b := (h.lanes (testBit_sub hC b)).trans (k.lanes b)
  edges b := (h.edges (testBit_sub hC b)).trans (k.edges b)
  arms b := (h.arms (testBit_sub hC b)).trans (k.arms b)
  engines b := (h.engines (testBit_sub hC b)).trans (k.engines b)
  faults b := (h.faults (testBit_sub hC b)).trans (k.faults b)
  spr b := (h.spr (testBit_sub hC b)).trans (k.spr b)
  thermal b := (h.thermal (testBit_sub hC b)).trans (k.thermal b)
  converter b := (h.converter (testBit_sub hC b)).trans (k.converter b)
  power b := (h.power (testBit_sub hC b)).trans (k.power b)
  triggers b := (h.triggers (testBit_sub hC b)).trans (k.triggers b)
  halyard b := (h.halyard (testBit_sub hC b)).trans (k.halyard b)
  inputs b := (h.inputs (testBit_sub hC b)).trans (k.inputs b)
  net b := (h.net (testBit_sub hC b)).trans (k.net b)
  metrology b := (h.metrology (testBit_sub hC b)).trans (k.metrology b)
  storage b := (h.storage (testBit_sub hC b)).trans (k.storage b)
  slices b := (h.slices (testBit_sub hC b)).trans (k.slices b)
  security b := (h.security (testBit_sub hC b)).trans (k.security b)
  drawn b := (h.drawn (testBit_sub hC b)).trans (k.drawn b)
  cells w := h.cells (k.cells w)
  regs w := h.regs (k.regs w)

theorem Within.mono (h : Within m c s t) (hF : Nat.land m F = m) (hC : Nat.land c C = c) : Within F C s t :=
  Within.step h .refl hF hC

theorem Within.cut (h : Within F C s x) (k : Within F C s x → Within F C s t) : Within F C s t := k h

theorem Within.wr (k : Within F C s x) (f : Fld) (v i : Nat) (h : F.testBit f.ctorIdx = true) :
    Within F C s (x.wr f v i) where
  rd g j hg := by
    rw [Chip.rd_wr_ne]
    · exact k.rd g j hg
    · rintro ⟨rfl, -⟩
      rw [h] at hg
      cases hg
  sram b := k.sram b
  bus b := k.bus b
  clock b := k.clock b
  live b := k.live b
  sys b := k.sys b
  modes b := k.modes b
  pll b := k.pll b
  lanes b := k.lanes b
  edges b := k.edges b
  arms b := k.arms b
  engines b := k.engines b
  faults b := k.faults b
  spr b := k.spr b
  thermal b := k.thermal b
  converter b := k.converter b
  power b := k.power b
  triggers b := k.triggers b
  halyard b := k.halyard b
  inputs b := k.inputs b
  net b := k.net b
  metrology b := k.metrology b
  storage b := k.storage b
  slices b := k.slices b
  security b := k.security b
  drawn b := k.drawn b
  cells w := k.cells w
  regs w := Chip.wr_wf (k.regs w) f v i

theorem Within.wrFlag (k : Within F C s x) (f : Fld) (b : Bool) (i : Nat) (h : F.testBit f.ctorIdx = true) :
    Within F C s (x.wrFlag f b i) := k.wr f _ i h

theorem Within.wrInt (k : Within F C s x) (f : Fld) (v : Int) (i : Nat) (h : F.testBit f.ctorIdx = true) :
    Within F C s (x.wrInt f v i) := k.wr f _ i h

theorem Within.count (k : Within F C s x) (f : Fld) (i n : Nat) (h : F.testBit f.ctorIdx = true) :
    Within F C s (x.count f i n) := k.wr f _ i h

theorem Within.wrBit (k : Within F C s x) (f : Fld) (bit : Nat) (b : Bool) (i : Nat) (h : F.testBit f.ctorIdx = true) :
    Within F C s (x.wrBit f bit b i) := k.wr f _ i h

theorem Within.each {α : Type} {g : Chip → α → Chip} (k : Within F C s x) (l : List α)
    (h : ∀ u a, Within F C s u → Within F C s (g u a)) : Within F C s (x.each l g) := by
  unfold Chip.each
  induction l generalizing x with
  | nil => exact k
  | cons a l ih => exact ih (h x a k)

/-- All fields, and all parts. -/
abbrev allFields : Nat := 0x1ffffffffffffffffffffffffffffffffffffffffffffffffffffffffffffffffffffffffffffffffffffffffffffffffffffffffffffffffffffffffffffffffffffffffffffffffffffffffffffffffffff
abbrev allParts : Nat := 0x1ffffff

/-- A state built anew: everything may differ, and memory and registers are in canonical form. -/
theorem Within.fresh (hm : x.sram.cells = []) (hr : x.regs = []) : Within allFields allParts s x where
  rd f i h := by
    have : allFields.testBit f.ctorIdx = true := by cases f <;> decide
    rw [this] at h
    cases h
  cells _ := by rw [hm]; rfl
  regs _ := by rw [hr]; rfl
  sram h := by cases h
  bus h := by cases h
  clock h := by cases h
  live h := by cases h
  sys h := by cases h
  modes h := by cases h
  pll h := by cases h
  lanes h := by cases h
  edges h := by cases h
  arms h := by cases h
  engines h := by cases h
  faults h := by cases h
  spr h := by cases h
  thermal h := by cases h
  converter h := by cases h
  power h := by cases h
  triggers h := by cases h
  halyard h := by cases h
  inputs h := by cases h
  net h := by cases h
  metrology h := by cases h
  storage h := by cases h
  slices h := by cases h
  security h := by cases h
  drawn h := by cases h

/-- A state built anew around the memory it had. -/
theorem Within.freshSram (hm : x.sram = s.sram) (hr : x.regs = []) : Within allFields allParts s x where
  rd f i h := by
    have : allFields.testBit f.ctorIdx = true := by cases f <;> decide
    rw [this] at h
    cases h
  cells w := by rw [hm]; exact w
  regs _ := by rw [hr]; rfl
  sram h := by cases h
  bus h := by cases h
  clock h := by cases h
  live h := by cases h
  sys h := by cases h
  modes h := by cases h
  pll h := by cases h
  lanes h := by cases h
  edges h := by cases h
  arms h := by cases h
  engines h := by cases h
  faults h := by cases h
  spr h := by cases h
  thermal h := by cases h
  converter h := by cases h
  power h := by cases h
  triggers h := by cases h
  halyard h := by cases h
  inputs h := by cases h
  net h := by cases h
  metrology h := by cases h
  storage h := by cases h
  slices h := by cases h
  security h := by cases h
  drawn h := by cases h

theorem Within.after (k : Within F C s x) (h : Within F C x t) : Within F C s t := .step h k (Nat.and_self F) (Nat.and_self C)

/-- A fold that carries a value beside the state. -/
theorem Within.foldlSnd {α β : Type} {g : β × Chip → α → β × Chip} {b : β × Chip} (k : Within F C s b.2) (l : List α)
    (h : ∀ u a, Within F C s u.2 → Within F C s (g u a).2) : Within F C s (l.foldl g b).2 := by
  induction l generalizing b with
  | nil => exact k
  | cons a l ih => exact ih (h b a k)

theorem Within.onlyIf {g : Chip → Chip} (k : Within F C s x) (b : Bool)
    (h : ∀ u, Within F C s u → Within F C s (g u)) : Within F C s (x.onlyIf b g) := by
  unfold Chip.onlyIf
  split
  · exact h x k
  · exact k

/-- A record update: the parts that stay are those of a state reached already; bytes of memory stay. -/
theorem Within.mk' (k : Within F C s x) {r : Store Nat} {sram : SramState} {bus : BusState} {clock : ClockState} {live : LiveState} {sys : SystemSettings} {modes : ModeState} {pll : PllState} {lanes : Store LaneState} {edges : EdgeState} {arms : ArmsState} {engines : EngineState} {faults : FaultState} {spr : SprState} {thermal : ThermalState} {converter : ConverterState} {power : PowerState} {triggers : List RecordCause} {halyard : HalyardState} {inputs : InputState} {net : NetState} {metrology : MetrologyState} {storage : StorageState} {slices : SliceTestState} {security : SecurityState} {drawn : Nat}
    (hr : r = x.regs) (hm : sram.cells = x.sram.cells)
    (h0 : sram = x.sram ∨ C.testBit 0 = true)
    (h1 : bus = x.bus ∨ C.testBit 1 = true)
    (h2 : clock = x.clock ∨ C.testBit 2 = true)
    (h3 : live = x.live ∨ C.testBit 3 = true)
    (h4 : sys = x.sys ∨ C.testBit 4 = true)
    (h5 : modes = x.modes ∨ C.testBit 5 = true)
    (h6 : pll = x.pll ∨ C.testBit 6 = true)
    (h7 : lanes = x.lanes ∨ C.testBit 7 = true)
    (h8 : edges = x.edges ∨ C.testBit 8 = true)
    (h9 : arms = x.arms ∨ C.testBit 9 = true)
    (h10 : engines = x.engines ∨ C.testBit 10 = true)
    (h11 : faults = x.faults ∨ C.testBit 11 = true)
    (h12 : spr = x.spr ∨ C.testBit 12 = true)
    (h13 : thermal = x.thermal ∨ C.testBit 13 = true)
    (h14 : converter = x.converter ∨ C.testBit 14 = true)
    (h15 : power = x.power ∨ C.testBit 15 = true)
    (h16 : triggers = x.triggers ∨ C.testBit 16 = true)
    (h17 : halyard = x.halyard ∨ C.testBit 17 = true)
    (h18 : inputs = x.inputs ∨ C.testBit 18 = true)
    (h19 : net = x.net ∨ C.testBit 19 = true)
    (h20 : metrology = x.metrology ∨ C.testBit 20 = true)
    (h21 : storage = x.storage ∨ C.testBit 21 = true)
    (h22 : slices = x.slices ∨ C.testBit 22 = true)
    (h23 : security = x.security ∨ C.testBit 23 = true)
    (h24 : drawn = x.drawn ∨ C.testBit 24 = true)
    : Within F C s ⟨r, sram, bus, clock, live, sys, modes, pll, lanes, edges, arms, engines, faults, spr, thermal, converter, power, triggers, halyard, inputs, net, metrology, storage, slices, security, drawn⟩ where
  rd f i hf := by subst hr; exact k.rd f i hf
  sram b := h0.elim (fun e => e.trans (k.sram b)) fun e => nomatch e.symm.trans b
  bus b := h1.elim (fun e => e.trans (k.bus b)) fun e => nomatch e.symm.trans b
  clock b := h2.elim (fun e => e.trans (k.clock b)) fun e => nomatch e.symm.trans b
  live b := h3.elim (fun e => e.trans (k.live b)) fun e => nomatch e.symm.trans b
  sys b := h4.elim (fun e => e.trans (k.sys b)) fun e => nomatch e.symm.trans b
  modes b := h5.elim (fun e => e.trans (k.modes b)) fun e => nomatch e.symm.trans b
  pll b := h6.elim (fun e => e.trans (k.pll b)) fun e => nomatch e.symm.trans b
  lanes b := h7.elim (fun e => e.trans (k.lanes b)) fun e => nomatch e.symm.trans b
  edges b := h8.elim (fun e => e.trans (k.edges b)) fun e => nomatch e.symm.trans b
  arms b := h9.elim (fun e => e.trans (k.arms b)) fun e => nomatch e.symm.trans b
  engines b := h10.elim (fun e => e.trans (k.engines b)) fun e => nomatch e.symm.trans b
  faults b := h11.elim (fun e => e.trans (k.faults b)) fun e => nomatch e.symm.trans b
  spr b := h12.elim (fun e => e.trans (k.spr b)) fun e => nomatch e.symm.trans b
  thermal b := h13.elim (fun e => e.trans (k.thermal b)) fun e => nomatch e.symm.trans b
  converter b := h14.elim (fun e => e.trans (k.converter b)) fun e => nomatch e.symm.trans b
  power b := h15.elim (fun e => e.trans (k.power b)) fun e => nomatch e.symm.trans b
  triggers b := h16.elim (fun e => e.trans (k.triggers b)) fun e => nomatch e.symm.trans b
  halyard b := h17.elim (fun e => e.trans (k.halyard b)) fun e => nomatch e.symm.trans b
  inputs b := h18.elim (fun e => e.trans (k.inputs b)) fun e => nomatch e.symm.trans b
  net b := h19.elim (fun e => e.trans (k.net b)) fun e => nomatch e.symm.trans b
  metrology b := h20.elim (fun e => e.trans (k.metrology b)) fun e => nomatch e.symm.trans b
  storage b := h21.elim (fun e => e.trans (k.storage b)) fun e => nomatch e.symm.trans b
  slices b := h22.elim (fun e => e.trans (k.slices b)) fun e => nomatch e.symm.trans b
  security b := h23.elim (fun e => e.trans (k.security b)) fun e => nomatch e.symm.trans b
  drawn b := h24.elim (fun e => e.trans (k.drawn b)) fun e => nomatch e.symm.trans b
  cells w := by rw [hm]; exact k.cells w
  regs w := by rw [hr]; exact k.regs w

theorem Within.sramPutByte (k : Within F C s x) (a : Nat) (v : Byte) (h : C.testBit 0 = true) :
    Within F C s (x.sramPutByte a v) where
  rd f i hf := k.rd f i hf
  sram b := by rw [h] at b; cases b
  bus b := k.bus b
  clock b := k.clock b
  live b := k.live b
  sys b := k.sys b
  modes b := k.modes b
  pll b := k.pll b
  lanes b := k.lanes b
  edges b := k.edges b
  arms b := k.arms b
  engines b := k.engines b
  faults b := k.faults b
  spr b := k.spr b
  thermal b := k.thermal b
  converter b := k.converter b
  power b := k.power b
  triggers b := k.triggers b
  halyard b := k.halyard b
  inputs b := k.inputs b
  net b := k.net b
  metrology b := k.metrology b
  storage b := k.storage b
  slices b := k.slices b
  security b := k.security b
  drawn b := k.drawn b
  cells w := Chip.sramPutByte_wf (k.cells w) a v
  regs w := k.regs w

theorem Within.set_arms (k : Within F C s x) {varms : ArmsState} (harms : C.testBit 9 = true) :
    Within F C s { x with arms := varms } :=
  k.mk' rfl rfl (.inl rfl) (.inl rfl) (.inl rfl) (.inl rfl) (.inl rfl) (.inl rfl) (.inl rfl) (.inl rfl) (.inl rfl) (.inr harms) (.inl rfl) (.inl rfl) (.inl rfl) (.inl rfl) (.inl rfl) (.inl rfl) (.inl rfl) (.inl rfl) (.inl rfl) (.inl rfl) (.inl rfl) (.inl rfl) (.inl rfl) (.inl rfl) (.inl rfl)

theorem Within.set_bus (k : Within F C s x) {vbus : BusState} (hbus : C.testBit 1 = true) :
    Within F C s { x with bus := vbus } :=
  k.mk' rfl rfl (.inl rfl) (.inr hbus) (.inl rfl) (.inl rfl) (.inl rfl) (.inl rfl) (.inl rfl) (.inl rfl) (.inl rfl) (.inl rfl) (.inl rfl) (.inl rfl) (.inl rfl) (.inl rfl) (.inl rfl) (.inl rfl) (.inl rfl) (.inl rfl) (.inl rfl) (.inl rfl) (.inl rfl) (.inl rfl) (.inl rfl) (.inl rfl) (.inl rfl)

theorem Within.set_clock (k : Within F C s x) {vclock : ClockState} (hclock : C.testBit 2 = true) :
    Within F C s { x with clock := vclock } :=
  k.mk' rfl rfl (.inl rfl) (.inl rfl) (.inr hclock) (.inl rfl) (.inl rfl) (.inl rfl) (.inl rfl) (.inl rfl) (.inl rfl) (.inl rfl) (.inl rfl) (.inl rfl) (.inl rfl) (.inl rfl) (.inl rfl) (.inl rfl) (.inl rfl) (.inl rfl) (.inl rfl) (.inl rfl) (.inl rfl) (.inl rfl) (.inl rfl) (.inl rfl) (.inl rfl)

theorem Within.set_clock_metrology (k : Within F C s x) {vclock : ClockState} {vmetrology : MetrologyState} (hclock : C.testBit 2 = true) (hmetrology : C.testBit 20 = true) :
    Within F C s { x with clock := vclock, metrology := vmetrology } :=
  k.mk' rfl rfl (.inl rfl) (.inl rfl) (.inr hclock) (.inl rfl) (.inl rfl) (.inl rfl) (.inl rfl) (.inl rfl) (.inl rfl) (.inl rfl) (.inl rfl) (.inl rfl) (.inl rfl) (.inl rfl) (.inl rfl) (.inl rfl) (.inl rfl) (.inl rfl) (.inl rfl) (.inl rfl) (.inr hmetrology) (.inl rfl) (.inl rfl) (.inl rfl) (.inl rfl)

theorem Within.set_converter (k : Within F C s x) {vconverter : ConverterState} (hconverter : C.testBit 14 = true) :
    Within F C s { x with converter := vconverter } :=
  k.mk' rfl rfl (.inl rfl) (.inl rfl) (.inl rfl) (.inl rfl) (.inl rfl) (.inl rfl) (.inl rfl) (.inl rfl) (.inl rfl) (.inl rfl) (.inl rfl) (.inl rfl) (.inl rfl) (.inl rfl) (.inr hconverter) (.inl rfl) (.inl rfl) (.inl rfl) (.inl rfl) (.inl rfl) (.inl rfl) (.inl rfl) (.inl rfl) (.inl rfl) (.inl rfl)

theorem Within.set_drawn (k : Within F C s x) {vdrawn : Nat} (hdrawn : C.testBit 24 = true) :
    Within F C s { x with drawn := vdrawn } :=
  k.mk' rfl rfl (.inl rfl) (.inl rfl) (.inl rfl) (.inl rfl) (.inl rfl) (.inl rfl) (.inl rfl) (.inl rfl) (.inl rfl) (.inl rfl) (.inl rfl) (.inl rfl) (.inl rfl) (.inl rfl) (.inl rfl) (.inl rfl) (.inl rfl) (.inl rfl) (.inl rfl) (.inl rfl) (.inl rfl) (.inl rfl) (.inl rfl) (.inl rfl) (.inr hdrawn)

theorem Within.set_edges (k : Within F C s x) {vedges : EdgeState} (hedges : C.testBit 8 = true) :
    Within F C s { x with edges := vedges } :=
  k.mk' rfl rfl (.inl rfl) (.inl rfl) (.inl rfl) (.inl rfl) (.inl rfl) (.inl rfl) (.inl rfl) (.inl rfl) (.inr hedges) (.inl rfl) (.inl rfl) (.inl rfl) (.inl rfl) (.inl rfl) (.inl rfl) (.inl rfl) (.inl rfl) (.inl rfl) (.inl rfl) (.inl rfl) (.inl rfl) (.inl rfl) (.inl rfl) (.inl rfl) (.inl rfl)

theorem Within.set_edges_arms (k : Within F C s x) {vedges : EdgeState} {varms : ArmsState} (hedges : C.testBit 8 = true) (harms : C.testBit 9 = true) :
    Within F C s { x with edges := vedges, arms := varms } :=
  k.mk' rfl rfl (.inl rfl) (.inl rfl) (.inl rfl) (.inl rfl) (.inl rfl) (.inl rfl) (.inl rfl) (.inl rfl) (.inr hedges) (.inr harms) (.inl rfl) (.inl rfl) (.inl rfl) (.inl rfl) (.inl rfl) (.inl rfl) (.inl rfl) (.inl rfl) (.inl rfl) (.inl rfl) (.inl rfl) (.inl rfl) (.inl rfl) (.inl rfl) (.inl rfl)

theorem Within.set_engines (k : Within F C s x) {vengines : EngineState} (hengines : C.testBit 10 = true) :
    Within F C s { x with engines := vengines } :=
  k.mk' rfl rfl (.inl rfl) (.inl rfl) (.inl rfl) (.inl rfl) (.inl rfl) (.inl rfl) (.inl rfl) (.inl rfl) (.inl rfl) (.inl rfl) (.inr hengines) (.inl rfl) (.inl rfl) (.inl rfl) (.inl rfl) (.inl rfl) (.inl rfl) (.inl rfl) (.inl rfl) (.inl rfl) (.inl rfl) (.inl rfl) (.inl rfl) (.inl rfl) (.inl rfl)

theorem Within.set_faults (k : Within F C s x) {vfaults : FaultState} (hfaults : C.testBit 11 = true) :
    Within F C s { x with faults := vfaults } :=
  k.mk' rfl rfl (.inl rfl) (.inl rfl) (.inl rfl) (.inl rfl) (.inl rfl) (.inl rfl) (.inl rfl) (.inl rfl) (.inl rfl) (.inl rfl) (.inl rfl) (.inr hfaults) (.inl rfl) (.inl rfl) (.inl rfl) (.inl rfl) (.inl rfl) (.inl rfl) (.inl rfl) (.inl rfl) (.inl rfl) (.inl rfl) (.inl rfl) (.inl rfl) (.inl rfl)

theorem Within.set_faults_spr (k : Within F C s x) {vfaults : FaultState} {vspr : SprState} (hfaults : C.testBit 11 = true) (hspr : C.testBit 12 = true) :
    Within F C s { x with faults := vfaults, spr := vspr } :=
  k.mk' rfl rfl (.inl rfl) (.inl rfl) (.inl rfl) (.inl rfl) (.inl rfl) (.inl rfl) (.inl rfl) (.inl rfl) (.inl rfl) (.inl rfl) (.inl rfl) (.inr hfaults) (.inr hspr) (.inl rfl) (.inl rfl) (.inl rfl) (.inl rfl) (.inl rfl) (.inl rfl) (.inl rfl) (.inl rfl) (.inl rfl) (.inl rfl) (.inl rfl) (.inl rfl)

theorem Within.set_halyard (k : Within F C s x) {vhalyard : HalyardState} (hhalyard : C.testBit 17 = true) :
    Within F C s { x with halyard := vhalyard } :=
  k.mk' rfl rfl (.inl rfl) (.inl rfl) (.inl rfl) (.inl rfl) (.inl rfl) (.inl rfl) (.inl rfl) (.inl rfl) (.inl rfl) (.inl rfl) (.inl rfl) (.inl rfl) (.inl rfl) (.inl rfl) (.inl rfl) (.inl rfl) (.inl rfl) (.inr hhalyard) (.inl rfl) (.inl rfl) (.inl rfl) (.inl rfl) (.inl rfl) (.inl rfl) (.inl rfl)

theorem Within.set_inputs (k : Within F C s x) {vinputs : InputState} (hinputs : C.testBit 18 = true) :
    Within F C s { x with inputs := vinputs } :=
  k.mk' rfl rfl (.inl rfl) (.inl rfl) (.inl rfl) (.inl rfl) (.inl rfl) (.inl rfl) (.inl rfl) (.inl rfl) (.inl rfl) (.inl rfl) (.inl rfl) (.inl rfl) (.inl rfl) (.inl rfl) (.inl rfl) (.inl rfl) (.inl rfl) (.inl rfl) (.inr hinputs) (.inl rfl) (.inl rfl) (.inl rfl) (.inl rfl) (.inl rfl) (.inl rfl)

theorem Within.set_lanes (k : Within F C s x) {vlanes : Store LaneState} (hlanes : C.testBit 7 = true) :
    Within F C s { x with lanes := vlanes } :=
  k.mk' rfl rfl (.inl rfl) (.inl rfl) (.inl rfl) (.inl rfl) (.inl rfl) (.inl rfl) (.inl rfl) (.inr hlanes) (.inl rfl) (.inl rfl) (.inl rfl) (.inl rfl) (.inl rfl) (.inl rfl) (.inl rfl) (.inl rfl) (.inl rfl) (.inl rfl) (.inl rfl) (.inl rfl) (.inl rfl) (.inl rfl) (.inl rfl) (.inl rfl) (.inl rfl)

theorem Within.set_live (k : Within F C s x) {vlive : LiveState} (hlive : C.testBit 3 = true) :
    Within F C s { x with live := vlive } :=
  k.mk' rfl rfl (.inl rfl) (.inl rfl) (.inl rfl) (.inr hlive) (.inl rfl) (.inl rfl) (.inl rfl) (.inl rfl) (.inl rfl) (.inl rfl) (.inl rfl) (.inl rfl) (.inl rfl) (.inl rfl) (.inl rfl) (.inl rfl) (.inl rfl) (.inl rfl) (.inl rfl) (.inl rfl) (.inl rfl) (.inl rfl) (.inl rfl) (.inl rfl) (.inl rfl)

theorem Within.set_live_sys_engines_inputs_net_storage (k : Within F C s x) {vlive : LiveState} {vsys : SystemSettings} {vengines : EngineState} {vinputs : InputState} {vnet : NetState} {vstorage : StorageState} (hlive : C.testBit 3 = true) (hsys : C.testBit 4 = true) (hengines : C.testBit 10 = true) (hinputs : C.testBit 18 = true) (hnet : C.testBit 19 = true) (hstorage : C.testBit 21 = true) :
    Within F C s { x with live := vlive, sys := vsys, engines := vengines, inputs := vinputs, net := vnet, storage := vstorage } :=
  k.mk' rfl rfl (.inl rfl) (.inl rfl) (.inl rfl) (.inr hlive) (.inr hsys) (.inl rfl) (.inl rfl) (.inl rfl) (.inl rfl) (.inl rfl) (.inr hengines) (.inl rfl) (.inl rfl) (.inl rfl) (.inl rfl) (.inl rfl) (.inl rfl) (.inl rfl) (.inr hinputs) (.inr hnet) (.inl rfl) (.inr hstorage) (.inl rfl) (.inl rfl) (.inl rfl)

theorem Within.set_metrology (k : Within F C s x) {vmetrology : MetrologyState} (hmetrology : C.testBit 20 = true) :
    Within F C s { x with metrology := vmetrology } :=
  k.mk' rfl rfl (.inl rfl) (.inl rfl) (.inl rfl) (.inl rfl) (.inl rfl) (.inl rfl) (.inl rfl) (.inl rfl) (.inl rfl) (.inl rfl) (.inl rfl) (.inl rfl) (.inl rfl) (.inl rfl) (.inl rfl) (.inl rfl) (.inl rfl) (.inl rfl) (.inl rfl) (.inl rfl) (.inr hmetrology) (.inl rfl) (.inl rfl) (.inl rfl) (.inl rfl)

theorem Within.set_modes (k : Within F C s x) {vmodes : ModeState} (hmodes : C.testBit 5 = true) :
    Within F C s { x with modes := vmodes } :=
  k.mk' rfl rfl (.inl rfl) (.inl rfl) (.inl rfl) (.inl rfl) (.inl rfl) (.inr hmodes) (.inl rfl) (.inl rfl) (.inl rfl) (.inl rfl) (.inl rfl) (.inl rfl) (.inl rfl) (.inl rfl) (.inl rfl) (.inl rfl) (.inl rfl) (.inl rfl) (.inl rfl) (.inl rfl) (.inl rfl) (.inl rfl) (.inl rfl) (.inl rfl) (.inl rfl)

theorem Within.set_modes_halyard (k : Within F C s x) {vmodes : ModeState} {vhalyard : HalyardState} (hmodes : C.testBit 5 = true) (hhalyard : C.testBit 17 = true) :
    Within F C s { x with modes := vmodes, halyard := vhalyard } :=
  k.mk' rfl rfl (.inl rfl) (.inl rfl) (.inl rfl) (.inl rfl) (.inl rfl) (.inr hmodes) (.inl rfl) (.inl rfl) (.inl rfl) (.inl rfl) (.inl rfl) (.inl rfl) (.inl rfl) (.inl rfl) (.inl rfl) (.inl rfl) (.inl rfl) (.inr hhalyard) (.inl rfl) (.inl rfl) (.inl rfl) (.inl rfl) (.inl rfl) (.inl rfl) (.inl rfl)

theorem Within.set_modes_metrology (k : Within F C s x) {vmodes : ModeState} {vmetrology : MetrologyState} (hmodes : C.testBit 5 = true) (hmetrology : C.testBit 20 = true) :
    Within F C s { x with modes := vmodes, metrology := vmetrology } :=
  k.mk' rfl rfl (.inl rfl) (.inl rfl) (.inl rfl) (.inl rfl) (.inl rfl) (.inr hmodes) (.inl rfl) (.inl rfl) (.inl rfl) (.inl rfl) (.inl rfl) (.inl rfl) (.inl rfl) (.inl rfl) (.inl rfl) (.inl rfl) (.inl rfl) (.inl rfl) (.inl rfl) (.inl rfl) (.inr hmetrology) (.inl rfl) (.inl rfl) (.inl rfl) (.inl rfl)

theorem Within.set_modes_slices (k : Within F C s x) {vmodes : ModeState} {vslices : SliceTestState} (hmodes : C.testBit 5 = true) (hslices : C.testBit 22 = true) :
    Within F C s { x with modes := vmodes, slices := vslices } :=
  k.mk' rfl rfl (.inl rfl) (.inl rfl) (.inl rfl) (.inl rfl) (.inl rfl) (.inr hmodes) (.inl rfl) (.inl rfl) (.inl rfl) (.inl rfl) (.inl rfl) (.inl rfl) (.inl rfl) (.inl rfl) (.inl rfl) (.inl rfl) (.inl rfl) (.inl rfl) (.inl rfl) (.inl rfl) (.inl rfl) (.inl rfl) (.inr hslices) (.inl rfl) (.inl rfl)

theorem Within.set_modes_slices_security (k : Within F C s x) {vmodes : ModeState} {vslices : SliceTestState} {vsecurity : SecurityState}
    (hmodes : C.testBit 5 = true) (hslices : C.testBit 22 = true) (hsecurity : C.testBit 23 = true) :
    Within F C s { x with modes := vmodes, slices := vslices, security := vsecurity } :=
  k.mk' rfl rfl (.inl rfl) (.inl rfl) (.inl rfl) (.inl rfl) (.inl rfl) (.inr hmodes) (.inl rfl) (.inl rfl) (.inl rfl) (.inl rfl) (.inl rfl) (.inl rfl) (.inl rfl) (.inl rfl) (.inl rfl) (.inl rfl) (.inl rfl) (.inl rfl) (.inl rfl) (.inl rfl) (.inl rfl) (.inl rfl) (.inr hslices) (.inr hsecurity) (.inl rfl)

theorem Within.set_modes_spr (k : Within F C s x) {vmodes : ModeState} {vspr : SprState} (hmodes : C.testBit 5 = true) (hspr : C.testBit 12 = true) :
    Within F C s { x with modes := vmodes, spr := vspr } :=
  k.mk' rfl rfl (.inl rfl) (.inl rfl) (.inl rfl) (.inl rfl) (.inl rfl) (.inr hmodes) (.inl rfl) (.inl rfl) (.inl rfl) (.inl rfl) (.inl rfl) (.inl rfl) (.inr hspr) (.inl rfl) (.inl rfl) (.inl rfl) (.inl rfl) (.inl rfl) (.inl rfl) (.inl rfl) (.inl rfl) (.inl rfl) (.inl rfl) (.inl rfl) (.inl rfl)

theorem Within.set_net (k : Within F C s x) {vnet : NetState} (hnet : C.testBit 19 = true) :
    Within F C s { x with net := vnet } :=
  k.mk' rfl rfl (.inl rfl) (.inl rfl) (.inl rfl) (.inl rfl) (.inl rfl) (.inl rfl) (.inl rfl) (.inl rfl) (.inl rfl) (.inl rfl) (.inl rfl) (.inl rfl) (.inl rfl) (.inl rfl) (.inl rfl) (.inl rfl) (.inl rfl) (.inl rfl) (.inl rfl) (.inr hnet) (.inl rfl) (.inl rfl) (.inl rfl) (.inl rfl) (.inl rfl)

theorem Within.set_pll (k : Within F C s x) {vpll : PllState} (hpll : C.testBit 6 = true) :
    Within F C s { x with pll := vpll } :=
  k.mk' rfl rfl (.inl rfl) (.inl rfl) (.inl rfl) (.inl rfl) (.inl rfl) (.inl rfl) (.inr hpll) (.inl rfl) (.inl rfl) (.inl rfl) (.inl rfl) (.inl rfl) (.inl rfl) (.inl rfl) (.inl rfl) (.inl rfl) (.inl rfl) (.inl rfl) (.inl rfl) (.inl rfl) (.inl rfl) (.inl rfl) (.inl rfl) (.inl rfl) (.inl rfl)

theorem Within.set_power (k : Within F C s x) {vpower : PowerState} (hpower : C.testBit 15 = true) :
    Within F C s { x with power := vpower } :=
  k.mk' rfl rfl (.inl rfl) (.inl rfl) (.inl rfl) (.inl rfl) (.inl rfl) (.inl rfl) (.inl rfl) (.inl rfl) (.inl rfl) (.inl rfl) (.inl rfl) (.inl rfl) (.inl rfl) (.inl rfl) (.inl rfl) (.inr hpower) (.inl rfl) (.inl rfl) (.inl rfl) (.inl rfl) (.inl rfl) (.inl rfl) (.inl rfl) (.inl rfl) (.inl rfl)

theorem Within.set_security (k : Within F C s x) {vsecurity : SecurityState} (hsecurity : C.testBit 23 = true) :
    Within F C s { x with security := vsecurity } :=
  k.mk' rfl rfl (.inl rfl) (.inl rfl) (.inl rfl) (.inl rfl) (.inl rfl) (.inl rfl) (.inl rfl) (.inl rfl) (.inl rfl) (.inl rfl) (.inl rfl) (.inl rfl) (.inl rfl) (.inl rfl) (.inl rfl) (.inl rfl) (.inl rfl) (.inl rfl) (.inl rfl) (.inl rfl) (.inl rfl) (.inl rfl) (.inl rfl) (.inr hsecurity) (.inl rfl)

theorem Within.set_slices (k : Within F C s x) {vslices : SliceTestState} (hslices : C.testBit 22 = true) :
    Within F C s { x with slices := vslices } :=
  k.mk' rfl rfl (.inl rfl) (.inl rfl) (.inl rfl) (.inl rfl) (.inl rfl) (.inl rfl) (.inl rfl) (.inl rfl) (.inl rfl) (.inl rfl) (.inl rfl) (.inl rfl) (.inl rfl) (.inl rfl) (.inl rfl) (.inl rfl) (.inl rfl) (.inl rfl) (.inl rfl) (.inl rfl) (.inl rfl) (.inl rfl) (.inr hslices) (.inl rfl) (.inl rfl)

theorem Within.set_spr (k : Within F C s x) {vspr : SprState} (hspr : C.testBit 12 = true) :
    Within F C s { x with spr := vspr } :=
  k.mk' rfl rfl (.inl rfl) (.inl rfl) (.inl rfl) (.inl rfl) (.inl rfl) (.inl rfl) (.inl rfl) (.inl rfl) (.inl rfl) (.inl rfl) (.inl rfl) (.inl rfl) (.inr hspr) (.inl rfl) (.inl rfl) (.inl rfl) (.inl rfl) (.inl rfl) (.inl rfl) (.inl rfl) (.inl rfl) (.inl rfl) (.inl rfl) (.inl rfl) (.inl rfl)

theorem Within.set_sram (k : Within F C s x) {vsram : SramState} (hm : vsram.cells = x.sram.cells)  (hsram : C.testBit 0 = true) :
    Within F C s { x with sram := vsram } :=
  k.mk' rfl hm (.inr hsram) (.inl rfl) (.inl rfl) (.inl rfl) (.inl rfl) (.inl rfl) (.inl rfl) (.inl rfl) (.inl rfl) (.inl rfl) (.inl rfl) (.inl rfl) (.inl rfl) (.inl rfl) (.inl rfl) (.inl rfl) (.inl rfl) (.inl rfl) (.inl rfl) (.inl rfl) (.inl rfl) (.inl rfl) (.inl rfl) (.inl rfl) (.inl rfl)

theorem Within.set_storage (k : Within F C s x) {vstorage : StorageState} (hstorage : C.testBit 21 = true) :
    Within F C s { x with storage := vstorage } :=
  k.mk' rfl rfl (.inl rfl) (.inl rfl) (.inl rfl) (.inl rfl) (.inl rfl) (.inl rfl) (.inl rfl) (.inl rfl) (.inl rfl) (.inl rfl) (.inl rfl) (.inl rfl) (.inl rfl) (.inl rfl) (.inl rfl) (.inl rfl) (.inl rfl) (.inl rfl) (.inl rfl) (.inl rfl) (.inl rfl) (.inr hstorage) (.inl rfl) (.inl rfl) (.inl rfl)

theorem Within.set_sys (k : Within F C s x) {vsys : SystemSettings} (hsys : C.testBit 4 = true) :
    Within F C s { x with sys := vsys } :=
  k.mk' rfl rfl (.inl rfl) (.inl rfl) (.inl rfl) (.inl rfl) (.inr hsys) (.inl rfl) (.inl rfl) (.inl rfl) (.inl rfl) (.inl rfl) (.inl rfl) (.inl rfl) (.inl rfl) (.inl rfl) (.inl rfl) (.inl rfl) (.inl rfl) (.inl rfl) (.inl rfl) (.inl rfl) (.inl rfl) (.inl rfl) (.inl rfl) (.inl rfl) (.inl rfl)

theorem Within.set_thermal (k : Within F C s x) {vthermal : ThermalState} (hthermal : C.testBit 13 = true) :
    Within F C s { x with thermal := vthermal } :=
  k.mk' rfl rfl (.inl rfl) (.inl rfl) (.inl rfl) (.inl rfl) (.inl rfl) (.inl rfl) (.inl rfl) (.inl rfl) (.inl rfl) (.inl rfl) (.inl rfl) (.inl rfl) (.inl rfl) (.inr hthermal) (.inl rfl) (.inl rfl) (.inl rfl) (.inl rfl) (.inl rfl) (.inl rfl) (.inl rfl) (.inl rfl) (.inl rfl) (.inl rfl) (.inl rfl)

theorem Within.set_triggers (k : Within F C s x) {vtriggers : List RecordCause} (htriggers : C.testBit 16 = true) :
    Within F C s { x with triggers := vtriggers } :=
  k.mk' rfl rfl (.inl rfl) (.inl rfl) (.inl rfl) (.inl rfl) (.inl rfl) (.inl rfl) (.inl rfl) (.inl rfl) (.inl rfl) (.inl rfl) (.inl rfl) (.inl rfl) (.inl rfl) (.inl rfl) (.inl rfl) (.inl rfl) (.inr htriggers) (.inl rfl) (.inl rfl) (.inl rfl) (.inl rfl) (.inl rfl) (.inl rfl) (.inl rfl) (.inl rfl)

/-- Every state that an optional answer gives. -/
def WithinOpt (F C : Nat) (s : Chip) (o : Option Chip) : Prop := ∀ t, o = some t → Within F C s t

theorem WithinOpt.none : WithinOpt F C s .none := fun _ h => nomatch h

theorem WithinOpt.some (h : Within F C s x) : WithinOpt F C s (.some x) := fun _ e => Option.some.inj e ▸ h

theorem WithinOpt.cut (h : Within F C s x) {o : Option Chip} (k : Within F C s x → WithinOpt F C s o) : WithinOpt F C s o := k h

theorem WithinOpt.bind {α : Type} {a : Option α} {g : α → Option Chip} (h : ∀ b, WithinOpt F C s (g b)) :
    WithinOpt F C s (a.bind g) := by
  cases a with
  | none => exact .none
  | some b => exact h b

theorem WithinOpt.bindChip {a : Option Chip} {g : Chip → Option Chip} (h : WithinOpt F C s a)
    (k : ∀ u, Within F C s u → WithinOpt F C s (g u)) : WithinOpt F C s (a.bind g) := by
  cases a with
  | none => exact .none
  | some b => exact k b (h b rfl)

theorem WithinOpt.foldlM {α : Type} {g : Chip → α → Option Chip} (l : List α) (k : Within F C s x)
    (h : ∀ u a, Within F C s u → WithinOpt F C s (g u a)) : WithinOpt F C s (l.foldlM (m := Option) g x) := by
  induction l generalizing x with
  | nil => exact .some k
  | cons a l ih =>
    rw [List.foldlM_cons]
    exact .bindChip (h x a k) fun u hu => ih hu

theorem WithinOpt.step {o : Option Chip} (h : WithinOpt m c x o) (k : Within F C s x) (hF : Nat.land m F = m)
    (hC : Nat.land c C = c) : WithinOpt F C s o := fun t e => .step (h t e) k hF hC

/-- A command answers a next state, with the queue as it stands, within its frame. -/
def OutcomeWithin (F C : Nat) (s : State) (o : Host.Outcome State Fault Refusal) : Prop :=
  ∃ u, o = .next { s with chip := u } ∧ Within F C s.chip u

theorem State.does_within {s : State} {f : Chip → Chip} (h : ∀ c, Within F C c (f c)) : OutcomeWithin F C s (s.does f) :=
  ⟨_, rfl, h _⟩

end Sys2Proof.Machine
end

