-- ==== Sys2Proof/Laws/Changes.lean ====
section
/-! SUPPORT. From a frame as sets of numbers (`OutcomeWithin`) to a frame as lists of fields and parts (`Changes`). -/

namespace Sys2Proof.Machine

/-- The set of the fields of a list, as `Within` numbers it. -/
def fieldSet (l : List Fld) : Nat := l.foldr (fun f m => m ||| 2 ^ f.ctorIdx) 0

/-- The set of the parts of a list, as `Within` numbers it. -/
def partSet (l : List Part) : Nat := l.foldr (fun p m => m ||| 2 ^ p.ctorIdx) 0

theorem Part.ctorIdx_inj {p q : Part} (h : p.ctorIdx = q.ctorIdx) : p = q := by
  cases p <;> cases q <;> first | rfl | exact absurd h (by decide)

theorem fieldSet_not_mem {l : List Fld} {f : Fld} (h : f ∉ l) : (fieldSet l).testBit f.ctorIdx = false := by
  induction l with
  | nil => exact Nat.zero_testBit _
  | cons g l ih =>
    rw [List.mem_cons, not_or] at h
    show (fieldSet l ||| 2 ^ g.ctorIdx).testBit f.ctorIdx = false
    rw [Nat.testBit_or, ih h.2, Nat.testBit_two_pow_of_ne fun e => h.1 (Fld.ctorIdx_inj e.symm), Bool.or_false]

theorem partSet_not_mem {l : List Part} {p : Part} (h : p ∉ l) : (partSet l).testBit p.ctorIdx = false := by
  induction l with
  | nil => exact Nat.zero_testBit _
  | cons q l ih =>
    rw [List.mem_cons, not_or] at h
    show (partSet l ||| 2 ^ q.ctorIdx).testBit p.ctorIdx = false
    rw [Nat.testBit_or, ih h.2, Nat.testBit_two_pow_of_ne fun e => h.1 (Part.ctorIdx_inj e.symm), Bool.or_false]

/-- A frame by numbers is a frame by lists, where the lists hold all that the numbers hold. -/
theorem changes_of_within {F C : Nat} {c : Instr} {s : State} {fields : List Fld} {parts : List Part}
    (h : OutcomeWithin F C s (exec c s)) (hF : Nat.land F (fieldSet fields) = F) (hC : Nat.land C (partSet parts) = C) :
    Changes c s fields parts := by
  obtain ⟨u, e, w⟩ := h
  refine ⟨u, e, fun f hf i => w.rd f i (testBit_sub hF (fieldSet_not_mem hf)), fun p hp => ?_⟩
  have k := testBit_sub hC (partSet_not_mem hp)
  cases p
  · exact w.sram k
  · exact w.bus k
  · exact w.clock k
  · exact w.live k
  · exact w.sys k
  · exact w.modes k
  · exact w.pll k
  · exact w.lanes k
  · exact w.edges k
  · exact w.arms k
  · exact w.engines k
  · exact w.faults k
  · exact w.spr k
  · exact w.thermal k
  · exact w.converter k
  · exact w.power k
  · exact w.triggers k
  · exact w.halyard k
  · exact w.inputs k
  · exact w.net k
  · exact w.metrology k
  · exact w.storage k
  · exact w.slices k
  · exact w.security k
  · exact w.drawn k

end Sys2Proof.Machine
end

