-- ==== Sys2Proof/Laws/FrameOps.lean ====
section
/-! SUPPORT. The frames of the operations of Machine/Ops.lean: the fields and the parts of the state each may change. -/

set_option linter.tactic.unusedName false

namespace Sys2Proof.Machine

theorem Chip.draw_within (s : Chip) :
    Within 0 0x1000000 s (Chip.draw s).2 := by
  unfold Chip.draw
  repeat' first
    | (extract_lets +onlyGivenNames x; refine .cut (x := x) ?_ ?_; rotate_left; clear_value x; intro _; rotate_left; subst x)
    | (extract_lets +onlyGivenNames x; refine .cut (x := x.2) ?_ ?_; rotate_left; clear_value x; intro _; rotate_left; subst x)
    | (extract_lets +onlyGivenNames x; refine .cut (x := x.2.2) ?_ ?_; rotate_left; clear_value x; intro _; rotate_left; subst x)
    | (extract_lets +onlyGivenNames x; clear_value x)
    | extract_lets +onlyGivenNames _
    | with_reducible apply Within.refl
    | with_reducible assumption
    | decide
    | split
    | with_reducible apply Within.set_drawn

theorem Chip.freeByte_within (s : Chip) :
    Within 0 0x1000000 s (Chip.freeByte s).2 := by
  unfold Chip.freeByte
  repeat' first
    | (extract_lets +onlyGivenNames x; refine .cut (x := x) ?_ ?_; rotate_left; clear_value x; intro _; rotate_left; subst x)
    | (extract_lets +onlyGivenNames x; refine .cut (x := x.2) ?_ ?_; rotate_left; clear_value x; intro _; rotate_left; subst x)
    | (extract_lets +onlyGivenNames x; refine .cut (x := x.2.2) ?_ ?_; rotate_left; clear_value x; intro _; rotate_left; subst x)
    | (extract_lets +onlyGivenNames x; clear_value x)
    | extract_lets +onlyGivenNames _
    | with_reducible apply Within.refl
    | with_reducible assumption
    | decide
    | with_reducible apply Within.step (Chip.draw_within _)
    | split

theorem Chip.freeNat_within (s : Chip) :
    Within 0 0x1000000 s (Chip.freeNat s).2 := by
  unfold Chip.freeNat
  repeat' first
    | (extract_lets +onlyGivenNames x; refine .cut (x := x) ?_ ?_; rotate_left; clear_value x; intro _; rotate_left; subst x)
    | (extract_lets +onlyGivenNames x; refine .cut (x := x.2) ?_ ?_; rotate_left; clear_value x; intro _; rotate_left; subst x)
    | (extract_lets +onlyGivenNames x; refine .cut (x := x.2.2) ?_ ?_; rotate_left; clear_value x; intro _; rotate_left; subst x)
    | (extract_lets +onlyGivenNames x; clear_value x)
    | extract_lets +onlyGivenNames _
    | with_reducible apply Within.refl
    | with_reducible assumption
    | decide
    | with_reducible apply Within.step (Chip.draw_within _)
    | split

theorem Chip.atTime_within (s : Chip) (t : Nat) :
    Within 0 4 s (Chip.atTime s t) := by
  unfold Chip.atTime
  repeat' first
    | (extract_lets +onlyGivenNames x; refine .cut (x := x) ?_ ?_; rotate_left; clear_value x; intro _; rotate_left; subst x)
    | (extract_lets +onlyGivenNames x; refine .cut (x := x.2) ?_ ?_; rotate_left; clear_value x; intro _; rotate_left; subst x)
    | (extract_lets +onlyGivenNames x; refine .cut (x := x.2.2) ?_ ?_; rotate_left; clear_value x; intro _; rotate_left; subst x)
    | (extract_lets +onlyGivenNames x; clear_value x)
    | extract_lets +onlyGivenNames _
    | with_reducible apply Within.refl
    | with_reducible assumption
    | decide
    | split
    | with_reducible apply Within.set_clock

theorem Chip.raise_within (s : Chip) (o : Nat) :
    Within 0 0x800 s (Chip.raise s o) := by
  unfold Chip.raise
  repeat' first
    | (extract_lets +onlyGivenNames x; refine .cut (x := x) ?_ ?_; rotate_left; clear_value x; intro _; rotate_left; subst x)
    | (extract_lets +onlyGivenNames x; refine .cut (x := x.2) ?_ ?_; rotate_left; clear_value x; intro _; rotate_left; subst x)
    | (extract_lets +onlyGivenNames x; refine .cut (x := x.2.2) ?_ ?_; rotate_left; clear_value x; intro _; rotate_left; subst x)
    | (extract_lets +onlyGivenNames x; clear_value x)
    | extract_lets +onlyGivenNames _
    | with_reducible apply Within.refl
    | with_reducible assumption
    | decide
    | split
    | with_reducible apply Within.set_faults

theorem Chip.raiseRigging_within (s : Chip) (o : Nat) :
    Within 0 0x800 s (Chip.raiseRigging s o) := by
  unfold Chip.raiseRigging
  repeat' first
    | (extract_lets +onlyGivenNames x; refine .cut (x := x) ?_ ?_; rotate_left; clear_value x; intro _; rotate_left; subst x)
    | (extract_lets +onlyGivenNames x; refine .cut (x := x.2) ?_ ?_; rotate_left; clear_value x; intro _; rotate_left; subst x)
    | (extract_lets +onlyGivenNames x; refine .cut (x := x.2.2) ?_ ?_; rotate_left; clear_value x; intro _; rotate_left; subst x)
    | (extract_lets +onlyGivenNames x; clear_value x)
    | extract_lets +onlyGivenNames _
    | with_reducible apply Within.refl
    | with_reducible assumption
    | decide
    | with_reducible apply Within.step (Chip.raise_within _ _)
    | split
    | with_reducible apply Within.set_faults

theorem Chip.sramPutBytes_within (s : Chip) (a : Nat) (z2 : List Byte) :
    Within 0 1 s (Chip.sramPutBytes s a z2) := by
  induction z2 generalizing s a with
  | nil => exact .refl
  | cons _ _ ih =>
    unfold Chip.sramPutBytes
    repeat' first
      | (extract_lets +onlyGivenNames x; refine .cut (x := x) ?_ ?_; rotate_left; clear_value x; intro _; rotate_left; subst x)
      | (extract_lets +onlyGivenNames x; refine .cut (x := x.2) ?_ ?_; rotate_left; clear_value x; intro _; rotate_left; subst x)
      | (extract_lets +onlyGivenNames x; refine .cut (x := x.2.2) ?_ ?_; rotate_left; clear_value x; intro _; rotate_left; subst x)
      | (extract_lets +onlyGivenNames x; clear_value x)
      | extract_lets +onlyGivenNames _
      | with_reducible apply Within.step (ih _ _)
      | with_reducible apply Within.refl
      | with_reducible assumption
      | decide
      | with_reducible apply Within.sramPutByte
      | split

theorem Chip.sramHeal_within (s : Chip) (word : Nat) :
    Within 0 1 s (Chip.sramHeal s word) := .set_sram .refl rfl (by decide)

theorem Chip.sramUncorrectable_within (s : Chip) (word : Nat) :
    Within 0x30000 0x800 s (Chip.sramUncorrectable s word) := by
  unfold Chip.sramUncorrectable
  repeat' first
    | (extract_lets +onlyGivenNames x; refine .cut (x := x) ?_ ?_; rotate_left; clear_value x; intro _; rotate_left; subst x)
    | (extract_lets +onlyGivenNames x; refine .cut (x := x.2) ?_ ?_; rotate_left; clear_value x; intro _; rotate_left; subst x)
    | (extract_lets +onlyGivenNames x; refine .cut (x := x.2.2) ?_ ?_; rotate_left; clear_value x; intro _; rotate_left; subst x)
    | (extract_lets +onlyGivenNames x; clear_value x)
    | extract_lets +onlyGivenNames _
    | with_reducible apply Within.refl
    | with_reducible assumption
    | decide
    | with_reducible apply Within.step (Chip.raise_within _ _)
    | with_reducible apply Within.wr
    | split

theorem Chip.sramAccess_within (s : Chip) (word : Nat) :
    Within 0x38000 0x1000800 s (Chip.sramAccess s word) := by
  unfold Chip.sramAccess
  repeat' first
    | (extract_lets +onlyGivenNames x; refine .cut (x := x) ?_ ?_; rotate_left; clear_value x; intro _; rotate_left; subst x)
    | (extract_lets +onlyGivenNames x; refine .cut (x := x.2) ?_ ?_; rotate_left; clear_value x; intro _; rotate_left; subst x)
    | (extract_lets +onlyGivenNames x; refine .cut (x := x.2.2) ?_ ?_; rotate_left; clear_value x; intro _; rotate_left; subst x)
    | (extract_lets +onlyGivenNames x; clear_value x)
    | extract_lets +onlyGivenNames _
    | with_reducible apply Within.refl
    | with_reducible assumption
    | decide
    | with_reducible apply Within.step (Chip.draw_within _)
    | with_reducible apply Within.step (Chip.freeNat_within _)
    | with_reducible apply Within.step (Chip.sramUncorrectable_within _ _)
    | with_reducible apply Within.count
    | (with_reducible apply Within.onlyIf; rotate_left; intro _ _)
    | split

theorem Chip.sramTouch_within (s : Chip) (addrs : List Nat) :
    Within 0x38000 0x1000800 s (Chip.sramTouch s addrs) := by
  unfold Chip.sramTouch
  repeat' first
    | (extract_lets +onlyGivenNames x; refine .cut (x := x) ?_ ?_; rotate_left; clear_value x; intro _; rotate_left; subst x)
    | (extract_lets +onlyGivenNames x; refine .cut (x := x.2) ?_ ?_; rotate_left; clear_value x; intro _; rotate_left; subst x)
    | (extract_lets +onlyGivenNames x; refine .cut (x := x.2.2) ?_ ?_; rotate_left; clear_value x; intro _; rotate_left; subst x)
    | (extract_lets +onlyGivenNames x; clear_value x)
    | extract_lets +onlyGivenNames _
    | with_reducible apply Within.refl
    | with_reducible assumption
    | decide
    | with_reducible apply Within.step (Chip.sramAccess_within _ _)
    | (with_reducible apply Within.each; rotate_left; intro _ _ _)
    | split

theorem Chip.sramMerge_within (s : Chip) (a : Nat) (bs : List Byte) :
    Within 0x38000 0x1000801 s (Chip.sramMerge s a bs) := by
  unfold Chip.sramMerge
  repeat' first
    | (extract_lets +onlyGivenNames x; refine .cut (x := x) ?_ ?_; rotate_left; clear_value x; intro _; rotate_left; subst x)
    | (extract_lets +onlyGivenNames x; refine .cut (x := x.2) ?_ ?_; rotate_left; clear_value x; intro _; rotate_left; subst x)
    | (extract_lets +onlyGivenNames x; refine .cut (x := x.2.2) ?_ ?_; rotate_left; clear_value x; intro _; rotate_left; subst x)
    | (extract_lets +onlyGivenNames x; clear_value x)
    | extract_lets +onlyGivenNames _
    | with_reducible apply Within.refl
    | with_reducible assumption
    | decide
    | with_reducible apply Within.step (Chip.sramAccess_within _ _)
    | with_reducible apply Within.step (Chip.sramHeal_within _ _)
    | with_reducible apply Within.step (Chip.sramPutBytes_within _ _ _)
    | split

theorem Chip.sramFill_within (s : Chip) (a : Nat) (bs : List Byte) :
    Within 0x38000 0x1000801 s (Chip.sramFill s a bs) := by
  unfold Chip.sramFill
  extract_lets +onlyGivenNames n _ x
  have k : Within 0x38000 0x1000801 s x := by
    unfold x
    refine .step (Chip.sramPutBytes_within _ _ _) ?_ (by decide) (by decide)
    exact .set_sram .refl rfl (by decide)
  clear_value x
  split
  · exact .step (Chip.sramMerge_within _ _ _) k (by decide) (by decide)
  · exact k

theorem Chip.sramPutWord_within (s : Chip) (a : Nat) (v : Nat) :
    Within 0x38000 0x1000801 s (Chip.sramPutWord s a v) := by
  unfold Chip.sramPutWord
  repeat' first
    | (extract_lets +onlyGivenNames x; refine .cut (x := x) ?_ ?_; rotate_left; clear_value x; intro _; rotate_left; subst x)
    | (extract_lets +onlyGivenNames x; refine .cut (x := x.2) ?_ ?_; rotate_left; clear_value x; intro _; rotate_left; subst x)
    | (extract_lets +onlyGivenNames x; refine .cut (x := x.2.2) ?_ ?_; rotate_left; clear_value x; intro _; rotate_left; subst x)
    | (extract_lets +onlyGivenNames x; clear_value x)
    | extract_lets +onlyGivenNames _
    | with_reducible apply Within.refl
    | with_reducible assumption
    | decide
    | with_reducible apply Within.step (Chip.sramMerge_within _ _ _)
    | split

theorem Chip.sramPutHalf_within (s : Chip) (a : Nat) (v : Nat) :
    Within 0x38000 0x1000801 s (Chip.sramPutHalf s a v) := by
  unfold Chip.sramPutHalf
  repeat' first
    | (extract_lets +onlyGivenNames x; refine .cut (x := x) ?_ ?_; rotate_left; clear_value x; intro _; rotate_left; subst x)
    | (extract_lets +onlyGivenNames x; refine .cut (x := x.2) ?_ ?_; rotate_left; clear_value x; intro _; rotate_left; subst x)
    | (extract_lets +onlyGivenNames x; refine .cut (x := x.2.2) ?_ ?_; rotate_left; clear_value x; intro _; rotate_left; subst x)
    | (extract_lets +onlyGivenNames x; clear_value x)
    | extract_lets +onlyGivenNames _
    | with_reducible apply Within.refl
    | with_reducible assumption
    | decide
    | with_reducible apply Within.step (Chip.sramMerge_within _ _ _)
    | split

theorem Chip.takeReady_within (s : Chip) :
    Within 0 0x20 s (Chip.takeReady s) := by
  unfold Chip.takeReady
  repeat' first
    | (extract_lets +onlyGivenNames x; refine .cut (x := x) ?_ ?_; rotate_left; clear_value x; intro _; rotate_left; subst x)
    | (extract_lets +onlyGivenNames x; refine .cut (x := x.2) ?_ ?_; rotate_left; clear_value x; intro _; rotate_left; subst x)
    | (extract_lets +onlyGivenNames x; refine .cut (x := x.2.2) ?_ ?_; rotate_left; clear_value x; intro _; rotate_left; subst x)
    | (extract_lets +onlyGivenNames x; clear_value x)
    | extract_lets +onlyGivenNames _
    | with_reducible apply Within.refl
    | with_reducible assumption
    | decide
    | split
    | with_reducible apply Within.set_modes

theorem Chip.unusable_within (s : Chip) (unit : Nat) :
    Within 0 0x20 s (Chip.unusable s unit) := by
  unfold Chip.unusable
  repeat' first
    | (extract_lets +onlyGivenNames x; refine .cut (x := x) ?_ ?_; rotate_left; clear_value x; intro _; rotate_left; subst x)
    | (extract_lets +onlyGivenNames x; refine .cut (x := x.2) ?_ ?_; rotate_left; clear_value x; intro _; rotate_left; subst x)
    | (extract_lets +onlyGivenNames x; refine .cut (x := x.2.2) ?_ ?_; rotate_left; clear_value x; intro _; rotate_left; subst x)
    | (extract_lets +onlyGivenNames x; clear_value x)
    | extract_lets +onlyGivenNames _
    | with_reducible apply Within.refl
    | with_reducible assumption
    | decide
    | split
    | with_reducible apply Within.set_modes

theorem Chip.enginesUnusable_within (s : Chip) :
    Within 0 0x20 s (Chip.enginesUnusable s) := by
  unfold Chip.enginesUnusable
  repeat' first
    | (extract_lets +onlyGivenNames x; refine .cut (x := x) ?_ ?_; rotate_left; clear_value x; intro _; rotate_left; subst x)
    | (extract_lets +onlyGivenNames x; refine .cut (x := x.2) ?_ ?_; rotate_left; clear_value x; intro _; rotate_left; subst x)
    | (extract_lets +onlyGivenNames x; refine .cut (x := x.2.2) ?_ ?_; rotate_left; clear_value x; intro _; rotate_left; subst x)
    | (extract_lets +onlyGivenNames x; clear_value x)
    | extract_lets +onlyGivenNames _
    | with_reducible apply Within.refl
    | with_reducible assumption
    | decide
    | split
    | with_reducible apply Within.set_modes

theorem Chip.setLane_within (s : Chip) (n : Nat) (l : LaneState) :
    Within 0 0x80 s (Chip.setLane s n l) := by
  unfold Chip.setLane
  repeat' first
    | (extract_lets +onlyGivenNames x; refine .cut (x := x) ?_ ?_; rotate_left; clear_value x; intro _; rotate_left; subst x)
    | (extract_lets +onlyGivenNames x; refine .cut (x := x.2) ?_ ?_; rotate_left; clear_value x; intro _; rotate_left; subst x)
    | (extract_lets +onlyGivenNames x; refine .cut (x := x.2.2) ?_ ?_; rotate_left; clear_value x; intro _; rotate_left; subst x)
    | (extract_lets +onlyGivenNames x; clear_value x)
    | extract_lets +onlyGivenNames _
    | with_reducible apply Within.refl
    | with_reducible assumption
    | decide
    | split
    | with_reducible apply Within.set_lanes

theorem Chip.setLeg_within (s : Chip) (n : Nat) (l : Leg) :
    Within 0 0x100 s (Chip.setLeg s n l) := by
  unfold Chip.setLeg
  repeat' first
    | (extract_lets +onlyGivenNames x; refine .cut (x := x) ?_ ?_; rotate_left; clear_value x; intro _; rotate_left; subst x)
    | (extract_lets +onlyGivenNames x; refine .cut (x := x.2) ?_ ?_; rotate_left; clear_value x; intro _; rotate_left; subst x)
    | (extract_lets +onlyGivenNames x; refine .cut (x := x.2.2) ?_ ?_; rotate_left; clear_value x; intro _; rotate_left; subst x)
    | (extract_lets +onlyGivenNames x; clear_value x)
    | extract_lets +onlyGivenNames _
    | with_reducible apply Within.refl
    | with_reducible assumption
    | decide
    | split
    | with_reducible apply Within.set_edges

theorem Chip.setCell_within (s : Chip) (n : Nat) (c : CellState) :
    Within 0 0x200 s (Chip.setCell s n c) := by
  unfold Chip.setCell
  repeat' first
    | (extract_lets +onlyGivenNames x; refine .cut (x := x) ?_ ?_; rotate_left; clear_value x; intro _; rotate_left; subst x)
    | (extract_lets +onlyGivenNames x; refine .cut (x := x.2) ?_ ?_; rotate_left; clear_value x; intro _; rotate_left; subst x)
    | (extract_lets +onlyGivenNames x; refine .cut (x := x.2.2) ?_ ?_; rotate_left; clear_value x; intro _; rotate_left; subst x)
    | (extract_lets +onlyGivenNames x; clear_value x)
    | extract_lets +onlyGivenNames _
    | with_reducible apply Within.refl
    | with_reducible assumption
    | decide
    | split
    | with_reducible apply Within.set_arms

theorem Chip.setArm_within (s : Chip) (a : Nat) (r : ArmState) :
    Within 0 0x200 s (Chip.setArm s a r) := by
  unfold Chip.setArm
  repeat' first
    | (extract_lets +onlyGivenNames x; refine .cut (x := x) ?_ ?_; rotate_left; clear_value x; intro _; rotate_left; subst x)
    | (extract_lets +onlyGivenNames x; refine .cut (x := x.2) ?_ ?_; rotate_left; clear_value x; intro _; rotate_left; subst x)
    | (extract_lets +onlyGivenNames x; refine .cut (x := x.2.2) ?_ ?_; rotate_left; clear_value x; intro _; rotate_left; subst x)
    | (extract_lets +onlyGivenNames x; clear_value x)
    | extract_lets +onlyGivenNames _
    | with_reducible apply Within.refl
    | with_reducible assumption
    | decide
    | split
    | with_reducible apply Within.set_arms

end Sys2Proof.Machine
end

