-- ==== Sys2Proof/Laws/FrameAddress.lean ====
section
/-! SUPPORT. The frames of the operations of Machine/Address.lean: whole registers set, returned to their cold values, or taken
over from another state. -/

set_option linter.tactic.unusedName false

namespace Sys2Proof.Machine

variable {F C : Nat} {s x : Chip}

theorem Chip.setFields_within (k : Within F C s x) (r : Reg) (i v : Nat)
    (h : (r.spec.fields.all fun f => F.testBit f.ctorIdx) = true) : Within F C s (x.setFields r i v) := by
  unfold Chip.setFields Chip.each
  rw [List.all_eq_true] at h
  have h : ∀ f ∈ r.spec.fields.filter fun f => !f.reports, F.testBit f.ctorIdx = true := fun f hf => h f (List.mem_filter.mp hf).1
  generalize r.spec.fields.filter (fun f => !f.reports) = l at h
  induction l generalizing x with
  | nil => exact k
  | cons f l ih => exact ih (k.wr f _ i (h f (by simp))) fun g hg => h g (by simp [hg])

/-- The fields of some registers. -/
def fieldsOf (rs : List Reg) : List Fld := rs.flatMap fun r => r.spec.fields

theorem key_mem_fields {fs : List Fld} {f : Fld} (i : Nat)
    (h : (fs.map fun f => f.key 0).contains (f.key i % 1024) = true) : f ∈ fs := by
  rw [Fld.key_mod] at h
  obtain ⟨g, hg, e⟩ := List.mem_map.mp (List.contains_iff_mem.mp h)
  have : g.ctorIdx = f.ctorIdx := by simpa [Fld.key] using e
  exact Fld.ctorIdx_inj this ▸ hg

theorem storeGet_filter {ν : Type} (st : Store ν) (p : Nat × ν → Bool) (k : Nat) (d : ν) (h : ∀ v, p (k, v) = true) :
    storeGet (st.filter p) k d = storeGet st k d := by
  induction st with
  | nil => rfl
  | cons q st ih =>
    obtain ⟨k', v⟩ := q
    rw [List.filter_cons]
    split
    · simp only [storeGet_cons, ih]
    · next hp =>
      rw [ih, storeGet_cons]
      split
      · next e =>
        cases e
        exact absurd (h v) hp
      · rfl

theorem Chip.coldFields_within (k : Within F C s x) (rs : List Reg)
    (h : ((fieldsOf rs).all fun f => F.testBit f.ctorIdx) = true) : Within F C s (x.coldFields rs) := by
  rw [List.all_eq_true] at h
  have hk := k
  constructor
  case rd =>
    intro f i hf
    rw [← k.rd f i hf]
    refine storeGet_filter _ _ _ _ fun v => ?_
    cases hc : (((fieldsOf rs).filter fun f => !f.reports).map fun f => f.key 0).contains (f.key i % 1024) with
    | false => simpa [fieldsOf] using hc
    | true =>
      have := h f (List.mem_filter.mp (key_mem_fields i hc)).1
      rw [this] at hf
      cases hf
  case regs => exact fun w => storeCanon_filter (k.regs w) _
  case cells => exact k.cells
  all_goals intro b; simp only [Chip.coldFields]
  · exact k.sram b
  · exact k.bus b
  · exact k.clock b
  · exact k.live b
  · exact k.sys b
  · exact k.modes b
  · exact k.pll b
  · exact k.lanes b
  · exact k.edges b
  · exact k.arms b
  · exact k.engines b
  · exact k.faults b
  · exact k.spr b
  · exact k.thermal b
  · exact k.converter b
  · exact k.power b
  · exact k.triggers b
  · exact k.halyard b
  · exact k.inputs b
  · exact k.net b
  · exact k.metrology b
  · exact k.storage b
  · exact k.slices b
  · exact k.security b
  · exact k.drawn b

theorem Chip.coldFieldsAt_within (k : Within F C s x) (r : Reg) (i : Nat)
    (h : (r.spec.fields.all fun f => F.testBit f.ctorIdx) = true) : Within F C s (x.coldFieldsAt r i) := by
  unfold Chip.coldFieldsAt Chip.each
  rw [List.all_eq_true] at h
  generalize r.spec.fields = l at h
  induction l generalizing x with
  | nil => exact k
  | cons f l ih => exact ih (k.wr f _ i (h f (by simp))) fun g hg => h g (by simp [hg])

/-- One entry of the register store put in, of a field that may change. -/
theorem Within.insert (k : Within F C s x) (f : Fld) (i v : Nat) (hf : F.testBit f.ctorIdx = true)
    (hv : registerEntryOk (f.key i) v = true ∨ Registers.wf s.regs = false) :
    Within F C s { x with regs := storeInsert (storeDrop x.regs (f.key i)) (f.key i) v } where
  rd g j hg := by
    rw [← k.rd g j hg]
    have hne : f.key i ≠ g.key j := by
      intro e
      obtain ⟨rfl, -⟩ := Fld.key_inj.mp e
      rw [hf] at hg
      cases hg
    exact (storeGet_insert_ne _ v _ hne).trans (storeGet_drop_ne _ _ hne)
  sram b := k.sram b
  bus b := k.bus b
  clock b := k.clock b
  live b := k.live b
  sys b := k.sys b
  modes b := k.modes b
  pll b := k.pll b
  lanes b := k.lanes b
  edges b := k.edges b
  arms b := k.arms b
  engines b := k.engines b
  faults b := k.faults b
  spr b := k.spr b
  thermal b := k.thermal b
  converter b := k.converter b
  power b := k.power b
  triggers b := k.triggers b
  halyard b := k.halyard b
  inputs b := k.inputs b
  net b := k.net b
  metrology b := k.metrology b
  storage b := k.storage b
  slices b := k.slices b
  security b := k.security b
  drawn b := k.drawn b
  cells w := k.cells w
  regs w := by
    rcases hv with hv | hv
    · exact storeCanon_insert (storeCanon_drop (k.regs w) _) hv (storeFree_drop _ _)
    · rw [w] at hv
      cases hv

/-- The fields taken over come from a state `old` whose registers are in canonical form where those of `s` are. -/
theorem Chip.takeFields_within (k : Within F C s x) (old : Chip) (rs : List Reg)
    (h : ((fieldsOf rs).all fun f => F.testBit f.ctorIdx) = true)
    (ho : ∀ p ∈ old.regs, registerEntryOk p.1 p.2 = true ∨ Registers.wf s.regs = false) :
    Within F C s (x.takeFields old rs) := by
  rw [List.all_eq_true] at h
  unfold Chip.takeFields Chip.each
  dsimp only
  generalize hl : old.regs.filter _ = l
  have hm : ∀ p ∈ l, ((fieldsOf rs).map fun f => f.key 0).contains (p.1 % 1024) = true ∧ p ∈ old.regs := by
    intro p hp
    rw [← hl] at hp
    obtain ⟨h1, h2⟩ := List.mem_filter.mp hp
    exact ⟨h2, h1⟩
  clear hl
  induction l generalizing x with
  | nil => exact k
  | cons p l ih =>
    refine ih ?_ fun q hq => hm q (by simp [hq])
    obtain ⟨hc, hp⟩ := hm p (by simp)
    obtain ⟨g, hg, e⟩ := List.mem_map.mp (List.contains_iff_mem.mp hc)
    have he : p.1 = g.key (p.1 / 1024) := by
      have : g.ctorIdx = p.1 % 1024 := by simpa [Fld.key] using e
      unfold Fld.key
      omega
    have := Within.insert k g (p.1 / 1024) p.2 (h g hg) (he ▸ ho p hp)
    rw [← he] at this
    exact this

theorem registers_entry {regs : Store Nat} (h : Registers.wf regs = true) : ∀ p ∈ regs, registerEntryOk p.1 p.2 = true := by
  induction regs with
  | nil => simp
  | cons q r ih =>
    obtain ⟨h1, -, h3⟩ := (storeCanon_cons _ _ _).mp h
    intro p hp
    rcases List.mem_cons.mp hp with rfl | hp
    · exact h1
    · exact ih h3 p hp

/-- The fields of the state itself may be taken over into any state reached. -/
theorem own_entries (s : Chip) : ∀ p ∈ s.regs, registerEntryOk p.1 p.2 = true ∨ Registers.wf s.regs = false := by
  intro p hp
  cases h : Registers.wf s.regs with
  | true => exact .inl (registers_entry h p hp)
  | false => exact .inr rfl

/-- A register found by address is one of the list. -/
theorem findReg_mem {rs : List Reg} {a i : Nat} {r : Reg} (h : findReg rs a = some (r, i)) : r ∈ rs := by
  induction rs with
  | nil => cases h
  | cons q rs ih =>
    unfold findReg at h
    split at h
    · cases h
      simp
    · exact List.mem_cons_of_mem _ (ih h)

/-- The set of all fields. -/
theorem testBit_full (f : Fld) :
    allFields.testBit f.ctorIdx = true := by cases f <;> decide

theorem all_full (l : List Fld) :
    (l.all fun f => allFields.testBit f.ctorIdx) = true := List.all_eq_true.mpr fun f _ => testBit_full f

end Sys2Proof.Machine
end

