-- ==== Sys2Proof/Laws/FrameTransmit.lean ====
section
/-! SUPPORT. The frames of the operations of Machine/Transmit.lean: the fields and the parts of the state each may change. -/

set_option linter.tactic.unusedName false

namespace Sys2Proof.Machine

theorem Chip.nextTx_within (s : Chip) (n : Nat) :
    Within 0 0x1000000 s (Chip.nextTx s n).2 := by
  unfold Chip.nextTx
  repeat' first
    | (extract_lets +onlyGivenNames x; refine .cut (x := x) ?_ ?_; rotate_left; clear_value x; intro _; rotate_left; subst x)
    | (extract_lets +onlyGivenNames x; refine .cut (x := x.2) ?_ ?_; rotate_left; clear_value x; intro _; rotate_left; subst x)
    | (extract_lets +onlyGivenNames x; refine .cut (x := x.2.2) ?_ ?_; rotate_left; clear_value x; intro _; rotate_left; subst x)
    | (extract_lets +onlyGivenNames x; clear_value x)
    | extract_lets +onlyGivenNames _
    | with_reducible apply Within.refl
    | with_reducible assumption
    | decide
    | with_reducible apply Within.step (Chip.draw_within _)
    | split

theorem Chip.putBlocks_within (s : Chip) (n : Nat) (bs : List LineBlock) :
    Within 0 0x1000080 s (Chip.putBlocks s n bs) := by
  unfold Chip.putBlocks
  repeat' first
    | (extract_lets +onlyGivenNames x; refine .cut (x := x) ?_ ?_; rotate_left; clear_value x; intro _; rotate_left; subst x)
    | (extract_lets +onlyGivenNames x; refine .cut (x := x.2) ?_ ?_; rotate_left; clear_value x; intro _; rotate_left; subst x)
    | (extract_lets +onlyGivenNames x; refine .cut (x := x.2.2) ?_ ?_; rotate_left; clear_value x; intro _; rotate_left; subst x)
    | (extract_lets +onlyGivenNames x; clear_value x)
    | extract_lets +onlyGivenNames _
    | with_reducible apply Within.refl
    | with_reducible assumption
    | decide
    | with_reducible apply Within.step (Chip.nextTx_within _ _)
    | with_reducible apply Within.step (Chip.setLane_within _ _ _)
    | split

theorem Chip.addBlocks_within (s : Chip) (n : Nat) (bs : List LineBlock) :
    Within 0 0x1000080 s (Chip.addBlocks s n bs) := by
  unfold Chip.addBlocks
  repeat' first
    | (extract_lets +onlyGivenNames x; refine .cut (x := x) ?_ ?_; rotate_left; clear_value x; intro _; rotate_left; subst x)
    | (extract_lets +onlyGivenNames x; refine .cut (x := x.2) ?_ ?_; rotate_left; clear_value x; intro _; rotate_left; subst x)
    | (extract_lets +onlyGivenNames x; refine .cut (x := x.2.2) ?_ ?_; rotate_left; clear_value x; intro _; rotate_left; subst x)
    | (extract_lets +onlyGivenNames x; clear_value x)
    | extract_lets +onlyGivenNames _
    | with_reducible apply Within.refl
    | with_reducible assumption
    | decide
    | with_reducible apply Within.step (Chip.putBlocks_within _ _ _)
    | with_reducible apply Within.step (Chip.setLane_within _ _ _)
    | split

theorem Chip.sendIdle_within (s : Chip) (n : Nat) :
    Within 0 0x80 s (Chip.sendIdle s n) := by
  unfold Chip.sendIdle
  repeat' first
    | (extract_lets +onlyGivenNames x; refine .cut (x := x) ?_ ?_; rotate_left; clear_value x; intro _; rotate_left; subst x)
    | (extract_lets +onlyGivenNames x; refine .cut (x := x.2) ?_ ?_; rotate_left; clear_value x; intro _; rotate_left; subst x)
    | (extract_lets +onlyGivenNames x; refine .cut (x := x.2.2) ?_ ?_; rotate_left; clear_value x; intro _; rotate_left; subst x)
    | (extract_lets +onlyGivenNames x; clear_value x)
    | extract_lets +onlyGivenNames _
    | with_reducible apply Within.refl
    | with_reducible assumption
    | decide
    | with_reducible apply Within.step (Chip.setLane_within _ _ _)
    | split

theorem Chip.layFrame_within (s : Chip) (n : Nat) (f : Sheaf) (fr : LineFrame) :
    Within 0 0x80 s (Chip.layFrame s n f fr) := by
  unfold Chip.layFrame
  repeat' first
    | (extract_lets +onlyGivenNames x; refine .cut (x := x) ?_ ?_; rotate_left; clear_value x; intro _; rotate_left; subst x)
    | (extract_lets +onlyGivenNames x; refine .cut (x := x.2) ?_ ?_; rotate_left; clear_value x; intro _; rotate_left; subst x)
    | (extract_lets +onlyGivenNames x; refine .cut (x := x.2.2) ?_ ?_; rotate_left; clear_value x; intro _; rotate_left; subst x)
    | (extract_lets +onlyGivenNames x; clear_value x)
    | extract_lets +onlyGivenNames _
    | with_reducible apply Within.refl
    | with_reducible assumption
    | decide
    | with_reducible apply Within.step (Chip.setLane_within _ _ _)
    | split

theorem Chip.turnFrame_within (s : Chip) (v : Bool) (n : Nat) :
    Within 0 0x80 s (Chip.turnFrame s v n) := by
  unfold Chip.turnFrame
  repeat' first
    | (extract_lets +onlyGivenNames x; refine .cut (x := x) ?_ ?_; rotate_left; clear_value x; intro _; rotate_left; subst x)
    | (extract_lets +onlyGivenNames x; refine .cut (x := x.2) ?_ ?_; rotate_left; clear_value x; intro _; rotate_left; subst x)
    | (extract_lets +onlyGivenNames x; refine .cut (x := x.2.2) ?_ ?_; rotate_left; clear_value x; intro _; rotate_left; subst x)
    | (extract_lets +onlyGivenNames x; clear_value x)
    | extract_lets +onlyGivenNames _
    | with_reducible apply Within.refl
    | with_reducible assumption
    | decide
    | with_reducible apply Within.step (Chip.layFrame_within _ _ _ _)
    | split

theorem Chip.turnBlock_within (s : Chip) (v : Bool) :
    Within 0 0x80 s (Chip.turnBlock s v) := by
  unfold Chip.turnBlock
  repeat' first
    | (extract_lets +onlyGivenNames x; refine .cut (x := x) ?_ ?_; rotate_left; clear_value x; intro _; rotate_left; subst x)
    | (extract_lets +onlyGivenNames x; refine .cut (x := x.2) ?_ ?_; rotate_left; clear_value x; intro _; rotate_left; subst x)
    | (extract_lets +onlyGivenNames x; refine .cut (x := x.2.2) ?_ ?_; rotate_left; clear_value x; intro _; rotate_left; subst x)
    | (extract_lets +onlyGivenNames x; clear_value x)
    | extract_lets +onlyGivenNames _
    | with_reducible apply Within.refl
    | with_reducible assumption
    | decide
    | with_reducible apply Within.step (Chip.turnFrame_within _ _ _)
    | (with_reducible apply Within.each; rotate_left; intro _ _ _)
    | split

end Sys2Proof.Machine
end

