-- ==== Sys2Proof/Laws/FrameHold.lean ====
section
/-! SUPPORT. The frames of the operations of Machine/Hold.lean: the fields and the parts of the state each may change. -/

set_option linter.tactic.unusedName false

namespace Sys2Proof.Machine

theorem Chip.judgeEdges_within (s : Chip) :
    Within 0 0x20 s (Chip.judgeEdges s) := by
  unfold Chip.judgeEdges
  repeat' first
    | (extract_lets +onlyGivenNames x; refine .cut (x := x) ?_ ?_; rotate_left; clear_value x; intro _; rotate_left; subst x)
    | (extract_lets +onlyGivenNames x; refine .cut (x := x.2) ?_ ?_; rotate_left; clear_value x; intro _; rotate_left; subst x)
    | (extract_lets +onlyGivenNames x; refine .cut (x := x.2.2) ?_ ?_; rotate_left; clear_value x; intro _; rotate_left; subst x)
    | (extract_lets +onlyGivenNames x; clear_value x)
    | extract_lets +onlyGivenNames _
    | with_reducible apply Within.refl
    | with_reducible assumption
    | decide
    | split
    | with_reducible apply Within.set_modes

theorem Chip.setDriver_within (s : Chip) (n : Nat) (g : GateDriver) :
    Within 0 0x8000 s (Chip.setDriver s n g) := by
  unfold Chip.setDriver
  repeat' first
    | (extract_lets +onlyGivenNames x; refine .cut (x := x) ?_ ?_; rotate_left; clear_value x; intro _; rotate_left; subst x)
    | (extract_lets +onlyGivenNames x; refine .cut (x := x.2) ?_ ?_; rotate_left; clear_value x; intro _; rotate_left; subst x)
    | (extract_lets +onlyGivenNames x; refine .cut (x := x.2.2) ?_ ?_; rotate_left; clear_value x; intro _; rotate_left; subst x)
    | (extract_lets +onlyGivenNames x; clear_value x)
    | extract_lets +onlyGivenNames _
    | with_reducible apply Within.refl
    | with_reducible assumption
    | decide
    | split
    | with_reducible apply Within.set_power

theorem Chip.setTripIn_within (s : Chip) (t : Nat) (r : TripInput) :
    Within 0 0x8000 s (Chip.setTripIn s t r) := by
  unfold Chip.setTripIn
  repeat' first
    | (extract_lets +onlyGivenNames x; refine .cut (x := x) ?_ ?_; rotate_left; clear_value x; intro _; rotate_left; subst x)
    | (extract_lets +onlyGivenNames x; refine .cut (x := x.2) ?_ ?_; rotate_left; clear_value x; intro _; rotate_left; subst x)
    | (extract_lets +onlyGivenNames x; refine .cut (x := x.2.2) ?_ ?_; rotate_left; clear_value x; intro _; rotate_left; subst x)
    | (extract_lets +onlyGivenNames x; clear_value x)
    | extract_lets +onlyGivenNames _
    | with_reducible apply Within.refl
    | with_reducible assumption
    | decide
    | split
    | with_reducible apply Within.set_power

theorem Chip.maskTrip_within (s : Chip) (changed : List Nat) (t : Nat) :
    Within 0 0x8000 s (Chip.maskTrip s changed t) := by
  unfold Chip.maskTrip
  repeat' first
    | (extract_lets +onlyGivenNames x; refine .cut (x := x) ?_ ?_; rotate_left; clear_value x; intro _; rotate_left; subst x)
    | (extract_lets +onlyGivenNames x; refine .cut (x := x.2) ?_ ?_; rotate_left; clear_value x; intro _; rotate_left; subst x)
    | (extract_lets +onlyGivenNames x; refine .cut (x := x.2.2) ?_ ?_; rotate_left; clear_value x; intro _; rotate_left; subst x)
    | (extract_lets +onlyGivenNames x; clear_value x)
    | extract_lets +onlyGivenNames _
    | with_reducible apply Within.refl
    | with_reducible assumption
    | decide
    | with_reducible apply Within.step (Chip.setTripIn_within _ _ _)
    | split

theorem Chip.restartMasks_within (s : Chip) (old : Chip) :
    Within 0 0x8000 s (Chip.restartMasks s old) := by
  unfold Chip.restartMasks
  repeat' first
    | (extract_lets +onlyGivenNames x; refine .cut (x := x) ?_ ?_; rotate_left; clear_value x; intro _; rotate_left; subst x)
    | (extract_lets +onlyGivenNames x; refine .cut (x := x.2) ?_ ?_; rotate_left; clear_value x; intro _; rotate_left; subst x)
    | (extract_lets +onlyGivenNames x; refine .cut (x := x.2.2) ?_ ?_; rotate_left; clear_value x; intro _; rotate_left; subst x)
    | (extract_lets +onlyGivenNames x; clear_value x)
    | extract_lets +onlyGivenNames _
    | with_reducible apply Within.refl
    | with_reducible assumption
    | decide
    | with_reducible apply Within.step (Chip.maskTrip_within _ _ _)
    | with_reducible apply Within.step (Chip.setDriver_within _ _ _)
    | (with_reducible apply Within.each; rotate_left; intro _ _ _)
    | split

theorem Chip.withOutputs_within {F C : Nat} {s x : Chip} (k : Within F C s x) (f : Chip → Chip)
    (hf : ∀ u, Within F C s u → Within F C s (f u)) (hC : Nat.land 0x8000 C = 0x8000) : Within F C s (x.withOutputs f) :=
  .step (Chip.restartMasks_within _ _) (hf _ k) (by simp) hC

/-- What follows a change of BLOCK is the headers on the lanes alone (R144). -/
theorem Chip.blockFollows_same (s : Chip) (g : Chip → Chip) : Within 0 0x80 (g s) (s.blockFollows g) := by
  unfold Chip.blockFollows
  extract_lets +onlyGivenNames t
  split
  · exact .refl
  · exact .step (Chip.turnBlock_within _ _) .refl (by decide) (by decide)

theorem Chip.blockFollows_within {F C : Nat} {s x : Chip} (k : Within F C s x) (g : Chip → Chip)
    (hg : ∀ u, Within F C s u → Within F C s (g u)) (hF : Nat.land 0 F = 0) (hC : Nat.land 0x80 C = 0x80) :
    Within F C s (x.blockFollows g) :=
  .step (Chip.blockFollows_same _ _) (hg _ k) hF hC

/-- What follows a change of the Shroud's outputs is the headers on the lanes and the masks alone. -/
theorem Chip.wiresFollow_same (s : Chip) (g : Chip → Chip) : Within 0 0x8080 (g s) (s.wiresFollow g) := by
  show Within _ _ _ ((s.blockFollows g).restartMasks s)
  exact .step (Chip.restartMasks_within _ _) (.step (Chip.blockFollows_same _ _) .refl (by decide) (by decide)) (by decide) (by decide)

theorem Chip.wiresFollow_within {F C : Nat} {s x : Chip} (k : Within F C s x) (g : Chip → Chip)
    (hg : ∀ u, Within F C s u → Within F C s (g u)) (hF : Nat.land 0 F = 0) (hC : Nat.land 0x8080 C = 0x8080) :
    Within F C s (x.wiresFollow g) :=
  .step (Chip.wiresFollow_same _ _) (hg _ k) hF hC

theorem Chip.shroudAssert_within (s : Chip) :
    Within 0xc000000000000000000000000000000000000000000000000000000000000000000000000000000000000000000000000000000000 0x8080 s (Chip.shroudAssert s) := by
  unfold Chip.shroudAssert
  repeat' first
    | (extract_lets +onlyGivenNames x; refine .cut (x := x) ?_ ?_; rotate_left; clear_value x; intro _; rotate_left; subst x)
    | (extract_lets +onlyGivenNames x; refine .cut (x := x.2) ?_ ?_; rotate_left; clear_value x; intro _; rotate_left; subst x)
    | (extract_lets +onlyGivenNames x; refine .cut (x := x.2.2) ?_ ?_; rotate_left; clear_value x; intro _; rotate_left; subst x)
    | (extract_lets +onlyGivenNames x; clear_value x)
    | extract_lets +onlyGivenNames _
    | with_reducible apply Within.refl
    | with_reducible assumption
    | decide
    | (with_reducible apply Chip.wiresFollow_within; rotate_left; intro _ _)
    | with_reducible apply Within.wr
    | split

theorem Chip.shroudRefresh_within (s : Chip) :
    Within 0x44c000000000000000000000000000000000000000000000000000000000000000000000000000000000000000000000000000000000 0x8080 s (Chip.shroudRefresh s) := by
  unfold Chip.shroudRefresh
  repeat' first
    | (extract_lets +onlyGivenNames x; refine .cut (x := x) ?_ ?_; rotate_left; clear_value x; intro _; rotate_left; subst x)
    | (extract_lets +onlyGivenNames x; refine .cut (x := x.2) ?_ ?_; rotate_left; clear_value x; intro _; rotate_left; subst x)
    | (extract_lets +onlyGivenNames x; refine .cut (x := x.2.2) ?_ ?_; rotate_left; clear_value x; intro _; rotate_left; subst x)
    | (extract_lets +onlyGivenNames x; clear_value x)
    | extract_lets +onlyGivenNames _
    | with_reducible apply Within.refl
    | with_reducible assumption
    | decide
    | with_reducible apply Within.step (Chip.shroudAssert_within _)
    | with_reducible apply Within.wrFlag
    | with_reducible apply Within.wr
    | split

theorem Chip.shroudUnblock_within (s : Chip) :
    Within 0x44c000000000000000000000000000000000000000000000000000000000000000000000000000000000000000000000000000000000 0x8080 s (Chip.shroudUnblock s) := by
  unfold Chip.shroudUnblock
  repeat' first
    | (extract_lets +onlyGivenNames x; refine .cut (x := x) ?_ ?_; rotate_left; clear_value x; intro _; rotate_left; subst x)
    | (extract_lets +onlyGivenNames x; refine .cut (x := x.2) ?_ ?_; rotate_left; clear_value x; intro _; rotate_left; subst x)
    | (extract_lets +onlyGivenNames x; refine .cut (x := x.2.2) ?_ ?_; rotate_left; clear_value x; intro _; rotate_left; subst x)
    | (extract_lets +onlyGivenNames x; clear_value x)
    | extract_lets +onlyGivenNames _
    | with_reducible apply Within.refl
    | with_reducible assumption
    | decide
    | with_reducible apply Within.step (Chip.shroudRefresh_within _)
    | (with_reducible apply Chip.wiresFollow_within; rotate_left; intro _ _)
    | with_reducible apply Within.wr
    | split

theorem Chip.shroudLatch_within (s : Chip) (c : HoldCause) :
    Within 0xc5c000000000000000000000000000000000000000000000000000000000000000000000000000000000000000000000000000000000 0x8080 s (Chip.shroudLatch s c) := by
  unfold Chip.shroudLatch
  repeat' first
    | (extract_lets +onlyGivenNames x; refine .cut (x := x) ?_ ?_; rotate_left; clear_value x; intro _; rotate_left; subst x)
    | (extract_lets +onlyGivenNames x; refine .cut (x := x.2) ?_ ?_; rotate_left; clear_value x; intro _; rotate_left; subst x)
    | (extract_lets +onlyGivenNames x; refine .cut (x := x.2.2) ?_ ?_; rotate_left; clear_value x; intro _; rotate_left; subst x)
    | (extract_lets +onlyGivenNames x; clear_value x)
    | extract_lets +onlyGivenNames _
    | with_reducible apply Within.refl
    | with_reducible assumption
    | decide
    | with_reducible apply Within.step (Chip.shroudRefresh_within _)
    | with_reducible apply Within.wr
    | split

theorem Chip.withdrawConsent_within (s : Chip) :
    Within 0x46c000000000000000000000000000000000000000000000000000000000000000000000000000000000000000000000000000000000 0x8080 s (Chip.withdrawConsent s) := by
  unfold Chip.withdrawConsent
  repeat' first
    | (extract_lets +onlyGivenNames x; refine .cut (x := x) ?_ ?_; rotate_left; clear_value x; intro _; rotate_left; subst x)
    | (extract_lets +onlyGivenNames x; refine .cut (x := x.2) ?_ ?_; rotate_left; clear_value x; intro _; rotate_left; subst x)
    | (extract_lets +onlyGivenNames x; refine .cut (x := x.2.2) ?_ ?_; rotate_left; clear_value x; intro _; rotate_left; subst x)
    | (extract_lets +onlyGivenNames x; clear_value x)
    | extract_lets +onlyGivenNames _
    | with_reducible apply Within.refl
    | with_reducible assumption
    | decide
    | with_reducible apply Within.step (Chip.shroudRefresh_within _)
    | with_reducible apply Within.wr
    | split

theorem Chip.lockDebug_within (s : Chip) :
    Within 0x400000000000000000000000000000000000000000000000000000000000000000000000000000000000000000000000000000000000000000000000000000000000000000000000000000000000000000 0x800100 s (Chip.lockDebug s) := by
  unfold Chip.lockDebug
  repeat' first
    | (extract_lets +onlyGivenNames x; refine .cut (x := x) ?_ ?_; rotate_left; clear_value x; intro _; rotate_left; subst x)
    | (extract_lets +onlyGivenNames x; refine .cut (x := x.2) ?_ ?_; rotate_left; clear_value x; intro _; rotate_left; subst x)
    | (extract_lets +onlyGivenNames x; refine .cut (x := x.2.2) ?_ ?_; rotate_left; clear_value x; intro _; rotate_left; subst x)
    | (extract_lets +onlyGivenNames x; clear_value x)
    | extract_lets +onlyGivenNames _
    | with_reducible apply Within.refl
    | with_reducible assumption
    | decide
    | with_reducible apply Within.wr
    | split
    | with_reducible apply Within.set_security
    | with_reducible apply Within.set_edges

theorem Chip.voidChallenge_within (s : Chip) :
    Within 0x2800000000000000000000000000000000000000000000000000000000000000000000000000000000000000000000000000000000000000000000000000000000000000000000000000000000000000000 0x800000 s (Chip.voidChallenge s) := by
  unfold Chip.voidChallenge
  repeat' first
    | (extract_lets +onlyGivenNames x; refine .cut (x := x) ?_ ?_; rotate_left; clear_value x; intro _; rotate_left; subst x)
    | (extract_lets +onlyGivenNames x; refine .cut (x := x.2) ?_ ?_; rotate_left; clear_value x; intro _; rotate_left; subst x)
    | (extract_lets +onlyGivenNames x; refine .cut (x := x.2.2) ?_ ?_; rotate_left; clear_value x; intro _; rotate_left; subst x)
    | (extract_lets +onlyGivenNames x; clear_value x)
    | extract_lets +onlyGivenNames _
    | with_reducible apply Within.refl
    | with_reducible assumption
    | decide
    | with_reducible apply Within.wr
    | split
    | with_reducible apply Within.set_security

theorem Chip.relockDebug_within (s : Chip) :
    Within 0x2c00000000000000000000000000000000000000000000000000000000000000000000000000000000000000000000000000000000000000000000000000000000000000000000000000000000000000000 0x800100 s (Chip.relockDebug s) := by
  unfold Chip.relockDebug
  repeat' first
    | (extract_lets +onlyGivenNames x; refine .cut (x := x) ?_ ?_; rotate_left; clear_value x; intro _; rotate_left; subst x)
    | (extract_lets +onlyGivenNames x; refine .cut (x := x.2) ?_ ?_; rotate_left; clear_value x; intro _; rotate_left; subst x)
    | (extract_lets +onlyGivenNames x; refine .cut (x := x.2.2) ?_ ?_; rotate_left; clear_value x; intro _; rotate_left; subst x)
    | (extract_lets +onlyGivenNames x; clear_value x)
    | extract_lets +onlyGivenNames _
    | with_reducible apply Within.refl
    | with_reducible assumption
    | decide
    | with_reducible apply Within.step (Chip.lockDebug_within _)
    | with_reducible apply Within.step (Chip.voidChallenge_within _)
    | split

theorem Chip.clearStaticOn_within (s : Chip) :
    Within 0x80000000000000000000000000000000000000000000000000000000000000000000000000000000000000000000 0 s (Chip.clearStaticOn s) := by
  unfold Chip.clearStaticOn
  repeat' first
    | (extract_lets +onlyGivenNames x; refine .cut (x := x) ?_ ?_; rotate_left; clear_value x; intro _; rotate_left; subst x)
    | (extract_lets +onlyGivenNames x; refine .cut (x := x.2) ?_ ?_; rotate_left; clear_value x; intro _; rotate_left; subst x)
    | (extract_lets +onlyGivenNames x; refine .cut (x := x.2.2) ?_ ?_; rotate_left; clear_value x; intro _; rotate_left; subst x)
    | (extract_lets +onlyGivenNames x; clear_value x)
    | extract_lets +onlyGivenNames _
    | with_reducible apply Within.refl
    | with_reducible assumption
    | decide
    | with_reducible apply Within.wr
    | (with_reducible apply Within.each; rotate_left; intro _ _ _)
    | split

theorem Chip.trigger_within (s : Chip) (c : RecordCause) :
    Within 0 0x10000 s (Chip.trigger s c) := by
  unfold Chip.trigger
  repeat' first
    | (extract_lets +onlyGivenNames x; refine .cut (x := x) ?_ ?_; rotate_left; clear_value x; intro _; rotate_left; subst x)
    | (extract_lets +onlyGivenNames x; refine .cut (x := x.2) ?_ ?_; rotate_left; clear_value x; intro _; rotate_left; subst x)
    | (extract_lets +onlyGivenNames x; refine .cut (x := x.2.2) ?_ ?_; rotate_left; clear_value x; intro _; rotate_left; subst x)
    | (extract_lets +onlyGivenNames x; clear_value x)
    | extract_lets +onlyGivenNames _
    | with_reducible apply Within.refl
    | with_reducible assumption
    | decide
    | split
    | with_reducible apply Within.set_triggers

theorem Chip.refuseRequest_within (s : Chip) :
    Within 0 0x800 s (Chip.refuseRequest s) := by
  unfold Chip.refuseRequest
  repeat' first
    | (extract_lets +onlyGivenNames x; refine .cut (x := x) ?_ ?_; rotate_left; clear_value x; intro _; rotate_left; subst x)
    | (extract_lets +onlyGivenNames x; refine .cut (x := x.2) ?_ ?_; rotate_left; clear_value x; intro _; rotate_left; subst x)
    | (extract_lets +onlyGivenNames x; refine .cut (x := x.2.2) ?_ ?_; rotate_left; clear_value x; intro _; rotate_left; subst x)
    | (extract_lets +onlyGivenNames x; clear_value x)
    | extract_lets +onlyGivenNames _
    | with_reducible apply Within.refl
    | with_reducible assumption
    | decide
    | with_reducible apply Within.step (Chip.raise_within _ _)
    | split

theorem Chip.dropPending_within (s : Chip) :
    Within 0x40000000 0x20 s (Chip.dropPending s) := by
  unfold Chip.dropPending
  repeat' first
    | (extract_lets +onlyGivenNames x; refine .cut (x := x) ?_ ?_; rotate_left; clear_value x; intro _; rotate_left; subst x)
    | (extract_lets +onlyGivenNames x; refine .cut (x := x.2) ?_ ?_; rotate_left; clear_value x; intro _; rotate_left; subst x)
    | (extract_lets +onlyGivenNames x; refine .cut (x := x.2.2) ?_ ?_; rotate_left; clear_value x; intro _; rotate_left; subst x)
    | (extract_lets +onlyGivenNames x; clear_value x)
    | extract_lets +onlyGivenNames _
    | with_reducible apply Within.refl
    | with_reducible assumption
    | decide
    | with_reducible apply Within.wr
    | split
    | with_reducible apply Within.set_modes

theorem Chip.rejudgePending_within (s : Chip) :
    Within 0x40000000 0x820 s (Chip.rejudgePending s) := by
  unfold Chip.rejudgePending
  repeat' first
    | (extract_lets +onlyGivenNames x; refine .cut (x := x) ?_ ?_; rotate_left; clear_value x; intro _; rotate_left; subst x)
    | (extract_lets +onlyGivenNames x; refine .cut (x := x.2) ?_ ?_; rotate_left; clear_value x; intro _; rotate_left; subst x)
    | (extract_lets +onlyGivenNames x; refine .cut (x := x.2.2) ?_ ?_; rotate_left; clear_value x; intro _; rotate_left; subst x)
    | (extract_lets +onlyGivenNames x; clear_value x)
    | extract_lets +onlyGivenNames _
    | with_reducible apply Within.refl
    | with_reducible assumption
    | decide
    | with_reducible apply Within.step (Chip.dropPending_within _)
    | with_reducible apply Within.step (Chip.refuseRequest_within _)
    | split

theorem Chip.releaseLanes_within (s : Chip) :
    Within 0x20000000000000000000000000000 0x20000 s (Chip.releaseLanes s) := by
  unfold Chip.releaseLanes
  repeat' first
    | (extract_lets +onlyGivenNames x; refine .cut (x := x) ?_ ?_; rotate_left; clear_value x; intro _; rotate_left; subst x)
    | (extract_lets +onlyGivenNames x; refine .cut (x := x.2) ?_ ?_; rotate_left; clear_value x; intro _; rotate_left; subst x)
    | (extract_lets +onlyGivenNames x; refine .cut (x := x.2.2) ?_ ?_; rotate_left; clear_value x; intro _; rotate_left; subst x)
    | (extract_lets +onlyGivenNames x; clear_value x)
    | extract_lets +onlyGivenNames _
    | with_reducible apply Within.refl
    | with_reducible assumption
    | decide
    | with_reducible apply Within.wr
    | (with_reducible apply Within.each; rotate_left; intro _ _ _)
    | split
    | with_reducible apply Within.set_halyard

theorem Chip.setMode_within (s : Chip) (m : Mode) :
    Within 0x2c0000000000000000000000000000000000000000000000000000046c000000000000080000000000008000000000000000000000800004000000000000002000000020000000000000000000060000000 0x82a9a0 s (Chip.setMode s m) := by
  unfold Chip.setMode
  repeat' first
    | (extract_lets +onlyGivenNames x; refine .cut (x := x) ?_ ?_; rotate_left; clear_value x; intro _; rotate_left; subst x)
    | (extract_lets +onlyGivenNames x; refine .cut (x := x.2) ?_ ?_; rotate_left; clear_value x; intro _; rotate_left; subst x)
    | (extract_lets +onlyGivenNames x; refine .cut (x := x.2.2) ?_ ?_; rotate_left; clear_value x; intro _; rotate_left; subst x)
    | (extract_lets +onlyGivenNames x; clear_value x)
    | extract_lets +onlyGivenNames _
    | with_reducible apply Within.refl
    | with_reducible assumption
    | decide
    | with_reducible apply Within.step (Chip.clearStaticOn_within _)
    | with_reducible apply Within.step (Chip.rejudgePending_within _)
    | with_reducible apply Within.step (Chip.releaseLanes_within _)
    | with_reducible apply Within.step (Chip.relockDebug_within _)
    | (with_reducible apply Chip.wiresFollow_within; rotate_left; intro _ _)
    | with_reducible apply Within.step (Chip.withdrawConsent_within _)
    | with_reducible apply Within.wrFlag
    | with_reducible apply Within.wr
    | (with_reducible apply Within.each; rotate_left; intro _ _ _)
    | split
    | with_reducible apply Within.set_halyard
    | with_reducible apply Within.set_thermal
    | with_reducible apply Within.set_modes

theorem Chip.wantLockoutEntry_within (s : Chip) (severe : Bool) (noLeave : Bool) :
    Within 0x8000000 0x20 s (Chip.wantLockoutEntry s severe noLeave) := by
  unfold Chip.wantLockoutEntry
  repeat' first
    | (extract_lets +onlyGivenNames x; refine .cut (x := x) ?_ ?_; rotate_left; clear_value x; intro _; rotate_left; subst x)
    | (extract_lets +onlyGivenNames x; refine .cut (x := x.2) ?_ ?_; rotate_left; clear_value x; intro _; rotate_left; subst x)
    | (extract_lets +onlyGivenNames x; refine .cut (x := x.2.2) ?_ ?_; rotate_left; clear_value x; intro _; rotate_left; subst x)
    | (extract_lets +onlyGivenNames x; clear_value x)
    | extract_lets +onlyGivenNames _
    | with_reducible apply Within.refl
    | with_reducible assumption
    | decide
    | with_reducible apply Within.wr
    | split
    | with_reducible apply Within.set_modes

theorem Chip.closeWindow_within (s : Chip) :
    Within 0x30000000000 0 s (Chip.closeWindow s) := by
  unfold Chip.closeWindow
  repeat' first
    | (extract_lets +onlyGivenNames x; refine .cut (x := x) ?_ ?_; rotate_left; clear_value x; intro _; rotate_left; subst x)
    | (extract_lets +onlyGivenNames x; refine .cut (x := x.2) ?_ ?_; rotate_left; clear_value x; intro _; rotate_left; subst x)
    | (extract_lets +onlyGivenNames x; refine .cut (x := x.2.2) ?_ ?_; rotate_left; clear_value x; intro _; rotate_left; subst x)
    | (extract_lets +onlyGivenNames x; clear_value x)
    | extract_lets +onlyGivenNames _
    | with_reducible apply Within.refl
    | with_reducible assumption
    | decide
    | with_reducible apply Within.wr
    | split

theorem Chip.freezeAlive_within (s : Chip) :
    Within 0x18000000000000000000000000000000000000000000000000000000000000000000000000000000000000000000000000 0 s (Chip.freezeAlive s) := by
  unfold Chip.freezeAlive
  repeat' first
    | (extract_lets +onlyGivenNames x; refine .cut (x := x) ?_ ?_; rotate_left; clear_value x; intro _; rotate_left; subst x)
    | (extract_lets +onlyGivenNames x; refine .cut (x := x.2) ?_ ?_; rotate_left; clear_value x; intro _; rotate_left; subst x)
    | (extract_lets +onlyGivenNames x; refine .cut (x := x.2.2) ?_ ?_; rotate_left; clear_value x; intro _; rotate_left; subst x)
    | (extract_lets +onlyGivenNames x; clear_value x)
    | extract_lets +onlyGivenNames _
    | with_reducible apply Within.refl
    | with_reducible assumption
    | decide
    | with_reducible apply Within.wr
    | split

theorem Chip.enterSafeHold_within (s : Chip) (c : HoldCause) :
    Within 0x2c0000000000000000000000000000000000000000000000000000046c000000019000080000000000008000000000000000000000800004000000000000002000000020000000000000000030078000000 0x83a9a0 s (Chip.enterSafeHold s c) := by
  unfold Chip.enterSafeHold
  repeat' first
    | (extract_lets +onlyGivenNames x; refine .cut (x := x) ?_ ?_; rotate_left; clear_value x; intro _; rotate_left; subst x)
    | (extract_lets +onlyGivenNames x; refine .cut (x := x.2) ?_ ?_; rotate_left; clear_value x; intro _; rotate_left; subst x)
    | (extract_lets +onlyGivenNames x; refine .cut (x := x.2.2) ?_ ?_; rotate_left; clear_value x; intro _; rotate_left; subst x)
    | (extract_lets +onlyGivenNames x; clear_value x)
    | extract_lets +onlyGivenNames _
    | with_reducible apply Within.refl
    | with_reducible assumption
    | decide
    | (with_reducible apply Chip.blockFollows_within; rotate_left; intro _ _)
    | with_reducible apply Within.step (Chip.closeWindow_within _)
    | with_reducible apply Within.step (Chip.freezeAlive_within _)
    | with_reducible apply Within.step (Chip.setMode_within _ _)
    | with_reducible apply Within.step (Chip.trigger_within _ _)
    | with_reducible apply Within.step (Chip.wantLockoutEntry_within _ _ _)
    | with_reducible apply Within.wrFlag
    | with_reducible apply Within.wr
    | split
    | with_reducible apply Within.set_modes

theorem Chip.sendReaction_within (s : Chip) (c : HoldCause) :
    Within 0xc5c000000000000000000000000000000000000000000000000000000000000000000000000000000000000000000000000000000000 0x9080 s (Chip.sendReaction s c) := by
  unfold Chip.sendReaction
  repeat' first
    | (extract_lets +onlyGivenNames x; refine .cut (x := x) ?_ ?_; rotate_left; clear_value x; intro _; rotate_left; subst x)
    | (extract_lets +onlyGivenNames x; refine .cut (x := x.2) ?_ ?_; rotate_left; clear_value x; intro _; rotate_left; subst x)
    | (extract_lets +onlyGivenNames x; refine .cut (x := x.2.2) ?_ ?_; rotate_left; clear_value x; intro _; rotate_left; subst x)
    | (extract_lets +onlyGivenNames x; clear_value x)
    | extract_lets +onlyGivenNames _
    | with_reducible apply Within.refl
    | with_reducible assumption
    | decide
    | with_reducible apply Within.step (Chip.shroudLatch_within _ _)
    | split
    | with_reducible apply Within.set_spr

theorem Chip.severeReaction_within (s : Chip) :
    Within 0x2c00000000000000000000000000000000000000000000000000000c7c000000019000080000000000008000000000000000000000800004000000000000002000000020000000000000000030078000000 0x83b9a0 s (Chip.severeReaction s) := by
  unfold Chip.severeReaction
  repeat' first
    | (extract_lets +onlyGivenNames x; refine .cut (x := x) ?_ ?_; rotate_left; clear_value x; intro _; rotate_left; subst x)
    | (extract_lets +onlyGivenNames x; refine .cut (x := x.2) ?_ ?_; rotate_left; clear_value x; intro _; rotate_left; subst x)
    | (extract_lets +onlyGivenNames x; refine .cut (x := x.2.2) ?_ ?_; rotate_left; clear_value x; intro _; rotate_left; subst x)
    | (extract_lets +onlyGivenNames x; clear_value x)
    | extract_lets +onlyGivenNames _
    | with_reducible apply Within.refl
    | with_reducible assumption
    | decide
    | with_reducible apply Within.step (Chip.enterSafeHold_within _ _)
    | with_reducible apply Within.step (Chip.sendReaction_within _ _)
    | split

theorem Chip.sprReaction_within (s : Chip) :
    Within 0x2c00000000000000000000000000000000000000000000000000000c7c000000019000080000000000008000000000000000000000800004000000000000002000000020000000000000000030078000000 0x83b9a0 s (Chip.sprReaction s) := by
  unfold Chip.sprReaction
  repeat' first
    | (extract_lets +onlyGivenNames x; refine .cut (x := x) ?_ ?_; rotate_left; clear_value x; intro _; rotate_left; subst x)
    | (extract_lets +onlyGivenNames x; refine .cut (x := x.2) ?_ ?_; rotate_left; clear_value x; intro _; rotate_left; subst x)
    | (extract_lets +onlyGivenNames x; refine .cut (x := x.2.2) ?_ ?_; rotate_left; clear_value x; intro _; rotate_left; subst x)
    | (extract_lets +onlyGivenNames x; clear_value x)
    | extract_lets +onlyGivenNames _
    | with_reducible apply Within.refl
    | with_reducible assumption
    | decide
    | with_reducible apply Within.step (Chip.enterSafeHold_within _ _)
    | with_reducible apply Within.step (Chip.sendReaction_within _ _)
    | split

end Sys2Proof.Machine
end

