-- ==== Sys2Proof/Laws/FrameThermal.lean ====
section
/-! SUPPORT. The frames of the operations of Machine/Thermal.lean: the fields and the parts of the state each may change. -/

set_option linter.tactic.unusedName false

namespace Sys2Proof.Machine

theorem Chip.grant_within (s : Chip) (r : LeaveRequest) :
    Within 0x4101000000000000000000000000000000000000000000000000000000000000000000000000000000000000000000000000000000000000000000000000000000000000 0x2000 s (Chip.grant s r) := by
  unfold Chip.grant
  repeat' first
    | (extract_lets +onlyGivenNames x; refine .cut (x := x) ?_ ?_; rotate_left; clear_value x; intro _; rotate_left; subst x)
    | (extract_lets +onlyGivenNames x; refine .cut (x := x.2) ?_ ?_; rotate_left; clear_value x; intro _; rotate_left; subst x)
    | (extract_lets +onlyGivenNames x; refine .cut (x := x.2.2) ?_ ?_; rotate_left; clear_value x; intro _; rotate_left; subst x)
    | (extract_lets +onlyGivenNames x; clear_value x)
    | extract_lets +onlyGivenNames _
    | with_reducible apply Within.refl
    | with_reducible assumption
    | decide
    | with_reducible apply Within.count
    | with_reducible apply Within.wr
    | split
    | with_reducible apply Within.set_thermal

theorem granaryWalk_within (s : Chip) (z1 : List LeaveRequest) :
    Within 0x4501000000000000000000000000000000000000000000000000000000000000000000000000000000000000000000000000000000000000000000000000000000000000 0x2000 s (granaryWalk s z1) := by
  induction z1 generalizing s with
  | nil => exact .refl
  | cons _ _ ih =>
    unfold granaryWalk
    repeat' first
      | (extract_lets +onlyGivenNames x; refine .cut (x := x) ?_ ?_; rotate_left; clear_value x; intro _; rotate_left; subst x)
      | (extract_lets +onlyGivenNames x; refine .cut (x := x.2) ?_ ?_; rotate_left; clear_value x; intro _; rotate_left; subst x)
      | (extract_lets +onlyGivenNames x; refine .cut (x := x.2.2) ?_ ?_; rotate_left; clear_value x; intro _; rotate_left; subst x)
      | (extract_lets +onlyGivenNames x; clear_value x)
      | extract_lets +onlyGivenNames _
      | with_reducible apply Within.step (ih _)
      | with_reducible apply Within.refl
      | with_reducible assumption
      | decide
      | with_reducible apply Within.step (Chip.grant_within _ _)
      | with_reducible apply Within.count
      | split

theorem Chip.granary_within (s : Chip) :
    Within 0x4501000000000000000000000000000000000000000000000000000000000000000000000000000000000000000000000000000000000000000000000000000000000000 0x2000 s (Chip.granary s) := by
  unfold Chip.granary
  repeat' first
    | (extract_lets +onlyGivenNames x; refine .cut (x := x) ?_ ?_; rotate_left; clear_value x; intro _; rotate_left; subst x)
    | (extract_lets +onlyGivenNames x; refine .cut (x := x.2) ?_ ?_; rotate_left; clear_value x; intro _; rotate_left; subst x)
    | (extract_lets +onlyGivenNames x; refine .cut (x := x.2.2) ?_ ?_; rotate_left; clear_value x; intro _; rotate_left; subst x)
    | (extract_lets +onlyGivenNames x; clear_value x)
    | extract_lets +onlyGivenNames _
    | with_reducible apply Within.refl
    | with_reducible assumption
    | decide
    | with_reducible apply Within.step (granaryWalk_within _ _)
    | split
    | with_reducible apply Within.set_thermal

theorem Chip.askLeave_within (s : Chip) (w : Leave) :
    Within 0x4501000000000000000000000000000000000000000000000000000000000000000000000000000000000000000000000000000000000000000000000000000000000000 0x2000 s (Chip.askLeave s w) := by
  unfold Chip.askLeave
  repeat' first
    | (extract_lets +onlyGivenNames x; refine .cut (x := x) ?_ ?_; rotate_left; clear_value x; intro _; rotate_left; subst x)
    | (extract_lets +onlyGivenNames x; refine .cut (x := x.2) ?_ ?_; rotate_left; clear_value x; intro _; rotate_left; subst x)
    | (extract_lets +onlyGivenNames x; refine .cut (x := x.2.2) ?_ ?_; rotate_left; clear_value x; intro _; rotate_left; subst x)
    | (extract_lets +onlyGivenNames x; clear_value x)
    | extract_lets +onlyGivenNames _
    | with_reducible apply Within.refl
    | with_reducible assumption
    | decide
    | with_reducible apply Within.step (Chip.granary_within _)
    | split
    | with_reducible apply Within.set_thermal

theorem Chip.returnLeave_within (s : Chip) (w : Leave) :
    Within 0x4501000000000000000000000000000000000000000000000000000000000000000000000000000000000000000000000000000000000000000000000000000000000000 0x2000 s (Chip.returnLeave s w) := by
  unfold Chip.returnLeave
  repeat' first
    | (extract_lets +onlyGivenNames x; refine .cut (x := x) ?_ ?_; rotate_left; clear_value x; intro _; rotate_left; subst x)
    | (extract_lets +onlyGivenNames x; refine .cut (x := x.2) ?_ ?_; rotate_left; clear_value x; intro _; rotate_left; subst x)
    | (extract_lets +onlyGivenNames x; refine .cut (x := x.2.2) ?_ ?_; rotate_left; clear_value x; intro _; rotate_left; subst x)
    | (extract_lets +onlyGivenNames x; clear_value x)
    | extract_lets +onlyGivenNames _
    | with_reducible apply Within.refl
    | with_reducible assumption
    | decide
    | with_reducible apply Within.step (Chip.granary_within _)
    | with_reducible apply Within.wr
    | split
    | with_reducible apply Within.set_thermal

theorem Chip.dropRequest_within (s : Chip) (w : Leave) :
    Within 0 0x2000 s (Chip.dropRequest s w) := by
  unfold Chip.dropRequest
  repeat' first
    | (extract_lets +onlyGivenNames x; refine .cut (x := x) ?_ ?_; rotate_left; clear_value x; intro _; rotate_left; subst x)
    | (extract_lets +onlyGivenNames x; refine .cut (x := x.2) ?_ ?_; rotate_left; clear_value x; intro _; rotate_left; subst x)
    | (extract_lets +onlyGivenNames x; refine .cut (x := x.2.2) ?_ ?_; rotate_left; clear_value x; intro _; rotate_left; subst x)
    | (extract_lets +onlyGivenNames x; clear_value x)
    | extract_lets +onlyGivenNames _
    | with_reducible apply Within.refl
    | with_reducible assumption
    | decide
    | split
    | with_reducible apply Within.set_thermal

theorem Chip.starve_within (s : Chip) (w : Leave) :
    Within 0x200000000000000000000000000000000000000000000000000000000000000000000000000000000000000000000000000000000000000000000000000000000000000 0x2800 s (Chip.starve s w) := by
  unfold Chip.starve
  repeat' first
    | (extract_lets +onlyGivenNames x; refine .cut (x := x) ?_ ?_; rotate_left; clear_value x; intro _; rotate_left; subst x)
    | (extract_lets +onlyGivenNames x; refine .cut (x := x.2) ?_ ?_; rotate_left; clear_value x; intro _; rotate_left; subst x)
    | (extract_lets +onlyGivenNames x; refine .cut (x := x.2.2) ?_ ?_; rotate_left; clear_value x; intro _; rotate_left; subst x)
    | (extract_lets +onlyGivenNames x; clear_value x)
    | extract_lets +onlyGivenNames _
    | with_reducible apply Within.refl
    | with_reducible assumption
    | decide
    | with_reducible apply Within.step (Chip.raise_within _ _)
    | with_reducible apply Within.count
    | split
    | with_reducible apply Within.set_thermal

theorem Chip.markBroken_within (s : Chip) (k : Nat) (reason : Nat) :
    Within 0x2400000000040000000000000000000000000000000000000000000000000000000000000000000000000000000000000000000000000000000000000000000000000000000000 0x800 s (Chip.markBroken s k reason) := by
  unfold Chip.markBroken
  repeat' first
    | (extract_lets +onlyGivenNames x; refine .cut (x := x) ?_ ?_; rotate_left; clear_value x; intro _; rotate_left; subst x)
    | (extract_lets +onlyGivenNames x; refine .cut (x := x.2) ?_ ?_; rotate_left; clear_value x; intro _; rotate_left; subst x)
    | (extract_lets +onlyGivenNames x; refine .cut (x := x.2.2) ?_ ?_; rotate_left; clear_value x; intro _; rotate_left; subst x)
    | (extract_lets +onlyGivenNames x; clear_value x)
    | extract_lets +onlyGivenNames _
    | with_reducible apply Within.refl
    | with_reducible assumption
    | decide
    | with_reducible apply Within.step (Chip.raise_within _ _)
    | with_reducible apply Within.count
    | with_reducible apply Within.wr
    | split

theorem Chip.clearBroken_within (s : Chip) :
    Within 0x2400000000000000000000000000000000000000000000000000000000000000000000000000000000000000000000000000000000000000000000000000000000000000000000 0 s (Chip.clearBroken s) := by
  unfold Chip.clearBroken
  repeat' first
    | (extract_lets +onlyGivenNames x; refine .cut (x := x) ?_ ?_; rotate_left; clear_value x; intro _; rotate_left; subst x)
    | (extract_lets +onlyGivenNames x; refine .cut (x := x.2) ?_ ?_; rotate_left; clear_value x; intro _; rotate_left; subst x)
    | (extract_lets +onlyGivenNames x; refine .cut (x := x.2.2) ?_ ?_; rotate_left; clear_value x; intro _; rotate_left; subst x)
    | (extract_lets +onlyGivenNames x; clear_value x)
    | extract_lets +onlyGivenNames _
    | with_reducible apply Within.refl
    | with_reducible assumption
    | decide
    | with_reducible apply Within.wr
    | (with_reducible apply Within.each; rotate_left; intro _ _ _)
    | split

theorem Chip.takeReading_within (s : Chip) (words : List (Option Int)) (k : Nat) :
    Within 0x6600000000040000000000000000000000000000000000000000000000000000000000000000000000000000000000000000000000000000000000000000000000000000000000 0x800 s (Chip.takeReading s words k) := by
  unfold Chip.takeReading
  repeat' first
    | (extract_lets +onlyGivenNames x; refine .cut (x := x) ?_ ?_; rotate_left; clear_value x; intro _; rotate_left; subst x)
    | (extract_lets +onlyGivenNames x; refine .cut (x := x.2) ?_ ?_; rotate_left; clear_value x; intro _; rotate_left; subst x)
    | (extract_lets +onlyGivenNames x; refine .cut (x := x.2.2) ?_ ?_; rotate_left; clear_value x; intro _; rotate_left; subst x)
    | (extract_lets +onlyGivenNames x; clear_value x)
    | extract_lets +onlyGivenNames _
    | with_reducible apply Within.refl
    | with_reducible assumption
    | decide
    | with_reducible apply Within.step (Chip.markBroken_within _ _ _)
    | with_reducible apply Within.wrInt
    | with_reducible apply Within.wr
    | split

theorem Chip.checkHood_within (s : Chip) (h : Nat) :
    Within 0x2400000000040000000000000000000000000000000000000000000000000000000000000000000000000000000000000000000000000000000000000000000000000000000000 0x800 s (Chip.checkHood s h) := by
  unfold Chip.checkHood
  repeat' first
    | (extract_lets +onlyGivenNames x; refine .cut (x := x) ?_ ?_; rotate_left; clear_value x; intro _; rotate_left; subst x)
    | (extract_lets +onlyGivenNames x; refine .cut (x := x.2) ?_ ?_; rotate_left; clear_value x; intro _; rotate_left; subst x)
    | (extract_lets +onlyGivenNames x; refine .cut (x := x.2.2) ?_ ?_; rotate_left; clear_value x; intro _; rotate_left; subst x)
    | (extract_lets +onlyGivenNames x; clear_value x)
    | extract_lets +onlyGivenNames _
    | with_reducible apply Within.refl
    | with_reducible assumption
    | decide
    | with_reducible apply Within.step (Chip.markBroken_within _ _ _)
    | (with_reducible apply Within.each; rotate_left; intro _ _ _)
    | split

theorem Chip.setSensor_within (s : Chip) (k : Nat) (r : SensorState) :
    Within 0 0x2000 s (Chip.setSensor s k r) := by
  unfold Chip.setSensor
  repeat' first
    | (extract_lets +onlyGivenNames x; refine .cut (x := x) ?_ ?_; rotate_left; clear_value x; intro _; rotate_left; subst x)
    | (extract_lets +onlyGivenNames x; refine .cut (x := x.2) ?_ ?_; rotate_left; clear_value x; intro _; rotate_left; subst x)
    | (extract_lets +onlyGivenNames x; refine .cut (x := x.2.2) ?_ ?_; rotate_left; clear_value x; intro _; rotate_left; subst x)
    | (extract_lets +onlyGivenNames x; clear_value x)
    | extract_lets +onlyGivenNames _
    | with_reducible apply Within.refl
    | with_reducible assumption
    | decide
    | split
    | with_reducible apply Within.set_thermal

theorem Chip.checkLimit_within (s : Chip) (k : Nat) :
    Within 0x800000000000000000000000000000000000000000000000000000000000000000000000000000000000000000000000000000000000000000000000000000000000000000000 0x2800 s (Chip.checkLimit s k) := by
  unfold Chip.checkLimit
  repeat' first
    | (extract_lets +onlyGivenNames x; refine .cut (x := x) ?_ ?_; rotate_left; clear_value x; intro _; rotate_left; subst x)
    | (extract_lets +onlyGivenNames x; refine .cut (x := x.2) ?_ ?_; rotate_left; clear_value x; intro _; rotate_left; subst x)
    | (extract_lets +onlyGivenNames x; refine .cut (x := x.2.2) ?_ ?_; rotate_left; clear_value x; intro _; rotate_left; subst x)
    | (extract_lets +onlyGivenNames x; clear_value x)
    | extract_lets +onlyGivenNames _
    | with_reducible apply Within.refl
    | with_reducible assumption
    | decide
    | with_reducible apply Within.step (Chip.raise_within _ _)
    | with_reducible apply Within.step (Chip.setSensor_within _ _ _)
    | with_reducible apply Within.wrFlag
    | with_reducible apply Within.wr
    | split

theorem Chip.checkRate_within (s : Chip) (k : Nat) :
    Within 0x1000000000000000000000000000000000000000000000000000000000000000000000000000000000000000000000000000000000000000000000000000000000000000000000 0x2800 s (Chip.checkRate s k) := by
  unfold Chip.checkRate
  repeat' first
    | (extract_lets +onlyGivenNames x; refine .cut (x := x) ?_ ?_; rotate_left; clear_value x; intro _; rotate_left; subst x)
    | (extract_lets +onlyGivenNames x; refine .cut (x := x.2) ?_ ?_; rotate_left; clear_value x; intro _; rotate_left; subst x)
    | (extract_lets +onlyGivenNames x; refine .cut (x := x.2.2) ?_ ?_; rotate_left; clear_value x; intro _; rotate_left; subst x)
    | (extract_lets +onlyGivenNames x; clear_value x)
    | extract_lets +onlyGivenNames _
    | with_reducible apply Within.refl
    | with_reducible assumption
    | decide
    | with_reducible apply Within.step (Chip.raise_within _ _)
    | with_reducible apply Within.step (Chip.setSensor_within _ _ _)
    | with_reducible apply Within.wrFlag
    | with_reducible apply Within.wr
    | split

theorem Chip.shutdownStep3_within (s : Chip) :
    Within 0x2c0000000000000000000000000000000200000000000000000000046c000000019000080000000000008000000000000000000000800004000000000000002000000020000000000000000030078000000 0x83a9a0 s (Chip.shutdownStep3 s) := by
  unfold Chip.shutdownStep3
  repeat' first
    | (extract_lets +onlyGivenNames x; refine .cut (x := x) ?_ ?_; rotate_left; clear_value x; intro _; rotate_left; subst x)
    | (extract_lets +onlyGivenNames x; refine .cut (x := x.2) ?_ ?_; rotate_left; clear_value x; intro _; rotate_left; subst x)
    | (extract_lets +onlyGivenNames x; refine .cut (x := x.2.2) ?_ ?_; rotate_left; clear_value x; intro _; rotate_left; subst x)
    | (extract_lets +onlyGivenNames x; clear_value x)
    | extract_lets +onlyGivenNames _
    | with_reducible apply Within.refl
    | with_reducible assumption
    | decide
    | with_reducible apply Within.step (Chip.enterSafeHold_within _ _)
    | with_reducible apply Within.step (Chip.raise_within _ _)
    | with_reducible apply Within.wr
    | split

theorem Chip.declareShutdown_within (s : Chip) (k : Nat) :
    Within 0x2c0000000000000000000000008000003600000000000000000000046c000000019000080000000000008000000000000000000000800004000000000000002000000020000000000000000030078000000 0x83a9a0 s (Chip.declareShutdown s k) := by
  unfold Chip.declareShutdown
  repeat' first
    | (extract_lets +onlyGivenNames x; refine .cut (x := x) ?_ ?_; rotate_left; clear_value x; intro _; rotate_left; subst x)
    | (extract_lets +onlyGivenNames x; refine .cut (x := x.2) ?_ ?_; rotate_left; clear_value x; intro _; rotate_left; subst x)
    | (extract_lets +onlyGivenNames x; refine .cut (x := x.2.2) ?_ ?_; rotate_left; clear_value x; intro _; rotate_left; subst x)
    | (extract_lets +onlyGivenNames x; clear_value x)
    | extract_lets +onlyGivenNames _
    | with_reducible apply Within.refl
    | with_reducible assumption
    | decide
    | with_reducible apply Within.step (Chip.raise_within _ _)
    | with_reducible apply Within.step (Chip.shutdownStep3_within _)
    | with_reducible apply Within.count
    | with_reducible apply Within.wr
    | split
    | with_reducible apply Within.set_thermal

theorem Chip.checkShutdown_within (s : Chip) :
    Within 0x2c0000000000000000000000008000003600000000000000000000046c000000019000080000000000008000000000000000000000800004000000000000002000000020000000000000000030078000000 0x83a9a0 s (Chip.checkShutdown s) := by
  unfold Chip.checkShutdown
  repeat' first
    | (extract_lets +onlyGivenNames x; refine .cut (x := x) ?_ ?_; rotate_left; clear_value x; intro _; rotate_left; subst x)
    | (extract_lets +onlyGivenNames x; refine .cut (x := x.2) ?_ ?_; rotate_left; clear_value x; intro _; rotate_left; subst x)
    | (extract_lets +onlyGivenNames x; refine .cut (x := x.2.2) ?_ ?_; rotate_left; clear_value x; intro _; rotate_left; subst x)
    | (extract_lets +onlyGivenNames x; clear_value x)
    | extract_lets +onlyGivenNames _
    | with_reducible apply Within.refl
    | with_reducible assumption
    | decide
    | with_reducible apply Within.step (Chip.declareShutdown_within _ _)
    | split
    | with_reducible apply Within.set_thermal

theorem Chip.checkRearm_within (s : Chip) :
    Within 0x88000000000000000000000000000000000000000000000000000000000000000000000000000000000000000000000000000000000000000000000000000000000 0x2000 s (Chip.checkRearm s) := by
  unfold Chip.checkRearm
  repeat' first
    | (extract_lets +onlyGivenNames x; refine .cut (x := x) ?_ ?_; rotate_left; clear_value x; intro _; rotate_left; subst x)
    | (extract_lets +onlyGivenNames x; refine .cut (x := x.2) ?_ ?_; rotate_left; clear_value x; intro _; rotate_left; subst x)
    | (extract_lets +onlyGivenNames x; refine .cut (x := x.2.2) ?_ ?_; rotate_left; clear_value x; intro _; rotate_left; subst x)
    | (extract_lets +onlyGivenNames x; clear_value x)
    | extract_lets +onlyGivenNames _
    | with_reducible apply Within.refl
    | with_reducible assumption
    | decide
    | with_reducible apply Within.wrFlag
    | with_reducible apply Within.wr
    | split
    | with_reducible apply Within.set_thermal

theorem Chip.showReef_within (s : Chip) :
    Within 0x200000000000000000000000000000000000000000000000000000000000000000000000000000000000000000000000000000000000000000000000000000000000 0 s (Chip.showReef s) := by
  unfold Chip.showReef
  repeat' first
    | (extract_lets +onlyGivenNames x; refine .cut (x := x) ?_ ?_; rotate_left; clear_value x; intro _; rotate_left; subst x)
    | (extract_lets +onlyGivenNames x; refine .cut (x := x.2) ?_ ?_; rotate_left; clear_value x; intro _; rotate_left; subst x)
    | (extract_lets +onlyGivenNames x; refine .cut (x := x.2.2) ?_ ?_; rotate_left; clear_value x; intro _; rotate_left; subst x)
    | (extract_lets +onlyGivenNames x; clear_value x)
    | extract_lets +onlyGivenNames _
    | with_reducible apply Within.refl
    | with_reducible assumption
    | decide
    | with_reducible apply Within.wr
    | split

theorem Chip.checkReef_within (s : Chip) :
    Within 0x600000000000000000000000000000000000000000000000000000000000000000000000000000000000000000000000000000000000000000000000000000000000 0x2000 s (Chip.checkReef s) := by
  unfold Chip.checkReef
  repeat' first
    | (extract_lets +onlyGivenNames x; refine .cut (x := x) ?_ ?_; rotate_left; clear_value x; intro _; rotate_left; subst x)
    | (extract_lets +onlyGivenNames x; refine .cut (x := x.2) ?_ ?_; rotate_left; clear_value x; intro _; rotate_left; subst x)
    | (extract_lets +onlyGivenNames x; refine .cut (x := x.2.2) ?_ ?_; rotate_left; clear_value x; intro _; rotate_left; subst x)
    | (extract_lets +onlyGivenNames x; clear_value x)
    | extract_lets +onlyGivenNames _
    | with_reducible apply Within.refl
    | with_reducible assumption
    | decide
    | with_reducible apply Within.step (Chip.showReef_within _)
    | with_reducible apply Within.wrInt
    | split
    | with_reducible apply Within.set_thermal

theorem Chip.checkCalm_within (s : Chip) :
    Within 0 0x2000 s (Chip.checkCalm s) := by
  unfold Chip.checkCalm
  repeat' first
    | (extract_lets +onlyGivenNames x; refine .cut (x := x) ?_ ?_; rotate_left; clear_value x; intro _; rotate_left; subst x)
    | (extract_lets +onlyGivenNames x; refine .cut (x := x.2) ?_ ?_; rotate_left; clear_value x; intro _; rotate_left; subst x)
    | (extract_lets +onlyGivenNames x; refine .cut (x := x.2.2) ?_ ?_; rotate_left; clear_value x; intro _; rotate_left; subst x)
    | (extract_lets +onlyGivenNames x; clear_value x)
    | extract_lets +onlyGivenNames _
    | with_reducible apply Within.refl
    | with_reducible assumption
    | decide
    | split
    | with_reducible apply Within.set_thermal

theorem Chip.checkCharger_within (s : Chip) :
    Within 0x4501000000000000000000000000000000000000000000000000000000000000000000000000000000000000000000000000000000000000000000000000000000000000 0x2800 s (Chip.checkCharger s) := by
  unfold Chip.checkCharger
  repeat' first
    | (extract_lets +onlyGivenNames x; refine .cut (x := x) ?_ ?_; rotate_left; clear_value x; intro _; rotate_left; subst x)
    | (extract_lets +onlyGivenNames x; refine .cut (x := x.2) ?_ ?_; rotate_left; clear_value x; intro _; rotate_left; subst x)
    | (extract_lets +onlyGivenNames x; refine .cut (x := x.2.2) ?_ ?_; rotate_left; clear_value x; intro _; rotate_left; subst x)
    | (extract_lets +onlyGivenNames x; clear_value x)
    | extract_lets +onlyGivenNames _
    | with_reducible apply Within.refl
    | with_reducible assumption
    | decide
    | with_reducible apply Within.step (Chip.askLeave_within _ _)
    | with_reducible apply Within.step (Chip.dropRequest_within _ _)
    | with_reducible apply Within.step (Chip.raiseRigging_within _ _)
    | with_reducible apply Within.step (Chip.returnLeave_within _ _)
    | with_reducible apply Within.wr
    | split
    | with_reducible apply Within.set_thermal

theorem Chip.evaluate_within (s : Chip) (raw : List SensorReading) :
    Within 0x2c00000000000000000007e000a45016fe00000000000000000000046c000000019000080000000000008000000000000000000000800004000000000000002000000020000000000000000030078000000 0x83a9a0 s (Chip.evaluate s raw) := by
  unfold Chip.evaluate
  repeat' first
    | (extract_lets +onlyGivenNames x; refine .cut (x := x) ?_ ?_; rotate_left; clear_value x; intro _; rotate_left; subst x)
    | (extract_lets +onlyGivenNames x; refine .cut (x := x.2) ?_ ?_; rotate_left; clear_value x; intro _; rotate_left; subst x)
    | (extract_lets +onlyGivenNames x; refine .cut (x := x.2.2) ?_ ?_; rotate_left; clear_value x; intro _; rotate_left; subst x)
    | (extract_lets +onlyGivenNames x; clear_value x)
    | extract_lets +onlyGivenNames _
    | with_reducible apply Within.refl
    | with_reducible assumption
    | decide
    | with_reducible apply Within.step (Chip.checkCalm_within _)
    | with_reducible apply Within.step (Chip.checkCharger_within _)
    | with_reducible apply Within.step (Chip.checkHood_within _ _)
    | with_reducible apply Within.step (Chip.checkLimit_within _ _)
    | with_reducible apply Within.step (Chip.checkRate_within _ _)
    | with_reducible apply Within.step (Chip.checkRearm_within _)
    | with_reducible apply Within.step (Chip.checkReef_within _)
    | with_reducible apply Within.step (Chip.checkShutdown_within _)
    | with_reducible apply Within.step (Chip.granary_within _)
    | with_reducible apply Within.step (Chip.takeReading_within _ _ _)
    | with_reducible apply Within.wrFlag
    | with_reducible apply Within.wrInt
    | (with_reducible apply Within.each; rotate_left; intro _ _ _)
    | (with_reducible apply Within.onlyIf; rotate_left; intro _ _)
    | split
    | with_reducible apply Within.set_thermal

theorem Chip.thermalEvaluation_within (s : Chip) (raw : List SensorReading) :
    Within 0x2c00000000000000000007e000a45016fe00000000000000000000046c000000019000080000000000008000000000000000000000800004000000000000002000000020000000000000000030078000000 0x83a9a0 s (Chip.thermalEvaluation s raw) := by
  unfold Chip.thermalEvaluation
  repeat' first
    | (extract_lets +onlyGivenNames x; refine .cut (x := x) ?_ ?_; rotate_left; clear_value x; intro _; rotate_left; subst x)
    | (extract_lets +onlyGivenNames x; refine .cut (x := x.2) ?_ ?_; rotate_left; clear_value x; intro _; rotate_left; subst x)
    | (extract_lets +onlyGivenNames x; refine .cut (x := x.2.2) ?_ ?_; rotate_left; clear_value x; intro _; rotate_left; subst x)
    | (extract_lets +onlyGivenNames x; clear_value x)
    | extract_lets +onlyGivenNames _
    | with_reducible apply Within.refl
    | with_reducible assumption
    | decide
    | with_reducible apply Within.step (Chip.evaluate_within _ _)
    | split
    | with_reducible apply Within.set_thermal

theorem Chip.reefForcedClear_within (s : Chip) :
    Within 0x300000000000000000000000000000000000000000000000000000000000000000000000000000000000000000000000000000000000000000000000000000000000 0 s (Chip.reefForcedClear s) := by
  unfold Chip.reefForcedClear
  repeat' first
    | (extract_lets +onlyGivenNames x; refine .cut (x := x) ?_ ?_; rotate_left; clear_value x; intro _; rotate_left; subst x)
    | (extract_lets +onlyGivenNames x; refine .cut (x := x.2) ?_ ?_; rotate_left; clear_value x; intro _; rotate_left; subst x)
    | (extract_lets +onlyGivenNames x; refine .cut (x := x.2.2) ?_ ?_; rotate_left; clear_value x; intro _; rotate_left; subst x)
    | (extract_lets +onlyGivenNames x; clear_value x)
    | extract_lets +onlyGivenNames _
    | with_reducible apply Within.refl
    | with_reducible assumption
    | decide
    | with_reducible apply Within.step (Chip.showReef_within _)
    | with_reducible apply Within.wr
    | split

theorem Chip.forceReef_within (s : Chip) :
    Within 0x300000000000000000000000000000000000000000000000000000000000000000000000000000000000000000000000000000000000000000000000000000000000 0x2000 s (Chip.forceReef s) := by
  unfold Chip.forceReef
  repeat' first
    | (extract_lets +onlyGivenNames x; refine .cut (x := x) ?_ ?_; rotate_left; clear_value x; intro _; rotate_left; subst x)
    | (extract_lets +onlyGivenNames x; refine .cut (x := x.2) ?_ ?_; rotate_left; clear_value x; intro _; rotate_left; subst x)
    | (extract_lets +onlyGivenNames x; refine .cut (x := x.2.2) ?_ ?_; rotate_left; clear_value x; intro _; rotate_left; subst x)
    | (extract_lets +onlyGivenNames x; clear_value x)
    | extract_lets +onlyGivenNames _
    | with_reducible apply Within.refl
    | with_reducible assumption
    | decide
    | with_reducible apply Within.step (Chip.showReef_within _)
    | with_reducible apply Within.wr
    | split
    | with_reducible apply Within.set_thermal

theorem Chip.holdReadyChange_within (s : Chip) (mv : Nat) :
    Within 0x18000000000000000000000000000000000000000000000000000000000000000000000000000000000000000000000000000000000000000000000000000000000000000 0x2000 s (Chip.holdReadyChange s mv) := by
  unfold Chip.holdReadyChange
  repeat' first
    | (extract_lets +onlyGivenNames x; refine .cut (x := x) ?_ ?_; rotate_left; clear_value x; intro _; rotate_left; subst x)
    | (extract_lets +onlyGivenNames x; refine .cut (x := x.2) ?_ ?_; rotate_left; clear_value x; intro _; rotate_left; subst x)
    | (extract_lets +onlyGivenNames x; refine .cut (x := x.2.2) ?_ ?_; rotate_left; clear_value x; intro _; rotate_left; subst x)
    | (extract_lets +onlyGivenNames x; clear_value x)
    | extract_lets +onlyGivenNames _
    | with_reducible apply Within.refl
    | with_reducible assumption
    | decide
    | with_reducible apply Within.wr
    | split
    | with_reducible apply Within.set_thermal

theorem Chip.holdReadyTimeout_within (s : Chip) :
    Within 0 0x2800 s (Chip.holdReadyTimeout s) := by
  unfold Chip.holdReadyTimeout
  repeat' first
    | (extract_lets +onlyGivenNames x; refine .cut (x := x) ?_ ?_; rotate_left; clear_value x; intro _; rotate_left; subst x)
    | (extract_lets +onlyGivenNames x; refine .cut (x := x.2) ?_ ?_; rotate_left; clear_value x; intro _; rotate_left; subst x)
    | (extract_lets +onlyGivenNames x; refine .cut (x := x.2.2) ?_ ?_; rotate_left; clear_value x; intro _; rotate_left; subst x)
    | (extract_lets +onlyGivenNames x; clear_value x)
    | extract_lets +onlyGivenNames _
    | with_reducible apply Within.refl
    | with_reducible assumption
    | decide
    | with_reducible apply Within.step (Chip.raiseRigging_within _ _)
    | split
    | with_reducible apply Within.set_thermal

end Sys2Proof.Machine
end

