-- ==== Sys2Proof/Laws/FrameLanes.lean ====
section
/-! SUPPORT. The frames of the operations of Machine/Lanes.lean: the fields and the parts of the state each may change. -/

set_option linter.tactic.unusedName false

namespace Sys2Proof.Machine

theorem Chip.setLaneReady_within (s : Chip) (n : Nat) (b : Bool) :
    Within 0x800000000000000000000000000000000000000000000000000000000000000000000000000000000000001000000000000002380000000000 0x20 s (Chip.setLaneReady s n b) := by
  unfold Chip.setLaneReady
  repeat' first
    | (extract_lets +onlyGivenNames x; refine .cut (x := x) ?_ ?_; rotate_left; clear_value x; intro _; rotate_left; subst x)
    | (extract_lets +onlyGivenNames x; refine .cut (x := x.2) ?_ ?_; rotate_left; clear_value x; intro _; rotate_left; subst x)
    | (extract_lets +onlyGivenNames x; refine .cut (x := x.2.2) ?_ ?_; rotate_left; clear_value x; intro _; rotate_left; subst x)
    | (extract_lets +onlyGivenNames x; clear_value x)
    | extract_lets +onlyGivenNames _
    | with_reducible apply Within.refl
    | with_reducible assumption
    | decide
    | with_reducible apply Within.step (Chip.unusable_within _ _)
    | with_reducible apply Within.wrFlag
    | with_reducible apply Within.wrBit
    | (with_reducible apply Within.onlyIf; rotate_left; intro _ _)
    | split

theorem Chip.cellLost_within (s : Chip) (nn : Nat) :
    Within 0x1e000000000000000000000000000000000000000000000000000000 0x200 s (Chip.cellLost s nn) := by
  unfold Chip.cellLost
  repeat' first
    | (extract_lets +onlyGivenNames x; refine .cut (x := x) ?_ ?_; rotate_left; clear_value x; intro _; rotate_left; subst x)
    | (extract_lets +onlyGivenNames x; refine .cut (x := x.2) ?_ ?_; rotate_left; clear_value x; intro _; rotate_left; subst x)
    | (extract_lets +onlyGivenNames x; refine .cut (x := x.2.2) ?_ ?_; rotate_left; clear_value x; intro _; rotate_left; subst x)
    | (extract_lets +onlyGivenNames x; clear_value x)
    | extract_lets +onlyGivenNames _
    | with_reducible apply Within.refl
    | with_reducible assumption
    | decide
    | with_reducible apply Within.step (Chip.setCell_within _ _ _)
    | with_reducible apply Within.wr
    | split

theorem Chip.laneDown_within (s : Chip) (n : Nat) :
    Within 0x80000000000000000000000000000000000000000000000000000000001e000000000000000000000000001000000000000002380000000000 0x220 s (Chip.laneDown s n) := by
  unfold Chip.laneDown
  repeat' first
    | (extract_lets +onlyGivenNames x; refine .cut (x := x) ?_ ?_; rotate_left; clear_value x; intro _; rotate_left; subst x)
    | (extract_lets +onlyGivenNames x; refine .cut (x := x.2) ?_ ?_; rotate_left; clear_value x; intro _; rotate_left; subst x)
    | (extract_lets +onlyGivenNames x; refine .cut (x := x.2.2) ?_ ?_; rotate_left; clear_value x; intro _; rotate_left; subst x)
    | (extract_lets +onlyGivenNames x; clear_value x)
    | extract_lets +onlyGivenNames _
    | with_reducible apply Within.refl
    | with_reducible assumption
    | decide
    | with_reducible apply Within.step (Chip.cellLost_within _ _)
    | with_reducible apply Within.step (Chip.setLaneReady_within _ _ _)
    | split

theorem Chip.laneHold_within (s : Chip) (n : Nat) (reason : Nat) :
    Within 0x80000000000000000000000000000000000000000000000000000000001e000000000000000000000000061000000000000002380000000000 0xa20 s (Chip.laneHold s n reason) := by
  unfold Chip.laneHold
  repeat' first
    | (extract_lets +onlyGivenNames x; refine .cut (x := x) ?_ ?_; rotate_left; clear_value x; intro _; rotate_left; subst x)
    | (extract_lets +onlyGivenNames x; refine .cut (x := x.2) ?_ ?_; rotate_left; clear_value x; intro _; rotate_left; subst x)
    | (extract_lets +onlyGivenNames x; refine .cut (x := x.2.2) ?_ ?_; rotate_left; clear_value x; intro _; rotate_left; subst x)
    | (extract_lets +onlyGivenNames x; clear_value x)
    | extract_lets +onlyGivenNames _
    | with_reducible apply Within.refl
    | with_reducible assumption
    | decide
    | with_reducible apply Within.step (Chip.laneDown_within _ _)
    | with_reducible apply Within.step (Chip.raise_within _ _)
    | with_reducible apply Within.wr
    | split

theorem Chip.sendId_within (s : Chip) (n : Nat) (kind : Nat) (data : List Byte) :
    Within 0 0x1000080 s (Chip.sendId s n kind data) := by
  unfold Chip.sendId
  repeat' first
    | (extract_lets +onlyGivenNames x; refine .cut (x := x) ?_ ?_; rotate_left; clear_value x; intro _; rotate_left; subst x)
    | (extract_lets +onlyGivenNames x; refine .cut (x := x.2) ?_ ?_; rotate_left; clear_value x; intro _; rotate_left; subst x)
    | (extract_lets +onlyGivenNames x; refine .cut (x := x.2.2) ?_ ?_; rotate_left; clear_value x; intro _; rotate_left; subst x)
    | (extract_lets +onlyGivenNames x; clear_value x)
    | extract_lets +onlyGivenNames _
    | with_reducible apply Within.refl
    | with_reducible assumption
    | decide
    | with_reducible apply Within.step (Chip.putBlocks_within _ _ _)
    | split

theorem Chip.laneToHunt_within (s : Chip) (n : Nat) :
    Within 0x16e000000000000000000000000000 0x80 s (Chip.laneToHunt s n) := by
  unfold Chip.laneToHunt
  repeat' first
    | (extract_lets +onlyGivenNames x; refine .cut (x := x) ?_ ?_; rotate_left; clear_value x; intro _; rotate_left; subst x)
    | (extract_lets +onlyGivenNames x; refine .cut (x := x.2) ?_ ?_; rotate_left; clear_value x; intro _; rotate_left; subst x)
    | (extract_lets +onlyGivenNames x; refine .cut (x := x.2.2) ?_ ?_; rotate_left; clear_value x; intro _; rotate_left; subst x)
    | (extract_lets +onlyGivenNames x; clear_value x)
    | extract_lets +onlyGivenNames _
    | with_reducible apply Within.refl
    | with_reducible assumption
    | decide
    | with_reducible apply Within.step (Chip.sendIdle_within _ _)
    | with_reducible apply Within.step (Chip.setLane_within _ _ _)
    | with_reducible apply Within.wr
    | split

theorem Chip.laneReset_within (s : Chip) (n : Nat) :
    Within 0x80000000000000000000000000000000000000000000000000000000001e00000000000000000000000016f000000000000002380200000000 0x2a0 s (Chip.laneReset s n) := by
  unfold Chip.laneReset
  repeat' first
    | (extract_lets +onlyGivenNames x; refine .cut (x := x) ?_ ?_; rotate_left; clear_value x; intro _; rotate_left; subst x)
    | (extract_lets +onlyGivenNames x; refine .cut (x := x.2) ?_ ?_; rotate_left; clear_value x; intro _; rotate_left; subst x)
    | (extract_lets +onlyGivenNames x; refine .cut (x := x.2.2) ?_ ?_; rotate_left; clear_value x; intro _; rotate_left; subst x)
    | (extract_lets +onlyGivenNames x; clear_value x)
    | extract_lets +onlyGivenNames _
    | with_reducible apply Within.refl
    | with_reducible assumption
    | decide
    | with_reducible apply Within.step (Chip.laneDown_within _ _)
    | with_reducible apply Within.step (Chip.laneToHunt_within _ _)
    | with_reducible apply Within.wr
    | split

theorem Chip.laneTryMeasure_within (s : Chip) (n : Nat) :
    Within 0x20000000000000000000000000000 0 s (Chip.laneTryMeasure s n) := by
  unfold Chip.laneTryMeasure
  repeat' first
    | (extract_lets +onlyGivenNames x; refine .cut (x := x) ?_ ?_; rotate_left; clear_value x; intro _; rotate_left; subst x)
    | (extract_lets +onlyGivenNames x; refine .cut (x := x.2) ?_ ?_; rotate_left; clear_value x; intro _; rotate_left; subst x)
    | (extract_lets +onlyGivenNames x; refine .cut (x := x.2.2) ?_ ?_; rotate_left; clear_value x; intro _; rotate_left; subst x)
    | (extract_lets +onlyGivenNames x; clear_value x)
    | extract_lets +onlyGivenNames _
    | with_reducible apply Within.refl
    | with_reducible assumption
    | decide
    | with_reducible apply Within.wr
    | split

theorem Chip.noteHeader_within (s : Chip) (n : Nat) (b : LineBlock) :
    Within 0x2002000000000000000000000000000 0x80 s (Chip.noteHeader s n b) := by
  unfold Chip.noteHeader
  repeat' first
    | (extract_lets +onlyGivenNames x; refine .cut (x := x) ?_ ?_; rotate_left; clear_value x; intro _; rotate_left; subst x)
    | (extract_lets +onlyGivenNames x; refine .cut (x := x.2) ?_ ?_; rotate_left; clear_value x; intro _; rotate_left; subst x)
    | (extract_lets +onlyGivenNames x; refine .cut (x := x.2.2) ?_ ?_; rotate_left; clear_value x; intro _; rotate_left; subst x)
    | (extract_lets +onlyGivenNames x; clear_value x)
    | extract_lets +onlyGivenNames _
    | with_reducible apply Within.refl
    | with_reducible assumption
    | decide
    | with_reducible apply Within.step (Chip.setLane_within _ _ _)
    | with_reducible apply Within.wrFlag
    | with_reducible apply Within.count
    | split

theorem Chip.noteKind_within (s : Chip) (n : Nat) (b : LineBlock) :
    Within 0x2000000000000000000000000000000 0 s (Chip.noteKind s n b) := by
  unfold Chip.noteKind
  repeat' first
    | (extract_lets +onlyGivenNames x; refine .cut (x := x) ?_ ?_; rotate_left; clear_value x; intro _; rotate_left; subst x)
    | (extract_lets +onlyGivenNames x; refine .cut (x := x.2) ?_ ?_; rotate_left; clear_value x; intro _; rotate_left; subst x)
    | (extract_lets +onlyGivenNames x; refine .cut (x := x.2.2) ?_ ?_; rotate_left; clear_value x; intro _; rotate_left; subst x)
    | (extract_lets +onlyGivenNames x; clear_value x)
    | extract_lets +onlyGivenNames _
    | with_reducible apply Within.refl
    | with_reducible assumption
    | decide
    | with_reducible apply Within.count
    | (with_reducible apply Within.onlyIf; rotate_left; intro _ _)
    | split

theorem Chip.receiveRun_within (s : Chip) (n : Nat) (line : List Bool) :
    Within 0x3002000000000000000000000000000 0x80 s (Chip.receiveRun s n line).2.2 := by
  unfold Chip.receiveRun
  repeat' first
    | (extract_lets +onlyGivenNames x; refine .cut (x := x) ?_ ?_; rotate_left; clear_value x; intro _; rotate_left; subst x)
    | (extract_lets +onlyGivenNames x; refine .cut (x := x.2) ?_ ?_; rotate_left; clear_value x; intro _; rotate_left; subst x)
    | (extract_lets +onlyGivenNames x; refine .cut (x := x.2.2) ?_ ?_; rotate_left; clear_value x; intro _; rotate_left; subst x)
    | (extract_lets +onlyGivenNames x; clear_value x)
    | extract_lets +onlyGivenNames _
    | with_reducible apply Within.refl
    | with_reducible assumption
    | decide
    | with_reducible apply Within.step (Chip.noteHeader_within _ _ _)
    | with_reducible apply Within.step (Chip.noteKind_within _ _ _)
    | with_reducible apply Within.step (Chip.setLane_within _ _ _)
    | with_reducible apply Within.count
    | (with_reducible apply Within.each; rotate_left; intro _ _ _)
    | (with_reducible apply Within.onlyIf; rotate_left; intro _ _)
    | split

theorem Chip.declareLoss_within (s : Chip) (n : Nat) :
    Within 0x80000000000000000000000000000000000000000000000000000000001e0000000000000000000000001ef000000000000002380200000000 0x2a0 s (Chip.declareLoss s n) := by
  unfold Chip.declareLoss
  repeat' first
    | (extract_lets +onlyGivenNames x; refine .cut (x := x) ?_ ?_; rotate_left; clear_value x; intro _; rotate_left; subst x)
    | (extract_lets +onlyGivenNames x; refine .cut (x := x.2) ?_ ?_; rotate_left; clear_value x; intro _; rotate_left; subst x)
    | (extract_lets +onlyGivenNames x; refine .cut (x := x.2.2) ?_ ?_; rotate_left; clear_value x; intro _; rotate_left; subst x)
    | (extract_lets +onlyGivenNames x; clear_value x)
    | extract_lets +onlyGivenNames _
    | with_reducible apply Within.refl
    | with_reducible assumption
    | decide
    | with_reducible apply Within.step (Chip.laneReset_within _ _)
    | with_reducible apply Within.count
    | split

theorem Chip.receiveRuns_within (n : Nat) (fuel : Nat) (s : Chip) (line : List Bool) :
    Within 0x80000000000000000000000000000000000000000000000000000000001e0000000000000000000000031ef000000000000002380200000000 0x2a0 s (Chip.receiveRuns n fuel s line).2 := by
  induction fuel generalizing s line with
  | zero => exact .refl
  | succ _ ih =>
    unfold Chip.receiveRuns
    extract_lets +onlyGivenNames x
    have k : Within 0x80000000000000000000000000000000000000000000000000000000001e0000000000000000000000031ef000000000000002380200000000 0x2a0 s x.2.2 := .step (Chip.receiveRun_within _ _ _) .refl (by decide) (by decide)
    clear_value x
    split
    · exact .step (ih _ _) (.step (Chip.declareLoss_within _ _) k (by decide) (by decide)) (by decide) (by decide)
    · exact k

theorem Chip.receive_within (s : Chip) (n : Nat) (line : List Bool) :
    Within 0x80000000000000000000000000000000000000000000000000000000001e0000000000000000000000031ef000000000000002380200000000 0x2a0 s (Chip.receive s n line).2 := by
  unfold Chip.receive
  repeat' first
    | (extract_lets +onlyGivenNames x; refine .cut (x := x) ?_ ?_; rotate_left; clear_value x; intro _; rotate_left; subst x)
    | (extract_lets +onlyGivenNames x; refine .cut (x := x.2) ?_ ?_; rotate_left; clear_value x; intro _; rotate_left; subst x)
    | (extract_lets +onlyGivenNames x; refine .cut (x := x.2.2) ?_ ?_; rotate_left; clear_value x; intro _; rotate_left; subst x)
    | (extract_lets +onlyGivenNames x; clear_value x)
    | extract_lets +onlyGivenNames _
    | with_reducible apply Within.refl
    | with_reducible assumption
    | decide
    | with_reducible apply Within.step (Chip.receiveRuns_within _ _ _ _)
    | split

theorem Chip.laneBlockLock_within (s : Chip) (n : Nat) (line : List Bool) :
    Within 0x80000000000000000000000000000000000000000000000000000000001e0000000000000000000000031ef000000000000002380200000000 0x2a0 s (Chip.laneBlockLock s n line) := by
  unfold Chip.laneBlockLock
  repeat' first
    | (extract_lets +onlyGivenNames x; refine .cut (x := x) ?_ ?_; rotate_left; clear_value x; intro _; rotate_left; subst x)
    | (extract_lets +onlyGivenNames x; refine .cut (x := x.2) ?_ ?_; rotate_left; clear_value x; intro _; rotate_left; subst x)
    | (extract_lets +onlyGivenNames x; refine .cut (x := x.2.2) ?_ ?_; rotate_left; clear_value x; intro _; rotate_left; subst x)
    | (extract_lets +onlyGivenNames x; clear_value x)
    | extract_lets +onlyGivenNames _
    | with_reducible apply Within.refl
    | with_reducible assumption
    | decide
    | with_reducible apply Within.step (Chip.laneTryMeasure_within _ _)
    | with_reducible apply Within.step (Chip.receive_within _ _ _)
    | split

theorem Chip.laneLossOfLock_within (s : Chip) (n : Nat) (line : List Bool) (signalLost : Bool) :
    Within 0x80000000000000000000000000000000000000000000000000000000001e0000000000000000000000031ef000000000000002380200000000 0x2a0 s (Chip.laneLossOfLock s n line signalLost) := by
  unfold Chip.laneLossOfLock
  repeat' first
    | (extract_lets +onlyGivenNames x; refine .cut (x := x) ?_ ?_; rotate_left; clear_value x; intro _; rotate_left; subst x)
    | (extract_lets +onlyGivenNames x; refine .cut (x := x.2) ?_ ?_; rotate_left; clear_value x; intro _; rotate_left; subst x)
    | (extract_lets +onlyGivenNames x; refine .cut (x := x.2.2) ?_ ?_; rotate_left; clear_value x; intro _; rotate_left; subst x)
    | (extract_lets +onlyGivenNames x; clear_value x)
    | extract_lets +onlyGivenNames _
    | with_reducible apply Within.refl
    | with_reducible assumption
    | decide
    | with_reducible apply Within.step (Chip.declareLoss_within _ _)
    | with_reducible apply Within.step (Chip.receive_within _ _ _)
    | split

theorem Chip.loopTimedTimeout_within (s : Chip) (n : Nat) :
    Within 0x80000000000000000000000000000000000000000000000000000000001e000000000000000000000000061000000000000002380000000000 0xa20 s (Chip.loopTimedTimeout s n) := by
  unfold Chip.loopTimedTimeout
  repeat' first
    | (extract_lets +onlyGivenNames x; refine .cut (x := x) ?_ ?_; rotate_left; clear_value x; intro _; rotate_left; subst x)
    | (extract_lets +onlyGivenNames x; refine .cut (x := x.2) ?_ ?_; rotate_left; clear_value x; intro _; rotate_left; subst x)
    | (extract_lets +onlyGivenNames x; refine .cut (x := x.2.2) ?_ ?_; rotate_left; clear_value x; intro _; rotate_left; subst x)
    | (extract_lets +onlyGivenNames x; clear_value x)
    | extract_lets +onlyGivenNames _
    | with_reducible apply Within.refl
    | with_reducible assumption
    | decide
    | with_reducible apply Within.step (Chip.laneHold_within _ _ _)
    | split

theorem Chip.takeIdle_within (s : Chip) (n : Nat) (b : LineBlock) :
    Within 0x2c000000000000000000000000000 0 s (Chip.takeIdle s n b) := by
  unfold Chip.takeIdle
  repeat' first
    | (extract_lets +onlyGivenNames x; refine .cut (x := x) ?_ ?_; rotate_left; clear_value x; intro _; rotate_left; subst x)
    | (extract_lets +onlyGivenNames x; refine .cut (x := x.2) ?_ ?_; rotate_left; clear_value x; intro _; rotate_left; subst x)
    | (extract_lets +onlyGivenNames x; refine .cut (x := x.2.2) ?_ ?_; rotate_left; clear_value x; intro _; rotate_left; subst x)
    | (extract_lets +onlyGivenNames x; clear_value x)
    | extract_lets +onlyGivenNames _
    | with_reducible apply Within.refl
    | with_reducible assumption
    | decide
    | with_reducible apply Within.step (Chip.laneTryMeasure_within _ _)
    | with_reducible apply Within.wrFlag
    | split

theorem Chip.idleBlock_within (s : Chip) (n : Nat) (line : List Bool) :
    Within 0x80000000000000000000000000000000000000000000000000000000001e0000000000000000000000031ef000000000000002380200000000 0x2a0 s (Chip.idleBlock s n line) := by
  unfold Chip.idleBlock
  repeat' first
    | (extract_lets +onlyGivenNames x; refine .cut (x := x) ?_ ?_; rotate_left; clear_value x; intro _; rotate_left; subst x)
    | (extract_lets +onlyGivenNames x; refine .cut (x := x.2) ?_ ?_; rotate_left; clear_value x; intro _; rotate_left; subst x)
    | (extract_lets +onlyGivenNames x; refine .cut (x := x.2.2) ?_ ?_; rotate_left; clear_value x; intro _; rotate_left; subst x)
    | (extract_lets +onlyGivenNames x; clear_value x)
    | extract_lets +onlyGivenNames _
    | with_reducible apply Within.refl
    | with_reducible assumption
    | decide
    | with_reducible apply Within.step (Chip.receive_within _ _ _)
    | with_reducible apply Within.step (Chip.takeIdle_within _ _ _)
    | (with_reducible apply Within.each; rotate_left; intro _ _ _)
    | split

theorem Chip.sendEchoBlock_within (s : Chip) (n : Nat) (tag : Nat) :
    Within 0 0x1000080 s (Chip.sendEchoBlock s n tag) := by
  unfold Chip.sendEchoBlock
  repeat' first
    | (extract_lets +onlyGivenNames x; refine .cut (x := x) ?_ ?_; rotate_left; clear_value x; intro _; rotate_left; subst x)
    | (extract_lets +onlyGivenNames x; refine .cut (x := x.2) ?_ ?_; rotate_left; clear_value x; intro _; rotate_left; subst x)
    | (extract_lets +onlyGivenNames x; refine .cut (x := x.2.2) ?_ ?_; rotate_left; clear_value x; intro _; rotate_left; subst x)
    | (extract_lets +onlyGivenNames x; clear_value x)
    | extract_lets +onlyGivenNames _
    | with_reducible apply Within.refl
    | with_reducible assumption
    | decide
    | with_reducible apply Within.step (Chip.putBlocks_within _ _ _)
    | split

theorem Chip.echoSend_within (s : Chip) (n : Nat) (tTx : Nat) :
    Within 0 0x1000080 s (Chip.echoSend s n tTx) := by
  unfold Chip.echoSend
  repeat' first
    | (extract_lets +onlyGivenNames x; refine .cut (x := x) ?_ ?_; rotate_left; clear_value x; intro _; rotate_left; subst x)
    | (extract_lets +onlyGivenNames x; refine .cut (x := x.2) ?_ ?_; rotate_left; clear_value x; intro _; rotate_left; subst x)
    | (extract_lets +onlyGivenNames x; refine .cut (x := x.2.2) ?_ ?_; rotate_left; clear_value x; intro _; rotate_left; subst x)
    | (extract_lets +onlyGivenNames x; clear_value x)
    | extract_lets +onlyGivenNames _
    | with_reducible apply Within.refl
    | with_reducible assumption
    | decide
    | with_reducible apply Within.step (Chip.sendEchoBlock_within _ _ _)
    | with_reducible apply Within.step (Chip.setLane_within _ _ _)
    | split

theorem Chip.laneEnterReady_within (s : Chip) (n : Nat) :
    Within 0x4501000000000000000000800000000000000000000000000000000000000000000000000000000000000000000000000000000000021000000000000002380000000000 0x20a0 s (Chip.laneEnterReady s n) := by
  unfold Chip.laneEnterReady
  repeat' first
    | (extract_lets +onlyGivenNames x; refine .cut (x := x) ?_ ?_; rotate_left; clear_value x; intro _; rotate_left; subst x)
    | (extract_lets +onlyGivenNames x; refine .cut (x := x.2) ?_ ?_; rotate_left; clear_value x; intro _; rotate_left; subst x)
    | (extract_lets +onlyGivenNames x; refine .cut (x := x.2.2) ?_ ?_; rotate_left; clear_value x; intro _; rotate_left; subst x)
    | (extract_lets +onlyGivenNames x; clear_value x)
    | extract_lets +onlyGivenNames _
    | with_reducible apply Within.refl
    | with_reducible assumption
    | decide
    | with_reducible apply Within.step (Chip.dropRequest_within _ _)
    | with_reducible apply Within.step (Chip.returnLeave_within _ _)
    | with_reducible apply Within.step (Chip.setLane_within _ _ _)
    | with_reducible apply Within.step (Chip.setLaneReady_within _ _ _)
    | with_reducible apply Within.wr
    | split

theorem Chip.sendNonce_within (s : Chip) (n : Nat) :
    Within 0 0x1020080 s (Chip.sendNonce s n) := by
  unfold Chip.sendNonce
  repeat' first
    | (extract_lets +onlyGivenNames x; refine .cut (x := x) ?_ ?_; rotate_left; clear_value x; intro _; rotate_left; subst x)
    | (extract_lets +onlyGivenNames x; refine .cut (x := x.2) ?_ ?_; rotate_left; clear_value x; intro _; rotate_left; subst x)
    | (extract_lets +onlyGivenNames x; refine .cut (x := x.2.2) ?_ ?_; rotate_left; clear_value x; intro _; rotate_left; subst x)
    | (extract_lets +onlyGivenNames x; clear_value x)
    | extract_lets +onlyGivenNames _
    | with_reducible apply Within.refl
    | with_reducible assumption
    | decide
    | with_reducible apply Within.step (Chip.draw_within _)
    | with_reducible apply Within.step (Chip.sendId_within _ _ _ _)
    | split
    | with_reducible apply Within.set_halyard

theorem Chip.latencyFixed_within (s : Chip) (n : Nat) :
    Within 0x450100000000000000000080000000000000000000000000000000000000000000000000000000001e000000000000000000000000361000000000000002380000000000 0x1022aa0 s (Chip.latencyFixed s n) := by
  unfold Chip.latencyFixed
  repeat' first
    | (extract_lets +onlyGivenNames x; refine .cut (x := x) ?_ ?_; rotate_left; clear_value x; intro _; rotate_left; subst x)
    | (extract_lets +onlyGivenNames x; refine .cut (x := x.2) ?_ ?_; rotate_left; clear_value x; intro _; rotate_left; subst x)
    | (extract_lets +onlyGivenNames x; refine .cut (x := x.2.2) ?_ ?_; rotate_left; clear_value x; intro _; rotate_left; subst x)
    | (extract_lets +onlyGivenNames x; clear_value x)
    | extract_lets +onlyGivenNames _
    | with_reducible apply Within.refl
    | with_reducible assumption
    | decide
    | with_reducible apply Within.step (Chip.laneEnterReady_within _ _)
    | with_reducible apply Within.step (Chip.laneHold_within _ _ _)
    | with_reducible apply Within.step (Chip.sendNonce_within _ _)
    | with_reducible apply Within.step (Chip.setLane_within _ _ _)
    | with_reducible apply Within.wr
    | split

theorem Chip.driftWatch_within (s : Chip) (n : Nat) (loop : Int) (p : Nat) :
    Within 0x400000000000000000000000000000 0x880 s (Chip.driftWatch s n loop p) := by
  unfold Chip.driftWatch
  repeat' first
    | (extract_lets +onlyGivenNames x; refine .cut (x := x) ?_ ?_; rotate_left; clear_value x; intro _; rotate_left; subst x)
    | (extract_lets +onlyGivenNames x; refine .cut (x := x.2) ?_ ?_; rotate_left; clear_value x; intro _; rotate_left; subst x)
    | (extract_lets +onlyGivenNames x; refine .cut (x := x.2.2) ?_ ?_; rotate_left; clear_value x; intro _; rotate_left; subst x)
    | (extract_lets +onlyGivenNames x; clear_value x)
    | extract_lets +onlyGivenNames _
    | with_reducible apply Within.refl
    | with_reducible assumption
    | decide
    | with_reducible apply Within.step (Chip.raise_within _ _)
    | with_reducible apply Within.step (Chip.setLane_within _ _ _)
    | with_reducible apply Within.wr
    | split

theorem Chip.takeLoop_within (s : Chip) (n : Nat) (loop : Int) (p : Nat) :
    Within 0x450100000000000000000080000000000000000000000000000000000000000000000000000000001e000000000000000000000000f61000000000000002380000000000 0x1022aa0 s (Chip.takeLoop s n loop p) := by
  unfold Chip.takeLoop
  repeat' first
    | (extract_lets +onlyGivenNames x; refine .cut (x := x) ?_ ?_; rotate_left; clear_value x; intro _; rotate_left; subst x)
    | (extract_lets +onlyGivenNames x; refine .cut (x := x.2) ?_ ?_; rotate_left; clear_value x; intro _; rotate_left; subst x)
    | (extract_lets +onlyGivenNames x; refine .cut (x := x.2.2) ?_ ?_; rotate_left; clear_value x; intro _; rotate_left; subst x)
    | (extract_lets +onlyGivenNames x; clear_value x)
    | extract_lets +onlyGivenNames _
    | with_reducible apply Within.refl
    | with_reducible assumption
    | decide
    | with_reducible apply Within.step (Chip.driftWatch_within _ _ _ _)
    | with_reducible apply Within.step (Chip.latencyFixed_within _ _)
    | with_reducible apply Within.step (Chip.setLane_within _ _ _)
    | with_reducible apply Within.wrInt
    | split

theorem Chip.takeResponse_within (s : Chip) (n : Nat) (tRx : Nat) (b : LineBlock) :
    Within 0x450100000000000000000080000000000000000000000000000000000000000000000000000000001e000000000000000000000000f61000000000000002380000000000 0x1022aa0 s (Chip.takeResponse s n tRx b) := by
  unfold Chip.takeResponse
  repeat' first
    | (extract_lets +onlyGivenNames x; refine .cut (x := x) ?_ ?_; rotate_left; clear_value x; intro _; rotate_left; subst x)
    | (extract_lets +onlyGivenNames x; refine .cut (x := x.2) ?_ ?_; rotate_left; clear_value x; intro _; rotate_left; subst x)
    | (extract_lets +onlyGivenNames x; refine .cut (x := x.2.2) ?_ ?_; rotate_left; clear_value x; intro _; rotate_left; subst x)
    | (extract_lets +onlyGivenNames x; clear_value x)
    | extract_lets +onlyGivenNames _
    | with_reducible apply Within.refl
    | with_reducible assumption
    | decide
    | with_reducible apply Within.step (Chip.setLane_within _ _ _)
    | with_reducible apply Within.step (Chip.takeLoop_within _ _ _ _)
    | split

theorem Chip.echoResponse_within (s : Chip) (n : Nat) (line : List Bool) (tRx : Nat) :
    Within 0x450100000000000000000080000000000000000000000000000000000000000000000000000000001e000000000000000000000003fef000000000000002380200000000 0x1022aa0 s (Chip.echoResponse s n line tRx) := by
  unfold Chip.echoResponse
  repeat' first
    | (extract_lets +onlyGivenNames x; refine .cut (x := x) ?_ ?_; rotate_left; clear_value x; intro _; rotate_left; subst x)
    | (extract_lets +onlyGivenNames x; refine .cut (x := x.2) ?_ ?_; rotate_left; clear_value x; intro _; rotate_left; subst x)
    | (extract_lets +onlyGivenNames x; refine .cut (x := x.2.2) ?_ ?_; rotate_left; clear_value x; intro _; rotate_left; subst x)
    | (extract_lets +onlyGivenNames x; clear_value x)
    | extract_lets +onlyGivenNames _
    | with_reducible apply Within.refl
    | with_reducible assumption
    | decide
    | with_reducible apply Within.step (Chip.receive_within _ _ _)
    | with_reducible apply Within.step (Chip.takeResponse_within _ _ _ _)
    | (with_reducible apply Within.each; rotate_left; intro _ _ _)
    | split

theorem Chip.echoTimeout_within (s : Chip) (n : Nat) (tag : Nat) :
    Within 0x80000000000000000000000000000000000000000000000000000000001e000000000000000000000000061000000000000002380000000000 0xaa0 s (Chip.echoTimeout s n tag) := by
  unfold Chip.echoTimeout
  repeat' first
    | (extract_lets +onlyGivenNames x; refine .cut (x := x) ?_ ?_; rotate_left; clear_value x; intro _; rotate_left; subst x)
    | (extract_lets +onlyGivenNames x; refine .cut (x := x.2) ?_ ?_; rotate_left; clear_value x; intro _; rotate_left; subst x)
    | (extract_lets +onlyGivenNames x; refine .cut (x := x.2.2) ?_ ?_; rotate_left; clear_value x; intro _; rotate_left; subst x)
    | (extract_lets +onlyGivenNames x; clear_value x)
    | extract_lets +onlyGivenNames _
    | with_reducible apply Within.refl
    | with_reducible assumption
    | decide
    | with_reducible apply Within.step (Chip.laneHold_within _ _ _)
    | with_reducible apply Within.step (Chip.setLane_within _ _ _)
    | split

theorem Chip.echoRequest_within (s : Chip) (n : Nat) (tag : Nat) :
    Within 0 0x1000080 s (Chip.echoRequest s n tag) := by
  unfold Chip.echoRequest
  repeat' first
    | (extract_lets +onlyGivenNames x; refine .cut (x := x) ?_ ?_; rotate_left; clear_value x; intro _; rotate_left; subst x)
    | (extract_lets +onlyGivenNames x; refine .cut (x := x.2) ?_ ?_; rotate_left; clear_value x; intro _; rotate_left; subst x)
    | (extract_lets +onlyGivenNames x; refine .cut (x := x.2.2) ?_ ?_; rotate_left; clear_value x; intro _; rotate_left; subst x)
    | (extract_lets +onlyGivenNames x; clear_value x)
    | extract_lets +onlyGivenNames _
    | with_reducible apply Within.refl
    | with_reducible assumption
    | decide
    | with_reducible apply Within.step (Chip.draw_within _)
    | with_reducible apply Within.step (Chip.putBlocks_within _ _ _)
    | with_reducible apply Within.step (Chip.setLane_within _ _ _)
    | split

theorem Chip.fomUpdate_within (s : Chip) (n : Nat) (fom : Nat) :
    Within 0x100000000000000000000000000000000 0x880 s (Chip.fomUpdate s n fom) := by
  unfold Chip.fomUpdate
  repeat' first
    | (extract_lets +onlyGivenNames x; refine .cut (x := x) ?_ ?_; rotate_left; clear_value x; intro _; rotate_left; subst x)
    | (extract_lets +onlyGivenNames x; refine .cut (x := x.2) ?_ ?_; rotate_left; clear_value x; intro _; rotate_left; subst x)
    | (extract_lets +onlyGivenNames x; refine .cut (x := x.2.2) ?_ ?_; rotate_left; clear_value x; intro _; rotate_left; subst x)
    | (extract_lets +onlyGivenNames x; clear_value x)
    | extract_lets +onlyGivenNames _
    | with_reducible apply Within.refl
    | with_reducible assumption
    | decide
    | with_reducible apply Within.step (Chip.raise_within _ _)
    | with_reducible apply Within.step (Chip.setLane_within _ _ _)
    | with_reducible apply Within.wr
    | split

theorem Chip.eyeScanRequest_within (s : Chip) (n : Nat) :
    Within 0x4501000000000000000000000000000000000000000000000000000000000000000000000000000000000000000000000000000000000000000000000000000000000000 0x2000 s (Chip.eyeScanRequest s n) := by
  unfold Chip.eyeScanRequest
  repeat' first
    | (extract_lets +onlyGivenNames x; refine .cut (x := x) ?_ ?_; rotate_left; clear_value x; intro _; rotate_left; subst x)
    | (extract_lets +onlyGivenNames x; refine .cut (x := x.2) ?_ ?_; rotate_left; clear_value x; intro _; rotate_left; subst x)
    | (extract_lets +onlyGivenNames x; refine .cut (x := x.2.2) ?_ ?_; rotate_left; clear_value x; intro _; rotate_left; subst x)
    | (extract_lets +onlyGivenNames x; clear_value x)
    | extract_lets +onlyGivenNames _
    | with_reducible apply Within.refl
    | with_reducible assumption
    | decide
    | with_reducible apply Within.step (Chip.askLeave_within _ _)
    | split

theorem Chip.eyeScanInterval_within (s : Chip) (n : Nat) :
    Within 0x4501000000000000000000000000000000000000000000000000000000000000000000000000000000000000000000000000000000000000000000000000000000000000 0x2000 s (Chip.eyeScanInterval s n) := by
  unfold Chip.eyeScanInterval
  repeat' first
    | (extract_lets +onlyGivenNames x; refine .cut (x := x) ?_ ?_; rotate_left; clear_value x; intro _; rotate_left; subst x)
    | (extract_lets +onlyGivenNames x; refine .cut (x := x.2) ?_ ?_; rotate_left; clear_value x; intro _; rotate_left; subst x)
    | (extract_lets +onlyGivenNames x; refine .cut (x := x.2.2) ?_ ?_; rotate_left; clear_value x; intro _; rotate_left; subst x)
    | (extract_lets +onlyGivenNames x; clear_value x)
    | extract_lets +onlyGivenNames _
    | with_reducible apply Within.refl
    | with_reducible assumption
    | decide
    | with_reducible apply Within.step (Chip.eyeScanRequest_within _ _)
    | split

theorem Chip.eyeScanComplete_within (s : Chip) (n : Nat) (width : Nat) (height : Nat) :
    Within 0x45010000000000000000000000000000000000000000000000000000000000000000000000000000000000000000000000000000e0000000000000000000000000000000 0x2800 s (Chip.eyeScanComplete s n width height) := by
  unfold Chip.eyeScanComplete
  repeat' first
    | (extract_lets +onlyGivenNames x; refine .cut (x := x) ?_ ?_; rotate_left; clear_value x; intro _; rotate_left; subst x)
    | (extract_lets +onlyGivenNames x; refine .cut (x := x.2) ?_ ?_; rotate_left; clear_value x; intro _; rotate_left; subst x)
    | (extract_lets +onlyGivenNames x; refine .cut (x := x.2.2) ?_ ?_; rotate_left; clear_value x; intro _; rotate_left; subst x)
    | (extract_lets +onlyGivenNames x; clear_value x)
    | extract_lets +onlyGivenNames _
    | with_reducible apply Within.refl
    | with_reducible assumption
    | decide
    | with_reducible apply Within.step (Chip.raise_within _ _)
    | with_reducible apply Within.step (Chip.returnLeave_within _ _)
    | with_reducible apply Within.wr
    | (with_reducible apply Within.onlyIf; rotate_left; intro _ _)
    | split

theorem Chip.readaptRequest_within (s : Chip) (n : Nat) :
    Within 0x4501000000000000000000000000000000000000000000000000000000000000000000000000000000000000000000000000000000000000000000000000000000000000 0x2000 s (Chip.readaptRequest s n) := by
  unfold Chip.readaptRequest
  repeat' first
    | (extract_lets +onlyGivenNames x; refine .cut (x := x) ?_ ?_; rotate_left; clear_value x; intro _; rotate_left; subst x)
    | (extract_lets +onlyGivenNames x; refine .cut (x := x.2) ?_ ?_; rotate_left; clear_value x; intro _; rotate_left; subst x)
    | (extract_lets +onlyGivenNames x; refine .cut (x := x.2.2) ?_ ?_; rotate_left; clear_value x; intro _; rotate_left; subst x)
    | (extract_lets +onlyGivenNames x; clear_value x)
    | extract_lets +onlyGivenNames _
    | with_reducible apply Within.refl
    | with_reducible assumption
    | decide
    | with_reducible apply Within.step (Chip.askLeave_within _ _)
    | split

theorem Chip.endLaneWork_within (s : Chip) (n : Nat) :
    Within 0x4501000000000000000000000000000000000000000000000000000000000000000000000000000000000000000000000000000000000000000000000000000000000000 0x2000 s (Chip.endLaneWork s n) := by
  unfold Chip.endLaneWork
  repeat' first
    | (extract_lets +onlyGivenNames x; refine .cut (x := x) ?_ ?_; rotate_left; clear_value x; intro _; rotate_left; subst x)
    | (extract_lets +onlyGivenNames x; refine .cut (x := x.2) ?_ ?_; rotate_left; clear_value x; intro _; rotate_left; subst x)
    | (extract_lets +onlyGivenNames x; refine .cut (x := x.2.2) ?_ ?_; rotate_left; clear_value x; intro _; rotate_left; subst x)
    | (extract_lets +onlyGivenNames x; clear_value x)
    | extract_lets +onlyGivenNames _
    | with_reducible apply Within.refl
    | with_reducible assumption
    | decide
    | with_reducible apply Within.step (Chip.dropRequest_within _ _)
    | with_reducible apply Within.step (Chip.returnLeave_within _ _)
    | split

theorem Chip.readaptComplete_within (s : Chip) (n : Nat) :
    Within 0x4501000000000000000000000000000000000000000000000000000000000000000000000000000000000000000000000000000000000000000000000000000000000000 0x2000 s (Chip.readaptComplete s n) := by
  unfold Chip.readaptComplete
  repeat' first
    | (extract_lets +onlyGivenNames x; refine .cut (x := x) ?_ ?_; rotate_left; clear_value x; intro _; rotate_left; subst x)
    | (extract_lets +onlyGivenNames x; refine .cut (x := x.2) ?_ ?_; rotate_left; clear_value x; intro _; rotate_left; subst x)
    | (extract_lets +onlyGivenNames x; refine .cut (x := x.2.2) ?_ ?_; rotate_left; clear_value x; intro _; rotate_left; subst x)
    | (extract_lets +onlyGivenNames x; clear_value x)
    | extract_lets +onlyGivenNames _
    | with_reducible apply Within.refl
    | with_reducible assumption
    | decide
    | with_reducible apply Within.step (Chip.returnLeave_within _ _)
    | split

theorem Chip.baleReceived_within (s : Chip) (n : Nat) (line : List Bool) (late : Bool) :
    Within 0x80000000000000000000000000000000000000000000000000000000001e0000000000000000000006031ef000000000000002380200000040 0xaa0 s (Chip.baleReceived s n line late) := by
  unfold Chip.baleReceived
  repeat' first
    | (extract_lets +onlyGivenNames x; refine .cut (x := x) ?_ ?_; rotate_left; clear_value x; intro _; rotate_left; subst x)
    | (extract_lets +onlyGivenNames x; refine .cut (x := x.2) ?_ ?_; rotate_left; clear_value x; intro _; rotate_left; subst x)
    | (extract_lets +onlyGivenNames x; refine .cut (x := x.2.2) ?_ ?_; rotate_left; clear_value x; intro _; rotate_left; subst x)
    | (extract_lets +onlyGivenNames x; clear_value x)
    | extract_lets +onlyGivenNames _
    | with_reducible apply Within.refl
    | with_reducible assumption
    | decide
    | with_reducible apply Within.step (Chip.raise_within _ _)
    | with_reducible apply Within.step (Chip.receive_within _ _ _)
    | with_reducible apply Within.step (Chip.setLane_within _ _ _)
    | with_reducible apply Within.count
    | with_reducible apply Within.wr
    | split

theorem Chip.reportBale_within (s : Chip) (n : Nat) (b : Bale) :
    Within 0x5ff800000000000000000000000000000000 0 s (Chip.reportBale s n b) := by
  unfold Chip.reportBale
  repeat' first
    | (extract_lets +onlyGivenNames x; refine .cut (x := x) ?_ ?_; rotate_left; clear_value x; intro _; rotate_left; subst x)
    | (extract_lets +onlyGivenNames x; refine .cut (x := x.2) ?_ ?_; rotate_left; clear_value x; intro _; rotate_left; subst x)
    | (extract_lets +onlyGivenNames x; refine .cut (x := x.2.2) ?_ ?_; rotate_left; clear_value x; intro _; rotate_left; subst x)
    | (extract_lets +onlyGivenNames x; clear_value x)
    | extract_lets +onlyGivenNames _
    | with_reducible apply Within.refl
    | with_reducible assumption
    | decide
    | with_reducible apply Within.wrFlag
    | with_reducible apply Within.wrInt
    | with_reducible apply Within.wr
    | split

theorem Chip.raiseCell_within (s : Chip) (cell : Option Nat) (origin : Nat → Nat) :
    Within 0 0x800 s (Chip.raiseCell s cell origin) := by
  unfold Chip.raiseCell
  repeat' first
    | (extract_lets +onlyGivenNames x; refine .cut (x := x) ?_ ?_; rotate_left; clear_value x; intro _; rotate_left; subst x)
    | (extract_lets +onlyGivenNames x; refine .cut (x := x.2) ?_ ?_; rotate_left; clear_value x; intro _; rotate_left; subst x)
    | (extract_lets +onlyGivenNames x; refine .cut (x := x.2.2) ?_ ?_; rotate_left; clear_value x; intro _; rotate_left; subst x)
    | (extract_lets +onlyGivenNames x; clear_value x)
    | extract_lets +onlyGivenNames _
    | with_reducible apply Within.refl
    | with_reducible assumption
    | decide
    | with_reducible apply Within.step (Chip.raise_within _ _)
    | split

theorem Chip.timebaseWatch_within (s : Chip) (n : Nat) (b : Bale) :
    Within 0x200000000000000000000000000000000000 0x880 s (Chip.timebaseWatch s n b) := by
  unfold Chip.timebaseWatch
  repeat' first
    | (extract_lets +onlyGivenNames x; refine .cut (x := x) ?_ ?_; rotate_left; clear_value x; intro _; rotate_left; subst x)
    | (extract_lets +onlyGivenNames x; refine .cut (x := x.2) ?_ ?_; rotate_left; clear_value x; intro _; rotate_left; subst x)
    | (extract_lets +onlyGivenNames x; refine .cut (x := x.2.2) ?_ ?_; rotate_left; clear_value x; intro _; rotate_left; subst x)
    | (extract_lets +onlyGivenNames x; clear_value x)
    | extract_lets +onlyGivenNames _
    | with_reducible apply Within.refl
    | with_reducible assumption
    | decide
    | with_reducible apply Within.step (Chip.raiseCell_within _ _ _)
    | with_reducible apply Within.step (Chip.setLane_within _ _ _)
    | with_reducible apply Within.wr
    | split

theorem Chip.baleEvents_within (s : Chip) (n : Nat) (b : Bale) :
    Within 0x200000000000000000000000000000000000 0x880 s (Chip.baleEvents s n b) := by
  unfold Chip.baleEvents
  repeat' first
    | (extract_lets +onlyGivenNames x; refine .cut (x := x) ?_ ?_; rotate_left; clear_value x; intro _; rotate_left; subst x)
    | (extract_lets +onlyGivenNames x; refine .cut (x := x.2) ?_ ?_; rotate_left; clear_value x; intro _; rotate_left; subst x)
    | (extract_lets +onlyGivenNames x; refine .cut (x := x.2.2) ?_ ?_; rotate_left; clear_value x; intro _; rotate_left; subst x)
    | (extract_lets +onlyGivenNames x; clear_value x)
    | extract_lets +onlyGivenNames _
    | with_reducible apply Within.refl
    | with_reducible assumption
    | decide
    | with_reducible apply Within.step (Chip.raise_within _ _)
    | with_reducible apply Within.step (Chip.raiseCell_within _ _ _)
    | with_reducible apply Within.step (Chip.timebaseWatch_within _ _ _)
    | (with_reducible apply Within.each; rotate_left; intro _ _ _)
    | split

theorem Chip.useBale_within (s : Chip) (n : Nat) :
    Within 0x7ff800000000000000000000000000000000 0x880 s (Chip.useBale s n) := by
  unfold Chip.useBale
  repeat' first
    | (extract_lets +onlyGivenNames x; refine .cut (x := x) ?_ ?_; rotate_left; clear_value x; intro _; rotate_left; subst x)
    | (extract_lets +onlyGivenNames x; refine .cut (x := x.2) ?_ ?_; rotate_left; clear_value x; intro _; rotate_left; subst x)
    | (extract_lets +onlyGivenNames x; refine .cut (x := x.2.2) ?_ ?_; rotate_left; clear_value x; intro _; rotate_left; subst x)
    | (extract_lets +onlyGivenNames x; clear_value x)
    | extract_lets +onlyGivenNames _
    | with_reducible apply Within.refl
    | with_reducible assumption
    | decide
    | with_reducible apply Within.step (Chip.baleEvents_within _ _ _)
    | with_reducible apply Within.step (Chip.reportBale_within _ _ _)
    | with_reducible apply Within.step (Chip.setLane_within _ _ _)
    | split

end Sys2Proof.Machine
end

