-- ==== Sys2Proof/Laws/FrameEdges.lean ====
section
/-! SUPPORT. The frames of the operations of Machine/Edges.lean: the fields and the parts of the state each may change. -/

set_option linter.tactic.unusedName false

namespace Sys2Proof.Machine

theorem Chip.commitSet_within (s : Chip) (phase : Nat) :
    Within 0xc800000000000000000000000000000038000 0x1000900 s (Chip.commitSet s phase) := by
  unfold Chip.commitSet
  repeat' first
    | (extract_lets +onlyGivenNames x; refine .cut (x := x) ?_ ?_; rotate_left; clear_value x; intro _; rotate_left; subst x)
    | (extract_lets +onlyGivenNames x; refine .cut (x := x.2) ?_ ?_; rotate_left; clear_value x; intro _; rotate_left; subst x)
    | (extract_lets +onlyGivenNames x; refine .cut (x := x.2.2) ?_ ?_; rotate_left; clear_value x; intro _; rotate_left; subst x)
    | (extract_lets +onlyGivenNames x; clear_value x)
    | extract_lets +onlyGivenNames _
    | with_reducible apply Within.refl
    | with_reducible assumption
    | decide
    | with_reducible apply Within.step (Chip.sramTouch_within _ _)
    | with_reducible apply Within.count
    | with_reducible apply Within.wr
    | (with_reducible apply Within.onlyIf; rotate_left; intro _ _)
    | split
    | with_reducible apply Within.set_edges

theorem Chip.takeSet_within (s : Chip) :
    Within 0x800000000000000000000000000000038000 0x1000901 s (Chip.takeSet s) := by
  unfold Chip.takeSet
  repeat' first
    | (extract_lets +onlyGivenNames x; refine .cut (x := x) ?_ ?_; rotate_left; clear_value x; intro _; rotate_left; subst x)
    | (extract_lets +onlyGivenNames x; refine .cut (x := x.2) ?_ ?_; rotate_left; clear_value x; intro _; rotate_left; subst x)
    | (extract_lets +onlyGivenNames x; refine .cut (x := x.2.2) ?_ ?_; rotate_left; clear_value x; intro _; rotate_left; subst x)
    | (extract_lets +onlyGivenNames x; clear_value x)
    | extract_lets +onlyGivenNames _
    | with_reducible apply Within.refl
    | with_reducible assumption
    | decide
    | with_reducible apply Within.step (Chip.sramFill_within _ _ _)
    | with_reducible apply Within.wrFlag
    | split
    | with_reducible apply Within.set_edges

theorem Chip.setEdgeReady_within (s : Chip) (e : Nat) (b : Bool) :
    Within 0xdc00000000000 0x20 s (Chip.setEdgeReady s e b) := by
  unfold Chip.setEdgeReady
  repeat' first
    | (extract_lets +onlyGivenNames x; refine .cut (x := x) ?_ ?_; rotate_left; clear_value x; intro _; rotate_left; subst x)
    | (extract_lets +onlyGivenNames x; refine .cut (x := x.2) ?_ ?_; rotate_left; clear_value x; intro _; rotate_left; subst x)
    | (extract_lets +onlyGivenNames x; refine .cut (x := x.2.2) ?_ ?_; rotate_left; clear_value x; intro _; rotate_left; subst x)
    | (extract_lets +onlyGivenNames x; clear_value x)
    | extract_lets +onlyGivenNames _
    | with_reducible apply Within.refl
    | with_reducible assumption
    | decide
    | with_reducible apply Within.step (Chip.unusable_within _ _)
    | with_reducible apply Within.wrFlag
    | with_reducible apply Within.wrBit
    | (with_reducible apply Within.onlyIf; rotate_left; intro _ _)
    | split

theorem Chip.noteLeg_within {F C : Nat} {s x : Chip} (k : Within F C s x) (e i leg : Nat) (kf cf : Fld) (r : LegResult)
    (h1 : F.testBit kf.ctorIdx = true) (h2 : F.testBit cf.ctorIdx = true) (hF : Nat.land 0x1880000000000000000000000000000000000000000 F = 0x1880000000000000000000000000000000000000000)
    (hC : Nat.land 0x900 C = 0x900) : Within F C s (x.noteLeg e i leg kf cf r) := by
  have he : F.testBit Fld.eeEstat_interlock.ctorIdx = true := testBit_of_land hF (by decide)
  have hd : F.testBit Fld.eeCounts_drops.ctorIdx = true := testBit_of_land hF (by decide)
  have hr : F.testBit Fld.eeCounts_refreshes.ctorIdx = true := testBit_of_land hF (by decide)
  have hraise : ∀ u o, Within F C s u → Within F C s (u.raise o) := fun u o hu =>
    .step (Chip.raise_within _ _) hu (by simp) (land_trans (by decide) hC)
  unfold Chip.noteLeg
  extract_lets +onlyGivenNames a b c d
  have ka : Within F C s a := .wrInt (.step (Chip.setLeg_within _ _ _) k (by simp) (land_trans (by decide) hC)) _ _ _ h1
  clear_value a
  have kb : Within F C s b := .count (.count ka _ _ _ hd) _ _ _ hr
  clear_value b
  have kc : Within F C s c := by
    unfold c
    split
    · exact kb.wr _ _ _ h2
    · exact kb
  clear_value c
  have kd : Within F C s d := by
    unfold d
    split
    · exact hraise _ _ kc
    · exact kc
  clear_value d
  split
  · exact hraise _ _ (kd.wr _ _ _ he)
  · exact kd

theorem Chip.noteStamps_within (s : Chip) (e : Nat) (st : List Stamp) :
    Within 0x500000000000000000000000000000000000000000 0x100 s (Chip.noteStamps s e st) := by
  unfold Chip.noteStamps
  repeat' first
    | (extract_lets +onlyGivenNames x; refine .cut (x := x) ?_ ?_; rotate_left; clear_value x; intro _; rotate_left; subst x)
    | (extract_lets +onlyGivenNames x; refine .cut (x := x.2) ?_ ?_; rotate_left; clear_value x; intro _; rotate_left; subst x)
    | (extract_lets +onlyGivenNames x; refine .cut (x := x.2.2) ?_ ?_; rotate_left; clear_value x; intro _; rotate_left; subst x)
    | (extract_lets +onlyGivenNames x; clear_value x)
    | extract_lets +onlyGivenNames _
    | with_reducible apply Within.refl
    | with_reducible assumption
    | decide
    | with_reducible apply Within.wr
    | split
    | with_reducible apply Within.set_edges

theorem Chip.endPause_within {F C : Nat} {s x : Chip} (k : Within F C s x) (e : Nat) (legs cs : List Nat) (kf : Fld)
    (h : F.testBit kf.ctorIdx = true) (hC : Nat.land 0x100 C = 0x100) : Within F C s (x.endPause e legs cs kf) := by
  unfold Chip.endPause
  split
  · extract_lets +onlyGivenNames a b
    have ka : Within F C s a := .each k _ fun u l hu => .step (Chip.setLeg_within _ _ _) hu (by simp) (land_trans (by decide) hC)
    clear_value a
    have kb : Within F C s b := .each ka _ fun u l hu => hu.wr _ _ _ h
    exact .set_edges kb (testBit_of_land hC (by decide))
  · exact k

theorem Chip.pause_within (s : Chip) (e : Nat) (st : List Stamp) :
    Within 0 0x100 s (Chip.pause s e st) := by
  unfold Chip.pause
  repeat' first
    | (extract_lets +onlyGivenNames x; refine .cut (x := x) ?_ ?_; rotate_left; clear_value x; intro _; rotate_left; subst x)
    | (extract_lets +onlyGivenNames x; refine .cut (x := x.2) ?_ ?_; rotate_left; clear_value x; intro _; rotate_left; subst x)
    | (extract_lets +onlyGivenNames x; refine .cut (x := x.2.2) ?_ ?_; rotate_left; clear_value x; intro _; rotate_left; subst x)
    | (extract_lets +onlyGivenNames x; clear_value x)
    | extract_lets +onlyGivenNames _
    | with_reducible apply Within.refl
    | with_reducible assumption
    | decide
    | split
    | with_reducible apply Within.set_edges

theorem Chip.computeCell_within (s : Chip) (nn : Nat) :
    Within 0x19d80000000000000000000000000000000000000000 0xb00 s (Chip.computeCell s nn) := by
  unfold Chip.computeCell
  repeat' first
    | (extract_lets +onlyGivenNames x; refine .cut (x := x) ?_ ?_; rotate_left; clear_value x; intro _; rotate_left; subst x)
    | (extract_lets +onlyGivenNames x; refine .cut (x := x.2) ?_ ?_; rotate_left; clear_value x; intro _; rotate_left; subst x)
    | (extract_lets +onlyGivenNames x; refine .cut (x := x.2.2) ?_ ?_; rotate_left; clear_value x; intro _; rotate_left; subst x)
    | (extract_lets +onlyGivenNames x; clear_value x)
    | extract_lets +onlyGivenNames _
    | with_reducible apply Within.refl
    | with_reducible assumption
    | decide
    | with_reducible apply Chip.endPause_within
    | with_reducible apply Chip.noteLeg_within
    | with_reducible apply Within.step (Chip.noteStamps_within _ _ _)
    | with_reducible apply Within.step (Chip.setCell_within _ _ _)
    | (with_reducible apply Within.each; rotate_left; intro _ _ _)
    | split

theorem Chip.pauseCell_within (s : Chip) (nn : Nat) :
    Within 0 0x100 s (Chip.pauseCell s nn) := by
  unfold Chip.pauseCell
  repeat' first
    | (extract_lets +onlyGivenNames x; refine .cut (x := x) ?_ ?_; rotate_left; clear_value x; intro _; rotate_left; subst x)
    | (extract_lets +onlyGivenNames x; refine .cut (x := x.2) ?_ ?_; rotate_left; clear_value x; intro _; rotate_left; subst x)
    | (extract_lets +onlyGivenNames x; refine .cut (x := x.2.2) ?_ ?_; rotate_left; clear_value x; intro _; rotate_left; subst x)
    | (extract_lets +onlyGivenNames x; clear_value x)
    | extract_lets +onlyGivenNames _
    | with_reducible apply Within.refl
    | with_reducible assumption
    | decide
    | with_reducible apply Within.step (Chip.pause_within _ _ _)
    | split

theorem Chip.repeatCell_within (s : Chip) (nn : Nat) :
    Within 0x10000000000000000000000000000000000000000000 0x100 s (Chip.repeatCell s nn) := by
  unfold Chip.repeatCell
  repeat' first
    | (extract_lets +onlyGivenNames x; refine .cut (x := x) ?_ ?_; rotate_left; clear_value x; intro _; rotate_left; subst x)
    | (extract_lets +onlyGivenNames x; refine .cut (x := x.2) ?_ ?_; rotate_left; clear_value x; intro _; rotate_left; subst x)
    | (extract_lets +onlyGivenNames x; refine .cut (x := x.2.2) ?_ ?_; rotate_left; clear_value x; intro _; rotate_left; subst x)
    | (extract_lets +onlyGivenNames x; clear_value x)
    | extract_lets +onlyGivenNames _
    | with_reducible apply Within.refl
    | with_reducible assumption
    | decide
    | with_reducible apply Chip.endPause_within
    | with_reducible apply Within.step (Chip.setLeg_within _ _ _)
    | (with_reducible apply Within.each; rotate_left; intro _ _ _)
    | split
    | with_reducible apply Within.set_edges

theorem Chip.computeLocal_within (s : Chip) :
    Within 0x601d80000000000000000000000000000000000000000 0x900 s (Chip.computeLocal s) := by
  unfold Chip.computeLocal
  repeat' first
    | (extract_lets +onlyGivenNames x; refine .cut (x := x) ?_ ?_; rotate_left; clear_value x; intro _; rotate_left; subst x)
    | (extract_lets +onlyGivenNames x; refine .cut (x := x.2) ?_ ?_; rotate_left; clear_value x; intro _; rotate_left; subst x)
    | (extract_lets +onlyGivenNames x; refine .cut (x := x.2.2) ?_ ?_; rotate_left; clear_value x; intro _; rotate_left; subst x)
    | (extract_lets +onlyGivenNames x; clear_value x)
    | extract_lets +onlyGivenNames _
    | with_reducible apply Within.refl
    | with_reducible assumption
    | decide
    | with_reducible apply Chip.endPause_within
    | with_reducible apply Chip.noteLeg_within
    | with_reducible apply Within.step (Chip.noteStamps_within _ _ _)
    | (with_reducible apply Within.each; rotate_left; intro _ _ _)
    | split

theorem Chip.pauseLocal_within (s : Chip) :
    Within 0 0x100 s (Chip.pauseLocal s) := by
  unfold Chip.pauseLocal
  repeat' first
    | (extract_lets +onlyGivenNames x; refine .cut (x := x) ?_ ?_; rotate_left; clear_value x; intro _; rotate_left; subst x)
    | (extract_lets +onlyGivenNames x; refine .cut (x := x.2) ?_ ?_; rotate_left; clear_value x; intro _; rotate_left; subst x)
    | (extract_lets +onlyGivenNames x; refine .cut (x := x.2.2) ?_ ?_; rotate_left; clear_value x; intro _; rotate_left; subst x)
    | (extract_lets +onlyGivenNames x; clear_value x)
    | extract_lets +onlyGivenNames _
    | with_reducible apply Within.refl
    | with_reducible assumption
    | decide
    | with_reducible apply Within.step (Chip.pause_within _ _ _)
    | split

theorem Chip.repeatLocal_within (s : Chip) :
    Within 0x400000000000000000000000000000000000000000000 0x100 s (Chip.repeatLocal s) := by
  unfold Chip.repeatLocal
  repeat' first
    | (extract_lets +onlyGivenNames x; refine .cut (x := x) ?_ ?_; rotate_left; clear_value x; intro _; rotate_left; subst x)
    | (extract_lets +onlyGivenNames x; refine .cut (x := x.2) ?_ ?_; rotate_left; clear_value x; intro _; rotate_left; subst x)
    | (extract_lets +onlyGivenNames x; refine .cut (x := x.2.2) ?_ ?_; rotate_left; clear_value x; intro _; rotate_left; subst x)
    | (extract_lets +onlyGivenNames x; clear_value x)
    | extract_lets +onlyGivenNames _
    | with_reducible apply Within.refl
    | with_reducible assumption
    | decide
    | with_reducible apply Chip.endPause_within
    | with_reducible apply Within.step (Chip.setLeg_within _ _ _)
    | (with_reducible apply Within.each; rotate_left; intro _ _ _)
    | split
    | with_reducible apply Within.set_edges

theorem Chip.haltEngines_within (s : Chip) :
    Within 0 0x100 s (Chip.haltEngines s) := by
  unfold Chip.haltEngines
  repeat' first
    | (extract_lets +onlyGivenNames x; refine .cut (x := x) ?_ ?_; rotate_left; clear_value x; intro _; rotate_left; subst x)
    | (extract_lets +onlyGivenNames x; refine .cut (x := x.2) ?_ ?_; rotate_left; clear_value x; intro _; rotate_left; subst x)
    | (extract_lets +onlyGivenNames x; refine .cut (x := x.2.2) ?_ ?_; rotate_left; clear_value x; intro _; rotate_left; subst x)
    | (extract_lets +onlyGivenNames x; clear_value x)
    | extract_lets +onlyGivenNames _
    | with_reducible apply Within.refl
    | with_reducible assumption
    | decide
    | split
    | with_reducible apply Within.set_edges

theorem Chip.judgeHalt_within (s : Chip) :
    Within 0x2000000000000000000000000000000000000 0 s (Chip.judgeHalt s) := by
  unfold Chip.judgeHalt
  repeat' first
    | (extract_lets +onlyGivenNames x; refine .cut (x := x) ?_ ?_; rotate_left; clear_value x; intro _; rotate_left; subst x)
    | (extract_lets +onlyGivenNames x; refine .cut (x := x.2) ?_ ?_; rotate_left; clear_value x; intro _; rotate_left; subst x)
    | (extract_lets +onlyGivenNames x; refine .cut (x := x.2.2) ?_ ?_; rotate_left; clear_value x; intro _; rotate_left; subst x)
    | (extract_lets +onlyGivenNames x; clear_value x)
    | extract_lets +onlyGivenNames _
    | with_reducible apply Within.refl
    | with_reducible assumption
    | decide
    | with_reducible apply Within.wrFlag
    | split

theorem Chip.holdLocal_within (s : Chip) :
    Within 0 0x100 s (Chip.holdLocal s) := by
  unfold Chip.holdLocal
  repeat' first
    | (extract_lets +onlyGivenNames x; refine .cut (x := x) ?_ ?_; rotate_left; clear_value x; intro _; rotate_left; subst x)
    | (extract_lets +onlyGivenNames x; refine .cut (x := x.2) ?_ ?_; rotate_left; clear_value x; intro _; rotate_left; subst x)
    | (extract_lets +onlyGivenNames x; refine .cut (x := x.2.2) ?_ ?_; rotate_left; clear_value x; intro _; rotate_left; subst x)
    | (extract_lets +onlyGivenNames x; clear_value x)
    | extract_lets +onlyGivenNames _
    | with_reducible apply Within.refl
    | with_reducible assumption
    | decide
    | split
    | with_reducible apply Within.set_edges

theorem Chip.edgeReload_within (s : Chip) (lateArms : List Nat) (unfinished : List Nat) :
    Within 0x619d80002800000000000000000000000000000038200 0x1000b01 s (Chip.edgeReload s lateArms unfinished) := by
  unfold Chip.edgeReload
  repeat' first
    | (extract_lets +onlyGivenNames x; refine .cut (x := x) ?_ ?_; rotate_left; clear_value x; intro _; rotate_left; subst x)
    | (extract_lets +onlyGivenNames x; refine .cut (x := x.2) ?_ ?_; rotate_left; clear_value x; intro _; rotate_left; subst x)
    | (extract_lets +onlyGivenNames x; refine .cut (x := x.2.2) ?_ ?_; rotate_left; clear_value x; intro _; rotate_left; subst x)
    | (extract_lets +onlyGivenNames x; clear_value x)
    | extract_lets +onlyGivenNames _
    | with_reducible apply Within.refl
    | with_reducible assumption
    | decide
    | with_reducible apply Within.step (Chip.computeCell_within _ _)
    | with_reducible apply Within.step (Chip.computeLocal_within _)
    | with_reducible apply Within.step (Chip.haltEngines_within _)
    | with_reducible apply Within.step (Chip.holdLocal_within _)
    | with_reducible apply Within.step (Chip.judgeHalt_within _)
    | with_reducible apply Within.step (Chip.pauseCell_within _ _)
    | with_reducible apply Within.step (Chip.pauseLocal_within _)
    | with_reducible apply Within.step (Chip.raise_within _ _)
    | with_reducible apply Within.step (Chip.repeatCell_within _ _)
    | with_reducible apply Within.step (Chip.repeatLocal_within _)
    | with_reducible apply Within.step (Chip.sramTouch_within _ _)
    | with_reducible apply Within.step (Chip.takeSet_within _)
    | with_reducible apply Within.wr
    | (with_reducible apply Within.each; rotate_left; intro _ _ _)
    | split
    | with_reducible apply Within.set_edges

theorem Chip.advanceCarriers_within (s : Chip) :
    Within 0 0x100 s (Chip.advanceCarriers s) := by
  unfold Chip.advanceCarriers
  repeat' first
    | (extract_lets +onlyGivenNames x; refine .cut (x := x) ?_ ?_; rotate_left; clear_value x; intro _; rotate_left; subst x)
    | (extract_lets +onlyGivenNames x; refine .cut (x := x.2) ?_ ?_; rotate_left; clear_value x; intro _; rotate_left; subst x)
    | (extract_lets +onlyGivenNames x; refine .cut (x := x.2.2) ?_ ?_; rotate_left; clear_value x; intro _; rotate_left; subst x)
    | (extract_lets +onlyGivenNames x; clear_value x)
    | extract_lets +onlyGivenNames _
    | with_reducible apply Within.refl
    | with_reducible assumption
    | decide
    | (with_reducible apply Within.each; rotate_left; intro _ _ _)
    | split
    | with_reducible apply Within.set_edges

end Sys2Proof.Machine
end

