-- ==== Sys2Proof/Laws/FrameArms.lean ====
section
/-! SUPPORT. The frames of the operations of Machine/Arms.lean: the fields and the parts of the state each may change. -/

set_option linter.tactic.unusedName false

namespace Sys2Proof.Machine

theorem Chip.countArm_within {F C : Nat} {s x : Chip} (k : Within F C s x) (nn : Nat) (f : Fld) (h : F.testBit f.ctorIdx = true) :
    Within F C s (x.countArm nn f) := by
  unfold Chip.countArm
  split
  · exact k.count f _ _ h
  · exact k

theorem Chip.noteMoved_within (s : Chip) (nn : Nat) :
    Within 0 0x200 s (Chip.noteMoved s nn) := by
  unfold Chip.noteMoved
  repeat' first
    | (extract_lets +onlyGivenNames x; refine .cut (x := x) ?_ ?_; rotate_left; clear_value x; intro _; rotate_left; subst x)
    | (extract_lets +onlyGivenNames x; refine .cut (x := x.2) ?_ ?_; rotate_left; clear_value x; intro _; rotate_left; subst x)
    | (extract_lets +onlyGivenNames x; refine .cut (x := x.2.2) ?_ ?_; rotate_left; clear_value x; intro _; rotate_left; subst x)
    | (extract_lets +onlyGivenNames x; clear_value x)
    | extract_lets +onlyGivenNames _
    | with_reducible apply Within.refl
    | with_reducible assumption
    | decide
    | split
    | with_reducible apply Within.set_arms

theorem Chip.bypassCell_within (s : Chip) (nn : Nat) (cause : Nat) :
    Within 0x1e080000000000000000000000000000000000000000000000000000 0x200 s (Chip.bypassCell s nn cause) := by
  unfold Chip.bypassCell
  repeat' first
    | (extract_lets +onlyGivenNames x; refine .cut (x := x) ?_ ?_; rotate_left; clear_value x; intro _; rotate_left; subst x)
    | (extract_lets +onlyGivenNames x; refine .cut (x := x.2) ?_ ?_; rotate_left; clear_value x; intro _; rotate_left; subst x)
    | (extract_lets +onlyGivenNames x; refine .cut (x := x.2.2) ?_ ?_; rotate_left; clear_value x; intro _; rotate_left; subst x)
    | (extract_lets +onlyGivenNames x; clear_value x)
    | extract_lets +onlyGivenNames _
    | with_reducible apply Within.refl
    | with_reducible assumption
    | decide
    | with_reducible apply Chip.countArm_within
    | with_reducible apply Within.step (Chip.noteMoved_within _ _)
    | with_reducible apply Within.step (Chip.setCell_within _ _ _)
    | with_reducible apply Within.wr
    | split

theorem Chip.placeCell_within (s : Chip) (nn : Nat) (st : Nat) :
    Within 0xe000000000000000000000000000000000000000000000000000000 0x200 s (Chip.placeCell s nn st) := by
  unfold Chip.placeCell
  repeat' first
    | (extract_lets +onlyGivenNames x; refine .cut (x := x) ?_ ?_; rotate_left; clear_value x; intro _; rotate_left; subst x)
    | (extract_lets +onlyGivenNames x; refine .cut (x := x.2) ?_ ?_; rotate_left; clear_value x; intro _; rotate_left; subst x)
    | (extract_lets +onlyGivenNames x; refine .cut (x := x.2.2) ?_ ?_; rotate_left; clear_value x; intro _; rotate_left; subst x)
    | (extract_lets +onlyGivenNames x; clear_value x)
    | extract_lets +onlyGivenNames _
    | with_reducible apply Within.refl
    | with_reducible assumption
    | decide
    | with_reducible apply Within.step (Chip.noteMoved_within _ _)
    | with_reducible apply Within.wr
    | split

theorem Chip.initCell_within (s : Chip) (nn : Nat) :
    Within 0x1e080000000000000000000000000000000000000000000000000000 0x200 s (Chip.initCell s nn) := by
  unfold Chip.initCell
  repeat' first
    | (extract_lets +onlyGivenNames x; refine .cut (x := x) ?_ ?_; rotate_left; clear_value x; intro _; rotate_left; subst x)
    | (extract_lets +onlyGivenNames x; refine .cut (x := x.2) ?_ ?_; rotate_left; clear_value x; intro _; rotate_left; subst x)
    | (extract_lets +onlyGivenNames x; refine .cut (x := x.2.2) ?_ ?_; rotate_left; clear_value x; intro _; rotate_left; subst x)
    | (extract_lets +onlyGivenNames x; clear_value x)
    | extract_lets +onlyGivenNames _
    | with_reducible apply Within.refl
    | with_reducible assumption
    | decide
    | with_reducible apply Within.step (Chip.bypassCell_within _ _ _)
    | with_reducible apply Within.step (Chip.placeCell_within _ _ _)
    | split

theorem Chip.initCells_within (s : Chip) :
    Within 0x1e080000000000000000000000000000000000000000000000000000 0x200 s (Chip.initCells s) := by
  unfold Chip.initCells
  repeat' first
    | (extract_lets +onlyGivenNames x; refine .cut (x := x) ?_ ?_; rotate_left; clear_value x; intro _; rotate_left; subst x)
    | (extract_lets +onlyGivenNames x; refine .cut (x := x.2) ?_ ?_; rotate_left; clear_value x; intro _; rotate_left; subst x)
    | (extract_lets +onlyGivenNames x; refine .cut (x := x.2.2) ?_ ?_; rotate_left; clear_value x; intro _; rotate_left; subst x)
    | (extract_lets +onlyGivenNames x; clear_value x)
    | extract_lets +onlyGivenNames _
    | with_reducible apply Within.refl
    | with_reducible assumption
    | decide
    | with_reducible apply Within.step (Chip.initCell_within _ _)
    | with_reducible apply Within.step (Chip.setCell_within _ _ _)
    | (with_reducible apply Within.each; rotate_left; intro _ _ _)
    | split

theorem Chip.cellReadyStep_within (s : Chip) (nn : Nat) :
    Within 0x1e080000000000000000000000000000000000000000000000000000 0x200 s (Chip.cellReadyStep s nn) := by
  unfold Chip.cellReadyStep
  repeat' first
    | (extract_lets +onlyGivenNames x; refine .cut (x := x) ?_ ?_; rotate_left; clear_value x; intro _; rotate_left; subst x)
    | (extract_lets +onlyGivenNames x; refine .cut (x := x.2) ?_ ?_; rotate_left; clear_value x; intro _; rotate_left; subst x)
    | (extract_lets +onlyGivenNames x; refine .cut (x := x.2.2) ?_ ?_; rotate_left; clear_value x; intro _; rotate_left; subst x)
    | (extract_lets +onlyGivenNames x; clear_value x)
    | extract_lets +onlyGivenNames _
    | with_reducible apply Within.refl
    | with_reducible assumption
    | decide
    | with_reducible apply Within.step (Chip.bypassCell_within _ _ _)
    | with_reducible apply Within.step (Chip.cellLost_within _ _)
    | with_reducible apply Within.step (Chip.initCell_within _ _)
    | with_reducible apply Within.step (Chip.placeCell_within _ _ _)
    | with_reducible apply Within.step (Chip.setCell_within _ _ _)
    | split

theorem Chip.cellFailureStep_within (s : Chip) (nn : Nat) :
    Within 0x1e080000000000000000000000000000000000000000000000000000 0x200 s (Chip.cellFailureStep s nn) := by
  unfold Chip.cellFailureStep
  repeat' first
    | (extract_lets +onlyGivenNames x; refine .cut (x := x) ?_ ?_; rotate_left; clear_value x; intro _; rotate_left; subst x)
    | (extract_lets +onlyGivenNames x; refine .cut (x := x.2) ?_ ?_; rotate_left; clear_value x; intro _; rotate_left; subst x)
    | (extract_lets +onlyGivenNames x; refine .cut (x := x.2.2) ?_ ?_; rotate_left; clear_value x; intro _; rotate_left; subst x)
    | (extract_lets +onlyGivenNames x; clear_value x)
    | extract_lets +onlyGivenNames _
    | with_reducible apply Within.refl
    | with_reducible assumption
    | decide
    | with_reducible apply Within.step (Chip.bypassCell_within _ _ _)
    | with_reducible apply Within.step (Chip.setCell_within _ _ _)
    | split

theorem Chip.cellCommand_within (s : Chip) (barred : List Nat) (c : CellCommand) (nn : Nat) :
    Within 0x1e1c0000000000000000000000000000000000000000000000000000 0x200 s (Chip.cellCommand s barred c nn) := by
  unfold Chip.cellCommand
  repeat' first
    | (extract_lets +onlyGivenNames x; refine .cut (x := x) ?_ ?_; rotate_left; clear_value x; intro _; rotate_left; subst x)
    | (extract_lets +onlyGivenNames x; refine .cut (x := x.2) ?_ ?_; rotate_left; clear_value x; intro _; rotate_left; subst x)
    | (extract_lets +onlyGivenNames x; refine .cut (x := x.2.2) ?_ ?_; rotate_left; clear_value x; intro _; rotate_left; subst x)
    | (extract_lets +onlyGivenNames x; clear_value x)
    | extract_lets +onlyGivenNames _
    | with_reducible apply Within.refl
    | with_reducible assumption
    | decide
    | with_reducible apply Within.step (Chip.bypassCell_within _ _ _)
    | with_reducible apply Chip.countArm_within
    | with_reducible apply Within.step (Chip.placeCell_within _ _ _)
    | with_reducible apply Within.count
    | with_reducible apply Within.wr
    | split

theorem Chip.cellConfirmStep_within (s : Chip) (nn : Nat) :
    Within 0xe000000000000000000000000000000000000000000000000000000 0x200 s (Chip.cellConfirmStep s nn) := by
  unfold Chip.cellConfirmStep
  repeat' first
    | (extract_lets +onlyGivenNames x; refine .cut (x := x) ?_ ?_; rotate_left; clear_value x; intro _; rotate_left; subst x)
    | (extract_lets +onlyGivenNames x; refine .cut (x := x.2) ?_ ?_; rotate_left; clear_value x; intro _; rotate_left; subst x)
    | (extract_lets +onlyGivenNames x; refine .cut (x := x.2.2) ?_ ?_; rotate_left; clear_value x; intro _; rotate_left; subst x)
    | (extract_lets +onlyGivenNames x; clear_value x)
    | extract_lets +onlyGivenNames _
    | with_reducible apply Within.refl
    | with_reducible assumption
    | decide
    | with_reducible apply Within.step (Chip.placeCell_within _ _ _)
    | with_reducible apply Within.wr
    | split

theorem Chip.insertSpares_within (s : Chip) (a : Nat) :
    Within 0xe100000000000000000000000000000000000000000000000000000 0x200 s (Chip.insertSpares s a) := by
  unfold Chip.insertSpares
  repeat' first
    | (extract_lets +onlyGivenNames x; refine .cut (x := x) ?_ ?_; rotate_left; clear_value x; intro _; rotate_left; subst x)
    | (extract_lets +onlyGivenNames x; refine .cut (x := x.2) ?_ ?_; rotate_left; clear_value x; intro _; rotate_left; subst x)
    | (extract_lets +onlyGivenNames x; refine .cut (x := x.2.2) ?_ ?_; rotate_left; clear_value x; intro _; rotate_left; subst x)
    | (extract_lets +onlyGivenNames x; clear_value x)
    | extract_lets +onlyGivenNames _
    | with_reducible apply Within.refl
    | with_reducible assumption
    | decide
    | with_reducible apply Within.step (Chip.placeCell_within _ _ _)
    | with_reducible apply Within.count
    | (with_reducible apply Within.each; rotate_left; intro _ _ _)
    | split

theorem Chip.spreadStep_within (s : Chip) (a : Nat) :
    Within 0 0x200 s (Chip.spreadStep s a) := by
  unfold Chip.spreadStep
  repeat' first
    | (extract_lets +onlyGivenNames x; refine .cut (x := x) ?_ ?_; rotate_left; clear_value x; intro _; rotate_left; subst x)
    | (extract_lets +onlyGivenNames x; refine .cut (x := x.2) ?_ ?_; rotate_left; clear_value x; intro _; rotate_left; subst x)
    | (extract_lets +onlyGivenNames x; refine .cut (x := x.2.2) ?_ ?_; rotate_left; clear_value x; intro _; rotate_left; subst x)
    | (extract_lets +onlyGivenNames x; clear_value x)
    | extract_lets +onlyGivenNames _
    | with_reducible apply Within.refl
    | with_reducible assumption
    | decide
    | with_reducible apply Within.step (Chip.setArm_within _ _ _)
    | split

theorem Chip.spreadFire_within (s : Chip) (a : Nat) :
    Within 0x400000000000000000000000000000000000000000000000000 0xa00 s (Chip.spreadFire s a) := by
  unfold Chip.spreadFire
  repeat' first
    | (extract_lets +onlyGivenNames x; refine .cut (x := x) ?_ ?_; rotate_left; clear_value x; intro _; rotate_left; subst x)
    | (extract_lets +onlyGivenNames x; refine .cut (x := x.2) ?_ ?_; rotate_left; clear_value x; intro _; rotate_left; subst x)
    | (extract_lets +onlyGivenNames x; refine .cut (x := x.2.2) ?_ ?_; rotate_left; clear_value x; intro _; rotate_left; subst x)
    | (extract_lets +onlyGivenNames x; clear_value x)
    | extract_lets +onlyGivenNames _
    | with_reducible apply Within.refl
    | with_reducible assumption
    | decide
    | with_reducible apply Within.step (Chip.raise_within _ _)
    | with_reducible apply Within.step (Chip.setArm_within _ _ _)
    | with_reducible apply Within.wr
    | split

theorem Chip.phaseStep_within (s : Chip) (a : Nat) :
    Within 0x4000000000000000000000000000000000000000000000000000 0x200 s (Chip.phaseStep s a) := by
  unfold Chip.phaseStep
  repeat' first
    | (extract_lets +onlyGivenNames x; refine .cut (x := x) ?_ ?_; rotate_left; clear_value x; intro _; rotate_left; subst x)
    | (extract_lets +onlyGivenNames x; refine .cut (x := x.2) ?_ ?_; rotate_left; clear_value x; intro _; rotate_left; subst x)
    | (extract_lets +onlyGivenNames x; refine .cut (x := x.2.2) ?_ ?_; rotate_left; clear_value x; intro _; rotate_left; subst x)
    | (extract_lets +onlyGivenNames x; clear_value x)
    | extract_lets +onlyGivenNames _
    | with_reducible apply Within.refl
    | with_reducible assumption
    | decide
    | with_reducible apply Within.step (Chip.setArm_within _ _ _)
    | with_reducible apply Within.wr
    | split

theorem Chip.prechargeTimeout_within (s : Chip) (a : Nat) :
    Within 0x2000000000000000000000000000000000000000000000000000 0xa00 s (Chip.prechargeTimeout s a) := by
  unfold Chip.prechargeTimeout
  repeat' first
    | (extract_lets +onlyGivenNames x; refine .cut (x := x) ?_ ?_; rotate_left; clear_value x; intro _; rotate_left; subst x)
    | (extract_lets +onlyGivenNames x; refine .cut (x := x.2) ?_ ?_; rotate_left; clear_value x; intro _; rotate_left; subst x)
    | (extract_lets +onlyGivenNames x; refine .cut (x := x.2.2) ?_ ?_; rotate_left; clear_value x; intro _; rotate_left; subst x)
    | (extract_lets +onlyGivenNames x; clear_value x)
    | extract_lets +onlyGivenNames _
    | with_reducible apply Within.refl
    | with_reducible assumption
    | decide
    | with_reducible apply Within.step (Chip.raise_within _ _)
    | with_reducible apply Within.step (Chip.setArm_within _ _ _)
    | with_reducible apply Within.wr
    | split

theorem Chip.rotationAdvance_within (s : Chip) (a : Nat) :
    Within 0x20000000000000000000000000000000000000000000000000000 0x200 s (Chip.rotationAdvance s a) := by
  unfold Chip.rotationAdvance
  repeat' first
    | (extract_lets +onlyGivenNames x; refine .cut (x := x) ?_ ?_; rotate_left; clear_value x; intro _; rotate_left; subst x)
    | (extract_lets +onlyGivenNames x; refine .cut (x := x.2) ?_ ?_; rotate_left; clear_value x; intro _; rotate_left; subst x)
    | (extract_lets +onlyGivenNames x; refine .cut (x := x.2.2) ?_ ?_; rotate_left; clear_value x; intro _; rotate_left; subst x)
    | (extract_lets +onlyGivenNames x; clear_value x)
    | extract_lets +onlyGivenNames _
    | with_reducible apply Within.refl
    | with_reducible assumption
    | decide
    | with_reducible apply Within.step (Chip.setArm_within _ _ _)
    | with_reducible apply Within.wr
    | split

theorem Chip.writeHBridge_within (s : Chip) (nn : Nat) (w : Nat) :
    Within 0x38000 0x1000801 s (Chip.writeHBridge s nn w) := by
  unfold Chip.writeHBridge
  repeat' first
    | (extract_lets +onlyGivenNames x; refine .cut (x := x) ?_ ?_; rotate_left; clear_value x; intro _; rotate_left; subst x)
    | (extract_lets +onlyGivenNames x; refine .cut (x := x.2) ?_ ?_; rotate_left; clear_value x; intro _; rotate_left; subst x)
    | (extract_lets +onlyGivenNames x; refine .cut (x := x.2.2) ?_ ?_; rotate_left; clear_value x; intro _; rotate_left; subst x)
    | (extract_lets +onlyGivenNames x; clear_value x)
    | extract_lets +onlyGivenNames _
    | with_reducible apply Within.refl
    | with_reducible assumption
    | decide
    | with_reducible apply Within.step (Chip.sramPutWord_within _ _ _)
    | split

theorem Chip.dividePsc_within (s : Chip) (a : Nat) (u : Int) (vsum : Int) (dir : Int) :
    Within 0x20000000000000000000000000000000000000000000000000038000 0x1000801 s (Chip.dividePsc s a u vsum dir) := by
  unfold Chip.dividePsc
  repeat' first
    | (extract_lets +onlyGivenNames x; refine .cut (x := x) ?_ ?_; rotate_left; clear_value x; intro _; rotate_left; subst x)
    | (extract_lets +onlyGivenNames x; refine .cut (x := x.2) ?_ ?_; rotate_left; clear_value x; intro _; rotate_left; subst x)
    | (extract_lets +onlyGivenNames x; refine .cut (x := x.2.2) ?_ ?_; rotate_left; clear_value x; intro _; rotate_left; subst x)
    | (extract_lets +onlyGivenNames x; clear_value x)
    | extract_lets +onlyGivenNames _
    | with_reducible apply Within.refl
    | with_reducible assumption
    | decide
    | with_reducible apply Within.step (Chip.writeHBridge_within _ _ _)
    | with_reducible apply Within.wr
    | (with_reducible apply Within.each; rotate_left; intro _ _ _)
    | split

theorem Chip.divideNlm_within (s : Chip) (a : Nat) (u : Int) (vsum : Int) (dirI : Int) :
    Within 0x20000000000000000000000000000000000000000000000000038000 0x1000801 s (Chip.divideNlm s a u vsum dirI) := by
  unfold Chip.divideNlm
  repeat' first
    | (extract_lets +onlyGivenNames x; refine .cut (x := x) ?_ ?_; rotate_left; clear_value x; intro _; rotate_left; subst x)
    | (extract_lets +onlyGivenNames x; refine .cut (x := x.2) ?_ ?_; rotate_left; clear_value x; intro _; rotate_left; subst x)
    | (extract_lets +onlyGivenNames x; refine .cut (x := x.2.2) ?_ ?_; rotate_left; clear_value x; intro _; rotate_left; subst x)
    | (extract_lets +onlyGivenNames x; clear_value x)
    | extract_lets +onlyGivenNames _
    | with_reducible apply Within.refl
    | with_reducible assumption
    | decide
    | with_reducible apply Within.step (Chip.writeHBridge_within _ _ _)
    | with_reducible apply Within.wr
    | (with_reducible apply Within.each; rotate_left; intro _ _ _)
    | split

theorem Chip.writeArmBlock_within (s : Chip) (a : Nat) (ratio : Option Frac) (n : Nat) (i2 : Int) (sum : Int) :
    Within 0x38000 0x1000801 s (Chip.writeArmBlock s a ratio n i2 sum) := by
  unfold Chip.writeArmBlock
  repeat' first
    | (extract_lets +onlyGivenNames x; refine .cut (x := x) ?_ ?_; rotate_left; clear_value x; intro _; rotate_left; subst x)
    | (extract_lets +onlyGivenNames x; refine .cut (x := x.2) ?_ ?_; rotate_left; clear_value x; intro _; rotate_left; subst x)
    | (extract_lets +onlyGivenNames x; refine .cut (x := x.2.2) ?_ ?_; rotate_left; clear_value x; intro _; rotate_left; subst x)
    | (extract_lets +onlyGivenNames x; clear_value x)
    | extract_lets +onlyGivenNames _
    | with_reducible apply Within.refl
    | with_reducible assumption
    | decide
    | with_reducible apply Within.step (Chip.draw_within _)
    | with_reducible apply Within.step (Chip.sramPutWord_within _ _ _)
    | (with_reducible apply Within.onlyIf; rotate_left; intro _ _)
    | split

theorem Chip.divide_within (s : Chip) (a : Nat) :
    Within 0x20200200000000000000000000000000000000000000000000038000 0x1000a01 s (Chip.divide s a) := by
  unfold Chip.divide
  repeat' first
    | (extract_lets +onlyGivenNames x; refine .cut (x := x) ?_ ?_; rotate_left; clear_value x; intro _; rotate_left; subst x)
    | (extract_lets +onlyGivenNames x; refine .cut (x := x.2) ?_ ?_; rotate_left; clear_value x; intro _; rotate_left; subst x)
    | (extract_lets +onlyGivenNames x; refine .cut (x := x.2.2) ?_ ?_; rotate_left; clear_value x; intro _; rotate_left; subst x)
    | (extract_lets +onlyGivenNames x; clear_value x)
    | extract_lets +onlyGivenNames _
    | with_reducible apply Within.refl
    | with_reducible assumption
    | decide
    | with_reducible apply Within.step (Chip.divideNlm_within _ _ _ _ _)
    | with_reducible apply Within.step (Chip.dividePsc_within _ _ _ _ _)
    | with_reducible apply Within.step (Chip.setArm_within _ _ _)
    | with_reducible apply Within.step (Chip.sramTouch_within _ _)
    | with_reducible apply Within.step (Chip.writeArmBlock_within _ _ _ _ _ _)
    | with_reducible apply Within.step (Chip.writeHBridge_within _ _ _)
    | with_reducible apply Within.count
    | with_reducible apply Within.wr
    | (with_reducible apply Within.each; rotate_left; intro _ _ _)
    | split

theorem Chip.capacityStep_within (s : Chip) (a : Nat) :
    Within 0x19800000000000000000000000000000000000000000000000000 0x800 s (Chip.capacityStep s a) := by
  unfold Chip.capacityStep
  repeat' first
    | (extract_lets +onlyGivenNames x; refine .cut (x := x) ?_ ?_; rotate_left; clear_value x; intro _; rotate_left; subst x)
    | (extract_lets +onlyGivenNames x; refine .cut (x := x.2) ?_ ?_; rotate_left; clear_value x; intro _; rotate_left; subst x)
    | (extract_lets +onlyGivenNames x; refine .cut (x := x.2.2) ?_ ?_; rotate_left; clear_value x; intro _; rotate_left; subst x)
    | (extract_lets +onlyGivenNames x; clear_value x)
    | extract_lets +onlyGivenNames _
    | with_reducible apply Within.refl
    | with_reducible assumption
    | decide
    | with_reducible apply Within.step (Chip.raise_within _ _)
    | with_reducible apply Within.wrFlag
    | with_reducible apply Within.wr
    | split

theorem Chip.tbSpreadStep_within (s : Chip) (a : Nat) :
    Within 0x400000000000000000000000000000000000000000000000000000 0 s (Chip.tbSpreadStep s a) := by
  unfold Chip.tbSpreadStep
  repeat' first
    | (extract_lets +onlyGivenNames x; refine .cut (x := x) ?_ ?_; rotate_left; clear_value x; intro _; rotate_left; subst x)
    | (extract_lets +onlyGivenNames x; refine .cut (x := x.2) ?_ ?_; rotate_left; clear_value x; intro _; rotate_left; subst x)
    | (extract_lets +onlyGivenNames x; refine .cut (x := x.2.2) ?_ ?_; rotate_left; clear_value x; intro _; rotate_left; subst x)
    | (extract_lets +onlyGivenNames x; clear_value x)
    | extract_lets +onlyGivenNames _
    | with_reducible apply Within.refl
    | with_reducible assumption
    | decide
    | with_reducible apply Within.wr
    | split

theorem Chip.armStage_within (s : Chip) (a : Nat) :
    Within 0x2e71da00000000000000000000000000000000000000000000038000 0x1000a01 s (Chip.armStage s a) := by
  unfold Chip.armStage
  repeat' first
    | (extract_lets +onlyGivenNames x; refine .cut (x := x) ?_ ?_; rotate_left; clear_value x; intro _; rotate_left; subst x)
    | (extract_lets +onlyGivenNames x; refine .cut (x := x.2) ?_ ?_; rotate_left; clear_value x; intro _; rotate_left; subst x)
    | (extract_lets +onlyGivenNames x; refine .cut (x := x.2.2) ?_ ?_; rotate_left; clear_value x; intro _; rotate_left; subst x)
    | (extract_lets +onlyGivenNames x; clear_value x)
    | extract_lets +onlyGivenNames _
    | with_reducible apply Within.refl
    | with_reducible assumption
    | decide
    | with_reducible apply Within.step (Chip.capacityStep_within _ _)
    | with_reducible apply Within.step (Chip.divide_within _ _)
    | with_reducible apply Within.step (Chip.insertSpares_within _ _)
    | with_reducible apply Within.step (Chip.phaseStep_within _ _)
    | with_reducible apply Within.step (Chip.spreadStep_within _ _)
    | with_reducible apply Within.step (Chip.tbSpreadStep_within _ _)
    | split

theorem Chip.balance_within (s : Chip) :
    Within 0x3e7dda00000000000000000000000000000000000000000000038000 0x1000a01 s (Chip.balance s) := by
  unfold Chip.balance
  repeat' first
    | (extract_lets +onlyGivenNames x; refine .cut (x := x) ?_ ?_; rotate_left; clear_value x; intro _; rotate_left; subst x)
    | (extract_lets +onlyGivenNames x; refine .cut (x := x.2) ?_ ?_; rotate_left; clear_value x; intro _; rotate_left; subst x)
    | (extract_lets +onlyGivenNames x; refine .cut (x := x.2.2) ?_ ?_; rotate_left; clear_value x; intro _; rotate_left; subst x)
    | (extract_lets +onlyGivenNames x; clear_value x)
    | extract_lets +onlyGivenNames _
    | with_reducible apply Within.refl
    | with_reducible assumption
    | decide
    | with_reducible apply Within.step (Chip.armStage_within _ _)
    | with_reducible apply Within.step (Chip.cellCommand_within _ _ _ _)
    | with_reducible apply Within.step (Chip.cellConfirmStep_within _ _)
    | with_reducible apply Within.step (Chip.cellFailureStep_within _ _)
    | with_reducible apply Within.step (Chip.cellReadyStep_within _ _)
    | with_reducible apply Chip.countArm_within
    | (with_reducible apply Within.each; rotate_left; intro _ _ _)
    | split
    | with_reducible apply Within.set_arms

theorem Chip.queueCellCommand_within (s : Chip) (c : CellCommand) (nn : Nat) :
    Within 0 0x200 s (Chip.queueCellCommand s c nn) := by
  unfold Chip.queueCellCommand
  repeat' first
    | (extract_lets +onlyGivenNames x; refine .cut (x := x) ?_ ?_; rotate_left; clear_value x; intro _; rotate_left; subst x)
    | (extract_lets +onlyGivenNames x; refine .cut (x := x.2) ?_ ?_; rotate_left; clear_value x; intro _; rotate_left; subst x)
    | (extract_lets +onlyGivenNames x; refine .cut (x := x.2.2) ?_ ?_; rotate_left; clear_value x; intro _; rotate_left; subst x)
    | (extract_lets +onlyGivenNames x; clear_value x)
    | extract_lets +onlyGivenNames _
    | with_reducible apply Within.refl
    | with_reducible assumption
    | decide
    | split
    | with_reducible apply Within.set_arms

theorem Chip.bypassTimeout_within (s : Chip) (nn : Nat) :
    Within 0 0xa00 s (Chip.bypassTimeout s nn) := by
  unfold Chip.bypassTimeout
  repeat' first
    | (extract_lets +onlyGivenNames x; refine .cut (x := x) ?_ ?_; rotate_left; clear_value x; intro _; rotate_left; subst x)
    | (extract_lets +onlyGivenNames x; refine .cut (x := x.2) ?_ ?_; rotate_left; clear_value x; intro _; rotate_left; subst x)
    | (extract_lets +onlyGivenNames x; refine .cut (x := x.2.2) ?_ ?_; rotate_left; clear_value x; intro _; rotate_left; subst x)
    | (extract_lets +onlyGivenNames x; clear_value x)
    | extract_lets +onlyGivenNames _
    | with_reducible apply Within.refl
    | with_reducible assumption
    | decide
    | with_reducible apply Within.step (Chip.raise_within _ _)
    | with_reducible apply Within.step (Chip.setCell_within _ _ _)
    | split

theorem Chip.advanceArms_within (s : Chip) :
    Within 0 0x200 s (Chip.advanceArms s) := by
  unfold Chip.advanceArms
  repeat' first
    | (extract_lets +onlyGivenNames x; refine .cut (x := x) ?_ ?_; rotate_left; clear_value x; intro _; rotate_left; subst x)
    | (extract_lets +onlyGivenNames x; refine .cut (x := x.2) ?_ ?_; rotate_left; clear_value x; intro _; rotate_left; subst x)
    | (extract_lets +onlyGivenNames x; refine .cut (x := x.2.2) ?_ ?_; rotate_left; clear_value x; intro _; rotate_left; subst x)
    | (extract_lets +onlyGivenNames x; clear_value x)
    | extract_lets +onlyGivenNames _
    | with_reducible apply Within.refl
    | with_reducible assumption
    | decide
    | with_reducible apply Within.step (Chip.setArm_within _ _ _)
    | with_reducible apply Within.step (Chip.setCell_within _ _ _)
    | (with_reducible apply Within.each; rotate_left; intro _ _ _)
    | split

theorem Chip.writeCellTable_within (s : Chip) (nn : Nat) :
    Within 0x38000 0x1000801 s (Chip.writeCellTable s nn) := by
  unfold Chip.writeCellTable
  repeat' first
    | (extract_lets +onlyGivenNames x; refine .cut (x := x) ?_ ?_; rotate_left; clear_value x; intro _; rotate_left; subst x)
    | (extract_lets +onlyGivenNames x; refine .cut (x := x.2) ?_ ?_; rotate_left; clear_value x; intro _; rotate_left; subst x)
    | (extract_lets +onlyGivenNames x; refine .cut (x := x.2.2) ?_ ?_; rotate_left; clear_value x; intro _; rotate_left; subst x)
    | (extract_lets +onlyGivenNames x; clear_value x)
    | extract_lets +onlyGivenNames _
    | with_reducible apply Within.refl
    | with_reducible assumption
    | decide
    | with_reducible apply Within.step (Chip.sramPutWord_within _ _ _)
    | split

theorem Chip.enterMode_within (s : Chip) (m : Mode) :
    Within 0x2c0000000000000000000000000000000000000000000000000000046c000000000000080000000000008000000000000000000000800004000000000000002000000020000000000000000000060000000 0x82aba0 s (Chip.enterMode s m) := by
  unfold Chip.enterMode
  repeat' first
    | (extract_lets +onlyGivenNames x; refine .cut (x := x) ?_ ?_; rotate_left; clear_value x; intro _; rotate_left; subst x)
    | (extract_lets +onlyGivenNames x; refine .cut (x := x.2) ?_ ?_; rotate_left; clear_value x; intro _; rotate_left; subst x)
    | (extract_lets +onlyGivenNames x; refine .cut (x := x.2.2) ?_ ?_; rotate_left; clear_value x; intro _; rotate_left; subst x)
    | (extract_lets +onlyGivenNames x; clear_value x)
    | extract_lets +onlyGivenNames _
    | with_reducible apply Within.refl
    | with_reducible assumption
    | decide
    | with_reducible apply Within.step (Chip.phaseStep_within _ _)
    | with_reducible apply Within.step (Chip.setMode_within _ _)
    | (with_reducible apply Within.each; rotate_left; intro _ _ _)
    | split

end Sys2Proof.Machine
end

