-- ==== Sys2Proof/Laws/FramePll.lean ====
section
/-! SUPPORT. The frames of the operations of Machine/Pll.lean: the fields and the parts of the state each may change. -/

set_option linter.tactic.unusedName false

namespace Sys2Proof.Machine

theorem Chip.setPtp_within (s : Chip) (time : Nat) (rate : Int) :
    Within 0 0x80000 s (Chip.setPtp s time rate) := by
  unfold Chip.setPtp
  repeat' first
    | (extract_lets +onlyGivenNames x; refine .cut (x := x) ?_ ?_; rotate_left; clear_value x; intro _; rotate_left; subst x)
    | (extract_lets +onlyGivenNames x; refine .cut (x := x.2) ?_ ?_; rotate_left; clear_value x; intro _; rotate_left; subst x)
    | (extract_lets +onlyGivenNames x; refine .cut (x := x.2.2) ?_ ?_; rotate_left; clear_value x; intro _; rotate_left; subst x)
    | (extract_lets +onlyGivenNames x; clear_value x)
    | extract_lets +onlyGivenNames _
    | with_reducible apply Within.refl
    | with_reducible assumption
    | decide
    | split
    | with_reducible apply Within.set_net

theorem Chip.anchorPtp_within (s : Chip) :
    Within 0 0x80000 s (Chip.anchorPtp s) := by
  unfold Chip.anchorPtp
  repeat' first
    | (extract_lets +onlyGivenNames x; refine .cut (x := x) ?_ ?_; rotate_left; clear_value x; intro _; rotate_left; subst x)
    | (extract_lets +onlyGivenNames x; refine .cut (x := x.2) ?_ ?_; rotate_left; clear_value x; intro _; rotate_left; subst x)
    | (extract_lets +onlyGivenNames x; refine .cut (x := x.2.2) ?_ ?_; rotate_left; clear_value x; intro _; rotate_left; subst x)
    | (extract_lets +onlyGivenNames x; clear_value x)
    | extract_lets +onlyGivenNames _
    | with_reducible apply Within.refl
    | with_reducible assumption
    | decide
    | with_reducible apply Within.step (Chip.setPtp_within _ _ _)
    | split

theorem Chip.startRotation_within (s : Chip) :
    Within 0x20000000000000000000000000000000000000000000000000000 0x200 s (Chip.startRotation s) := by
  unfold Chip.startRotation
  repeat' first
    | (extract_lets +onlyGivenNames x; refine .cut (x := x) ?_ ?_; rotate_left; clear_value x; intro _; rotate_left; subst x)
    | (extract_lets +onlyGivenNames x; refine .cut (x := x.2) ?_ ?_; rotate_left; clear_value x; intro _; rotate_left; subst x)
    | (extract_lets +onlyGivenNames x; refine .cut (x := x.2.2) ?_ ?_; rotate_left; clear_value x; intro _; rotate_left; subst x)
    | (extract_lets +onlyGivenNames x; clear_value x)
    | extract_lets +onlyGivenNames _
    | with_reducible apply Within.refl
    | with_reducible assumption
    | decide
    | with_reducible apply Within.step (Chip.setArm_within _ _ _)
    | with_reducible apply Within.wr
    | (with_reducible apply Within.each; rotate_left; intro _ _ _)
    | split

theorem Chip.startGrid_within (s : Chip) :
    Within 0x20000000000000000000000000000000000000000000000000010 0x100204 s (Chip.startGrid s) := by
  unfold Chip.startGrid
  repeat' first
    | (extract_lets +onlyGivenNames x; refine .cut (x := x) ?_ ?_; rotate_left; clear_value x; intro _; rotate_left; subst x)
    | (extract_lets +onlyGivenNames x; refine .cut (x := x.2) ?_ ?_; rotate_left; clear_value x; intro _; rotate_left; subst x)
    | (extract_lets +onlyGivenNames x; refine .cut (x := x.2.2) ?_ ?_; rotate_left; clear_value x; intro _; rotate_left; subst x)
    | (extract_lets +onlyGivenNames x; clear_value x)
    | extract_lets +onlyGivenNames _
    | with_reducible apply Within.refl
    | with_reducible assumption
    | decide
    | with_reducible apply Within.step (Chip.startRotation_within _)
    | with_reducible apply Within.wr
    | split
    | with_reducible apply Within.set_clock_metrology

theorem Chip.setMeter_within (s : Chip) (k : Nat) (r : MeterPoint) :
    Within 0 0x100000 s (Chip.setMeter s k r) := by
  unfold Chip.setMeter
  repeat' first
    | (extract_lets +onlyGivenNames x; refine .cut (x := x) ?_ ?_; rotate_left; clear_value x; intro _; rotate_left; subst x)
    | (extract_lets +onlyGivenNames x; refine .cut (x := x.2) ?_ ?_; rotate_left; clear_value x; intro _; rotate_left; subst x)
    | (extract_lets +onlyGivenNames x; refine .cut (x := x.2.2) ?_ ?_; rotate_left; clear_value x; intro _; rotate_left; subst x)
    | (extract_lets +onlyGivenNames x; clear_value x)
    | extract_lets +onlyGivenNames _
    | with_reducible apply Within.refl
    | with_reducible assumption
    | decide
    | split
    | with_reducible apply Within.set_metrology

theorem Chip.unmeasured_within (s : Chip) (k : Nat) (w : List MeterSample) :
    Within 0x90000000000000000000000000000000000000000000000000000000000000000000000000000000000 0x100000 s (Chip.unmeasured s k w) := by
  unfold Chip.unmeasured
  repeat' first
    | (extract_lets +onlyGivenNames x; refine .cut (x := x) ?_ ?_; rotate_left; clear_value x; intro _; rotate_left; subst x)
    | (extract_lets +onlyGivenNames x; refine .cut (x := x.2) ?_ ?_; rotate_left; clear_value x; intro _; rotate_left; subst x)
    | (extract_lets +onlyGivenNames x; refine .cut (x := x.2.2) ?_ ?_; rotate_left; clear_value x; intro _; rotate_left; subst x)
    | (extract_lets +onlyGivenNames x; clear_value x)
    | extract_lets +onlyGivenNames _
    | with_reducible apply Within.refl
    | with_reducible assumption
    | decide
    | with_reducible apply Within.step (Chip.setMeter_within _ _ _)
    | with_reducible apply Within.wr
    | split

theorem Chip.cutWindow_within (s : Chip) (k : Nat) :
    Within 0x90000000000000000000000000000000000000000000000000000000000000000000000000000000000 0x100000 s (Chip.cutWindow s k) := by
  unfold Chip.cutWindow
  repeat' first
    | (extract_lets +onlyGivenNames x; refine .cut (x := x) ?_ ?_; rotate_left; clear_value x; intro _; rotate_left; subst x)
    | (extract_lets +onlyGivenNames x; refine .cut (x := x.2) ?_ ?_; rotate_left; clear_value x; intro _; rotate_left; subst x)
    | (extract_lets +onlyGivenNames x; refine .cut (x := x.2.2) ?_ ?_; rotate_left; clear_value x; intro _; rotate_left; subst x)
    | (extract_lets +onlyGivenNames x; clear_value x)
    | extract_lets +onlyGivenNames _
    | with_reducible apply Within.refl
    | with_reducible assumption
    | decide
    | with_reducible apply Within.step (Chip.setMeter_within _ _ _)
    | with_reducible apply Within.step (Chip.unmeasured_within _ _ _)
    | split

theorem Chip.stopGrid_within (s : Chip) :
    Within 0x90000000000000000000000000000000000000000000000000000000000000000000000000000000010 0x100004 s (Chip.stopGrid s) := by
  unfold Chip.stopGrid
  repeat' first
    | (extract_lets +onlyGivenNames x; refine .cut (x := x) ?_ ?_; rotate_left; clear_value x; intro _; rotate_left; subst x)
    | (extract_lets +onlyGivenNames x; refine .cut (x := x.2) ?_ ?_; rotate_left; clear_value x; intro _; rotate_left; subst x)
    | (extract_lets +onlyGivenNames x; refine .cut (x := x.2.2) ?_ ?_; rotate_left; clear_value x; intro _; rotate_left; subst x)
    | (extract_lets +onlyGivenNames x; clear_value x)
    | extract_lets +onlyGivenNames _
    | with_reducible apply Within.refl
    | with_reducible assumption
    | decide
    | with_reducible apply Within.step (Chip.cutWindow_within _ _)
    | with_reducible apply Within.wr
    | split
    | with_reducible apply Within.set_clock_metrology

theorem Chip.resetLanes_within (s : Chip) :
    Within 0x80000000000000000000000000000000000000000000000000000000001e00000000000000000000000016f000000000000002380200000000 0x2a0 s (Chip.resetLanes s) := by
  unfold Chip.resetLanes
  repeat' first
    | (extract_lets +onlyGivenNames x; refine .cut (x := x) ?_ ?_; rotate_left; clear_value x; intro _; rotate_left; subst x)
    | (extract_lets +onlyGivenNames x; refine .cut (x := x.2) ?_ ?_; rotate_left; clear_value x; intro _; rotate_left; subst x)
    | (extract_lets +onlyGivenNames x; refine .cut (x := x.2.2) ?_ ?_; rotate_left; clear_value x; intro _; rotate_left; subst x)
    | (extract_lets +onlyGivenNames x; clear_value x)
    | extract_lets +onlyGivenNames _
    | with_reducible apply Within.refl
    | with_reducible assumption
    | decide
    | with_reducible apply Within.step (Chip.laneReset_within _ _)
    | (with_reducible apply Within.each; rotate_left; intro _ _ _)
    | split

theorem Chip.stopModulators_within (s : Chip) :
    Within 0x800000000000000000000000000000000000000000000000000000000000000000000000000 0x4000 s (Chip.stopModulators s) := by
  unfold Chip.stopModulators
  repeat' first
    | (extract_lets +onlyGivenNames x; refine .cut (x := x) ?_ ?_; rotate_left; clear_value x; intro _; rotate_left; subst x)
    | (extract_lets +onlyGivenNames x; refine .cut (x := x.2) ?_ ?_; rotate_left; clear_value x; intro _; rotate_left; subst x)
    | (extract_lets +onlyGivenNames x; refine .cut (x := x.2.2) ?_ ?_; rotate_left; clear_value x; intro _; rotate_left; subst x)
    | (extract_lets +onlyGivenNames x; clear_value x)
    | extract_lets +onlyGivenNames _
    | with_reducible apply Within.refl
    | with_reducible assumption
    | decide
    | with_reducible apply Within.wr
    | (with_reducible apply Within.each; rotate_left; intro _ _ _)
    | split
    | with_reducible apply Within.set_converter

theorem Chip.startModulators_within (s : Chip) :
    Within 0 0x4000 s (Chip.startModulators s) := by
  unfold Chip.startModulators
  repeat' first
    | (extract_lets +onlyGivenNames x; refine .cut (x := x) ?_ ?_; rotate_left; clear_value x; intro _; rotate_left; subst x)
    | (extract_lets +onlyGivenNames x; refine .cut (x := x.2) ?_ ?_; rotate_left; clear_value x; intro _; rotate_left; subst x)
    | (extract_lets +onlyGivenNames x; refine .cut (x := x.2.2) ?_ ?_; rotate_left; clear_value x; intro _; rotate_left; subst x)
    | (extract_lets +onlyGivenNames x; clear_value x)
    | extract_lets +onlyGivenNames _
    | with_reducible apply Within.refl
    | with_reducible assumption
    | decide
    | split
    | with_reducible apply Within.set_converter

theorem Chip.stopSynthesisers_within (s : Chip) :
    Within 0x80000044c00000000000000000000009000000080000000000000000001e00000000000000000000000016f000000003400002380200000010 0x18c2e4 s (Chip.stopSynthesisers s) := by
  unfold Chip.stopSynthesisers
  repeat' first
    | (extract_lets +onlyGivenNames x; refine .cut (x := x) ?_ ?_; rotate_left; clear_value x; intro _; rotate_left; subst x)
    | (extract_lets +onlyGivenNames x; refine .cut (x := x.2) ?_ ?_; rotate_left; clear_value x; intro _; rotate_left; subst x)
    | (extract_lets +onlyGivenNames x; refine .cut (x := x.2.2) ?_ ?_; rotate_left; clear_value x; intro _; rotate_left; subst x)
    | (extract_lets +onlyGivenNames x; clear_value x)
    | extract_lets +onlyGivenNames _
    | with_reducible apply Within.refl
    | with_reducible assumption
    | decide
    | with_reducible apply Within.step (Chip.anchorPtp_within _)
    | with_reducible apply Within.step (Chip.resetLanes_within _)
    | with_reducible apply Within.step (Chip.shroudRefresh_within _)
    | with_reducible apply Within.step (Chip.stopGrid_within _)
    | with_reducible apply Within.step (Chip.stopModulators_within _)
    | with_reducible apply Within.wr
    | split
    | with_reducible apply Within.set_pll

theorem Chip.locked_within (s : Chip) (path : Nat) (band : Nat) :
    Within 0x80000044c00000000000000000000009000000000000000000000000001e02000000000000000000000016f00001c00f400002380200000010 0x118c2e4 s (Chip.locked s path band) := by
  unfold Chip.locked
  repeat' first
    | (extract_lets +onlyGivenNames x; refine .cut (x := x) ?_ ?_; rotate_left; clear_value x; intro _; rotate_left; subst x)
    | (extract_lets +onlyGivenNames x; refine .cut (x := x.2) ?_ ?_; rotate_left; clear_value x; intro _; rotate_left; subst x)
    | (extract_lets +onlyGivenNames x; refine .cut (x := x.2.2) ?_ ?_; rotate_left; clear_value x; intro _; rotate_left; subst x)
    | (extract_lets +onlyGivenNames x; clear_value x)
    | extract_lets +onlyGivenNames _
    | with_reducible apply Within.refl
    | with_reducible assumption
    | decide
    | with_reducible apply Within.step (Chip.anchorPtp_within _)
    | with_reducible apply Within.step (Chip.draw_within _)
    | with_reducible apply Within.step (Chip.resetLanes_within _)
    | with_reducible apply Within.step (Chip.shroudRefresh_within _)
    | with_reducible apply Within.step (Chip.startGrid_within _)
    | with_reducible apply Within.step (Chip.startModulators_within _)
    | with_reducible apply Within.step (Chip.stopGrid_within _)
    | with_reducible apply Within.wrInt
    | with_reducible apply Within.wr
    | split
    | with_reducible apply Within.set_pll
    | with_reducible apply Within.set_clock

theorem Chip.pllLock_within (s : Chip) (ok : Bool × Bool × Bool) (band : Nat) (temp : Option Int) :
    Within 0x80000044c00000000000000000000009000000000000000000000000001e02000000000000000000000016f00001c00f400002380200000010 0x118c2e4 s (Chip.pllLock s ok band temp) := by
  unfold Chip.pllLock
  repeat' first
    | (extract_lets +onlyGivenNames x; refine .cut (x := x) ?_ ?_; rotate_left; clear_value x; intro _; rotate_left; subst x)
    | (extract_lets +onlyGivenNames x; refine .cut (x := x.2) ?_ ?_; rotate_left; clear_value x; intro _; rotate_left; subst x)
    | (extract_lets +onlyGivenNames x; refine .cut (x := x.2.2) ?_ ?_; rotate_left; clear_value x; intro _; rotate_left; subst x)
    | (extract_lets +onlyGivenNames x; clear_value x)
    | extract_lets +onlyGivenNames _
    | with_reducible apply Within.refl
    | with_reducible assumption
    | decide
    | with_reducible apply Within.step (Chip.locked_within _ _ _)
    | split
    | with_reducible apply Within.set_pll

theorem Chip.relockRetry_within (s : Chip) :
    Within 0 0x40 s (Chip.relockRetry s) := by
  unfold Chip.relockRetry
  repeat' first
    | (extract_lets +onlyGivenNames x; refine .cut (x := x) ?_ ?_; rotate_left; clear_value x; intro _; rotate_left; subst x)
    | (extract_lets +onlyGivenNames x; refine .cut (x := x.2) ?_ ?_; rotate_left; clear_value x; intro _; rotate_left; subst x)
    | (extract_lets +onlyGivenNames x; refine .cut (x := x.2.2) ?_ ?_; rotate_left; clear_value x; intro _; rotate_left; subst x)
    | (extract_lets +onlyGivenNames x; clear_value x)
    | extract_lets +onlyGivenNames _
    | with_reducible apply Within.refl
    | with_reducible assumption
    | decide
    | split
    | with_reducible apply Within.set_pll

theorem Chip.bandTable_within (s : Chip) (band : List Nat) :
    Within 0x3000000000000000000000 0x40 s (Chip.bandTable s band) := by
  unfold Chip.bandTable
  repeat' first
    | (extract_lets +onlyGivenNames x; refine .cut (x := x) ?_ ?_; rotate_left; clear_value x; intro _; rotate_left; subst x)
    | (extract_lets +onlyGivenNames x; refine .cut (x := x.2) ?_ ?_; rotate_left; clear_value x; intro _; rotate_left; subst x)
    | (extract_lets +onlyGivenNames x; refine .cut (x := x.2.2) ?_ ?_; rotate_left; clear_value x; intro _; rotate_left; subst x)
    | (extract_lets +onlyGivenNames x; clear_value x)
    | extract_lets +onlyGivenNames _
    | with_reducible apply Within.refl
    | with_reducible assumption
    | decide
    | with_reducible apply Within.wr
    | (with_reducible apply Within.each; rotate_left; intro _ _ _)
    | (with_reducible apply Within.onlyIf; rotate_left; intro _ _)
    | split
    | with_reducible apply Within.set_pll

theorem Chip.hop_within (s : Chip) (p : Nat) (edges : Bool) :
    Within 0x80000044c00000000000000000000009000000080000000000000000001e00000000000000000000000016f000000017c00002380200000010 0x18c2e4 s (Chip.hop s p edges) := by
  unfold Chip.hop
  repeat' first
    | (extract_lets +onlyGivenNames x; refine .cut (x := x) ?_ ?_; rotate_left; clear_value x; intro _; rotate_left; subst x)
    | (extract_lets +onlyGivenNames x; refine .cut (x := x.2) ?_ ?_; rotate_left; clear_value x; intro _; rotate_left; subst x)
    | (extract_lets +onlyGivenNames x; refine .cut (x := x.2.2) ?_ ?_; rotate_left; clear_value x; intro _; rotate_left; subst x)
    | (extract_lets +onlyGivenNames x; clear_value x)
    | extract_lets +onlyGivenNames _
    | with_reducible apply Within.refl
    | with_reducible assumption
    | decide
    | with_reducible apply Within.step (Chip.anchorPtp_within _)
    | with_reducible apply Within.step (Chip.stopSynthesisers_within _)
    | with_reducible apply Within.wrFlag
    | with_reducible apply Within.wr
    | split

theorem Chip.hopRequest_within (s : Chip) (p : Nat) (edges : Bool) :
    Within 0x80000044c00000000000000000000009000000080000000000000000001e00000000000000000000000016f000000017c00002380200000010 0x18cae4 s (Chip.hopRequest s p edges) := by
  unfold Chip.hopRequest
  repeat' first
    | (extract_lets +onlyGivenNames x; refine .cut (x := x) ?_ ?_; rotate_left; clear_value x; intro _; rotate_left; subst x)
    | (extract_lets +onlyGivenNames x; refine .cut (x := x.2) ?_ ?_; rotate_left; clear_value x; intro _; rotate_left; subst x)
    | (extract_lets +onlyGivenNames x; refine .cut (x := x.2.2) ?_ ?_; rotate_left; clear_value x; intro _; rotate_left; subst x)
    | (extract_lets +onlyGivenNames x; clear_value x)
    | extract_lets +onlyGivenNames _
    | with_reducible apply Within.refl
    | with_reducible assumption
    | decide
    | with_reducible apply Within.step (Chip.hop_within _ _ _)
    | with_reducible apply Within.step (Chip.raise_within _ _)
    | split

theorem Chip.clockLossMode_within (s : Chip) :
    Within 0x2c0000000000000000000000000000000000000000000000000000046c000000019000080000000000008000000000000000000000800004000000000000002000000020000000000000000030078000000 0x83a9e0 s (Chip.clockLossMode s) := by
  unfold Chip.clockLossMode
  repeat' first
    | (extract_lets +onlyGivenNames x; refine .cut (x := x) ?_ ?_; rotate_left; clear_value x; intro _; rotate_left; subst x)
    | (extract_lets +onlyGivenNames x; refine .cut (x := x.2) ?_ ?_; rotate_left; clear_value x; intro _; rotate_left; subst x)
    | (extract_lets +onlyGivenNames x; refine .cut (x := x.2.2) ?_ ?_; rotate_left; clear_value x; intro _; rotate_left; subst x)
    | (extract_lets +onlyGivenNames x; clear_value x)
    | extract_lets +onlyGivenNames _
    | with_reducible apply Within.refl
    | with_reducible assumption
    | decide
    | with_reducible apply Within.step (Chip.closeWindow_within _)
    | with_reducible apply Within.step (Chip.enterSafeHold_within _ _)
    | split
    | with_reducible apply Within.set_pll

theorem Chip.referenceLost_within (s : Chip) :
    Within 0x2c0000000000000000000000000000000000000000000000000000046c000000019000080000000000008000000000000000000000800004000000000000002000000020000000041c00000030078000000 0x83a9e0 s (Chip.referenceLost s) := by
  unfold Chip.referenceLost
  repeat' first
    | (extract_lets +onlyGivenNames x; refine .cut (x := x) ?_ ?_; rotate_left; clear_value x; intro _; rotate_left; subst x)
    | (extract_lets +onlyGivenNames x; refine .cut (x := x.2) ?_ ?_; rotate_left; clear_value x; intro _; rotate_left; subst x)
    | (extract_lets +onlyGivenNames x; refine .cut (x := x.2.2) ?_ ?_; rotate_left; clear_value x; intro _; rotate_left; subst x)
    | (extract_lets +onlyGivenNames x; clear_value x)
    | extract_lets +onlyGivenNames _
    | with_reducible apply Within.refl
    | with_reducible assumption
    | decide
    | with_reducible apply Within.step (Chip.clockLossMode_within _)
    | with_reducible apply Within.step (Chip.raise_within _ _)
    | with_reducible apply Within.count
    | with_reducible apply Within.wr
    | (with_reducible apply Within.onlyIf; rotate_left; intro _ _)
    | split
    | with_reducible apply Within.set_pll

theorem Chip.lockLost_within (s : Chip) :
    Within 0x2c0000000000000000000000000000000000000000000000080000046c00000001900008000000009000800080000000000000000081e00400000000000000200000016f0000000234000023b0278000010 0x9bebe4 s (Chip.lockLost s) := by
  unfold Chip.lockLost
  repeat' first
    | (extract_lets +onlyGivenNames x; refine .cut (x := x) ?_ ?_; rotate_left; clear_value x; intro _; rotate_left; subst x)
    | (extract_lets +onlyGivenNames x; refine .cut (x := x.2) ?_ ?_; rotate_left; clear_value x; intro _; rotate_left; subst x)
    | (extract_lets +onlyGivenNames x; refine .cut (x := x.2.2) ?_ ?_; rotate_left; clear_value x; intro _; rotate_left; subst x)
    | (extract_lets +onlyGivenNames x; clear_value x)
    | extract_lets +onlyGivenNames _
    | with_reducible apply Within.refl
    | with_reducible assumption
    | decide
    | with_reducible apply Within.step (Chip.clockLossMode_within _)
    | with_reducible apply Within.step (Chip.stopSynthesisers_within _)
    | with_reducible apply Within.count
    | split

theorem Chip.holdoverExpiry_within (s : Chip) :
    Within 0x80000044c00000000000000000000009000000080000000000000000001e00000000000000000000000016f000000003400002380200000010 0x18c2e4 s (Chip.holdoverExpiry s) := by
  unfold Chip.holdoverExpiry
  repeat' first
    | (extract_lets +onlyGivenNames x; refine .cut (x := x) ?_ ?_; rotate_left; clear_value x; intro _; rotate_left; subst x)
    | (extract_lets +onlyGivenNames x; refine .cut (x := x.2) ?_ ?_; rotate_left; clear_value x; intro _; rotate_left; subst x)
    | (extract_lets +onlyGivenNames x; refine .cut (x := x.2.2) ?_ ?_; rotate_left; clear_value x; intro _; rotate_left; subst x)
    | (extract_lets +onlyGivenNames x; clear_value x)
    | extract_lets +onlyGivenNames _
    | with_reducible apply Within.refl
    | with_reducible assumption
    | decide
    | with_reducible apply Within.step (Chip.stopSynthesisers_within _)
    | split

theorem Chip.referenceReturn_within (s : Chip) :
    Within 0x800000000000000000 0x40 s (Chip.referenceReturn s) := by
  unfold Chip.referenceReturn
  repeat' first
    | (extract_lets +onlyGivenNames x; refine .cut (x := x) ?_ ?_; rotate_left; clear_value x; intro _; rotate_left; subst x)
    | (extract_lets +onlyGivenNames x; refine .cut (x := x.2) ?_ ?_; rotate_left; clear_value x; intro _; rotate_left; subst x)
    | (extract_lets +onlyGivenNames x; refine .cut (x := x.2.2) ?_ ?_; rotate_left; clear_value x; intro _; rotate_left; subst x)
    | (extract_lets +onlyGivenNames x; clear_value x)
    | extract_lets +onlyGivenNames _
    | with_reducible apply Within.refl
    | with_reducible assumption
    | decide
    | with_reducible apply Within.wr
    | split
    | with_reducible apply Within.set_pll

end Sys2Proof.Machine
end

