-- ==== Sys2Proof/Laws/FrameLive.lean ====
section
/-! SUPPORT. The frames of the operations of Machine/Live.lean: the fields and the parts of the state each may change. -/

set_option linter.tactic.unusedName false

namespace Sys2Proof.Machine

theorem Chip.liveWrite_within (s : Chip) (i : Nat) (v : Nat) :
    Within 0x3c0000000000000000 0x808 s (Chip.liveWrite s i v) := by
  unfold Chip.liveWrite
  repeat' first
    | (extract_lets +onlyGivenNames x; refine .cut (x := x) ?_ ?_; rotate_left; clear_value x; intro _; rotate_left; subst x)
    | (extract_lets +onlyGivenNames x; refine .cut (x := x.2) ?_ ?_; rotate_left; clear_value x; intro _; rotate_left; subst x)
    | (extract_lets +onlyGivenNames x; refine .cut (x := x.2.2) ?_ ?_; rotate_left; clear_value x; intro _; rotate_left; subst x)
    | (extract_lets +onlyGivenNames x; clear_value x)
    | extract_lets +onlyGivenNames _
    | with_reducible apply Within.refl
    | with_reducible assumption
    | decide
    | with_reducible apply Within.step (Chip.raise_within _ _)
    | with_reducible apply Within.count
    | with_reducible apply Within.wr
    | split
    | with_reducible apply Within.set_live

theorem Chip.liveEffect_within {F C : Nat} {s x : Chip} (k : Within F C s x) (i v : Nat) (dispatch : Chip → LiveCommand → Chip)
    (hf : ∀ u l, Within F C s u → Within F C s (dispatch u l)) (hF : Nat.land 0x4000000000000000000000000000000000000000000000000000000000000 F = 0x4000000000000000000000000000000000000000000000000000000000000)
    (hC : Nat.land 0x408 C = 0x408) : Within F C s (x.liveEffect i v dispatch) := by
  have hl : C.testBit 3 = true := testBit_of_land (k := 3) hC (by decide)
  unfold Chip.liveEffect
  extract_lets +onlyGivenNames _ a
  have ka : Within F C s a := .set_live k hl
  clear_value a
  split
  · exact ka
  split
  · exact .set_live ka hl
  · exact hf _ _ ka
  · exact .step (Chip.setLoopClosed_within _ _ _ _) ka hF (land_trans (by decide) hC)
  · exact .step (Chip.setCoefficient_within _ _ _ _ _) ka (by simp) (land_trans (by decide) hC)
  · exact ka

theorem Chip.liveInitial_within (s : Chip) :
    Within 0 8 s (Chip.liveInitial s) := by
  unfold Chip.liveInitial
  repeat' first
    | (extract_lets +onlyGivenNames x; refine .cut (x := x) ?_ ?_; rotate_left; clear_value x; intro _; rotate_left; subst x)
    | (extract_lets +onlyGivenNames x; refine .cut (x := x.2) ?_ ?_; rotate_left; clear_value x; intro _; rotate_left; subst x)
    | (extract_lets +onlyGivenNames x; refine .cut (x := x.2.2) ?_ ?_; rotate_left; clear_value x; intro _; rotate_left; subst x)
    | (extract_lets +onlyGivenNames x; clear_value x)
    | extract_lets +onlyGivenNames _
    | with_reducible apply Within.refl
    | with_reducible assumption
    | decide
    | split
    | with_reducible apply Within.set_live

theorem Chip.liveSnapshot_within {F C : Nat} {s x : Chip} (k : Within F C s x) (dispatch : Chip → LiveCommand → Chip)
    (hf : ∀ u l, Within F C s u → Within F C s (dispatch u l)) (hF : Nat.land 0x4000000000000000000000000000000000000000000000000000000000000 F = 0x4000000000000000000000000000000000000000000000000000000000000)
    (hC : Nat.land 0x408 C = 0x408) : Within F C s (x.liveSnapshot dispatch) := by
  have hl : C.testBit 3 = true := testBit_of_land (k := 3) hC (by decide)
  unfold Chip.liveSnapshot
  extract_lets +onlyGivenNames a l _ b
  have ka : Within F C s a := .step (Chip.liveInitial_within _) k (by simp) (land_trans (by decide) hC)
  clear_value a
  exact .each (.set_live ka hl) _ fun u e hu => Chip.liveEffect_within hu _ _ _ hf hF hC

theorem Chip.liveDistribute_within (s : Chip) :
    Within 0 0x408 s (Chip.liveDistribute s) := by
  unfold Chip.liveDistribute
  repeat' first
    | (extract_lets +onlyGivenNames x; refine .cut (x := x) ?_ ?_; rotate_left; clear_value x; intro _; rotate_left; subst x)
    | (extract_lets +onlyGivenNames x; refine .cut (x := x.2) ?_ ?_; rotate_left; clear_value x; intro _; rotate_left; subst x)
    | (extract_lets +onlyGivenNames x; refine .cut (x := x.2.2) ?_ ?_; rotate_left; clear_value x; intro _; rotate_left; subst x)
    | (extract_lets +onlyGivenNames x; clear_value x)
    | extract_lets +onlyGivenNames _
    | with_reducible apply Within.refl
    | with_reducible assumption
    | decide
    | with_reducible apply Within.step (Chip.setEngine_within _ _ _)
    | (with_reducible apply Within.each; rotate_left; intro _ _ _)
    | split
    | with_reducible apply Within.set_live

theorem Chip.liveDefault_within (s : Chip) :
    Within 0x200000000000000000 8 s (Chip.liveDefault s) := by
  unfold Chip.liveDefault
  repeat' first
    | (extract_lets +onlyGivenNames x; refine .cut (x := x) ?_ ?_; rotate_left; clear_value x; intro _; rotate_left; subst x)
    | (extract_lets +onlyGivenNames x; refine .cut (x := x.2) ?_ ?_; rotate_left; clear_value x; intro _; rotate_left; subst x)
    | (extract_lets +onlyGivenNames x; refine .cut (x := x.2.2) ?_ ?_; rotate_left; clear_value x; intro _; rotate_left; subst x)
    | (extract_lets +onlyGivenNames x; clear_value x)
    | extract_lets +onlyGivenNames _
    | with_reducible apply Within.refl
    | with_reducible assumption
    | decide
    | with_reducible apply Within.wr
    | (with_reducible apply Within.each; rotate_left; intro _ _ _)
    | split
    | with_reducible apply Within.set_live

end Sys2Proof.Machine
end

