-- ==== Sys2Proof/Laws/FrameHalyard.lean ====
section
/-! SUPPORT. The frames of the operations of Machine/Halyard.lean: the fields and the parts of the state each may change. -/

set_option linter.tactic.unusedName false

namespace Sys2Proof.Machine

theorem Chip.showPartner_within (s : Chip) (h : HalHeader) :
    Within 0x1d0000000000000000000000000000000000000000000000000000000000000000000000000000000000000000000000000000000000000000 0 s (Chip.showPartner s h) := by
  unfold Chip.showPartner
  repeat' first
    | (extract_lets +onlyGivenNames x; refine .cut (x := x) ?_ ?_; rotate_left; clear_value x; intro _; rotate_left; subst x)
    | (extract_lets +onlyGivenNames x; refine .cut (x := x.2) ?_ ?_; rotate_left; clear_value x; intro _; rotate_left; subst x)
    | (extract_lets +onlyGivenNames x; refine .cut (x := x.2.2) ?_ ?_; rotate_left; clear_value x; intro _; rotate_left; subst x)
    | (extract_lets +onlyGivenNames x; clear_value x)
    | extract_lets +onlyGivenNames _
    | with_reducible apply Within.refl
    | with_reducible assumption
    | decide
    | with_reducible apply Within.wrFlag
    | with_reducible apply Within.wr
    | split

theorem Chip.leaveStep_within (s : Chip) :
    Within 0x4000000000000000000000000000000000000000000000000000000000000000000000000000000000000000000000000000000000000000 0x20000 s (Chip.leaveStep s) := by
  unfold Chip.leaveStep
  repeat' first
    | (extract_lets +onlyGivenNames x; refine .cut (x := x) ?_ ?_; rotate_left; clear_value x; intro _; rotate_left; subst x)
    | (extract_lets +onlyGivenNames x; refine .cut (x := x.2) ?_ ?_; rotate_left; clear_value x; intro _; rotate_left; subst x)
    | (extract_lets +onlyGivenNames x; refine .cut (x := x.2.2) ?_ ?_; rotate_left; clear_value x; intro _; rotate_left; subst x)
    | (extract_lets +onlyGivenNames x; clear_value x)
    | extract_lets +onlyGivenNames _
    | with_reducible apply Within.refl
    | with_reducible assumption
    | decide
    | with_reducible apply Within.wr
    | split
    | with_reducible apply Within.set_halyard

theorem Chip.endInStep_within (s : Chip) :
    Within 0x4000000000000000000000000000000000000000000000000000000000000000000000000000000000000000000000000000000000000000 0x20000 s (Chip.endInStep s) := by
  unfold Chip.endInStep
  repeat' first
    | (extract_lets +onlyGivenNames x; refine .cut (x := x) ?_ ?_; rotate_left; clear_value x; intro _; rotate_left; subst x)
    | (extract_lets +onlyGivenNames x; refine .cut (x := x.2) ?_ ?_; rotate_left; clear_value x; intro _; rotate_left; subst x)
    | (extract_lets +onlyGivenNames x; refine .cut (x := x.2.2) ?_ ?_; rotate_left; clear_value x; intro _; rotate_left; subst x)
    | (extract_lets +onlyGivenNames x; clear_value x)
    | extract_lets +onlyGivenNames _
    | with_reducible apply Within.refl
    | with_reducible assumption
    | decide
    | with_reducible apply Within.step (Chip.leaveStep_within _)
    | split
    | with_reducible apply Within.set_halyard

theorem Chip.partnerRules_within (s : Chip) :
    Within 0x2c00000000000000000000000000000000000000000000000000000c7c000000019000080000000000008000000000000000000000800004000000000000002000000020000000000000000030078000000 0x83b9e0 s (Chip.partnerRules s) := by
  unfold Chip.partnerRules
  repeat' first
    | (extract_lets +onlyGivenNames x; refine .cut (x := x) ?_ ?_; rotate_left; clear_value x; intro _; rotate_left; subst x)
    | (extract_lets +onlyGivenNames x; refine .cut (x := x.2) ?_ ?_; rotate_left; clear_value x; intro _; rotate_left; subst x)
    | (extract_lets +onlyGivenNames x; refine .cut (x := x.2.2) ?_ ?_; rotate_left; clear_value x; intro _; rotate_left; subst x)
    | (extract_lets +onlyGivenNames x; clear_value x)
    | extract_lets +onlyGivenNames _
    | with_reducible apply Within.refl
    | with_reducible assumption
    | decide
    | with_reducible apply Within.step (Chip.raise_within _ _)
    | with_reducible apply Within.step (Chip.severeReaction_within _)
    | split
    | with_reducible apply Within.set_halyard
    | with_reducible apply Within.set_pll

theorem Chip.halyardHeader_within (s : Chip) (n : Nat) (h : BitVec 32) :
    Within 0x2c000000000000000000000000000000000000000000000001f0800c7c000000019000080000000000008000000000000000000000800004000000000000002000002022000000000000000030078000000 0x83b9e0 s (Chip.halyardHeader s n h) := by
  unfold Chip.halyardHeader
  repeat' first
    | (extract_lets +onlyGivenNames x; refine .cut (x := x) ?_ ?_; rotate_left; clear_value x; intro _; rotate_left; subst x)
    | (extract_lets +onlyGivenNames x; refine .cut (x := x.2) ?_ ?_; rotate_left; clear_value x; intro _; rotate_left; subst x)
    | (extract_lets +onlyGivenNames x; refine .cut (x := x.2.2) ?_ ?_; rotate_left; clear_value x; intro _; rotate_left; subst x)
    | (extract_lets +onlyGivenNames x; clear_value x)
    | extract_lets +onlyGivenNames _
    | with_reducible apply Within.refl
    | with_reducible assumption
    | decide
    | (with_reducible apply Chip.blockFollows_within; rotate_left; intro _ _)
    | with_reducible apply Within.step (Chip.partnerRules_within _)
    | with_reducible apply Within.step (Chip.setLane_within _ _ _)
    | with_reducible apply Within.step (Chip.showPartner_within _ _)
    | with_reducible apply Within.wrFlag
    | with_reducible apply Within.count
    | with_reducible apply Within.wr
    | split
    | with_reducible apply Within.set_halyard

theorem Chip.partnerSilence_within (s : Chip) :
    Within 0x800000000000000000000000000000000000000000000000000000000000000000000000000000000000000000000000000000000000000 0x20080 s (Chip.partnerSilence s) := by
  unfold Chip.partnerSilence
  repeat' first
    | (extract_lets +onlyGivenNames x; refine .cut (x := x) ?_ ?_; rotate_left; clear_value x; intro _; rotate_left; subst x)
    | (extract_lets +onlyGivenNames x; refine .cut (x := x.2) ?_ ?_; rotate_left; clear_value x; intro _; rotate_left; subst x)
    | (extract_lets +onlyGivenNames x; refine .cut (x := x.2.2) ?_ ?_; rotate_left; clear_value x; intro _; rotate_left; subst x)
    | (extract_lets +onlyGivenNames x; clear_value x)
    | extract_lets +onlyGivenNames _
    | with_reducible apply Within.refl
    | with_reducible assumption
    | decide
    | (with_reducible apply Chip.blockFollows_within; rotate_left; intro _ _)
    | with_reducible apply Within.wr
    | split
    | with_reducible apply Within.set_halyard

theorem Chip.declareTakeover_within (s : Chip) :
    Within 0 0x20000 s (Chip.declareTakeover s) := by
  unfold Chip.declareTakeover
  repeat' first
    | (extract_lets +onlyGivenNames x; refine .cut (x := x) ?_ ?_; rotate_left; clear_value x; intro _; rotate_left; subst x)
    | (extract_lets +onlyGivenNames x; refine .cut (x := x.2) ?_ ?_; rotate_left; clear_value x; intro _; rotate_left; subst x)
    | (extract_lets +onlyGivenNames x; refine .cut (x := x.2.2) ?_ ?_; rotate_left; clear_value x; intro _; rotate_left; subst x)
    | (extract_lets +onlyGivenNames x; clear_value x)
    | extract_lets +onlyGivenNames _
    | with_reducible apply Within.refl
    | with_reducible assumption
    | decide
    | split
    | with_reducible apply Within.set_halyard

theorem Chip.silenceTakeover_within (s : Chip) :
    Within 0 0x20000 s (Chip.silenceTakeover s) := by
  unfold Chip.silenceTakeover
  repeat' first
    | (extract_lets +onlyGivenNames x; refine .cut (x := x) ?_ ?_; rotate_left; clear_value x; intro _; rotate_left; subst x)
    | (extract_lets +onlyGivenNames x; refine .cut (x := x.2) ?_ ?_; rotate_left; clear_value x; intro _; rotate_left; subst x)
    | (extract_lets +onlyGivenNames x; refine .cut (x := x.2.2) ?_ ?_; rotate_left; clear_value x; intro _; rotate_left; subst x)
    | (extract_lets +onlyGivenNames x; clear_value x)
    | extract_lets +onlyGivenNames _
    | with_reducible apply Within.refl
    | with_reducible assumption
    | decide
    | with_reducible apply Within.step (Chip.declareTakeover_within _)
    | split
    | with_reducible apply Within.set_halyard

theorem Chip.silenceYield_within (s : Chip) :
    Within 0 0x20000 s (Chip.silenceYield s) := by
  unfold Chip.silenceYield
  repeat' first
    | (extract_lets +onlyGivenNames x; refine .cut (x := x) ?_ ?_; rotate_left; clear_value x; intro _; rotate_left; subst x)
    | (extract_lets +onlyGivenNames x; refine .cut (x := x.2) ?_ ?_; rotate_left; clear_value x; intro _; rotate_left; subst x)
    | (extract_lets +onlyGivenNames x; refine .cut (x := x.2.2) ?_ ?_; rotate_left; clear_value x; intro _; rotate_left; subst x)
    | (extract_lets +onlyGivenNames x; clear_value x)
    | extract_lets +onlyGivenNames _
    | with_reducible apply Within.refl
    | with_reducible assumption
    | decide
    | split
    | with_reducible apply Within.set_halyard

theorem Chip.nonceReceived_within (s : Chip) (n : Nat) (frame : List Byte) (crc : BitVec 32) :
    Within 0x4501000000000000000000000000000000000000000000000000000000000000000000000000000000000000000000000000000000000000000000000000000000000000 0x22000 s (Chip.nonceReceived s n frame crc) := by
  unfold Chip.nonceReceived
  repeat' first
    | (extract_lets +onlyGivenNames x; refine .cut (x := x) ?_ ?_; rotate_left; clear_value x; intro _; rotate_left; subst x)
    | (extract_lets +onlyGivenNames x; refine .cut (x := x.2) ?_ ?_; rotate_left; clear_value x; intro _; rotate_left; subst x)
    | (extract_lets +onlyGivenNames x; refine .cut (x := x.2.2) ?_ ?_; rotate_left; clear_value x; intro _; rotate_left; subst x)
    | (extract_lets +onlyGivenNames x; clear_value x)
    | extract_lets +onlyGivenNames _
    | with_reducible apply Within.refl
    | with_reducible assumption
    | decide
    | with_reducible apply Within.step (Chip.askLeave_within _ _)
    | split
    | with_reducible apply Within.set_halyard

theorem Chip.sendProof_within (s : Chip) (n : Nat) :
    Within 0 0x1020080 s (Chip.sendProof s n) := by
  unfold Chip.sendProof
  repeat' first
    | (extract_lets +onlyGivenNames x; refine .cut (x := x) ?_ ?_; rotate_left; clear_value x; intro _; rotate_left; subst x)
    | (extract_lets +onlyGivenNames x; refine .cut (x := x.2) ?_ ?_; rotate_left; clear_value x; intro _; rotate_left; subst x)
    | (extract_lets +onlyGivenNames x; refine .cut (x := x.2.2) ?_ ?_; rotate_left; clear_value x; intro _; rotate_left; subst x)
    | (extract_lets +onlyGivenNames x; clear_value x)
    | extract_lets +onlyGivenNames _
    | with_reducible apply Within.refl
    | with_reducible assumption
    | decide
    | with_reducible apply Within.step (Chip.draw_within _)
    | with_reducible apply Within.step (Chip.sendId_within _ _ _ _)
    | split
    | with_reducible apply Within.set_halyard

theorem Chip.proofReceived_within (s : Chip) (n : Nat) (member : Nat) (rank : Nat) (key : List Byte) (proof : List Byte) (crc : BitVec 32) :
    Within 0x4501000000000000000000000000000000000000000000000000000000000000000000000000000000000000000000000000000000000000000000000000000000000000 0x22000 s (Chip.proofReceived s n member rank key proof crc) := by
  unfold Chip.proofReceived
  repeat' first
    | (extract_lets +onlyGivenNames x; refine .cut (x := x) ?_ ?_; rotate_left; clear_value x; intro _; rotate_left; subst x)
    | (extract_lets +onlyGivenNames x; refine .cut (x := x.2) ?_ ?_; rotate_left; clear_value x; intro _; rotate_left; subst x)
    | (extract_lets +onlyGivenNames x; refine .cut (x := x.2.2) ?_ ?_; rotate_left; clear_value x; intro _; rotate_left; subst x)
    | (extract_lets +onlyGivenNames x; clear_value x)
    | extract_lets +onlyGivenNames _
    | with_reducible apply Within.refl
    | with_reducible assumption
    | decide
    | with_reducible apply Within.step (Chip.askLeave_within _ _)
    | split
    | with_reducible apply Within.set_halyard

theorem Chip.voidNonce_within (s : Chip) (n : Nat) :
    Within 0 0x20000 s (Chip.voidNonce s n) := by
  unfold Chip.voidNonce
  repeat' first
    | (extract_lets +onlyGivenNames x; refine .cut (x := x) ?_ ?_; rotate_left; clear_value x; intro _; rotate_left; subst x)
    | (extract_lets +onlyGivenNames x; refine .cut (x := x.2) ?_ ?_; rotate_left; clear_value x; intro _; rotate_left; subst x)
    | (extract_lets +onlyGivenNames x; refine .cut (x := x.2.2) ?_ ?_; rotate_left; clear_value x; intro _; rotate_left; subst x)
    | (extract_lets +onlyGivenNames x; clear_value x)
    | extract_lets +onlyGivenNames _
    | with_reducible apply Within.refl
    | with_reducible assumption
    | decide
    | split
    | with_reducible apply Within.set_halyard

theorem Chip.identityJudged_within (s : Chip) (n : Nat) (ok : Bool) :
    Within 0x4501000000000000000000803000000000000000000000000000000000000000000000000000000000000000000000000000000000021000000000000002380000000000 0x228a0 s (Chip.identityJudged s n ok) := by
  unfold Chip.identityJudged
  repeat' first
    | (extract_lets +onlyGivenNames x; refine .cut (x := x) ?_ ?_; rotate_left; clear_value x; intro _; rotate_left; subst x)
    | (extract_lets +onlyGivenNames x; refine .cut (x := x.2) ?_ ?_; rotate_left; clear_value x; intro _; rotate_left; subst x)
    | (extract_lets +onlyGivenNames x; refine .cut (x := x.2.2) ?_ ?_; rotate_left; clear_value x; intro _; rotate_left; subst x)
    | (extract_lets +onlyGivenNames x; clear_value x)
    | extract_lets +onlyGivenNames _
    | with_reducible apply Within.refl
    | with_reducible assumption
    | decide
    | (with_reducible apply Chip.blockFollows_within; rotate_left; intro _ _)
    | with_reducible apply Within.step (Chip.laneEnterReady_within _ _)
    | with_reducible apply Within.step (Chip.raise_within _ _)
    | with_reducible apply Within.wr
    | split
    | with_reducible apply Within.set_halyard

theorem Chip.identityChecked_within (s : Chip) :
    Within 0x4501000000000000000000803000000000000000000000000000000000000000000000000000000000000000000000000000000000021000000000000002380000000000 0x10228a0 s (Chip.identityChecked s) := by
  unfold Chip.identityChecked
  repeat' first
    | (extract_lets +onlyGivenNames x; refine .cut (x := x) ?_ ?_; rotate_left; clear_value x; intro _; rotate_left; subst x)
    | (extract_lets +onlyGivenNames x; refine .cut (x := x.2) ?_ ?_; rotate_left; clear_value x; intro _; rotate_left; subst x)
    | (extract_lets +onlyGivenNames x; refine .cut (x := x.2.2) ?_ ?_; rotate_left; clear_value x; intro _; rotate_left; subst x)
    | (extract_lets +onlyGivenNames x; clear_value x)
    | extract_lets +onlyGivenNames _
    | with_reducible apply Within.refl
    | with_reducible assumption
    | decide
    | with_reducible apply Within.step (Chip.askLeave_within _ _)
    | with_reducible apply Within.step (Chip.identityJudged_within _ _ _)
    | with_reducible apply Within.step (Chip.returnLeave_within _ _)
    | with_reducible apply Within.step (Chip.sendProof_within _ _)
    | split
    | with_reducible apply Within.set_halyard

theorem Chip.identityRetry_within (s : Chip) :
    Within 0 0x1020080 s (Chip.identityRetry s) := by
  unfold Chip.identityRetry
  repeat' first
    | (extract_lets +onlyGivenNames x; refine .cut (x := x) ?_ ?_; rotate_left; clear_value x; intro _; rotate_left; subst x)
    | (extract_lets +onlyGivenNames x; refine .cut (x := x.2) ?_ ?_; rotate_left; clear_value x; intro _; rotate_left; subst x)
    | (extract_lets +onlyGivenNames x; refine .cut (x := x.2.2) ?_ ?_; rotate_left; clear_value x; intro _; rotate_left; subst x)
    | (extract_lets +onlyGivenNames x; clear_value x)
    | extract_lets +onlyGivenNames _
    | with_reducible apply Within.refl
    | with_reducible assumption
    | decide
    | with_reducible apply Within.step (Chip.sendNonce_within _ _)
    | (with_reducible apply Within.each; rotate_left; intro _ _ _)
    | split
    | with_reducible apply Within.set_halyard

theorem Chip.takeMark_within (s : Chip) (target : Nat) :
    Within 0x16004000000000000000000000000000000000000000000000000000000000000000000000000000000000000000000000000000000000000000 0x20800 s (Chip.takeMark s target) := by
  unfold Chip.takeMark
  repeat' first
    | (extract_lets +onlyGivenNames x; refine .cut (x := x) ?_ ?_; rotate_left; clear_value x; intro _; rotate_left; subst x)
    | (extract_lets +onlyGivenNames x; refine .cut (x := x.2) ?_ ?_; rotate_left; clear_value x; intro _; rotate_left; subst x)
    | (extract_lets +onlyGivenNames x; refine .cut (x := x.2.2) ?_ ?_; rotate_left; clear_value x; intro _; rotate_left; subst x)
    | (extract_lets +onlyGivenNames x; clear_value x)
    | extract_lets +onlyGivenNames _
    | with_reducible apply Within.refl
    | with_reducible assumption
    | decide
    | with_reducible apply Within.step (Chip.leaveStep_within _)
    | with_reducible apply Within.step (Chip.raise_within _ _)
    | with_reducible apply Within.wrInt
    | with_reducible apply Within.wr
    | split
    | with_reducible apply Within.set_halyard

theorem Chip.markHandover_within (s : Chip) (index : Nat) (field : Nat) :
    Within 0 0x20000 s (Chip.markHandover s index field) := by
  unfold Chip.markHandover
  repeat' first
    | (extract_lets +onlyGivenNames x; refine .cut (x := x) ?_ ?_; rotate_left; clear_value x; intro _; rotate_left; subst x)
    | (extract_lets +onlyGivenNames x; refine .cut (x := x.2) ?_ ?_; rotate_left; clear_value x; intro _; rotate_left; subst x)
    | (extract_lets +onlyGivenNames x; refine .cut (x := x.2.2) ?_ ?_; rotate_left; clear_value x; intro _; rotate_left; subst x)
    | (extract_lets +onlyGivenNames x; clear_value x)
    | extract_lets +onlyGivenNames _
    | with_reducible apply Within.refl
    | with_reducible assumption
    | decide
    | split
    | with_reducible apply Within.set_halyard

theorem Chip.markReceived_within (s : Chip) (arrival : Nat) (c : Nat) (index : Nat) (field : Nat) :
    Within 0x16004000000000000000000000000000000000000000000000000000000000000000000000000000000000000000000000000000000000000000 0x20800 s (Chip.markReceived s arrival c index field) := by
  unfold Chip.markReceived
  split
  · extract_lets +onlyGivenNames x z y
    have kx : Within 0x16004000000000000000000000000000000000000000000000000000000000000000000000000000000000000000000000000000000000000000 0x20800 s x := .step (Chip.markHandover_within _ _ _) .refl (by decide) (by decide)
    have ky : Within 0x16004000000000000000000000000000000000000000000000000000000000000000000000000000000000000000000000000000000000000000 0x20800 s y := .set_halyard kx (by decide)
    split
    · exact .step (Chip.takeMark_within _ _) ky (by decide) (by decide)
    · exact ky
  · exact .refl

theorem Chip.align_within (s : Chip) :
    Within 0x8400000000000000000000000000000000000000000000000000000000000000000000000000000000000000000000000000000000000000008 0x20004 s (Chip.align s) := by
  unfold Chip.align
  repeat' first
    | (extract_lets +onlyGivenNames x; refine .cut (x := x) ?_ ?_; rotate_left; clear_value x; intro _; rotate_left; subst x)
    | (extract_lets +onlyGivenNames x; refine .cut (x := x.2) ?_ ?_; rotate_left; clear_value x; intro _; rotate_left; subst x)
    | (extract_lets +onlyGivenNames x; refine .cut (x := x.2.2) ?_ ?_; rotate_left; clear_value x; intro _; rotate_left; subst x)
    | (extract_lets +onlyGivenNames x; clear_value x)
    | extract_lets +onlyGivenNames _
    | with_reducible apply Within.refl
    | with_reducible assumption
    | decide
    | with_reducible apply Within.wr
    | split
    | with_reducible apply Within.set_clock
    | with_reducible apply Within.set_halyard

theorem Chip.copyReceived_within (s : Chip) (index : Nat) (part : Nat) (share : Nat) (content : CopyPart) (crcOk : Bool) :
    Within 0 0x20000 s (Chip.copyReceived s index part share content crcOk) := by
  unfold Chip.copyReceived
  repeat' first
    | (extract_lets +onlyGivenNames x; refine .cut (x := x) ?_ ?_; rotate_left; clear_value x; intro _; rotate_left; subst x)
    | (extract_lets +onlyGivenNames x; refine .cut (x := x.2) ?_ ?_; rotate_left; clear_value x; intro _; rotate_left; subst x)
    | (extract_lets +onlyGivenNames x; refine .cut (x := x.2.2) ?_ ?_; rotate_left; clear_value x; intro _; rotate_left; subst x)
    | (extract_lets +onlyGivenNames x; clear_value x)
    | extract_lets +onlyGivenNames _
    | with_reducible apply Within.refl
    | with_reducible assumption
    | decide
    | split
    | with_reducible apply Within.set_halyard

theorem Chip.applyArm_within (s : Chip) (a : Nat) (c : ArmCopy) :
    Within 0x24000000000000000000000000000000000000000000000000000 0x200 s (Chip.applyArm s a c) := by
  unfold Chip.applyArm
  repeat' first
    | (extract_lets +onlyGivenNames x; refine .cut (x := x) ?_ ?_; rotate_left; clear_value x; intro _; rotate_left; subst x)
    | (extract_lets +onlyGivenNames x; refine .cut (x := x.2) ?_ ?_; rotate_left; clear_value x; intro _; rotate_left; subst x)
    | (extract_lets +onlyGivenNames x; refine .cut (x := x.2.2) ?_ ?_; rotate_left; clear_value x; intro _; rotate_left; subst x)
    | (extract_lets +onlyGivenNames x; clear_value x)
    | extract_lets +onlyGivenNames _
    | with_reducible apply Within.refl
    | with_reducible assumption
    | decide
    | with_reducible apply Within.step (Chip.setArm_within _ _ _)
    | with_reducible apply Within.wr
    | split

theorem Chip.applyArms_within (s : Chip) (cells : List CellCopy) (arms : List ArmCopy) :
    Within 0x1e024000000000000000000000000000000000000000000000000000 0x200 s (Chip.applyArms s cells arms) := by
  unfold Chip.applyArms
  repeat' first
    | (extract_lets +onlyGivenNames x; refine .cut (x := x) ?_ ?_; rotate_left; clear_value x; intro _; rotate_left; subst x)
    | (extract_lets +onlyGivenNames x; refine .cut (x := x.2) ?_ ?_; rotate_left; clear_value x; intro _; rotate_left; subst x)
    | (extract_lets +onlyGivenNames x; refine .cut (x := x.2.2) ?_ ?_; rotate_left; clear_value x; intro _; rotate_left; subst x)
    | (extract_lets +onlyGivenNames x; clear_value x)
    | extract_lets +onlyGivenNames _
    | with_reducible apply Within.refl
    | with_reducible assumption
    | decide
    | with_reducible apply Within.step (Chip.applyArm_within _ _ _)
    | with_reducible apply Within.step (Chip.setCell_within _ _ _)
    | with_reducible apply Within.wrFlag
    | with_reducible apply Within.wr
    | (with_reducible apply Within.each; rotate_left; intro _ _ _)
    | split

theorem Chip.setLegCarry_within (s : Chip) (i : Nat) (k : Int) :
    Within 0x410000000000000000000000000000000000000000000 0 s (Chip.setLegCarry s i k) := by
  unfold Chip.setLegCarry
  repeat' first
    | (extract_lets +onlyGivenNames x; refine .cut (x := x) ?_ ?_; rotate_left; clear_value x; intro _; rotate_left; subst x)
    | (extract_lets +onlyGivenNames x; refine .cut (x := x.2) ?_ ?_; rotate_left; clear_value x; intro _; rotate_left; subst x)
    | (extract_lets +onlyGivenNames x; refine .cut (x := x.2.2) ?_ ?_; rotate_left; clear_value x; intro _; rotate_left; subst x)
    | (extract_lets +onlyGivenNames x; clear_value x)
    | extract_lets +onlyGivenNames _
    | with_reducible apply Within.refl
    | with_reducible assumption
    | decide
    | with_reducible apply Within.wrInt
    | split

theorem Chip.applyEdges_within (s : Chip) (carrier : List Nat) (legs : List (Nat × Leg × Int)) (set : Option (Store Nat)) :
    Within 0x410000000800000000000000000000000000000000000 0x100 s (Chip.applyEdges s carrier legs set) := by
  unfold Chip.applyEdges
  repeat' first
    | (extract_lets +onlyGivenNames x; refine .cut (x := x) ?_ ?_; rotate_left; clear_value x; intro _; rotate_left; subst x)
    | (extract_lets +onlyGivenNames x; refine .cut (x := x.2) ?_ ?_; rotate_left; clear_value x; intro _; rotate_left; subst x)
    | (extract_lets +onlyGivenNames x; refine .cut (x := x.2.2) ?_ ?_; rotate_left; clear_value x; intro _; rotate_left; subst x)
    | (extract_lets +onlyGivenNames x; clear_value x)
    | extract_lets +onlyGivenNames _
    | with_reducible apply Within.refl
    | with_reducible assumption
    | decide
    | with_reducible apply Within.step (Chip.setLeg_within _ _ _)
    | with_reducible apply Within.step (Chip.setLegCarry_within _ _ _)
    | with_reducible apply Within.wrFlag
    | (with_reducible apply Within.each; rotate_left; intro _ _ _)
    | split
    | with_reducible apply Within.set_edges

theorem Chip.applyEngine_within (s : Chip) (e : Nat) (c : EngineCopy) (own : List Int) :
    Within 0x414000000000000000000000000000000000000000000000000000000000000 0x400 s (Chip.applyEngine s e c own) := by
  unfold Chip.applyEngine
  repeat' first
    | (extract_lets +onlyGivenNames x; refine .cut (x := x) ?_ ?_; rotate_left; clear_value x; intro _; rotate_left; subst x)
    | (extract_lets +onlyGivenNames x; refine .cut (x := x.2) ?_ ?_; rotate_left; clear_value x; intro _; rotate_left; subst x)
    | (extract_lets +onlyGivenNames x; refine .cut (x := x.2.2) ?_ ?_; rotate_left; clear_value x; intro _; rotate_left; subst x)
    | (extract_lets +onlyGivenNames x; clear_value x)
    | extract_lets +onlyGivenNames _
    | with_reducible apply Within.refl
    | with_reducible assumption
    | decide
    | with_reducible apply Within.step (Chip.setEngine_within _ _ _)
    | with_reducible apply Within.wrFlag
    | with_reducible apply Within.wrInt
    | (with_reducible apply Within.each; rotate_left; intro _ _ _)
    | split

theorem Chip.applyLive_within (s : Chip) (l : List Nat) :
    Within 0x4000000000000000000000000000000000000000000200000000000000000 0x408 s (Chip.applyLive s l) := by
  unfold Chip.applyLive
  repeat' first
    | (extract_lets +onlyGivenNames x; refine .cut (x := x) ?_ ?_; rotate_left; clear_value x; intro _; rotate_left; subst x)
    | (extract_lets +onlyGivenNames x; refine .cut (x := x.2) ?_ ?_; rotate_left; clear_value x; intro _; rotate_left; subst x)
    | (extract_lets +onlyGivenNames x; refine .cut (x := x.2.2) ?_ ?_; rotate_left; clear_value x; intro _; rotate_left; subst x)
    | (extract_lets +onlyGivenNames x; clear_value x)
    | extract_lets +onlyGivenNames _
    | with_reducible apply Within.refl
    | with_reducible assumption
    | decide
    | (with_reducible apply Chip.liveEffect_within; rotate_left; intro _ _ _)
    | with_reducible apply Within.wr
    | (with_reducible apply Within.each; rotate_left; intro _ _ _)
    | split

theorem Chip.applyEngines_within (s : Chip) (index : Nat) (es : List (Nat × EngineCopy)) (ramps : List (Nat × Bool)) (reef : Nat) (live : List Nat) :
    Within 0x414008800000000000000000000000000000000000000200000000000000000 0x20408 s (Chip.applyEngines s index es ramps reef live) := by
  unfold Chip.applyEngines
  repeat' first
    | (extract_lets +onlyGivenNames x; refine .cut (x := x) ?_ ?_; rotate_left; clear_value x; intro _; rotate_left; subst x)
    | (extract_lets +onlyGivenNames x; refine .cut (x := x.2) ?_ ?_; rotate_left; clear_value x; intro _; rotate_left; subst x)
    | (extract_lets +onlyGivenNames x; refine .cut (x := x.2.2) ?_ ?_; rotate_left; clear_value x; intro _; rotate_left; subst x)
    | (extract_lets +onlyGivenNames x; clear_value x)
    | extract_lets +onlyGivenNames _
    | with_reducible apply Within.refl
    | with_reducible assumption
    | decide
    | with_reducible apply Within.step (Chip.applyEngine_within _ _ _ _)
    | with_reducible apply Within.step (Chip.applyLive_within _ _)
    | with_reducible apply Within.wrFlag
    | with_reducible apply Within.wr
    | (with_reducible apply Within.each; rotate_left; intro _ _ _)
    | split
    | with_reducible apply Within.set_halyard

theorem Chip.applyPart_within (s : Chip) (part : Nat) (age : Nat) :
    Within 0x20000400000000000000000000000000000000000000000000000041400881e024000000410000000800000000000000000200000000000000000 0x20708 s (Chip.applyPart s part age) := by
  unfold Chip.applyPart
  repeat' first
    | (extract_lets +onlyGivenNames x; refine .cut (x := x) ?_ ?_; rotate_left; clear_value x; intro _; rotate_left; subst x)
    | (extract_lets +onlyGivenNames x; refine .cut (x := x.2) ?_ ?_; rotate_left; clear_value x; intro _; rotate_left; subst x)
    | (extract_lets +onlyGivenNames x; refine .cut (x := x.2.2) ?_ ?_; rotate_left; clear_value x; intro _; rotate_left; subst x)
    | (extract_lets +onlyGivenNames x; clear_value x)
    | extract_lets +onlyGivenNames _
    | with_reducible apply Within.refl
    | with_reducible assumption
    | decide
    | with_reducible apply Within.step (Chip.applyArms_within _ _ _)
    | with_reducible apply Within.step (Chip.applyEdges_within _ _ _ _)
    | with_reducible apply Within.step (Chip.applyEngines_within _ _ _ _ _ _)
    | with_reducible apply Within.step (Chip.endInStep_within _)
    | with_reducible apply Within.count
    | split
    | with_reducible apply Within.set_halyard

theorem Chip.judgeStep_within (s : Chip) :
    Within 0x4000000000000000000000000000000000000000000000000000000000000000000000000000000000000000000000000000000000000000 0x20000 s (Chip.judgeStep s) := by
  unfold Chip.judgeStep
  repeat' first
    | (extract_lets +onlyGivenNames x; refine .cut (x := x) ?_ ?_; rotate_left; clear_value x; intro _; rotate_left; subst x)
    | (extract_lets +onlyGivenNames x; refine .cut (x := x.2) ?_ ?_; rotate_left; clear_value x; intro _; rotate_left; subst x)
    | (extract_lets +onlyGivenNames x; refine .cut (x := x.2.2) ?_ ?_; rotate_left; clear_value x; intro _; rotate_left; subst x)
    | (extract_lets +onlyGivenNames x; clear_value x)
    | extract_lets +onlyGivenNames _
    | with_reducible apply Within.refl
    | with_reducible assumption
    | decide
    | with_reducible apply Within.step (Chip.endInStep_within _)
    | with_reducible apply Within.wr
    | split
    | with_reducible apply Within.set_halyard

theorem Chip.watchStep_within (s : Chip) :
    Within 0x1000000000000000000000000000000000000000000000000000000000000000000000000000000000000000000000000000000000000000000 0x20000 s (Chip.watchStep s) := by
  unfold Chip.watchStep
  repeat' first
    | (extract_lets +onlyGivenNames x; refine .cut (x := x) ?_ ?_; rotate_left; clear_value x; intro _; rotate_left; subst x)
    | (extract_lets +onlyGivenNames x; refine .cut (x := x.2) ?_ ?_; rotate_left; clear_value x; intro _; rotate_left; subst x)
    | (extract_lets +onlyGivenNames x; refine .cut (x := x.2.2) ?_ ?_; rotate_left; clear_value x; intro _; rotate_left; subst x)
    | (extract_lets +onlyGivenNames x; clear_value x)
    | extract_lets +onlyGivenNames _
    | with_reducible apply Within.refl
    | with_reducible assumption
    | decide
    | with_reducible apply Within.wr
    | split
    | with_reducible apply Within.set_halyard

theorem Chip.askReturn_within (s : Chip) :
    Within 0x200000000000000000000000000000000000000000000000000000000000000000000000000000000000000000000000000000000000000000 0x20000 s (Chip.askReturn s) := by
  unfold Chip.askReturn
  repeat' first
    | (extract_lets +onlyGivenNames x; refine .cut (x := x) ?_ ?_; rotate_left; clear_value x; intro _; rotate_left; subst x)
    | (extract_lets +onlyGivenNames x; refine .cut (x := x.2) ?_ ?_; rotate_left; clear_value x; intro _; rotate_left; subst x)
    | (extract_lets +onlyGivenNames x; refine .cut (x := x.2.2) ?_ ?_; rotate_left; clear_value x; intro _; rotate_left; subst x)
    | (extract_lets +onlyGivenNames x; clear_value x)
    | extract_lets +onlyGivenNames _
    | with_reducible apply Within.refl
    | with_reducible assumption
    | decide
    | with_reducible apply Within.wr
    | split
    | with_reducible apply Within.set_halyard

theorem Chip.handoverRequest_within (s : Chip) :
    Within 0x200000000000000000000000000000000000000000000000000000000000000000000000000000000000000000000000000000000000000000 0x20000 s (Chip.handoverRequest s) := by
  unfold Chip.handoverRequest
  repeat' first
    | (extract_lets +onlyGivenNames x; refine .cut (x := x) ?_ ?_; rotate_left; clear_value x; intro _; rotate_left; subst x)
    | (extract_lets +onlyGivenNames x; refine .cut (x := x.2) ?_ ?_; rotate_left; clear_value x; intro _; rotate_left; subst x)
    | (extract_lets +onlyGivenNames x; refine .cut (x := x.2.2) ?_ ?_; rotate_left; clear_value x; intro _; rotate_left; subst x)
    | (extract_lets +onlyGivenNames x; clear_value x)
    | extract_lets +onlyGivenNames _
    | with_reducible apply Within.refl
    | with_reducible assumption
    | decide
    | with_reducible apply Within.step (Chip.askReturn_within _)
    | split

theorem Chip.handoverRetry_within (s : Chip) :
    Within 0x200000000000000000000000000000000000000000000000000000000000000000000000000000000000000000000000000000000000000000 0x20000 s (Chip.handoverRetry s) := by
  unfold Chip.handoverRetry
  repeat' first
    | (extract_lets +onlyGivenNames x; refine .cut (x := x) ?_ ?_; rotate_left; clear_value x; intro _; rotate_left; subst x)
    | (extract_lets +onlyGivenNames x; refine .cut (x := x.2) ?_ ?_; rotate_left; clear_value x; intro _; rotate_left; subst x)
    | (extract_lets +onlyGivenNames x; refine .cut (x := x.2.2) ?_ ?_; rotate_left; clear_value x; intro _; rotate_left; subst x)
    | (extract_lets +onlyGivenNames x; clear_value x)
    | extract_lets +onlyGivenNames _
    | with_reducible apply Within.refl
    | with_reducible assumption
    | decide
    | with_reducible apply Within.step (Chip.askReturn_within _)
    | split

theorem Chip.takeOver_within (s : Chip) :
    Within 0x2c0000000000000000000000000000000000000000000008020000046c000000000000080000000000008000000000000000000000800004000000000000002000000020000000000000000000060000000 0x82a9a0 s (Chip.takeOver s) := by
  unfold Chip.takeOver
  repeat' first
    | (extract_lets +onlyGivenNames x; refine .cut (x := x) ?_ ?_; rotate_left; clear_value x; intro _; rotate_left; subst x)
    | (extract_lets +onlyGivenNames x; refine .cut (x := x.2) ?_ ?_; rotate_left; clear_value x; intro _; rotate_left; subst x)
    | (extract_lets +onlyGivenNames x; refine .cut (x := x.2.2) ?_ ?_; rotate_left; clear_value x; intro _; rotate_left; subst x)
    | (extract_lets +onlyGivenNames x; clear_value x)
    | extract_lets +onlyGivenNames _
    | with_reducible apply Within.refl
    | with_reducible assumption
    | decide
    | with_reducible apply Within.step (Chip.setMode_within _ _)
    | with_reducible apply Within.wrFlag
    | with_reducible apply Within.count
    | with_reducible apply Within.wr
    | (with_reducible apply Within.each; rotate_left; intro _ _ _)
    | split
    | with_reducible apply Within.set_modes
    | with_reducible apply Within.set_halyard

theorem Chip.yield_within (s : Chip) :
    Within 0x2c0000000000000000000000000000000000000000000010040000046c000000000000080000000000008000000000000000000000800004000000000000002000000020000000000000000000060000000 0x82a9a0 s (Chip.yield s) := by
  unfold Chip.yield
  repeat' first
    | (extract_lets +onlyGivenNames x; refine .cut (x := x) ?_ ?_; rotate_left; clear_value x; intro _; rotate_left; subst x)
    | (extract_lets +onlyGivenNames x; refine .cut (x := x.2) ?_ ?_; rotate_left; clear_value x; intro _; rotate_left; subst x)
    | (extract_lets +onlyGivenNames x; refine .cut (x := x.2.2) ?_ ?_; rotate_left; clear_value x; intro _; rotate_left; subst x)
    | (extract_lets +onlyGivenNames x; clear_value x)
    | extract_lets +onlyGivenNames _
    | with_reducible apply Within.refl
    | with_reducible assumption
    | decide
    | with_reducible apply Within.step (Chip.setMode_within _ _)
    | with_reducible apply Within.count
    | with_reducible apply Within.wr
    | split
    | with_reducible apply Within.set_halyard

theorem Chip.yieldDeadline_within (s : Chip) :
    Within 0x2c0000000000000000000000000000000000000000000010040000046c000000019000080000000000008000000000000000000000800004000000000000002000000020000000000000000030078000000 0x83a9e0 s (Chip.yieldDeadline s) := by
  unfold Chip.yieldDeadline
  repeat' first
    | (extract_lets +onlyGivenNames x; refine .cut (x := x) ?_ ?_; rotate_left; clear_value x; intro _; rotate_left; subst x)
    | (extract_lets +onlyGivenNames x; refine .cut (x := x.2) ?_ ?_; rotate_left; clear_value x; intro _; rotate_left; subst x)
    | (extract_lets +onlyGivenNames x; refine .cut (x := x.2.2) ?_ ?_; rotate_left; clear_value x; intro _; rotate_left; subst x)
    | (extract_lets +onlyGivenNames x; clear_value x)
    | extract_lets +onlyGivenNames _
    | with_reducible apply Within.refl
    | with_reducible assumption
    | decide
    | with_reducible apply Within.step (Chip.enterSafeHold_within _ _)
    | with_reducible apply Within.step (Chip.yield_within _)
    | split
    | with_reducible apply Within.set_pll

theorem Chip.roleBoundary_within (s : Chip) :
    Within 0x2c0000000000000000000000000000000000000000000018060000046c000000000000080000000000008000000000000000000000800004000000000000002000000020000000000000000000060000000 0x82a9a0 s (Chip.roleBoundary s) := by
  unfold Chip.roleBoundary
  repeat' first
    | (extract_lets +onlyGivenNames x; refine .cut (x := x) ?_ ?_; rotate_left; clear_value x; intro _; rotate_left; subst x)
    | (extract_lets +onlyGivenNames x; refine .cut (x := x.2) ?_ ?_; rotate_left; clear_value x; intro _; rotate_left; subst x)
    | (extract_lets +onlyGivenNames x; refine .cut (x := x.2.2) ?_ ?_; rotate_left; clear_value x; intro _; rotate_left; subst x)
    | (extract_lets +onlyGivenNames x; clear_value x)
    | extract_lets +onlyGivenNames _
    | with_reducible apply Within.refl
    | with_reducible assumption
    | decide
    | with_reducible apply Within.step (Chip.takeOver_within _)
    | with_reducible apply Within.step (Chip.yield_within _)
    | split
    | with_reducible apply Within.set_halyard

theorem Chip.probe_within (s : Chip) :
    Within 0 0x20000 s (Chip.probe s) := by
  unfold Chip.probe
  repeat' first
    | (extract_lets +onlyGivenNames x; refine .cut (x := x) ?_ ?_; rotate_left; clear_value x; intro _; rotate_left; subst x)
    | (extract_lets +onlyGivenNames x; refine .cut (x := x.2) ?_ ?_; rotate_left; clear_value x; intro _; rotate_left; subst x)
    | (extract_lets +onlyGivenNames x; refine .cut (x := x.2.2) ?_ ?_; rotate_left; clear_value x; intro _; rotate_left; subst x)
    | (extract_lets +onlyGivenNames x; clear_value x)
    | extract_lets +onlyGivenNames _
    | with_reducible apply Within.refl
    | with_reducible assumption
    | decide
    | split
    | with_reducible apply Within.set_halyard

theorem Chip.probeBoundary_within (s : Chip) :
    Within 0x2c0000000000000000000000000000000000000000000000000000046c000000000000080000000000008000000000000000000000800004000000000000002000000020000000000000000000060000000 0x82aba0 s (Chip.probeBoundary s) := by
  unfold Chip.probeBoundary
  repeat' first
    | (extract_lets +onlyGivenNames x; refine .cut (x := x) ?_ ?_; rotate_left; clear_value x; intro _; rotate_left; subst x)
    | (extract_lets +onlyGivenNames x; refine .cut (x := x.2) ?_ ?_; rotate_left; clear_value x; intro _; rotate_left; subst x)
    | (extract_lets +onlyGivenNames x; refine .cut (x := x.2.2) ?_ ?_; rotate_left; clear_value x; intro _; rotate_left; subst x)
    | (extract_lets +onlyGivenNames x; clear_value x)
    | extract_lets +onlyGivenNames _
    | with_reducible apply Within.refl
    | with_reducible assumption
    | decide
    | with_reducible apply Within.step (Chip.dropPending_within _)
    | with_reducible apply Within.step (Chip.enterMode_within _ _)
    | split
    | with_reducible apply Within.set_halyard

theorem Chip.degradeHalyard_within (s : Chip) :
    Within 0x4000000000000000000000000000000000000000000000000000000000000000000000000000000000000000000000000000000000000000 0x20000 s (Chip.degradeHalyard s) := by
  unfold Chip.degradeHalyard
  repeat' first
    | (extract_lets +onlyGivenNames x; refine .cut (x := x) ?_ ?_; rotate_left; clear_value x; intro _; rotate_left; subst x)
    | (extract_lets +onlyGivenNames x; refine .cut (x := x.2) ?_ ?_; rotate_left; clear_value x; intro _; rotate_left; subst x)
    | (extract_lets +onlyGivenNames x; refine .cut (x := x.2.2) ?_ ?_; rotate_left; clear_value x; intro _; rotate_left; subst x)
    | (extract_lets +onlyGivenNames x; clear_value x)
    | extract_lets +onlyGivenNames _
    | with_reducible apply Within.refl
    | with_reducible assumption
    | decide
    | with_reducible apply Within.step (Chip.leaveStep_within _)
    | split
    | with_reducible apply Within.set_halyard

theorem Chip.sendShare_within (s : Chip) (f : CopyFrame) :
    Within 0 0x1000080 s (Chip.sendShare s f) := by
  unfold Chip.sendShare
  repeat' first
    | (extract_lets +onlyGivenNames x; refine .cut (x := x) ?_ ?_; rotate_left; clear_value x; intro _; rotate_left; subst x)
    | (extract_lets +onlyGivenNames x; refine .cut (x := x.2) ?_ ?_; rotate_left; clear_value x; intro _; rotate_left; subst x)
    | (extract_lets +onlyGivenNames x; refine .cut (x := x.2.2) ?_ ?_; rotate_left; clear_value x; intro _; rotate_left; subst x)
    | (extract_lets +onlyGivenNames x; clear_value x)
    | extract_lets +onlyGivenNames _
    | with_reducible apply Within.refl
    | with_reducible assumption
    | decide
    | with_reducible apply Within.step (Chip.addBlocks_within _ _ _)
    | with_reducible apply Within.step (Chip.draw_within _)
    | split

theorem Chip.sendCopy_within (s : Chip) :
    Within 0 0x1020080 s (Chip.sendCopy s) := by
  unfold Chip.sendCopy
  repeat' first
    | (extract_lets +onlyGivenNames x; refine .cut (x := x) ?_ ?_; rotate_left; clear_value x; intro _; rotate_left; subst x)
    | (extract_lets +onlyGivenNames x; refine .cut (x := x.2) ?_ ?_; rotate_left; clear_value x; intro _; rotate_left; subst x)
    | (extract_lets +onlyGivenNames x; refine .cut (x := x.2.2) ?_ ?_; rotate_left; clear_value x; intro _; rotate_left; subst x)
    | (extract_lets +onlyGivenNames x; clear_value x)
    | extract_lets +onlyGivenNames _
    | with_reducible apply Within.refl
    | with_reducible assumption
    | decide
    | with_reducible apply Within.step (Chip.sendShare_within _ _)
    | (with_reducible apply Within.each; rotate_left; intro _ _ _)
    | split
    | with_reducible apply Within.set_halyard

theorem Chip.sendMark_within (s : Chip) (n : Nat) :
    Within 0 0x1020080 s (Chip.sendMark s n) := by
  unfold Chip.sendMark
  repeat' first
    | (extract_lets +onlyGivenNames x; refine .cut (x := x) ?_ ?_; rotate_left; clear_value x; intro _; rotate_left; subst x)
    | (extract_lets +onlyGivenNames x; refine .cut (x := x.2) ?_ ?_; rotate_left; clear_value x; intro _; rotate_left; subst x)
    | (extract_lets +onlyGivenNames x; refine .cut (x := x.2.2) ?_ ?_; rotate_left; clear_value x; intro _; rotate_left; subst x)
    | (extract_lets +onlyGivenNames x; clear_value x)
    | extract_lets +onlyGivenNames _
    | with_reducible apply Within.refl
    | with_reducible assumption
    | decide
    | with_reducible apply Within.step (Chip.draw_within _)
    | with_reducible apply Within.step (Chip.putBlocks_within _ _ _)
    | split
    | with_reducible apply Within.set_halyard

theorem Chip.sendMarks_within (s : Chip) :
    Within 0 0x1020080 s (Chip.sendMarks s) := by
  unfold Chip.sendMarks
  repeat' first
    | (extract_lets +onlyGivenNames x; refine .cut (x := x) ?_ ?_; rotate_left; clear_value x; intro _; rotate_left; subst x)
    | (extract_lets +onlyGivenNames x; refine .cut (x := x.2) ?_ ?_; rotate_left; clear_value x; intro _; rotate_left; subst x)
    | (extract_lets +onlyGivenNames x; refine .cut (x := x.2.2) ?_ ?_; rotate_left; clear_value x; intro _; rotate_left; subst x)
    | (extract_lets +onlyGivenNames x; clear_value x)
    | extract_lets +onlyGivenNames _
    | with_reducible apply Within.refl
    | with_reducible assumption
    | decide
    | with_reducible apply Within.step (Chip.sendMark_within _ _)
    | (with_reducible apply Within.each; rotate_left; intro _ _ _)
    | split
    | with_reducible apply Within.set_halyard

theorem Chip.keepReleased_within (s : Chip) :
    Within 0 0x20000 s (Chip.keepReleased s) := by
  unfold Chip.keepReleased
  repeat' first
    | (extract_lets +onlyGivenNames x; refine .cut (x := x) ?_ ?_; rotate_left; clear_value x; intro _; rotate_left; subst x)
    | (extract_lets +onlyGivenNames x; refine .cut (x := x.2) ?_ ?_; rotate_left; clear_value x; intro _; rotate_left; subst x)
    | (extract_lets +onlyGivenNames x; refine .cut (x := x.2.2) ?_ ?_; rotate_left; clear_value x; intro _; rotate_left; subst x)
    | (extract_lets +onlyGivenNames x; clear_value x)
    | extract_lets +onlyGivenNames _
    | with_reducible apply Within.refl
    | with_reducible assumption
    | decide
    | split
    | with_reducible apply Within.set_halyard

theorem Chip.countExec_within (s : Chip) :
    Within 0x60000000000000000000000000000000000000000000000000000000000000000000000000000000000000000000000000000000000000000000 0 s (Chip.countExec s) := by
  unfold Chip.countExec
  repeat' first
    | (extract_lets +onlyGivenNames x; refine .cut (x := x) ?_ ?_; rotate_left; clear_value x; intro _; rotate_left; subst x)
    | (extract_lets +onlyGivenNames x; refine .cut (x := x.2) ?_ ?_; rotate_left; clear_value x; intro _; rotate_left; subst x)
    | (extract_lets +onlyGivenNames x; refine .cut (x := x.2.2) ?_ ?_; rotate_left; clear_value x; intro _; rotate_left; subst x)
    | (extract_lets +onlyGivenNames x; clear_value x)
    | extract_lets +onlyGivenNames _
    | with_reducible apply Within.refl
    | with_reducible assumption
    | decide
    | with_reducible apply Within.wr
    | split

theorem Chip.alignSilent_within (s : Chip) :
    Within 0x8400000000000000000000000000000000000000000000000000000000000000000000000000000000000000000000000000000000000000008 0x20004 s (Chip.alignSilent s) := by
  unfold Chip.alignSilent
  repeat' first
    | (extract_lets +onlyGivenNames x; refine .cut (x := x) ?_ ?_; rotate_left; clear_value x; intro _; rotate_left; subst x)
    | (extract_lets +onlyGivenNames x; refine .cut (x := x.2) ?_ ?_; rotate_left; clear_value x; intro _; rotate_left; subst x)
    | (extract_lets +onlyGivenNames x; refine .cut (x := x.2.2) ?_ ?_; rotate_left; clear_value x; intro _; rotate_left; subst x)
    | (extract_lets +onlyGivenNames x; clear_value x)
    | extract_lets +onlyGivenNames _
    | with_reducible apply Within.refl
    | with_reducible assumption
    | decide
    | with_reducible apply Within.step (Chip.align_within _)
    | split

theorem Chip.systemWords_within (s : Chip) :
    Within 0x38000 0x1000801 s (Chip.systemWords s) := by
  unfold Chip.systemWords
  repeat' first
    | (extract_lets +onlyGivenNames x; refine .cut (x := x) ?_ ?_; rotate_left; clear_value x; intro _; rotate_left; subst x)
    | (extract_lets +onlyGivenNames x; refine .cut (x := x.2) ?_ ?_; rotate_left; clear_value x; intro _; rotate_left; subst x)
    | (extract_lets +onlyGivenNames x; refine .cut (x := x.2.2) ?_ ?_; rotate_left; clear_value x; intro _; rotate_left; subst x)
    | (extract_lets +onlyGivenNames x; clear_value x)
    | extract_lets +onlyGivenNames _
    | with_reducible apply Within.refl
    | with_reducible assumption
    | decide
    | with_reducible apply Within.step (Chip.sramPutHalf_within _ _ _)
    | split

theorem Chip.snapshotAnew_within (s : Chip) :
    Within 0x9000000000000000000000000000000000000000000000000000038000 0x1000821 s (Chip.snapshotAnew s) := by
  unfold Chip.snapshotAnew
  repeat' first
    | (extract_lets +onlyGivenNames x; refine .cut (x := x) ?_ ?_; rotate_left; clear_value x; intro _; rotate_left; subst x)
    | (extract_lets +onlyGivenNames x; refine .cut (x := x.2) ?_ ?_; rotate_left; clear_value x; intro _; rotate_left; subst x)
    | (extract_lets +onlyGivenNames x; refine .cut (x := x.2.2) ?_ ?_; rotate_left; clear_value x; intro _; rotate_left; subst x)
    | (extract_lets +onlyGivenNames x; clear_value x)
    | extract_lets +onlyGivenNames _
    | with_reducible apply Within.refl
    | with_reducible assumption
    | decide
    | with_reducible apply Within.step (Chip.judgeEdges_within _)
    | with_reducible apply Within.step (Chip.rampUpdate_within _ _)
    | with_reducible apply Within.step (Chip.systemWords_within _)
    | with_reducible apply Within.wr
    | (with_reducible apply Within.each; rotate_left; intro _ _ _)
    | split

theorem Chip.handoverAct_within (s : Chip) :
    Within 0x2c0000000000000000000000000000000000000000000018860000046c000000000000080000000000008000000000000000000009800004000000000000002000000020000000000000000000060038008 0x182a9a5 s (Chip.handoverAct s) := by
  unfold Chip.handoverAct
  repeat' first
    | (extract_lets +onlyGivenNames x; refine .cut (x := x) ?_ ?_; rotate_left; clear_value x; intro _; rotate_left; subst x)
    | (extract_lets +onlyGivenNames x; refine .cut (x := x.2) ?_ ?_; rotate_left; clear_value x; intro _; rotate_left; subst x)
    | (extract_lets +onlyGivenNames x; refine .cut (x := x.2.2) ?_ ?_; rotate_left; clear_value x; intro _; rotate_left; subst x)
    | (extract_lets +onlyGivenNames x; clear_value x)
    | extract_lets +onlyGivenNames _
    | with_reducible apply Within.refl
    | with_reducible assumption
    | decide
    | with_reducible apply Within.step (Chip.alignSilent_within _)
    | with_reducible apply Within.step (Chip.snapshotAnew_within _)
    | with_reducible apply Within.step (Chip.takeOver_within _)
    | with_reducible apply Within.step (Chip.yield_within _)
    | with_reducible apply Within.wr
    | split
    | with_reducible apply Within.set_halyard

end Sys2Proof.Machine
end

