-- ==== Sys2Proof/Laws/FramePower.lean ====
section
/-! SUPPORT. The frames of the operations of Machine/Power.lean: the fields and the parts of the state each may change. -/

set_option linter.tactic.unusedName false

namespace Sys2Proof.Machine

theorem Chip.placeStamp_within (s : Chip) (st : Stamp) :
    Within 0 0x8000 s (Chip.placeStamp s st) := by
  unfold Chip.placeStamp
  repeat' first
    | (extract_lets +onlyGivenNames x; refine .cut (x := x) ?_ ?_; rotate_left; clear_value x; intro _; rotate_left; subst x)
    | (extract_lets +onlyGivenNames x; refine .cut (x := x.2) ?_ ?_; rotate_left; clear_value x; intro _; rotate_left; subst x)
    | (extract_lets +onlyGivenNames x; refine .cut (x := x.2.2) ?_ ?_; rotate_left; clear_value x; intro _; rotate_left; subst x)
    | (extract_lets +onlyGivenNames x; clear_value x)
    | extract_lets +onlyGivenNames _
    | with_reducible apply Within.refl
    | with_reducible assumption
    | decide
    | split
    | with_reducible apply Within.set_power

theorem Chip.placeDue_within (s : Chip) :
    Within 0 0x8000 s (Chip.placeDue s) := by
  unfold Chip.placeDue
  repeat' first
    | (extract_lets +onlyGivenNames x; refine .cut (x := x) ?_ ?_; rotate_left; clear_value x; intro _; rotate_left; subst x)
    | (extract_lets +onlyGivenNames x; refine .cut (x := x.2) ?_ ?_; rotate_left; clear_value x; intro _; rotate_left; subst x)
    | (extract_lets +onlyGivenNames x; refine .cut (x := x.2.2) ?_ ?_; rotate_left; clear_value x; intro _; rotate_left; subst x)
    | (extract_lets +onlyGivenNames x; clear_value x)
    | extract_lets +onlyGivenNames _
    | with_reducible apply Within.refl
    | with_reducible assumption
    | decide
    | with_reducible apply Within.step (Chip.placeStamp_within _ _)
    | (with_reducible apply Within.each; rotate_left; intro _ _ _)
    | split
    | with_reducible apply Within.set_power

theorem Chip.localEdge_within (s : Chip) :
    Within 0 0x8000 s (Chip.localEdge s) := by
  unfold Chip.localEdge
  repeat' first
    | (extract_lets +onlyGivenNames x; refine .cut (x := x) ?_ ?_; rotate_left; clear_value x; intro _; rotate_left; subst x)
    | (extract_lets +onlyGivenNames x; refine .cut (x := x.2) ?_ ?_; rotate_left; clear_value x; intro _; rotate_left; subst x)
    | (extract_lets +onlyGivenNames x; refine .cut (x := x.2.2) ?_ ?_; rotate_left; clear_value x; intro _; rotate_left; subst x)
    | (extract_lets +onlyGivenNames x; clear_value x)
    | extract_lets +onlyGivenNames _
    | with_reducible apply Within.refl
    | with_reducible assumption
    | decide
    | with_reducible apply Within.step (Chip.placeDue_within _)
    | (with_reducible apply Chip.withOutputs_within; rotate_left; intro _ _)
    | split

theorem Chip.tripRecord_within (s : Chip) (t : Nat) :
    Within 0 0x10000 s (Chip.tripRecord s t) := by
  unfold Chip.tripRecord
  repeat' first
    | (extract_lets +onlyGivenNames x; refine .cut (x := x) ?_ ?_; rotate_left; clear_value x; intro _; rotate_left; subst x)
    | (extract_lets +onlyGivenNames x; refine .cut (x := x.2) ?_ ?_; rotate_left; clear_value x; intro _; rotate_left; subst x)
    | (extract_lets +onlyGivenNames x; refine .cut (x := x.2.2) ?_ ?_; rotate_left; clear_value x; intro _; rotate_left; subst x)
    | (extract_lets +onlyGivenNames x; clear_value x)
    | extract_lets +onlyGivenNames _
    | with_reducible apply Within.refl
    | with_reducible assumption
    | decide
    | with_reducible apply Within.step (Chip.trigger_within _ _)
    | split

theorem Chip.tripFollow_within (s : Chip) (t : Nat) :
    Within 0x200000000000000000000000000000000000000000000000000000000040000000000000000000000000000000000000 0x18800 s (Chip.tripFollow s t) := by
  unfold Chip.tripFollow
  repeat' first
    | (extract_lets +onlyGivenNames x; refine .cut (x := x) ?_ ?_; rotate_left; clear_value x; intro _; rotate_left; subst x)
    | (extract_lets +onlyGivenNames x; refine .cut (x := x.2) ?_ ?_; rotate_left; clear_value x; intro _; rotate_left; subst x)
    | (extract_lets +onlyGivenNames x; refine .cut (x := x.2.2) ?_ ?_; rotate_left; clear_value x; intro _; rotate_left; subst x)
    | (extract_lets +onlyGivenNames x; clear_value x)
    | extract_lets +onlyGivenNames _
    | with_reducible apply Within.refl
    | with_reducible assumption
    | decide
    | with_reducible apply Within.step (Chip.raise_within _ _)
    | with_reducible apply Within.step (Chip.tripRecord_within _ _)
    | (with_reducible apply Chip.withOutputs_within; rotate_left; intro _ _)
    | with_reducible apply Within.wrBit
    | split

theorem Chip.tripPin_within (s : Chip) (t : Nat) (level : Bool) (ns : Nat) :
    Within 0x200000000000000000000000000000000000000000000000000000000040000000000000000000000000000000000000 0x18800 s (Chip.tripPin s t level ns) := by
  unfold Chip.tripPin
  repeat' first
    | (extract_lets +onlyGivenNames x; refine .cut (x := x) ?_ ?_; rotate_left; clear_value x; intro _; rotate_left; subst x)
    | (extract_lets +onlyGivenNames x; refine .cut (x := x.2) ?_ ?_; rotate_left; clear_value x; intro _; rotate_left; subst x)
    | (extract_lets +onlyGivenNames x; refine .cut (x := x.2.2) ?_ ?_; rotate_left; clear_value x; intro _; rotate_left; subst x)
    | (extract_lets +onlyGivenNames x; clear_value x)
    | extract_lets +onlyGivenNames _
    | with_reducible apply Within.refl
    | with_reducible assumption
    | decide
    | with_reducible apply Within.step (Chip.setTripIn_within _ _ _)
    | with_reducible apply Within.step (Chip.tripFollow_within _ _)
    | split

theorem Chip.tripMaskEnd_within (s : Chip) (t : Nat) :
    Within 0x200000000000000000000000000000000000000000000000000000000040000000000000000000000000000000000000 0x18800 s (Chip.tripMaskEnd s t) := by
  unfold Chip.tripMaskEnd
  repeat' first
    | (extract_lets +onlyGivenNames x; refine .cut (x := x) ?_ ?_; rotate_left; clear_value x; intro _; rotate_left; subst x)
    | (extract_lets +onlyGivenNames x; refine .cut (x := x.2) ?_ ?_; rotate_left; clear_value x; intro _; rotate_left; subst x)
    | (extract_lets +onlyGivenNames x; refine .cut (x := x.2.2) ?_ ?_; rotate_left; clear_value x; intro _; rotate_left; subst x)
    | (extract_lets +onlyGivenNames x; clear_value x)
    | extract_lets +onlyGivenNames _
    | with_reducible apply Within.refl
    | with_reducible assumption
    | decide
    | with_reducible apply Within.step (Chip.setTripIn_within _ _ _)
    | with_reducible apply Within.step (Chip.tripFollow_within _ _)
    | split

theorem Chip.tripRelease_within (s : Chip) (t : Nat) (level : Bool) (ns : Nat) :
    Within 0x600000000000000000000000000000000000000000000000000000000040000000000000000000000000000000000000 0x18800 s (Chip.tripRelease s t level ns) := by
  unfold Chip.tripRelease
  repeat' first
    | (extract_lets +onlyGivenNames x; refine .cut (x := x) ?_ ?_; rotate_left; clear_value x; intro _; rotate_left; subst x)
    | (extract_lets +onlyGivenNames x; refine .cut (x := x.2) ?_ ?_; rotate_left; clear_value x; intro _; rotate_left; subst x)
    | (extract_lets +onlyGivenNames x; refine .cut (x := x.2.2) ?_ ?_; rotate_left; clear_value x; intro _; rotate_left; subst x)
    | (extract_lets +onlyGivenNames x; clear_value x)
    | extract_lets +onlyGivenNames _
    | with_reducible apply Within.refl
    | with_reducible assumption
    | decide
    | with_reducible apply Within.step (Chip.setTripIn_within _ _ _)
    | with_reducible apply Within.step (Chip.tripFollow_within _ _)
    | with_reducible apply Within.wrBit
    | split

theorem Chip.applyTrip_within (s : Chip) (old : Chip) (t : Nat) :
    Within 0x200000000000000000000000000000000000000000000000000000000000000000000000000000000000000000000000 0x8000 s (Chip.applyTrip s old t) := by
  unfold Chip.applyTrip
  repeat' first
    | (extract_lets +onlyGivenNames x; refine .cut (x := x) ?_ ?_; rotate_left; clear_value x; intro _; rotate_left; subst x)
    | (extract_lets +onlyGivenNames x; refine .cut (x := x.2) ?_ ?_; rotate_left; clear_value x; intro _; rotate_left; subst x)
    | (extract_lets +onlyGivenNames x; refine .cut (x := x.2.2) ?_ ?_; rotate_left; clear_value x; intro _; rotate_left; subst x)
    | (extract_lets +onlyGivenNames x; clear_value x)
    | extract_lets +onlyGivenNames _
    | with_reducible apply Within.refl
    | with_reducible assumption
    | decide
    | with_reducible apply Within.step (Chip.setTripIn_within _ _ _)
    | with_reducible apply Within.wrBit
    | (with_reducible apply Within.onlyIf; rotate_left; intro _ _)
    | split

theorem Chip.keepTrips_within (s : Chip) (old : Chip) :
    Within 0x200000000000000000000000000000000000000000000000000000000000000000000000000000000000000000000000 0x8000 s (Chip.keepTrips s old) := by
  unfold Chip.keepTrips
  repeat' first
    | (extract_lets +onlyGivenNames x; refine .cut (x := x) ?_ ?_; rotate_left; clear_value x; intro _; rotate_left; subst x)
    | (extract_lets +onlyGivenNames x; refine .cut (x := x.2) ?_ ?_; rotate_left; clear_value x; intro _; rotate_left; subst x)
    | (extract_lets +onlyGivenNames x; refine .cut (x := x.2.2) ?_ ?_; rotate_left; clear_value x; intro _; rotate_left; subst x)
    | (extract_lets +onlyGivenNames x; clear_value x)
    | extract_lets +onlyGivenNames _
    | with_reducible apply Within.refl
    | with_reducible assumption
    | decide
    | with_reducible apply Within.step (Chip.setTripIn_within _ _ _)
    | with_reducible apply Within.wrBit
    | (with_reducible apply Within.each; rotate_left; intro _ _ _)
    | split

theorem Chip.applyOutputs_within (s : Chip) (old : Chip) :
    Within 0x200000000000000000000000000000000000000000000000000000000000000000000000000000000000000000000000 0x8000 s (Chip.applyOutputs s old) := by
  unfold Chip.applyOutputs
  repeat' first
    | (extract_lets +onlyGivenNames x; refine .cut (x := x) ?_ ?_; rotate_left; clear_value x; intro _; rotate_left; subst x)
    | (extract_lets +onlyGivenNames x; refine .cut (x := x.2) ?_ ?_; rotate_left; clear_value x; intro _; rotate_left; subst x)
    | (extract_lets +onlyGivenNames x; refine .cut (x := x.2.2) ?_ ?_; rotate_left; clear_value x; intro _; rotate_left; subst x)
    | (extract_lets +onlyGivenNames x; clear_value x)
    | extract_lets +onlyGivenNames _
    | with_reducible apply Within.refl
    | with_reducible assumption
    | decide
    | with_reducible apply Within.step (Chip.applyTrip_within _ _ _)
    | with_reducible apply Within.step (Chip.restartMasks_within _ _)
    | (with_reducible apply Within.each; rotate_left; intro _ _ _)
    | split

theorem Chip.intervalTrip_within (s : Chip) (t : Nat) :
    Within 0x40000000000000000000000000000000000000 0x800 s (Chip.intervalTrip s t) := by
  unfold Chip.intervalTrip
  repeat' first
    | (extract_lets +onlyGivenNames x; refine .cut (x := x) ?_ ?_; rotate_left; clear_value x; intro _; rotate_left; subst x)
    | (extract_lets +onlyGivenNames x; refine .cut (x := x.2) ?_ ?_; rotate_left; clear_value x; intro _; rotate_left; subst x)
    | (extract_lets +onlyGivenNames x; refine .cut (x := x.2.2) ?_ ?_; rotate_left; clear_value x; intro _; rotate_left; subst x)
    | (extract_lets +onlyGivenNames x; clear_value x)
    | extract_lets +onlyGivenNames _
    | with_reducible apply Within.refl
    | with_reducible assumption
    | decide
    | with_reducible apply Within.step (Chip.raise_within _ _)
    | with_reducible apply Within.wrBit
    | split

theorem Chip.intervalDriver_within (s : Chip) (n : Nat) :
    Within 0 0x8000 s (Chip.intervalDriver s n) := by
  unfold Chip.intervalDriver
  repeat' first
    | (extract_lets +onlyGivenNames x; refine .cut (x := x) ?_ ?_; rotate_left; clear_value x; intro _; rotate_left; subst x)
    | (extract_lets +onlyGivenNames x; refine .cut (x := x.2) ?_ ?_; rotate_left; clear_value x; intro _; rotate_left; subst x)
    | (extract_lets +onlyGivenNames x; refine .cut (x := x.2.2) ?_ ?_; rotate_left; clear_value x; intro _; rotate_left; subst x)
    | (extract_lets +onlyGivenNames x; clear_value x)
    | extract_lets +onlyGivenNames _
    | with_reducible apply Within.refl
    | with_reducible assumption
    | decide
    | with_reducible apply Within.step (Chip.setDriver_within _ _ _)
    | split

theorem Chip.intervalStart_within (s : Chip) :
    Within 0x40000000000000000000000000000000000000 0x8800 s (Chip.intervalStart s) := by
  unfold Chip.intervalStart
  repeat' first
    | (extract_lets +onlyGivenNames x; refine .cut (x := x) ?_ ?_; rotate_left; clear_value x; intro _; rotate_left; subst x)
    | (extract_lets +onlyGivenNames x; refine .cut (x := x.2) ?_ ?_; rotate_left; clear_value x; intro _; rotate_left; subst x)
    | (extract_lets +onlyGivenNames x; refine .cut (x := x.2.2) ?_ ?_; rotate_left; clear_value x; intro _; rotate_left; subst x)
    | (extract_lets +onlyGivenNames x; clear_value x)
    | extract_lets +onlyGivenNames _
    | with_reducible apply Within.refl
    | with_reducible assumption
    | decide
    | with_reducible apply Within.step (Chip.intervalDriver_within _ _)
    | with_reducible apply Within.step (Chip.intervalTrip_within _ _)
    | with_reducible apply Within.step (Chip.placeDue_within _)
    | (with_reducible apply Chip.withOutputs_within; rotate_left; intro _ _)
    | (with_reducible apply Within.each; rotate_left; intro _ _ _)
    | split
    | with_reducible apply Within.set_power

theorem Chip.queueInterval_within (s : Chip) :
    Within 0 0x8000 s (Chip.queueInterval s) := by
  unfold Chip.queueInterval
  repeat' first
    | (extract_lets +onlyGivenNames x; refine .cut (x := x) ?_ ?_; rotate_left; clear_value x; intro _; rotate_left; subst x)
    | (extract_lets +onlyGivenNames x; refine .cut (x := x.2) ?_ ?_; rotate_left; clear_value x; intro _; rotate_left; subst x)
    | (extract_lets +onlyGivenNames x; refine .cut (x := x.2.2) ?_ ?_; rotate_left; clear_value x; intro _; rotate_left; subst x)
    | (extract_lets +onlyGivenNames x; clear_value x)
    | extract_lets +onlyGivenNames _
    | with_reducible apply Within.refl
    | with_reducible assumption
    | decide
    | split
    | with_reducible apply Within.set_power

theorem Chip.stampsLate_within (s : Chip) (n : Nat) :
    Within 0x400000000000000000000000000000000000000000000000000000000000000000000000000000000000000000000 0x8800 s (Chip.stampsLate s n) := by
  unfold Chip.stampsLate
  repeat' first
    | (extract_lets +onlyGivenNames x; refine .cut (x := x) ?_ ?_; rotate_left; clear_value x; intro _; rotate_left; subst x)
    | (extract_lets +onlyGivenNames x; refine .cut (x := x.2) ?_ ?_; rotate_left; clear_value x; intro _; rotate_left; subst x)
    | (extract_lets +onlyGivenNames x; refine .cut (x := x.2.2) ?_ ?_; rotate_left; clear_value x; intro _; rotate_left; subst x)
    | (extract_lets +onlyGivenNames x; clear_value x)
    | extract_lets +onlyGivenNames _
    | with_reducible apply Within.refl
    | with_reducible assumption
    | decide
    | with_reducible apply Within.step (Chip.raiseRigging_within _ _)
    | with_reducible apply Within.step (Chip.setDriver_within _ _ _)
    | with_reducible apply Within.count
    | split

theorem Chip.gdIgnored_within (s : Chip) :
    Within 0x800000000000000000000000000000000000000000000000000000000000000000000000000000000000000000000 0 s (Chip.gdIgnored s) := by
  unfold Chip.gdIgnored
  repeat' first
    | (extract_lets +onlyGivenNames x; refine .cut (x := x) ?_ ?_; rotate_left; clear_value x; intro _; rotate_left; subst x)
    | (extract_lets +onlyGivenNames x; refine .cut (x := x.2) ?_ ?_; rotate_left; clear_value x; intro _; rotate_left; subst x)
    | (extract_lets +onlyGivenNames x; refine .cut (x := x.2.2) ?_ ?_; rotate_left; clear_value x; intro _; rotate_left; subst x)
    | (extract_lets +onlyGivenNames x; clear_value x)
    | extract_lets +onlyGivenNames _
    | with_reducible apply Within.refl
    | with_reducible assumption
    | decide
    | with_reducible apply Within.count
    | split

theorem Chip.gdStaticOn_within (s : Chip) (n : Nat) :
    Within 0x880000000000000000000000000000000000000000000000000000000000000000000000000000000000000000000 0x8000 s (Chip.gdStaticOn s n) := by
  unfold Chip.gdStaticOn
  repeat' first
    | (extract_lets +onlyGivenNames x; refine .cut (x := x) ?_ ?_; rotate_left; clear_value x; intro _; rotate_left; subst x)
    | (extract_lets +onlyGivenNames x; refine .cut (x := x.2) ?_ ?_; rotate_left; clear_value x; intro _; rotate_left; subst x)
    | (extract_lets +onlyGivenNames x; refine .cut (x := x.2.2) ?_ ?_; rotate_left; clear_value x; intro _; rotate_left; subst x)
    | (extract_lets +onlyGivenNames x; clear_value x)
    | extract_lets +onlyGivenNames _
    | with_reducible apply Within.refl
    | with_reducible assumption
    | decide
    | with_reducible apply Within.step (Chip.gdIgnored_within _)
    | (with_reducible apply Chip.withOutputs_within; rotate_left; intro _ _)
    | with_reducible apply Within.wr
    | split

theorem Chip.gdStaticOff_within (s : Chip) (n : Nat) :
    Within 0x880000000000000000000000000000000000000000000000000000000000000000000000000000000000000000000 0x8000 s (Chip.gdStaticOff s n) := by
  unfold Chip.gdStaticOff
  repeat' first
    | (extract_lets +onlyGivenNames x; refine .cut (x := x) ?_ ?_; rotate_left; clear_value x; intro _; rotate_left; subst x)
    | (extract_lets +onlyGivenNames x; refine .cut (x := x.2) ?_ ?_; rotate_left; clear_value x; intro _; rotate_left; subst x)
    | (extract_lets +onlyGivenNames x; refine .cut (x := x.2.2) ?_ ?_; rotate_left; clear_value x; intro _; rotate_left; subst x)
    | (extract_lets +onlyGivenNames x; clear_value x)
    | extract_lets +onlyGivenNames _
    | with_reducible apply Within.refl
    | with_reducible assumption
    | decide
    | with_reducible apply Within.step (Chip.gdIgnored_within _)
    | (with_reducible apply Chip.withOutputs_within; rotate_left; intro _ _)
    | with_reducible apply Within.wr
    | split

theorem Chip.gdRearm_within (s : Chip) (n : Nat) (mv : Int) :
    Within 0x810000000000000000000000000000000000000000000000000000000000000000000000000000000000000000000 0x8000 s (Chip.gdRearm s n mv) := by
  unfold Chip.gdRearm
  repeat' first
    | (extract_lets +onlyGivenNames x; refine .cut (x := x) ?_ ?_; rotate_left; clear_value x; intro _; rotate_left; subst x)
    | (extract_lets +onlyGivenNames x; refine .cut (x := x.2) ?_ ?_; rotate_left; clear_value x; intro _; rotate_left; subst x)
    | (extract_lets +onlyGivenNames x; refine .cut (x := x.2.2) ?_ ?_; rotate_left; clear_value x; intro _; rotate_left; subst x)
    | (extract_lets +onlyGivenNames x; clear_value x)
    | extract_lets +onlyGivenNames _
    | with_reducible apply Within.refl
    | with_reducible assumption
    | decide
    | with_reducible apply Within.step (Chip.gdIgnored_within _)
    | with_reducible apply Within.step (Chip.setDriver_within _ _ _)
    | (with_reducible apply Chip.withOutputs_within; rotate_left; intro _ _)
    | with_reducible apply Within.wr
    | split

theorem Chip.uvloBelow_within (s : Chip) (n : Nat) (neg : Bool) :
    Within 0x18c000000000000000000000000000000000000000000000000000000000000000000000000000000000000000000 0x800 s (Chip.uvloBelow s n neg) := by
  unfold Chip.uvloBelow
  repeat' first
    | (extract_lets +onlyGivenNames x; refine .cut (x := x) ?_ ?_; rotate_left; clear_value x; intro _; rotate_left; subst x)
    | (extract_lets +onlyGivenNames x; refine .cut (x := x.2) ?_ ?_; rotate_left; clear_value x; intro _; rotate_left; subst x)
    | (extract_lets +onlyGivenNames x; refine .cut (x := x.2.2) ?_ ?_; rotate_left; clear_value x; intro _; rotate_left; subst x)
    | (extract_lets +onlyGivenNames x; clear_value x)
    | extract_lets +onlyGivenNames _
    | with_reducible apply Within.refl
    | with_reducible assumption
    | decide
    | with_reducible apply Within.step (Chip.raiseRigging_within _ _)
    | with_reducible apply Within.count
    | with_reducible apply Within.wr
    | split

theorem Chip.uvloEntry_within (s : Chip) (n : Nat) (neg : Bool) (mv : Nat) :
    Within 0x18c000000000000000000000000000000000000000000000000000000000000000000000000000000000000000000 0x800 s (Chip.uvloEntry s n neg mv) := by
  unfold Chip.uvloEntry
  repeat' first
    | (extract_lets +onlyGivenNames x; refine .cut (x := x) ?_ ?_; rotate_left; clear_value x; intro _; rotate_left; subst x)
    | (extract_lets +onlyGivenNames x; refine .cut (x := x.2) ?_ ?_; rotate_left; clear_value x; intro _; rotate_left; subst x)
    | (extract_lets +onlyGivenNames x; refine .cut (x := x.2.2) ?_ ?_; rotate_left; clear_value x; intro _; rotate_left; subst x)
    | (extract_lets +onlyGivenNames x; clear_value x)
    | extract_lets +onlyGivenNames _
    | with_reducible apply Within.refl
    | with_reducible assumption
    | decide
    | with_reducible apply Within.step (Chip.uvloBelow_within _ _ _)
    | split

theorem Chip.uvloExit_within (s : Chip) (n : Nat) (drv : Nat) (neg : Nat) (ns : Nat) :
    Within 0xc000000000000000000000000000000000000000000000000000000000000000000000000000000000000000000 0x8000 s (Chip.uvloExit s n drv neg ns) := by
  unfold Chip.uvloExit
  repeat' first
    | (extract_lets +onlyGivenNames x; refine .cut (x := x) ?_ ?_; rotate_left; clear_value x; intro _; rotate_left; subst x)
    | (extract_lets +onlyGivenNames x; refine .cut (x := x.2) ?_ ?_; rotate_left; clear_value x; intro _; rotate_left; subst x)
    | (extract_lets +onlyGivenNames x; refine .cut (x := x.2.2) ?_ ?_; rotate_left; clear_value x; intro _; rotate_left; subst x)
    | (extract_lets +onlyGivenNames x; clear_value x)
    | extract_lets +onlyGivenNames _
    | with_reducible apply Within.refl
    | with_reducible assumption
    | decide
    | with_reducible apply Within.step (Chip.setDriver_within _ _ _)
    | (with_reducible apply Chip.withOutputs_within; rotate_left; intro _ _)
    | with_reducible apply Within.wr
    | split

theorem Chip.shortDetected_within (s : Chip) (n : Nat) :
    Within 0x290000000000000000000000000000000000000000000000000000000000000000000000000000000000000000000 0x8800 s (Chip.shortDetected s n) := by
  unfold Chip.shortDetected
  repeat' first
    | (extract_lets +onlyGivenNames x; refine .cut (x := x) ?_ ?_; rotate_left; clear_value x; intro _; rotate_left; subst x)
    | (extract_lets +onlyGivenNames x; refine .cut (x := x.2) ?_ ?_; rotate_left; clear_value x; intro _; rotate_left; subst x)
    | (extract_lets +onlyGivenNames x; refine .cut (x := x.2.2) ?_ ?_; rotate_left; clear_value x; intro _; rotate_left; subst x)
    | (extract_lets +onlyGivenNames x; clear_value x)
    | extract_lets +onlyGivenNames _
    | with_reducible apply Within.refl
    | with_reducible assumption
    | decide
    | with_reducible apply Within.step (Chip.raiseRigging_within _ _)
    | with_reducible apply Within.step (Chip.setDriver_within _ _ _)
    | with_reducible apply Within.count
    | with_reducible apply Within.wr
    | split

theorem Chip.clearShorts_within (s : Chip) :
    Within 0x10000000000000000000000000000000000000000000000000000000000000000000000000000000000000000000 0x8000 s (Chip.clearShorts s) := by
  unfold Chip.clearShorts
  repeat' first
    | (extract_lets +onlyGivenNames x; refine .cut (x := x) ?_ ?_; rotate_left; clear_value x; intro _; rotate_left; subst x)
    | (extract_lets +onlyGivenNames x; refine .cut (x := x.2) ?_ ?_; rotate_left; clear_value x; intro _; rotate_left; subst x)
    | (extract_lets +onlyGivenNames x; refine .cut (x := x.2.2) ?_ ?_; rotate_left; clear_value x; intro _; rotate_left; subst x)
    | (extract_lets +onlyGivenNames x; clear_value x)
    | extract_lets +onlyGivenNames _
    | with_reducible apply Within.refl
    | with_reducible assumption
    | decide
    | with_reducible apply Within.step (Chip.setDriver_within _ _ _)
    | with_reducible apply Within.wr
    | (with_reducible apply Within.each; rotate_left; intro _ _ _)
    | split

theorem Chip.gdiCrossing_within (s : Chip) (n : Nat) (mv : Int) :
    Within 0x290000000000000000000000000000000000000000000000000000000000000000000000000000000000000000000 0x8800 s (Chip.gdiCrossing s n mv) := by
  unfold Chip.gdiCrossing
  repeat' first
    | (extract_lets +onlyGivenNames x; refine .cut (x := x) ?_ ?_; rotate_left; clear_value x; intro _; rotate_left; subst x)
    | (extract_lets +onlyGivenNames x; refine .cut (x := x.2) ?_ ?_; rotate_left; clear_value x; intro _; rotate_left; subst x)
    | (extract_lets +onlyGivenNames x; refine .cut (x := x.2.2) ?_ ?_; rotate_left; clear_value x; intro _; rotate_left; subst x)
    | (extract_lets +onlyGivenNames x; clear_value x)
    | extract_lets +onlyGivenNames _
    | with_reducible apply Within.refl
    | with_reducible assumption
    | decide
    | with_reducible apply Within.step (Chip.shortDetected_within _ _)
    | split

theorem Chip.blankEnd_within (s : Chip) (n : Nat) (mv : Int) :
    Within 0x290000000000000000000000000000000000000000000000000000000000000000000000000000000000000000000 0x8800 s (Chip.blankEnd s n mv) := by
  unfold Chip.blankEnd
  repeat' first
    | (extract_lets +onlyGivenNames x; refine .cut (x := x) ?_ ?_; rotate_left; clear_value x; intro _; rotate_left; subst x)
    | (extract_lets +onlyGivenNames x; refine .cut (x := x.2) ?_ ?_; rotate_left; clear_value x; intro _; rotate_left; subst x)
    | (extract_lets +onlyGivenNames x; refine .cut (x := x.2.2) ?_ ?_; rotate_left; clear_value x; intro _; rotate_left; subst x)
    | (extract_lets +onlyGivenNames x; clear_value x)
    | extract_lets +onlyGivenNames _
    | with_reducible apply Within.refl
    | with_reducible assumption
    | decide
    | with_reducible apply Within.step (Chip.shortDetected_within _ _)
    | split

theorem Chip.softOffEnd_within (s : Chip) (n : Nat) :
    Within 0 0x8000 s (Chip.softOffEnd s n) := by
  unfold Chip.softOffEnd
  repeat' first
    | (extract_lets +onlyGivenNames x; refine .cut (x := x) ?_ ?_; rotate_left; clear_value x; intro _; rotate_left; subst x)
    | (extract_lets +onlyGivenNames x; refine .cut (x := x.2) ?_ ?_; rotate_left; clear_value x; intro _; rotate_left; subst x)
    | (extract_lets +onlyGivenNames x; refine .cut (x := x.2.2) ?_ ?_; rotate_left; clear_value x; intro _; rotate_left; subst x)
    | (extract_lets +onlyGivenNames x; clear_value x)
    | extract_lets +onlyGivenNames _
    | with_reducible apply Within.refl
    | with_reducible assumption
    | decide
    | with_reducible apply Within.step (Chip.setDriver_within _ _ _)
    | split

theorem Chip.gdInterlock_within (s : Chip) (n : Nat) :
    Within 0xa0000000000000000000000000000000000000000000000000000000000000000000000000000000000000000000 0x8800 s (Chip.gdInterlock s n) := by
  unfold Chip.gdInterlock
  repeat' first
    | (extract_lets +onlyGivenNames x; refine .cut (x := x) ?_ ?_; rotate_left; clear_value x; intro _; rotate_left; subst x)
    | (extract_lets +onlyGivenNames x; refine .cut (x := x.2) ?_ ?_; rotate_left; clear_value x; intro _; rotate_left; subst x)
    | (extract_lets +onlyGivenNames x; refine .cut (x := x.2.2) ?_ ?_; rotate_left; clear_value x; intro _; rotate_left; subst x)
    | (extract_lets +onlyGivenNames x; clear_value x)
    | extract_lets +onlyGivenNames _
    | with_reducible apply Within.refl
    | with_reducible assumption
    | decide
    | with_reducible apply Within.step (Chip.raiseRigging_within _ _)
    | with_reducible apply Within.step (Chip.setDriver_within _ _ _)
    | with_reducible apply Within.wr
    | (with_reducible apply Within.each; rotate_left; intro _ _ _)
    | split

theorem Chip.driversSnapshot_within (s : Chip) :
    Within 0 0x8000 s (Chip.driversSnapshot s) := by
  unfold Chip.driversSnapshot
  repeat' first
    | (extract_lets +onlyGivenNames x; refine .cut (x := x) ?_ ?_; rotate_left; clear_value x; intro _; rotate_left; subst x)
    | (extract_lets +onlyGivenNames x; refine .cut (x := x.2) ?_ ?_; rotate_left; clear_value x; intro _; rotate_left; subst x)
    | (extract_lets +onlyGivenNames x; refine .cut (x := x.2.2) ?_ ?_; rotate_left; clear_value x; intro _; rotate_left; subst x)
    | (extract_lets +onlyGivenNames x; clear_value x)
    | extract_lets +onlyGivenNames _
    | with_reducible apply Within.refl
    | with_reducible assumption
    | decide
    | with_reducible apply Within.step (Chip.setDriver_within _ _ _)
    | (with_reducible apply Within.each; rotate_left; intro _ _ _)
    | split

end Sys2Proof.Machine
end

