-- ==== Sys2Proof/Laws/FrameConverter.lean ====
section
/-! SUPPORT. The frames of the operations of Machine/Converter.lean: the fields and the parts of the state each may change. -/

set_option linter.tactic.unusedName false

namespace Sys2Proof.Machine

theorem Chip.setAdcEntry_within (s : Chip) (n : Nat) (r : AdcEntryState) :
    Within 0 0x4000 s (Chip.setAdcEntry s n r) := by
  unfold Chip.setAdcEntry
  repeat' first
    | (extract_lets +onlyGivenNames x; refine .cut (x := x) ?_ ?_; rotate_left; clear_value x; intro _; rotate_left; subst x)
    | (extract_lets +onlyGivenNames x; refine .cut (x := x.2) ?_ ?_; rotate_left; clear_value x; intro _; rotate_left; subst x)
    | (extract_lets +onlyGivenNames x; refine .cut (x := x.2.2) ?_ ?_; rotate_left; clear_value x; intro _; rotate_left; subst x)
    | (extract_lets +onlyGivenNames x; clear_value x)
    | extract_lets +onlyGivenNames _
    | with_reducible apply Within.refl
    | with_reducible assumption
    | decide
    | split
    | with_reducible apply Within.set_converter

theorem Chip.setSequence_within (s : Chip) (q : Nat) (r : SequenceState) :
    Within 0 0x4000 s (Chip.setSequence s q r) := by
  unfold Chip.setSequence
  repeat' first
    | (extract_lets +onlyGivenNames x; refine .cut (x := x) ?_ ?_; rotate_left; clear_value x; intro _; rotate_left; subst x)
    | (extract_lets +onlyGivenNames x; refine .cut (x := x.2) ?_ ?_; rotate_left; clear_value x; intro _; rotate_left; subst x)
    | (extract_lets +onlyGivenNames x; refine .cut (x := x.2.2) ?_ ?_; rotate_left; clear_value x; intro _; rotate_left; subst x)
    | (extract_lets +onlyGivenNames x; clear_value x)
    | extract_lets +onlyGivenNames _
    | with_reducible apply Within.refl
    | with_reducible assumption
    | decide
    | split
    | with_reducible apply Within.set_converter

theorem Chip.setSlice_within (s : Chip) (k : Nat) (r : SliceState) :
    Within 0 0x4000 s (Chip.setSlice s k r) := by
  unfold Chip.setSlice
  repeat' first
    | (extract_lets +onlyGivenNames x; refine .cut (x := x) ?_ ?_; rotate_left; clear_value x; intro _; rotate_left; subst x)
    | (extract_lets +onlyGivenNames x; refine .cut (x := x.2) ?_ ?_; rotate_left; clear_value x; intro _; rotate_left; subst x)
    | (extract_lets +onlyGivenNames x; refine .cut (x := x.2.2) ?_ ?_; rotate_left; clear_value x; intro _; rotate_left; subst x)
    | (extract_lets +onlyGivenNames x; clear_value x)
    | extract_lets +onlyGivenNames _
    | with_reducible apply Within.refl
    | with_reducible assumption
    | decide
    | split
    | with_reducible apply Within.set_converter

theorem Chip.serve_within (s : Chip) (k : Nat) (c : Nat) :
    Within 0x10000000000000000000000000000000000000000000000000000000000000000000000000 0x4000 s (Chip.serve s k c) := by
  unfold Chip.serve
  repeat' first
    | (extract_lets +onlyGivenNames x; refine .cut (x := x) ?_ ?_; rotate_left; clear_value x; intro _; rotate_left; subst x)
    | (extract_lets +onlyGivenNames x; refine .cut (x := x.2) ?_ ?_; rotate_left; clear_value x; intro _; rotate_left; subst x)
    | (extract_lets +onlyGivenNames x; refine .cut (x := x.2.2) ?_ ?_; rotate_left; clear_value x; intro _; rotate_left; subst x)
    | (extract_lets +onlyGivenNames x; clear_value x)
    | extract_lets +onlyGivenNames _
    | with_reducible apply Within.refl
    | with_reducible assumption
    | decide
    | with_reducible apply Within.wr
    | split
    | with_reducible apply Within.set_converter

theorem Chip.showConverter_within (s : Chip) :
    Within 0x23ff0000000000000000000000000000000000000000000000000000000000000000000000000000 0x4000 s (Chip.showConverter s) := by
  unfold Chip.showConverter
  repeat' first
    | (extract_lets +onlyGivenNames x; refine .cut (x := x) ?_ ?_; rotate_left; clear_value x; intro _; rotate_left; subst x)
    | (extract_lets +onlyGivenNames x; refine .cut (x := x.2) ?_ ?_; rotate_left; clear_value x; intro _; rotate_left; subst x)
    | (extract_lets +onlyGivenNames x; refine .cut (x := x.2.2) ?_ ?_; rotate_left; clear_value x; intro _; rotate_left; subst x)
    | (extract_lets +onlyGivenNames x; clear_value x)
    | extract_lets +onlyGivenNames _
    | with_reducible apply Within.refl
    | with_reducible assumption
    | decide
    | with_reducible apply Within.step (Chip.setSequence_within _ _ _)
    | with_reducible apply Within.wrFlag
    | with_reducible apply Within.count
    | with_reducible apply Within.wr
    | (with_reducible apply Within.each; rotate_left; intro _ _ _)
    | split
    | with_reducible apply Within.set_converter

theorem Chip.mirrorEntry_within (s : Chip) (n : Nat) :
    Within 0xf800000000000000000000000000000000000000000000000000000000000000000000000000 0x4000 s (Chip.mirrorEntry s n) := by
  unfold Chip.mirrorEntry
  repeat' first
    | (extract_lets +onlyGivenNames x; refine .cut (x := x) ?_ ?_; rotate_left; clear_value x; intro _; rotate_left; subst x)
    | (extract_lets +onlyGivenNames x; refine .cut (x := x.2) ?_ ?_; rotate_left; clear_value x; intro _; rotate_left; subst x)
    | (extract_lets +onlyGivenNames x; refine .cut (x := x.2.2) ?_ ?_; rotate_left; clear_value x; intro _; rotate_left; subst x)
    | (extract_lets +onlyGivenNames x; clear_value x)
    | extract_lets +onlyGivenNames _
    | with_reducible apply Within.refl
    | with_reducible assumption
    | decide
    | with_reducible apply Within.step (Chip.setAdcEntry_within _ _ _)
    | with_reducible apply Within.wrFlag
    | with_reducible apply Within.wrInt
    | split

theorem Chip.deliverMirrors_within (s : Chip) :
    Within 0x23fff800000000000000000000000000000000000000000000000000000000000000000000000000 0x4000 s (Chip.deliverMirrors s) := by
  unfold Chip.deliverMirrors
  repeat' first
    | (extract_lets +onlyGivenNames x; refine .cut (x := x) ?_ ?_; rotate_left; clear_value x; intro _; rotate_left; subst x)
    | (extract_lets +onlyGivenNames x; refine .cut (x := x.2) ?_ ?_; rotate_left; clear_value x; intro _; rotate_left; subst x)
    | (extract_lets +onlyGivenNames x; refine .cut (x := x.2.2) ?_ ?_; rotate_left; clear_value x; intro _; rotate_left; subst x)
    | (extract_lets +onlyGivenNames x; clear_value x)
    | extract_lets +onlyGivenNames _
    | with_reducible apply Within.refl
    | with_reducible assumption
    | decide
    | with_reducible apply Within.step (Chip.mirrorEntry_within _ _)
    | with_reducible apply Within.step (Chip.showConverter_within _)
    | (with_reducible apply Within.each; rotate_left; intro _ _ _)
    | split
    | with_reducible apply Within.set_converter

theorem Chip.startSequence_within (s : Chip) (q : Nat) (sampling : Nat) (held : Bool) :
    Within 0 0x4000 s (Chip.startSequence s q sampling held) := by
  unfold Chip.startSequence
  repeat' first
    | (extract_lets +onlyGivenNames x; refine .cut (x := x) ?_ ?_; rotate_left; clear_value x; intro _; rotate_left; subst x)
    | (extract_lets +onlyGivenNames x; refine .cut (x := x.2) ?_ ?_; rotate_left; clear_value x; intro _; rotate_left; subst x)
    | (extract_lets +onlyGivenNames x; refine .cut (x := x.2.2) ?_ ?_; rotate_left; clear_value x; intro _; rotate_left; subst x)
    | (extract_lets +onlyGivenNames x; clear_value x)
    | extract_lets +onlyGivenNames _
    | with_reducible apply Within.refl
    | with_reducible assumption
    | decide
    | with_reducible apply Within.step (Chip.setSequence_within _ _ _)
    | split

theorem Chip.sequenceTrigger_within (s : Chip) (q : Nat) :
    Within 0x23ff0000000000000000000000000000000000000000000000000000000000000000000000000000 0x4000 s (Chip.sequenceTrigger s q) := by
  unfold Chip.sequenceTrigger
  repeat' first
    | (extract_lets +onlyGivenNames x; refine .cut (x := x) ?_ ?_; rotate_left; clear_value x; intro _; rotate_left; subst x)
    | (extract_lets +onlyGivenNames x; refine .cut (x := x.2) ?_ ?_; rotate_left; clear_value x; intro _; rotate_left; subst x)
    | (extract_lets +onlyGivenNames x; refine .cut (x := x.2.2) ?_ ?_; rotate_left; clear_value x; intro _; rotate_left; subst x)
    | (extract_lets +onlyGivenNames x; clear_value x)
    | extract_lets +onlyGivenNames _
    | with_reducible apply Within.refl
    | with_reducible assumption
    | decide
    | with_reducible apply Within.step (Chip.setSequence_within _ _ _)
    | with_reducible apply Within.step (Chip.showConverter_within _)
    | with_reducible apply Within.step (Chip.startSequence_within _ _ _ _)
    | split

theorem Chip.endRun_within (s : Chip) (q : Nat) :
    Within 0 0x4000 s (Chip.endRun s q) := by
  unfold Chip.endRun
  repeat' first
    | (extract_lets +onlyGivenNames x; refine .cut (x := x) ?_ ?_; rotate_left; clear_value x; intro _; rotate_left; subst x)
    | (extract_lets +onlyGivenNames x; refine .cut (x := x.2) ?_ ?_; rotate_left; clear_value x; intro _; rotate_left; subst x)
    | (extract_lets +onlyGivenNames x; refine .cut (x := x.2.2) ?_ ?_; rotate_left; clear_value x; intro _; rotate_left; subst x)
    | (extract_lets +onlyGivenNames x; clear_value x)
    | extract_lets +onlyGivenNames _
    | with_reducible apply Within.refl
    | with_reducible assumption
    | decide
    | with_reducible apply Within.step (Chip.setSequence_within _ _ _)
    | with_reducible apply Within.step (Chip.startSequence_within _ _ _ _)
    | split

theorem Chip.takeBits_within (s : Chip) (c : Nat) (k : Nat) (t : Nat) (new : List Bool) :
    Within 0 0x4000 s (Chip.takeBits s c k t new) := by
  unfold Chip.takeBits
  repeat' first
    | (extract_lets +onlyGivenNames x; refine .cut (x := x) ?_ ?_; rotate_left; clear_value x; intro _; rotate_left; subst x)
    | (extract_lets +onlyGivenNames x; refine .cut (x := x.2) ?_ ?_; rotate_left; clear_value x; intro _; rotate_left; subst x)
    | (extract_lets +onlyGivenNames x; refine .cut (x := x.2.2) ?_ ?_; rotate_left; clear_value x; intro _; rotate_left; subst x)
    | (extract_lets +onlyGivenNames x; clear_value x)
    | extract_lets +onlyGivenNames _
    | with_reducible apply Within.refl
    | with_reducible assumption
    | decide
    | split
    | with_reducible apply Within.set_converter

theorem Chip.windowValue_within (s : Chip) (n : Nat) (x : Nat) :
    Within 0 0x1000000 s (Chip.windowValue s n x).2 := by
  unfold Chip.windowValue
  repeat' first
    | (extract_lets +onlyGivenNames x; refine .cut (x := x) ?_ ?_; rotate_left; clear_value x; intro _; rotate_left; subst x)
    | (extract_lets +onlyGivenNames x; refine .cut (x := x.2) ?_ ?_; rotate_left; clear_value x; intro _; rotate_left; subst x)
    | (extract_lets +onlyGivenNames x; refine .cut (x := x.2.2) ?_ ?_; rotate_left; clear_value x; intro _; rotate_left; subst x)
    | (extract_lets +onlyGivenNames x; clear_value x)
    | extract_lets +onlyGivenNames _
    | with_reducible apply Within.refl
    | with_reducible assumption
    | decide
    | with_reducible apply Within.step (Chip.freeNat_within _)
    | split

theorem Chip.adcComplete_within (s : Chip) (n : Nat) (new : List Bool) (retries : Nat) (arrives : Bool) :
    Within 0x23fff800000000000000000000000000000000000000000000000000000000000000000000400000 0x1004000 s (Chip.adcComplete s n new retries arrives) := by
  unfold Chip.adcComplete
  repeat' first
    | (extract_lets +onlyGivenNames x; refine .cut (x := x) ?_ ?_; rotate_left; clear_value x; intro _; rotate_left; subst x)
    | (extract_lets +onlyGivenNames x; refine .cut (x := x.2) ?_ ?_; rotate_left; clear_value x; intro _; rotate_left; subst x)
    | (extract_lets +onlyGivenNames x; refine .cut (x := x.2.2) ?_ ?_; rotate_left; clear_value x; intro _; rotate_left; subst x)
    | (extract_lets +onlyGivenNames x; clear_value x)
    | extract_lets +onlyGivenNames _
    | with_reducible apply Within.refl
    | with_reducible assumption
    | decide
    | with_reducible apply Within.step (Chip.endRun_within _ _)
    | with_reducible apply Within.step (Chip.mirrorEntry_within _ _)
    | with_reducible apply Within.step (Chip.setAdcEntry_within _ _ _)
    | with_reducible apply Within.step (Chip.setSequence_within _ _ _)
    | with_reducible apply Within.step (Chip.showConverter_within _)
    | with_reducible apply Within.step (Chip.takeBits_within _ _ _ _ _)
    | with_reducible apply Within.step (Chip.windowValue_within _ _ _)
    | with_reducible apply Within.count
    | (with_reducible apply Within.onlyIf; rotate_left; intro _ _)
    | split

theorem Chip.converterSnapshot_within (s : Chip) :
    Within 0 0x4000 s (Chip.converterSnapshot s) := by
  unfold Chip.converterSnapshot
  repeat' first
    | (extract_lets +onlyGivenNames x; refine .cut (x := x) ?_ ?_; rotate_left; clear_value x; intro _; rotate_left; subst x)
    | (extract_lets +onlyGivenNames x; refine .cut (x := x.2) ?_ ?_; rotate_left; clear_value x; intro _; rotate_left; subst x)
    | (extract_lets +onlyGivenNames x; refine .cut (x := x.2.2) ?_ ?_; rotate_left; clear_value x; intro _; rotate_left; subst x)
    | (extract_lets +onlyGivenNames x; clear_value x)
    | extract_lets +onlyGivenNames _
    | with_reducible apply Within.refl
    | with_reducible assumption
    | decide
    | with_reducible apply Within.step (Chip.setAdcEntry_within _ _ _)
    | (with_reducible apply Within.each; rotate_left; intro _ _ _)
    | split
    | with_reducible apply Within.set_converter

theorem Chip.writeAdcWord_within (s : Chip) (n : Nat) :
    Within 0x38000 0x1000801 s (Chip.writeAdcWord s n) := by
  unfold Chip.writeAdcWord
  repeat' first
    | (extract_lets +onlyGivenNames x; refine .cut (x := x) ?_ ?_; rotate_left; clear_value x; intro _; rotate_left; subst x)
    | (extract_lets +onlyGivenNames x; refine .cut (x := x.2) ?_ ?_; rotate_left; clear_value x; intro _; rotate_left; subst x)
    | (extract_lets +onlyGivenNames x; refine .cut (x := x.2.2) ?_ ?_; rotate_left; clear_value x; intro _; rotate_left; subst x)
    | (extract_lets +onlyGivenNames x; clear_value x)
    | extract_lets +onlyGivenNames _
    | with_reducible apply Within.refl
    | with_reducible assumption
    | decide
    | with_reducible apply Within.step (Chip.sramPutWord_within _ _ _)
    | split

theorem Chip.writeComparatorWords_within (s : Chip) :
    Within 0x38000 0x1000801 s (Chip.writeComparatorWords s) := by
  unfold Chip.writeComparatorWords
  repeat' first
    | (extract_lets +onlyGivenNames x; refine .cut (x := x) ?_ ?_; rotate_left; clear_value x; intro _; rotate_left; subst x)
    | (extract_lets +onlyGivenNames x; refine .cut (x := x.2) ?_ ?_; rotate_left; clear_value x; intro _; rotate_left; subst x)
    | (extract_lets +onlyGivenNames x; refine .cut (x := x.2.2) ?_ ?_; rotate_left; clear_value x; intro _; rotate_left; subst x)
    | (extract_lets +onlyGivenNames x; clear_value x)
    | extract_lets +onlyGivenNames _
    | with_reducible apply Within.refl
    | with_reducible assumption
    | decide
    | with_reducible apply Within.step (Chip.sramPutWord_within _ _ _)
    | (with_reducible apply Within.onlyIf; rotate_left; intro _ _)
    | split

theorem Chip.converterDistribute_within (s : Chip) :
    Within 0x38800 0x1000801 s (Chip.converterDistribute s) := by
  unfold Chip.converterDistribute
  repeat' first
    | (extract_lets +onlyGivenNames x; refine .cut (x := x) ?_ ?_; rotate_left; clear_value x; intro _; rotate_left; subst x)
    | (extract_lets +onlyGivenNames x; refine .cut (x := x.2) ?_ ?_; rotate_left; clear_value x; intro _; rotate_left; subst x)
    | (extract_lets +onlyGivenNames x; refine .cut (x := x.2.2) ?_ ?_; rotate_left; clear_value x; intro _; rotate_left; subst x)
    | (extract_lets +onlyGivenNames x; clear_value x)
    | extract_lets +onlyGivenNames _
    | with_reducible apply Within.refl
    | with_reducible assumption
    | decide
    | with_reducible apply Within.step (Chip.writeAdcWord_within _ _)
    | with_reducible apply Within.step (Chip.writeComparatorWords_within _)
    | with_reducible apply Within.wr
    | (with_reducible apply Within.each; rotate_left; intro _ _ _)
    | split

theorem Chip.sliceReadyBit_within (s : Chip) (k : Nat) (b : Bool) :
    Within 0x100000000000000 0x20 s (Chip.sliceReadyBit s k b) := by
  unfold Chip.sliceReadyBit
  repeat' first
    | (extract_lets +onlyGivenNames x; refine .cut (x := x) ?_ ?_; rotate_left; clear_value x; intro _; rotate_left; subst x)
    | (extract_lets +onlyGivenNames x; refine .cut (x := x.2) ?_ ?_; rotate_left; clear_value x; intro _; rotate_left; subst x)
    | (extract_lets +onlyGivenNames x; refine .cut (x := x.2.2) ?_ ?_; rotate_left; clear_value x; intro _; rotate_left; subst x)
    | (extract_lets +onlyGivenNames x; clear_value x)
    | extract_lets +onlyGivenNames _
    | with_reducible apply Within.refl
    | with_reducible assumption
    | decide
    | with_reducible apply Within.step (Chip.unusable_within _ _)
    | with_reducible apply Within.wrBit
    | (with_reducible apply Within.onlyIf; rotate_left; intro _ _)
    | split

theorem Chip.assignSlices_within (s : Chip) :
    Within 0x10000000000000000000000000000000000000000000000000000000000000000000000000 0x4000 s (Chip.assignSlices s) := by
  unfold Chip.assignSlices
  repeat' first
    | (extract_lets +onlyGivenNames x; refine .cut (x := x) ?_ ?_; rotate_left; clear_value x; intro _; rotate_left; subst x)
    | (extract_lets +onlyGivenNames x; refine .cut (x := x.2) ?_ ?_; rotate_left; clear_value x; intro _; rotate_left; subst x)
    | (extract_lets +onlyGivenNames x; refine .cut (x := x.2.2) ?_ ?_; rotate_left; clear_value x; intro _; rotate_left; subst x)
    | (extract_lets +onlyGivenNames x; clear_value x)
    | extract_lets +onlyGivenNames _
    | with_reducible apply Within.refl
    | with_reducible assumption
    | decide
    | with_reducible apply Within.step (Chip.serve_within _ _ _)
    | (with_reducible apply Within.each; rotate_left; intro _ _ _)
    | split

theorem Chip.retireSlice_within (s : Chip) (k : Nat) :
    Within 0x23ff0016000000000000000000000000000000000000000000000000000000000100000000000000 0x4820 s (Chip.retireSlice s k) := by
  unfold Chip.retireSlice
  repeat' first
    | (extract_lets +onlyGivenNames x; refine .cut (x := x) ?_ ?_; rotate_left; clear_value x; intro _; rotate_left; subst x)
    | (extract_lets +onlyGivenNames x; refine .cut (x := x.2) ?_ ?_; rotate_left; clear_value x; intro _; rotate_left; subst x)
    | (extract_lets +onlyGivenNames x; refine .cut (x := x.2.2) ?_ ?_; rotate_left; clear_value x; intro _; rotate_left; subst x)
    | (extract_lets +onlyGivenNames x; clear_value x)
    | extract_lets +onlyGivenNames _
    | with_reducible apply Within.refl
    | with_reducible assumption
    | decide
    | with_reducible apply Within.step (Chip.assignSlices_within _)
    | with_reducible apply Within.step (Chip.raiseRigging_within _ _)
    | with_reducible apply Within.step (Chip.showConverter_within _)
    | with_reducible apply Within.step (Chip.sliceReadyBit_within _ _ _)
    | with_reducible apply Within.wr
    | (with_reducible apply Within.onlyIf; rotate_left; intro _ _)
    | split
    | with_reducible apply Within.set_converter

theorem Chip.slicesServe_within (s : Chip) :
    Within 0x10000000000000000000000000000000000000000000000000000000000000000000000000 0x4000 s (Chip.slicesServe s) := by
  unfold Chip.slicesServe
  repeat' first
    | (extract_lets +onlyGivenNames x; refine .cut (x := x) ?_ ?_; rotate_left; clear_value x; intro _; rotate_left; subst x)
    | (extract_lets +onlyGivenNames x; refine .cut (x := x.2) ?_ ?_; rotate_left; clear_value x; intro _; rotate_left; subst x)
    | (extract_lets +onlyGivenNames x; refine .cut (x := x.2.2) ?_ ?_; rotate_left; clear_value x; intro _; rotate_left; subst x)
    | (extract_lets +onlyGivenNames x; clear_value x)
    | extract_lets +onlyGivenNames _
    | with_reducible apply Within.refl
    | with_reducible assumption
    | decide
    | with_reducible apply Within.step (Chip.assignSlices_within _)
    | split
    | with_reducible apply Within.set_converter

theorem Chip.calibrationComplete_within (s : Chip) (k : Nat) (offset : Int) (gain : Int) (ok : Bool) :
    Within 0x23ff003e000000000000000000000000000000000000000000000000000000000100000000000000 0x4820 s (Chip.calibrationComplete s k offset gain ok) := by
  unfold Chip.calibrationComplete
  repeat' first
    | (extract_lets +onlyGivenNames x; refine .cut (x := x) ?_ ?_; rotate_left; clear_value x; intro _; rotate_left; subst x)
    | (extract_lets +onlyGivenNames x; refine .cut (x := x.2) ?_ ?_; rotate_left; clear_value x; intro _; rotate_left; subst x)
    | (extract_lets +onlyGivenNames x; refine .cut (x := x.2.2) ?_ ?_; rotate_left; clear_value x; intro _; rotate_left; subst x)
    | (extract_lets +onlyGivenNames x; clear_value x)
    | extract_lets +onlyGivenNames _
    | with_reducible apply Within.refl
    | with_reducible assumption
    | decide
    | with_reducible apply Within.step (Chip.raiseRigging_within _ _)
    | with_reducible apply Within.step (Chip.retireSlice_within _ _)
    | with_reducible apply Within.step (Chip.setSlice_within _ _ _)
    | with_reducible apply Within.step (Chip.sliceReadyBit_within _ _ _)
    | with_reducible apply Within.wr
    | (with_reducible apply Within.onlyIf; rotate_left; intro _ _)
    | split
    | with_reducible apply Within.set_converter

theorem Chip.sliceRotation_within (s : Chip) :
    Within 0 0x4000 s (Chip.sliceRotation s) := by
  unfold Chip.sliceRotation
  repeat' first
    | (extract_lets +onlyGivenNames x; refine .cut (x := x) ?_ ?_; rotate_left; clear_value x; intro _; rotate_left; subst x)
    | (extract_lets +onlyGivenNames x; refine .cut (x := x.2) ?_ ?_; rotate_left; clear_value x; intro _; rotate_left; subst x)
    | (extract_lets +onlyGivenNames x; refine .cut (x := x.2.2) ?_ ?_; rotate_left; clear_value x; intro _; rotate_left; subst x)
    | (extract_lets +onlyGivenNames x; clear_value x)
    | extract_lets +onlyGivenNames _
    | with_reducible apply Within.refl
    | with_reducible assumption
    | decide
    | split
    | with_reducible apply Within.set_converter

theorem Chip.sourceChange_within (s : Chip) :
    Within 0x23ff0014000000000000000000000000000000000000000000000000000000000000000000000000 0x4000 s (Chip.sourceChange s) := by
  unfold Chip.sourceChange
  repeat' first
    | (extract_lets +onlyGivenNames x; refine .cut (x := x) ?_ ?_; rotate_left; clear_value x; intro _; rotate_left; subst x)
    | (extract_lets +onlyGivenNames x; refine .cut (x := x.2) ?_ ?_; rotate_left; clear_value x; intro _; rotate_left; subst x)
    | (extract_lets +onlyGivenNames x; refine .cut (x := x.2.2) ?_ ?_; rotate_left; clear_value x; intro _; rotate_left; subst x)
    | (extract_lets +onlyGivenNames x; clear_value x)
    | extract_lets +onlyGivenNames _
    | with_reducible apply Within.refl
    | with_reducible assumption
    | decide
    | with_reducible apply Within.step (Chip.serve_within _ _ _)
    | with_reducible apply Within.step (Chip.showConverter_within _)
    | with_reducible apply Within.wr
    | split
    | with_reducible apply Within.set_converter

theorem Chip.convertersApplied_within (s : Chip) :
    Within 0x23ff0014000000000000000000000000000000000000000000000000000000000100000000000000 0x4020 s (Chip.convertersApplied s) := by
  unfold Chip.convertersApplied
  repeat' first
    | (extract_lets +onlyGivenNames x; refine .cut (x := x) ?_ ?_; rotate_left; clear_value x; intro _; rotate_left; subst x)
    | (extract_lets +onlyGivenNames x; refine .cut (x := x.2) ?_ ?_; rotate_left; clear_value x; intro _; rotate_left; subst x)
    | (extract_lets +onlyGivenNames x; refine .cut (x := x.2.2) ?_ ?_; rotate_left; clear_value x; intro _; rotate_left; subst x)
    | (extract_lets +onlyGivenNames x; clear_value x)
    | extract_lets +onlyGivenNames _
    | with_reducible apply Within.refl
    | with_reducible assumption
    | decide
    | with_reducible apply Within.step (Chip.serve_within _ _ _)
    | with_reducible apply Within.step (Chip.showConverter_within _)
    | with_reducible apply Within.step (Chip.sliceReadyBit_within _ _ _)
    | with_reducible apply Within.wr
    | (with_reducible apply Within.each; rotate_left; intro _ _ _)
    | split
    | with_reducible apply Within.set_converter

theorem Chip.setComparator_within (s : Chip) (n : Nat) (outside : Bool) (above : Bool) (unresolved : Bool) :
    Within 0x200000000000000023ff0000000000000000000000000000000000000040000000000000000000000000000000000000 0x1c800 s (Chip.setComparator s n outside above unresolved) := by
  unfold Chip.setComparator
  extract_lets +onlyGivenNames c o a t
  have ka : Within 0x200000000000000023ff0000000000000000000000000000000000000040000000000000000000000000000000000000 0x1c800 s a := .step (Chip.showConverter_within _) (.set_converter .refl (by decide)) (by decide) (by decide)
  split
  · exact .step (Chip.tripFollow_within _ _) ka (by decide) (by decide)
  · exact ka

theorem Chip.passOutside_within (s : Chip) (n : Nat) (v : Int) :
    Within 0x200000000000000023ff0000000000000000000000000000000000000040000000000000000000000000000000000000 0x1c800 s (Chip.passOutside s n v) := by
  unfold Chip.passOutside
  repeat' first
    | (extract_lets +onlyGivenNames x; refine .cut (x := x) ?_ ?_; rotate_left; clear_value x; intro _; rotate_left; subst x)
    | (extract_lets +onlyGivenNames x; refine .cut (x := x.2) ?_ ?_; rotate_left; clear_value x; intro _; rotate_left; subst x)
    | (extract_lets +onlyGivenNames x; refine .cut (x := x.2.2) ?_ ?_; rotate_left; clear_value x; intro _; rotate_left; subst x)
    | (extract_lets +onlyGivenNames x; clear_value x)
    | extract_lets +onlyGivenNames _
    | with_reducible apply Within.refl
    | with_reducible assumption
    | decide
    | with_reducible apply Within.step (Chip.raiseRigging_within _ _)
    | with_reducible apply Within.step (Chip.setComparator_within _ _ _ _ _)
    | with_reducible apply Within.step (Chip.trigger_within _ _)
    | (with_reducible apply Within.onlyIf; rotate_left; intro _ _)
    | split

theorem Chip.comparatorOutside_within (s : Chip) (n : Nat) (v : Int) :
    Within 0x200000000000000023ff0000000000000000000000000000000000000040000000000000000000000000000000000000 0x1c800 s (Chip.comparatorOutside s n v) := by
  unfold Chip.comparatorOutside
  repeat' first
    | (extract_lets +onlyGivenNames x; refine .cut (x := x) ?_ ?_; rotate_left; clear_value x; intro _; rotate_left; subst x)
    | (extract_lets +onlyGivenNames x; refine .cut (x := x.2) ?_ ?_; rotate_left; clear_value x; intro _; rotate_left; subst x)
    | (extract_lets +onlyGivenNames x; refine .cut (x := x.2.2) ?_ ?_; rotate_left; clear_value x; intro _; rotate_left; subst x)
    | (extract_lets +onlyGivenNames x; clear_value x)
    | extract_lets +onlyGivenNames _
    | with_reducible apply Within.refl
    | with_reducible assumption
    | decide
    | with_reducible apply Within.step (Chip.passOutside_within _ _ _)
    | with_reducible apply Within.step (Chip.setComparator_within _ _ _ _ _)
    | split

theorem Chip.comparatorInside_within (s : Chip) (n : Nat) (v : Int) :
    Within 0x200000000000000023ff0000000000000000000000000000000000000040000000000000000000000000000000000000 0x1c800 s (Chip.comparatorInside s n v) := by
  unfold Chip.comparatorInside
  repeat' first
    | (extract_lets +onlyGivenNames x; refine .cut (x := x) ?_ ?_; rotate_left; clear_value x; intro _; rotate_left; subst x)
    | (extract_lets +onlyGivenNames x; refine .cut (x := x.2) ?_ ?_; rotate_left; clear_value x; intro _; rotate_left; subst x)
    | (extract_lets +onlyGivenNames x; refine .cut (x := x.2.2) ?_ ?_; rotate_left; clear_value x; intro _; rotate_left; subst x)
    | (extract_lets +onlyGivenNames x; clear_value x)
    | extract_lets +onlyGivenNames _
    | with_reducible apply Within.refl
    | with_reducible assumption
    | decide
    | with_reducible apply Within.step (Chip.setComparator_within _ _ _ _ _)
    | split

theorem Chip.comparatorResolved_within (s : Chip) (n : Nat) (v : Int) :
    Within 0x200000000000000023ff0000000000000000000000000000000000000040000000000000000000000000000000000000 0x1c800 s (Chip.comparatorResolved s n v) := by
  unfold Chip.comparatorResolved
  repeat' first
    | (extract_lets +onlyGivenNames x; refine .cut (x := x) ?_ ?_; rotate_left; clear_value x; intro _; rotate_left; subst x)
    | (extract_lets +onlyGivenNames x; refine .cut (x := x.2) ?_ ?_; rotate_left; clear_value x; intro _; rotate_left; subst x)
    | (extract_lets +onlyGivenNames x; refine .cut (x := x.2.2) ?_ ?_; rotate_left; clear_value x; intro _; rotate_left; subst x)
    | (extract_lets +onlyGivenNames x; clear_value x)
    | extract_lets +onlyGivenNames _
    | with_reducible apply Within.refl
    | with_reducible assumption
    | decide
    | with_reducible apply Within.step (Chip.passOutside_within _ _ _)
    | with_reducible apply Within.step (Chip.setComparator_within _ _ _ _ _)
    | split

theorem Chip.degradeComparator_within (s : Chip) (n : Nat) :
    Within 0x200000000000000023ff0000000000000000000000000000000000000040000000000000000000000000000000000000 0x1c800 s (Chip.degradeComparator s n) := by
  unfold Chip.degradeComparator
  repeat' first
    | (extract_lets +onlyGivenNames x; refine .cut (x := x) ?_ ?_; rotate_left; clear_value x; intro _; rotate_left; subst x)
    | (extract_lets +onlyGivenNames x; refine .cut (x := x.2) ?_ ?_; rotate_left; clear_value x; intro _; rotate_left; subst x)
    | (extract_lets +onlyGivenNames x; refine .cut (x := x.2.2) ?_ ?_; rotate_left; clear_value x; intro _; rotate_left; subst x)
    | (extract_lets +onlyGivenNames x; clear_value x)
    | extract_lets +onlyGivenNames _
    | with_reducible apply Within.refl
    | with_reducible assumption
    | decide
    | with_reducible apply Within.step (Chip.setComparator_within _ _ _ _ _)
    | split
    | with_reducible apply Within.set_converter

theorem Chip.comparatorApplied_within (s : Chip) (n : Nat) (changed : Bool) (v : Int) :
    Within 0x200000000000000023ff0000000000000000000000000000000000000040000000000000000000000000000000000000 0x1c800 s (Chip.comparatorApplied s n changed v) := by
  unfold Chip.comparatorApplied
  repeat' first
    | (extract_lets +onlyGivenNames x; refine .cut (x := x) ?_ ?_; rotate_left; clear_value x; intro _; rotate_left; subst x)
    | (extract_lets +onlyGivenNames x; refine .cut (x := x.2) ?_ ?_; rotate_left; clear_value x; intro _; rotate_left; subst x)
    | (extract_lets +onlyGivenNames x; refine .cut (x := x.2.2) ?_ ?_; rotate_left; clear_value x; intro _; rotate_left; subst x)
    | (extract_lets +onlyGivenNames x; clear_value x)
    | extract_lets +onlyGivenNames _
    | with_reducible apply Within.refl
    | with_reducible assumption
    | decide
    | with_reducible apply Within.step (Chip.passOutside_within _ _ _)
    | with_reducible apply Within.step (Chip.setComparator_within _ _ _ _ _)
    | split

theorem Chip.readThreshold_within (s : Chip) (code : Nat) (b : List Bool) :
    Within 0xf800000000000000000000000000000000000000000000000000000000000000000000000000 0x4000 s (Chip.readThreshold s code b).2 := by
  unfold Chip.readThreshold
  repeat' first
    | (extract_lets +onlyGivenNames x; refine .cut (x := x) ?_ ?_; rotate_left; clear_value x; intro _; rotate_left; subst x)
    | (extract_lets +onlyGivenNames x; refine .cut (x := x.2) ?_ ?_; rotate_left; clear_value x; intro _; rotate_left; subst x)
    | (extract_lets +onlyGivenNames x; refine .cut (x := x.2.2) ?_ ?_; rotate_left; clear_value x; intro _; rotate_left; subst x)
    | (extract_lets +onlyGivenNames x; clear_value x)
    | extract_lets +onlyGivenNames _
    | with_reducible apply Within.refl
    | with_reducible assumption
    | decide
    | with_reducible apply Within.step (Chip.mirrorEntry_within _ _)
    | with_reducible apply Within.step (Chip.setAdcEntry_within _ _ _)
    | (with_reducible apply Within.onlyIf; rotate_left; intro _ _)
    | split

theorem Chip.readBackFailed_within (s : Chip) (n : Nat) :
    Within 0x23ff0000000000000000000000000000000000000000000000000000000000000000000000000000 0x4800 s (Chip.readBackFailed s n) := by
  unfold Chip.readBackFailed
  repeat' first
    | (extract_lets +onlyGivenNames x; refine .cut (x := x) ?_ ?_; rotate_left; clear_value x; intro _; rotate_left; subst x)
    | (extract_lets +onlyGivenNames x; refine .cut (x := x.2) ?_ ?_; rotate_left; clear_value x; intro _; rotate_left; subst x)
    | (extract_lets +onlyGivenNames x; refine .cut (x := x.2.2) ?_ ?_; rotate_left; clear_value x; intro _; rotate_left; subst x)
    | (extract_lets +onlyGivenNames x; clear_value x)
    | extract_lets +onlyGivenNames _
    | with_reducible apply Within.refl
    | with_reducible assumption
    | decide
    | with_reducible apply Within.step (Chip.raiseRigging_within _ _)
    | with_reducible apply Within.step (Chip.showConverter_within _)
    | split
    | with_reducible apply Within.set_converter

theorem Chip.readBack_within (s : Chip) (n : Nat) (lo : List Bool) (hi : List Bool) :
    Within 0x23fff800000000000000000000000000000000000000000000000000000000000000000000000000 0x4800 s (Chip.readBack s n lo hi) := by
  unfold Chip.readBack
  repeat' first
    | (extract_lets +onlyGivenNames x; refine .cut (x := x) ?_ ?_; rotate_left; clear_value x; intro _; rotate_left; subst x)
    | (extract_lets +onlyGivenNames x; refine .cut (x := x.2) ?_ ?_; rotate_left; clear_value x; intro _; rotate_left; subst x)
    | (extract_lets +onlyGivenNames x; refine .cut (x := x.2.2) ?_ ?_; rotate_left; clear_value x; intro _; rotate_left; subst x)
    | (extract_lets +onlyGivenNames x; clear_value x)
    | extract_lets +onlyGivenNames _
    | with_reducible apply Within.refl
    | with_reducible assumption
    | decide
    | with_reducible apply Within.step (Chip.readBackFailed_within _ _)
    | with_reducible apply Within.step (Chip.readThreshold_within _ _ _)
    | (with_reducible apply Within.onlyIf; rotate_left; intro _ _)
    | split

theorem Chip.thresholdReadback_within (s : Chip) (conversions : List (List Bool × List Bool)) :
    Within 0x23fff800000000000000000000000000000000000000000000000000000000000000000000000000 0x4800 s (Chip.thresholdReadback s conversions) := by
  unfold Chip.thresholdReadback
  repeat' first
    | (extract_lets +onlyGivenNames x; refine .cut (x := x) ?_ ?_; rotate_left; clear_value x; intro _; rotate_left; subst x)
    | (extract_lets +onlyGivenNames x; refine .cut (x := x.2) ?_ ?_; rotate_left; clear_value x; intro _; rotate_left; subst x)
    | (extract_lets +onlyGivenNames x; refine .cut (x := x.2.2) ?_ ?_; rotate_left; clear_value x; intro _; rotate_left; subst x)
    | (extract_lets +onlyGivenNames x; clear_value x)
    | extract_lets +onlyGivenNames _
    | with_reducible apply Within.refl
    | with_reducible assumption
    | decide
    | with_reducible apply Within.step (Chip.readBack_within _ _ _ _)
    | (with_reducible apply Within.each; rotate_left; intro _ _ _)
    | split
    | with_reducible apply Within.set_converter

end Sys2Proof.Machine
end

