-- ==== Sys2Proof/Laws/FrameFaults.lean ====
section
/-! SUPPORT. The frames of the operations of Machine/Faults.lean: the fields and the parts of the state each may change. -/

set_option linter.tactic.unusedName false

namespace Sys2Proof.Machine

theorem Chip.setSticky_within (s : Chip) (src : Nat) :
    Within 0x400000000000000000000000000000000000000000000000000000000000000000000000000000000000000000000000000 0 s (Chip.setSticky s src) := by
  unfold Chip.setSticky
  repeat' first
    | (extract_lets +onlyGivenNames x; refine .cut (x := x) ?_ ?_; rotate_left; clear_value x; intro _; rotate_left; subst x)
    | (extract_lets +onlyGivenNames x; refine .cut (x := x.2) ?_ ?_; rotate_left; clear_value x; intro _; rotate_left; subst x)
    | (extract_lets +onlyGivenNames x; refine .cut (x := x.2.2) ?_ ?_; rotate_left; clear_value x; intro _; rotate_left; subst x)
    | (extract_lets +onlyGivenNames x; clear_value x)
    | extract_lets +onlyGivenNames _
    | with_reducible apply Within.refl
    | with_reducible assumption
    | decide
    | with_reducible apply Within.wrBit
    | split

theorem Chip.setEscalation_within (s : Chip) (src : Nat) :
    Within 0x800000000000000000000000000000000000000000000000000000000000000000000000000000000000000000000000000 0 s (Chip.setEscalation s src) := by
  unfold Chip.setEscalation
  repeat' first
    | (extract_lets +onlyGivenNames x; refine .cut (x := x) ?_ ?_; rotate_left; clear_value x; intro _; rotate_left; subst x)
    | (extract_lets +onlyGivenNames x; refine .cut (x := x.2) ?_ ?_; rotate_left; clear_value x; intro _; rotate_left; subst x)
    | (extract_lets +onlyGivenNames x; refine .cut (x := x.2.2) ?_ ?_; rotate_left; clear_value x; intro _; rotate_left; subst x)
    | (extract_lets +onlyGivenNames x; clear_value x)
    | extract_lets +onlyGivenNames _
    | with_reducible apply Within.refl
    | with_reducible assumption
    | decide
    | with_reducible apply Within.wrBit
    | split

theorem Chip.logFault_within (s : Chip) (src : Nat) (merged : Bool) :
    Within 0 0x800 s (Chip.logFault s src merged) := by
  unfold Chip.logFault
  repeat' first
    | (extract_lets +onlyGivenNames x; refine .cut (x := x) ?_ ?_; rotate_left; clear_value x; intro _; rotate_left; subst x)
    | (extract_lets +onlyGivenNames x; refine .cut (x := x.2) ?_ ?_; rotate_left; clear_value x; intro _; rotate_left; subst x)
    | (extract_lets +onlyGivenNames x; refine .cut (x := x.2.2) ?_ ?_; rotate_left; clear_value x; intro _; rotate_left; subst x)
    | (extract_lets +onlyGivenNames x; clear_value x)
    | extract_lets +onlyGivenNames _
    | with_reducible apply Within.refl
    | with_reducible assumption
    | decide
    | split
    | with_reducible apply Within.set_faults

theorem Chip.closeSource_within (s : Chip) (src : Nat) :
    Within 0x18000000000000000000000000000000000000000000000000000000000000000000000000000000000000000000000000000 0x800 s (Chip.closeSource s src) := by
  unfold Chip.closeSource
  repeat' first
    | (extract_lets +onlyGivenNames x; refine .cut (x := x) ?_ ?_; rotate_left; clear_value x; intro _; rotate_left; subst x)
    | (extract_lets +onlyGivenNames x; refine .cut (x := x.2) ?_ ?_; rotate_left; clear_value x; intro _; rotate_left; subst x)
    | (extract_lets +onlyGivenNames x; refine .cut (x := x.2.2) ?_ ?_; rotate_left; clear_value x; intro _; rotate_left; subst x)
    | (extract_lets +onlyGivenNames x; clear_value x)
    | extract_lets +onlyGivenNames _
    | with_reducible apply Within.refl
    | with_reducible assumption
    | decide
    | with_reducible apply Within.wr
    | split
    | with_reducible apply Within.set_faults

theorem Chip.countEvent_within (s : Chip) (src : Nat) :
    Within 0x38400000000000000000000000000000000000000000000000000000000000000000000000000000000000000000000000000 0x800 s (Chip.countEvent s src).2 := by
  unfold Chip.countEvent
  repeat' first
    | (extract_lets +onlyGivenNames x; refine .cut (x := x) ?_ ?_; rotate_left; clear_value x; intro _; rotate_left; subst x)
    | (extract_lets +onlyGivenNames x; refine .cut (x := x.2) ?_ ?_; rotate_left; clear_value x; intro _; rotate_left; subst x)
    | (extract_lets +onlyGivenNames x; refine .cut (x := x.2.2) ?_ ?_; rotate_left; clear_value x; intro _; rotate_left; subst x)
    | (extract_lets +onlyGivenNames x; clear_value x)
    | extract_lets +onlyGivenNames _
    | with_reducible apply Within.refl
    | with_reducible assumption
    | decide
    | with_reducible apply Within.step (Chip.closeSource_within _ _)
    | with_reducible apply Within.step (Chip.logFault_within _ _ _)
    | with_reducible apply Within.step (Chip.setSticky_within _ _)
    | with_reducible apply Within.count
    | with_reducible apply Within.wr
    | split
    | with_reducible apply Within.set_faults

theorem Chip.degradeOrigin_within (s : Chip) (o : Nat) :
    Within 0x2000000000000000000300000000000000000004000000000000000200000000000000023ff0000000000000000000000000000000000000040000000000000000000000000000000000000 0x3ea00 s (Chip.degradeOrigin s o) := by
  unfold Chip.degradeOrigin
  repeat' first
    | (extract_lets +onlyGivenNames x; refine .cut (x := x) ?_ ?_; rotate_left; clear_value x; intro _; rotate_left; subst x)
    | (extract_lets +onlyGivenNames x; refine .cut (x := x.2) ?_ ?_; rotate_left; clear_value x; intro _; rotate_left; subst x)
    | (extract_lets +onlyGivenNames x; refine .cut (x := x.2.2) ?_ ?_; rotate_left; clear_value x; intro _; rotate_left; subst x)
    | (extract_lets +onlyGivenNames x; clear_value x)
    | extract_lets +onlyGivenNames _
    | with_reducible apply Within.refl
    | with_reducible assumption
    | decide
    | with_reducible apply Within.step (Chip.degradeComparator_within _ _)
    | with_reducible apply Within.step (Chip.degradeHalyard_within _)
    | with_reducible apply Within.step (Chip.forceReef_within _)
    | with_reducible apply Within.step (Chip.setCell_within _ _ _)
    | with_reducible apply Within.wr
    | (with_reducible apply Within.each; rotate_left; intro _ _ _)
    | split

theorem Chip.recordEscalation_within (s : Chip) (src : Nat) (c : FaultClass) :
    Within 0 0x10000 s (Chip.recordEscalation s src c) := by
  unfold Chip.recordEscalation
  repeat' first
    | (extract_lets +onlyGivenNames x; refine .cut (x := x) ?_ ?_; rotate_left; clear_value x; intro _; rotate_left; subst x)
    | (extract_lets +onlyGivenNames x; refine .cut (x := x.2) ?_ ?_; rotate_left; clear_value x; intro _; rotate_left; subst x)
    | (extract_lets +onlyGivenNames x; refine .cut (x := x.2.2) ?_ ?_; rotate_left; clear_value x; intro _; rotate_left; subst x)
    | (extract_lets +onlyGivenNames x; clear_value x)
    | extract_lets +onlyGivenNames _
    | with_reducible apply Within.refl
    | with_reducible assumption
    | decide
    | with_reducible apply Within.step (Chip.trigger_within _ _)
    | split

theorem Chip.escalate_within (s : Chip) (src : Nat) :
    Within 0x2c00000000002000000000000000000300000000000000000004000c7c00000089f20008000000000002bff0000000000000000000800004000000000000042000000020000000000000000030078000000 0x83fba0 s (Chip.escalate s src) := by
  unfold Chip.escalate
  repeat' first
    | (extract_lets +onlyGivenNames x; refine .cut (x := x) ?_ ?_; rotate_left; clear_value x; intro _; rotate_left; subst x)
    | (extract_lets +onlyGivenNames x; refine .cut (x := x.2) ?_ ?_; rotate_left; clear_value x; intro _; rotate_left; subst x)
    | (extract_lets +onlyGivenNames x; refine .cut (x := x.2.2) ?_ ?_; rotate_left; clear_value x; intro _; rotate_left; subst x)
    | (extract_lets +onlyGivenNames x; clear_value x)
    | extract_lets +onlyGivenNames _
    | with_reducible apply Within.refl
    | with_reducible assumption
    | decide
    | with_reducible apply Within.step (Chip.degradeOrigin_within _ _)
    | with_reducible apply Within.step (Chip.logFault_within _ _ _)
    | with_reducible apply Within.step (Chip.recordEscalation_within _ _ _)
    | with_reducible apply Within.step (Chip.setEscalation_within _ _)
    | with_reducible apply Within.step (Chip.severeReaction_within _)
    | with_reducible apply Within.count
    | with_reducible apply Within.wr
    | (with_reducible apply Within.each; rotate_left; intro _ _ _)
    | split

theorem Chip.mergeEscalation_within (s : Chip) (src : Nat) :
    Within 0x40000000000000000000000000000000000000000000000000000000000000000000000000000000000000000000000000 0x800 s (Chip.mergeEscalation s src) := by
  unfold Chip.mergeEscalation
  repeat' first
    | (extract_lets +onlyGivenNames x; refine .cut (x := x) ?_ ?_; rotate_left; clear_value x; intro _; rotate_left; subst x)
    | (extract_lets +onlyGivenNames x; refine .cut (x := x.2) ?_ ?_; rotate_left; clear_value x; intro _; rotate_left; subst x)
    | (extract_lets +onlyGivenNames x; refine .cut (x := x.2.2) ?_ ?_; rotate_left; clear_value x; intro _; rotate_left; subst x)
    | (extract_lets +onlyGivenNames x; clear_value x)
    | extract_lets +onlyGivenNames _
    | with_reducible apply Within.refl
    | with_reducible assumption
    | decide
    | with_reducible apply Within.step (Chip.logFault_within _ _ _)
    | with_reducible apply Within.count
    | split

theorem Chip.takeEvent_within (s : Chip) (o : Nat) :
    Within 0 0x800 s (Chip.takeEvent s o) := by
  unfold Chip.takeEvent
  repeat' first
    | (extract_lets +onlyGivenNames x; refine .cut (x := x) ?_ ?_; rotate_left; clear_value x; intro _; rotate_left; subst x)
    | (extract_lets +onlyGivenNames x; refine .cut (x := x.2) ?_ ?_; rotate_left; clear_value x; intro _; rotate_left; subst x)
    | (extract_lets +onlyGivenNames x; refine .cut (x := x.2.2) ?_ ?_; rotate_left; clear_value x; intro _; rotate_left; subst x)
    | (extract_lets +onlyGivenNames x; clear_value x)
    | extract_lets +onlyGivenNames _
    | with_reducible apply Within.refl
    | with_reducible assumption
    | decide
    | split
    | with_reducible apply Within.set_faults

theorem Chip.creditEvents_within (s : Chip) (z1 : List Nat) :
    Within 0x38400000000000000000000000000000000000000000000000000000000000000000000000000000000000000000000000000 0x800 s (Chip.creditEvents s z1).2 := by
  induction z1 generalizing s with
  | nil => exact .refl
  | cons _ _ ih =>
    unfold Chip.creditEvents
    repeat' first
      | (extract_lets +onlyGivenNames x; refine .cut (x := x) ?_ ?_; rotate_left; clear_value x; intro _; rotate_left; subst x)
      | (extract_lets +onlyGivenNames x; refine .cut (x := x.2) ?_ ?_; rotate_left; clear_value x; intro _; rotate_left; subst x)
      | (extract_lets +onlyGivenNames x; refine .cut (x := x.2.2) ?_ ?_; rotate_left; clear_value x; intro _; rotate_left; subst x)
      | (extract_lets +onlyGivenNames x; clear_value x)
      | extract_lets +onlyGivenNames _
      | with_reducible apply Within.step (ih _)
      | with_reducible apply Within.refl
      | with_reducible assumption
      | decide
      | with_reducible apply Within.step (Chip.countEvent_within _ _)
      | with_reducible apply Within.step (Chip.takeEvent_within _ _)
      | split

theorem Chip.faultEvents_within (s : Chip) (origins : List Nat) :
    Within 0x2c00000000002000000000000000000300000000000000000004000c7c000038cdf20008000000000002bff0000000000000000000800004000000000000042000000020000000000000000030078000000 0x83fba0 s (Chip.faultEvents s origins) := by
  unfold Chip.faultEvents
  repeat' first
    | (extract_lets +onlyGivenNames x; refine .cut (x := x) ?_ ?_; rotate_left; clear_value x; intro _; rotate_left; subst x)
    | (extract_lets +onlyGivenNames x; refine .cut (x := x.2) ?_ ?_; rotate_left; clear_value x; intro _; rotate_left; subst x)
    | (extract_lets +onlyGivenNames x; refine .cut (x := x.2.2) ?_ ?_; rotate_left; clear_value x; intro _; rotate_left; subst x)
    | (extract_lets +onlyGivenNames x; clear_value x)
    | extract_lets +onlyGivenNames _
    | with_reducible apply Within.refl
    | with_reducible assumption
    | decide
    | with_reducible apply Within.step (Chip.creditEvents_within _ _)
    | with_reducible apply Within.step (Chip.escalate_within _ _)
    | with_reducible apply Within.step (Chip.mergeEscalation_within _ _)
    | (with_reducible apply Within.each; rotate_left; intro _ _ _)
    | split

theorem Chip.windowExpiry_within (s : Chip) (src : Nat) :
    Within 0x18000000000000000000000000000000000000000000000000000000000000000000000000000000000000000000000000000 0x800 s (Chip.windowExpiry s src) := by
  unfold Chip.windowExpiry
  repeat' first
    | (extract_lets +onlyGivenNames x; refine .cut (x := x) ?_ ?_; rotate_left; clear_value x; intro _; rotate_left; subst x)
    | (extract_lets +onlyGivenNames x; refine .cut (x := x.2) ?_ ?_; rotate_left; clear_value x; intro _; rotate_left; subst x)
    | (extract_lets +onlyGivenNames x; refine .cut (x := x.2.2) ?_ ?_; rotate_left; clear_value x; intro _; rotate_left; subst x)
    | (extract_lets +onlyGivenNames x; clear_value x)
    | extract_lets +onlyGivenNames _
    | with_reducible apply Within.refl
    | with_reducible assumption
    | decide
    | with_reducible apply Within.step (Chip.closeSource_within _ _)
    | split

theorem Chip.captureLockoutBits_within (s : Chip) :
    Within 0 0x20 s (Chip.captureLockoutBits s) := by
  unfold Chip.captureLockoutBits
  repeat' first
    | (extract_lets +onlyGivenNames x; refine .cut (x := x) ?_ ?_; rotate_left; clear_value x; intro _; rotate_left; subst x)
    | (extract_lets +onlyGivenNames x; refine .cut (x := x.2) ?_ ?_; rotate_left; clear_value x; intro _; rotate_left; subst x)
    | (extract_lets +onlyGivenNames x; refine .cut (x := x.2.2) ?_ ?_; rotate_left; clear_value x; intro _; rotate_left; subst x)
    | (extract_lets +onlyGivenNames x; clear_value x)
    | extract_lets +onlyGivenNames _
    | with_reducible apply Within.refl
    | with_reducible assumption
    | decide
    | split
    | with_reducible apply Within.set_modes

theorem Chip.aliveToggle_within (s : Chip) (b : Bool) :
    Within 0 0x800 s (Chip.aliveToggle s b) := by
  unfold Chip.aliveToggle
  repeat' first
    | (extract_lets +onlyGivenNames x; refine .cut (x := x) ?_ ?_; rotate_left; clear_value x; intro _; rotate_left; subst x)
    | (extract_lets +onlyGivenNames x; refine .cut (x := x.2) ?_ ?_; rotate_left; clear_value x; intro _; rotate_left; subst x)
    | (extract_lets +onlyGivenNames x; refine .cut (x := x.2.2) ?_ ?_; rotate_left; clear_value x; intro _; rotate_left; subst x)
    | (extract_lets +onlyGivenNames x; clear_value x)
    | extract_lets +onlyGivenNames _
    | with_reducible apply Within.refl
    | with_reducible assumption
    | decide
    | split
    | with_reducible apply Within.set_faults

theorem Chip.kick_within (s : Chip) (key : Nat) :
    Within 0x28000000000000000000000000000000000000000000000000000000000000000000000000000000000000000000000000 0x800 s (Chip.kick s key) := by
  unfold Chip.kick
  repeat' first
    | (extract_lets +onlyGivenNames x; refine .cut (x := x) ?_ ?_; rotate_left; clear_value x; intro _; rotate_left; subst x)
    | (extract_lets +onlyGivenNames x; refine .cut (x := x.2) ?_ ?_; rotate_left; clear_value x; intro _; rotate_left; subst x)
    | (extract_lets +onlyGivenNames x; refine .cut (x := x.2.2) ?_ ?_; rotate_left; clear_value x; intro _; rotate_left; subst x)
    | (extract_lets +onlyGivenNames x; clear_value x)
    | extract_lets +onlyGivenNames _
    | with_reducible apply Within.refl
    | with_reducible assumption
    | decide
    | with_reducible apply Within.wr
    | split
    | with_reducible apply Within.set_faults

theorem Chip.kickTimeout_within (s : Chip) :
    Within 0x8000000000000000000000000000000000000000000000000000000000000000000000000000000000000000000000000 0 s (Chip.kickTimeout s) := by
  unfold Chip.kickTimeout
  repeat' first
    | (extract_lets +onlyGivenNames x; refine .cut (x := x) ?_ ?_; rotate_left; clear_value x; intro _; rotate_left; subst x)
    | (extract_lets +onlyGivenNames x; refine .cut (x := x.2) ?_ ?_; rotate_left; clear_value x; intro _; rotate_left; subst x)
    | (extract_lets +onlyGivenNames x; refine .cut (x := x.2.2) ?_ ?_; rotate_left; clear_value x; intro _; rotate_left; subst x)
    | (extract_lets +onlyGivenNames x; clear_value x)
    | extract_lets +onlyGivenNames _
    | with_reducible apply Within.refl
    | with_reducible assumption
    | decide
    | with_reducible apply Within.wr
    | split

end Sys2Proof.Machine
end

