-- ==== Sys2Proof/Laws/FrameSpr.lean ====
section
/-! SUPPORT. The frames of the operations of Machine/Spr.lean: the fields and the parts of the state each may change. -/

set_option linter.tactic.unusedName false

namespace Sys2Proof.Machine

theorem Chip.shroudInputs_within (s : Chip) :
    Within 0x44c000000000000000000000000000000000000000000000000000000000000000000000000000000000000000000000000000000000 0x9080 s (Chip.shroudInputs s) := by
  unfold Chip.shroudInputs
  repeat' first
    | (extract_lets +onlyGivenNames x; refine .cut (x := x) ?_ ?_; rotate_left; clear_value x; intro _; rotate_left; subst x)
    | (extract_lets +onlyGivenNames x; refine .cut (x := x.2) ?_ ?_; rotate_left; clear_value x; intro _; rotate_left; subst x)
    | (extract_lets +onlyGivenNames x; refine .cut (x := x.2.2) ?_ ?_; rotate_left; clear_value x; intro _; rotate_left; subst x)
    | (extract_lets +onlyGivenNames x; clear_value x)
    | extract_lets +onlyGivenNames _
    | with_reducible apply Within.refl
    | with_reducible assumption
    | decide
    | with_reducible apply Within.step (Chip.shroudRefresh_within _)
    | split
    | with_reducible apply Within.set_spr

theorem Chip.episodeOver_within (s : Chip) :
    Within 0 0x1000 s (Chip.episodeOver s) := by
  unfold Chip.episodeOver
  repeat' first
    | (extract_lets +onlyGivenNames x; refine .cut (x := x) ?_ ?_; rotate_left; clear_value x; intro _; rotate_left; subst x)
    | (extract_lets +onlyGivenNames x; refine .cut (x := x.2) ?_ ?_; rotate_left; clear_value x; intro _; rotate_left; subst x)
    | (extract_lets +onlyGivenNames x; refine .cut (x := x.2.2) ?_ ?_; rotate_left; clear_value x; intro _; rotate_left; subst x)
    | (extract_lets +onlyGivenNames x; clear_value x)
    | extract_lets +onlyGivenNames _
    | with_reducible apply Within.refl
    | with_reducible assumption
    | decide
    | split
    | with_reducible apply Within.set_spr

theorem Chip.sprToMast_within (s : Chip) :
    Within 0x2c00000000000000000000000000000000000000000000000000000c7c002380019000080000000000008000000000000000000000800004000000000000002000000020000000000000000030078000000 0x83b9a0 s (Chip.sprToMast s) := by
  unfold Chip.sprToMast
  repeat' first
    | (extract_lets +onlyGivenNames x; refine .cut (x := x) ?_ ?_; rotate_left; clear_value x; intro _; rotate_left; subst x)
    | (extract_lets +onlyGivenNames x; refine .cut (x := x.2) ?_ ?_; rotate_left; clear_value x; intro _; rotate_left; subst x)
    | (extract_lets +onlyGivenNames x; refine .cut (x := x.2.2) ?_ ?_; rotate_left; clear_value x; intro _; rotate_left; subst x)
    | (extract_lets +onlyGivenNames x; clear_value x)
    | extract_lets +onlyGivenNames _
    | with_reducible apply Within.refl
    | with_reducible assumption
    | decide
    | with_reducible apply Within.step (Chip.episodeOver_within _)
    | with_reducible apply Within.step (Chip.sprReaction_within _)
    | with_reducible apply Within.step (Chip.withdrawConsent_within _)
    | with_reducible apply Within.wrFlag
    | with_reducible apply Within.count
    | (with_reducible apply Within.onlyIf; rotate_left; intro _ _)
    | split
    | with_reducible apply Within.set_spr

theorem Chip.sprADemand_within (s : Chip) (ns : Nat) :
    Within 0x2c00000000000000000000000000000000000000000000000000000cfc002380019000080000000000008000000000000000000000800004000000000000002000000020000000000000000030078000000 0x83b9a0 s (Chip.sprADemand s ns) := by
  unfold Chip.sprADemand
  repeat' first
    | (extract_lets +onlyGivenNames x; refine .cut (x := x) ?_ ?_; rotate_left; clear_value x; intro _; rotate_left; subst x)
    | (extract_lets +onlyGivenNames x; refine .cut (x := x.2) ?_ ?_; rotate_left; clear_value x; intro _; rotate_left; subst x)
    | (extract_lets +onlyGivenNames x; refine .cut (x := x.2.2) ?_ ?_; rotate_left; clear_value x; intro _; rotate_left; subst x)
    | (extract_lets +onlyGivenNames x; clear_value x)
    | extract_lets +onlyGivenNames _
    | with_reducible apply Within.refl
    | with_reducible assumption
    | decide
    | with_reducible apply Within.step (Chip.episodeOver_within _)
    | with_reducible apply Within.step (Chip.shroudInputs_within _)
    | with_reducible apply Within.step (Chip.sprToMast_within _)
    | with_reducible apply Within.wr
    | (with_reducible apply Within.onlyIf; rotate_left; intro _ _)
    | split

theorem Chip.sprBDemand_within (s : Chip) (ns : Nat) :
    Within 0x2c00000000000000000000000000000000000000000000000000000d7c002380019000080000000000008000000000000000000000800004000000000000002000000020000000000000000030078000000 0x83b9a0 s (Chip.sprBDemand s ns) := by
  unfold Chip.sprBDemand
  repeat' first
    | (extract_lets +onlyGivenNames x; refine .cut (x := x) ?_ ?_; rotate_left; clear_value x; intro _; rotate_left; subst x)
    | (extract_lets +onlyGivenNames x; refine .cut (x := x.2) ?_ ?_; rotate_left; clear_value x; intro _; rotate_left; subst x)
    | (extract_lets +onlyGivenNames x; refine .cut (x := x.2.2) ?_ ?_; rotate_left; clear_value x; intro _; rotate_left; subst x)
    | (extract_lets +onlyGivenNames x; clear_value x)
    | extract_lets +onlyGivenNames _
    | with_reducible apply Within.refl
    | with_reducible assumption
    | decide
    | with_reducible apply Within.step (Chip.episodeOver_within _)
    | with_reducible apply Within.step (Chip.shroudInputs_within _)
    | with_reducible apply Within.step (Chip.shroudLatch_within _ _)
    | with_reducible apply Within.step (Chip.sprToMast_within _)
    | with_reducible apply Within.wr
    | (with_reducible apply Within.onlyIf; rotate_left; intro _ _)
    | split

theorem Chip.sprRelease_within (s : Chip) (b : Bool) (ns : Nat) :
    Within 0x2c00000000000000000000000000000000000000000000000000000dfc002380019000080000000000008000000000000000000000800004000000000000002000000020000000000000000030078000000 0x83b9a0 s (Chip.sprRelease s b ns) := by
  unfold Chip.sprRelease
  repeat' first
    | (extract_lets +onlyGivenNames x; refine .cut (x := x) ?_ ?_; rotate_left; clear_value x; intro _; rotate_left; subst x)
    | (extract_lets +onlyGivenNames x; refine .cut (x := x.2) ?_ ?_; rotate_left; clear_value x; intro _; rotate_left; subst x)
    | (extract_lets +onlyGivenNames x; refine .cut (x := x.2.2) ?_ ?_; rotate_left; clear_value x; intro _; rotate_left; subst x)
    | (extract_lets +onlyGivenNames x; clear_value x)
    | extract_lets +onlyGivenNames _
    | with_reducible apply Within.refl
    | with_reducible assumption
    | decide
    | with_reducible apply Within.step (Chip.episodeOver_within _)
    | with_reducible apply Within.step (Chip.shroudInputs_within _)
    | with_reducible apply Within.step (Chip.sprToMast_within _)
    | with_reducible apply Within.wr
    | (with_reducible apply Within.onlyIf; rotate_left; intro _ _)
    | split

theorem Chip.discrepancyTimeout_within (s : Chip) :
    Within 0x44c004400000000000000000000000000000000000000000000000000000000000000000000000000000000000000000000000000000 0x9880 s (Chip.discrepancyTimeout s) := by
  unfold Chip.discrepancyTimeout
  repeat' first
    | (extract_lets +onlyGivenNames x; refine .cut (x := x) ?_ ?_; rotate_left; clear_value x; intro _; rotate_left; subst x)
    | (extract_lets +onlyGivenNames x; refine .cut (x := x.2) ?_ ?_; rotate_left; clear_value x; intro _; rotate_left; subst x)
    | (extract_lets +onlyGivenNames x; refine .cut (x := x.2.2) ?_ ?_; rotate_left; clear_value x; intro _; rotate_left; subst x)
    | (extract_lets +onlyGivenNames x; clear_value x)
    | extract_lets +onlyGivenNames _
    | with_reducible apply Within.refl
    | with_reducible assumption
    | decide
    | with_reducible apply Within.step (Chip.raise_within _ _)
    | with_reducible apply Within.step (Chip.raiseRigging_within _ _)
    | with_reducible apply Within.step (Chip.shroudRefresh_within _)
    | with_reducible apply Within.count
    | with_reducible apply Within.wr
    | (with_reducible apply Within.onlyIf; rotate_left; intro _ _)
    | split
    | with_reducible apply Within.set_spr

theorem Chip.consentLapse_within (s : Chip) :
    Within 0x46c000000000000000000000000000000000000000000000000000000000000000000000000000000000000000000000000000000000 0x8080 s (Chip.consentLapse s) := by
  unfold Chip.consentLapse
  repeat' first
    | (extract_lets +onlyGivenNames x; refine .cut (x := x) ?_ ?_; rotate_left; clear_value x; intro _; rotate_left; subst x)
    | (extract_lets +onlyGivenNames x; refine .cut (x := x.2) ?_ ?_; rotate_left; clear_value x; intro _; rotate_left; subst x)
    | (extract_lets +onlyGivenNames x; refine .cut (x := x.2.2) ?_ ?_; rotate_left; clear_value x; intro _; rotate_left; subst x)
    | (extract_lets +onlyGivenNames x; clear_value x)
    | extract_lets +onlyGivenNames _
    | with_reducible apply Within.refl
    | with_reducible assumption
    | decide
    | with_reducible apply Within.step (Chip.shroudRefresh_within _)
    | with_reducible apply Within.step (Chip.withdrawConsent_within _)
    | split

theorem Chip.telegramFails_within (s : Chip) (code : Nat) :
    Within 0x400000000000000000000000000000000000000000000000000000000000000000000000000000000000000000000000000000000 0x800 s (Chip.telegramFails s code) := by
  unfold Chip.telegramFails
  repeat' first
    | (extract_lets +onlyGivenNames x; refine .cut (x := x) ?_ ?_; rotate_left; clear_value x; intro _; rotate_left; subst x)
    | (extract_lets +onlyGivenNames x; refine .cut (x := x.2) ?_ ?_; rotate_left; clear_value x; intro _; rotate_left; subst x)
    | (extract_lets +onlyGivenNames x; refine .cut (x := x.2.2) ?_ ?_; rotate_left; clear_value x; intro _; rotate_left; subst x)
    | (extract_lets +onlyGivenNames x; clear_value x)
    | extract_lets +onlyGivenNames _
    | with_reducible apply Within.refl
    | with_reducible assumption
    | decide
    | with_reducible apply Within.step (Chip.raise_within _ _)
    | with_reducible apply Within.wr
    | split

theorem Chip.dropCopies_within (s : Chip) (seq : Nat) :
    Within 0 0x1000 s (Chip.dropCopies s seq) := by
  unfold Chip.dropCopies
  repeat' first
    | (extract_lets +onlyGivenNames x; refine .cut (x := x) ?_ ?_; rotate_left; clear_value x; intro _; rotate_left; subst x)
    | (extract_lets +onlyGivenNames x; refine .cut (x := x.2) ?_ ?_; rotate_left; clear_value x; intro _; rotate_left; subst x)
    | (extract_lets +onlyGivenNames x; refine .cut (x := x.2.2) ?_ ?_; rotate_left; clear_value x; intro _; rotate_left; subst x)
    | (extract_lets +onlyGivenNames x; clear_value x)
    | extract_lets +onlyGivenNames _
    | with_reducible apply Within.refl
    | with_reducible assumption
    | decide
    | split
    | with_reducible apply Within.set_spr

theorem Chip.acceptTelegram_within (s : Chip) (seq : Nat) (bytes : List Byte) :
    Within 0x1900000000000000000000000000000000000000000000000000000000000000000000000000000000000000000000000000000000 0x1000 s (Chip.acceptTelegram s seq bytes) := by
  unfold Chip.acceptTelegram
  repeat' first
    | (extract_lets +onlyGivenNames x; refine .cut (x := x) ?_ ?_; rotate_left; clear_value x; intro _; rotate_left; subst x)
    | (extract_lets +onlyGivenNames x; refine .cut (x := x.2) ?_ ?_; rotate_left; clear_value x; intro _; rotate_left; subst x)
    | (extract_lets +onlyGivenNames x; refine .cut (x := x.2.2) ?_ ?_; rotate_left; clear_value x; intro _; rotate_left; subst x)
    | (extract_lets +onlyGivenNames x; clear_value x)
    | extract_lets +onlyGivenNames _
    | with_reducible apply Within.refl
    | with_reducible assumption
    | decide
    | with_reducible apply Within.count
    | with_reducible apply Within.wr
    | split
    | with_reducible apply Within.set_spr

theorem Chip.judgeCopy_within (s : Chip) (port : Nat) (seq : Nat) (bytes : List Byte) :
    Within 0x3d00000000000000000000000000000000000000000000000000000000000000000000000000000000000000000000000000000000 0x1800 s (Chip.judgeCopy s port seq bytes) := by
  unfold Chip.judgeCopy
  repeat' first
    | (extract_lets +onlyGivenNames x; refine .cut (x := x) ?_ ?_; rotate_left; clear_value x; intro _; rotate_left; subst x)
    | (extract_lets +onlyGivenNames x; refine .cut (x := x.2) ?_ ?_; rotate_left; clear_value x; intro _; rotate_left; subst x)
    | (extract_lets +onlyGivenNames x; refine .cut (x := x.2.2) ?_ ?_; rotate_left; clear_value x; intro _; rotate_left; subst x)
    | (extract_lets +onlyGivenNames x; clear_value x)
    | extract_lets +onlyGivenNames _
    | with_reducible apply Within.refl
    | with_reducible assumption
    | decide
    | with_reducible apply Within.step (Chip.acceptTelegram_within _ _ _)
    | with_reducible apply Within.step (Chip.dropCopies_within _ _)
    | with_reducible apply Within.step (Chip.telegramFails_within _ _)
    | with_reducible apply Within.count
    | split
    | with_reducible apply Within.set_spr

theorem Chip.safeTelegram_within (s : Chip) (port : Nat) (bytes : List Byte) :
    Within 0x3d00000000000000000000000000000000000000000000000000000000000000000000000000000000000000000000000000000000 0x1800 s (Chip.safeTelegram s port bytes) := by
  unfold Chip.safeTelegram
  repeat' first
    | (extract_lets +onlyGivenNames x; refine .cut (x := x) ?_ ?_; rotate_left; clear_value x; intro _; rotate_left; subst x)
    | (extract_lets +onlyGivenNames x; refine .cut (x := x.2) ?_ ?_; rotate_left; clear_value x; intro _; rotate_left; subst x)
    | (extract_lets +onlyGivenNames x; refine .cut (x := x.2.2) ?_ ?_; rotate_left; clear_value x; intro _; rotate_left; subst x)
    | (extract_lets +onlyGivenNames x; clear_value x)
    | extract_lets +onlyGivenNames _
    | with_reducible apply Within.refl
    | with_reducible assumption
    | decide
    | with_reducible apply Within.step (Chip.judgeCopy_within _ _ _ _)
    | with_reducible apply Within.count
    | split
    | with_reducible apply Within.set_spr

theorem Chip.permitCommand_within (s : Chip) :
    Within 0x200800000000000000000000000000000000000000000000000000000000000000000000000000000000000000000000000000000 0x1000 s (Chip.permitCommand s) := by
  unfold Chip.permitCommand
  repeat' first
    | (extract_lets +onlyGivenNames x; refine .cut (x := x) ?_ ?_; rotate_left; clear_value x; intro _; rotate_left; subst x)
    | (extract_lets +onlyGivenNames x; refine .cut (x := x.2) ?_ ?_; rotate_left; clear_value x; intro _; rotate_left; subst x)
    | (extract_lets +onlyGivenNames x; refine .cut (x := x.2.2) ?_ ?_; rotate_left; clear_value x; intro _; rotate_left; subst x)
    | (extract_lets +onlyGivenNames x; clear_value x)
    | extract_lets +onlyGivenNames _
    | with_reducible apply Within.refl
    | with_reducible assumption
    | decide
    | with_reducible apply Within.wr
    | split
    | with_reducible apply Within.set_spr

theorem Chip.removeCommand_within (s : Chip) :
    Within 0x2c00000000000000000000000000000000000000000000000000000c7c202800019000080000000000008000000000000000000000800004000000000000002000000020000000000000000030078000000 0x83b9a0 s (Chip.removeCommand s) := by
  unfold Chip.removeCommand
  repeat' first
    | (extract_lets +onlyGivenNames x; refine .cut (x := x) ?_ ?_; rotate_left; clear_value x; intro _; rotate_left; subst x)
    | (extract_lets +onlyGivenNames x; refine .cut (x := x.2) ?_ ?_; rotate_left; clear_value x; intro _; rotate_left; subst x)
    | (extract_lets +onlyGivenNames x; refine .cut (x := x.2.2) ?_ ?_; rotate_left; clear_value x; intro _; rotate_left; subst x)
    | (extract_lets +onlyGivenNames x; clear_value x)
    | extract_lets +onlyGivenNames _
    | with_reducible apply Within.refl
    | with_reducible assumption
    | decide
    | with_reducible apply Within.step (Chip.sprReaction_within _)
    | with_reducible apply Within.count
    | with_reducible apply Within.wr
    | (with_reducible apply Within.onlyIf; rotate_left; intro _ _)
    | split
    | with_reducible apply Within.set_spr

theorem Chip.copyTimeout_within (s : Chip) (seq : Nat) :
    Within 0x400000000000000000000000000000000000000000000000000000000000000000000000000000000000000000000000000000000 0x1800 s (Chip.copyTimeout s seq) := by
  unfold Chip.copyTimeout
  repeat' first
    | (extract_lets +onlyGivenNames x; refine .cut (x := x) ?_ ?_; rotate_left; clear_value x; intro _; rotate_left; subst x)
    | (extract_lets +onlyGivenNames x; refine .cut (x := x.2) ?_ ?_; rotate_left; clear_value x; intro _; rotate_left; subst x)
    | (extract_lets +onlyGivenNames x; refine .cut (x := x.2.2) ?_ ?_; rotate_left; clear_value x; intro _; rotate_left; subst x)
    | (extract_lets +onlyGivenNames x; clear_value x)
    | extract_lets +onlyGivenNames _
    | with_reducible apply Within.refl
    | with_reducible assumption
    | decide
    | with_reducible apply Within.step (Chip.dropCopies_within _ _)
    | with_reducible apply Within.step (Chip.telegramFails_within _ _)
    | split

theorem Chip.watchExpiry_within (s : Chip) :
    Within 0x400000000000000000000000000000000000000000000000000000000000000000000000000000000000000000000000000000000 0x1800 s (Chip.watchExpiry s) := by
  unfold Chip.watchExpiry
  repeat' first
    | (extract_lets +onlyGivenNames x; refine .cut (x := x) ?_ ?_; rotate_left; clear_value x; intro _; rotate_left; subst x)
    | (extract_lets +onlyGivenNames x; refine .cut (x := x.2) ?_ ?_; rotate_left; clear_value x; intro _; rotate_left; subst x)
    | (extract_lets +onlyGivenNames x; refine .cut (x := x.2.2) ?_ ?_; rotate_left; clear_value x; intro _; rotate_left; subst x)
    | (extract_lets +onlyGivenNames x; clear_value x)
    | extract_lets +onlyGivenNames _
    | with_reducible apply Within.refl
    | with_reducible assumption
    | decide
    | with_reducible apply Within.step (Chip.telegramFails_within _ _)
    | split
    | with_reducible apply Within.set_spr

theorem Chip.sendStatus_within (s : Chip) :
    Within 0 0x81000 s (Chip.sendStatus s) := by
  unfold Chip.sendStatus
  repeat' first
    | (extract_lets +onlyGivenNames x; refine .cut (x := x) ?_ ?_; rotate_left; clear_value x; intro _; rotate_left; subst x)
    | (extract_lets +onlyGivenNames x; refine .cut (x := x.2) ?_ ?_; rotate_left; clear_value x; intro _; rotate_left; subst x)
    | (extract_lets +onlyGivenNames x; refine .cut (x := x.2.2) ?_ ?_; rotate_left; clear_value x; intro _; rotate_left; subst x)
    | (extract_lets +onlyGivenNames x; clear_value x)
    | extract_lets +onlyGivenNames _
    | with_reducible apply Within.refl
    | with_reducible assumption
    | decide
    | with_reducible apply Within.step (Chip.enqueuePair_within _ _ _ _)
    | split
    | with_reducible apply Within.set_spr

end Sys2Proof.Machine
end

