-- ==== Sys2Proof/Laws/FrameMetrology.lean ====
section
/-! SUPPORT. The frames of the operations of Machine/Metrology.lean: the fields and the parts of the state each may change. -/

set_option linter.tactic.unusedName false

namespace Sys2Proof.Machine

theorem Chip.roundOpen_within (s : Chip) (q : Rat) :
    Within 0 0x1000000 s (Chip.roundOpen s q).2 := by
  unfold Chip.roundOpen
  repeat' first
    | (extract_lets +onlyGivenNames x; refine .cut (x := x) ?_ ?_; rotate_left; clear_value x; intro _; rotate_left; subst x)
    | (extract_lets +onlyGivenNames x; refine .cut (x := x.2) ?_ ?_; rotate_left; clear_value x; intro _; rotate_left; subst x)
    | (extract_lets +onlyGivenNames x; refine .cut (x := x.2.2) ?_ ?_; rotate_left; clear_value x; intro _; rotate_left; subst x)
    | (extract_lets +onlyGivenNames x; clear_value x)
    | extract_lets +onlyGivenNames _
    | with_reducible apply Within.refl
    | with_reducible assumption
    | decide
    | with_reducible apply Within.step (Chip.freeNat_within _)
    | split

theorem Chip.keepCapture_within (s : Chip) (ptp : Nat) :
    Within 0 0x100000 s (Chip.keepCapture s ptp) := by
  unfold Chip.keepCapture
  repeat' first
    | (extract_lets +onlyGivenNames x; refine .cut (x := x) ?_ ?_; rotate_left; clear_value x; intro _; rotate_left; subst x)
    | (extract_lets +onlyGivenNames x; refine .cut (x := x.2) ?_ ?_; rotate_left; clear_value x; intro _; rotate_left; subst x)
    | (extract_lets +onlyGivenNames x; refine .cut (x := x.2.2) ?_ ?_; rotate_left; clear_value x; intro _; rotate_left; subst x)
    | (extract_lets +onlyGivenNames x; clear_value x)
    | extract_lets +onlyGivenNames _
    | with_reducible apply Within.refl
    | with_reducible assumption
    | decide
    | split
    | with_reducible apply Within.set_metrology

theorem Chip.meterStatus_within (s : Chip) :
    Within 0x8028000000000000000000000000000000000000000000000000000000000000000060000000000000 0 s (Chip.meterStatus s) := by
  unfold Chip.meterStatus
  repeat' first
    | (extract_lets +onlyGivenNames x; refine .cut (x := x) ?_ ?_; rotate_left; clear_value x; intro _; rotate_left; subst x)
    | (extract_lets +onlyGivenNames x; refine .cut (x := x.2) ?_ ?_; rotate_left; clear_value x; intro _; rotate_left; subst x)
    | (extract_lets +onlyGivenNames x; refine .cut (x := x.2.2) ?_ ?_; rotate_left; clear_value x; intro _; rotate_left; subst x)
    | (extract_lets +onlyGivenNames x; clear_value x)
    | extract_lets +onlyGivenNames _
    | with_reducible apply Within.refl
    | with_reducible assumption
    | decide
    | with_reducible apply Within.wrFlag
    | split

theorem Chip.addSample_within (s : Chip) (k : Nat) (missing : Bool) (instant : Nat) (v : List Int) (i : List Int) :
    Within 0 0x100000 s (Chip.addSample s k missing instant v i) := by
  unfold Chip.addSample
  repeat' first
    | (extract_lets +onlyGivenNames x; refine .cut (x := x) ?_ ?_; rotate_left; clear_value x; intro _; rotate_left; subst x)
    | (extract_lets +onlyGivenNames x; refine .cut (x := x.2) ?_ ?_; rotate_left; clear_value x; intro _; rotate_left; subst x)
    | (extract_lets +onlyGivenNames x; refine .cut (x := x.2.2) ?_ ?_; rotate_left; clear_value x; intro _; rotate_left; subst x)
    | (extract_lets +onlyGivenNames x; clear_value x)
    | extract_lets +onlyGivenNames _
    | with_reducible apply Within.refl
    | with_reducible assumption
    | decide
    | with_reducible apply Within.step (Chip.setMeter_within _ _ _)
    | split

theorem Chip.meterBoundary_within (s : Chip) (fresh : Nat → Bool) (full : Nat → Nat → Int) :
    Within 0 0x100000 s (Chip.meterBoundary s fresh full) := by
  unfold Chip.meterBoundary
  repeat' first
    | (extract_lets +onlyGivenNames x; refine .cut (x := x) ?_ ?_; rotate_left; clear_value x; intro _; rotate_left; subst x)
    | (extract_lets +onlyGivenNames x; refine .cut (x := x.2) ?_ ?_; rotate_left; clear_value x; intro _; rotate_left; subst x)
    | (extract_lets +onlyGivenNames x; refine .cut (x := x.2.2) ?_ ?_; rotate_left; clear_value x; intro _; rotate_left; subst x)
    | (extract_lets +onlyGivenNames x; clear_value x)
    | extract_lets +onlyGivenNames _
    | with_reducible apply Within.refl
    | with_reducible assumption
    | decide
    | with_reducible apply Within.step (Chip.addSample_within _ _ _ _ _ _)
    | split

theorem Chip.meterRun_within (s : Chip) (q : Nat) (sampling : Nat) :
    Within 0 0x100000 s (Chip.meterRun s q sampling) := by
  unfold Chip.meterRun
  repeat' first
    | (extract_lets +onlyGivenNames x; refine .cut (x := x) ?_ ?_; rotate_left; clear_value x; intro _; rotate_left; subst x)
    | (extract_lets +onlyGivenNames x; refine .cut (x := x.2) ?_ ?_; rotate_left; clear_value x; intro _; rotate_left; subst x)
    | (extract_lets +onlyGivenNames x; refine .cut (x := x.2.2) ?_ ?_; rotate_left; clear_value x; intro _; rotate_left; subst x)
    | (extract_lets +onlyGivenNames x; clear_value x)
    | extract_lets +onlyGivenNames _
    | with_reducible apply Within.refl
    | with_reducible assumption
    | decide
    | with_reducible apply Within.step (Chip.addSample_within _ _ _ _ _ _)
    | split

theorem Chip.adcResult_within (s : Chip) (n : Nat) (new : List Bool) (retries : Nat) (arrives : Bool) :
    Within 0x23fff800000000000000000000000000000000000000000000000000000000000000000000400000 0x1104000 s (Chip.adcResult s n new retries arrives) := by
  unfold Chip.adcResult
  repeat' first
    | (extract_lets +onlyGivenNames x; refine .cut (x := x) ?_ ?_; rotate_left; clear_value x; intro _; rotate_left; subst x)
    | (extract_lets +onlyGivenNames x; refine .cut (x := x.2) ?_ ?_; rotate_left; clear_value x; intro _; rotate_left; subst x)
    | (extract_lets +onlyGivenNames x; refine .cut (x := x.2.2) ?_ ?_; rotate_left; clear_value x; intro _; rotate_left; subst x)
    | (extract_lets +onlyGivenNames x; clear_value x)
    | extract_lets +onlyGivenNames _
    | with_reducible apply Within.refl
    | with_reducible assumption
    | decide
    | with_reducible apply Within.step (Chip.adcComplete_within _ _ _ _ _)
    | with_reducible apply Within.step (Chip.meterRun_within _ _ _)
    | split

theorem Chip.showFrequency_within (s : Chip) (k : Nat) :
    Within 0x300000000000000000000000000000000000000000000000000000000000000000000000000000000000 0x1000000 s (Chip.showFrequency s k) := by
  unfold Chip.showFrequency
  repeat' first
    | (extract_lets +onlyGivenNames x; refine .cut (x := x) ?_ ?_; rotate_left; clear_value x; intro _; rotate_left; subst x)
    | (extract_lets +onlyGivenNames x; refine .cut (x := x.2) ?_ ?_; rotate_left; clear_value x; intro _; rotate_left; subst x)
    | (extract_lets +onlyGivenNames x; refine .cut (x := x.2.2) ?_ ?_; rotate_left; clear_value x; intro _; rotate_left; subst x)
    | (extract_lets +onlyGivenNames x; clear_value x)
    | extract_lets +onlyGivenNames _
    | with_reducible apply Within.refl
    | with_reducible assumption
    | decide
    | with_reducible apply Within.step (Chip.roundOpen_within _ _)
    | with_reducible apply Within.wr
    | split

theorem Chip.orOpen_within (s : Chip) (q : Option Rat) :
    Within 0 0x1000000 s (Chip.orOpen s q).2 := by
  unfold Chip.orOpen
  repeat' first
    | (extract_lets +onlyGivenNames x; refine .cut (x := x) ?_ ?_; rotate_left; clear_value x; intro _; rotate_left; subst x)
    | (extract_lets +onlyGivenNames x; refine .cut (x := x.2) ?_ ?_; rotate_left; clear_value x; intro _; rotate_left; subst x)
    | (extract_lets +onlyGivenNames x; refine .cut (x := x.2.2) ?_ ?_; rotate_left; clear_value x; intro _; rotate_left; subst x)
    | (extract_lets +onlyGivenNames x; clear_value x)
    | extract_lets +onlyGivenNames _
    | with_reducible apply Within.refl
    | with_reducible assumption
    | decide
    | with_reducible apply Within.step (Chip.freeNat_within _)
    | split

theorem Chip.sums_within (s : Chip) (k ph : Nat) (all : List MeterSample) (quarter : Rat) (w : List MeterSample) :
    Within 0 0x1000000 s (s.sums k ph all quarter w).2.2 := by
  induction w generalizing s with
  | nil => exact .refl
  | cons x r ih =>
    exact .step (ih _) (.step (Chip.orOpen_within _ _) (Chip.orOpen_within _ _) (by decide) (by decide)) (by decide) (by decide)

theorem Chip.phaseEnergy_within (s : Chip) (k ph : Nat) (all w : List MeterSample) :
    Within 0 0x1000000 s (s.phaseEnergy k ph all w).2 := Chip.sums_within _ _ _ _ _ _

theorem Chip.wr64_within {F C : Nat} {s x : Chip} (k : Within F C s x) (lo hi : Fld) (v i : Nat) (h1 : F.testBit lo.ctorIdx = true)
    (h2 : F.testBit hi.ctorIdx = true) : Within F C s (x.wr64 lo hi v i) := (k.wr lo v i h1).wr hi _ i h2

theorem Chip.creditRegister_within (s : Chip) (k : Nat) (r : Nat) (c : Nat) :
    Within 0x780000000000000000000000000000000000000000000000000000000000000000000000000000000000000 0x100000 s (Chip.creditRegister s k r c) := by
  unfold Chip.creditRegister
  repeat' first
    | (extract_lets +onlyGivenNames x; refine .cut (x := x) ?_ ?_; rotate_left; clear_value x; intro _; rotate_left; subst x)
    | (extract_lets +onlyGivenNames x; refine .cut (x := x.2) ?_ ?_; rotate_left; clear_value x; intro _; rotate_left; subst x)
    | (extract_lets +onlyGivenNames x; refine .cut (x := x.2.2) ?_ ?_; rotate_left; clear_value x; intro _; rotate_left; subst x)
    | (extract_lets +onlyGivenNames x; clear_value x)
    | extract_lets +onlyGivenNames _
    | with_reducible apply Within.refl
    | with_reducible assumption
    | decide
    | with_reducible apply Within.step (Chip.setMeter_within _ _ _)
    | with_reducible apply Chip.wr64_within
    | split

theorem Chip.creditNet_within (s : Chip) (k : Nat) (ph : Nat) (c : Int) :
    Within 0x1800000000000000000000000000000000000000000000000000000000000000000000000000000000000000 0x100000 s (Chip.creditNet s k ph c) := by
  unfold Chip.creditNet
  repeat' first
    | (extract_lets +onlyGivenNames x; refine .cut (x := x) ?_ ?_; rotate_left; clear_value x; intro _; rotate_left; subst x)
    | (extract_lets +onlyGivenNames x; refine .cut (x := x.2) ?_ ?_; rotate_left; clear_value x; intro _; rotate_left; subst x)
    | (extract_lets +onlyGivenNames x; refine .cut (x := x.2.2) ?_ ?_; rotate_left; clear_value x; intro _; rotate_left; subst x)
    | (extract_lets +onlyGivenNames x; clear_value x)
    | extract_lets +onlyGivenNames _
    | with_reducible apply Within.refl
    | with_reducible assumption
    | decide
    | with_reducible apply Within.step (Chip.setMeter_within _ _ _)
    | with_reducible apply Chip.wr64_within
    | split

theorem Chip.roundAbove_within (s : Chip) (n : Nat) (above : Nat) :
    Within 0 0x1000000 s (Chip.roundAbove s n above).2 := by
  unfold Chip.roundAbove
  repeat' first
    | (extract_lets +onlyGivenNames x; refine .cut (x := x) ?_ ?_; rotate_left; clear_value x; intro _; rotate_left; subst x)
    | (extract_lets +onlyGivenNames x; refine .cut (x := x.2) ?_ ?_; rotate_left; clear_value x; intro _; rotate_left; subst x)
    | (extract_lets +onlyGivenNames x; refine .cut (x := x.2.2) ?_ ?_; rotate_left; clear_value x; intro _; rotate_left; subst x)
    | (extract_lets +onlyGivenNames x; clear_value x)
    | extract_lets +onlyGivenNames _
    | with_reducible apply Within.refl
    | with_reducible assumption
    | decide
    | with_reducible apply Within.step (Chip.freeNat_within _)
    | split

theorem Chip.creditPhase_within (s : Chip) (k : Nat) (ph : Nat) (ep : Rat) (eq : Rat) (es : Nat) (above : Nat) :
    Within 0x1f80000000000000000000000000000000000000000000000000000000000000000000000000000000000000 0x1100000 s (Chip.creditPhase s k ph ep eq es above) := by
  unfold Chip.creditPhase
  repeat' first
    | (extract_lets +onlyGivenNames x; refine .cut (x := x) ?_ ?_; rotate_left; clear_value x; intro _; rotate_left; subst x)
    | (extract_lets +onlyGivenNames x; refine .cut (x := x.2) ?_ ?_; rotate_left; clear_value x; intro _; rotate_left; subst x)
    | (extract_lets +onlyGivenNames x; refine .cut (x := x.2.2) ?_ ?_; rotate_left; clear_value x; intro _; rotate_left; subst x)
    | (extract_lets +onlyGivenNames x; clear_value x)
    | extract_lets +onlyGivenNames _
    | with_reducible apply Within.refl
    | with_reducible assumption
    | decide
    | with_reducible apply Within.step (Chip.creditNet_within _ _ _ _)
    | with_reducible apply Within.step (Chip.creditRegister_within _ _ _ _)
    | with_reducible apply Within.step (Chip.roundAbove_within _ _ _)
    | with_reducible apply Within.step (Chip.roundOpen_within _ _)
    | split

theorem Chip.creditWindow_within (s : Chip) (k : Nat) (all w : List MeterSample) :
    Within 0x1f80000000000000000000000000000000000000000000000000000000000000000000000000000000000000 0x1100000 s (s.creditWindow k all w) := by
  unfold Chip.creditWindow
  extract_lets +onlyGivenNames step t
  have ht : Within 0x1f80000000000000000000000000000000000000000000000000000000000000000000000000000000000000 0x1100000 s t.2 := by
    refine Within.foldlSnd (b := ((0, 0, 0, 0), s)) .refl _ fun u ph hu => ?_
    exact .step (Chip.creditPhase_within _ _ _ _ _ _ _) (.step (Chip.phaseEnergy_within _ _ _ _ _) hu (by decide) (by decide))
      (by decide) (by decide)
  exact .step (Chip.creditPhase_within _ _ _ _ _ _ _) ht (by decide) (by decide)

theorem Chip.closeWarmGap_within (s : Chip) (k : Nat) (start : Nat) :
    Within 0 0x100000 s (Chip.closeWarmGap s k start) := by
  unfold Chip.closeWarmGap
  repeat' first
    | (extract_lets +onlyGivenNames x; refine .cut (x := x) ?_ ?_; rotate_left; clear_value x; intro _; rotate_left; subst x)
    | (extract_lets +onlyGivenNames x; refine .cut (x := x.2) ?_ ?_; rotate_left; clear_value x; intro _; rotate_left; subst x)
    | (extract_lets +onlyGivenNames x; refine .cut (x := x.2.2) ?_ ?_; rotate_left; clear_value x; intro _; rotate_left; subst x)
    | (extract_lets +onlyGivenNames x; clear_value x)
    | extract_lets +onlyGivenNames _
    | with_reducible apply Within.refl
    | with_reducible assumption
    | decide
    | with_reducible apply Within.step (Chip.setMeter_within _ _ _)
    | split

theorem Chip.endWindow_within (s : Chip) (k : Nat) (w : List MeterSample) (rest : List MeterSample) :
    Within 0x1f80390000000000000000000000000000000000000000000000000000000000000000000000000000000000 0x1100000 s (Chip.endWindow s k w rest) := by
  unfold Chip.endWindow
  repeat' first
    | (extract_lets +onlyGivenNames x; refine .cut (x := x) ?_ ?_; rotate_left; clear_value x; intro _; rotate_left; subst x)
    | (extract_lets +onlyGivenNames x; refine .cut (x := x.2) ?_ ?_; rotate_left; clear_value x; intro _; rotate_left; subst x)
    | (extract_lets +onlyGivenNames x; refine .cut (x := x.2.2) ?_ ?_; rotate_left; clear_value x; intro _; rotate_left; subst x)
    | (extract_lets +onlyGivenNames x; clear_value x)
    | extract_lets +onlyGivenNames _
    | with_reducible apply Within.refl
    | with_reducible assumption
    | decide
    | with_reducible apply Within.step (Chip.closeWarmGap_within _ _ _)
    | with_reducible apply Within.step (Chip.creditWindow_within _ _ _ _)
    | with_reducible apply Within.step (Chip.setMeter_within _ _ _)
    | with_reducible apply Within.step (Chip.showFrequency_within _ _)
    | with_reducible apply Within.step (Chip.unmeasured_within _ _ _)
    | split

theorem Chip.resolveGap_within (s : Chip) (k : Nat) :
    Within 0x40000000000000000000000000000000000000000000000000000000000000000000000000000000000 0x100000 s (Chip.resolveGap s k) := by
  unfold Chip.resolveGap
  repeat' first
    | (extract_lets +onlyGivenNames x; refine .cut (x := x) ?_ ?_; rotate_left; clear_value x; intro _; rotate_left; subst x)
    | (extract_lets +onlyGivenNames x; refine .cut (x := x.2) ?_ ?_; rotate_left; clear_value x; intro _; rotate_left; subst x)
    | (extract_lets +onlyGivenNames x; refine .cut (x := x.2.2) ?_ ?_; rotate_left; clear_value x; intro _; rotate_left; subst x)
    | (extract_lets +onlyGivenNames x; clear_value x)
    | extract_lets +onlyGivenNames _
    | with_reducible apply Within.refl
    | with_reducible assumption
    | decide
    | with_reducible apply Within.step (Chip.setMeter_within _ _ _)
    | with_reducible apply Within.wr
    | split

theorem Chip.windowEnd_within (s : Chip) (k : Nat) :
    Within 0x1f803d0000000000000000000000000000000000000000000000000000000000000000000000000000000000 0x1100000 s (Chip.windowEnd s k) := by
  unfold Chip.windowEnd
  repeat' first
    | (extract_lets +onlyGivenNames x; refine .cut (x := x) ?_ ?_; rotate_left; clear_value x; intro _; rotate_left; subst x)
    | (extract_lets +onlyGivenNames x; refine .cut (x := x.2) ?_ ?_; rotate_left; clear_value x; intro _; rotate_left; subst x)
    | (extract_lets +onlyGivenNames x; refine .cut (x := x.2.2) ?_ ?_; rotate_left; clear_value x; intro _; rotate_left; subst x)
    | (extract_lets +onlyGivenNames x; clear_value x)
    | extract_lets +onlyGivenNames _
    | with_reducible apply Within.refl
    | with_reducible assumption
    | decide
    | with_reducible apply Within.step (Chip.endWindow_within _ _ _ _)
    | with_reducible apply Within.step (Chip.resolveGap_within _ _)
    | split

theorem Chip.closeEarly_within (s : Chip) :
    Within 0x1f80390000000000000000000000000000000000000000000000000000000000000000000000000000000000 0x1100000 s (Chip.closeEarly s) := by
  unfold Chip.closeEarly
  repeat' first
    | (extract_lets +onlyGivenNames x; refine .cut (x := x) ?_ ?_; rotate_left; clear_value x; intro _; rotate_left; subst x)
    | (extract_lets +onlyGivenNames x; refine .cut (x := x.2) ?_ ?_; rotate_left; clear_value x; intro _; rotate_left; subst x)
    | (extract_lets +onlyGivenNames x; refine .cut (x := x.2.2) ?_ ?_; rotate_left; clear_value x; intro _; rotate_left; subst x)
    | (extract_lets +onlyGivenNames x; clear_value x)
    | extract_lets +onlyGivenNames _
    | with_reducible apply Within.refl
    | with_reducible assumption
    | decide
    | with_reducible apply Within.step (Chip.endWindow_within _ _ _ _)
    | (with_reducible apply Within.each; rotate_left; intro _ _ _)
    | split
    | with_reducible apply Within.set_metrology

theorem Chip.refuseSave_within (s : Chip) :
    Within 0x4501000000000000000000000000000000000000000000000000000090000000000000000000000000000000000000000000000000000000000000000000000000000000 0x102800 s (Chip.refuseSave s) := by
  unfold Chip.refuseSave
  repeat' first
    | (extract_lets +onlyGivenNames x; refine .cut (x := x) ?_ ?_; rotate_left; clear_value x; intro _; rotate_left; subst x)
    | (extract_lets +onlyGivenNames x; refine .cut (x := x.2) ?_ ?_; rotate_left; clear_value x; intro _; rotate_left; subst x)
    | (extract_lets +onlyGivenNames x; refine .cut (x := x.2.2) ?_ ?_; rotate_left; clear_value x; intro _; rotate_left; subst x)
    | (extract_lets +onlyGivenNames x; clear_value x)
    | extract_lets +onlyGivenNames _
    | with_reducible apply Within.refl
    | with_reducible assumption
    | decide
    | with_reducible apply Within.step (Chip.dropRequest_within _ _)
    | with_reducible apply Within.step (Chip.raise_within _ _)
    | with_reducible apply Within.step (Chip.returnLeave_within _ _)
    | with_reducible apply Within.count
    | with_reducible apply Within.wr
    | split
    | with_reducible apply Within.set_metrology

theorem Chip.giveUpGap_within (s : Chip) (k : Nat) :
    Within 0x40000000000000000000000000000000000000000000000000000000000000000000000000000000000 0x100000 s (Chip.giveUpGap s k) := by
  unfold Chip.giveUpGap
  repeat' first
    | (extract_lets +onlyGivenNames x; refine .cut (x := x) ?_ ?_; rotate_left; clear_value x; intro _; rotate_left; subst x)
    | (extract_lets +onlyGivenNames x; refine .cut (x := x.2) ?_ ?_; rotate_left; clear_value x; intro _; rotate_left; subst x)
    | (extract_lets +onlyGivenNames x; refine .cut (x := x.2.2) ?_ ?_; rotate_left; clear_value x; intro _; rotate_left; subst x)
    | (extract_lets +onlyGivenNames x; clear_value x)
    | extract_lets +onlyGivenNames _
    | with_reducible apply Within.refl
    | with_reducible assumption
    | decide
    | with_reducible apply Within.step (Chip.setMeter_within _ _ _)
    | with_reducible apply Within.wr
    | split

theorem Chip.giveUpGaps_within (s : Chip) :
    Within 0x40000000000000000000000000000000000000000000000000000000000000000000000000000000000 0x100000 s (Chip.giveUpGaps s) := by
  unfold Chip.giveUpGaps
  repeat' first
    | (extract_lets +onlyGivenNames x; refine .cut (x := x) ?_ ?_; rotate_left; clear_value x; intro _; rotate_left; subst x)
    | (extract_lets +onlyGivenNames x; refine .cut (x := x.2) ?_ ?_; rotate_left; clear_value x; intro _; rotate_left; subst x)
    | (extract_lets +onlyGivenNames x; refine .cut (x := x.2.2) ?_ ?_; rotate_left; clear_value x; intro _; rotate_left; subst x)
    | (extract_lets +onlyGivenNames x; clear_value x)
    | extract_lets +onlyGivenNames _
    | with_reducible apply Within.refl
    | with_reducible assumption
    | decide
    | with_reducible apply Within.step (Chip.giveUpGap_within _ _)
    | split

theorem Chip.save_within (s : Chip) :
    Within 0x84501000000000000000000000000000000000000000000000000040090000000000000000000000000000000000000000000000000000000000000000000000000000000 0x302800 s (Chip.save s) := by
  unfold Chip.save
  repeat' first
    | (extract_lets +onlyGivenNames x; refine .cut (x := x) ?_ ?_; rotate_left; clear_value x; intro _; rotate_left; subst x)
    | (extract_lets +onlyGivenNames x; refine .cut (x := x.2) ?_ ?_; rotate_left; clear_value x; intro _; rotate_left; subst x)
    | (extract_lets +onlyGivenNames x; refine .cut (x := x.2.2) ?_ ?_; rotate_left; clear_value x; intro _; rotate_left; subst x)
    | (extract_lets +onlyGivenNames x; clear_value x)
    | extract_lets +onlyGivenNames _
    | with_reducible apply Within.refl
    | with_reducible assumption
    | decide
    | with_reducible apply Within.step (Chip.askLeave_within _ _)
    | with_reducible apply Within.step (Chip.dropJobs_within _ _)
    | with_reducible apply Within.step (Chip.giveUpGaps_within _)
    | with_reducible apply Within.step (Chip.queuePage_within _ _ _)
    | with_reducible apply Within.step (Chip.refuseSave_within _)
    | with_reducible apply Within.count
    | (with_reducible apply Within.onlyIf; rotate_left; intro _ _)
    | split
    | with_reducible apply Within.set_metrology

theorem Chip.periodicSave_within (s : Chip) :
    Within 0x84501000000000000000000000000000000000000000000000000040090000000000000000000000000000000000000000000000000000000000000000000000000000000 0x302800 s (Chip.periodicSave s) := by
  unfold Chip.periodicSave
  repeat' first
    | (extract_lets +onlyGivenNames x; refine .cut (x := x) ?_ ?_; rotate_left; clear_value x; intro _; rotate_left; subst x)
    | (extract_lets +onlyGivenNames x; refine .cut (x := x.2) ?_ ?_; rotate_left; clear_value x; intro _; rotate_left; subst x)
    | (extract_lets +onlyGivenNames x; refine .cut (x := x.2.2) ?_ ?_; rotate_left; clear_value x; intro _; rotate_left; subst x)
    | (extract_lets +onlyGivenNames x; clear_value x)
    | extract_lets +onlyGivenNames _
    | with_reducible apply Within.refl
    | with_reducible assumption
    | decide
    | with_reducible apply Within.step (Chip.giveUpGaps_within _)
    | with_reducible apply Within.step (Chip.save_within _)
    | split
    | with_reducible apply Within.set_metrology

theorem Chip.saveRetry_within (s : Chip) :
    Within 0x84501000000000000000000000000000000000000000000000000040090000000000000000000000000000000000000000000000000000000000000000000000000000000 0x302800 s (Chip.saveRetry s) := by
  unfold Chip.saveRetry
  repeat' first
    | (extract_lets +onlyGivenNames x; refine .cut (x := x) ?_ ?_; rotate_left; clear_value x; intro _; rotate_left; subst x)
    | (extract_lets +onlyGivenNames x; refine .cut (x := x.2) ?_ ?_; rotate_left; clear_value x; intro _; rotate_left; subst x)
    | (extract_lets +onlyGivenNames x; refine .cut (x := x.2.2) ?_ ?_; rotate_left; clear_value x; intro _; rotate_left; subst x)
    | (extract_lets +onlyGivenNames x; clear_value x)
    | extract_lets +onlyGivenNames _
    | with_reducible apply Within.refl
    | with_reducible assumption
    | decide
    | with_reducible apply Within.step (Chip.save_within _)
    | split

theorem Chip.metrologySave_within (s : Chip) :
    Within 0x84501000000000000000000000000000000000000000000000000040090000000000000000000000000000000000000000000000000000000000000000000000000000000 0x302800 s (Chip.metrologySave s) := by
  unfold Chip.metrologySave
  repeat' first
    | (extract_lets +onlyGivenNames x; refine .cut (x := x) ?_ ?_; rotate_left; clear_value x; intro _; rotate_left; subst x)
    | (extract_lets +onlyGivenNames x; refine .cut (x := x.2) ?_ ?_; rotate_left; clear_value x; intro _; rotate_left; subst x)
    | (extract_lets +onlyGivenNames x; refine .cut (x := x.2.2) ?_ ?_; rotate_left; clear_value x; intro _; rotate_left; subst x)
    | (extract_lets +onlyGivenNames x; clear_value x)
    | extract_lets +onlyGivenNames _
    | with_reducible apply Within.refl
    | with_reducible assumption
    | decide
    | with_reducible apply Within.step (Chip.save_within _)
    | split

theorem Chip.holdSaves_within (s : Chip) :
    Within 0x4501000000000000000000000000000000000000000000000000000000000000000000000000000000000000000000000000000000000000000000000000000000000000 0x302000 s (Chip.holdSaves s) := by
  unfold Chip.holdSaves
  repeat' first
    | (extract_lets +onlyGivenNames x; refine .cut (x := x) ?_ ?_; rotate_left; clear_value x; intro _; rotate_left; subst x)
    | (extract_lets +onlyGivenNames x; refine .cut (x := x.2) ?_ ?_; rotate_left; clear_value x; intro _; rotate_left; subst x)
    | (extract_lets +onlyGivenNames x; refine .cut (x := x.2.2) ?_ ?_; rotate_left; clear_value x; intro _; rotate_left; subst x)
    | (extract_lets +onlyGivenNames x; clear_value x)
    | extract_lets +onlyGivenNames _
    | with_reducible apply Within.refl
    | with_reducible assumption
    | decide
    | with_reducible apply Within.step (Chip.dropJobs_within _ _)
    | with_reducible apply Within.step (Chip.returnLeave_within _ _)
    | split
    | with_reducible apply Within.set_metrology

theorem Chip.finalSave_within (s : Chip) :
    Within 0x40000000000000000000000000000000000000000000000000000000000000000000000000000000000 0x300000 s (Chip.finalSave s) := by
  unfold Chip.finalSave
  repeat' first
    | (extract_lets +onlyGivenNames x; refine .cut (x := x) ?_ ?_; rotate_left; clear_value x; intro _; rotate_left; subst x)
    | (extract_lets +onlyGivenNames x; refine .cut (x := x.2) ?_ ?_; rotate_left; clear_value x; intro _; rotate_left; subst x)
    | (extract_lets +onlyGivenNames x; refine .cut (x := x.2.2) ?_ ?_; rotate_left; clear_value x; intro _; rotate_left; subst x)
    | (extract_lets +onlyGivenNames x; clear_value x)
    | extract_lets +onlyGivenNames _
    | with_reducible apply Within.refl
    | with_reducible assumption
    | decide
    | with_reducible apply Within.step (Chip.dropJobs_within _ _)
    | with_reducible apply Within.step (Chip.giveUpGaps_within _)
    | with_reducible apply Within.step (Chip.queuePage_within _ _ _)
    | split

theorem Chip.finalWritten_within (s : Chip) :
    Within 0x40000000000000000000000000000000000000000000000000000000000000000000000008000000 0x200000 s (Chip.finalWritten s) := by
  unfold Chip.finalWritten
  repeat' first
    | (extract_lets +onlyGivenNames x; refine .cut (x := x) ?_ ?_; rotate_left; clear_value x; intro _; rotate_left; subst x)
    | (extract_lets +onlyGivenNames x; refine .cut (x := x.2) ?_ ?_; rotate_left; clear_value x; intro _; rotate_left; subst x)
    | (extract_lets +onlyGivenNames x; refine .cut (x := x.2.2) ?_ ?_; rotate_left; clear_value x; intro _; rotate_left; subst x)
    | (extract_lets +onlyGivenNames x; clear_value x)
    | extract_lets +onlyGivenNames _
    | with_reducible apply Within.refl
    | with_reducible assumption
    | decide
    | with_reducible apply Within.step (Chip.takeWritten_within _ _)
    | with_reducible apply Within.wrFlag
    | with_reducible apply Within.wr
    | (with_reducible apply Within.onlyIf; rotate_left; intro _ _)
    | split

theorem Chip.restorePoint_within (s : Chip) (k : Nat) :
    Within 0x600060000000000000000000000000000000000000000000000000000000000000000000000000000000000 0x100000 s (Chip.restorePoint s k) := by
  unfold Chip.restorePoint
  repeat' first
    | (extract_lets +onlyGivenNames x; refine .cut (x := x) ?_ ?_; rotate_left; clear_value x; intro _; rotate_left; subst x)
    | (extract_lets +onlyGivenNames x; refine .cut (x := x.2) ?_ ?_; rotate_left; clear_value x; intro _; rotate_left; subst x)
    | (extract_lets +onlyGivenNames x; refine .cut (x := x.2.2) ?_ ?_; rotate_left; clear_value x; intro _; rotate_left; subst x)
    | (extract_lets +onlyGivenNames x; clear_value x)
    | extract_lets +onlyGivenNames _
    | with_reducible apply Within.refl
    | with_reducible assumption
    | decide
    | with_reducible apply Within.step (Chip.setMeter_within _ _ _)
    | with_reducible apply Chip.wr64_within
    | with_reducible apply Within.wr
    | (with_reducible apply Within.each; rotate_left; intro _ _ _)
    | split

theorem Chip.newStart_within (s : Chip) (count : Nat) :
    Within 0x1000000000000000000000000000000000000000000000000000000000000000000000000000000000000000000000000000000000000000000000000000000000 0x1200000 s (Chip.newStart s count) := by
  unfold Chip.newStart
  repeat' first
    | (extract_lets +onlyGivenNames x; refine .cut (x := x) ?_ ?_; rotate_left; clear_value x; intro _; rotate_left; subst x)
    | (extract_lets +onlyGivenNames x; refine .cut (x := x.2) ?_ ?_; rotate_left; clear_value x; intro _; rotate_left; subst x)
    | (extract_lets +onlyGivenNames x; refine .cut (x := x.2.2) ?_ ?_; rotate_left; clear_value x; intro _; rotate_left; subst x)
    | (extract_lets +onlyGivenNames x; clear_value x)
    | extract_lets +onlyGivenNames _
    | with_reducible apply Within.refl
    | with_reducible assumption
    | decide
    | with_reducible apply Within.step (Chip.freeByte_within _)
    | with_reducible apply Within.step (Chip.queuePage_within _ _ _)
    | with_reducible apply Within.wr
    | split

theorem Chip.ledgerScan_within (s : Chip) (unreadable : List Nat) :
    Within 0x48f0800000000000080000001000000000000000000000000000000000000000000600060000000000000000000000000000000000000000000000000000000000000000000000000000000000 0x1300800 s (Chip.ledgerScan s unreadable) := by
  unfold Chip.ledgerScan
  repeat' first
    | (extract_lets +onlyGivenNames x; refine .cut (x := x) ?_ ?_; rotate_left; clear_value x; intro _; rotate_left; subst x)
    | (extract_lets +onlyGivenNames x; refine .cut (x := x.2) ?_ ?_; rotate_left; clear_value x; intro _; rotate_left; subst x)
    | (extract_lets +onlyGivenNames x; refine .cut (x := x.2.2) ?_ ?_; rotate_left; clear_value x; intro _; rotate_left; subst x)
    | (extract_lets +onlyGivenNames x; clear_value x)
    | extract_lets +onlyGivenNames _
    | with_reducible apply Within.refl
    | with_reducible assumption
    | decide
    | with_reducible apply Within.step (Chip.newStart_within _ _)
    | with_reducible apply Within.step (Chip.noteRead_within _ _ _)
    | with_reducible apply Within.step (Chip.restorePoint_within _ _)
    | (with_reducible apply Within.each; rotate_left; intro _ _ _)
    | split
    | with_reducible apply Within.set_storage

end Sys2Proof.Machine
end

