-- ==== Sys2Proof/Laws/FrameInputs.lean ====
section
/-! SUPPORT. The frames of the operations of Machine/Inputs.lean: the fields and the parts of the state each may change. -/

set_option linter.tactic.unusedName false

namespace Sys2Proof.Machine

theorem Chip.setStream_within (s : Chip) (n : Nat) (r : SvStream) :
    Within 0 0x40000 s (Chip.setStream s n r) := by
  unfold Chip.setStream
  repeat' first
    | (extract_lets +onlyGivenNames x; refine .cut (x := x) ?_ ?_; rotate_left; clear_value x; intro _; rotate_left; subst x)
    | (extract_lets +onlyGivenNames x; refine .cut (x := x.2) ?_ ?_; rotate_left; clear_value x; intro _; rotate_left; subst x)
    | (extract_lets +onlyGivenNames x; refine .cut (x := x.2.2) ?_ ?_; rotate_left; clear_value x; intro _; rotate_left; subst x)
    | (extract_lets +onlyGivenNames x; clear_value x)
    | extract_lets +onlyGivenNames _
    | with_reducible apply Within.refl
    | with_reducible assumption
    | decide
    | split
    | with_reducible apply Within.set_inputs

theorem Chip.setGoose_within (s : Chip) (g : Nat) (r : GooseSub) :
    Within 0 0x40000 s (Chip.setGoose s g r) := by
  unfold Chip.setGoose
  repeat' first
    | (extract_lets +onlyGivenNames x; refine .cut (x := x) ?_ ?_; rotate_left; clear_value x; intro _; rotate_left; subst x)
    | (extract_lets +onlyGivenNames x; refine .cut (x := x.2) ?_ ?_; rotate_left; clear_value x; intro _; rotate_left; subst x)
    | (extract_lets +onlyGivenNames x; refine .cut (x := x.2.2) ?_ ?_; rotate_left; clear_value x; intro _; rotate_left; subst x)
    | (extract_lets +onlyGivenNames x; clear_value x)
    | extract_lets +onlyGivenNames _
    | with_reducible apply Within.refl
    | with_reducible assumption
    | decide
    | split
    | with_reducible apply Within.set_inputs

theorem Chip.streamInvalid_within (s : Chip) (n : Nat) (reason : Nat) :
    Within 0x88000000000000000000000000000000000000000000000000000000000000000 0x40800 s (Chip.streamInvalid s n reason) := by
  unfold Chip.streamInvalid
  repeat' first
    | (extract_lets +onlyGivenNames x; refine .cut (x := x) ?_ ?_; rotate_left; clear_value x; intro _; rotate_left; subst x)
    | (extract_lets +onlyGivenNames x; refine .cut (x := x.2) ?_ ?_; rotate_left; clear_value x; intro _; rotate_left; subst x)
    | (extract_lets +onlyGivenNames x; refine .cut (x := x.2.2) ?_ ?_; rotate_left; clear_value x; intro _; rotate_left; subst x)
    | (extract_lets +onlyGivenNames x; clear_value x)
    | extract_lets +onlyGivenNames _
    | with_reducible apply Within.refl
    | with_reducible assumption
    | decide
    | with_reducible apply Within.step (Chip.raise_within _ _)
    | with_reducible apply Within.step (Chip.setStream_within _ _ _)
    | with_reducible apply Within.wr
    | split

theorem Chip.declareMissing_within (s : Chip) (n : Nat) (j : Nat) :
    Within 0x288000000000000000000000000000000000000000000000000000000000000000 0x40800 s (Chip.declareMissing s n j) := by
  unfold Chip.declareMissing
  repeat' first
    | (extract_lets +onlyGivenNames x; refine .cut (x := x) ?_ ?_; rotate_left; clear_value x; intro _; rotate_left; subst x)
    | (extract_lets +onlyGivenNames x; refine .cut (x := x.2) ?_ ?_; rotate_left; clear_value x; intro _; rotate_left; subst x)
    | (extract_lets +onlyGivenNames x; refine .cut (x := x.2.2) ?_ ?_; rotate_left; clear_value x; intro _; rotate_left; subst x)
    | (extract_lets +onlyGivenNames x; clear_value x)
    | extract_lets +onlyGivenNames _
    | with_reducible apply Within.refl
    | with_reducible assumption
    | decide
    | with_reducible apply Within.step (Chip.setStream_within _ _ _)
    | with_reducible apply Within.step (Chip.streamInvalid_within _ _ _)
    | with_reducible apply Within.count
    | split

theorem Chip.takeAsdu_within (s : Chip) (n : Nat) (c : SvConfig) (frame : SvFrameRx) (a : SvAsduRx) :
    Within 0xba8000000000000000000000000000000000000000000000000000000000000000 0x40800 s (Chip.takeAsdu s n c frame a) := by
  unfold Chip.takeAsdu
  repeat' first
    | (extract_lets +onlyGivenNames x; refine .cut (x := x) ?_ ?_; rotate_left; clear_value x; intro _; rotate_left; subst x)
    | (extract_lets +onlyGivenNames x; refine .cut (x := x.2) ?_ ?_; rotate_left; clear_value x; intro _; rotate_left; subst x)
    | (extract_lets +onlyGivenNames x; refine .cut (x := x.2.2) ?_ ?_; rotate_left; clear_value x; intro _; rotate_left; subst x)
    | (extract_lets +onlyGivenNames x; clear_value x)
    | extract_lets +onlyGivenNames _
    | with_reducible apply Within.refl
    | with_reducible assumption
    | decide
    | with_reducible apply Within.step (Chip.declareMissing_within _ _ _)
    | with_reducible apply Within.step (Chip.setStream_within _ _ _)
    | with_reducible apply Within.step (Chip.streamInvalid_within _ _ _)
    | with_reducible apply Within.wrFlag
    | with_reducible apply Within.count
    | with_reducible apply Within.wr
    | split

theorem Chip.discardSv_within (s : Chip) (n : Nat) (c : SvConfig) (frame : SvFrameRx) (mine : List SvAsduRx) :
    Within 0x1000000000000000000000000000000000000000000000000000000000000000000 0x40000 s (Chip.discardSv s n c frame mine) := by
  unfold Chip.discardSv
  repeat' first
    | (extract_lets +onlyGivenNames x; refine .cut (x := x) ?_ ?_; rotate_left; clear_value x; intro _; rotate_left; subst x)
    | (extract_lets +onlyGivenNames x; refine .cut (x := x.2) ?_ ?_; rotate_left; clear_value x; intro _; rotate_left; subst x)
    | (extract_lets +onlyGivenNames x; refine .cut (x := x.2.2) ?_ ?_; rotate_left; clear_value x; intro _; rotate_left; subst x)
    | (extract_lets +onlyGivenNames x; clear_value x)
    | extract_lets +onlyGivenNames _
    | with_reducible apply Within.refl
    | with_reducible assumption
    | decide
    | with_reducible apply Within.step (Chip.setStream_within _ _ _)
    | with_reducible apply Within.count
    | split

theorem Chip.svTake_within (s : Chip) (n : Nat) (c : SvConfig) (frame : SvFrameRx) (mine : List SvAsduRx) :
    Within 0x1ba8000000000000000000000000000000000000000000000000000000000000000 0x40800 s (Chip.svTake s n c frame mine) := by
  unfold Chip.svTake
  repeat' first
    | (extract_lets +onlyGivenNames x; refine .cut (x := x) ?_ ?_; rotate_left; clear_value x; intro _; rotate_left; subst x)
    | (extract_lets +onlyGivenNames x; refine .cut (x := x.2) ?_ ?_; rotate_left; clear_value x; intro _; rotate_left; subst x)
    | (extract_lets +onlyGivenNames x; refine .cut (x := x.2.2) ?_ ?_; rotate_left; clear_value x; intro _; rotate_left; subst x)
    | (extract_lets +onlyGivenNames x; clear_value x)
    | extract_lets +onlyGivenNames _
    | with_reducible apply Within.refl
    | with_reducible assumption
    | decide
    | with_reducible apply Within.step (Chip.discardSv_within _ _ _ _ _)
    | with_reducible apply Within.step (Chip.streamInvalid_within _ _ _)
    | with_reducible apply Within.step (Chip.takeAsdu_within _ _ _ _ _)
    | (with_reducible apply Within.each; rotate_left; intro _ _ _)
    | split

theorem Chip.svFrame_within (s : Chip) (port : Nat) (frame : SvFrameRx) :
    Within 0x1ba8000000000000000000000000000000000000000000000000000000000000000 0x40800 s (Chip.svFrame s port frame) := by
  unfold Chip.svFrame
  repeat' first
    | (extract_lets +onlyGivenNames x; refine .cut (x := x) ?_ ?_; rotate_left; clear_value x; intro _; rotate_left; subst x)
    | (extract_lets +onlyGivenNames x; refine .cut (x := x.2) ?_ ?_; rotate_left; clear_value x; intro _; rotate_left; subst x)
    | (extract_lets +onlyGivenNames x; refine .cut (x := x.2.2) ?_ ?_; rotate_left; clear_value x; intro _; rotate_left; subst x)
    | (extract_lets +onlyGivenNames x; clear_value x)
    | extract_lets +onlyGivenNames _
    | with_reducible apply Within.refl
    | with_reducible assumption
    | decide
    | with_reducible apply Within.step (Chip.svTake_within _ _ _ _ _)
    | (with_reducible apply Within.each; rotate_left; intro _ _ _)
    | split

theorem Chip.sampleMissing_within (s : Chip) (n : Nat) (second : Nat) (cnt : Nat) :
    Within 0x288000000000000000000000000000000000000000000000000000000000000000 0x40800 s (Chip.sampleMissing s n second cnt) := by
  unfold Chip.sampleMissing
  repeat' first
    | (extract_lets +onlyGivenNames x; refine .cut (x := x) ?_ ?_; rotate_left; clear_value x; intro _; rotate_left; subst x)
    | (extract_lets +onlyGivenNames x; refine .cut (x := x.2) ?_ ?_; rotate_left; clear_value x; intro _; rotate_left; subst x)
    | (extract_lets +onlyGivenNames x; refine .cut (x := x.2.2) ?_ ?_; rotate_left; clear_value x; intro _; rotate_left; subst x)
    | (extract_lets +onlyGivenNames x; clear_value x)
    | extract_lets +onlyGivenNames _
    | with_reducible apply Within.refl
    | with_reducible assumption
    | decide
    | with_reducible apply Within.step (Chip.declareMissing_within _ _ _)
    | split

theorem Chip.putStream_within (s : Chip) (n : Nat) (fresh : Bool) (questionable : Bool) (wide : Bool) (cnt : Nat) :
    Within 0x38000 0x1000801 s (Chip.putStream s n fresh questionable wide cnt) := by
  unfold Chip.putStream
  repeat' first
    | (extract_lets +onlyGivenNames x; refine .cut (x := x) ?_ ?_; rotate_left; clear_value x; intro _; rotate_left; subst x)
    | (extract_lets +onlyGivenNames x; refine .cut (x := x.2) ?_ ?_; rotate_left; clear_value x; intro _; rotate_left; subst x)
    | (extract_lets +onlyGivenNames x; refine .cut (x := x.2.2) ?_ ?_; rotate_left; clear_value x; intro _; rotate_left; subst x)
    | (extract_lets +onlyGivenNames x; clear_value x)
    | extract_lets +onlyGivenNames _
    | with_reducible apply Within.refl
    | with_reducible assumption
    | decide
    | with_reducible apply Within.step (Chip.sramPutHalf_within _ _ _)
    | with_reducible apply Within.step (Chip.sramPutWord_within _ _ _)
    | (with_reducible apply Within.each; rotate_left; intro _ _ _)
    | split

theorem Chip.resampleStream_within (s : Chip) (n : Nat) (b : Option Nat) :
    Within 0xcd8000000000000000000000000000000000000000000000000000000000038000 0x1040801 s (Chip.resampleStream s n b).2 := by
  unfold Chip.resampleStream
  repeat' first
    | (extract_lets +onlyGivenNames x; refine .cut (x := x) ?_ ?_; rotate_left; clear_value x; intro _; rotate_left; subst x)
    | (extract_lets +onlyGivenNames x; refine .cut (x := x.2) ?_ ?_; rotate_left; clear_value x; intro _; rotate_left; subst x)
    | (extract_lets +onlyGivenNames x; refine .cut (x := x.2.2) ?_ ?_; rotate_left; clear_value x; intro _; rotate_left; subst x)
    | (extract_lets +onlyGivenNames x; clear_value x)
    | extract_lets +onlyGivenNames _
    | with_reducible apply Within.refl
    | with_reducible assumption
    | decide
    | with_reducible apply Within.step (Chip.putStream_within _ _ _ _ _ _)
    | with_reducible apply Within.step (Chip.setStream_within _ _ _)
    | with_reducible apply Within.step (Chip.streamInvalid_within _ _ _)
    | with_reducible apply Within.count
    | with_reducible apply Within.wr
    | (with_reducible apply Within.onlyIf; rotate_left; intro _ _)
    | split

theorem Chip.resampleAll_within (s : Chip) (b : Option Nat) :
    Within 0xcd8000000000000000000000000000000000000000000000000000000000038000 0x1040801 s (s.resampleAll b).2 := by
  unfold Chip.resampleAll
  refine Within.foldlSnd (b := ([], s)) .refl _ fun u n hu => ?_
  extract_lets r
  exact .step (Chip.resampleStream_within _ n b) hu (by decide) (by decide)

theorem Chip.gooseTrips_within (s : Chip) (g : Nat) :
    Within 0x100000000000000000000000000000000000000000000000000000000000000000000 0x800 s (Chip.gooseTrips s g) := by
  unfold Chip.gooseTrips
  repeat' first
    | (extract_lets +onlyGivenNames x; refine .cut (x := x) ?_ ?_; rotate_left; clear_value x; intro _; rotate_left; subst x)
    | (extract_lets +onlyGivenNames x; refine .cut (x := x.2) ?_ ?_; rotate_left; clear_value x; intro _; rotate_left; subst x)
    | (extract_lets +onlyGivenNames x; refine .cut (x := x.2.2) ?_ ?_; rotate_left; clear_value x; intro _; rotate_left; subst x)
    | (extract_lets +onlyGivenNames x; clear_value x)
    | extract_lets +onlyGivenNames _
    | with_reducible apply Within.refl
    | with_reducible assumption
    | decide
    | with_reducible apply Within.step (Chip.raise_within _ _)
    | with_reducible apply Within.count
    | split

theorem Chip.gooseInvalid_within (s : Chip) (g : Nat) (reason : Nat) :
    Within 0x112000000000000000000000000000000000000000000000000000000000000000000 0x40800 s (Chip.gooseInvalid s g reason) := by
  unfold Chip.gooseInvalid
  repeat' first
    | (extract_lets +onlyGivenNames x; refine .cut (x := x) ?_ ?_; rotate_left; clear_value x; intro _; rotate_left; subst x)
    | (extract_lets +onlyGivenNames x; refine .cut (x := x.2) ?_ ?_; rotate_left; clear_value x; intro _; rotate_left; subst x)
    | (extract_lets +onlyGivenNames x; refine .cut (x := x.2.2) ?_ ?_; rotate_left; clear_value x; intro _; rotate_left; subst x)
    | (extract_lets +onlyGivenNames x; clear_value x)
    | extract_lets +onlyGivenNames _
    | with_reducible apply Within.refl
    | with_reducible assumption
    | decide
    | with_reducible apply Within.step (Chip.gooseTrips_within _ _)
    | with_reducible apply Within.step (Chip.raise_within _ _)
    | with_reducible apply Within.step (Chip.setGoose_within _ _ _)
    | with_reducible apply Within.wr
    | split

theorem Chip.gooseAccept_within (s : Chip) (g : Nat) (c : GooseConfig) (f : GooseFrameRx) :
    Within 0x17e000000000000000000000000000000000000000000000000000000000000000000 0x40800 s (Chip.gooseAccept s g c f) := by
  unfold Chip.gooseAccept
  repeat' first
    | (extract_lets +onlyGivenNames x; refine .cut (x := x) ?_ ?_; rotate_left; clear_value x; intro _; rotate_left; subst x)
    | (extract_lets +onlyGivenNames x; refine .cut (x := x.2) ?_ ?_; rotate_left; clear_value x; intro _; rotate_left; subst x)
    | (extract_lets +onlyGivenNames x; refine .cut (x := x.2.2) ?_ ?_; rotate_left; clear_value x; intro _; rotate_left; subst x)
    | (extract_lets +onlyGivenNames x; clear_value x)
    | extract_lets +onlyGivenNames _
    | with_reducible apply Within.refl
    | with_reducible assumption
    | decide
    | with_reducible apply Within.step (Chip.gooseTrips_within _ _)
    | with_reducible apply Within.step (Chip.setGoose_within _ _ _)
    | with_reducible apply Within.wrFlag
    | with_reducible apply Within.wr
    | split

theorem Chip.discardGoose_within (s : Chip) (g : Nat) (f : GooseFrameRx) :
    Within 0x80000000000000000000000000000000000000000000000000000000000000000000 0x40000 s (Chip.discardGoose s g f) := by
  unfold Chip.discardGoose
  repeat' first
    | (extract_lets +onlyGivenNames x; refine .cut (x := x) ?_ ?_; rotate_left; clear_value x; intro _; rotate_left; subst x)
    | (extract_lets +onlyGivenNames x; refine .cut (x := x.2) ?_ ?_; rotate_left; clear_value x; intro _; rotate_left; subst x)
    | (extract_lets +onlyGivenNames x; refine .cut (x := x.2.2) ?_ ?_; rotate_left; clear_value x; intro _; rotate_left; subst x)
    | (extract_lets +onlyGivenNames x; clear_value x)
    | extract_lets +onlyGivenNames _
    | with_reducible apply Within.refl
    | with_reducible assumption
    | decide
    | with_reducible apply Within.step (Chip.setGoose_within _ _ _)
    | with_reducible apply Within.count
    | split

theorem Chip.gooseTake_within (s : Chip) (g : Nat) (c : GooseConfig) (f : GooseFrameRx) :
    Within 0x1fe000000000000000000000000000000000000000000000000000000000000000000 0x40800 s (Chip.gooseTake s g c f) := by
  unfold Chip.gooseTake
  repeat' first
    | (extract_lets +onlyGivenNames x; refine .cut (x := x) ?_ ?_; rotate_left; clear_value x; intro _; rotate_left; subst x)
    | (extract_lets +onlyGivenNames x; refine .cut (x := x.2) ?_ ?_; rotate_left; clear_value x; intro _; rotate_left; subst x)
    | (extract_lets +onlyGivenNames x; refine .cut (x := x.2.2) ?_ ?_; rotate_left; clear_value x; intro _; rotate_left; subst x)
    | (extract_lets +onlyGivenNames x; clear_value x)
    | extract_lets +onlyGivenNames _
    | with_reducible apply Within.refl
    | with_reducible assumption
    | decide
    | with_reducible apply Within.step (Chip.discardGoose_within _ _ _)
    | with_reducible apply Within.step (Chip.gooseAccept_within _ _ _ _)
    | with_reducible apply Within.step (Chip.gooseInvalid_within _ _ _)
    | with_reducible apply Within.step (Chip.setGoose_within _ _ _)
    | with_reducible apply Within.count
    | split

theorem Chip.gooseFrame_within (s : Chip) (port : Nat) (f : GooseFrameRx) :
    Within 0x1fe000000000000000000000000000000000000000000000000000000000000000000 0x40800 s (Chip.gooseFrame s port f) := by
  unfold Chip.gooseFrame
  repeat' first
    | (extract_lets +onlyGivenNames x; refine .cut (x := x) ?_ ?_; rotate_left; clear_value x; intro _; rotate_left; subst x)
    | (extract_lets +onlyGivenNames x; refine .cut (x := x.2) ?_ ?_; rotate_left; clear_value x; intro _; rotate_left; subst x)
    | (extract_lets +onlyGivenNames x; refine .cut (x := x.2.2) ?_ ?_; rotate_left; clear_value x; intro _; rotate_left; subst x)
    | (extract_lets +onlyGivenNames x; clear_value x)
    | extract_lets +onlyGivenNames _
    | with_reducible apply Within.refl
    | with_reducible assumption
    | decide
    | with_reducible apply Within.step (Chip.gooseTake_within _ _ _ _)
    | (with_reducible apply Within.each; rotate_left; intro _ _ _)
    | split

theorem Chip.gooseExpiry_within (s : Chip) (g : Nat) :
    Within 0x112000000000000000000000000000000000000000000000000000000000000000000 0x40800 s (Chip.gooseExpiry s g) := by
  unfold Chip.gooseExpiry
  repeat' first
    | (extract_lets +onlyGivenNames x; refine .cut (x := x) ?_ ?_; rotate_left; clear_value x; intro _; rotate_left; subst x)
    | (extract_lets +onlyGivenNames x; refine .cut (x := x.2) ?_ ?_; rotate_left; clear_value x; intro _; rotate_left; subst x)
    | (extract_lets +onlyGivenNames x; refine .cut (x := x.2.2) ?_ ?_; rotate_left; clear_value x; intro _; rotate_left; subst x)
    | (extract_lets +onlyGivenNames x; clear_value x)
    | extract_lets +onlyGivenNames _
    | with_reducible apply Within.refl
    | with_reducible assumption
    | decide
    | with_reducible apply Within.step (Chip.gooseInvalid_within _ _ _)
    | split

theorem Chip.gooseSnapshot_within (s : Chip) :
    Within 0x38000 0x1040801 s (Chip.gooseSnapshot s) := by
  unfold Chip.gooseSnapshot
  repeat' first
    | (extract_lets +onlyGivenNames x; refine .cut (x := x) ?_ ?_; rotate_left; clear_value x; intro _; rotate_left; subst x)
    | (extract_lets +onlyGivenNames x; refine .cut (x := x.2) ?_ ?_; rotate_left; clear_value x; intro _; rotate_left; subst x)
    | (extract_lets +onlyGivenNames x; refine .cut (x := x.2.2) ?_ ?_; rotate_left; clear_value x; intro _; rotate_left; subst x)
    | (extract_lets +onlyGivenNames x; clear_value x)
    | extract_lets +onlyGivenNames _
    | with_reducible apply Within.refl
    | with_reducible assumption
    | decide
    | with_reducible apply Within.step (Chip.setGoose_within _ _ _)
    | with_reducible apply Within.step (Chip.sramPutWord_within _ _ _)
    | (with_reducible apply Within.each; rotate_left; intro _ _ _)
    | split

end Sys2Proof.Machine
end

