-- ==== Sys2Proof/Laws/FrameSections.lean ====
section
/-! SUPPORT. The frames of the operations of Machine/Sections.lean: the fields and the parts of the state each may change. -/

set_option linter.tactic.unusedName false

namespace Sys2Proof.Machine

theorem Chip.stageEntries_within {F C : Nat} {s x : Chip} (k : Within F C s x) (rs : List Reg) (banned : Reg → Nat → Bool)
    (l : List (Nat × Nat)) (h : ((fieldsOf rs).all fun f => F.testBit f.ctorIdx) = true) :
    WithinOpt F C s (x.stageEntries rs banned l) := by
  induction l generalizing x with
  | nil => exact .some k
  | cons e l ih =>
    obtain ⟨a, v⟩ := e
    unfold Chip.stageEntries
    split
    · next r i hr =>
      split
      · exact .none
      · refine ih (Chip.setFields_within k r i v ?_)
        rw [List.all_eq_true] at h ⊢
        exact fun f hf => h f (List.mem_flatMap.mpr ⟨r, findReg_mem hr, hf⟩)
    · exact .none

theorem Chip.stageRegisters_within {F C : Nat} {s x : Chip} (k : Within F C s x) (rs : List Reg) (sec : List Byte)
    (h : ((fieldsOf rs).all fun f => F.testBit f.ctorIdx) = true) : WithinOpt F C s (x.stageRegisters rs sec) :=
  .bind fun _ => Chip.stageEntries_within k rs _ _ h

theorem Chip.stageSystem_within (s : Chip) (sec : List Byte) :
    WithinOpt 0x1e0f00000000000000040006 0x10 s (Chip.stageSystem s sec) := by
  unfold Chip.stageSystem
  repeat' first
    | (extract_lets +onlyGivenNames x; refine .cut (x := x) ?_ ?_; rotate_left; clear_value x; intro _; rotate_left; subst x)
    | (extract_lets +onlyGivenNames x; refine .cut (x := x.2) ?_ ?_; rotate_left; clear_value x; intro _; rotate_left; subst x)
    | (extract_lets +onlyGivenNames x; refine .cut (x := x.2.2) ?_ ?_; rotate_left; clear_value x; intro _; rotate_left; subst x)
    | (extract_lets +onlyGivenNames x; clear_value x)
    | extract_lets +onlyGivenNames _
    | with_reducible apply Within.refl
    | with_reducible assumption
    | decide
    | with_reducible exact WithinOpt.none
    | with_reducible apply WithinOpt.some
    | with_reducible apply Chip.setFields_within
    | with_reducible apply Within.wr
    | (with_reducible apply Within.each; rotate_left; intro _ _ _)
    | split
    | with_reducible apply Within.set_sys

theorem Chip.stageLanes_within (s : Chip) (sec : List Byte) :
    WithinOpt 0xff0000000000000000000000000 0 s (Chip.stageLanes s sec) := by
  unfold Chip.stageLanes
  repeat' first
    | (extract_lets +onlyGivenNames x; refine .cut (x := x) ?_ ?_; rotate_left; clear_value x; intro _; rotate_left; subst x)
    | (extract_lets +onlyGivenNames x; refine .cut (x := x.2) ?_ ?_; rotate_left; clear_value x; intro _; rotate_left; subst x)
    | (extract_lets +onlyGivenNames x; refine .cut (x := x.2.2) ?_ ?_; rotate_left; clear_value x; intro _; rotate_left; subst x)
    | (extract_lets +onlyGivenNames x; clear_value x)
    | extract_lets +onlyGivenNames _
    | with_reducible apply Within.refl
    | with_reducible assumption
    | decide
    | with_reducible exact WithinOpt.none
    | with_reducible apply WithinOpt.some
    | with_reducible apply Chip.setFields_within
    | with_reducible apply Within.wr
    | (with_reducible apply Within.each; rotate_left; intro _ _ _)
    | split

theorem Chip.stageEdges_within (s : Chip) (sec : List Byte) : WithinOpt 0x1e607ffb0000000000000000000000000000000000000 0 s (s.stageEdges sec) :=
  .bind fun _ => Chip.stageEntries_within .refl _ _ _ (by decide)

theorem Chip.stageFaults_within (s : Chip) (sec : List Byte) :
    WithinOpt 0x47100000000000000000000000000000000000000000000000000000000000000000000000000000000000000000000000000 0 s (Chip.stageFaults s sec) := by
  unfold Chip.stageFaults
  repeat' first
    | (extract_lets +onlyGivenNames x; refine .cut (x := x) ?_ ?_; rotate_left; clear_value x; intro _; rotate_left; subst x)
    | (extract_lets +onlyGivenNames x; refine .cut (x := x.2) ?_ ?_; rotate_left; clear_value x; intro _; rotate_left; subst x)
    | (extract_lets +onlyGivenNames x; refine .cut (x := x.2.2) ?_ ?_; rotate_left; clear_value x; intro _; rotate_left; subst x)
    | (extract_lets +onlyGivenNames x; clear_value x)
    | extract_lets +onlyGivenNames _
    | with_reducible apply Within.refl
    | with_reducible assumption
    | decide
    | with_reducible exact WithinOpt.none
    | with_reducible apply WithinOpt.some
    | with_reducible apply Chip.setFields_within
    | (with_reducible apply Within.each; rotate_left; intro _ _ _)
    | split

theorem Chip.stageSpr_within (s : Chip) (sec : List Byte) :
    WithinOpt 0xf8000000000000000000000000000000000000000000000000000000000000000000000000000000000000000000000000000000 0 s (Chip.stageSpr s sec) := by
  unfold Chip.stageSpr
  repeat' first
    | (extract_lets +onlyGivenNames x; refine .cut (x := x) ?_ ?_; rotate_left; clear_value x; intro _; rotate_left; subst x)
    | (extract_lets +onlyGivenNames x; refine .cut (x := x.2) ?_ ?_; rotate_left; clear_value x; intro _; rotate_left; subst x)
    | (extract_lets +onlyGivenNames x; refine .cut (x := x.2.2) ?_ ?_; rotate_left; clear_value x; intro _; rotate_left; subst x)
    | (extract_lets +onlyGivenNames x; clear_value x)
    | extract_lets +onlyGivenNames _
    | with_reducible apply Within.refl
    | with_reducible assumption
    | decide
    | with_reducible exact WithinOpt.none
    | with_reducible apply WithinOpt.some
    | with_reducible apply Within.wrFlag
    | with_reducible apply Within.wr
    | split

end Sys2Proof.Machine
end

