-- ==== Sys2Proof/Laws/FramePrograms.lean ====
section
/-! SUPPORT. The frames of the operations of Machine/Programs.lean: the fields and the parts of the state each may change. -/

set_option linter.tactic.unusedName false

namespace Sys2Proof.Machine

theorem Chip.stageEngines_within (s : Chip) (sec : List Byte) : WithinOpt 0x710000000000000000000000000000000000000000000000000000000000 0x400 s (s.stageEngines sec) := by
  unfold Chip.stageEngines
  extract_lets mask head
  split
  · exact .none
  refine .foldlM _ .refl fun u e hu => ?_
  split
  · refine .bind fun b => ?_
    obtain ⟨count, im⟩ := b
    dsimp only
    split
    · exact .some (((Within.wr (.step (Chip.setEngine_within _ _ _) hu (by decide) (by decide)) _ _ _ (by decide)).wr _ _ _ (by decide)).wr
        _ _ _ (by decide) |>.wr _ _ _ (by decide))
    · exact .none
  · split
    · exact .some hu
    · exact .none

theorem Chip.stageLive_within (s : Chip) (sec : List Byte) :
    WithinOpt 0 8 s (Chip.stageLive s sec) := by
  unfold Chip.stageLive
  repeat' first
    | (extract_lets +onlyGivenNames x; refine .cut (x := x) ?_ ?_; rotate_left; clear_value x; intro _; rotate_left; subst x)
    | (extract_lets +onlyGivenNames x; refine .cut (x := x.2) ?_ ?_; rotate_left; clear_value x; intro _; rotate_left; subst x)
    | (extract_lets +onlyGivenNames x; refine .cut (x := x.2.2) ?_ ?_; rotate_left; clear_value x; intro _; rotate_left; subst x)
    | (extract_lets +onlyGivenNames x; clear_value x)
    | extract_lets +onlyGivenNames _
    | with_reducible apply Within.refl
    | with_reducible assumption
    | decide
    | with_reducible exact WithinOpt.none
    | with_reducible apply WithinOpt.some
    | split
    | with_reducible apply Within.set_live

end Sys2Proof.Machine
end

