-- ==== Sys2Proof/Laws/FrameRecords.lean ====
section
/-! SUPPORT. The frames of the operations of Machine/Records.lean: the fields and the parts of the state each may change. -/

set_option linter.tactic.unusedName false

namespace Sys2Proof.Machine

theorem Chip.stageInputs_within (s : Chip) (sec : List Byte) :
    WithinOpt 0 0x40000 s (Chip.stageInputs s sec) := by
  unfold Chip.stageInputs
  repeat' first
    | (extract_lets +onlyGivenNames x; refine .cut (x := x) ?_ ?_; rotate_left; clear_value x; intro _; rotate_left; subst x)
    | (extract_lets +onlyGivenNames x; refine .cut (x := x.2) ?_ ?_; rotate_left; clear_value x; intro _; rotate_left; subst x)
    | (extract_lets +onlyGivenNames x; refine .cut (x := x.2.2) ?_ ?_; rotate_left; clear_value x; intro _; rotate_left; subst x)
    | (extract_lets +onlyGivenNames x; clear_value x)
    | extract_lets +onlyGivenNames _
    | with_reducible apply Within.refl
    | with_reducible assumption
    | decide
    | with_reducible exact WithinOpt.none
    | with_reducible apply WithinOpt.some
    | with_reducible apply Within.step (Chip.setGoose_within _ _ _)
    | with_reducible apply Within.step (Chip.setStream_within _ _ _)
    | (with_reducible apply Within.each; rotate_left; intro _ _ _)
    | split

theorem Chip.stageNetwork_within (s : Chip) (sec : List Byte) : WithinOpt 0x3f003fc01f000000000000000000000000000000000000000000000000000000000000000000000000000000000000000000000000000000000000000000000 0x80000 s (s.stageNetwork sec) := by
  unfold Chip.stageNetwork
  extract_lets
  split
  · exact .none
  · exact .bindChip (Chip.stageEntries_within .refl _ _ _ (by decide)) fun u hu => .some (.set_net hu (by decide))

theorem Chip.stageStorage_within (s : Chip) (sec : List Byte) : WithinOpt 0x201ff0000000000000000000000000000000000000000000000000000000000000000000000000000000000000000000000000000000000000000000000000000000000000000000000000000000000 0x200000 s (s.stageStorage sec) := by
  unfold Chip.stageStorage
  extract_lets
  split
  · exact .none
  · refine .bindChip (Chip.stageEntries_within .refl _ _ _ (by decide)) fun u hu => ?_
    extract_lets
    split
    · exact .none
    · exact .some (.set_storage hu (by decide))

theorem Chip.stageSram_within (s : Chip) (sec : List Byte) :
    WithinOpt 0x38000 0x1000801 s (Chip.stageSram s sec) := by
  unfold Chip.stageSram
  repeat' first
    | (extract_lets +onlyGivenNames x; refine .cut (x := x) ?_ ?_; rotate_left; clear_value x; intro _; rotate_left; subst x)
    | (extract_lets +onlyGivenNames x; refine .cut (x := x.2) ?_ ?_; rotate_left; clear_value x; intro _; rotate_left; subst x)
    | (extract_lets +onlyGivenNames x; refine .cut (x := x.2.2) ?_ ?_; rotate_left; clear_value x; intro _; rotate_left; subst x)
    | (extract_lets +onlyGivenNames x; clear_value x)
    | extract_lets +onlyGivenNames _
    | with_reducible apply Within.refl
    | with_reducible assumption
    | decide
    | with_reducible exact WithinOpt.none
    | with_reducible apply WithinOpt.some
    | with_reducible apply Within.step (Chip.sramFill_within _ _ _)
    | split

end Sys2Proof.Machine
end

