-- ==== Sys2Proof/Laws/FrameSlices.lean ====
section
/-! SUPPORT. The frames of the operations of Machine/Slices.lean: the fields and the parts of the state each may change. -/

set_option linter.tactic.unusedName false

namespace Sys2Proof.Machine

theorem Chip.setSliceRun_within (s : Chip) (track : Nat) (r : Option SliceRun) :
    Within 0 0x400000 s (Chip.setSliceRun s track r) := by
  unfold Chip.setSliceRun
  repeat' first
    | (extract_lets +onlyGivenNames x; refine .cut (x := x) ?_ ?_; rotate_left; clear_value x; intro _; rotate_left; subst x)
    | (extract_lets +onlyGivenNames x; refine .cut (x := x.2) ?_ ?_; rotate_left; clear_value x; intro _; rotate_left; subst x)
    | (extract_lets +onlyGivenNames x; refine .cut (x := x.2.2) ?_ ?_; rotate_left; clear_value x; intro _; rotate_left; subst x)
    | (extract_lets +onlyGivenNames x; clear_value x)
    | extract_lets +onlyGivenNames _
    | with_reducible apply Within.refl
    | with_reducible assumption
    | decide
    | split
    | with_reducible apply Within.set_slices

theorem Chip.skipInst_within (s : Chip) (i : Nat) :
    Within 0x80000000000000000000000000000000000000000000000000000000000000000000000000000000000000000040000000000000000000000000000000000000000000000000000000 0x400000 s (Chip.skipInst s i) := by
  unfold Chip.skipInst
  repeat' first
    | (extract_lets +onlyGivenNames x; refine .cut (x := x) ?_ ?_; rotate_left; clear_value x; intro _; rotate_left; subst x)
    | (extract_lets +onlyGivenNames x; refine .cut (x := x.2) ?_ ?_; rotate_left; clear_value x; intro _; rotate_left; subst x)
    | (extract_lets +onlyGivenNames x; refine .cut (x := x.2.2) ?_ ?_; rotate_left; clear_value x; intro _; rotate_left; subst x)
    | (extract_lets +onlyGivenNames x; clear_value x)
    | extract_lets +onlyGivenNames _
    | with_reducible apply Within.refl
    | with_reducible assumption
    | decide
    | with_reducible apply Within.count
    | with_reducible apply Within.wr
    | split
    | with_reducible apply Within.set_slices

theorem Chip.showSlices_within (s : Chip) :
    Within 0x10000000000000000000000000000000000000000000000000000000000000000000000000000000000000003c0000000000000000000000000000000000000000000000000000000 0 s (Chip.showSlices s) := by
  unfold Chip.showSlices
  repeat' first
    | (extract_lets +onlyGivenNames x; refine .cut (x := x) ?_ ?_; rotate_left; clear_value x; intro _; rotate_left; subst x)
    | (extract_lets +onlyGivenNames x; refine .cut (x := x.2) ?_ ?_; rotate_left; clear_value x; intro _; rotate_left; subst x)
    | (extract_lets +onlyGivenNames x; refine .cut (x := x.2.2) ?_ ?_; rotate_left; clear_value x; intro _; rotate_left; subst x)
    | (extract_lets +onlyGivenNames x; clear_value x)
    | extract_lets +onlyGivenNames _
    | with_reducible apply Within.refl
    | with_reducible assumption
    | decide
    | with_reducible apply Within.step (Chip.engineStat_within _)
    | with_reducible apply Within.wr
    | split

theorem Chip.cycleEnd_within (s : Chip) :
    Within 0xe500000000000000000000000000000000000000000000000000000000000000000000000000000000000000000000000000000000000000000000000000000000000000000000000 0 s (Chip.cycleEnd s) := by
  unfold Chip.cycleEnd
  repeat' first
    | (extract_lets +onlyGivenNames x; refine .cut (x := x) ?_ ?_; rotate_left; clear_value x; intro _; rotate_left; subst x)
    | (extract_lets +onlyGivenNames x; refine .cut (x := x.2) ?_ ?_; rotate_left; clear_value x; intro _; rotate_left; subst x)
    | (extract_lets +onlyGivenNames x; refine .cut (x := x.2.2) ?_ ?_; rotate_left; clear_value x; intro _; rotate_left; subst x)
    | (extract_lets +onlyGivenNames x; clear_value x)
    | extract_lets +onlyGivenNames _
    | with_reducible apply Within.refl
    | with_reducible assumption
    | decide
    | with_reducible apply Within.wrFlag
    | with_reducible apply Within.wr
    | split

theorem Chip.cycleStart_within (s : Chip) :
    Within 0x8e500000000000000000000000000000000000000000000000000000000000000000000000000000000000000040000000000000000000000000000000000000000000000000000000 0x404000 s (Chip.cycleStart s) := by
  unfold Chip.cycleStart
  repeat' first
    | (extract_lets +onlyGivenNames x; refine .cut (x := x) ?_ ?_; rotate_left; clear_value x; intro _; rotate_left; subst x)
    | (extract_lets +onlyGivenNames x; refine .cut (x := x.2) ?_ ?_; rotate_left; clear_value x; intro _; rotate_left; subst x)
    | (extract_lets +onlyGivenNames x; refine .cut (x := x.2.2) ?_ ?_; rotate_left; clear_value x; intro _; rotate_left; subst x)
    | (extract_lets +onlyGivenNames x; clear_value x)
    | extract_lets +onlyGivenNames _
    | with_reducible apply Within.refl
    | with_reducible assumption
    | decide
    | with_reducible apply Within.step (Chip.cycleEnd_within _)
    | with_reducible apply Within.step (Chip.skipInst_within _ _)
    | with_reducible apply Within.wr
    | (with_reducible apply Within.each; rotate_left; intro _ _ _)
    | split
    | with_reducible apply Within.set_converter
    | with_reducible apply Within.set_slices

theorem Chip.cycleLate_within (s : Chip) :
    Within 0x200000000000000000000000000000000000000000000000000000000000000000000000000000000000000000000000000000000000000000000000000000000000000000000000 0x400800 s (Chip.cycleLate s) := by
  unfold Chip.cycleLate
  repeat' first
    | (extract_lets +onlyGivenNames x; refine .cut (x := x) ?_ ?_; rotate_left; clear_value x; intro _; rotate_left; subst x)
    | (extract_lets +onlyGivenNames x; refine .cut (x := x.2) ?_ ?_; rotate_left; clear_value x; intro _; rotate_left; subst x)
    | (extract_lets +onlyGivenNames x; refine .cut (x := x.2.2) ?_ ?_; rotate_left; clear_value x; intro _; rotate_left; subst x)
    | (extract_lets +onlyGivenNames x; clear_value x)
    | extract_lets +onlyGivenNames _
    | with_reducible apply Within.refl
    | with_reducible assumption
    | decide
    | with_reducible apply Within.step (Chip.raise_within _ _)
    | with_reducible apply Within.wr
    | split
    | with_reducible apply Within.set_slices

theorem Chip.dropQueue_within (s : Chip) (track : Nat) :
    Within 0 0x400000 s (Chip.dropQueue s track) := by
  unfold Chip.dropQueue
  repeat' first
    | (extract_lets +onlyGivenNames x; refine .cut (x := x) ?_ ?_; rotate_left; clear_value x; intro _; rotate_left; subst x)
    | (extract_lets +onlyGivenNames x; refine .cut (x := x.2) ?_ ?_; rotate_left; clear_value x; intro _; rotate_left; subst x)
    | (extract_lets +onlyGivenNames x; refine .cut (x := x.2.2) ?_ ?_; rotate_left; clear_value x; intro _; rotate_left; subst x)
    | (extract_lets +onlyGivenNames x; clear_value x)
    | extract_lets +onlyGivenNames _
    | with_reducible apply Within.refl
    | with_reducible assumption
    | decide
    | split
    | with_reducible apply Within.set_slices

theorem Chip.sliceLeave_within (s : Chip) (i : Nat) :
    Within 0x40000000004501000000000000000000000000000000000000000000000000000000000000000000000000000000000000000000000000000000000000000000000000000000000000 0x2000 s (Chip.sliceLeave s i).2 := by
  unfold Chip.sliceLeave
  repeat' first
    | (extract_lets +onlyGivenNames x; refine .cut (x := x) ?_ ?_; rotate_left; clear_value x; intro _; rotate_left; subst x)
    | (extract_lets +onlyGivenNames x; refine .cut (x := x.2) ?_ ?_; rotate_left; clear_value x; intro _; rotate_left; subst x)
    | (extract_lets +onlyGivenNames x; refine .cut (x := x.2.2) ?_ ?_; rotate_left; clear_value x; intro _; rotate_left; subst x)
    | (extract_lets +onlyGivenNames x; clear_value x)
    | extract_lets +onlyGivenNames _
    | with_reducible apply Within.refl
    | with_reducible assumption
    | decide
    | with_reducible apply Within.step (Chip.askLeave_within _ _)
    | with_reducible apply Within.count
    | (with_reducible apply Within.onlyIf; rotate_left; intro _ _)
    | split

theorem Chip.carry_within (s : Chip) (i : Nat) (spare : Nat) :
    Within 0x803c0000000000000200000000000000000000000000000000000000000 0x400000 s (Chip.carry s i spare).2 := by
  unfold Chip.carry
  repeat' first
    | (extract_lets +onlyGivenNames x; refine .cut (x := x) ?_ ?_; rotate_left; clear_value x; intro _; rotate_left; subst x)
    | (extract_lets +onlyGivenNames x; refine .cut (x := x.2) ?_ ?_; rotate_left; clear_value x; intro _; rotate_left; subst x)
    | (extract_lets +onlyGivenNames x; refine .cut (x := x.2.2) ?_ ?_; rotate_left; clear_value x; intro _; rotate_left; subst x)
    | (extract_lets +onlyGivenNames x; clear_value x)
    | extract_lets +onlyGivenNames _
    | with_reducible apply Within.refl
    | with_reducible assumption
    | decide
    | with_reducible apply Within.step (Chip.engineStat_within _)
    | with_reducible apply Within.wr
    | split
    | with_reducible apply Within.set_slices

theorem Chip.handBack_within (s : Chip) (r : SliceRun) :
    Within 0x803c0000000000000200000000000000000000000000000000000000000 0x400000 s (Chip.handBack s r) := by
  unfold Chip.handBack
  repeat' first
    | (extract_lets +onlyGivenNames x; refine .cut (x := x) ?_ ?_; rotate_left; clear_value x; intro _; rotate_left; subst x)
    | (extract_lets +onlyGivenNames x; refine .cut (x := x.2) ?_ ?_; rotate_left; clear_value x; intro _; rotate_left; subst x)
    | (extract_lets +onlyGivenNames x; refine .cut (x := x.2.2) ?_ ?_; rotate_left; clear_value x; intro _; rotate_left; subst x)
    | (extract_lets +onlyGivenNames x; clear_value x)
    | extract_lets +onlyGivenNames _
    | with_reducible apply Within.refl
    | with_reducible assumption
    | decide
    | with_reducible apply Within.step (Chip.engineStat_within _)
    | with_reducible apply Within.wr
    | split
    | with_reducible apply Within.set_slices

theorem Chip.sliceBegin_within (s : Chip) (i : Nat) :
    Within 0xcf5000000045010000000000000000000000000000000000000000000000000000000000000000000000000803c0000000000000200000000000000000000000000000000000000000 0x402000 s (Chip.sliceBegin s i) := by
  unfold Chip.sliceBegin
  repeat' first
    | (extract_lets +onlyGivenNames x; refine .cut (x := x) ?_ ?_; rotate_left; clear_value x; intro _; rotate_left; subst x)
    | (extract_lets +onlyGivenNames x; refine .cut (x := x.2) ?_ ?_; rotate_left; clear_value x; intro _; rotate_left; subst x)
    | (extract_lets +onlyGivenNames x; refine .cut (x := x.2.2) ?_ ?_; rotate_left; clear_value x; intro _; rotate_left; subst x)
    | (extract_lets +onlyGivenNames x; clear_value x)
    | extract_lets +onlyGivenNames _
    | with_reducible apply Within.refl
    | with_reducible assumption
    | decide
    | with_reducible apply Within.step (Chip.carry_within _ _ _)
    | with_reducible apply Within.step (Chip.cycleEnd_within _)
    | with_reducible apply Within.step (Chip.dropQueue_within _ _)
    | with_reducible apply Within.step (Chip.setSliceRun_within _ _ _)
    | with_reducible apply Within.step (Chip.showSlices_within _)
    | with_reducible apply Within.step (Chip.skipInst_within _ _)
    | with_reducible apply Within.step (Chip.sliceLeave_within _ _)
    | split

theorem Chip.ceSlice_within (s : Chip) (p : Nat) :
    Within 0xcf5000000045010000000000000000000000000000000000000000000000000000000000000000000000000803c0000000000000200000000000000000000000000000000000000000 0x402000 s (Chip.ceSlice s p) := by
  unfold Chip.ceSlice
  repeat' first
    | (extract_lets +onlyGivenNames x; refine .cut (x := x) ?_ ?_; rotate_left; clear_value x; intro _; rotate_left; subst x)
    | (extract_lets +onlyGivenNames x; refine .cut (x := x.2) ?_ ?_; rotate_left; clear_value x; intro _; rotate_left; subst x)
    | (extract_lets +onlyGivenNames x; refine .cut (x := x.2.2) ?_ ?_; rotate_left; clear_value x; intro _; rotate_left; subst x)
    | (extract_lets +onlyGivenNames x; clear_value x)
    | extract_lets +onlyGivenNames _
    | with_reducible apply Within.refl
    | with_reducible assumption
    | decide
    | with_reducible apply Within.step (Chip.sliceBegin_within _ _)
    | with_reducible apply Within.count
    | split

theorem Chip.vaultClear_within (s : Chip) :
    Within 0x2803000000000000000000000000000000000000000000000000000000000000000000000000000000000000000000000000000000000000000000000000000000000000000000000000000000000000000 0x820000 s (Chip.vaultClear s) := by
  unfold Chip.vaultClear
  repeat' first
    | (extract_lets +onlyGivenNames x; refine .cut (x := x) ?_ ?_; rotate_left; clear_value x; intro _; rotate_left; subst x)
    | (extract_lets +onlyGivenNames x; refine .cut (x := x.2) ?_ ?_; rotate_left; clear_value x; intro _; rotate_left; subst x)
    | (extract_lets +onlyGivenNames x; refine .cut (x := x.2.2) ?_ ?_; rotate_left; clear_value x; intro _; rotate_left; subst x)
    | (extract_lets +onlyGivenNames x; clear_value x)
    | extract_lets +onlyGivenNames _
    | with_reducible apply Within.refl
    | with_reducible assumption
    | decide
    | with_reducible apply Within.step (Chip.voidChallenge_within _)
    | with_reducible apply Within.step (Chip.voidNonce_within _ _)
    | with_reducible apply Within.wr
    | (with_reducible apply Within.each; rotate_left; intro _ _ _)
    | split

theorem Chip.scanSecurity_within (s : Chip) :
    Within 0x2803000000000000000000000000000000000000000000000000000000000000000000000000000000000000000000000000000000000000000000000000000000000000000000000000000000000000000 0x820000 s (Chip.scanSecurity s) := by
  unfold Chip.scanSecurity
  repeat' first
    | (extract_lets +onlyGivenNames x; refine .cut (x := x) ?_ ?_; rotate_left; clear_value x; intro _; rotate_left; subst x)
    | (extract_lets +onlyGivenNames x; refine .cut (x := x.2) ?_ ?_; rotate_left; clear_value x; intro _; rotate_left; subst x)
    | (extract_lets +onlyGivenNames x; refine .cut (x := x.2.2) ?_ ?_; rotate_left; clear_value x; intro _; rotate_left; subst x)
    | (extract_lets +onlyGivenNames x; clear_value x)
    | extract_lets +onlyGivenNames _
    | with_reducible apply Within.refl
    | with_reducible assumption
    | decide
    | with_reducible apply Within.step (Chip.vaultClear_within _)
    | split
    | with_reducible apply Within.set_security

theorem Chip.securitySlice_within (s : Chip) :
    Within 0x28030000000000000cf5000000045010000000000000000000000000000000000000000000000000000000000000000000000000803c0000000000000200000000000000000000000000000000000000000 0xc22000 s (Chip.securitySlice s) := by
  unfold Chip.securitySlice
  repeat' first
    | (extract_lets +onlyGivenNames x; refine .cut (x := x) ?_ ?_; rotate_left; clear_value x; intro _; rotate_left; subst x)
    | (extract_lets +onlyGivenNames x; refine .cut (x := x.2) ?_ ?_; rotate_left; clear_value x; intro _; rotate_left; subst x)
    | (extract_lets +onlyGivenNames x; refine .cut (x := x.2.2) ?_ ?_; rotate_left; clear_value x; intro _; rotate_left; subst x)
    | (extract_lets +onlyGivenNames x; clear_value x)
    | extract_lets +onlyGivenNames _
    | with_reducible apply Within.refl
    | with_reducible assumption
    | decide
    | with_reducible apply Within.step (Chip.scanSecurity_within _)
    | with_reducible apply Within.step (Chip.sliceBegin_within _ _)
    | split

theorem Chip.noteRetired_within (s : Chip) (kind : Nat) (index : Nat) :
    Within 0x710000000000000000000000000000000000000000000000000000000000000000000000000000000000000000000000000000000000000000000000000000000000000000000000000 0x800 s (Chip.noteRetired s kind index) := by
  unfold Chip.noteRetired
  repeat' first
    | (extract_lets +onlyGivenNames x; refine .cut (x := x) ?_ ?_; rotate_left; clear_value x; intro _; rotate_left; subst x)
    | (extract_lets +onlyGivenNames x; refine .cut (x := x.2) ?_ ?_; rotate_left; clear_value x; intro _; rotate_left; subst x)
    | (extract_lets +onlyGivenNames x; refine .cut (x := x.2.2) ?_ ?_; rotate_left; clear_value x; intro _; rotate_left; subst x)
    | (extract_lets +onlyGivenNames x; clear_value x)
    | extract_lets +onlyGivenNames _
    | with_reducible apply Within.refl
    | with_reducible assumption
    | decide
    | with_reducible apply Within.step (Chip.raise_within _ _)
    | with_reducible apply Within.count
    | with_reducible apply Within.wr
    | split

theorem Chip.retireEngine_within (s : Chip) (p : Nat) :
    Within 0xe03c0000000000000000000000000000000000000000010000000000000 0x820 s (Chip.retireEngine s p) := by
  unfold Chip.retireEngine
  repeat' first
    | (extract_lets +onlyGivenNames x; refine .cut (x := x) ?_ ?_; rotate_left; clear_value x; intro _; rotate_left; subst x)
    | (extract_lets +onlyGivenNames x; refine .cut (x := x.2) ?_ ?_; rotate_left; clear_value x; intro _; rotate_left; subst x)
    | (extract_lets +onlyGivenNames x; refine .cut (x := x.2.2) ?_ ?_; rotate_left; clear_value x; intro _; rotate_left; subst x)
    | (extract_lets +onlyGivenNames x; clear_value x)
    | extract_lets +onlyGivenNames _
    | with_reducible apply Within.refl
    | with_reducible assumption
    | decide
    | with_reducible apply Within.step (Chip.engineStat_within _)
    | with_reducible apply Within.step (Chip.raise_within _ _)
    | with_reducible apply Within.step (Chip.unusable_within _ _)
    | with_reducible apply Within.wrBit
    | with_reducible apply Within.wr
    | split

theorem Chip.retireEdge_within (s : Chip) (n : Nat) :
    Within 0x80000000000000000000000000000000000000000000000000000000000000000000000000000000000000000000000000000000020000000000000000000000000000dc00000000000 0x220 s (Chip.retireEdge s n) := by
  unfold Chip.retireEdge
  repeat' first
    | (extract_lets +onlyGivenNames x; refine .cut (x := x) ?_ ?_; rotate_left; clear_value x; intro _; rotate_left; subst x)
    | (extract_lets +onlyGivenNames x; refine .cut (x := x.2) ?_ ?_; rotate_left; clear_value x; intro _; rotate_left; subst x)
    | (extract_lets +onlyGivenNames x; refine .cut (x := x.2.2) ?_ ?_; rotate_left; clear_value x; intro _; rotate_left; subst x)
    | (extract_lets +onlyGivenNames x; clear_value x)
    | extract_lets +onlyGivenNames _
    | with_reducible apply Within.refl
    | with_reducible assumption
    | decide
    | with_reducible apply Within.step (Chip.setCell_within _ _ _)
    | with_reducible apply Within.step (Chip.setEdgeReady_within _ _ _)
    | with_reducible apply Within.wrBit
    | with_reducible apply Within.wr
    | split
    | with_reducible apply Within.set_arms

theorem Chip.retire_within (s : Chip) (kind : Nat) (n : Nat) :
    Within 0x40400000000007ff100000000000000000000000000000000000000000000000000000000000000000000000000000000000000e03c000000000000020000000000000000000000000001dc00000000000 0x808b20 s (Chip.retire s kind n) := by
  unfold Chip.retire
  repeat' first
    | (extract_lets +onlyGivenNames x; refine .cut (x := x) ?_ ?_; rotate_left; clear_value x; intro _; rotate_left; subst x)
    | (extract_lets +onlyGivenNames x; refine .cut (x := x.2) ?_ ?_; rotate_left; clear_value x; intro _; rotate_left; subst x)
    | (extract_lets +onlyGivenNames x; refine .cut (x := x.2.2) ?_ ?_; rotate_left; clear_value x; intro _; rotate_left; subst x)
    | (extract_lets +onlyGivenNames x; clear_value x)
    | extract_lets +onlyGivenNames _
    | with_reducible apply Within.refl
    | with_reducible assumption
    | decide
    | with_reducible apply Within.step (Chip.lockDebug_within _)
    | with_reducible apply Within.step (Chip.noteRetired_within _ _ _)
    | with_reducible apply Within.step (Chip.retireEdge_within _ _)
    | with_reducible apply Within.step (Chip.retireEngine_within _ _)
    | with_reducible apply Within.step (Chip.setEdgeReady_within _ _ _)
    | (with_reducible apply Chip.withOutputs_within; rotate_left; intro _ _)
    | with_reducible apply Within.wrBit
    | with_reducible apply Within.wr
    | split
    | with_reducible apply Within.set_security

theorem Chip.eeLMismatch_within (s : Chip) :
    Within 0x40400000000007ff100000000000000000000000000000000000000000000000000000000000000000000000000000000000000e03c000000000000020000000000000000000000000001dc00000000000 0x808b20 s (Chip.eeLMismatch s) := by
  unfold Chip.eeLMismatch
  repeat' first
    | (extract_lets +onlyGivenNames x; refine .cut (x := x) ?_ ?_; rotate_left; clear_value x; intro _; rotate_left; subst x)
    | (extract_lets +onlyGivenNames x; refine .cut (x := x.2) ?_ ?_; rotate_left; clear_value x; intro _; rotate_left; subst x)
    | (extract_lets +onlyGivenNames x; refine .cut (x := x.2.2) ?_ ?_; rotate_left; clear_value x; intro _; rotate_left; subst x)
    | (extract_lets +onlyGivenNames x; clear_value x)
    | extract_lets +onlyGivenNames _
    | with_reducible apply Within.refl
    | with_reducible assumption
    | decide
    | with_reducible apply Within.step (Chip.retire_within _ _ _)
    | split

theorem Chip.slicePassed_within (s : Chip) (track : Nat) (r : SliceRun) :
    Within 0x72f5000000045010000000000000000000000000000000000000000000000000000000000000000000000000003c0000000000000000000000000000000000000000000000000000000 0xc02000 s (Chip.slicePassed s track r) := by
  unfold Chip.slicePassed
  repeat' first
    | (extract_lets +onlyGivenNames x; refine .cut (x := x) ?_ ?_; rotate_left; clear_value x; intro _; rotate_left; subst x)
    | (extract_lets +onlyGivenNames x; refine .cut (x := x.2) ?_ ?_; rotate_left; clear_value x; intro _; rotate_left; subst x)
    | (extract_lets +onlyGivenNames x; refine .cut (x := x.2.2) ?_ ?_; rotate_left; clear_value x; intro _; rotate_left; subst x)
    | (extract_lets +onlyGivenNames x; clear_value x)
    | extract_lets +onlyGivenNames _
    | with_reducible apply Within.refl
    | with_reducible assumption
    | decide
    | with_reducible apply Within.step (Chip.cycleEnd_within _)
    | with_reducible apply Within.step (Chip.returnLeave_within _ _)
    | with_reducible apply Within.step (Chip.setSliceRun_within _ _ _)
    | with_reducible apply Within.step (Chip.showSlices_within _)
    | with_reducible apply Within.count
    | with_reducible apply Within.wr
    | split
    | with_reducible apply Within.set_security

theorem Chip.sliceFailed_within (s : Chip) (track : Nat) (r : SliceRun) :
    Within 0x40400000000007ff1f5000000045010000000000000000000000000000000000000000000000000000000000000000000000000e03c000000000000020000000000000000000000000001dc00000000000 0xc0ab20 s (Chip.sliceFailed s track r) := by
  unfold Chip.sliceFailed
  repeat' first
    | (extract_lets +onlyGivenNames x; refine .cut (x := x) ?_ ?_; rotate_left; clear_value x; intro _; rotate_left; subst x)
    | (extract_lets +onlyGivenNames x; refine .cut (x := x.2) ?_ ?_; rotate_left; clear_value x; intro _; rotate_left; subst x)
    | (extract_lets +onlyGivenNames x; refine .cut (x := x.2.2) ?_ ?_; rotate_left; clear_value x; intro _; rotate_left; subst x)
    | (extract_lets +onlyGivenNames x; clear_value x)
    | extract_lets +onlyGivenNames _
    | with_reducible apply Within.refl
    | with_reducible assumption
    | decide
    | with_reducible apply Within.step (Chip.cycleEnd_within _)
    | with_reducible apply Within.step (Chip.retire_within _ _ _)
    | with_reducible apply Within.step (Chip.returnLeave_within _ _)
    | with_reducible apply Within.step (Chip.setSliceRun_within _ _ _)
    | with_reducible apply Within.step (Chip.showSlices_within _)
    | split

theorem Chip.signatureCompare_within (s : Chip) (track : Nat) (signature : Nat) :
    Within 0x40400000000007ff3f5000000045010000000000000000000000000000000000000000000000000000000000000000000000000e03c000000000000020000000000000000000000000001dc00000000000 0xc0ab20 s (Chip.signatureCompare s track signature) := by
  unfold Chip.signatureCompare
  repeat' first
    | (extract_lets +onlyGivenNames x; refine .cut (x := x) ?_ ?_; rotate_left; clear_value x; intro _; rotate_left; subst x)
    | (extract_lets +onlyGivenNames x; refine .cut (x := x.2) ?_ ?_; rotate_left; clear_value x; intro _; rotate_left; subst x)
    | (extract_lets +onlyGivenNames x; refine .cut (x := x.2.2) ?_ ?_; rotate_left; clear_value x; intro _; rotate_left; subst x)
    | (extract_lets +onlyGivenNames x; clear_value x)
    | extract_lets +onlyGivenNames _
    | with_reducible apply Within.refl
    | with_reducible assumption
    | decide
    | with_reducible apply Within.step (Chip.askLeave_within _ _)
    | with_reducible apply Within.step (Chip.returnLeave_within _ _)
    | with_reducible apply Within.step (Chip.setSliceRun_within _ _ _)
    | with_reducible apply Within.step (Chip.sliceFailed_within _ _ _)
    | with_reducible apply Within.step (Chip.slicePassed_within _ _ _)
    | split

theorem Chip.sliceHandback_within (s : Chip) (track : Nat) :
    Within 0xf5000000000000000000000000000000000000000000000000000000000000000000000000000000000000803c0000000000000200000000000000000000000000000000000000000 0x400000 s (Chip.sliceHandback s track) := by
  unfold Chip.sliceHandback
  repeat' first
    | (extract_lets +onlyGivenNames x; refine .cut (x := x) ?_ ?_; rotate_left; clear_value x; intro _; rotate_left; subst x)
    | (extract_lets +onlyGivenNames x; refine .cut (x := x.2) ?_ ?_; rotate_left; clear_value x; intro _; rotate_left; subst x)
    | (extract_lets +onlyGivenNames x; refine .cut (x := x.2.2) ?_ ?_; rotate_left; clear_value x; intro _; rotate_left; subst x)
    | (extract_lets +onlyGivenNames x; clear_value x)
    | extract_lets +onlyGivenNames _
    | with_reducible apply Within.refl
    | with_reducible assumption
    | decide
    | with_reducible apply Within.step (Chip.cycleEnd_within _)
    | with_reducible apply Within.step (Chip.handBack_within _ _)
    | with_reducible apply Within.step (Chip.setSliceRun_within _ _ _)
    | with_reducible apply Within.step (Chip.showSlices_within _)
    | split

theorem Chip.pcsTimeout_within (s : Chip) (lane : Nat) :
    Within 0xf5000000000000000000000000000008000000000000000000000000000000000000000000000000000000803de00000000000020000000000016f000000000000002380200000000 0x4002a0 s (Chip.pcsTimeout s lane) := by
  unfold Chip.pcsTimeout
  repeat' first
    | (extract_lets +onlyGivenNames x; refine .cut (x := x) ?_ ?_; rotate_left; clear_value x; intro _; rotate_left; subst x)
    | (extract_lets +onlyGivenNames x; refine .cut (x := x.2) ?_ ?_; rotate_left; clear_value x; intro _; rotate_left; subst x)
    | (extract_lets +onlyGivenNames x; refine .cut (x := x.2.2) ?_ ?_; rotate_left; clear_value x; intro _; rotate_left; subst x)
    | (extract_lets +onlyGivenNames x; clear_value x)
    | extract_lets +onlyGivenNames _
    | with_reducible apply Within.refl
    | with_reducible assumption
    | decide
    | with_reducible apply Within.step (Chip.cycleEnd_within _)
    | with_reducible apply Within.step (Chip.handBack_within _ _)
    | with_reducible apply Within.step (Chip.laneReset_within _ _)
    | with_reducible apply Within.step (Chip.setSliceRun_within _ _ _)
    | with_reducible apply Within.step (Chip.showSlices_within _)
    | split

theorem Chip.wireBegin_within (s : Chip) (w : Nat) :
    Within 0x410000000045010000000000000000000000000000000000000000000000000000000000000000000000000003c0000000000000000000000000000000000000000000000000000000 0x402000 s (Chip.wireBegin s w) := by
  unfold Chip.wireBegin
  repeat' first
    | (extract_lets +onlyGivenNames x; refine .cut (x := x) ?_ ?_; rotate_left; clear_value x; intro _; rotate_left; subst x)
    | (extract_lets +onlyGivenNames x; refine .cut (x := x.2) ?_ ?_; rotate_left; clear_value x; intro _; rotate_left; subst x)
    | (extract_lets +onlyGivenNames x; refine .cut (x := x.2.2) ?_ ?_; rotate_left; clear_value x; intro _; rotate_left; subst x)
    | (extract_lets +onlyGivenNames x; clear_value x)
    | extract_lets +onlyGivenNames _
    | with_reducible apply Within.refl
    | with_reducible assumption
    | decide
    | with_reducible apply Within.step (Chip.dropQueue_within _ _)
    | with_reducible apply Within.step (Chip.setSliceRun_within _ _ _)
    | with_reducible apply Within.step (Chip.showSlices_within _)
    | with_reducible apply Within.step (Chip.sliceLeave_within _ _)
    | split

theorem Chip.wireEnd_within (s : Chip) (w : Nat) (r : SliceRun) (latched : List Nat) :
    Within 0x40400000000007ff1f5000000045010000000000000000000000000000000000000000000000000000000000000000000000000e03c000000000000020000000000000000000000000001dc00000000000 0xc0ab20 s (Chip.wireEnd s w r latched) := by
  unfold Chip.wireEnd
  repeat' first
    | (extract_lets +onlyGivenNames x; refine .cut (x := x) ?_ ?_; rotate_left; clear_value x; intro _; rotate_left; subst x)
    | (extract_lets +onlyGivenNames x; refine .cut (x := x.2) ?_ ?_; rotate_left; clear_value x; intro _; rotate_left; subst x)
    | (extract_lets +onlyGivenNames x; refine .cut (x := x.2.2) ?_ ?_; rotate_left; clear_value x; intro _; rotate_left; subst x)
    | (extract_lets +onlyGivenNames x; clear_value x)
    | extract_lets +onlyGivenNames _
    | with_reducible apply Within.refl
    | with_reducible assumption
    | decide
    | with_reducible apply Within.step (Chip.cycleEnd_within _)
    | with_reducible apply Within.step (Chip.retire_within _ _ _)
    | with_reducible apply Within.step (Chip.returnLeave_within _ _)
    | with_reducible apply Within.step (Chip.setSliceRun_within _ _ _)
    | with_reducible apply Within.step (Chip.showSlices_within _)
    | split

theorem Chip.wireTest_within (s : Chip) (w : Nat) (latched : List Nat) :
    Within 0x40400000000007ff5f5000000045010000000000000000000000000000000000000000000000000000000000000000000000000e03c000000000000020000000000000000000000000001dc00000000000 0xc0ab20 s (Chip.wireTest s w latched) := by
  unfold Chip.wireTest
  repeat' first
    | (extract_lets +onlyGivenNames x; refine .cut (x := x) ?_ ?_; rotate_left; clear_value x; intro _; rotate_left; subst x)
    | (extract_lets +onlyGivenNames x; refine .cut (x := x.2) ?_ ?_; rotate_left; clear_value x; intro _; rotate_left; subst x)
    | (extract_lets +onlyGivenNames x; refine .cut (x := x.2.2) ?_ ?_; rotate_left; clear_value x; intro _; rotate_left; subst x)
    | (extract_lets +onlyGivenNames x; clear_value x)
    | extract_lets +onlyGivenNames _
    | with_reducible apply Within.refl
    | with_reducible assumption
    | decide
    | with_reducible apply Within.step (Chip.wireBegin_within _ _)
    | with_reducible apply Within.step (Chip.wireEnd_within _ _ _ _)
    | split

theorem Chip.supplyCheck_within (s : Chip) (n : Nat) (vdrv : Int) (vneg : Int) :
    Within 0x40400000000007ff100000000000000000000000000000000000000000000000000000000000000000000000000000000000000e03c000000000000020000000000000000000000000001dc00000000000 0xc08b20 s (Chip.supplyCheck s n vdrv vneg) := by
  unfold Chip.supplyCheck
  repeat' first
    | (extract_lets +onlyGivenNames x; refine .cut (x := x) ?_ ?_; rotate_left; clear_value x; intro _; rotate_left; subst x)
    | (extract_lets +onlyGivenNames x; refine .cut (x := x.2) ?_ ?_; rotate_left; clear_value x; intro _; rotate_left; subst x)
    | (extract_lets +onlyGivenNames x; refine .cut (x := x.2.2) ?_ ?_; rotate_left; clear_value x; intro _; rotate_left; subst x)
    | (extract_lets +onlyGivenNames x; clear_value x)
    | extract_lets +onlyGivenNames _
    | with_reducible apply Within.refl
    | with_reducible assumption
    | decide
    | with_reducible apply Within.step (Chip.retire_within _ _ _)
    | split
    | with_reducible apply Within.set_slices

theorem Chip.instReady_within (s : Chip) (i : Nat) :
    Within 0x1dc00000000000 0x20 s (Chip.instReady s i) := by
  unfold Chip.instReady
  repeat' first
    | (extract_lets +onlyGivenNames x; refine .cut (x := x) ?_ ?_; rotate_left; clear_value x; intro _; rotate_left; subst x)
    | (extract_lets +onlyGivenNames x; refine .cut (x := x.2) ?_ ?_; rotate_left; clear_value x; intro _; rotate_left; subst x)
    | (extract_lets +onlyGivenNames x; refine .cut (x := x.2.2) ?_ ?_; rotate_left; clear_value x; intro _; rotate_left; subst x)
    | (extract_lets +onlyGivenNames x; clear_value x)
    | extract_lets +onlyGivenNames _
    | with_reducible apply Within.refl
    | with_reducible assumption
    | decide
    | with_reducible apply Within.step (Chip.setEdgeReady_within _ _ _)
    | with_reducible apply Within.wrBit
    | split

theorem Chip.powerOnTest_within (s : Chip) (failed : List Nat) :
    Within 0x2c0700000000007ff100000000000000000000000000000000000000000000000000000000000000000000000000000000000000e03c000000000000020000000000000000000000000001dc00000000000 0xc28b20 s (Chip.powerOnTest s failed) := by
  unfold Chip.powerOnTest
  repeat' first
    | (extract_lets +onlyGivenNames x; refine .cut (x := x) ?_ ?_; rotate_left; clear_value x; intro _; rotate_left; subst x)
    | (extract_lets +onlyGivenNames x; refine .cut (x := x.2) ?_ ?_; rotate_left; clear_value x; intro _; rotate_left; subst x)
    | (extract_lets +onlyGivenNames x; refine .cut (x := x.2.2) ?_ ?_; rotate_left; clear_value x; intro _; rotate_left; subst x)
    | (extract_lets +onlyGivenNames x; clear_value x)
    | extract_lets +onlyGivenNames _
    | with_reducible apply Within.refl
    | with_reducible assumption
    | decide
    | with_reducible apply Within.step (Chip.engineStat_within _)
    | with_reducible apply Within.step (Chip.instReady_within _ _)
    | with_reducible apply Within.step (Chip.retire_within _ _ _)
    | with_reducible apply Within.step (Chip.scanSecurity_within _)
    | (with_reducible apply Within.each; rotate_left; intro _ _ _)
    | (with_reducible apply Within.onlyIf; rotate_left; intro _ _)
    | split
    | with_reducible apply Within.set_modes_slices_security

end Sys2Proof.Machine
end

