-- ==== Sys2Proof/Laws/FrameSecurity.lean ====
section
/-! SUPPORT. The frames of the operations of Machine/Security.lean: the fields and the parts of the state each may change. -/

set_option linter.tactic.unusedName false

namespace Sys2Proof.Machine

theorem Chip.wrBytes_within {F C : Nat} {s x : Chip} (k : Within F C s x) (f : Fld) (bs : List Byte) (words : Nat)
    (h : F.testBit f.ctorIdx = true) : Within F C s (x.wrBytes f bs words) := k.each _ fun _ n hu => hu.wr f _ n h

theorem Chip.startFirmware_within (s : Chip) (second : Bool) (higher : Bool) (c : SlotCopy) :
    Within 0x8260000000000000000000000000000000000000000000000000000000000000000000000000000000000000000000000000000000000000000000000000000000000000000000000000000000000038000 0x1800801 s (Chip.startFirmware s second higher c) := by
  unfold Chip.startFirmware
  repeat' first
    | (extract_lets +onlyGivenNames x; refine .cut (x := x) ?_ ?_; rotate_left; clear_value x; intro _; rotate_left; subst x)
    | (extract_lets +onlyGivenNames x; refine .cut (x := x.2) ?_ ?_; rotate_left; clear_value x; intro _; rotate_left; subst x)
    | (extract_lets +onlyGivenNames x; refine .cut (x := x.2.2) ?_ ?_; rotate_left; clear_value x; intro _; rotate_left; subst x)
    | (extract_lets +onlyGivenNames x; clear_value x)
    | extract_lets +onlyGivenNames _
    | with_reducible apply Within.refl
    | with_reducible assumption
    | decide
    | with_reducible apply Within.step (Chip.sramFill_within _ _ _)
    | with_reducible apply Chip.wrBytes_within
    | with_reducible apply Within.wr
    | split
    | with_reducible apply Within.set_security

theorem bootStatus_within (second : Bool) (F : Nat) (hA : F.testBit Fld.bootStat_statusA.ctorIdx = true)
    (hB : F.testBit Fld.bootStat_statusB.ctorIdx = true) : F.testBit (bootStatus second).ctorIdx = true := by
  cases second
  · exact hA
  · exact hB

theorem Chip.bootFrom_within (s : Chip) (copy : Bool → SlotCopy) (z2 : List Bool) :
    Within 0x83e00000048f0800000000000080000000000000000000000000000000000000000000000000000000000000000000000000000000000000000000000000000000000000000000000000000000000038000 0x1a00801 s (Chip.bootFrom s copy z2) := by
  induction z2 generalizing s with
  | nil => exact .refl
  | cons second l ih =>
    unfold Chip.bootFrom
    extract_lets +onlyGivenNames c x
    have kx : Within 0x83e00000048f0800000000000080000000000000000000000000000000000000000000000000000000000000000000000000000000000000000000000000000000000000000000000000000000000038000 0x1a00801 s x := .step (Chip.readFlash_within _ _) .refl (by decide) (by decide)
    clear_value x c
    split
    · exact .step (ih _) (kx.wr _ _ _ (bootStatus_within _ _ (by decide) (by decide))) (by decide) (by decide)
    · extract_lets +onlyGivenNames o h y
      have ky : Within 0x83e00000048f0800000000000080000000000000000000000000000000000000000000000000000000000000000000000000000000000000000000000000000000000000000000000000000000000038000 0x1a00801 s y := .step (Chip.startFirmware_within _ _ _ _)
        (kx.wr _ _ _ (bootStatus_within _ _ (by decide) (by decide))) (by decide) (by decide)
      clear_value y
      exact .each ky _ fun u e hu => .step (Chip.raise_within _ _) hu (by decide) (by decide)

theorem Chip.boot_within (s : Chip) :
    Within 0x83e00000048f0800000000000080000000000000000000000000000000000000000000000000000000000000000000000000000000000000000000000000000000000000000000000000000000000038000 0x1a00801 s (Chip.boot s) := by
  unfold Chip.boot
  extract_lets +onlyGivenNames a b x y z
  have kx : Within 0x83e00000048f0800000000000080000000000000000000000000000000000000000000000000000000000000000000000000000000000000000000000000000000000000000000000000000000000038000 0x1a00801 s x := .step (Chip.readFlash_within _ _) .refl (by decide) (by decide)
  clear_value x a b
  have ky : Within 0x83e00000048f0800000000000080000000000000000000000000000000000000000000000000000000000000000000000000000000000000000000000000000000000000000000000000000000000038000 0x1a00801 s y := .wr (.wr kx _ _ _ (by decide)) _ _ _ (by decide)
  clear_value y
  exact .step (Chip.bootFrom_within _ _ _) (.set_security ky (by decide)) (by decide) (by decide)

theorem Chip.firmwareBoot_within (s : Chip) :
    Within 0x83e00000048f0800000000000080000000000000000000000000000000000000000000000000000000000000000000000000000000000000000000000000000000000000000000000000000000000038000 0x1a00801 s (Chip.firmwareBoot s) := by
  unfold Chip.firmwareBoot
  repeat' first
    | (extract_lets +onlyGivenNames x; refine .cut (x := x) ?_ ?_; rotate_left; clear_value x; intro _; rotate_left; subst x)
    | (extract_lets +onlyGivenNames x; refine .cut (x := x.2) ?_ ?_; rotate_left; clear_value x; intro _; rotate_left; subst x)
    | (extract_lets +onlyGivenNames x; refine .cut (x := x.2.2) ?_ ?_; rotate_left; clear_value x; intro _; rotate_left; subst x)
    | (extract_lets +onlyGivenNames x; clear_value x)
    | extract_lets +onlyGivenNames _
    | with_reducible apply Within.refl
    | with_reducible assumption
    | decide
    | with_reducible apply Within.step (Chip.boot_within _)
    | split

theorem Chip.firmwareRetry_within (s : Chip) :
    Within 0x83e00000048f0800000000000080000000000000000000000000000000000000000000000000000000000000000000000000000000000000000000000000000000000000000000000000000000000038000 0x1a00801 s (Chip.firmwareRetry s) := by
  unfold Chip.firmwareRetry
  repeat' first
    | (extract_lets +onlyGivenNames x; refine .cut (x := x) ?_ ?_; rotate_left; clear_value x; intro _; rotate_left; subst x)
    | (extract_lets +onlyGivenNames x; refine .cut (x := x.2) ?_ ?_; rotate_left; clear_value x; intro _; rotate_left; subst x)
    | (extract_lets +onlyGivenNames x; refine .cut (x := x.2.2) ?_ ?_; rotate_left; clear_value x; intro _; rotate_left; subst x)
    | (extract_lets +onlyGivenNames x; clear_value x)
    | extract_lets +onlyGivenNames _
    | with_reducible apply Within.refl
    | with_reducible assumption
    | decide
    | with_reducible apply Within.step (Chip.boot_within _)
    | split

theorem Chip.deriveIdentity_within (s : Chip) (derived : List Byte) :
    Within 0x40700000000007ff100000000045010000000000000000000000000000000000000000000000000000000000000000000000000e03c000000000000020000000000000000000000000001dc00000000000 0x80ab20 s (Chip.deriveIdentity s derived) := by
  have key (b : Bool) (x : Chip) (kx : Within 0x40700000000007ff100000000045010000000000000000000000000000000000000000000000000000000000000000000000000e03c000000000000020000000000000000000000000001dc00000000000 0x80ab20 s x) : Within 0x40700000000007ff100000000045010000000000000000000000000000000000000000000000000000000000000000000000000e03c000000000000020000000000000000000000000001dc00000000000 0x80ab20 s
      (if b then ((x.wr .secStat_idReady 1).wr .secStat_vaultClear 0).granary else ((x.retire 8 0).raise originSecurity).granary) := by
    split
    · exact .step (Chip.granary_within _) (.wr (.wr kx _ _ _ (by decide)) _ _ _ (by decide)) (by decide) (by decide)
    · exact .step (Chip.granary_within _) (.step (Chip.raise_within _ _) (.step (Chip.retire_within _ _ _) kx (by decide) (by decide))
        (by decide) (by decide)) (by decide) (by decide)
  unfold Chip.deriveIdentity
  split
  · generalize sha384 derived = d
    have kx : Within 0x40700000000007ff100000000045010000000000000000000000000000000000000000000000000000000000000000000000000e03c000000000000020000000000000000000000000001dc00000000000 0x80ab20 s { s with security := { s.security with deriveDue := false, rederiving := false } } :=
      .set_security .refl (by decide)
    simpa only [decide_eq_true_eq] using key (decide (d = Chip.identityDigest { s with security := { s.security with deriveDue := false, rederiving := false } })) _ kx
  · exact .refl

theorem Chip.attest_within (s : Chip) (nonce : List Byte) :
    Within 0x10000000000000000000000000000000000000000000000000000000000000000000000000000000000000000000000000000000000000000000000000000000000000000000000000000000000000000 0x1000000 s (Chip.attest s nonce).2 := by
  unfold Chip.attest
  repeat' first
    | (extract_lets +onlyGivenNames x; refine .cut (x := x) ?_ ?_; rotate_left; clear_value x; intro _; rotate_left; subst x)
    | (extract_lets +onlyGivenNames x; refine .cut (x := x.2) ?_ ?_; rotate_left; clear_value x; intro _; rotate_left; subst x)
    | (extract_lets +onlyGivenNames x; refine .cut (x := x.2.2) ?_ ?_; rotate_left; clear_value x; intro _; rotate_left; subst x)
    | (extract_lets +onlyGivenNames x; clear_value x)
    | extract_lets +onlyGivenNames _
    | with_reducible apply Within.refl
    | with_reducible assumption
    | decide
    | with_reducible apply Within.step (Chip.draw_within _)
    | with_reducible apply Within.count
    | split

theorem Chip.tapOut_within (s : Chip) (out : List Bool) :
    Within 0 0x800000 s (Chip.tapOut s out) := by
  unfold Chip.tapOut
  repeat' first
    | (extract_lets +onlyGivenNames x; refine .cut (x := x) ?_ ?_; rotate_left; clear_value x; intro _; rotate_left; subst x)
    | (extract_lets +onlyGivenNames x; refine .cut (x := x.2) ?_ ?_; rotate_left; clear_value x; intro _; rotate_left; subst x)
    | (extract_lets +onlyGivenNames x; refine .cut (x := x.2.2) ?_ ?_; rotate_left; clear_value x; intro _; rotate_left; subst x)
    | (extract_lets +onlyGivenNames x; clear_value x)
    | extract_lets +onlyGivenNames _
    | with_reducible apply Within.refl
    | with_reducible assumption
    | decide
    | split
    | with_reducible apply Within.set_security

theorem Chip.tapBypass_within (s : Chip) (din : List Bool) :
    Within 0 0x800000 s (Chip.tapBypass s din) := by
  unfold Chip.tapBypass
  repeat' first
    | (extract_lets +onlyGivenNames x; refine .cut (x := x) ?_ ?_; rotate_left; clear_value x; intro _; rotate_left; subst x)
    | (extract_lets +onlyGivenNames x; refine .cut (x := x.2) ?_ ?_; rotate_left; clear_value x; intro _; rotate_left; subst x)
    | (extract_lets +onlyGivenNames x; refine .cut (x := x.2.2) ?_ ?_; rotate_left; clear_value x; intro _; rotate_left; subst x)
    | (extract_lets +onlyGivenNames x; clear_value x)
    | extract_lets +onlyGivenNames _
    | with_reducible apply Within.refl
    | with_reducible assumption
    | decide
    | with_reducible apply Within.step (Chip.tapOut_within _ _)
    | split

theorem Chip.tapIdcode_within (s : Chip) :
    Within 0 0x800000 s (Chip.tapIdcode s) := by
  unfold Chip.tapIdcode
  repeat' first
    | (extract_lets +onlyGivenNames x; refine .cut (x := x) ?_ ?_; rotate_left; clear_value x; intro _; rotate_left; subst x)
    | (extract_lets +onlyGivenNames x; refine .cut (x := x.2) ?_ ?_; rotate_left; clear_value x; intro _; rotate_left; subst x)
    | (extract_lets +onlyGivenNames x; refine .cut (x := x.2.2) ?_ ?_; rotate_left; clear_value x; intro _; rotate_left; subst x)
    | (extract_lets +onlyGivenNames x; clear_value x)
    | extract_lets +onlyGivenNames _
    | with_reducible apply Within.refl
    | with_reducible assumption
    | decide
    | with_reducible apply Within.step (Chip.tapOut_within _ _)
    | split

theorem Chip.tapSample_within (s : Chip) (balls : List Bool) (din : List Bool) :
    Within 0 0x800000 s (Chip.tapSample s balls din) := by
  unfold Chip.tapSample
  repeat' first
    | (extract_lets +onlyGivenNames x; refine .cut (x := x) ?_ ?_; rotate_left; clear_value x; intro _; rotate_left; subst x)
    | (extract_lets +onlyGivenNames x; refine .cut (x := x.2) ?_ ?_; rotate_left; clear_value x; intro _; rotate_left; subst x)
    | (extract_lets +onlyGivenNames x; refine .cut (x := x.2.2) ?_ ?_; rotate_left; clear_value x; intro _; rotate_left; subst x)
    | (extract_lets +onlyGivenNames x; clear_value x)
    | extract_lets +onlyGivenNames _
    | with_reducible apply Within.refl
    | with_reducible assumption
    | decide
    | with_reducible apply Within.step (Chip.tapOut_within _ _)
    | split
    | with_reducible apply Within.set_security

theorem Chip.tapStatus_within (s : Chip) :
    Within 0 0x800000 s (Chip.tapStatus s) := by
  unfold Chip.tapStatus
  repeat' first
    | (extract_lets +onlyGivenNames x; refine .cut (x := x) ?_ ?_; rotate_left; clear_value x; intro _; rotate_left; subst x)
    | (extract_lets +onlyGivenNames x; refine .cut (x := x.2) ?_ ?_; rotate_left; clear_value x; intro _; rotate_left; subst x)
    | (extract_lets +onlyGivenNames x; refine .cut (x := x.2.2) ?_ ?_; rotate_left; clear_value x; intro _; rotate_left; subst x)
    | (extract_lets +onlyGivenNames x; clear_value x)
    | extract_lets +onlyGivenNames _
    | with_reducible apply Within.refl
    | with_reducible assumption
    | decide
    | with_reducible apply Within.step (Chip.tapOut_within _ _)
    | split

theorem Chip.tapLock_within (s : Chip) :
    Within 0x400000000000000000000000000000000000000000000000000000000000000000000000000000000000000000000000000000000000000000000000000000000000000000000000000000000000000000 0x800100 s (Chip.tapLock s) := by
  unfold Chip.tapLock
  repeat' first
    | (extract_lets +onlyGivenNames x; refine .cut (x := x) ?_ ?_; rotate_left; clear_value x; intro _; rotate_left; subst x)
    | (extract_lets +onlyGivenNames x; refine .cut (x := x.2) ?_ ?_; rotate_left; clear_value x; intro _; rotate_left; subst x)
    | (extract_lets +onlyGivenNames x; refine .cut (x := x.2.2) ?_ ?_; rotate_left; clear_value x; intro _; rotate_left; subst x)
    | (extract_lets +onlyGivenNames x; clear_value x)
    | extract_lets +onlyGivenNames _
    | with_reducible apply Within.refl
    | with_reducible assumption
    | decide
    | with_reducible apply Within.step (Chip.lockDebug_within _)
    | with_reducible apply Within.step (Chip.tapOut_within _ _)
    | split

theorem Chip.tapChallenge_within (s : Chip) (din : List Bool) :
    Within 0x2800000000000000000000000000000000000000000000000000000000000000000000000000000000000000000000000000000000000000000000000000000000000000000000000000000000000000000 0x1800000 s (Chip.tapChallenge s din) := by
  unfold Chip.tapChallenge
  repeat' first
    | (extract_lets +onlyGivenNames x; refine .cut (x := x) ?_ ?_; rotate_left; clear_value x; intro _; rotate_left; subst x)
    | (extract_lets +onlyGivenNames x; refine .cut (x := x.2) ?_ ?_; rotate_left; clear_value x; intro _; rotate_left; subst x)
    | (extract_lets +onlyGivenNames x; refine .cut (x := x.2.2) ?_ ?_; rotate_left; clear_value x; intro _; rotate_left; subst x)
    | (extract_lets +onlyGivenNames x; clear_value x)
    | extract_lets +onlyGivenNames _
    | with_reducible apply Within.refl
    | with_reducible assumption
    | decide
    | with_reducible apply Within.step (Chip.draw_within _)
    | with_reducible apply Within.step (Chip.tapBypass_within _ _)
    | with_reducible apply Within.step (Chip.tapOut_within _ _)
    | with_reducible apply Within.wr
    | split
    | with_reducible apply Within.set_security

theorem Chip.responseFails_within (s : Chip) :
    Within 0x5000000000000000000000000000000000000000000000000000000000000000000000000000000000000000000000000000000000000000000000000000000000000000000000000000000000000000000 0x800 s (Chip.responseFails s) := by
  unfold Chip.responseFails
  repeat' first
    | (extract_lets +onlyGivenNames x; refine .cut (x := x) ?_ ?_; rotate_left; clear_value x; intro _; rotate_left; subst x)
    | (extract_lets +onlyGivenNames x; refine .cut (x := x.2) ?_ ?_; rotate_left; clear_value x; intro _; rotate_left; subst x)
    | (extract_lets +onlyGivenNames x; refine .cut (x := x.2.2) ?_ ?_; rotate_left; clear_value x; intro _; rotate_left; subst x)
    | (extract_lets +onlyGivenNames x; clear_value x)
    | extract_lets +onlyGivenNames _
    | with_reducible apply Within.refl
    | with_reducible assumption
    | decide
    | with_reducible apply Within.step (Chip.raise_within _ _)
    | with_reducible apply Within.count
    | with_reducible apply Within.wr
    | split

theorem Chip.tapResponse_within (s : Chip) (din : List Bool) :
    Within 0x7800000000000000000000000004501000000000000000000000000000000000000000000000000000000000000000000000000000000000000000000000000000000000000000000000000000000000000 0x802800 s (Chip.tapResponse s din) := by
  unfold Chip.tapResponse
  repeat' first
    | (extract_lets +onlyGivenNames x; refine .cut (x := x) ?_ ?_; rotate_left; clear_value x; intro _; rotate_left; subst x)
    | (extract_lets +onlyGivenNames x; refine .cut (x := x.2) ?_ ?_; rotate_left; clear_value x; intro _; rotate_left; subst x)
    | (extract_lets +onlyGivenNames x; refine .cut (x := x.2.2) ?_ ?_; rotate_left; clear_value x; intro _; rotate_left; subst x)
    | (extract_lets +onlyGivenNames x; clear_value x)
    | extract_lets +onlyGivenNames _
    | with_reducible apply Within.refl
    | with_reducible assumption
    | decide
    | with_reducible apply Within.step (Chip.askLeave_within _ _)
    | with_reducible apply Within.step (Chip.responseFails_within _)
    | with_reducible apply Within.step (Chip.tapBypass_within _ _)
    | with_reducible apply Within.step (Chip.tapOut_within _ _)
    | with_reducible apply Within.wr
    | split
    | with_reducible apply Within.set_security

theorem Chip.responseCheck_within (s : Chip) :
    Within 0x5408000000000000000000000004501000000000000000000000000000000000000000000000000000000000000000000000000000000000000000000000000000000000000000000000000000000000000 0x802800 s (Chip.responseCheck s) := by
  unfold Chip.responseCheck
  repeat' first
    | (extract_lets +onlyGivenNames x; refine .cut (x := x) ?_ ?_; rotate_left; clear_value x; intro _; rotate_left; subst x)
    | (extract_lets +onlyGivenNames x; refine .cut (x := x.2) ?_ ?_; rotate_left; clear_value x; intro _; rotate_left; subst x)
    | (extract_lets +onlyGivenNames x; refine .cut (x := x.2.2) ?_ ?_; rotate_left; clear_value x; intro _; rotate_left; subst x)
    | (extract_lets +onlyGivenNames x; clear_value x)
    | extract_lets +onlyGivenNames _
    | with_reducible apply Within.refl
    | with_reducible assumption
    | decide
    | with_reducible apply Within.step (Chip.responseFails_within _)
    | with_reducible apply Within.step (Chip.returnLeave_within _ _)
    | with_reducible apply Within.count
    | with_reducible apply Within.wr
    | split
    | with_reducible apply Within.set_security

theorem Chip.challengeExpiry_within (s : Chip) :
    Within 0x2800000000000000000000000000000000000000000000000000000000000000000000000000000000000000000000000000000000000000000000000000000000000000000000000000000000000000000 0x800000 s (Chip.challengeExpiry s) := by
  unfold Chip.challengeExpiry
  repeat' first
    | (extract_lets +onlyGivenNames x; refine .cut (x := x) ?_ ?_; rotate_left; clear_value x; intro _; rotate_left; subst x)
    | (extract_lets +onlyGivenNames x; refine .cut (x := x.2) ?_ ?_; rotate_left; clear_value x; intro _; rotate_left; subst x)
    | (extract_lets +onlyGivenNames x; refine .cut (x := x.2.2) ?_ ?_; rotate_left; clear_value x; intro _; rotate_left; subst x)
    | (extract_lets +onlyGivenNames x; clear_value x)
    | extract_lets +onlyGivenNames _
    | with_reducible apply Within.refl
    | with_reducible assumption
    | decide
    | with_reducible apply Within.step (Chip.voidChallenge_within _)
    | split

theorem Chip.showOwner_within (s : Chip) :
    Within 0x10000c00000000000000000000000000000000000000000000000000000000000000000000000000000000000000000000000000000000000000000000000000000000000000000000000000000000000000 0 s (Chip.showOwner s) := by
  unfold Chip.showOwner
  repeat' first
    | (extract_lets +onlyGivenNames x; refine .cut (x := x) ?_ ?_; rotate_left; clear_value x; intro _; rotate_left; subst x)
    | (extract_lets +onlyGivenNames x; refine .cut (x := x.2) ?_ ?_; rotate_left; clear_value x; intro _; rotate_left; subst x)
    | (extract_lets +onlyGivenNames x; refine .cut (x := x.2.2) ?_ ?_; rotate_left; clear_value x; intro _; rotate_left; subst x)
    | (extract_lets +onlyGivenNames x; clear_value x)
    | extract_lets +onlyGivenNames _
    | with_reducible apply Within.refl
    | with_reducible assumption
    | decide
    | with_reducible apply Chip.wrBytes_within
    | with_reducible apply Within.wrFlag
    | split

theorem Chip.ownerFuse_within (s : Chip) (din : List Bool) (slot1 : Bool) (hash : List Byte) (burned : List Byte) (interrupted : Bool) :
    Within 0x10000c00000000000000000000000000000000000000000000000000000000000000000000000000000000000000000000000000000000000000000000000000000000000000000000000000000000000000 0x800800 s (Chip.ownerFuse s din slot1 hash burned interrupted) := by
  unfold Chip.ownerFuse
  repeat' first
    | (extract_lets +onlyGivenNames x; refine .cut (x := x) ?_ ?_; rotate_left; clear_value x; intro _; rotate_left; subst x)
    | (extract_lets +onlyGivenNames x; refine .cut (x := x.2) ?_ ?_; rotate_left; clear_value x; intro _; rotate_left; subst x)
    | (extract_lets +onlyGivenNames x; refine .cut (x := x.2.2) ?_ ?_; rotate_left; clear_value x; intro _; rotate_left; subst x)
    | (extract_lets +onlyGivenNames x; clear_value x)
    | extract_lets +onlyGivenNames _
    | with_reducible apply Within.refl
    | with_reducible assumption
    | decide
    | with_reducible apply Within.step (Chip.raise_within _ _)
    | with_reducible apply Within.step (Chip.showOwner_within _)
    | with_reducible apply Within.step (Chip.tapBypass_within _ _)
    | with_reducible apply Within.step (Chip.tapOut_within _ _)
    | split
    | with_reducible apply Within.set_security

theorem Chip.tapExtest_within (s : Chip) (d : ScanDrive) (balls : List Bool) (din : List Bool) :
    Within 0 0x800000 s (Chip.tapExtest s d balls din) := by
  unfold Chip.tapExtest
  repeat' first
    | (extract_lets +onlyGivenNames x; refine .cut (x := x) ?_ ?_; rotate_left; clear_value x; intro _; rotate_left; subst x)
    | (extract_lets +onlyGivenNames x; refine .cut (x := x.2) ?_ ?_; rotate_left; clear_value x; intro _; rotate_left; subst x)
    | (extract_lets +onlyGivenNames x; refine .cut (x := x.2.2) ?_ ?_; rotate_left; clear_value x; intro _; rotate_left; subst x)
    | (extract_lets +onlyGivenNames x; clear_value x)
    | extract_lets +onlyGivenNames _
    | with_reducible apply Within.refl
    | with_reducible assumption
    | decide
    | with_reducible apply Within.step (Chip.tapBypass_within _ _)
    | split
    | with_reducible apply Within.set_security

theorem Chip.engineRead_within (s : Chip) (din : List Bool) (m : EngineMemory) :
    Within 0x38000 0x1800800 s (Chip.engineRead s din m) := by
  unfold Chip.engineRead
  repeat' first
    | (extract_lets +onlyGivenNames x; refine .cut (x := x) ?_ ?_; rotate_left; clear_value x; intro _; rotate_left; subst x)
    | (extract_lets +onlyGivenNames x; refine .cut (x := x.2) ?_ ?_; rotate_left; clear_value x; intro _; rotate_left; subst x)
    | (extract_lets +onlyGivenNames x; refine .cut (x := x.2.2) ?_ ?_; rotate_left; clear_value x; intro _; rotate_left; subst x)
    | (extract_lets +onlyGivenNames x; clear_value x)
    | extract_lets +onlyGivenNames _
    | with_reducible apply Within.refl
    | with_reducible assumption
    | decide
    | with_reducible apply Within.step (Chip.sramTouch_within _ _)
    | with_reducible apply Within.step (Chip.tapBypass_within _ _)
    | with_reducible apply Within.step (Chip.tapOut_within _ _)
    | split

theorem Chip.tapHalt_within (s : Chip) (din : List Bool) (halt : Bool) :
    Within 0 0x800100 s (Chip.tapHalt s din halt) := by
  unfold Chip.tapHalt
  repeat' first
    | (extract_lets +onlyGivenNames x; refine .cut (x := x) ?_ ?_; rotate_left; clear_value x; intro _; rotate_left; subst x)
    | (extract_lets +onlyGivenNames x; refine .cut (x := x.2) ?_ ?_; rotate_left; clear_value x; intro _; rotate_left; subst x)
    | (extract_lets +onlyGivenNames x; refine .cut (x := x.2.2) ?_ ?_; rotate_left; clear_value x; intro _; rotate_left; subst x)
    | (extract_lets +onlyGivenNames x; clear_value x)
    | extract_lets +onlyGivenNames _
    | with_reducible apply Within.refl
    | with_reducible assumption
    | decide
    | with_reducible apply Within.step (Chip.tapBypass_within _ _)
    | with_reducible apply Within.step (Chip.tapOut_within _ _)
    | split
    | with_reducible apply Within.set_edges

end Sys2Proof.Machine
end

