-- ==== Sys2Proof/Laws/FrameImage.lean ====
section
/-! SUPPORT. The frames of the operations of Machine/Image.lean: the fields and the parts of the state each may change. -/

set_option linter.tactic.unusedName false

namespace Sys2Proof.Machine

theorem Chip.beforeImage_within (s : Chip) :
    Within 0x201ff00000000000f81fffe38fe000003f003fc01f8000007ff0000f80471001ff000ffe07e007e040007c1fffe000000003100018001fffff9e607ffb0000000000ff01e0f00000000000000040006 0x2c0418 s (Chip.beforeImage s) := by
  unfold Chip.beforeImage
  repeat' first
    | (extract_lets +onlyGivenNames x; refine .cut (x := x) ?_ ?_; rotate_left; clear_value x; intro _; rotate_left; subst x)
    | (extract_lets +onlyGivenNames x; refine .cut (x := x.2) ?_ ?_; rotate_left; clear_value x; intro _; rotate_left; subst x)
    | (extract_lets +onlyGivenNames x; refine .cut (x := x.2.2) ?_ ?_; rotate_left; clear_value x; intro _; rotate_left; subst x)
    | (extract_lets +onlyGivenNames x; clear_value x)
    | extract_lets +onlyGivenNames _
    | with_reducible apply Within.refl
    | with_reducible assumption
    | decide
    | with_reducible apply Chip.coldFields_within
    | with_reducible apply Within.wr
    | (with_reducible apply Within.each; rotate_left; intro _ _ _)
    | split
    | with_reducible apply Within.set_live_sys_engines_inputs_net_storage

theorem Chip.stageSection_within (s : Chip) (type : Nat) (sec : List Byte) : WithinOpt 0x201ff00000000000f81fffe38fe000003f003fc01f8000007ff0000f80471001ff000ffe07e007e040007c1fffe000000007100018001fffff9e607ffb0000000000ff01e0f00000000000000078006 0x12c0c19 s (s.stageSection type sec) := by
  unfold Chip.stageSection
  split
  · exact .step (Chip.stageSystem_within _ _) .refl (by decide) (by decide)
  · exact .step (Chip.stageLanes_within _ _) .refl (by decide) (by decide)
  · exact Chip.stageRegisters_within .refl _ _ (by decide)
  · exact .step (Chip.stageEdges_within _ _) .refl (by decide) (by decide)
  · exact .step (Chip.stageEngines_within _ _) .refl (by decide) (by decide)
  · exact .step (Chip.stageInputs_within _ _) .refl (by decide) (by decide)
  · exact Chip.stageRegisters_within .refl _ _ (by decide)
  · exact Chip.stageRegisters_within .refl _ _ (by decide)
  · exact Chip.stageRegisters_within .refl _ _ (by decide)
  · exact .step (Chip.stageFaults_within _ _) .refl (by decide) (by decide)
  · exact .step (Chip.stageSpr_within _ _) .refl (by decide) (by decide)
  · exact Chip.stageRegisters_within .refl _ _ (by decide)
  · exact .step (Chip.stageNetwork_within _ _) .refl (by decide) (by decide)
  · exact Chip.stageRegisters_within .refl _ _ (by decide)
  · exact Chip.stageRegisters_within .refl _ _ (by decide)
  · exact .step (Chip.stageStorage_within _ _) .refl (by decide) (by decide)
  · exact .step (Chip.stageLive_within _ _) .refl (by decide) (by decide)
  · exact .step (Chip.stageSram_within _ _) .refl (by decide) (by decide)
  · exact .none

theorem Chip.stage_within (s : Chip) (c : SlotCopy) : WithinOpt 0x201ff00000000000f81fffe38fe000003f003fc01f8000007ff0000f80471001ff000ffe07e007e040007c1fffe000000007100018001fffff9e607ffb0000000000ff01e0f00000000000000078007 0x12c0c19 s (s.stage c) := by
  unfold Chip.stage
  extract_lets d
  split
  · exact .none
  refine .bindChip (.foldlM _ (.step (Chip.beforeImage_within _) .refl (by decide) (by decide)) fun u e hu => ?_) fun u hu => ?_
  · exact .step (Chip.stageSection_within _ _ _) hu (by decide) (by decide)
  · extract_lets +onlyGivenNames x
    split
    · exact .some (.wr hu _ _ _ (by decide))
    · exact .none

theorem Chip.applyLanes_within (s : Chip) (old : Chip) :
    Within 0x450100000000000000000080000000000000000000000000000000000000000000000000000000001e00000000000000000000010016f000000000000002380200000000 0x22a0 s (Chip.applyLanes s old) := by
  unfold Chip.applyLanes
  repeat' first
    | (extract_lets +onlyGivenNames x; refine .cut (x := x) ?_ ?_; rotate_left; clear_value x; intro _; rotate_left; subst x)
    | (extract_lets +onlyGivenNames x; refine .cut (x := x.2) ?_ ?_; rotate_left; clear_value x; intro _; rotate_left; subst x)
    | (extract_lets +onlyGivenNames x; refine .cut (x := x.2.2) ?_ ?_; rotate_left; clear_value x; intro _; rotate_left; subst x)
    | (extract_lets +onlyGivenNames x; clear_value x)
    | extract_lets +onlyGivenNames _
    | with_reducible apply Within.refl
    | with_reducible assumption
    | decide
    | with_reducible apply Within.step (Chip.endLaneWork_within _ _)
    | with_reducible apply Within.step (Chip.laneDown_within _ _)
    | with_reducible apply Within.step (Chip.laneReset_within _ _)
    | with_reducible apply Within.step (Chip.laneToHunt_within _ _)
    | with_reducible apply Within.step (Chip.laneTryMeasure_within _ _)
    | with_reducible apply Within.wr
    | (with_reducible apply Within.each; rotate_left; intro _ _ _)
    | (with_reducible apply Within.onlyIf; rotate_left; intro _ _)
    | split

theorem Chip.applyComparators_within (s : Chip) (old : Chip) (levels : List Int) :
    Within 0x200000000000000023ff0000000000000000000000000000000000000040000000000000000000000000000000000000 0x1c800 s (Chip.applyComparators s old levels) := by
  unfold Chip.applyComparators
  repeat' first
    | (extract_lets +onlyGivenNames x; refine .cut (x := x) ?_ ?_; rotate_left; clear_value x; intro _; rotate_left; subst x)
    | (extract_lets +onlyGivenNames x; refine .cut (x := x.2) ?_ ?_; rotate_left; clear_value x; intro _; rotate_left; subst x)
    | (extract_lets +onlyGivenNames x; refine .cut (x := x.2.2) ?_ ?_; rotate_left; clear_value x; intro _; rotate_left; subst x)
    | (extract_lets +onlyGivenNames x; clear_value x)
    | extract_lets +onlyGivenNames _
    | with_reducible apply Within.refl
    | with_reducible assumption
    | decide
    | with_reducible apply Within.step (Chip.comparatorApplied_within _ _ _ _)
    | (with_reducible apply Within.each; rotate_left; intro _ _ _)
    | split
    | with_reducible apply Within.set_converter

theorem Chip.applyFaults_within (s : Chip) :
    Within 0x18000000000000000000000000000000000000000000000000000000000000000000000000000000000000000000000000000 0x800 s (Chip.applyFaults s) := by
  unfold Chip.applyFaults
  repeat' first
    | (extract_lets +onlyGivenNames x; refine .cut (x := x) ?_ ?_; rotate_left; clear_value x; intro _; rotate_left; subst x)
    | (extract_lets +onlyGivenNames x; refine .cut (x := x.2) ?_ ?_; rotate_left; clear_value x; intro _; rotate_left; subst x)
    | (extract_lets +onlyGivenNames x; refine .cut (x := x.2.2) ?_ ?_; rotate_left; clear_value x; intro _; rotate_left; subst x)
    | (extract_lets +onlyGivenNames x; clear_value x)
    | extract_lets +onlyGivenNames _
    | with_reducible apply Within.refl
    | with_reducible assumption
    | decide
    | with_reducible apply Within.wr
    | (with_reducible apply Within.each; rotate_left; intro _ _ _)
    | split
    | with_reducible apply Within.set_faults

theorem Chip.designatePower_within (s : Chip) :
    Within 0xfc00000000000000000000000000000000000000000000000000000000 0 s (Chip.designatePower s) := by
  unfold Chip.designatePower
  repeat' first
    | (extract_lets +onlyGivenNames x; refine .cut (x := x) ?_ ?_; rotate_left; clear_value x; intro _; rotate_left; subst x)
    | (extract_lets +onlyGivenNames x; refine .cut (x := x.2) ?_ ?_; rotate_left; clear_value x; intro _; rotate_left; subst x)
    | (extract_lets +onlyGivenNames x; refine .cut (x := x.2.2) ?_ ?_; rotate_left; clear_value x; intro _; rotate_left; subst x)
    | (extract_lets +onlyGivenNames x; clear_value x)
    | extract_lets +onlyGivenNames _
    | with_reducible apply Within.refl
    | with_reducible assumption
    | decide
    | with_reducible apply Chip.coldFieldsAt_within
    | with_reducible apply Within.wr
    | (with_reducible apply Within.each; rotate_left; intro _ _ _)
    | split

theorem Chip.takeImage_within (s : Chip) (old : Chip) (second : Bool) (c : SlotCopy) (levels : List Int) :
    Within 0x2400004501000000000000000000800000000000018000200000000000000023ff0014000000004c1c00ffde00000000000000004000010016f000000000227302380200038000 0x1a9eea8 s (Chip.takeImage s old second c levels) := by
  unfold Chip.takeImage
  repeat' first
    | (extract_lets +onlyGivenNames x; refine .cut (x := x) ?_ ?_; rotate_left; clear_value x; intro _; rotate_left; subst x)
    | (extract_lets +onlyGivenNames x; refine .cut (x := x.2) ?_ ?_; rotate_left; clear_value x; intro _; rotate_left; subst x)
    | (extract_lets +onlyGivenNames x; refine .cut (x := x.2.2) ?_ ?_; rotate_left; clear_value x; intro _; rotate_left; subst x)
    | (extract_lets +onlyGivenNames x; clear_value x)
    | extract_lets +onlyGivenNames _
    | with_reducible apply Within.refl
    | with_reducible assumption
    | decide
    | with_reducible apply Within.step (Chip.applyComparators_within _ _ _)
    | with_reducible apply Within.step (Chip.applyFaults_within _)
    | with_reducible apply Within.step (Chip.applyLanes_within _ _)
    | with_reducible apply Within.step (Chip.applyOutputs_within _ _)
    | with_reducible apply Within.step (Chip.clearBroken_within _)
    | with_reducible apply Within.step (Chip.convertersApplied_within _)
    | with_reducible apply Within.step (Chip.designatePower_within _)
    | with_reducible apply Within.step (Chip.engineDefault_within _ _)
    | with_reducible apply Within.step (Chip.engineStat_within _)
    | with_reducible apply Within.step (Chip.gooseStart_within _)
    | with_reducible apply Within.step (Chip.liveDefault_within _)
    | with_reducible apply Within.step (Chip.queuePage_within _ _ _)
    | with_reducible apply Within.step (Chip.startPorts_within _)
    | with_reducible apply Chip.wrBytes_within
    | with_reducible apply Within.wrFlag
    | with_reducible apply Within.wr
    | (with_reducible apply Within.each; rotate_left; intro _ _ _)
    | split
    | with_reducible apply Within.set_security
    | with_reducible apply Within.set_modes
    | with_reducible apply Within.set_thermal

theorem Chip.commitImage_within (s : Chip) (old : Chip) (second : Bool) (c : SlotCopy) (levels : List Int) (edges : Bool) :
    Within 0x240000450100000000000000000080000044c000018000200000000000090023ff0814000000004c1c00ffde02000000000000004000010016f000000017e27302380200038010 0x1b9eeec s (Chip.commitImage s old second c levels edges) := by
  unfold Chip.commitImage
  repeat' first
    | (extract_lets +onlyGivenNames x; refine .cut (x := x) ?_ ?_; rotate_left; clear_value x; intro _; rotate_left; subst x)
    | (extract_lets +onlyGivenNames x; refine .cut (x := x.2) ?_ ?_; rotate_left; clear_value x; intro _; rotate_left; subst x)
    | (extract_lets +onlyGivenNames x; refine .cut (x := x.2.2) ?_ ?_; rotate_left; clear_value x; intro _; rotate_left; subst x)
    | (extract_lets +onlyGivenNames x; clear_value x)
    | extract_lets +onlyGivenNames _
    | with_reducible apply Within.refl
    | with_reducible assumption
    | decide
    | with_reducible apply Within.step (Chip.hop_within _ _ _)
    | with_reducible apply Within.step (Chip.setPtp_within _ _ _)
    | with_reducible apply Within.step (Chip.startGrid_within _)
    | with_reducible apply Within.step (Chip.takeImage_within _ _ _ _ _)
    | with_reducible apply Within.wr
    | split

theorem Chip.statusEvent_within (s : Chip) (status : Nat) :
    Within 0 0x800 s (Chip.statusEvent s status) := by
  unfold Chip.statusEvent
  repeat' first
    | (extract_lets +onlyGivenNames x; refine .cut (x := x) ?_ ?_; rotate_left; clear_value x; intro _; rotate_left; subst x)
    | (extract_lets +onlyGivenNames x; refine .cut (x := x.2) ?_ ?_; rotate_left; clear_value x; intro _; rotate_left; subst x)
    | (extract_lets +onlyGivenNames x; refine .cut (x := x.2.2) ?_ ?_; rotate_left; clear_value x; intro _; rotate_left; subst x)
    | (extract_lets +onlyGivenNames x; clear_value x)
    | extract_lets +onlyGivenNames _
    | with_reducible apply Within.refl
    | with_reducible assumption
    | decide
    | with_reducible apply Within.step (Chip.raise_within _ _)
    | split

theorem statusField_within (second : Bool) (F : Nat) (hA : F.testBit Fld.imageStat_statusA.ctorIdx = true)
    (hB : F.testBit Fld.imageStat_statusB.ctorIdx = true) : F.testBit (statusField second).ctorIdx = true := by
  cases second
  · exact hA
  · exact hB

theorem Chip.tryCandidates_within (s : Chip) (levels : List Int) (edges : Bool) (z3 : List (Bool × SlotCopy)) :
    Within 0x201ff48f08000000fa5fffe7dff000003f003fc01f8008007ff44c0f805f1003ff000ffe07e097e27ff0fd5fffe00004c1c71ffdf8201fffff9e607fff000010016fff01e0f17e27302380200078017 0x1bdeefd s (Chip.tryCandidates s levels edges z3).2 := by
  induction z3 generalizing s with
  | nil => exact .refl
  | cons e l ih =>
    obtain ⟨second, c⟩ := e
    unfold Chip.tryCandidates
    extract_lets +onlyGivenNames x
    have k : Within 0x201ff48f08000000fa5fffe7dff000003f003fc01f8008007ff44c0f805f1003ff000ffe07e097e27ff0fd5fffe00004c1c71ffdf8201fffff9e607fff000010016fff01e0f17e27302380200078017 0x1bdeefd s x := .step (Chip.readFlash_within _ _) .refl (by decide) (by decide)
    clear_value x
    split
    · exact .step (ih _) (k.wr _ _ _ (statusField_within _ _ (by decide) (by decide))) (by decide) (by decide)
    · split
      · next h =>
        exact .step (Chip.commitImage_within _ _ _ _ _ _) (.step (Chip.stage_within _ _ _ h) k (by decide) (by decide))
          (by decide) (by decide)
      · exact .step (ih _) (k.wr _ _ _ (statusField_within _ _ (by decide) (by decide))) (by decide) (by decide)

theorem Chip.readHeader_within (s : Chip) (second : Bool) (c : SlotCopy) :
    Within 0x1e000000000000000 0 s (Chip.readHeader s second c) := by
  unfold Chip.readHeader
  extract_lets +onlyGivenNames x
  have k : Within 0x1e000000000000000 0 s x := .wr .refl _ _ _ (by cases second <;> decide)
  clear_value x
  exact k.wr _ _ _ (statusField_within _ _ (by decide) (by decide))

theorem Chip.selectionDone_within (s : Chip) (chosen : Bool) :
    Within 0x2c0000000000000000000000000000000000000000000000000000046c000000019000080000000000008000000000000000000000800004000000000000002000000020000000000000800030078000000 0x83a9a0 s (Chip.selectionDone s chosen) := by
  unfold Chip.selectionDone
  repeat' first
    | (extract_lets +onlyGivenNames x; refine .cut (x := x) ?_ ?_; rotate_left; clear_value x; intro _; rotate_left; subst x)
    | (extract_lets +onlyGivenNames x; refine .cut (x := x.2) ?_ ?_; rotate_left; clear_value x; intro _; rotate_left; subst x)
    | (extract_lets +onlyGivenNames x; refine .cut (x := x.2.2) ?_ ?_; rotate_left; clear_value x; intro _; rotate_left; subst x)
    | (extract_lets +onlyGivenNames x; clear_value x)
    | extract_lets +onlyGivenNames _
    | with_reducible apply Within.refl
    | with_reducible assumption
    | decide
    | with_reducible apply Within.step (Chip.enterSafeHold_within _ _)
    | with_reducible apply Within.step (Chip.raise_within _ _)
    | with_reducible apply Within.step (Chip.statusEvent_within _ _)
    | with_reducible apply Within.wr
    | (with_reducible apply Within.onlyIf; rotate_left; intro _ _)
    | split

theorem Chip.tieNoted_within (s : Chip) (a : SlotCopy) (b : SlotCopy) :
    Within 0x400000000000000 0x800 s (Chip.tieNoted s a b) := by
  unfold Chip.tieNoted
  repeat' first
    | (extract_lets +onlyGivenNames x; refine .cut (x := x) ?_ ?_; rotate_left; clear_value x; intro _; rotate_left; subst x)
    | (extract_lets +onlyGivenNames x; refine .cut (x := x.2) ?_ ?_; rotate_left; clear_value x; intro _; rotate_left; subst x)
    | (extract_lets +onlyGivenNames x; refine .cut (x := x.2.2) ?_ ?_; rotate_left; clear_value x; intro _; rotate_left; subst x)
    | (extract_lets +onlyGivenNames x; clear_value x)
    | extract_lets +onlyGivenNames _
    | with_reducible apply Within.refl
    | with_reducible assumption
    | decide
    | with_reducible apply Within.step (Chip.raise_within _ _)
    | with_reducible apply Within.wr
    | (with_reducible apply Within.onlyIf; rotate_left; intro _ _)
    | split

theorem Chip.imageSelection_within (s : Chip) (levels : List Int) (edges : Bool) :
    Within 0x2c00201ff48f08000000fa5fffe7dff000003f003fc01f8008007ff46c0f805f1193ff080ffe07e097e2fff0fd5fffe00004c1c71ffdf8241fffff9e607fff200010016fff01e0f17e3ff023b0278078017 0x1bfeffd s (Chip.imageSelection s levels edges) := by
  unfold Chip.imageSelection
  split
  · exact .refl
  extract_lets +onlyGivenNames a b x y ms z r
  have kx : Within 0x2c00201ff48f08000000fa5fffe7dff000003f003fc01f8008007ff46c0f805f1193ff080ffe07e097e2fff0fd5fffe00004c1c71ffdf8241fffff9e607fff200010016fff01e0f17e3ff023b0278078017 0x1bfeffd s x := .step (Chip.readFlash_within _ _) .refl (by decide) (by decide)
  clear_value x a b
  have ky : Within 0x2c00201ff48f08000000fa5fffe7dff000003f003fc01f8008007ff46c0f805f1193ff080ffe07e097e2fff0fd5fffe00004c1c71ffdf8241fffff9e607fff200010016fff01e0f17e3ff023b0278078017 0x1bfeffd s z := .set_modes (.step (Chip.readHeader_within _ _ _)
    (.step (Chip.readHeader_within _ _ _) kx (by decide) (by decide)) (by decide) (by decide)) (by decide)
  clear_value z
  have kr : Within 0x2c00201ff48f08000000fa5fffe7dff000003f003fc01f8008007ff46c0f805f1193ff080ffe07e097e2fff0fd5fffe00004c1c71ffdf8241fffff9e607fff200010016fff01e0f17e3ff023b0278078017 0x1bfeffd s r.2 := .step (Chip.tryCandidates_within _ _ _ _) ky (by decide) (by decide)
  clear_value r
  exact .step (Chip.tieNoted_within _ _ _) (.step (Chip.selectionDone_within _ _) kr (by decide) (by decide)) (by decide) (by decide)

theorem Chip.backgroundCheck_within (s : Chip) :
    Within 0x48f0800000000000084501000000000000000000000000000000000000000000000000000000000000000000000000000000000000000000000000000000000000000000007400000000000000 0x202800 s (Chip.backgroundCheck s) := by
  unfold Chip.backgroundCheck
  extract_lets +onlyGivenNames second due
  split
  · exact .refl
  extract_lets +onlyGivenNames x
  have k : Within 0x48f0800000000000084501000000000000000000000000000000000000000000000000000000000000000000000000000000000000000000000000000000000000000000007400000000000000 0x202800 s x := by
    unfold x
    split
    · exact .refl
    · exact .step (Chip.askLeave_within _ _) .refl (by decide) (by decide)
  clear_value x
  split
  · exact k
  extract_lets +onlyGivenNames y c z
  have ky : Within 0x48f0800000000000084501000000000000000000000000000000000000000000000000000000000000000000000000000000000000000000000000000000000000000000007400000000000000 0x202800 s y := .step (Chip.returnLeave_within _ _) k (by decide) (by decide)
  clear_value y c
  have kz : Within 0x48f0800000000000084501000000000000000000000000000000000000000000000000000000000000000000000000000000000000000000000000000000000000000000007400000000000000 0x202800 s z := .step (Chip.readFlash_within _ _) ky (by decide) (by decide)
  clear_value z
  split
  · exact .step (Chip.statusEvent_within _ _) (.wr kz _ _ _ (statusField_within _ _ (by decide) (by decide))) (by decide) (by decide)
  · exact .step (Chip.tieNoted_within _ _ _) (.wr kz _ _ _ (statusField_within _ _ (by decide) (by decide))) (by decide) (by decide)

theorem Chip.rewriteBlock_within (s : Chip) (wrong : List (Nat × List Nat)) (b : Nat) (pages : List Nat) :
    Within 0x48f0800000000000080000000000000000000000000000000000000000000000000000000000000000000000000000000000000000000000000000000000000000000000000000000000000000 0x200800 s (Chip.rewriteBlock s wrong b pages) := by
  unfold Chip.rewriteBlock
  repeat' first
    | (extract_lets +onlyGivenNames x; refine .cut (x := x) ?_ ?_; rotate_left; clear_value x; intro _; rotate_left; subst x)
    | (extract_lets +onlyGivenNames x; refine .cut (x := x.2) ?_ ?_; rotate_left; clear_value x; intro _; rotate_left; subst x)
    | (extract_lets +onlyGivenNames x; refine .cut (x := x.2.2) ?_ ?_; rotate_left; clear_value x; intro _; rotate_left; subst x)
    | (extract_lets +onlyGivenNames x; clear_value x)
    | extract_lets +onlyGivenNames _
    | with_reducible apply Within.refl
    | with_reducible assumption
    | decide
    | with_reducible apply Within.step (Chip.eraseBlock_within _ _)
    | with_reducible apply Within.step (Chip.putFlash_within _ _ _)
    | with_reducible apply Within.step (Chip.readFlash_within _ _)
    | (with_reducible apply Within.each; rotate_left; intro _ _ _)
    | split

theorem Chip.rewriteCopy_within (s : Chip) (r : Nat) (wrong : List (Nat × List Nat)) :
    Within 0x48f0800000000000080000000000000000000000000000000000000000000000000000000000000000000000000000000000000000000000000000000000000000000000000000000000000000 0x200800 s (Chip.rewriteCopy s r wrong) := by
  unfold Chip.rewriteCopy
  repeat' first
    | (extract_lets +onlyGivenNames x; refine .cut (x := x) ?_ ?_; rotate_left; clear_value x; intro _; rotate_left; subst x)
    | (extract_lets +onlyGivenNames x; refine .cut (x := x.2) ?_ ?_; rotate_left; clear_value x; intro _; rotate_left; subst x)
    | (extract_lets +onlyGivenNames x; refine .cut (x := x.2.2) ?_ ?_; rotate_left; clear_value x; intro _; rotate_left; subst x)
    | (extract_lets +onlyGivenNames x; clear_value x)
    | extract_lets +onlyGivenNames _
    | with_reducible apply Within.refl
    | with_reducible assumption
    | decide
    | with_reducible apply Within.step (Chip.rewriteBlock_within _ _ _ _)
    | (with_reducible apply Within.each; rotate_left; intro _ _ _)
    | (with_reducible apply Within.onlyIf; rotate_left; intro _ _)
    | split

theorem Chip.nextCopy_within (s : Chip) (c : Nat) :
    Within 0x400000000000000000000000000000000000000000000000000000000000000000000000000000000000000000000000000000000000000000000000000000000000000000000000000000000 0 s (Chip.nextCopy s c) := by
  unfold Chip.nextCopy
  repeat' first
    | (extract_lets +onlyGivenNames x; refine .cut (x := x) ?_ ?_; rotate_left; clear_value x; intro _; rotate_left; subst x)
    | (extract_lets +onlyGivenNames x; refine .cut (x := x.2) ?_ ?_; rotate_left; clear_value x; intro _; rotate_left; subst x)
    | (extract_lets +onlyGivenNames x; refine .cut (x := x.2.2) ?_ ?_; rotate_left; clear_value x; intro _; rotate_left; subst x)
    | (extract_lets +onlyGivenNames x; clear_value x)
    | extract_lets +onlyGivenNames _
    | with_reducible apply Within.refl
    | with_reducible assumption
    | decide
    | with_reducible apply Within.wr
    | split

theorem Chip.refreshDone_within (s : Chip) (c : Nat) :
    Within 0xc00000000000000000000000000000000000000000000000000000000000000000000000000000000000000000000000000000000000000000000000000000000000000000000000000000000 0x1200000 s (Chip.refreshDone s c) := by
  unfold Chip.refreshDone
  repeat' first
    | (extract_lets +onlyGivenNames x; refine .cut (x := x) ?_ ?_; rotate_left; clear_value x; intro _; rotate_left; subst x)
    | (extract_lets +onlyGivenNames x; refine .cut (x := x.2) ?_ ?_; rotate_left; clear_value x; intro _; rotate_left; subst x)
    | (extract_lets +onlyGivenNames x; refine .cut (x := x.2.2) ?_ ?_; rotate_left; clear_value x; intro _; rotate_left; subst x)
    | (extract_lets +onlyGivenNames x; clear_value x)
    | extract_lets +onlyGivenNames _
    | with_reducible apply Within.refl
    | with_reducible assumption
    | decide
    | with_reducible apply Within.step (Chip.freeByte_within _)
    | with_reducible apply Within.step (Chip.nextCopy_within _ _)
    | with_reducible apply Within.step (Chip.queuePage_within _ _ _)
    | with_reducible apply Within.wrFlag
    | split
    | with_reducible apply Within.set_storage

theorem Chip.retentionRefresh_within (s : Chip) (c : Nat) (wrong : List (Nat × List Nat)) :
    Within 0x5cf0800000000000084501000000000000000000000000000000000000000000000000000000000000000000000000000000000000000000000000000000000000000000000000000000000000 0x1202800 s (Chip.retentionRefresh s c wrong) := by
  unfold Chip.retentionRefresh
  repeat' first
    | (extract_lets +onlyGivenNames x; refine .cut (x := x) ?_ ?_; rotate_left; clear_value x; intro _; rotate_left; subst x)
    | (extract_lets +onlyGivenNames x; refine .cut (x := x.2) ?_ ?_; rotate_left; clear_value x; intro _; rotate_left; subst x)
    | (extract_lets +onlyGivenNames x; refine .cut (x := x.2.2) ?_ ?_; rotate_left; clear_value x; intro _; rotate_left; subst x)
    | (extract_lets +onlyGivenNames x; clear_value x)
    | extract_lets +onlyGivenNames _
    | with_reducible apply Within.refl
    | with_reducible assumption
    | decide
    | with_reducible apply Within.step (Chip.askLeave_within _ _)
    | with_reducible apply Within.step (Chip.nextCopy_within _ _)
    | with_reducible apply Within.step (Chip.raise_within _ _)
    | with_reducible apply Within.step (Chip.readFlash_within _ _)
    | with_reducible apply Within.step (Chip.refreshDone_within _ _)
    | with_reducible apply Within.step (Chip.refuseFlash_within _)
    | with_reducible apply Within.step (Chip.returnLeave_within _ _)
    | with_reducible apply Within.step (Chip.rewriteCopy_within _ _ _)
    | with_reducible apply Within.wr
    | split
    | with_reducible apply Within.set_storage

end Sys2Proof.Machine
end

