-- ==== Sys2Proof/Laws/FrameResets.lean ====
section
/-! SUPPORT. The frames of the operations of Machine/Resets.lean: the fields and the parts of the state each may change. -/

set_option linter.tactic.unusedName false

namespace Sys2Proof.Machine

theorem Chip.takeSlot_within (s : Chip) :
    Within 0x10000c00000000000000000000000000000000000000000000000000000000000000000000000000000000000000000000000000000000000000000000000000000000000000000000000000000000000000 0x800000 s (Chip.takeSlot s) := by
  unfold Chip.takeSlot
  repeat' first
    | (extract_lets +onlyGivenNames x; refine .cut (x := x) ?_ ?_; rotate_left; clear_value x; intro _; rotate_left; subst x)
    | (extract_lets +onlyGivenNames x; refine .cut (x := x.2) ?_ ?_; rotate_left; clear_value x; intro _; rotate_left; subst x)
    | (extract_lets +onlyGivenNames x; refine .cut (x := x.2.2) ?_ ?_; rotate_left; clear_value x; intro _; rotate_left; subst x)
    | (extract_lets +onlyGivenNames x; clear_value x)
    | extract_lets +onlyGivenNames _
    | with_reducible apply Within.refl
    | with_reducible assumption
    | decide
    | with_reducible apply Within.step (Chip.showOwner_within _)
    | split
    | with_reducible apply Within.set_security

theorem Chip.keepFuses_within {F C : Nat} {s x : Chip} (k : Within F C s x) (old : Chip) (hF : Nat.land 0x1f0000c00000000000000000000000000000000000000060000000000000000000000000000000000000000000000000000000000000000000000000000000000000000000000000000000000000000000000 F = 0x1f0000c00000000000000000000000000000000000000060000000000000000000000000000000000000000000000000000000000000000000000000000000000000000000000000000000000000000000000)
    (hC : Nat.land 0x800000 C = 0x800000) (ho : ∀ p ∈ old.regs, registerEntryOk p.1 p.2 = true ∨ Registers.wf s.regs = false) :
    Within F C s (x.keepFuses old) := by
  unfold Chip.keepFuses
  extract_lets +onlyGivenNames o _ y
  have ky : Within F C s y := .set_security k (testBit_of_land (k := 23) hC (by decide))
  clear_value y
  refine .step (Chip.takeSlot_within _) (Chip.takeFields_within ky _ _ ?_ ho) (land_trans (by decide) hF) hC
  have h : (fieldsOf fuseRegs).all (fun f => Nat.testBit 0x1f0000c00000000000000000000000000000000000000060000000000000000000000000000000000000000000000000000000000000000000000000000000000000000000000000000000000000000000000 f.ctorIdx) = true := by decide
  rw [List.all_eq_true] at h ⊢
  exact fun f hf => testBit_of_land hF (h f hf)

theorem Chip.holdLanes_within (s : Chip) :
    Within 0x80000000000000000000000000000000000000000000000000000000001e00000000000000000000000016f000000000000002380000000000 0x202a0 s (Chip.holdLanes s) := by
  unfold Chip.holdLanes
  repeat' first
    | (extract_lets +onlyGivenNames x; refine .cut (x := x) ?_ ?_; rotate_left; clear_value x; intro _; rotate_left; subst x)
    | (extract_lets +onlyGivenNames x; refine .cut (x := x.2) ?_ ?_; rotate_left; clear_value x; intro _; rotate_left; subst x)
    | (extract_lets +onlyGivenNames x; refine .cut (x := x.2.2) ?_ ?_; rotate_left; clear_value x; intro _; rotate_left; subst x)
    | (extract_lets +onlyGivenNames x; clear_value x)
    | extract_lets +onlyGivenNames _
    | with_reducible apply Within.refl
    | with_reducible assumption
    | decide
    | with_reducible apply Within.step (Chip.laneDown_within _ _)
    | with_reducible apply Within.step (Chip.laneToHunt_within _ _)
    | (with_reducible apply Within.each; rotate_left; intro _ _ _)
    | split
    | with_reducible apply Within.set_halyard

theorem Chip.powerLost_within (s : Chip) (ns : Nat) :
    Within 0 0x200000 s (Chip.powerLost s ns) := by
  unfold Chip.powerLost
  repeat' first
    | (extract_lets +onlyGivenNames x; refine .cut (x := x) ?_ ?_; rotate_left; clear_value x; intro _; rotate_left; subst x)
    | (extract_lets +onlyGivenNames x; refine .cut (x := x.2) ?_ ?_; rotate_left; clear_value x; intro _; rotate_left; subst x)
    | (extract_lets +onlyGivenNames x; refine .cut (x := x.2.2) ?_ ?_; rotate_left; clear_value x; intro _; rotate_left; subst x)
    | (extract_lets +onlyGivenNames x; clear_value x)
    | extract_lets +onlyGivenNames _
    | with_reducible apply Within.refl
    | with_reducible assumption
    | decide
    | split
    | with_reducible apply Within.set_storage

theorem Chip.coldReset_within (s : Chip) (cause : Nat) : Within allFields allParts s (s.coldReset cause) := by
  have full : ∀ f : Fld, allFields.testBit f.ctorIdx = true := testBit_full
  unfold Chip.coldReset
  extract_lets +onlyGivenNames new new1 a _ new3
  have k0 : Within allFields allParts s new := .fresh rfl rfl
  clear_value new
  have k1 : Within allFields allParts s new1 :=
    Chip.keepFuses_within (.wr (.wr k0 _ _ _ (full _)) _ _ _ (full _)) s (by decide) (by decide) (own_entries s)
  clear_value new1
  have k2 : Within allFields allParts s new3 := by
    unfold new3
    split
    · exact k1
    · exact .step (Chip.keepTrips_within _ _) (.set_spr (.wr (.wr k1 _ _ _ (full _)) _ _ _ (full _)) (by decide)) (by decide) (by decide)
  exact .step (Chip.shroudRefresh_within _) (.step (Chip.showErases_within _) k2 (by decide) (by decide)) (by decide) (by decide)

theorem Chip.warmImage_within (s : Chip) (cause : Fld) : Within allFields allParts s (s.warmImage cause) := by
  have full : ∀ f : Fld, allFields.testBit f.ctorIdx = true := testBit_full
  unfold Chip.warmImage
  extract_lets +onlyGivenNames s1
  have k1 : Within allFields allParts s s1 :=
    .step (Chip.cutWindow_within _ _) (.step (Chip.cutWindow_within _ _) .refl (by decide) (by decide)) (by decide) (by decide)
  clear_value s1
  refine .after k1 ?_
  extract_lets +onlyGivenNames p0 p1 p2 p3 p4 new new1 new2 new3 new4 new5 new6 new7 new8 new9
  have k0 : Within allFields allParts s1 new := .freshSram rfl rfl
  clear_value new
  have k1 : Within allFields allParts s1 new1 :=
    .step (Chip.readIdentities_within _)
      (Chip.keepFuses_within (Chip.takeFields_within k0 _ _ (all_full _) (own_entries s1)) s1 (by decide) (by decide) (own_entries s1))
      (by decide) (by decide)
  clear_value new1
  have k2 : Within allFields allParts s1 new2 := .wr (.wrFlag k1 _ _ _ (full _)) _ _ _ (full _)
  clear_value new2
  have k3 : Within allFields allParts s1 new3 := .each k2 _ fun u n hu => .wr hu _ _ _ (full _)
  clear_value new3
  have k4 : Within allFields allParts s1 new4 := .wr (.wr (.wr k3 _ _ _ (full _)) _ _ _ (full _)) _ _ _ (full _)
  clear_value new4
  have k5 : Within allFields allParts s1 new5 := .onlyIf k4 _ fun u hu => .wr hu _ _ _ (full _)
  clear_value new5
  have k6 : Within allFields allParts s1 new6 := .wr (.wr k5 _ _ _ (full _)) _ _ _ (full _)
  clear_value new6
  have k7 : Within allFields allParts s1 new7 := .wr (.wr k6 _ _ _ (full _)) _ _ _ (full _)
  clear_value new7
  have k8 : Within allFields allParts s1 new8 :=
    .step (Chip.clearStaticOn_within _) (.wr k7 _ _ _ (full _)) (by decide) (by decide)
  clear_value new8
  have k9 : Within allFields allParts s1 new9 :=
    .wr (.step (Chip.holdLanes_within _) (.each k8 _ fun u n hu => .step (Chip.laneToHunt_within _ _) hu (by decide) (by decide))
      (by decide) (by decide)) _ _ _ (full _)
  exact .step (Chip.newStart_within _ _) (.step (Chip.showConverter_within _) k9 (by decide) (by decide)) (by decide) (by decide)

theorem Chip.holdAgain_within (s : Chip) (c : HoldCause) :
    Within 0x2c0000000000000000000000000000000000000000000000000000046c000000019000080000000000008000000000000000000000800004000000000000002000000020000000000000000030078000000 0x83a9a0 s (Chip.holdAgain s c) := by
  unfold Chip.holdAgain
  repeat' first
    | (extract_lets +onlyGivenNames x; refine .cut (x := x) ?_ ?_; rotate_left; clear_value x; intro _; rotate_left; subst x)
    | (extract_lets +onlyGivenNames x; refine .cut (x := x.2) ?_ ?_; rotate_left; clear_value x; intro _; rotate_left; subst x)
    | (extract_lets +onlyGivenNames x; refine .cut (x := x.2.2) ?_ ?_; rotate_left; clear_value x; intro _; rotate_left; subst x)
    | (extract_lets +onlyGivenNames x; clear_value x)
    | extract_lets +onlyGivenNames _
    | with_reducible apply Within.refl
    | with_reducible assumption
    | decide
    | with_reducible apply Within.step (Chip.enterSafeHold_within _ _)
    | split
    | with_reducible apply Within.set_modes

theorem Chip.warmRequest_within (s : Chip) :
    Within 0x1ffffffffffffffffffffffffffffffffffffffffffffffffffffffffffffffffffffffffffffffffffffffffffffffffffffffffffffffffffffffffffffffffffffffffffffffffffffffffffffffffffff 0x1ffffff s (Chip.warmRequest s) := by
  unfold Chip.warmRequest
  repeat' first
    | (extract_lets +onlyGivenNames x; refine .cut (x := x) ?_ ?_; rotate_left; clear_value x; intro _; rotate_left; subst x)
    | (extract_lets +onlyGivenNames x; refine .cut (x := x.2) ?_ ?_; rotate_left; clear_value x; intro _; rotate_left; subst x)
    | (extract_lets +onlyGivenNames x; refine .cut (x := x.2.2) ?_ ?_; rotate_left; clear_value x; intro _; rotate_left; subst x)
    | (extract_lets +onlyGivenNames x; clear_value x)
    | extract_lets +onlyGivenNames _
    | with_reducible apply Within.refl
    | with_reducible assumption
    | decide
    | with_reducible apply Within.step (Chip.holdAgain_within _ _)
    | with_reducible apply Within.step (Chip.shroudAssert_within _)
    | with_reducible apply Within.step (Chip.shroudRefresh_within _)
    | with_reducible apply Within.step (Chip.warmImage_within _ _)
    | with_reducible apply Within.wr
    | exact all_full _
    | exact testBit_full _
    | split

theorem Chip.warmFailure_within (s : Chip) (cause : Fld) :
    Within 0x1ffffffffffffffffffffffffffffffffffffffffffffffffffffffffffffffffffffffffffffffffffffffffffffffffffffffffffffffffffffffffffffffffffffffffffffffffffffffffffffffffffff 0x1ffffff s (Chip.warmFailure s cause) := by
  unfold Chip.warmFailure
  repeat' first
    | (extract_lets +onlyGivenNames x; refine .cut (x := x) ?_ ?_; rotate_left; clear_value x; intro _; rotate_left; subst x)
    | (extract_lets +onlyGivenNames x; refine .cut (x := x.2) ?_ ?_; rotate_left; clear_value x; intro _; rotate_left; subst x)
    | (extract_lets +onlyGivenNames x; refine .cut (x := x.2.2) ?_ ?_; rotate_left; clear_value x; intro _; rotate_left; subst x)
    | (extract_lets +onlyGivenNames x; clear_value x)
    | extract_lets +onlyGivenNames _
    | with_reducible apply Within.refl
    | with_reducible assumption
    | decide
    | with_reducible apply Within.step (Chip.holdAgain_within _ _)
    | with_reducible apply Within.step (Chip.raise_within _ _)
    | with_reducible apply Within.step (Chip.shroudAssert_within _)
    | with_reducible apply Within.step (Chip.shroudLatch_within _ _)
    | with_reducible apply Within.step (Chip.shroudRefresh_within _)
    | with_reducible apply Within.step (Chip.warmImage_within _ _)
    | with_reducible apply Within.wr
    | exact all_full _
    | exact testBit_full _
    | split
    | with_reducible apply Within.set_modes

theorem Chip.enginesToDefault_within (s : Chip) :
    Within 0x6800000000000000000000000000000000000000000000000000000000000000000000000000000000004c1f8e8bfe7ffe00000619f8000e00000000000000000000001dc00000000000 0x720 s (Chip.enginesToDefault s) := by
  unfold Chip.enginesToDefault
  repeat' first
    | (extract_lets +onlyGivenNames x; refine .cut (x := x) ?_ ?_; rotate_left; clear_value x; intro _; rotate_left; subst x)
    | (extract_lets +onlyGivenNames x; refine .cut (x := x.2) ?_ ?_; rotate_left; clear_value x; intro _; rotate_left; subst x)
    | (extract_lets +onlyGivenNames x; refine .cut (x := x.2.2) ?_ ?_; rotate_left; clear_value x; intro _; rotate_left; subst x)
    | (extract_lets +onlyGivenNames x; clear_value x)
    | extract_lets +onlyGivenNames _
    | with_reducible apply Within.refl
    | with_reducible assumption
    | decide
    | with_reducible apply Chip.coldFields_within
    | with_reducible apply Within.step (Chip.engineDefault_within _ _)
    | with_reducible apply Within.step (Chip.engineStat_within _)
    | with_reducible apply Within.step (Chip.enginesUnusable_within _)
    | with_reducible apply Within.wr
    | (with_reducible apply Within.each; rotate_left; intro _ _ _)
    | split
    | with_reducible apply Within.set_edges_arms

theorem Chip.retestEngines_within (s : Chip) :
    Within 0xf5000000045010000000000000000000000000000000000000000000000000000000000000000000000000003c0000000000000000000000000000000000000000000000000000000 0x402020 s (Chip.retestEngines s) := by
  unfold Chip.retestEngines
  repeat' first
    | (extract_lets +onlyGivenNames x; refine .cut (x := x) ?_ ?_; rotate_left; clear_value x; intro _; rotate_left; subst x)
    | (extract_lets +onlyGivenNames x; refine .cut (x := x.2) ?_ ?_; rotate_left; clear_value x; intro _; rotate_left; subst x)
    | (extract_lets +onlyGivenNames x; refine .cut (x := x.2.2) ?_ ?_; rotate_left; clear_value x; intro _; rotate_left; subst x)
    | (extract_lets +onlyGivenNames x; clear_value x)
    | extract_lets +onlyGivenNames _
    | with_reducible apply Within.refl
    | with_reducible assumption
    | decide
    | with_reducible apply Within.step (Chip.cycleEnd_within _)
    | with_reducible apply Within.step (Chip.returnLeave_within _ _)
    | with_reducible apply Within.step (Chip.showSlices_within _)
    | split
    | with_reducible apply Within.set_modes_slices

theorem Chip.clearFaultCounts_within (s : Chip) :
    Within 0x380c0000000000000000000000000000000000000000000000000000000000000000000000000000000000000000000000000 0x800 s (Chip.clearFaultCounts s) := by
  unfold Chip.clearFaultCounts
  repeat' first
    | (extract_lets +onlyGivenNames x; refine .cut (x := x) ?_ ?_; rotate_left; clear_value x; intro _; rotate_left; subst x)
    | (extract_lets +onlyGivenNames x; refine .cut (x := x.2) ?_ ?_; rotate_left; clear_value x; intro _; rotate_left; subst x)
    | (extract_lets +onlyGivenNames x; refine .cut (x := x.2.2) ?_ ?_; rotate_left; clear_value x; intro _; rotate_left; subst x)
    | (extract_lets +onlyGivenNames x; clear_value x)
    | extract_lets +onlyGivenNames _
    | with_reducible apply Within.refl
    | with_reducible assumption
    | decide
    | with_reducible apply Chip.coldFields_within
    | with_reducible apply Within.wr
    | split
    | with_reducible apply Within.set_faults

theorem Chip.forgetRole_within (s : Chip) :
    Within 0x604000000000000000000000000000000000000000000000000000000000000000000000000000000000000000000000000000000000000000 0x20000 s (Chip.forgetRole s) := by
  unfold Chip.forgetRole
  repeat' first
    | (extract_lets +onlyGivenNames x; refine .cut (x := x) ?_ ?_; rotate_left; clear_value x; intro _; rotate_left; subst x)
    | (extract_lets +onlyGivenNames x; refine .cut (x := x.2) ?_ ?_; rotate_left; clear_value x; intro _; rotate_left; subst x)
    | (extract_lets +onlyGivenNames x; refine .cut (x := x.2.2) ?_ ?_; rotate_left; clear_value x; intro _; rotate_left; subst x)
    | (extract_lets +onlyGivenNames x; clear_value x)
    | extract_lets +onlyGivenNames _
    | with_reducible apply Within.refl
    | with_reducible assumption
    | decide
    | with_reducible apply Within.wr
    | split
    | with_reducible apply Within.set_halyard

theorem Chip.resumeAlive_within (s : Chip) :
    Within 0x18000000000000000000000000000000000000000000000000000000000000000000000000000000000000000000000000 0 s (Chip.resumeAlive s) := by
  unfold Chip.resumeAlive
  repeat' first
    | (extract_lets +onlyGivenNames x; refine .cut (x := x) ?_ ?_; rotate_left; clear_value x; intro _; rotate_left; subst x)
    | (extract_lets +onlyGivenNames x; refine .cut (x := x.2) ?_ ?_; rotate_left; clear_value x; intro _; rotate_left; subst x)
    | (extract_lets +onlyGivenNames x; refine .cut (x := x.2.2) ?_ ?_; rotate_left; clear_value x; intro _; rotate_left; subst x)
    | (extract_lets +onlyGivenNames x; clear_value x)
    | extract_lets +onlyGivenNames _
    | with_reducible apply Within.refl
    | with_reducible assumption
    | decide
    | with_reducible apply Within.wrFlag
    | with_reducible apply Within.wr
    | split

theorem Chip.deliberateReset_within (s : Chip) :
    Within 0x2c0000000000000680f500000004501000000000000000000e0400046c0000380d9000090000000000008000000000000004c1f8e8bfe7ffe00000619f8000e00000016f00000000020001ff80178000000 0xc2afa8 s (Chip.deliberateReset s) := by
  unfold Chip.deliberateReset
  repeat' first
    | (extract_lets +onlyGivenNames x; refine .cut (x := x) ?_ ?_; rotate_left; clear_value x; intro _; rotate_left; subst x)
    | (extract_lets +onlyGivenNames x; refine .cut (x := x.2) ?_ ?_; rotate_left; clear_value x; intro _; rotate_left; subst x)
    | (extract_lets +onlyGivenNames x; refine .cut (x := x.2.2) ?_ ?_; rotate_left; clear_value x; intro _; rotate_left; subst x)
    | (extract_lets +onlyGivenNames x; clear_value x)
    | extract_lets +onlyGivenNames _
    | with_reducible apply Within.refl
    | with_reducible assumption
    | decide
    | with_reducible apply Within.step (Chip.clearFaultCounts_within _)
    | with_reducible apply Within.step (Chip.clearShorts_within _)
    | with_reducible apply Within.step (Chip.enginesToDefault_within _)
    | with_reducible apply Within.step (Chip.forgetRole_within _)
    | with_reducible apply Within.step (Chip.holdLanes_within _)
    | with_reducible apply Within.step (Chip.initCells_within _)
    | with_reducible apply Within.step (Chip.liveDefault_within _)
    | with_reducible apply Within.step (Chip.lockDebug_within _)
    | with_reducible apply Within.step (Chip.resumeAlive_within _)
    | with_reducible apply Within.step (Chip.retestEngines_within _)
    | with_reducible apply Within.step (Chip.setMode_within _ _)
    | with_reducible apply Within.wr
    | split

end Sys2Proof.Machine
end

