-- ==== Sys2Proof/Laws/FrameModes.lean ====
section
/-! SUPPORT. The frames of the operations of Machine/Modes.lean: the fields and the parts of the state each may change. -/

set_option linter.tactic.unusedName false

namespace Sys2Proof.Machine

theorem Chip.modeAtBoundary_within (s : Chip) (m : Mode) :
    Within 0x2c0000000000000000000000000000000000000000000000840000046c000000000000080000000000008000000000000000000009800004000000000000002000000020000000000000000000060038008 0x182aba5 s (Chip.modeAtBoundary s m) := by
  unfold Chip.modeAtBoundary
  repeat' first
    | (extract_lets +onlyGivenNames x; refine .cut (x := x) ?_ ?_; rotate_left; clear_value x; intro _; rotate_left; subst x)
    | (extract_lets +onlyGivenNames x; refine .cut (x := x.2) ?_ ?_; rotate_left; clear_value x; intro _; rotate_left; subst x)
    | (extract_lets +onlyGivenNames x; refine .cut (x := x.2.2) ?_ ?_; rotate_left; clear_value x; intro _; rotate_left; subst x)
    | (extract_lets +onlyGivenNames x; clear_value x)
    | extract_lets +onlyGivenNames _
    | with_reducible apply Within.refl
    | with_reducible assumption
    | decide
    | with_reducible apply Within.step (Chip.alignSilent_within _)
    | with_reducible apply Within.step (Chip.enterMode_within _ _)
    | with_reducible apply Within.step (Chip.snapshotAnew_within _)
    | split

theorem Chip.enterQuiescent_within (s : Chip) :
    Within 0x1dc00002000000 0x20 s (Chip.enterQuiescent s) := by
  unfold Chip.enterQuiescent
  repeat' first
    | (extract_lets +onlyGivenNames x; refine .cut (x := x) ?_ ?_; rotate_left; clear_value x; intro _; rotate_left; subst x)
    | (extract_lets +onlyGivenNames x; refine .cut (x := x.2) ?_ ?_; rotate_left; clear_value x; intro _; rotate_left; subst x)
    | (extract_lets +onlyGivenNames x; refine .cut (x := x.2.2) ?_ ?_; rotate_left; clear_value x; intro _; rotate_left; subst x)
    | (extract_lets +onlyGivenNames x; clear_value x)
    | extract_lets +onlyGivenNames _
    | with_reducible apply Within.refl
    | with_reducible assumption
    | decide
    | with_reducible apply Chip.coldFields_within
    | with_reducible apply Within.step (Chip.enginesUnusable_within _)
    | with_reducible apply Within.step (Chip.judgeEdges_within _)
    | with_reducible apply Within.wr
    | split
    | with_reducible apply Within.set_modes

theorem Chip.quiescentEnds_within (s : Chip) :
    Within 0x1dc00002000000 0x20 s (Chip.quiescentEnds s) := by
  unfold Chip.quiescentEnds
  repeat' first
    | (extract_lets +onlyGivenNames x; refine .cut (x := x) ?_ ?_; rotate_left; clear_value x; intro _; rotate_left; subst x)
    | (extract_lets +onlyGivenNames x; refine .cut (x := x.2) ?_ ?_; rotate_left; clear_value x; intro _; rotate_left; subst x)
    | (extract_lets +onlyGivenNames x; refine .cut (x := x.2.2) ?_ ?_; rotate_left; clear_value x; intro _; rotate_left; subst x)
    | (extract_lets +onlyGivenNames x; clear_value x)
    | extract_lets +onlyGivenNames _
    | with_reducible apply Within.refl
    | with_reducible assumption
    | decide
    | with_reducible apply Within.step (Chip.instReady_within _ _)
    | with_reducible apply Within.step (Chip.judgeEdges_within _)
    | with_reducible apply Within.wr
    | (with_reducible apply Within.each; rotate_left; intro _ _ _)
    | split
    | with_reducible apply Within.set_modes

theorem Chip.quiescentResume_within (s : Chip) :
    Within 0x1dc00002000000 0x20 s (Chip.quiescentResume s) := by
  unfold Chip.quiescentResume
  repeat' first
    | (extract_lets +onlyGivenNames x; refine .cut (x := x) ?_ ?_; rotate_left; clear_value x; intro _; rotate_left; subst x)
    | (extract_lets +onlyGivenNames x; refine .cut (x := x.2) ?_ ?_; rotate_left; clear_value x; intro _; rotate_left; subst x)
    | (extract_lets +onlyGivenNames x; refine .cut (x := x.2.2) ?_ ?_; rotate_left; clear_value x; intro _; rotate_left; subst x)
    | (extract_lets +onlyGivenNames x; clear_value x)
    | extract_lets +onlyGivenNames _
    | with_reducible apply Within.refl
    | with_reducible assumption
    | decide
    | with_reducible apply Within.step (Chip.quiescentEnds_within _)
    | split

theorem Chip.stand_within (s : Chip) :
    Within 0 0x20 s (Chip.stand s) := by
  unfold Chip.stand
  repeat' first
    | (extract_lets +onlyGivenNames x; refine .cut (x := x) ?_ ?_; rotate_left; clear_value x; intro _; rotate_left; subst x)
    | (extract_lets +onlyGivenNames x; refine .cut (x := x.2) ?_ ?_; rotate_left; clear_value x; intro _; rotate_left; subst x)
    | (extract_lets +onlyGivenNames x; refine .cut (x := x.2.2) ?_ ?_; rotate_left; clear_value x; intro _; rotate_left; subst x)
    | (extract_lets +onlyGivenNames x; clear_value x)
    | extract_lets +onlyGivenNames _
    | with_reducible apply Within.refl
    | with_reducible assumption
    | decide
    | split
    | with_reducible apply Within.set_modes

theorem Chip.takeRequest_within (s : Chip) (m : Mode) :
    Within 0x2c0000000000000000000000000000000000000000000000840000046c000000000000080000000000008000000000000000000009800004000000000000002000000020000000000000000000060038008 0x182aba5 s (Chip.takeRequest s m) := by
  unfold Chip.takeRequest
  repeat' first
    | (extract_lets +onlyGivenNames x; refine .cut (x := x) ?_ ?_; rotate_left; clear_value x; intro _; rotate_left; subst x)
    | (extract_lets +onlyGivenNames x; refine .cut (x := x.2) ?_ ?_; rotate_left; clear_value x; intro _; rotate_left; subst x)
    | (extract_lets +onlyGivenNames x; refine .cut (x := x.2.2) ?_ ?_; rotate_left; clear_value x; intro _; rotate_left; subst x)
    | (extract_lets +onlyGivenNames x; clear_value x)
    | extract_lets +onlyGivenNames _
    | with_reducible apply Within.refl
    | with_reducible assumption
    | decide
    | with_reducible apply Within.step (Chip.dropPending_within _)
    | with_reducible apply Within.step (Chip.modeAtBoundary_within _ _)
    | split

theorem Chip.judgeRequest_within (s : Chip) :
    Within 0x1ffffffffffffffffffffffffffffffffffffffffffffffffffffffffffffffffffffffffffffffffffffffffffffffffffffffffffffffffffffffffffffffffffffffffffffffffffffffffffffffffffff 0x1ffffff s (Chip.judgeRequest s) := by
  unfold Chip.judgeRequest
  repeat' first
    | (extract_lets +onlyGivenNames x; refine .cut (x := x) ?_ ?_; rotate_left; clear_value x; intro _; rotate_left; subst x)
    | (extract_lets +onlyGivenNames x; refine .cut (x := x.2) ?_ ?_; rotate_left; clear_value x; intro _; rotate_left; subst x)
    | (extract_lets +onlyGivenNames x; refine .cut (x := x.2.2) ?_ ?_; rotate_left; clear_value x; intro _; rotate_left; subst x)
    | (extract_lets +onlyGivenNames x; clear_value x)
    | extract_lets +onlyGivenNames _
    | with_reducible apply Within.refl
    | with_reducible assumption
    | decide
    | with_reducible apply Within.step (Chip.beginStopping_within _)
    | with_reducible apply Within.step (Chip.dropPending_within _)
    | with_reducible apply Within.step (Chip.enterQuiescent_within _)
    | with_reducible apply Within.step (Chip.quiescentEnds_within _)
    | with_reducible apply Within.step (Chip.refuseRequest_within _)
    | with_reducible apply Within.step (Chip.stand_within _)
    | with_reducible apply Within.step (Chip.takeRequest_within _ _)
    | with_reducible apply Within.step (Chip.warmRequest_within _)
    | exact all_full _
    | exact testBit_full _
    | split
    | with_reducible apply Within.set_modes

theorem Chip.modeRequest_within (s : Chip) (r : Nat) :
    Within 0x1ffffffffffffffffffffffffffffffffffffffffffffffffffffffffffffffffffffffffffffffffffffffffffffffffffffffffffffffffffffffffffffffffffffffffffffffffffffffffffffffffffff 0x1ffffff s (Chip.modeRequest s r) := by
  unfold Chip.modeRequest
  repeat' first
    | (extract_lets +onlyGivenNames x; refine .cut (x := x) ?_ ?_; rotate_left; clear_value x; intro _; rotate_left; subst x)
    | (extract_lets +onlyGivenNames x; refine .cut (x := x.2) ?_ ?_; rotate_left; clear_value x; intro _; rotate_left; subst x)
    | (extract_lets +onlyGivenNames x; refine .cut (x := x.2.2) ?_ ?_; rotate_left; clear_value x; intro _; rotate_left; subst x)
    | (extract_lets +onlyGivenNames x; clear_value x)
    | extract_lets +onlyGivenNames _
    | with_reducible apply Within.refl
    | with_reducible assumption
    | decide
    | with_reducible apply Within.step (Chip.judgeRequest_within _)
    | with_reducible apply Within.wr
    | exact all_full _
    | exact testBit_full _
    | split
    | with_reducible apply Within.set_modes

theorem Chip.boundaryRequest_within (s : Chip) :
    Within 0x1ffffffffffffffffffffffffffffffffffffffffffffffffffffffffffffffffffffffffffffffffffffffffffffffffffffffffffffffffffffffffffffffffffffffffffffffffffffffffffffffffffff 0x1ffffff s (Chip.boundaryRequest s) := by
  unfold Chip.boundaryRequest
  repeat' first
    | (extract_lets +onlyGivenNames x; refine .cut (x := x) ?_ ?_; rotate_left; clear_value x; intro _; rotate_left; subst x)
    | (extract_lets +onlyGivenNames x; refine .cut (x := x.2) ?_ ?_; rotate_left; clear_value x; intro _; rotate_left; subst x)
    | (extract_lets +onlyGivenNames x; refine .cut (x := x.2.2) ?_ ?_; rotate_left; clear_value x; intro _; rotate_left; subst x)
    | (extract_lets +onlyGivenNames x; clear_value x)
    | extract_lets +onlyGivenNames _
    | with_reducible apply Within.refl
    | with_reducible assumption
    | decide
    | with_reducible apply Within.step (Chip.dropPending_within _)
    | with_reducible apply Within.step (Chip.judgeRequest_within _)
    | exact all_full _
    | exact testBit_full _
    | split

theorem Chip.modeTransition_within (s : Chip) :
    Within 0x1ffffffffffffffffffffffffffffffffffffffffffffffffffffffffffffffffffffffffffffffffffffffffffffffffffffffffffffffffffffffffffffffffffffffffffffffffffffffffffffffffffff 0x1ffffff s (Chip.modeTransition s) := by
  unfold Chip.modeTransition
  repeat' first
    | (extract_lets +onlyGivenNames x; refine .cut (x := x) ?_ ?_; rotate_left; clear_value x; intro _; rotate_left; subst x)
    | (extract_lets +onlyGivenNames x; refine .cut (x := x.2) ?_ ?_; rotate_left; clear_value x; intro _; rotate_left; subst x)
    | (extract_lets +onlyGivenNames x; refine .cut (x := x.2.2) ?_ ?_; rotate_left; clear_value x; intro _; rotate_left; subst x)
    | (extract_lets +onlyGivenNames x; clear_value x)
    | extract_lets +onlyGivenNames _
    | with_reducible apply Within.refl
    | with_reducible assumption
    | decide
    | with_reducible apply Within.step (Chip.boundaryRequest_within _)
    | with_reducible apply Within.step (Chip.modeAtBoundary_within _ _)
    | exact all_full _
    | exact testBit_full _
    | split
    | with_reducible apply Within.set_modes

theorem Chip.endOfConfigure_within (s : Chip) :
    Within 0x2c0000000000000000000000000000000000000000000000840000046c000000000000080000000000008000000000000000000009800004000000000000002000000020000000000000000000060038008 0x182aba5 s (Chip.endOfConfigure s) := by
  unfold Chip.endOfConfigure
  repeat' first
    | (extract_lets +onlyGivenNames x; refine .cut (x := x) ?_ ?_; rotate_left; clear_value x; intro _; rotate_left; subst x)
    | (extract_lets +onlyGivenNames x; refine .cut (x := x.2) ?_ ?_; rotate_left; clear_value x; intro _; rotate_left; subst x)
    | (extract_lets +onlyGivenNames x; refine .cut (x := x.2.2) ?_ ?_; rotate_left; clear_value x; intro _; rotate_left; subst x)
    | (extract_lets +onlyGivenNames x; clear_value x)
    | extract_lets +onlyGivenNames _
    | with_reducible apply Within.refl
    | with_reducible assumption
    | decide
    | with_reducible apply Within.step (Chip.dropPending_within _)
    | with_reducible apply Within.step (Chip.modeAtBoundary_within _ _)
    | split
    | with_reducible apply Within.set_halyard

theorem Chip.earlyWarning_within (s : Chip) :
    Within 0x2c00000000000000000000000004501000000000000000000000000c7c000000019000080001f803d004800000000000000000000080000400000000000000200000002000000000000000003007c000000 0x1b3a9a0 s (Chip.earlyWarning s) := by
  unfold Chip.earlyWarning
  repeat' first
    | (extract_lets +onlyGivenNames x; refine .cut (x := x) ?_ ?_; rotate_left; clear_value x; intro _; rotate_left; subst x)
    | (extract_lets +onlyGivenNames x; refine .cut (x := x.2) ?_ ?_; rotate_left; clear_value x; intro _; rotate_left; subst x)
    | (extract_lets +onlyGivenNames x; refine .cut (x := x.2.2) ?_ ?_; rotate_left; clear_value x; intro _; rotate_left; subst x)
    | (extract_lets +onlyGivenNames x; clear_value x)
    | extract_lets +onlyGivenNames _
    | with_reducible apply Within.refl
    | with_reducible assumption
    | decide
    | with_reducible apply Within.step (Chip.closeEarly_within _)
    | with_reducible apply Within.step (Chip.enterSafeHold_within _ _)
    | with_reducible apply Within.step (Chip.finalSave_within _)
    | with_reducible apply Within.step (Chip.holdSaves_within _)
    | with_reducible apply Within.step (Chip.lockDebug_within _)
    | with_reducible apply Within.step (Chip.shroudLatch_within _ _)
    | with_reducible apply Within.wr
    | (with_reducible apply Within.onlyIf; rotate_left; intro _ _)
    | split

theorem Chip.vsysFalls_within (s : Chip) :
    Within 0 0x20 s (Chip.vsysFalls s) := by
  unfold Chip.vsysFalls
  repeat' first
    | (extract_lets +onlyGivenNames x; refine .cut (x := x) ?_ ?_; rotate_left; clear_value x; intro _; rotate_left; subst x)
    | (extract_lets +onlyGivenNames x; refine .cut (x := x.2) ?_ ?_; rotate_left; clear_value x; intro _; rotate_left; subst x)
    | (extract_lets +onlyGivenNames x; refine .cut (x := x.2.2) ?_ ?_; rotate_left; clear_value x; intro _; rotate_left; subst x)
    | (extract_lets +onlyGivenNames x; clear_value x)
    | extract_lets +onlyGivenNames _
    | with_reducible apply Within.refl
    | with_reducible assumption
    | decide
    | split
    | with_reducible apply Within.set_modes

theorem Chip.vsysReturn_within (s : Chip) :
    Within 0x40000000000000000000000000000000000000000000000000000000000000000000000004000000 0x100020 s (Chip.vsysReturn s) := by
  unfold Chip.vsysReturn
  repeat' first
    | (extract_lets +onlyGivenNames x; refine .cut (x := x) ?_ ?_; rotate_left; clear_value x; intro _; rotate_left; subst x)
    | (extract_lets +onlyGivenNames x; refine .cut (x := x.2) ?_ ?_; rotate_left; clear_value x; intro _; rotate_left; subst x)
    | (extract_lets +onlyGivenNames x; refine .cut (x := x.2.2) ?_ ?_; rotate_left; clear_value x; intro _; rotate_left; subst x)
    | (extract_lets +onlyGivenNames x; clear_value x)
    | extract_lets +onlyGivenNames _
    | with_reducible apply Within.refl
    | with_reducible assumption
    | decide
    | with_reducible apply Within.wr
    | split
    | with_reducible apply Within.set_modes_metrology

theorem Chip.supplyWarning_within (s : Chip) (n : Nat) :
    Within 0x44c000000000000000000000000000000000000000000000000000000000000000000000000000000000000000000000000000000000 0x9880 s (Chip.supplyWarning s n) := by
  unfold Chip.supplyWarning
  repeat' first
    | (extract_lets +onlyGivenNames x; refine .cut (x := x) ?_ ?_; rotate_left; clear_value x; intro _; rotate_left; subst x)
    | (extract_lets +onlyGivenNames x; refine .cut (x := x.2) ?_ ?_; rotate_left; clear_value x; intro _; rotate_left; subst x)
    | (extract_lets +onlyGivenNames x; refine .cut (x := x.2.2) ?_ ?_; rotate_left; clear_value x; intro _; rotate_left; subst x)
    | (extract_lets +onlyGivenNames x; clear_value x)
    | extract_lets +onlyGivenNames _
    | with_reducible apply Within.refl
    | with_reducible assumption
    | decide
    | with_reducible apply Within.step (Chip.raiseRigging_within _ _)
    | with_reducible apply Within.step (Chip.shroudRefresh_within _)
    | split
    | with_reducible apply Within.set_spr

theorem Chip.supplyReturn_within (s : Chip) (n : Nat) :
    Within 0x44c000000000000000000000000000000000000000000000000000000000000000000000000000000000000000000000000000000000 0x9080 s (Chip.supplyReturn s n) := by
  unfold Chip.supplyReturn
  repeat' first
    | (extract_lets +onlyGivenNames x; refine .cut (x := x) ?_ ?_; rotate_left; clear_value x; intro _; rotate_left; subst x)
    | (extract_lets +onlyGivenNames x; refine .cut (x := x.2) ?_ ?_; rotate_left; clear_value x; intro _; rotate_left; subst x)
    | (extract_lets +onlyGivenNames x; refine .cut (x := x.2.2) ?_ ?_; rotate_left; clear_value x; intro _; rotate_left; subst x)
    | (extract_lets +onlyGivenNames x; clear_value x)
    | extract_lets +onlyGivenNames _
    | with_reducible apply Within.refl
    | with_reducible assumption
    | decide
    | with_reducible apply Within.step (Chip.shroudRefresh_within _)
    | split
    | with_reducible apply Within.set_spr

theorem Chip.lockoutPersisted_within (s : Chip) :
    Within 0x8000000 0x200000 s (Chip.lockoutPersisted s) := by
  unfold Chip.lockoutPersisted
  repeat' first
    | (extract_lets +onlyGivenNames x; refine .cut (x := x) ?_ ?_; rotate_left; clear_value x; intro _; rotate_left; subst x)
    | (extract_lets +onlyGivenNames x; refine .cut (x := x.2) ?_ ?_; rotate_left; clear_value x; intro _; rotate_left; subst x)
    | (extract_lets +onlyGivenNames x; refine .cut (x := x.2.2) ?_ ?_; rotate_left; clear_value x; intro _; rotate_left; subst x)
    | (extract_lets +onlyGivenNames x; clear_value x)
    | extract_lets +onlyGivenNames _
    | with_reducible apply Within.refl
    | with_reducible assumption
    | decide
    | with_reducible apply Within.step (Chip.takeWritten_within _ _)
    | with_reducible apply Within.wrFlag
    | split

theorem Chip.lockoutRetry_within (s : Chip) :
    Within 0x4501000000000000000000000000000000000000000000000000000000000000000000000000000000000000000000000000000000000000000000000000000000000000 0x2020 s (Chip.lockoutRetry s) := by
  unfold Chip.lockoutRetry
  repeat' first
    | (extract_lets +onlyGivenNames x; refine .cut (x := x) ?_ ?_; rotate_left; clear_value x; intro _; rotate_left; subst x)
    | (extract_lets +onlyGivenNames x; refine .cut (x := x.2) ?_ ?_; rotate_left; clear_value x; intro _; rotate_left; subst x)
    | (extract_lets +onlyGivenNames x; refine .cut (x := x.2.2) ?_ ?_; rotate_left; clear_value x; intro _; rotate_left; subst x)
    | (extract_lets +onlyGivenNames x; clear_value x)
    | extract_lets +onlyGivenNames _
    | with_reducible apply Within.refl
    | with_reducible assumption
    | decide
    | with_reducible apply Within.step (Chip.askLockout_within _)
    | split
    | with_reducible apply Within.set_modes

theorem Chip.lockoutRestore_within (s : Chip) :
    Within 0x2c00000000000000000000000000000000000000000000000000000c7c000000019000080000000000008000000000000000000000800004000000000000002000000020000000000000000030078000000 0x83a9a0 s (Chip.lockoutRestore s) := by
  unfold Chip.lockoutRestore
  repeat' first
    | (extract_lets +onlyGivenNames x; refine .cut (x := x) ?_ ?_; rotate_left; clear_value x; intro _; rotate_left; subst x)
    | (extract_lets +onlyGivenNames x; refine .cut (x := x.2) ?_ ?_; rotate_left; clear_value x; intro _; rotate_left; subst x)
    | (extract_lets +onlyGivenNames x; refine .cut (x := x.2.2) ?_ ?_; rotate_left; clear_value x; intro _; rotate_left; subst x)
    | (extract_lets +onlyGivenNames x; clear_value x)
    | extract_lets +onlyGivenNames _
    | with_reducible apply Within.refl
    | with_reducible assumption
    | decide
    | with_reducible apply Within.step (Chip.enterSafeHold_within _ _)
    | with_reducible apply Within.step (Chip.shroudLatch_within _ _)
    | split
    | with_reducible apply Within.set_modes

theorem Chip.filteredPulse_within (s : Chip) (width : Nat) :
    Within 0x70000000000 0x1020 s (Chip.filteredPulse s width) := by
  unfold Chip.filteredPulse
  repeat' first
    | (extract_lets +onlyGivenNames x; refine .cut (x := x) ?_ ?_; rotate_left; clear_value x; intro _; rotate_left; subst x)
    | (extract_lets +onlyGivenNames x; refine .cut (x := x.2) ?_ ?_; rotate_left; clear_value x; intro _; rotate_left; subst x)
    | (extract_lets +onlyGivenNames x; refine .cut (x := x.2.2) ?_ ?_; rotate_left; clear_value x; intro _; rotate_left; subst x)
    | (extract_lets +onlyGivenNames x; clear_value x)
    | extract_lets +onlyGivenNames _
    | with_reducible apply Within.refl
    | with_reducible assumption
    | decide
    | with_reducible apply Within.wr
    | split
    | with_reducible apply Within.set_spr
    | with_reducible apply Within.set_modes_spr

theorem Chip.resetPulse_within (s : Chip) (width : Nat) :
    Within 0x70000000000 0x1001020 s (Chip.resetPulse s width) := by
  unfold Chip.resetPulse
  repeat' first
    | (extract_lets +onlyGivenNames x; refine .cut (x := x) ?_ ?_; rotate_left; clear_value x; intro _; rotate_left; subst x)
    | (extract_lets +onlyGivenNames x; refine .cut (x := x.2) ?_ ?_; rotate_left; clear_value x; intro _; rotate_left; subst x)
    | (extract_lets +onlyGivenNames x; refine .cut (x := x.2.2) ?_ ?_; rotate_left; clear_value x; intro _; rotate_left; subst x)
    | (extract_lets +onlyGivenNames x; clear_value x)
    | extract_lets +onlyGivenNames _
    | with_reducible apply Within.refl
    | with_reducible assumption
    | decide
    | with_reducible apply Within.step (Chip.draw_within _)
    | with_reducible apply Within.step (Chip.filteredPulse_within _ _)
    | (with_reducible apply Within.onlyIf; rotate_left; intro _ _)
    | split

theorem Chip.ackWindowExpiry_within (s : Chip) :
    Within 0x30000000000 0 s (Chip.ackWindowExpiry s) := by
  unfold Chip.ackWindowExpiry
  repeat' first
    | (extract_lets +onlyGivenNames x; refine .cut (x := x) ?_ ?_; rotate_left; clear_value x; intro _; rotate_left; subst x)
    | (extract_lets +onlyGivenNames x; refine .cut (x := x.2) ?_ ?_; rotate_left; clear_value x; intro _; rotate_left; subst x)
    | (extract_lets +onlyGivenNames x; refine .cut (x := x.2.2) ?_ ?_; rotate_left; clear_value x; intro _; rotate_left; subst x)
    | (extract_lets +onlyGivenNames x; clear_value x)
    | extract_lets +onlyGivenNames _
    | with_reducible apply Within.refl
    | with_reducible assumption
    | decide
    | with_reducible apply Within.step (Chip.closeWindow_within _)
    | split

theorem Chip.ack_within (s : Chip) (authentic : Bool) :
    Within 0x2c0000000000000680f500000004501000000000000000000e04000c7c0000380d9000090000000000008000000000000004c1f8e8bfe7ffe00000619f8000e00000016f00000000020001fff0178000000 0xe2afa8 s (Chip.ack s authentic) := by
  unfold Chip.ack
  repeat' first
    | (extract_lets +onlyGivenNames x; refine .cut (x := x) ?_ ?_; rotate_left; clear_value x; intro _; rotate_left; subst x)
    | (extract_lets +onlyGivenNames x; refine .cut (x := x.2) ?_ ?_; rotate_left; clear_value x; intro _; rotate_left; subst x)
    | (extract_lets +onlyGivenNames x; refine .cut (x := x.2.2) ?_ ?_; rotate_left; clear_value x; intro _; rotate_left; subst x)
    | (extract_lets +onlyGivenNames x; clear_value x)
    | extract_lets +onlyGivenNames _
    | with_reducible apply Within.refl
    | with_reducible assumption
    | decide
    | with_reducible apply Within.step (Chip.closeWindow_within _)
    | with_reducible apply Within.step (Chip.deliberateReset_within _)
    | with_reducible apply Within.step (Chip.dropRequest_within _ _)
    | with_reducible apply Within.step (Chip.queuePage_within _ _ _)
    | with_reducible apply Within.step (Chip.returnLeave_within _ _)
    | with_reducible apply Within.step (Chip.shroudRefresh_within _)
    | with_reducible apply Within.wr
    | split

theorem Chip.watchdogExpiry_within (s : Chip) :
    Within 0x1ffffffffffffffffffffffffffffffffffffffffffffffffffffffffffffffffffffffffffffffffffffffffffffffffffffffffffffffffffffffffffffffffffffffffffffffffffffffffffffffffffff 0x1ffffff s (Chip.watchdogExpiry s) := by
  unfold Chip.watchdogExpiry
  repeat' first
    | (extract_lets +onlyGivenNames x; refine .cut (x := x) ?_ ?_; rotate_left; clear_value x; intro _; rotate_left; subst x)
    | (extract_lets +onlyGivenNames x; refine .cut (x := x.2) ?_ ?_; rotate_left; clear_value x; intro _; rotate_left; subst x)
    | (extract_lets +onlyGivenNames x; refine .cut (x := x.2.2) ?_ ?_; rotate_left; clear_value x; intro _; rotate_left; subst x)
    | (extract_lets +onlyGivenNames x; clear_value x)
    | extract_lets +onlyGivenNames _
    | with_reducible apply Within.refl
    | with_reducible assumption
    | decide
    | with_reducible apply Within.step (Chip.warmFailure_within _ _)
    | exact all_full _
    | exact testBit_full _
    | split

theorem Chip.lockstepMismatch_within (s : Chip) :
    Within 0x1ffffffffffffffffffffffffffffffffffffffffffffffffffffffffffffffffffffffffffffffffffffffffffffffffffffffffffffffffffffffffffffffffffffffffffffffffffffffffffffffffffff 0x1ffffff s (Chip.lockstepMismatch s) := by
  unfold Chip.lockstepMismatch
  repeat' first
    | (extract_lets +onlyGivenNames x; refine .cut (x := x) ?_ ?_; rotate_left; clear_value x; intro _; rotate_left; subst x)
    | (extract_lets +onlyGivenNames x; refine .cut (x := x.2) ?_ ?_; rotate_left; clear_value x; intro _; rotate_left; subst x)
    | (extract_lets +onlyGivenNames x; refine .cut (x := x.2.2) ?_ ?_; rotate_left; clear_value x; intro _; rotate_left; subst x)
    | (extract_lets +onlyGivenNames x; clear_value x)
    | extract_lets +onlyGivenNames _
    | with_reducible apply Within.refl
    | with_reducible assumption
    | decide
    | with_reducible apply Within.step (Chip.warmFailure_within _ _)
    | exact all_full _
    | exact testBit_full _
    | split

theorem Chip.porstRelease_within (s : Chip) (x : ReleaseFinds) :
    Within 0x4285f8000000000000000000000000000000000080000000000000000000000000000000000000000000000000000000001e00000000000000000000000016f000000000800002380000000000 0x220aa0 s (Chip.porstRelease s x) := by
  unfold Chip.porstRelease
  repeat' first
    | (extract_lets +onlyGivenNames x; refine .cut (x := x) ?_ ?_; rotate_left; clear_value x; intro _; rotate_left; subst x)
    | (extract_lets +onlyGivenNames x; refine .cut (x := x.2) ?_ ?_; rotate_left; clear_value x; intro _; rotate_left; subst x)
    | (extract_lets +onlyGivenNames x; refine .cut (x := x.2.2) ?_ ?_; rotate_left; clear_value x; intro _; rotate_left; subst x)
    | (extract_lets +onlyGivenNames x; clear_value x)
    | extract_lets +onlyGivenNames _
    | with_reducible apply Within.refl
    | with_reducible assumption
    | decide
    | with_reducible apply Within.step (Chip.flashFound_within _ _ _ _ _ _ _ _)
    | with_reducible apply Within.step (Chip.holdLanes_within _)
    | with_reducible apply Within.step (Chip.laneToHunt_within _ _)
    | with_reducible apply Within.wrFlag
    | (with_reducible apply Within.each; rotate_left; intro _ _ _)
    | split
    | with_reducible apply Within.set_modes_halyard

theorem Chip.queueShutdown_within (s : Chip) :
    Within 0 0x200000 s (Chip.queueShutdown s) := by
  unfold Chip.queueShutdown
  repeat' first
    | (extract_lets +onlyGivenNames x; refine .cut (x := x) ?_ ?_; rotate_left; clear_value x; intro _; rotate_left; subst x)
    | (extract_lets +onlyGivenNames x; refine .cut (x := x.2) ?_ ?_; rotate_left; clear_value x; intro _; rotate_left; subst x)
    | (extract_lets +onlyGivenNames x; refine .cut (x := x.2.2) ?_ ?_; rotate_left; clear_value x; intro _; rotate_left; subst x)
    | (extract_lets +onlyGivenNames x; clear_value x)
    | extract_lets +onlyGivenNames _
    | with_reducible apply Within.refl
    | with_reducible assumption
    | decide
    | with_reducible apply Within.step (Chip.queuePage_within _ _ _)
    | (with_reducible apply Within.each; rotate_left; intro _ _ _)
    | split

theorem Chip.evaluateTemperatures_within (s : Chip) (raw : List SensorReading) :
    Within 0x2c00000000000000000007e000a45016fe00000000000000000000046c000000019000080000000000008000000000000000000000800004000000000000002000000020000000000000000030078000000 0xa3a9a0 s (Chip.evaluateTemperatures s raw) := by
  unfold Chip.evaluateTemperatures
  repeat' first
    | (extract_lets +onlyGivenNames x; refine .cut (x := x) ?_ ?_; rotate_left; clear_value x; intro _; rotate_left; subst x)
    | (extract_lets +onlyGivenNames x; refine .cut (x := x.2) ?_ ?_; rotate_left; clear_value x; intro _; rotate_left; subst x)
    | (extract_lets +onlyGivenNames x; refine .cut (x := x.2.2) ?_ ?_; rotate_left; clear_value x; intro _; rotate_left; subst x)
    | (extract_lets +onlyGivenNames x; clear_value x)
    | extract_lets +onlyGivenNames _
    | with_reducible apply Within.refl
    | with_reducible assumption
    | decide
    | with_reducible apply Within.step (Chip.queueShutdown_within _)
    | with_reducible apply Within.step (Chip.thermalEvaluation_within _ _)
    | split

theorem Chip.shutdownWritten_within (s : Chip) :
    Within 0x2c0000000000000000000000000000001600000000000000000000046c000000019000080000000000008000000000000000000000800004000000000000002000000020000000000000000030078000000 0xa3a9a0 s (Chip.shutdownWritten s) := by
  unfold Chip.shutdownWritten
  repeat' first
    | (extract_lets +onlyGivenNames x; refine .cut (x := x) ?_ ?_; rotate_left; clear_value x; intro _; rotate_left; subst x)
    | (extract_lets +onlyGivenNames x; refine .cut (x := x.2) ?_ ?_; rotate_left; clear_value x; intro _; rotate_left; subst x)
    | (extract_lets +onlyGivenNames x; refine .cut (x := x.2.2) ?_ ?_; rotate_left; clear_value x; intro _; rotate_left; subst x)
    | (extract_lets +onlyGivenNames x; clear_value x)
    | extract_lets +onlyGivenNames _
    | with_reducible apply Within.refl
    | with_reducible assumption
    | decide
    | with_reducible apply Within.step (Chip.shutdownStep3_within _)
    | with_reducible apply Within.step (Chip.takeWritten_within _ _)
    | with_reducible apply Within.wr
    | (with_reducible apply Within.onlyIf; rotate_left; intro _ _)
    | split

theorem Chip.shutdownDeadline_within (s : Chip) :
    Within 0x2c0000000000000000000000000000000200000000000000000000046c000000019000080000000000008000000000000000000000800004000000000000002000000020000000000000000030078000000 0x83a9a0 s (Chip.shutdownDeadline s) := by
  unfold Chip.shutdownDeadline
  repeat' first
    | (extract_lets +onlyGivenNames x; refine .cut (x := x) ?_ ?_; rotate_left; clear_value x; intro _; rotate_left; subst x)
    | (extract_lets +onlyGivenNames x; refine .cut (x := x.2) ?_ ?_; rotate_left; clear_value x; intro _; rotate_left; subst x)
    | (extract_lets +onlyGivenNames x; refine .cut (x := x.2.2) ?_ ?_; rotate_left; clear_value x; intro _; rotate_left; subst x)
    | (extract_lets +onlyGivenNames x; clear_value x)
    | extract_lets +onlyGivenNames _
    | with_reducible apply Within.refl
    | with_reducible assumption
    | decide
    | with_reducible apply Within.step (Chip.shutdownStep3_within _)
    | split

theorem Chip.shutdownRetry_within (s : Chip) :
    Within 0 0x200000 s (Chip.shutdownRetry s) := by
  unfold Chip.shutdownRetry
  repeat' first
    | (extract_lets +onlyGivenNames x; refine .cut (x := x) ?_ ?_; rotate_left; clear_value x; intro _; rotate_left; subst x)
    | (extract_lets +onlyGivenNames x; refine .cut (x := x.2) ?_ ?_; rotate_left; clear_value x; intro _; rotate_left; subst x)
    | (extract_lets +onlyGivenNames x; refine .cut (x := x.2.2) ?_ ?_; rotate_left; clear_value x; intro _; rotate_left; subst x)
    | (extract_lets +onlyGivenNames x; clear_value x)
    | extract_lets +onlyGivenNames _
    | with_reducible apply Within.refl
    | with_reducible assumption
    | decide
    | with_reducible apply Within.step (Chip.queueShutdown_within _)
    | split

end Sys2Proof.Machine
end

