-- ==== Sys2Proof/Laws/FramePeriod.lean ====
section
/-! SUPPORT. The frames of the operations of Machine/Period.lean: the fields and the parts of the state each may change. -/

set_option linter.tactic.unusedName false

namespace Sys2Proof.Machine

theorem Chip.countBoundary_within (s : Chip) :
    Within 8 4 s (Chip.countBoundary s) := by
  unfold Chip.countBoundary
  repeat' first
    | (extract_lets +onlyGivenNames x; refine .cut (x := x) ?_ ?_; rotate_left; clear_value x; intro _; rotate_left; subst x)
    | (extract_lets +onlyGivenNames x; refine .cut (x := x.2) ?_ ?_; rotate_left; clear_value x; intro _; rotate_left; subst x)
    | (extract_lets +onlyGivenNames x; refine .cut (x := x.2.2) ?_ ?_; rotate_left; clear_value x; intro _; rotate_left; subst x)
    | (extract_lets +onlyGivenNames x; clear_value x)
    | extract_lets +onlyGivenNames _
    | with_reducible apply Within.refl
    | with_reducible assumption
    | decide
    | with_reducible apply Within.wr
    | split
    | with_reducible apply Within.set_clock

theorem Chip.keepBoundary_within (s : Chip) (ptp : Nat) :
    Within 0 0x80000 s (Chip.keepBoundary s ptp) := by
  unfold Chip.keepBoundary
  repeat' first
    | (extract_lets +onlyGivenNames x; refine .cut (x := x) ?_ ?_; rotate_left; clear_value x; intro _; rotate_left; subst x)
    | (extract_lets +onlyGivenNames x; refine .cut (x := x.2) ?_ ?_; rotate_left; clear_value x; intro _; rotate_left; subst x)
    | (extract_lets +onlyGivenNames x; refine .cut (x := x.2.2) ?_ ?_; rotate_left; clear_value x; intro _; rotate_left; subst x)
    | (extract_lets +onlyGivenNames x; clear_value x)
    | extract_lets +onlyGivenNames _
    | with_reducible apply Within.refl
    | with_reducible assumption
    | decide
    | split
    | with_reducible apply Within.set_net

theorem Chip.captureBoundary_within (s : Chip) :
    Within 0x3800000000000000000000000 0x1180000 s (Chip.captureBoundary s).2 := by
  unfold Chip.captureBoundary
  repeat' first
    | (extract_lets +onlyGivenNames x; refine .cut (x := x) ?_ ?_; rotate_left; clear_value x; intro _; rotate_left; subst x)
    | (extract_lets +onlyGivenNames x; refine .cut (x := x.2) ?_ ?_; rotate_left; clear_value x; intro _; rotate_left; subst x)
    | (extract_lets +onlyGivenNames x; refine .cut (x := x.2.2) ?_ ?_; rotate_left; clear_value x; intro _; rotate_left; subst x)
    | (extract_lets +onlyGivenNames x; clear_value x)
    | extract_lets +onlyGivenNames _
    | with_reducible apply Within.refl
    | with_reducible assumption
    | decide
    | with_reducible apply Within.step (Chip.freeNat_within _)
    | with_reducible apply Within.step (Chip.keepBoundary_within _ _)
    | with_reducible apply Within.step (Chip.keepCapture_within _ _)
    | with_reducible apply Within.wrFlag
    | with_reducible apply Within.wr
    | split

theorem Chip.pairBoundary_within (s : Chip) :
    Within 0x2c0000000000000000000000000000000000000000000038960400046c00000000000008000000000000800000000000000041400881e024000000410000002800000020000000000200000000060000008 0x82afac s (Chip.pairBoundary s) := by
  unfold Chip.pairBoundary
  repeat' first
    | (extract_lets +onlyGivenNames x; refine .cut (x := x) ?_ ?_; rotate_left; clear_value x; intro _; rotate_left; subst x)
    | (extract_lets +onlyGivenNames x; refine .cut (x := x.2) ?_ ?_; rotate_left; clear_value x; intro _; rotate_left; subst x)
    | (extract_lets +onlyGivenNames x; refine .cut (x := x.2.2) ?_ ?_; rotate_left; clear_value x; intro _; rotate_left; subst x)
    | (extract_lets +onlyGivenNames x; clear_value x)
    | extract_lets +onlyGivenNames _
    | with_reducible apply Within.refl
    | with_reducible assumption
    | decide
    | with_reducible apply Within.step (Chip.alignSilent_within _)
    | with_reducible apply Within.step (Chip.applyPart_within _ _ _)
    | with_reducible apply Within.step (Chip.judgeStep_within _)
    | with_reducible apply Within.step (Chip.probeBoundary_within _)
    | with_reducible apply Within.step (Chip.roleBoundary_within _)
    | with_reducible apply Within.step (Chip.watchStep_within _)
    | split

theorem Chip.takeSnapshot_within (s : Chip) (ptp : Option Nat) :
    Within 0x60000000000000000000000000000000000000000000000000cd80000000000000000000000000007ff800000000000000000000000000038000 0x114c881 s (Chip.takeSnapshot s ptp) := by
  unfold Chip.takeSnapshot
  repeat' first
    | (extract_lets +onlyGivenNames x; refine .cut (x := x) ?_ ?_; rotate_left; clear_value x; intro _; rotate_left; subst x)
    | (extract_lets +onlyGivenNames x; refine .cut (x := x.2) ?_ ?_; rotate_left; clear_value x; intro _; rotate_left; subst x)
    | (extract_lets +onlyGivenNames x; refine .cut (x := x.2.2) ?_ ?_; rotate_left; clear_value x; intro _; rotate_left; subst x)
    | (extract_lets +onlyGivenNames x; clear_value x)
    | extract_lets +onlyGivenNames _
    | with_reducible apply Within.refl
    | with_reducible assumption
    | decide
    | with_reducible apply Within.step (Chip.converterSnapshot_within _)
    | with_reducible apply Within.step (Chip.countExec_within _)
    | with_reducible apply Within.step (Chip.driversSnapshot_within _)
    | with_reducible apply Within.step (Chip.gooseSnapshot_within _)
    | with_reducible apply Within.step (Chip.meterBoundary_within _ _ _)
    | with_reducible apply Within.step (Chip.resampleAll_within _ _)
    | with_reducible apply Within.step (Chip.useBale_within _ _)
    | (with_reducible apply Within.each; rotate_left; intro _ _ _)
    | split

theorem liveCommand_within (gdi : List Int) (s : Chip) (c : LiveCommand) :
    Within 0x84501000000000000000000000000000000000000000890000000040090000000000000000000000000000000000000000000000000000000000000000000000000000000 0x30aa00 s (liveCommand gdi s c) := by
  unfold liveCommand
  repeat' first
    | (extract_lets +onlyGivenNames x; refine .cut (x := x) ?_ ?_; rotate_left; clear_value x; intro _; rotate_left; subst x)
    | (extract_lets +onlyGivenNames x; refine .cut (x := x.2) ?_ ?_; rotate_left; clear_value x; intro _; rotate_left; subst x)
    | (extract_lets +onlyGivenNames x; refine .cut (x := x.2.2) ?_ ?_; rotate_left; clear_value x; intro _; rotate_left; subst x)
    | (extract_lets +onlyGivenNames x; clear_value x)
    | extract_lets +onlyGivenNames _
    | with_reducible apply Within.refl
    | with_reducible assumption
    | decide
    | with_reducible apply Within.step (Chip.gdRearm_within _ _ _)
    | with_reducible apply Within.step (Chip.gdStaticOff_within _ _)
    | with_reducible apply Within.step (Chip.gdStaticOn_within _ _)
    | with_reducible apply Within.step (Chip.metrologySave_within _)
    | with_reducible apply Within.step (Chip.queueCellCommand_within _ _ _)
    | split

theorem Chip.countResume_within (s : Chip) :
    Within 0 0x20 s (Chip.countResume s) := by
  unfold Chip.countResume
  repeat' first
    | (extract_lets +onlyGivenNames x; refine .cut (x := x) ?_ ?_; rotate_left; clear_value x; intro _; rotate_left; subst x)
    | (extract_lets +onlyGivenNames x; refine .cut (x := x.2) ?_ ?_; rotate_left; clear_value x; intro _; rotate_left; subst x)
    | (extract_lets +onlyGivenNames x; refine .cut (x := x.2.2) ?_ ?_; rotate_left; clear_value x; intro _; rotate_left; subst x)
    | (extract_lets +onlyGivenNames x; clear_value x)
    | extract_lets +onlyGivenNames _
    | with_reducible apply Within.refl
    | with_reducible assumption
    | decide
    | split
    | with_reducible apply Within.set_modes

theorem Chip.periodBoundary_within (s : Chip) (gdi : List Int) :
    Within 0x2c000000000000000000000000845010000000000000003e960400046c0000000000008900000000480b8000010000000cd841400981e024000000410000002fff800020003800000200060000060038008 0x1beefad s (Chip.periodBoundary s gdi) := by
  unfold Chip.periodBoundary
  repeat' first
    | (extract_lets +onlyGivenNames x; refine .cut (x := x) ?_ ?_; rotate_left; clear_value x; intro _; rotate_left; subst x)
    | (extract_lets +onlyGivenNames x; refine .cut (x := x.2) ?_ ?_; rotate_left; clear_value x; intro _; rotate_left; subst x)
    | (extract_lets +onlyGivenNames x; refine .cut (x := x.2.2) ?_ ?_; rotate_left; clear_value x; intro _; rotate_left; subst x)
    | (extract_lets +onlyGivenNames x; clear_value x)
    | extract_lets +onlyGivenNames _
    | with_reducible apply Within.refl
    | with_reducible assumption
    | decide
    | with_reducible apply Within.step (Chip.advanceArms_within _)
    | with_reducible apply Within.step (Chip.advanceCarriers_within _)
    | with_reducible apply Within.step (Chip.captureBoundary_within _)
    | with_reducible apply Within.step (Chip.countBoundary_within _)
    | with_reducible apply Within.step (Chip.countResume_within _)
    | with_reducible apply Within.step (Chip.enginesSnapshot_within _)
    | with_reducible apply Within.step (Chip.judgeEdges_within _)
    | with_reducible apply Within.step (Chip.keepReleased_within _)
    | (with_reducible apply Chip.liveSnapshot_within; rotate_left; intro _ _ _)
    | with_reducible apply Within.step (Chip.meterStatus_within _)
    | with_reducible apply Within.step (Chip.pairBoundary_within _)
    | with_reducible apply Within.step (Chip.publishBoundary_within _)
    | with_reducible apply Within.step (Chip.slicesServe_within _)
    | with_reducible apply Within.step (Chip.systemWords_within _)
    | with_reducible apply Within.step (Chip.takeReady_within _)
    | with_reducible apply Within.step (Chip.takeSnapshot_within _ _)
    | with_reducible apply Within.step (liveCommand_within _ _ _)
    | (with_reducible apply Within.onlyIf; rotate_left; intro _ _)
    | split

theorem Chip.atInstant_within {F C : Nat} {s x : Chip} (k : Within F C s x) (n due : Nat) {g : Chip → Chip}
    (hC : C.testBit 2 = true) (h : ∀ u, Within F C s u → Within F C s (g u)) : Within F C s (x.atInstant n due g) := by
  unfold Chip.atInstant
  split
  · exact h _ (.set_clock k hC)
  · exact k

theorem Chip.distributeInputs_within (s : Chip) :
    Within 0x38800 0x1000c09 s (Chip.distributeInputs s) := by
  unfold Chip.distributeInputs
  repeat' first
    | (extract_lets +onlyGivenNames x; refine .cut (x := x) ?_ ?_; rotate_left; clear_value x; intro _; rotate_left; subst x)
    | (extract_lets +onlyGivenNames x; refine .cut (x := x.2) ?_ ?_; rotate_left; clear_value x; intro _; rotate_left; subst x)
    | (extract_lets +onlyGivenNames x; refine .cut (x := x.2.2) ?_ ?_; rotate_left; clear_value x; intro _; rotate_left; subst x)
    | (extract_lets +onlyGivenNames x; clear_value x)
    | extract_lets +onlyGivenNames _
    | with_reducible apply Within.refl
    | with_reducible assumption
    | decide
    | with_reducible apply Within.step (Chip.converterDistribute_within _)
    | with_reducible apply Within.step (Chip.fillInputs_within _)
    | with_reducible apply Within.step (Chip.liveDistribute_within _)
    | with_reducible apply Within.step (Chip.writeCellTable_within _ _)
    | (with_reducible apply Within.each; rotate_left; intro _ _ _)
    | split

theorem Chip.balancingStart_within (s : Chip) :
    Within 0x20000400000000000000000000000000000000000000000000000041700883e7fda0000041000000080000000000000000020000000000003e400 0x1020f09 s (Chip.balancingStart s) := by
  unfold Chip.balancingStart
  repeat' first
    | (extract_lets +onlyGivenNames x; refine .cut (x := x) ?_ ?_; rotate_left; clear_value x; intro _; rotate_left; subst x)
    | (extract_lets +onlyGivenNames x; refine .cut (x := x.2) ?_ ?_; rotate_left; clear_value x; intro _; rotate_left; subst x)
    | (extract_lets +onlyGivenNames x; refine .cut (x := x.2.2) ?_ ?_; rotate_left; clear_value x; intro _; rotate_left; subst x)
    | (extract_lets +onlyGivenNames x; clear_value x)
    | extract_lets +onlyGivenNames _
    | with_reducible apply Within.refl
    | with_reducible assumption
    | decide
    | with_reducible apply Within.step (Chip.applyPart_within _ _ _)
    | with_reducible apply Within.step (Chip.balance_within _)
    | with_reducible apply Within.step (Chip.engineOverruns_within _)
    | split

theorem Chip.reloadEdges_within (s : Chip) (lateArms : List Nat) (unfinished : List Nat) :
    Within 0x20000400000000000000000000000000000000000000000000000041400881e024000000619d80002800000000000000000200000000000038200 0x1028f09 s (Chip.reloadEdges s lateArms unfinished) := by
  unfold Chip.reloadEdges
  repeat' first
    | (extract_lets +onlyGivenNames x; refine .cut (x := x) ?_ ?_; rotate_left; clear_value x; intro _; rotate_left; subst x)
    | (extract_lets +onlyGivenNames x; refine .cut (x := x.2) ?_ ?_; rotate_left; clear_value x; intro _; rotate_left; subst x)
    | (extract_lets +onlyGivenNames x; refine .cut (x := x.2.2) ?_ ?_; rotate_left; clear_value x; intro _; rotate_left; subst x)
    | (extract_lets +onlyGivenNames x; clear_value x)
    | extract_lets +onlyGivenNames _
    | with_reducible apply Within.refl
    | with_reducible assumption
    | decide
    | with_reducible apply Within.step (Chip.applyPart_within _ _ _)
    | with_reducible apply Within.step (Chip.edgeReload_within _ _ _)
    | with_reducible apply Within.step (Chip.queueInterval_within _)
    | split

theorem Chip.sendFrame_within (s : Chip) (n : Nat) (f : Sheaf) :
    Within 0 0x1000080 s (Chip.sendFrame s n f) := by
  unfold Chip.sendFrame
  repeat' first
    | (extract_lets +onlyGivenNames x; refine .cut (x := x) ?_ ?_; rotate_left; clear_value x; intro _; rotate_left; subst x)
    | (extract_lets +onlyGivenNames x; refine .cut (x := x.2) ?_ ?_; rotate_left; clear_value x; intro _; rotate_left; subst x)
    | (extract_lets +onlyGivenNames x; refine .cut (x := x.2.2) ?_ ?_; rotate_left; clear_value x; intro _; rotate_left; subst x)
    | (extract_lets +onlyGivenNames x; clear_value x)
    | extract_lets +onlyGivenNames _
    | with_reducible apply Within.refl
    | with_reducible assumption
    | decide
    | with_reducible apply Within.step (Chip.draw_within _)
    | with_reducible apply Within.step (Chip.layFrame_within _ _ _ _)
    | with_reducible apply Within.step (Chip.nextTx_within _ _)
    | split

theorem Chip.sendSheaf_within (s : Chip) (n : Nat) :
    Within 0 0x1000280 s (Chip.sendSheaf s n) := by
  unfold Chip.sendSheaf
  repeat' first
    | (extract_lets +onlyGivenNames x; refine .cut (x := x) ?_ ?_; rotate_left; clear_value x; intro _; rotate_left; subst x)
    | (extract_lets +onlyGivenNames x; refine .cut (x := x.2) ?_ ?_; rotate_left; clear_value x; intro _; rotate_left; subst x)
    | (extract_lets +onlyGivenNames x; refine .cut (x := x.2.2) ?_ ?_; rotate_left; clear_value x; intro _; rotate_left; subst x)
    | (extract_lets +onlyGivenNames x; clear_value x)
    | extract_lets +onlyGivenNames _
    | with_reducible apply Within.refl
    | with_reducible assumption
    | decide
    | with_reducible apply Within.step (Chip.sendFrame_within _ _ _)
    | with_reducible apply Within.step (Chip.sendIdle_within _ _)
    | with_reducible apply Within.step (Chip.setCell_within _ _ _)
    | split

theorem Chip.edgeOverruns_within (s : Chip) :
    Within 0x100 0x900 s (Chip.edgeOverruns s) := by
  unfold Chip.edgeOverruns
  repeat' first
    | (extract_lets +onlyGivenNames x; refine .cut (x := x) ?_ ?_; rotate_left; clear_value x; intro _; rotate_left; subst x)
    | (extract_lets +onlyGivenNames x; refine .cut (x := x.2) ?_ ?_; rotate_left; clear_value x; intro _; rotate_left; subst x)
    | (extract_lets +onlyGivenNames x; refine .cut (x := x.2.2) ?_ ?_; rotate_left; clear_value x; intro _; rotate_left; subst x)
    | (extract_lets +onlyGivenNames x; clear_value x)
    | extract_lets +onlyGivenNames _
    | with_reducible apply Within.refl
    | with_reducible assumption
    | decide
    | with_reducible apply Within.step (Chip.raise_within _ _)
    | with_reducible apply Within.wr
    | (with_reducible apply Within.each; rotate_left; intro _ _ _)
    | split
    | with_reducible apply Within.set_edges

theorem Chip.sheavesStart_within (s : Chip) (overrun : Bool) :
    Within 0x120 0x1020b84 s (Chip.sheavesStart s overrun) := by
  unfold Chip.sheavesStart
  repeat' first
    | (extract_lets +onlyGivenNames x; refine .cut (x := x) ?_ ?_; rotate_left; clear_value x; intro _; rotate_left; subst x)
    | (extract_lets +onlyGivenNames x; refine .cut (x := x.2) ?_ ?_; rotate_left; clear_value x; intro _; rotate_left; subst x)
    | (extract_lets +onlyGivenNames x; refine .cut (x := x.2.2) ?_ ?_; rotate_left; clear_value x; intro _; rotate_left; subst x)
    | (extract_lets +onlyGivenNames x; clear_value x)
    | extract_lets +onlyGivenNames _
    | with_reducible apply Within.refl
    | with_reducible assumption
    | decide
    | with_reducible apply Within.step (Chip.edgeOverruns_within _)
    | with_reducible apply Within.step (Chip.probe_within _)
    | with_reducible apply Within.step (Chip.sendCopy_within _)
    | with_reducible apply Within.step (Chip.sendMarks_within _)
    | with_reducible apply Within.step (Chip.sendSheaf_within _ _)
    | with_reducible apply Within.wr
    | (with_reducible apply Within.each; rotate_left; intro _ _ _)
    | (with_reducible apply Within.onlyIf; rotate_left; intro _ _)
    | split
    | with_reducible apply Within.set_clock

theorem Chip.sheavesClose_within (s : Chip) (incomplete : Bool) :
    Within 0x80 0x84 s (Chip.sheavesClose s incomplete) := by
  unfold Chip.sheavesClose
  repeat' first
    | (extract_lets +onlyGivenNames x; refine .cut (x := x) ?_ ?_; rotate_left; clear_value x; intro _; rotate_left; subst x)
    | (extract_lets +onlyGivenNames x; refine .cut (x := x.2) ?_ ?_; rotate_left; clear_value x; intro _; rotate_left; subst x)
    | (extract_lets +onlyGivenNames x; refine .cut (x := x.2.2) ?_ ?_; rotate_left; clear_value x; intro _; rotate_left; subst x)
    | (extract_lets +onlyGivenNames x; clear_value x)
    | extract_lets +onlyGivenNames _
    | with_reducible apply Within.refl
    | with_reducible assumption
    | decide
    | with_reducible apply Within.step (Chip.setLane_within _ _ _)
    | with_reducible apply Within.wr
    | (with_reducible apply Within.each; rotate_left; intro _ _ _)
    | (with_reducible apply Within.onlyIf; rotate_left; intro _ _)
    | split
    | with_reducible apply Within.set_clock

theorem Chip.frameToMast_within (s : Chip) :
    Within 0x2c00000000000000000000000000000000000000000000000000000c7c00238001900008000000000002bfff800000000000000000800004000000000000002000000020000000000000000030078100000 0x83f9a0 s (Chip.frameToMast s) := by
  unfold Chip.frameToMast
  repeat' first
    | (extract_lets +onlyGivenNames x; refine .cut (x := x) ?_ ?_; rotate_left; clear_value x; intro _; rotate_left; subst x)
    | (extract_lets +onlyGivenNames x; refine .cut (x := x.2) ?_ ?_; rotate_left; clear_value x; intro _; rotate_left; subst x)
    | (extract_lets +onlyGivenNames x; refine .cut (x := x.2.2) ?_ ?_; rotate_left; clear_value x; intro _; rotate_left; subst x)
    | (extract_lets +onlyGivenNames x; clear_value x)
    | extract_lets +onlyGivenNames _
    | with_reducible apply Within.refl
    | with_reducible assumption
    | decide
    | with_reducible apply Within.step (Chip.deliverMirrors_within _)
    | with_reducible apply Within.step (Chip.sprToMast_within _)
    | with_reducible apply Within.wr
    | split
    | with_reducible apply Within.set_faults_spr

theorem Chip.frameToShroud_within (s : Chip) :
    Within 0xc7c000000000000000000000000000000000000000000000000000000000000000000000000000000000000000000000000000000000 0x9080 s (Chip.frameToShroud s) := by
  unfold Chip.frameToShroud
  repeat' first
    | (extract_lets +onlyGivenNames x; refine .cut (x := x) ?_ ?_; rotate_left; clear_value x; intro _; rotate_left; subst x)
    | (extract_lets +onlyGivenNames x; refine .cut (x := x.2) ?_ ?_; rotate_left; clear_value x; intro _; rotate_left; subst x)
    | (extract_lets +onlyGivenNames x; refine .cut (x := x.2.2) ?_ ?_; rotate_left; clear_value x; intro _; rotate_left; subst x)
    | (extract_lets +onlyGivenNames x; clear_value x)
    | extract_lets +onlyGivenNames _
    | with_reducible apply Within.refl
    | with_reducible assumption
    | decide
    | with_reducible apply Within.step (Chip.shroudLatch_within _ _)
    | with_reducible apply Within.step (Chip.shroudUnblock_within _)
    | with_reducible apply Within.wrFlag
    | (with_reducible apply Within.onlyIf; rotate_left; intro _ _)
    | split
    | with_reducible apply Within.set_spr

theorem Chip.idbFrame_within (s : Chip) (toShroud : Bool) (good : Bool) :
    Within 0x2c00000000000000000000000000000000000000000000000000000c7c00238001900008000000000002bfff800000000000000000800004000000000000002000000020000000000000000030078500000 0x83f9a0 s (Chip.idbFrame s toShroud good) := by
  unfold Chip.idbFrame
  repeat' first
    | (extract_lets +onlyGivenNames x; refine .cut (x := x) ?_ ?_; rotate_left; clear_value x; intro _; rotate_left; subst x)
    | (extract_lets +onlyGivenNames x; refine .cut (x := x.2) ?_ ?_; rotate_left; clear_value x; intro _; rotate_left; subst x)
    | (extract_lets +onlyGivenNames x; refine .cut (x := x.2.2) ?_ ?_; rotate_left; clear_value x; intro _; rotate_left; subst x)
    | (extract_lets +onlyGivenNames x; clear_value x)
    | extract_lets +onlyGivenNames _
    | with_reducible apply Within.refl
    | with_reducible assumption
    | decide
    | with_reducible apply Within.step (Chip.frameToMast_within _)
    | with_reducible apply Within.step (Chip.frameToShroud_within _)
    | with_reducible apply Within.step (Chip.shroudRefresh_within _)
    | with_reducible apply Within.count
    | with_reducible apply Within.wr
    | split

theorem Chip.shroudSilence_within (s : Chip) :
    Within 0xc5c000000010000000000000000000000000000000000000000000000000000000000000000000000000000000000000000000000000 0x9880 s (Chip.shroudSilence s) := by
  unfold Chip.shroudSilence
  repeat' first
    | (extract_lets +onlyGivenNames x; refine .cut (x := x) ?_ ?_; rotate_left; clear_value x; intro _; rotate_left; subst x)
    | (extract_lets +onlyGivenNames x; refine .cut (x := x.2) ?_ ?_; rotate_left; clear_value x; intro _; rotate_left; subst x)
    | (extract_lets +onlyGivenNames x; refine .cut (x := x.2.2) ?_ ?_; rotate_left; clear_value x; intro _; rotate_left; subst x)
    | (extract_lets +onlyGivenNames x; clear_value x)
    | extract_lets +onlyGivenNames _
    | with_reducible apply Within.refl
    | with_reducible assumption
    | decide
    | with_reducible apply Within.step (Chip.raiseRigging_within _ _)
    | with_reducible apply Within.step (Chip.shroudLatch_within _ _)
    | with_reducible apply Within.wr
    | split
    | with_reducible apply Within.set_spr

theorem Chip.mastSilence_within (s : Chip) :
    Within 0x100000 0x800 s (Chip.mastSilence s) := by
  unfold Chip.mastSilence
  repeat' first
    | (extract_lets +onlyGivenNames x; refine .cut (x := x) ?_ ?_; rotate_left; clear_value x; intro _; rotate_left; subst x)
    | (extract_lets +onlyGivenNames x; refine .cut (x := x.2) ?_ ?_; rotate_left; clear_value x; intro _; rotate_left; subst x)
    | (extract_lets +onlyGivenNames x; refine .cut (x := x.2.2) ?_ ?_; rotate_left; clear_value x; intro _; rotate_left; subst x)
    | (extract_lets +onlyGivenNames x; clear_value x)
    | extract_lets +onlyGivenNames _
    | with_reducible apply Within.refl
    | with_reducible assumption
    | decide
    | with_reducible apply Within.step (Chip.raise_within _ _)
    | with_reducible apply Within.wr
    | split

theorem Chip.sramUpset_within (s : Chip) (word : Nat) (flips : List Nat) :
    Within 0 1 s (Chip.sramUpset s word flips) := .set_sram .refl rfl (by decide)

theorem Chip.scrubWord_within (s : Chip) :
    Within 0xb8000 0x1000801 s (Chip.scrubWord s) := by
  unfold Chip.scrubWord
  extract_lets +onlyGivenNames w x
  have k : Within 0xb8000 0x1000801 s x :=
    .onlyIf (.step (Chip.sramAccess_within _ _) .refl (by decide) (by decide)) _ fun u hu =>
      .step (Chip.sramHeal_within _ _) hu (by decide) (by decide)
  clear_value x
  split
  · exact .set_sram (.wr k _ _ _ (by decide)) rfl (by decide)
  · exact .set_sram k rfl (by decide)

theorem Chip.scrubStep_within (s : Chip) (upsets : List (Nat × List Nat)) (words : Nat) :
    Within 0xb8000 0x1000801 s (Chip.scrubStep s upsets words) := by
  unfold Chip.scrubStep
  repeat' first
    | (extract_lets +onlyGivenNames x; refine .cut (x := x) ?_ ?_; rotate_left; clear_value x; intro _; rotate_left; subst x)
    | (extract_lets +onlyGivenNames x; refine .cut (x := x.2) ?_ ?_; rotate_left; clear_value x; intro _; rotate_left; subst x)
    | (extract_lets +onlyGivenNames x; refine .cut (x := x.2.2) ?_ ?_; rotate_left; clear_value x; intro _; rotate_left; subst x)
    | (extract_lets +onlyGivenNames x; clear_value x)
    | extract_lets +onlyGivenNames _
    | with_reducible apply Within.refl
    | with_reducible assumption
    | decide
    | with_reducible apply Within.step (Chip.scrubWord_within _)
    | with_reducible apply Within.step (Chip.sramUpset_within _ _ _)
    | (with_reducible apply Within.each; rotate_left; intro _ _ _)
    | split

end Sys2Proof.Machine
end

