-- ==== Sys2Proof/Laws/FrameBus.lean ====
section
/-! SUPPORT. The frames of the operations of Machine/Bus.lean: the fields and the parts of the state each may change. -/

set_option linter.tactic.unusedName false

namespace Sys2Proof.Machine

theorem Chip.setStale_within (s : Chip) (f : Fld) (i : Nat) :
    Within 0x1000000000000000000000000000000000000001c0000000000000000000000000000000000000000000000000000000000c000000000000000000000000 0 s (Chip.setStale s f i) := by
  unfold Chip.setStale
  repeat' first
    | (extract_lets +onlyGivenNames x; refine .cut (x := x) ?_ ?_; rotate_left; clear_value x; intro _; rotate_left; subst x)
    | (extract_lets +onlyGivenNames x; refine .cut (x := x.2) ?_ ?_; rotate_left; clear_value x; intro _; rotate_left; subst x)
    | (extract_lets +onlyGivenNames x; refine .cut (x := x.2.2) ?_ ?_; rotate_left; clear_value x; intro _; rotate_left; subst x)
    | (extract_lets +onlyGivenNames x; clear_value x)
    | extract_lets +onlyGivenNames _
    | with_reducible apply Within.refl
    | with_reducible assumption
    | decide
    | with_reducible apply Within.wrBit
    | with_reducible apply Within.wr
    | split

theorem Chip.setShadow_within (s : Chip) (f : Fld) (i : Nat) (x : Shadow) :
    Within 0 2 s (Chip.setShadow s f i x) := by
  unfold Chip.setShadow
  repeat' first
    | (extract_lets +onlyGivenNames x; refine .cut (x := x) ?_ ?_; rotate_left; clear_value x; intro _; rotate_left; subst x)
    | (extract_lets +onlyGivenNames x; refine .cut (x := x.2) ?_ ?_; rotate_left; clear_value x; intro _; rotate_left; subst x)
    | (extract_lets +onlyGivenNames x; refine .cut (x := x.2.2) ?_ ?_; rotate_left; clear_value x; intro _; rotate_left; subst x)
    | (extract_lets +onlyGivenNames x; clear_value x)
    | extract_lets +onlyGivenNames _
    | with_reducible apply Within.refl
    | with_reducible assumption
    | decide
    | split
    | with_reducible apply Within.set_bus

theorem clearedFields_within (f : Fld) (h : f.spec.access = .rc) : Nat.testBit 0x180e00080700000f80000000807000409000180038007800000000030060200c0000f00000000000080040000000181e001800000003c000000000180000c000603080000000060100000000000608000 f.ctorIdx = true := by
  cases f <;> first | decide | exact absurd h (by decide)

theorem Chip.clearOnRead_within (s : Chip) (r : Reg) (i : Nat) : Within 0x180e00080700000f80000000807000409000180038007800000000030060200c0000f00000000000080040000000181e001800000003c000000000180000c000603080000000060100000000000608000 0 s (s.clearOnRead r i) := by
  unfold Chip.clearOnRead Chip.each
  generalize hl : r.spec.fields.filter _ = l
  have hm : ∀ f ∈ l, f.spec.access = .rc := fun f hf => by
    have := (List.mem_filter.mp (hl ▸ hf)).2
    simpa using this
  clear hl
  have k : Within 0x180e00080700000f80000000807000409000180038007800000000030060200c0000f00000000000080040000000181e001800000003c000000000180000c000603080000000060100000000000608000 0 s s := .refl
  revert k
  generalize s = x at *
  suffices ∀ y, Within 0x180e00080700000f80000000807000409000180038007800000000030060200c0000f00000000000080040000000181e001800000003c000000000180000c000603080000000060100000000000608000 0 x y → Within 0x180e00080700000f80000000807000409000180038007800000000030060200c0000f00000000000080040000000181e001800000003c000000000180000c000603080000000060100000000000608000 0 x (l.foldl (fun s f => s.wr f 0 i) y) from fun k => this x k
  induction l with
  | nil => exact fun y k => k
  | cons f l ih =>
    intro y k
    exact ih (fun g hg => hm g (by simp [hg])) _ (k.wr f _ i (clearedFields_within f (hm f (by simp))))

theorem Chip.readLow_within (s : Chip) (r : Reg) (hi : Fld) (i : Nat) :
    Within 0x180000000000000000000000000000000000000000000000000000000000000000000000000000000000000 2 s (Chip.readLow s r hi i).2 := by
  unfold Chip.readLow
  repeat' first
    | (extract_lets +onlyGivenNames x; refine .cut (x := x) ?_ ?_; rotate_left; clear_value x; intro _; rotate_left; subst x)
    | (extract_lets +onlyGivenNames x; refine .cut (x := x.2) ?_ ?_; rotate_left; clear_value x; intro _; rotate_left; subst x)
    | (extract_lets +onlyGivenNames x; refine .cut (x := x.2.2) ?_ ?_; rotate_left; clear_value x; intro _; rotate_left; subst x)
    | (extract_lets +onlyGivenNames x; clear_value x)
    | extract_lets +onlyGivenNames _
    | with_reducible apply Within.refl
    | with_reducible assumption
    | decide
    | with_reducible apply Within.step (Chip.setShadow_within _ _ _ _)
    | with_reducible apply Chip.wr64_within
    | split

theorem Chip.readHigh_within (s : Chip) (f : Fld) (i : Nat) :
    Within 0x1000000000000000000000000000000000000001c0000000000000000000000000000000000000000000000000000000000c000000000000000000000000 2 s (Chip.readHigh s f i).2 := by
  unfold Chip.readHigh
  repeat' first
    | (extract_lets +onlyGivenNames x; refine .cut (x := x) ?_ ?_; rotate_left; clear_value x; intro _; rotate_left; subst x)
    | (extract_lets +onlyGivenNames x; refine .cut (x := x.2) ?_ ?_; rotate_left; clear_value x; intro _; rotate_left; subst x)
    | (extract_lets +onlyGivenNames x; refine .cut (x := x.2.2) ?_ ?_; rotate_left; clear_value x; intro _; rotate_left; subst x)
    | (extract_lets +onlyGivenNames x; clear_value x)
    | extract_lets +onlyGivenNames _
    | with_reducible apply Within.refl
    | with_reducible assumption
    | decide
    | with_reducible apply Within.step (Chip.setShadow_within _ _ _ _)
    | with_reducible apply Within.step (Chip.setStale_within _ _ _)
    | split

theorem Chip.readReg_within (s : Chip) (r : Reg) (i : Nat) : Within 0x180e00080700000f80000000807000409000190038007800000000030060200c0000f00000181c00080040000000181e001800000003c000000000180000c00060308000c000060100000000000608000 2 s (s.readReg r i).2 := by
  unfold Chip.readReg
  split
  · exact .mono (Chip.readLow_within _ _ _ _) (by decide) (by decide)
  · exact .mono (Chip.readHigh_within _ _ _) (by decide) (by decide)
  · exact .mono (Chip.clearOnRead_within _ _ _) (by decide) (by decide)

theorem Chip.readSram_within (s : Chip) (a : Nat) :
    Within 0x38000 0x1000800 s (Chip.readSram s a).2 := by
  unfold Chip.readSram
  repeat' first
    | (extract_lets +onlyGivenNames x; refine .cut (x := x) ?_ ?_; rotate_left; clear_value x; intro _; rotate_left; subst x)
    | (extract_lets +onlyGivenNames x; refine .cut (x := x.2) ?_ ?_; rotate_left; clear_value x; intro _; rotate_left; subst x)
    | (extract_lets +onlyGivenNames x; refine .cut (x := x.2.2) ?_ ?_; rotate_left; clear_value x; intro _; rotate_left; subst x)
    | (extract_lets +onlyGivenNames x; clear_value x)
    | extract_lets +onlyGivenNames _
    | with_reducible apply Within.refl
    | with_reducible assumption
    | decide
    | with_reducible apply Within.step (Chip.sramAccess_within _ _)
    | split

theorem Chip.lostAccess_within (s : Chip) :
    Within 0x200000 0 s (Chip.lostAccess s) := by
  unfold Chip.lostAccess
  repeat' first
    | (extract_lets +onlyGivenNames x; refine .cut (x := x) ?_ ?_; rotate_left; clear_value x; intro _; rotate_left; subst x)
    | (extract_lets +onlyGivenNames x; refine .cut (x := x.2) ?_ ?_; rotate_left; clear_value x; intro _; rotate_left; subst x)
    | (extract_lets +onlyGivenNames x; refine .cut (x := x.2.2) ?_ ?_; rotate_left; clear_value x; intro _; rotate_left; subst x)
    | (extract_lets +onlyGivenNames x; clear_value x)
    | extract_lets +onlyGivenNames _
    | with_reducible apply Within.refl
    | with_reducible assumption
    | decide
    | with_reducible apply Within.count
    | split

theorem Chip.busRead_within (s : Chip) (a : Nat) :
    Within 0x180e00080700000f80000000807000409000190038007800000000030060200c0000f00000181c00080040000000181e001800000003c000000000180000c00060308000c000060100000000000638000 0x1000802 s (Chip.busRead s a).2 := by
  unfold Chip.busRead
  repeat' first
    | (extract_lets +onlyGivenNames x; refine .cut (x := x) ?_ ?_; rotate_left; clear_value x; intro _; rotate_left; subst x)
    | (extract_lets +onlyGivenNames x; refine .cut (x := x.2) ?_ ?_; rotate_left; clear_value x; intro _; rotate_left; subst x)
    | (extract_lets +onlyGivenNames x; refine .cut (x := x.2.2) ?_ ?_; rotate_left; clear_value x; intro _; rotate_left; subst x)
    | (extract_lets +onlyGivenNames x; clear_value x)
    | extract_lets +onlyGivenNames _
    | with_reducible apply Within.refl
    | with_reducible assumption
    | decide
    | with_reducible apply Within.step (Chip.lostAccess_within _)
    | with_reducible apply Within.step (Chip.readReg_within _ _ _)
    | with_reducible apply Within.step (Chip.readSram_within _ _)
    | split

theorem Chip.readAt_within (s : Chip) (a : Nat) :
    Within 0x180e00080700000f80000000807000409000190038007800000000030060200c0000f00000181c00080040000000181e001800000003c000000000180000c00060308000c000060100000000000638000 0x1000802 s (Chip.readAt s a) := by
  unfold Chip.readAt
  repeat' first
    | (extract_lets +onlyGivenNames x; refine .cut (x := x) ?_ ?_; rotate_left; clear_value x; intro _; rotate_left; subst x)
    | (extract_lets +onlyGivenNames x; refine .cut (x := x.2) ?_ ?_; rotate_left; clear_value x; intro _; rotate_left; subst x)
    | (extract_lets +onlyGivenNames x; refine .cut (x := x.2.2) ?_ ?_; rotate_left; clear_value x; intro _; rotate_left; subst x)
    | (extract_lets +onlyGivenNames x; clear_value x)
    | extract_lets +onlyGivenNames _
    | with_reducible apply Within.refl
    | with_reducible assumption
    | decide
    | with_reducible apply Within.step (Chip.busRead_within _ _)
    | split
    | with_reducible apply Within.set_bus

theorem writtenFields_within (f : Fld) (h : f.spec.access = .rw ∨ f.spec.access = .w1c) : Nat.testBit 0x1000000000200000000000000034003000400004000000000000400c26400020000001c1001300000800000005006180000000260000020808000020000040000c00000020000000ff00020fe0 f.ctorIdx = true := by
  cases f <;> first | decide | exact absurd h (by decide)

theorem Chip.writeFields_within (s : Chip) (r : Reg) (i v : Nat) : Within 0x1000000000200000000000000034003000400004000000000000400c26400020000001c1001300000800000005006180000000260000020808000020000040000c00000020000000ff00020fe0 0 s (s.writeFields r i v) := by
  unfold Chip.writeFields
  refine .each .refl _ fun u f hu => ?_
  extract_lets x
  split
  · next h => exact hu.wr f _ i (writtenFields_within f (.inl h))
  · next h => exact hu.wr f _ i (writtenFields_within f (.inr h))
  · exact hu

theorem Chip.restartMargin_within (s : Chip) :
    Within 0x6000 0 s (Chip.restartMargin s) := by
  unfold Chip.restartMargin
  repeat' first
    | (extract_lets +onlyGivenNames x; refine .cut (x := x) ?_ ?_; rotate_left; clear_value x; intro _; rotate_left; subst x)
    | (extract_lets +onlyGivenNames x; refine .cut (x := x.2) ?_ ?_; rotate_left; clear_value x; intro _; rotate_left; subst x)
    | (extract_lets +onlyGivenNames x; refine .cut (x := x.2.2) ?_ ?_; rotate_left; clear_value x; intro _; rotate_left; subst x)
    | (extract_lets +onlyGivenNames x; clear_value x)
    | extract_lets +onlyGivenNames _
    | with_reducible apply Within.refl
    | with_reducible assumption
    | decide
    | with_reducible apply Within.wr
    | split

theorem Chip.commitNow_within (s : Chip) :
    Within 0xc800000000000000000000000000000038000 0x1000900 s (Chip.commitNow s) := by
  unfold Chip.commitNow
  repeat' first
    | (extract_lets +onlyGivenNames x; refine .cut (x := x) ?_ ?_; rotate_left; clear_value x; intro _; rotate_left; subst x)
    | (extract_lets +onlyGivenNames x; refine .cut (x := x.2) ?_ ?_; rotate_left; clear_value x; intro _; rotate_left; subst x)
    | (extract_lets +onlyGivenNames x; refine .cut (x := x.2.2) ?_ ?_; rotate_left; clear_value x; intro _; rotate_left; subst x)
    | (extract_lets +onlyGivenNames x; clear_value x)
    | extract_lets +onlyGivenNames _
    | with_reducible apply Within.refl
    | with_reducible assumption
    | decide
    | with_reducible apply Within.step (Chip.commitSet_within _ _)
    | split

theorem Chip.laneControl_within (s : Chip) (n : Nat) (v : Nat) :
    Within 0x450100000000000000000080000000000000000000000000000000000000000000000000000000001e00000000000000000000000016f000000000000002380200000000 0x22a0 s (Chip.laneControl s n v) := by
  unfold Chip.laneControl
  repeat' first
    | (extract_lets +onlyGivenNames x; refine .cut (x := x) ?_ ?_; rotate_left; clear_value x; intro _; rotate_left; subst x)
    | (extract_lets +onlyGivenNames x; refine .cut (x := x.2) ?_ ?_; rotate_left; clear_value x; intro _; rotate_left; subst x)
    | (extract_lets +onlyGivenNames x; refine .cut (x := x.2.2) ?_ ?_; rotate_left; clear_value x; intro _; rotate_left; subst x)
    | (extract_lets +onlyGivenNames x; clear_value x)
    | extract_lets +onlyGivenNames _
    | with_reducible apply Within.refl
    | with_reducible assumption
    | decide
    | with_reducible apply Within.step (Chip.eyeScanRequest_within _ _)
    | with_reducible apply Within.step (Chip.laneReset_within _ _)
    | with_reducible apply Within.step (Chip.readaptRequest_within _ _)
    | (with_reducible apply Within.onlyIf; rotate_left; intro _ _)
    | split

theorem Chip.writeLive_within (s : Chip) (i : Nat) (v : Nat) :
    Within 0x4000000000000000000000000000000000000000000000000000000000000000000000000000000000000000000000000003c0000000000000000 0x808 s (Chip.writeLive s i v) := by
  unfold Chip.writeLive
  repeat' first
    | (extract_lets +onlyGivenNames x; refine .cut (x := x) ?_ ?_; rotate_left; clear_value x; intro _; rotate_left; subst x)
    | (extract_lets +onlyGivenNames x; refine .cut (x := x.2) ?_ ?_; rotate_left; clear_value x; intro _; rotate_left; subst x)
    | (extract_lets +onlyGivenNames x; refine .cut (x := x.2.2) ?_ ?_; rotate_left; clear_value x; intro _; rotate_left; subst x)
    | (extract_lets +onlyGivenNames x; clear_value x)
    | extract_lets +onlyGivenNames _
    | with_reducible apply Within.refl
    | with_reducible assumption
    | decide
    | with_reducible apply Within.step (Chip.liveWrite_within _ _ _)
    | with_reducible apply Within.count
    | split

theorem Chip.writeReg_within (s : Chip) (r : Reg) (i : Nat) (v : Nat) (edges : Bool) :
    Within 0x1ffffffffffffffffffffffffffffffffffffffffffffffffffffffffffffffffffffffffffffffffffffffffffffffffffffffffffffffffffffffffffffffffffffffffffffffffffffffffffffffffffff 0x1ffffff s (Chip.writeReg s r i v edges) := by
  unfold Chip.writeReg
  repeat' first
    | (extract_lets +onlyGivenNames x; refine .cut (x := x) ?_ ?_; rotate_left; clear_value x; intro _; rotate_left; subst x)
    | (extract_lets +onlyGivenNames x; refine .cut (x := x.2) ?_ ?_; rotate_left; clear_value x; intro _; rotate_left; subst x)
    | (extract_lets +onlyGivenNames x; refine .cut (x := x.2.2) ?_ ?_; rotate_left; clear_value x; intro _; rotate_left; subst x)
    | (extract_lets +onlyGivenNames x; clear_value x)
    | extract_lets +onlyGivenNames _
    | with_reducible apply Within.refl
    | with_reducible assumption
    | decide
    | with_reducible apply Within.step (Chip.commitNow_within _)
    | with_reducible apply Within.step (Chip.hopRequest_within _ _ _)
    | with_reducible apply Within.step (Chip.kick_within _ _)
    | with_reducible apply Within.step (Chip.laneControl_within _ _ _)
    | with_reducible apply Within.step (Chip.modeRequest_within _ _)
    | with_reducible apply Within.step (Chip.poArm_within _ _ _)
    | with_reducible apply Within.step (Chip.restartMargin_within _)
    | with_reducible apply Within.step (Chip.showConverter_within _)
    | with_reducible apply Within.step (Chip.writeFields_within _ _ _ _)
    | with_reducible apply Within.step (Chip.writeLive_within _ _ _)
    | (with_reducible apply Within.onlyIf; rotate_left; intro _ _)
    | exact all_full _
    | exact testBit_full _
    | split

theorem Chip.writeSram_within (s : Chip) (a : Nat) (v : Nat) :
    Within 0x38000 0x1000801 s (Chip.writeSram s a v) := by
  unfold Chip.writeSram
  repeat' first
    | (extract_lets +onlyGivenNames x; refine .cut (x := x) ?_ ?_; rotate_left; clear_value x; intro _; rotate_left; subst x)
    | (extract_lets +onlyGivenNames x; refine .cut (x := x.2) ?_ ?_; rotate_left; clear_value x; intro _; rotate_left; subst x)
    | (extract_lets +onlyGivenNames x; refine .cut (x := x.2.2) ?_ ?_; rotate_left; clear_value x; intro _; rotate_left; subst x)
    | (extract_lets +onlyGivenNames x; clear_value x)
    | extract_lets +onlyGivenNames _
    | with_reducible apply Within.refl
    | with_reducible assumption
    | decide
    | with_reducible apply Within.step (Chip.sramPutWord_within _ _ _)
    | split

theorem Chip.busWrite_within (s : Chip) (a : Nat) (v : Nat) (edges : Bool) :
    Within 0x1ffffffffffffffffffffffffffffffffffffffffffffffffffffffffffffffffffffffffffffffffffffffffffffffffffffffffffffffffffffffffffffffffffffffffffffffffffffffffffffffffffff 0x1ffffff s (Chip.busWrite s a v edges) := by
  unfold Chip.busWrite
  repeat' first
    | (extract_lets +onlyGivenNames x; refine .cut (x := x) ?_ ?_; rotate_left; clear_value x; intro _; rotate_left; subst x)
    | (extract_lets +onlyGivenNames x; refine .cut (x := x.2) ?_ ?_; rotate_left; clear_value x; intro _; rotate_left; subst x)
    | (extract_lets +onlyGivenNames x; refine .cut (x := x.2.2) ?_ ?_; rotate_left; clear_value x; intro _; rotate_left; subst x)
    | (extract_lets +onlyGivenNames x; clear_value x)
    | extract_lets +onlyGivenNames _
    | with_reducible apply Within.refl
    | with_reducible assumption
    | decide
    | with_reducible apply Within.step (Chip.lostAccess_within _)
    | with_reducible apply Within.step (Chip.writeReg_within _ _ _ _ _)
    | with_reducible apply Within.step (Chip.writeSram_within _ _ _)
    | exact all_full _
    | exact testBit_full _
    | split

theorem Chip.riggingAccess_within (s : Chip) (a : Nat) (write : Option Nat) :
    Within 0x1ffffffffffffffffffffffffffffffffffffffffffffffffffffffffffffffffffffffffffffffffffffffffffffffffffffffffffffffffffffffffffffffffffffffffffffffffffffffffffffffffffff 0x1ffffff s (Chip.riggingAccess s a write) := by
  unfold Chip.riggingAccess
  repeat' first
    | (extract_lets +onlyGivenNames x; refine .cut (x := x) ?_ ?_; rotate_left; clear_value x; intro _; rotate_left; subst x)
    | (extract_lets +onlyGivenNames x; refine .cut (x := x.2) ?_ ?_; rotate_left; clear_value x; intro _; rotate_left; subst x)
    | (extract_lets +onlyGivenNames x; refine .cut (x := x.2.2) ?_ ?_; rotate_left; clear_value x; intro _; rotate_left; subst x)
    | (extract_lets +onlyGivenNames x; clear_value x)
    | extract_lets +onlyGivenNames _
    | with_reducible apply Within.refl
    | with_reducible assumption
    | decide
    | with_reducible apply Within.step (Chip.busWrite_within _ _ _ _)
    | with_reducible apply Within.step (Chip.readAt_within _ _)
    | exact all_full _
    | exact testBit_full _
    | split

theorem Chip.riggingTimeout_within (s : Chip) (write : Bool) :
    Within 0x200000 2 s (Chip.riggingTimeout s write) := by
  unfold Chip.riggingTimeout
  repeat' first
    | (extract_lets +onlyGivenNames x; refine .cut (x := x) ?_ ?_; rotate_left; clear_value x; intro _; rotate_left; subst x)
    | (extract_lets +onlyGivenNames x; refine .cut (x := x.2) ?_ ?_; rotate_left; clear_value x; intro _; rotate_left; subst x)
    | (extract_lets +onlyGivenNames x; refine .cut (x := x.2.2) ?_ ?_; rotate_left; clear_value x; intro _; rotate_left; subst x)
    | (extract_lets +onlyGivenNames x; clear_value x)
    | extract_lets +onlyGivenNames _
    | with_reducible apply Within.refl
    | with_reducible assumption
    | decide
    | with_reducible apply Within.step (Chip.lostAccess_within _)
    | split
    | with_reducible apply Within.set_bus

end Sys2Proof.Machine
end

