-- ==== Sys2Proof/Laws/FrameStation.lean ====
section
/-! SUPPORT. The frames of the operations of Machine/Station.lean: the fields and the parts of the state each may change. -/

set_option linter.tactic.unusedName false

namespace Sys2Proof.Machine

theorem Chip.readWords_within (s : Chip) (z1 : Nat) (z2 : Nat) :
    Within 0x180e00080700000f80000000807000409000190038007800000000030060200c0000f00000181c00080040000000181e001800000003c000000000180000c00060308000c000060100000000000638000 0x1000802 s (Chip.readWords s z1 z2).2 := by
  induction z2 generalizing s z1 with
  | zero => exact .refl
  | succ _ ih =>
    unfold Chip.readWords
    repeat' first
      | (extract_lets +onlyGivenNames x; refine .cut (x := x) ?_ ?_; rotate_left; clear_value x; intro _; rotate_left; subst x)
      | (extract_lets +onlyGivenNames x; refine .cut (x := x.2) ?_ ?_; rotate_left; clear_value x; intro _; rotate_left; subst x)
      | (extract_lets +onlyGivenNames x; refine .cut (x := x.2.2) ?_ ?_; rotate_left; clear_value x; intro _; rotate_left; subst x)
      | (extract_lets +onlyGivenNames x; clear_value x)
      | extract_lets +onlyGivenNames _
      | with_reducible apply Within.step (ih _ _)
      | with_reducible apply Within.refl
      | with_reducible assumption
      | decide
      | with_reducible apply Within.step (Chip.busRead_within _ _)
      | split

theorem Chip.opRead_within (s : Chip) (a : Nat) (n : Nat) :
    Within 0x180e00080700000f80000000807000409000190038007800000000030060200c0000f00000181c00080040000000181e001800000003c000000000180000c00060308000c000060100000000000638000 0x1000802 s (Chip.opRead s a n).2 := by
  unfold Chip.opRead
  repeat' first
    | (extract_lets +onlyGivenNames x; refine .cut (x := x) ?_ ?_; rotate_left; clear_value x; intro _; rotate_left; subst x)
    | (extract_lets +onlyGivenNames x; refine .cut (x := x.2) ?_ ?_; rotate_left; clear_value x; intro _; rotate_left; subst x)
    | (extract_lets +onlyGivenNames x; refine .cut (x := x.2.2) ?_ ?_; rotate_left; clear_value x; intro _; rotate_left; subst x)
    | (extract_lets +onlyGivenNames x; clear_value x)
    | extract_lets +onlyGivenNames _
    | with_reducible apply Within.refl
    | with_reducible assumption
    | decide
    | with_reducible apply Within.step (Chip.readWords_within _ _ _)
    | split

theorem Chip.opWriteLive_within (s : Chip) (i : Nat) (v : Nat) :
    Within 0x4000000000000000000000000000000000000000000000000000000000000000000000000000000000000000000000000003c0000000000000000 0x808 s (Chip.opWriteLive s i v).2 := by
  unfold Chip.opWriteLive
  repeat' first
    | (extract_lets +onlyGivenNames x; refine .cut (x := x) ?_ ?_; rotate_left; clear_value x; intro _; rotate_left; subst x)
    | (extract_lets +onlyGivenNames x; refine .cut (x := x.2) ?_ ?_; rotate_left; clear_value x; intro _; rotate_left; subst x)
    | (extract_lets +onlyGivenNames x; refine .cut (x := x.2.2) ?_ ?_; rotate_left; clear_value x; intro _; rotate_left; subst x)
    | (extract_lets +onlyGivenNames x; clear_value x)
    | extract_lets +onlyGivenNames _
    | with_reducible apply Within.refl
    | with_reducible assumption
    | decide
    | with_reducible apply Within.step (Chip.writeLive_within _ _ _)
    | split

theorem Chip.opWrite_within (s : Chip) (a : Nat) (v : Nat) (edges : Bool) :
    Within 0x1ffffffffffffffffffffffffffffffffffffffffffffffffffffffffffffffffffffffffffffffffffffffffffffffffffffffffffffffffffffffffffffffffffffffffffffffffffffffffffffffffffff 0x1ffffff s (Chip.opWrite s a v edges).2 := by
  unfold Chip.opWrite
  repeat' first
    | (extract_lets +onlyGivenNames x; refine .cut (x := x) ?_ ?_; rotate_left; clear_value x; intro _; rotate_left; subst x)
    | (extract_lets +onlyGivenNames x; refine .cut (x := x.2) ?_ ?_; rotate_left; clear_value x; intro _; rotate_left; subst x)
    | (extract_lets +onlyGivenNames x; refine .cut (x := x.2.2) ?_ ?_; rotate_left; clear_value x; intro _; rotate_left; subst x)
    | (extract_lets +onlyGivenNames x; clear_value x)
    | extract_lets +onlyGivenNames _
    | with_reducible apply Within.refl
    | with_reducible assumption
    | decide
    | with_reducible apply Within.step (Chip.busWrite_within _ _ _ _)
    | with_reducible apply Within.step (Chip.opWriteLive_within _ _ _)
    | exact all_full _
    | exact testBit_full _
    | split

theorem Chip.opAck_within (s : Chip) :
    Within 0x2c0000000000000680f500000004501000000000000000000e04000c7c0000380d9000090000000000008000000000000004c1f8e8bfe7ffe00000619f8000e00000016f00000000020001fff0178000000 0xe2afa8 s (Chip.opAck s).2 := by
  unfold Chip.opAck
  repeat' first
    | (extract_lets +onlyGivenNames x; refine .cut (x := x) ?_ ?_; rotate_left; clear_value x; intro _; rotate_left; subst x)
    | (extract_lets +onlyGivenNames x; refine .cut (x := x.2) ?_ ?_; rotate_left; clear_value x; intro _; rotate_left; subst x)
    | (extract_lets +onlyGivenNames x; refine .cut (x := x.2.2) ?_ ?_; rotate_left; clear_value x; intro _; rotate_left; subst x)
    | (extract_lets +onlyGivenNames x; clear_value x)
    | extract_lets +onlyGivenNames _
    | with_reducible apply Within.refl
    | with_reducible assumption
    | decide
    | with_reducible apply Within.step (Chip.ack_within _ _)
    | split

theorem Chip.opTrigger_within (s : Chip) :
    Within 0 0x10000 s (Chip.opTrigger s).2 := by
  unfold Chip.opTrigger
  repeat' first
    | (extract_lets +onlyGivenNames x; refine .cut (x := x) ?_ ?_; rotate_left; clear_value x; intro _; rotate_left; subst x)
    | (extract_lets +onlyGivenNames x; refine .cut (x := x.2) ?_ ?_; rotate_left; clear_value x; intro _; rotate_left; subst x)
    | (extract_lets +onlyGivenNames x; refine .cut (x := x.2.2) ?_ ?_; rotate_left; clear_value x; intro _; rotate_left; subst x)
    | (extract_lets +onlyGivenNames x; clear_value x)
    | extract_lets +onlyGivenNames _
    | with_reducible apply Within.refl
    | with_reducible assumption
    | decide
    | with_reducible apply Within.step (Chip.trigger_within _ _)
    | split

theorem Chip.opRecList_within (s : Chip) (first : Nat) (n : Nat) :
    Within 0 0 s (Chip.opRecList s first n).2 := by
  unfold Chip.opRecList
  repeat' first
    | (extract_lets +onlyGivenNames x; refine .cut (x := x) ?_ ?_; rotate_left; clear_value x; intro _; rotate_left; subst x)
    | (extract_lets +onlyGivenNames x; refine .cut (x := x.2) ?_ ?_; rotate_left; clear_value x; intro _; rotate_left; subst x)
    | (extract_lets +onlyGivenNames x; refine .cut (x := x.2.2) ?_ ?_; rotate_left; clear_value x; intro _; rotate_left; subst x)
    | (extract_lets +onlyGivenNames x; clear_value x)
    | extract_lets +onlyGivenNames _
    | with_reducible apply Within.refl
    | with_reducible assumption
    | decide
    | split

theorem Chip.opRecRead_within (s : Chip) (id : Nat) (n : Nat) (value : Nat) :
    Within 0 0x1000000 s (Chip.opRecRead s id n value).2 := by
  unfold Chip.opRecRead
  repeat' first
    | (extract_lets +onlyGivenNames x; refine .cut (x := x) ?_ ?_; rotate_left; clear_value x; intro _; rotate_left; subst x)
    | (extract_lets +onlyGivenNames x; refine .cut (x := x.2) ?_ ?_; rotate_left; clear_value x; intro _; rotate_left; subst x)
    | (extract_lets +onlyGivenNames x; refine .cut (x := x.2.2) ?_ ?_; rotate_left; clear_value x; intro _; rotate_left; subst x)
    | (extract_lets +onlyGivenNames x; clear_value x)
    | extract_lets +onlyGivenNames _
    | with_reducible apply Within.refl
    | with_reducible assumption
    | decide
    | with_reducible apply Within.step (Chip.draw_within _)
    | split

theorem Chip.opLedgerRead_within (s : Chip) (seq : Nat) (n : Nat) (offset : Nat) :
    Within 0 0 s (Chip.opLedgerRead s seq n offset).2 := by
  unfold Chip.opLedgerRead
  repeat' first
    | (extract_lets +onlyGivenNames x; refine .cut (x := x) ?_ ?_; rotate_left; clear_value x; intro _; rotate_left; subst x)
    | (extract_lets +onlyGivenNames x; refine .cut (x := x.2) ?_ ?_; rotate_left; clear_value x; intro _; rotate_left; subst x)
    | (extract_lets +onlyGivenNames x; refine .cut (x := x.2.2) ?_ ?_; rotate_left; clear_value x; intro _; rotate_left; subst x)
    | (extract_lets +onlyGivenNames x; clear_value x)
    | extract_lets +onlyGivenNames _
    | with_reducible apply Within.refl
    | with_reducible assumption
    | decide
    | split

theorem Chip.opLedgerNewest_within (s : Chip) (kind : Nat) (n : Nat) :
    Within 0 0 s (Chip.opLedgerNewest s kind n).2 := by
  unfold Chip.opLedgerNewest
  repeat' first
    | (extract_lets +onlyGivenNames x; refine .cut (x := x) ?_ ?_; rotate_left; clear_value x; intro _; rotate_left; subst x)
    | (extract_lets +onlyGivenNames x; refine .cut (x := x.2) ?_ ?_; rotate_left; clear_value x; intro _; rotate_left; subst x)
    | (extract_lets +onlyGivenNames x; refine .cut (x := x.2.2) ?_ ?_; rotate_left; clear_value x; intro _; rotate_left; subst x)
    | (extract_lets +onlyGivenNames x; clear_value x)
    | extract_lets +onlyGivenNames _
    | with_reducible apply Within.refl
    | with_reducible assumption
    | decide
    | split

theorem Chip.opLogRead_within (s : Chip) (index : Nat) (n : Nat) (offset : Nat) :
    Within 0 0 s (Chip.opLogRead s index n offset).2 := by
  unfold Chip.opLogRead
  repeat' first
    | (extract_lets +onlyGivenNames x; refine .cut (x := x) ?_ ?_; rotate_left; clear_value x; intro _; rotate_left; subst x)
    | (extract_lets +onlyGivenNames x; refine .cut (x := x.2) ?_ ?_; rotate_left; clear_value x; intro _; rotate_left; subst x)
    | (extract_lets +onlyGivenNames x; refine .cut (x := x.2.2) ?_ ?_; rotate_left; clear_value x; intro _; rotate_left; subst x)
    | (extract_lets +onlyGivenNames x; clear_value x)
    | extract_lets +onlyGivenNames _
    | with_reducible apply Within.refl
    | with_reducible assumption
    | decide
    | split

theorem Chip.opAttest_within (s : Chip) (address : Nat) (value : Nat) :
    Within 0x10000000000000000000000000000000000000000000000000000000000000000000000000000000000000000000000000000000000000000000000000000000000000000000000000000000000000000 0x1000000 s (Chip.opAttest s address value).2 := by
  unfold Chip.opAttest
  repeat' first
    | (extract_lets +onlyGivenNames x; refine .cut (x := x) ?_ ?_; rotate_left; clear_value x; intro _; rotate_left; subst x)
    | (extract_lets +onlyGivenNames x; refine .cut (x := x.2) ?_ ?_; rotate_left; clear_value x; intro _; rotate_left; subst x)
    | (extract_lets +onlyGivenNames x; refine .cut (x := x.2.2) ?_ ?_; rotate_left; clear_value x; intro _; rotate_left; subst x)
    | (extract_lets +onlyGivenNames x; clear_value x)
    | extract_lets +onlyGivenNames _
    | with_reducible apply Within.refl
    | with_reducible assumption
    | decide
    | with_reducible apply Within.step (Chip.attest_within _ _)
    | split

theorem Chip.opEffect_within (s : Chip) (o : StationOp) (edges : Bool) :
    Within 0x1ffffffffffffffffffffffffffffffffffffffffffffffffffffffffffffffffffffffffffffffffffffffffffffffffffffffffffffffffffffffffffffffffffffffffffffffffffffffffffffffffffff 0x1ffffff s (Chip.opEffect s o edges).2 := by
  unfold Chip.opEffect
  repeat' first
    | (extract_lets +onlyGivenNames x; refine .cut (x := x) ?_ ?_; rotate_left; clear_value x; intro _; rotate_left; subst x)
    | (extract_lets +onlyGivenNames x; refine .cut (x := x.2) ?_ ?_; rotate_left; clear_value x; intro _; rotate_left; subst x)
    | (extract_lets +onlyGivenNames x; refine .cut (x := x.2.2) ?_ ?_; rotate_left; clear_value x; intro _; rotate_left; subst x)
    | (extract_lets +onlyGivenNames x; clear_value x)
    | extract_lets +onlyGivenNames _
    | with_reducible apply Within.refl
    | with_reducible assumption
    | decide
    | with_reducible apply Within.step (Chip.opAck_within _)
    | with_reducible apply Within.step (Chip.opAttest_within _ _ _)
    | with_reducible apply Within.step (Chip.opLedgerNewest_within _ _ _)
    | with_reducible apply Within.step (Chip.opLedgerRead_within _ _ _ _)
    | with_reducible apply Within.step (Chip.opLogRead_within _ _ _ _)
    | with_reducible apply Within.step (Chip.opRead_within _ _ _)
    | with_reducible apply Within.step (Chip.opRecList_within _ _ _)
    | with_reducible apply Within.step (Chip.opRecRead_within _ _ _ _)
    | with_reducible apply Within.step (Chip.opTrigger_within _)
    | with_reducible apply Within.step (Chip.opWrite_within _ _ _ _)
    | exact all_full _
    | exact testBit_full _
    | split

theorem Chip.runOp_within (s : Chip) (role : Nat) (left : Nat) (o : StationOp) (edges : Bool) :
    Within 0x1ffffffffffffffffffffffffffffffffffffffffffffffffffffffffffffffffffffffffffffffffffffffffffffffffffffffffffffffffffffffffffffffffffffffffffffffffffffffffffffffffffff 0x1ffffff s (Chip.runOp s role left o edges).2 := by
  unfold Chip.runOp
  repeat' first
    | (extract_lets +onlyGivenNames x; refine .cut (x := x) ?_ ?_; rotate_left; clear_value x; intro _; rotate_left; subst x)
    | (extract_lets +onlyGivenNames x; refine .cut (x := x.2) ?_ ?_; rotate_left; clear_value x; intro _; rotate_left; subst x)
    | (extract_lets +onlyGivenNames x; refine .cut (x := x.2.2) ?_ ?_; rotate_left; clear_value x; intro _; rotate_left; subst x)
    | (extract_lets +onlyGivenNames x; clear_value x)
    | extract_lets +onlyGivenNames _
    | with_reducible apply Within.refl
    | with_reducible assumption
    | decide
    | with_reducible apply Within.step (Chip.opEffect_within _ _ _)
    | exact all_full _
    | exact testBit_full _
    | split

theorem Chip.runOps_within (s : Chip) (role : Nat) (left : Nat) (edges : Bool) (z4 : List StationOp) :
    Within 0x1ffffffffffffffffffffffffffffffffffffffffffffffffffffffffffffffffffffffffffffffffffffffffffffffffffffffffffffffffffffffffffffffffffffffffffffffffffffffffffffffffffff 0x1ffffff s (Chip.runOps s role left edges z4).2 := by
  induction z4 generalizing s role left edges with
  | nil => exact .refl
  | cons _ _ ih =>
    unfold Chip.runOps
    repeat' first
      | (extract_lets +onlyGivenNames x; refine .cut (x := x) ?_ ?_; rotate_left; clear_value x; intro _; rotate_left; subst x)
      | (extract_lets +onlyGivenNames x; refine .cut (x := x.2) ?_ ?_; rotate_left; clear_value x; intro _; rotate_left; subst x)
      | (extract_lets +onlyGivenNames x; refine .cut (x := x.2.2) ?_ ?_; rotate_left; clear_value x; intro _; rotate_left; subst x)
      | (extract_lets +onlyGivenNames x; clear_value x)
      | extract_lets +onlyGivenNames _
      | with_reducible apply Within.step (ih _ _ _ _)
      | with_reducible apply Within.refl
      | with_reducible assumption
      | decide
      | with_reducible apply Within.step (Chip.runOp_within _ _ _ _ _)
      | exact all_full _
      | exact testBit_full _
      | split

theorem Chip.singleOp_within (s : Chip) (key : Nat) (o : StationOp) (edges : Bool) :
    Within 0x1ffffffffffffffffffffffffffffffffffffffffffffffffffffffffffffffffffffffffffffffffffffffffffffffffffffffffffffffffffffffffffffffffffffffffffffffffffffffffffffffffffff 0x1ffffff s (Chip.singleOp s key o edges) := by
  unfold Chip.singleOp
  repeat' first
    | (extract_lets +onlyGivenNames x; refine .cut (x := x) ?_ ?_; rotate_left; clear_value x; intro _; rotate_left; subst x)
    | (extract_lets +onlyGivenNames x; refine .cut (x := x.2) ?_ ?_; rotate_left; clear_value x; intro _; rotate_left; subst x)
    | (extract_lets +onlyGivenNames x; refine .cut (x := x.2.2) ?_ ?_; rotate_left; clear_value x; intro _; rotate_left; subst x)
    | (extract_lets +onlyGivenNames x; clear_value x)
    | extract_lets +onlyGivenNames _
    | with_reducible apply Within.refl
    | with_reducible assumption
    | decide
    | with_reducible apply Within.step (Chip.runOp_within _ _ _ _ _)
    | exact all_full _
    | exact testBit_full _
    | split
    | with_reducible apply Within.set_bus

theorem Chip.discardRequest_within (s : Chip) (b : List Byte) (status : Nat) :
    Within 0xe00000000000000000000000000000000000000000000000000000000000000000000000000000000000000000000000000000000000000000000000000000000 0x800 s (Chip.discardRequest s b status) := by
  unfold Chip.discardRequest
  repeat' first
    | (extract_lets +onlyGivenNames x; refine .cut (x := x) ?_ ?_; rotate_left; clear_value x; intro _; rotate_left; subst x)
    | (extract_lets +onlyGivenNames x; refine .cut (x := x.2) ?_ ?_; rotate_left; clear_value x; intro _; rotate_left; subst x)
    | (extract_lets +onlyGivenNames x; refine .cut (x := x.2.2) ?_ ?_; rotate_left; clear_value x; intro _; rotate_left; subst x)
    | (extract_lets +onlyGivenNames x; clear_value x)
    | extract_lets +onlyGivenNames _
    | with_reducible apply Within.refl
    | with_reducible assumption
    | decide
    | with_reducible apply Within.step (Chip.raise_within _ _)
    | with_reducible apply Within.count
    | with_reducible apply Within.wr
    | (with_reducible apply Within.onlyIf; rotate_left; intro _ _)
    | split

theorem Chip.stationRequest_within (s : Chip) (p : Nat) (d : UdpRx) :
    Within 0x4501000e00000000000000000000000000000000000000000000000000000000000000000000000000000000000000000000000000000000000000000000000000000000 0x82800 s (Chip.stationRequest s p d) := by
  unfold Chip.stationRequest
  repeat' first
    | (extract_lets +onlyGivenNames x; refine .cut (x := x) ?_ ?_; rotate_left; clear_value x; intro _; rotate_left; subst x)
    | (extract_lets +onlyGivenNames x; refine .cut (x := x.2) ?_ ?_; rotate_left; clear_value x; intro _; rotate_left; subst x)
    | (extract_lets +onlyGivenNames x; refine .cut (x := x.2.2) ?_ ?_; rotate_left; clear_value x; intro _; rotate_left; subst x)
    | (extract_lets +onlyGivenNames x; clear_value x)
    | extract_lets +onlyGivenNames _
    | with_reducible apply Within.refl
    | with_reducible assumption
    | decide
    | with_reducible apply Within.step (Chip.askLeave_within _ _)
    | with_reducible apply Within.step (Chip.discardRequest_within _ _ _)
    | split
    | with_reducible apply Within.set_net

theorem Chip.takeStation_within (s : Chip) (id : Nat) :
    Within 0 0x80000 s (Chip.takeStation s id) := by
  unfold Chip.takeStation
  repeat' first
    | (extract_lets +onlyGivenNames x; refine .cut (x := x) ?_ ?_; rotate_left; clear_value x; intro _; rotate_left; subst x)
    | (extract_lets +onlyGivenNames x; refine .cut (x := x.2) ?_ ?_; rotate_left; clear_value x; intro _; rotate_left; subst x)
    | (extract_lets +onlyGivenNames x; refine .cut (x := x.2.2) ?_ ?_; rotate_left; clear_value x; intro _; rotate_left; subst x)
    | (extract_lets +onlyGivenNames x; clear_value x)
    | extract_lets +onlyGivenNames _
    | with_reducible apply Within.refl
    | with_reducible assumption
    | decide
    | split
    | with_reducible apply Within.set_net

theorem Chip.dropStation_within (s : Chip) (id : Nat) :
    Within 0x4501000000000000000000000000000000000000000000000000000000000000000000000000000000000000000000000000000000000000000000000000000000000000 0x82000 s (Chip.dropStation s id) := by
  unfold Chip.dropStation
  repeat' first
    | (extract_lets +onlyGivenNames x; refine .cut (x := x) ?_ ?_; rotate_left; clear_value x; intro _; rotate_left; subst x)
    | (extract_lets +onlyGivenNames x; refine .cut (x := x.2) ?_ ?_; rotate_left; clear_value x; intro _; rotate_left; subst x)
    | (extract_lets +onlyGivenNames x; refine .cut (x := x.2.2) ?_ ?_; rotate_left; clear_value x; intro _; rotate_left; subst x)
    | (extract_lets +onlyGivenNames x; clear_value x)
    | extract_lets +onlyGivenNames _
    | with_reducible apply Within.refl
    | with_reducible assumption
    | decide
    | with_reducible apply Within.step (Chip.dropRequest_within _ _)
    | with_reducible apply Within.step (Chip.returnLeave_within _ _)
    | with_reducible apply Within.step (Chip.takeStation_within _ _)
    | split

theorem Chip.acceptRequest_within (s : Chip) (q : StationRequest) (edges : Bool) :
    Within 0x1ffffffffffffffffffffffffffffffffffffffffffffffffffffffffffffffffffffffffffffffffffffffffffffffffffffffffffffffffffffffffffffffffffffffffffffffffffffffffffffffffffff 0x1ffffff s (Chip.acceptRequest s q edges) := by
  unfold Chip.acceptRequest
  repeat' first
    | (extract_lets +onlyGivenNames x; refine .cut (x := x) ?_ ?_; rotate_left; clear_value x; intro _; rotate_left; subst x)
    | (extract_lets +onlyGivenNames x; refine .cut (x := x.2) ?_ ?_; rotate_left; clear_value x; intro _; rotate_left; subst x)
    | (extract_lets +onlyGivenNames x; refine .cut (x := x.2.2) ?_ ?_; rotate_left; clear_value x; intro _; rotate_left; subst x)
    | (extract_lets +onlyGivenNames x; clear_value x)
    | extract_lets +onlyGivenNames _
    | with_reducible apply Within.refl
    | with_reducible assumption
    | decide
    | with_reducible apply Within.step (Chip.answerBy_within _ _ _)
    | with_reducible apply Within.step (Chip.draw_within _)
    | with_reducible apply Within.step (Chip.runOps_within _ _ _ _ _)
    | exact all_full _
    | exact testBit_full _
    | split
    | with_reducible apply Within.set_net
    | with_reducible apply Within.set_bus

theorem Chip.stationCheck_within (s : Chip) (id : Nat) (edges : Bool) :
    Within 0x1ffffffffffffffffffffffffffffffffffffffffffffffffffffffffffffffffffffffffffffffffffffffffffffffffffffffffffffffffffffffffffffffffffffffffffffffffffffffffffffffffffff 0x1ffffff s (Chip.stationCheck s id edges) := by
  unfold Chip.stationCheck
  repeat' first
    | (extract_lets +onlyGivenNames x; refine .cut (x := x) ?_ ?_; rotate_left; clear_value x; intro _; rotate_left; subst x)
    | (extract_lets +onlyGivenNames x; refine .cut (x := x.2) ?_ ?_; rotate_left; clear_value x; intro _; rotate_left; subst x)
    | (extract_lets +onlyGivenNames x; refine .cut (x := x.2.2) ?_ ?_; rotate_left; clear_value x; intro _; rotate_left; subst x)
    | (extract_lets +onlyGivenNames x; clear_value x)
    | extract_lets +onlyGivenNames _
    | with_reducible apply Within.refl
    | with_reducible assumption
    | decide
    | with_reducible apply Within.step (Chip.acceptRequest_within _ _ _)
    | with_reducible apply Within.step (Chip.ack_within _ _)
    | with_reducible apply Within.step (Chip.discardRequest_within _ _ _)
    | with_reducible apply Within.step (Chip.dropStation_within _ _)
    | with_reducible apply Within.step (Chip.takeStation_within _ _)
    | with_reducible apply Within.count
    | (with_reducible apply Within.onlyIf; rotate_left; intro _ _)
    | exact all_full _
    | exact testBit_full _
    | split

theorem Chip.stationTimeout_within (s : Chip) (id : Nat) :
    Within 0x4501000e00000000000000000000000000000000000000000000000000000000000000000000000000000000000000000000000000000000000000000000000000000000 0x82800 s (Chip.stationTimeout s id) := by
  unfold Chip.stationTimeout
  repeat' first
    | (extract_lets +onlyGivenNames x; refine .cut (x := x) ?_ ?_; rotate_left; clear_value x; intro _; rotate_left; subst x)
    | (extract_lets +onlyGivenNames x; refine .cut (x := x.2) ?_ ?_; rotate_left; clear_value x; intro _; rotate_left; subst x)
    | (extract_lets +onlyGivenNames x; refine .cut (x := x.2.2) ?_ ?_; rotate_left; clear_value x; intro _; rotate_left; subst x)
    | (extract_lets +onlyGivenNames x; clear_value x)
    | extract_lets +onlyGivenNames _
    | with_reducible apply Within.refl
    | with_reducible assumption
    | decide
    | with_reducible apply Within.step (Chip.discardRequest_within _ _ _)
    | with_reducible apply Within.step (Chip.dropStation_within _ _)
    | split

end Sys2Proof.Machine
end

