-- ==== Sys2Proof/Laws/FrameBusCommands.lean ====
section
/-! SUPPORT. The frames of the operations of Machine/BusCommands.lean: the fields and the parts of the state each may change. -/

set_option linter.tactic.unusedName false

namespace Sys2Proof.Machine

theorem execRegisterWrite_within (t : Nat) (address : Word) (value : Word) (edges : Bool) (s : State) :
    OutcomeWithin 0x1ffffffffffffffffffffffffffffffffffffffffffffffffffffffffffffffffffffffffffffffffffffffffffffffffffffffffffffffffffffffffffffffffffffffffffffffffffffffffffffffffffff 0x1ffffff s (execRegisterWrite t address value edges s) := by
  unfold execRegisterWrite
  refine State.does_within fun _ => ?_
  repeat' first
    | (extract_lets +onlyGivenNames x; refine .cut (x := x) ?_ ?_; rotate_left; clear_value x; intro _; rotate_left; subst x)
    | (extract_lets +onlyGivenNames x; refine .cut (x := x.2) ?_ ?_; rotate_left; clear_value x; intro _; rotate_left; subst x)
    | (extract_lets +onlyGivenNames x; refine .cut (x := x.2.2) ?_ ?_; rotate_left; clear_value x; intro _; rotate_left; subst x)
    | (extract_lets +onlyGivenNames x; clear_value x)
    | extract_lets +onlyGivenNames _
    | with_reducible apply Within.refl
    | with_reducible assumption
    | decide
    | with_reducible apply Within.step (Chip.atTime_within _ _)
    | with_reducible apply Within.step (Chip.busWrite_within _ _ _ _)
    | exact all_full _
    | exact testBit_full _
    | split

theorem execW1cWrite_within (t : Nat) (address : Word) (value : Word) (s : State) :
    OutcomeWithin 0x1ffffffffffffffffffffffffffffffffffffffffffffffffffffffffffffffffffffffffffffffffffffffffffffffffffffffffffffffffffffffffffffffffffffffffffffffffffffffffffffffffffff 0x1ffffff s (execW1cWrite t address value s) := by
  unfold execW1cWrite
  refine State.does_within fun _ => ?_
  repeat' first
    | (extract_lets +onlyGivenNames x; refine .cut (x := x) ?_ ?_; rotate_left; clear_value x; intro _; rotate_left; subst x)
    | (extract_lets +onlyGivenNames x; refine .cut (x := x.2) ?_ ?_; rotate_left; clear_value x; intro _; rotate_left; subst x)
    | (extract_lets +onlyGivenNames x; refine .cut (x := x.2.2) ?_ ?_; rotate_left; clear_value x; intro _; rotate_left; subst x)
    | (extract_lets +onlyGivenNames x; clear_value x)
    | extract_lets +onlyGivenNames _
    | with_reducible apply Within.refl
    | with_reducible assumption
    | decide
    | with_reducible apply Within.step (Chip.atTime_within _ _)
    | with_reducible apply Within.step (Chip.busWrite_within _ _ _ _)
    | exact all_full _
    | exact testBit_full _
    | split

theorem execRcRead_within (t : Nat) (address : Word) (s : State) :
    OutcomeWithin 0x180e00080700000f80000000807000409000190038007800000000030060200c0000f00000181c00080040000000181e001800000003c000000000180000c00060308000c000060100000000000638000 0x1000806 s (execRcRead t address s) := by
  unfold execRcRead
  refine State.does_within fun _ => ?_
  repeat' first
    | (extract_lets +onlyGivenNames x; refine .cut (x := x) ?_ ?_; rotate_left; clear_value x; intro _; rotate_left; subst x)
    | (extract_lets +onlyGivenNames x; refine .cut (x := x.2) ?_ ?_; rotate_left; clear_value x; intro _; rotate_left; subst x)
    | (extract_lets +onlyGivenNames x; refine .cut (x := x.2.2) ?_ ?_; rotate_left; clear_value x; intro _; rotate_left; subst x)
    | (extract_lets +onlyGivenNames x; clear_value x)
    | extract_lets +onlyGivenNames _
    | with_reducible apply Within.refl
    | with_reducible assumption
    | decide
    | with_reducible apply Within.step (Chip.atTime_within _ _)
    | with_reducible apply Within.step (Chip.readAt_within _ _)
    | split

theorem execLowHalfRead_within (t : Nat) (address : Word) (s : State) :
    OutcomeWithin 0x180e00080700000f80000000807000409000190038007800000000030060200c0000f00000181c00080040000000181e001800000003c000000000180000c00060308000c000060100000000000638000 0x1000806 s (execLowHalfRead t address s) := by
  unfold execLowHalfRead
  refine State.does_within fun _ => ?_
  repeat' first
    | (extract_lets +onlyGivenNames x; refine .cut (x := x) ?_ ?_; rotate_left; clear_value x; intro _; rotate_left; subst x)
    | (extract_lets +onlyGivenNames x; refine .cut (x := x.2) ?_ ?_; rotate_left; clear_value x; intro _; rotate_left; subst x)
    | (extract_lets +onlyGivenNames x; refine .cut (x := x.2.2) ?_ ?_; rotate_left; clear_value x; intro _; rotate_left; subst x)
    | (extract_lets +onlyGivenNames x; clear_value x)
    | extract_lets +onlyGivenNames _
    | with_reducible apply Within.refl
    | with_reducible assumption
    | decide
    | with_reducible apply Within.step (Chip.atTime_within _ _)
    | with_reducible apply Within.step (Chip.readAt_within _ _)
    | split

theorem execHighHalfRead_within (t : Nat) (address : Word) (s : State) :
    OutcomeWithin 0x180e00080700000f80000000807000409000190038007800000000030060200c0000f00000181c00080040000000181e001800000003c000000000180000c00060308000c000060100000000000638000 0x1000806 s (execHighHalfRead t address s) := by
  unfold execHighHalfRead
  refine State.does_within fun _ => ?_
  repeat' first
    | (extract_lets +onlyGivenNames x; refine .cut (x := x) ?_ ?_; rotate_left; clear_value x; intro _; rotate_left; subst x)
    | (extract_lets +onlyGivenNames x; refine .cut (x := x.2) ?_ ?_; rotate_left; clear_value x; intro _; rotate_left; subst x)
    | (extract_lets +onlyGivenNames x; refine .cut (x := x.2.2) ?_ ?_; rotate_left; clear_value x; intro _; rotate_left; subst x)
    | (extract_lets +onlyGivenNames x; clear_value x)
    | extract_lets +onlyGivenNames _
    | with_reducible apply Within.refl
    | with_reducible assumption
    | decide
    | with_reducible apply Within.step (Chip.atTime_within _ _)
    | with_reducible apply Within.step (Chip.readAt_within _ _)
    | split

theorem execRiggingAccess_within (t : Nat) (address : Word) (write : Option Word) (s : State) :
    OutcomeWithin 0x1ffffffffffffffffffffffffffffffffffffffffffffffffffffffffffffffffffffffffffffffffffffffffffffffffffffffffffffffffffffffffffffffffffffffffffffffffffffffffffffffffffff 0x1ffffff s (execRiggingAccess t address write s) := by
  unfold execRiggingAccess
  refine State.does_within fun _ => ?_
  repeat' first
    | (extract_lets +onlyGivenNames x; refine .cut (x := x) ?_ ?_; rotate_left; clear_value x; intro _; rotate_left; subst x)
    | (extract_lets +onlyGivenNames x; refine .cut (x := x.2) ?_ ?_; rotate_left; clear_value x; intro _; rotate_left; subst x)
    | (extract_lets +onlyGivenNames x; refine .cut (x := x.2.2) ?_ ?_; rotate_left; clear_value x; intro _; rotate_left; subst x)
    | (extract_lets +onlyGivenNames x; clear_value x)
    | extract_lets +onlyGivenNames _
    | with_reducible apply Within.refl
    | with_reducible assumption
    | decide
    | with_reducible apply Within.step (Chip.atTime_within _ _)
    | with_reducible apply Within.step (Chip.riggingAccess_within _ _ _)
    | exact all_full _
    | exact testBit_full _
    | split

theorem execRiggingAccessTimeout_within (t : Nat) (write : Bool) (s : State) :
    OutcomeWithin 0x200000 6 s (execRiggingAccessTimeout t write s) := by
  unfold execRiggingAccessTimeout
  refine State.does_within fun _ => ?_
  repeat' first
    | (extract_lets +onlyGivenNames x; refine .cut (x := x) ?_ ?_; rotate_left; clear_value x; intro _; rotate_left; subst x)
    | (extract_lets +onlyGivenNames x; refine .cut (x := x.2) ?_ ?_; rotate_left; clear_value x; intro _; rotate_left; subst x)
    | (extract_lets +onlyGivenNames x; refine .cut (x := x.2.2) ?_ ?_; rotate_left; clear_value x; intro _; rotate_left; subst x)
    | (extract_lets +onlyGivenNames x; clear_value x)
    | extract_lets +onlyGivenNames _
    | with_reducible apply Within.refl
    | with_reducible assumption
    | decide
    | with_reducible apply Within.step (Chip.atTime_within _ _)
    | with_reducible apply Within.step (Chip.riggingTimeout_within _ _)
    | split

theorem execBudgetMarginRestart_within (t : Nat) (s : State) :
    OutcomeWithin 0x6000 4 s (execBudgetMarginRestart t s) := by
  unfold execBudgetMarginRestart
  refine State.does_within fun _ => ?_
  repeat' first
    | (extract_lets +onlyGivenNames x; refine .cut (x := x) ?_ ?_; rotate_left; clear_value x; intro _; rotate_left; subst x)
    | (extract_lets +onlyGivenNames x; refine .cut (x := x.2) ?_ ?_; rotate_left; clear_value x; intro _; rotate_left; subst x)
    | (extract_lets +onlyGivenNames x; refine .cut (x := x.2.2) ?_ ?_; rotate_left; clear_value x; intro _; rotate_left; subst x)
    | (extract_lets +onlyGivenNames x; clear_value x)
    | extract_lets +onlyGivenNames _
    | with_reducible apply Within.refl
    | with_reducible assumption
    | decide
    | with_reducible apply Within.step (Chip.atTime_within _ _)
    | with_reducible apply Within.step (Chip.restartMargin_within _)
    | split

theorem execIdbFrameRx_within (t : Nat) (toShroud : Bool) (good : Bool) (s : State) :
    OutcomeWithin 0x2c00000000000000000000000000000000000000000000000000000c7c00238001900008000000000002bfff800000000000000000800004000000000000002000000020000000000000000030078500000 0x83f9a4 s (execIdbFrameRx t toShroud good s) := by
  unfold execIdbFrameRx
  refine State.does_within fun _ => ?_
  repeat' first
    | (extract_lets +onlyGivenNames x; refine .cut (x := x) ?_ ?_; rotate_left; clear_value x; intro _; rotate_left; subst x)
    | (extract_lets +onlyGivenNames x; refine .cut (x := x.2) ?_ ?_; rotate_left; clear_value x; intro _; rotate_left; subst x)
    | (extract_lets +onlyGivenNames x; refine .cut (x := x.2.2) ?_ ?_; rotate_left; clear_value x; intro _; rotate_left; subst x)
    | (extract_lets +onlyGivenNames x; clear_value x)
    | extract_lets +onlyGivenNames _
    | with_reducible apply Within.refl
    | with_reducible assumption
    | decide
    | with_reducible apply Within.step (Chip.atTime_within _ _)
    | with_reducible apply Within.step (Chip.idbFrame_within _ _ _)
    | split

theorem execShroudIdbSilence_within (t : Nat) (s : State) :
    OutcomeWithin 0xc5c000000010000000000000000000000000000000000000000000000000000000000000000000000000000000000000000000000000 0x9884 s (execShroudIdbSilence t s) := by
  unfold execShroudIdbSilence
  refine State.does_within fun _ => ?_
  repeat' first
    | (extract_lets +onlyGivenNames x; refine .cut (x := x) ?_ ?_; rotate_left; clear_value x; intro _; rotate_left; subst x)
    | (extract_lets +onlyGivenNames x; refine .cut (x := x.2) ?_ ?_; rotate_left; clear_value x; intro _; rotate_left; subst x)
    | (extract_lets +onlyGivenNames x; refine .cut (x := x.2.2) ?_ ?_; rotate_left; clear_value x; intro _; rotate_left; subst x)
    | (extract_lets +onlyGivenNames x; clear_value x)
    | extract_lets +onlyGivenNames _
    | with_reducible apply Within.refl
    | with_reducible assumption
    | decide
    | with_reducible apply Within.step (Chip.atTime_within _ _)
    | with_reducible apply Within.step (Chip.shroudSilence_within _)
    | split

theorem execMastIdbSilence_within (t : Nat) (s : State) :
    OutcomeWithin 0x100000 0x804 s (execMastIdbSilence t s) := by
  unfold execMastIdbSilence
  refine State.does_within fun _ => ?_
  repeat' first
    | (extract_lets +onlyGivenNames x; refine .cut (x := x) ?_ ?_; rotate_left; clear_value x; intro _; rotate_left; subst x)
    | (extract_lets +onlyGivenNames x; refine .cut (x := x.2) ?_ ?_; rotate_left; clear_value x; intro _; rotate_left; subst x)
    | (extract_lets +onlyGivenNames x; refine .cut (x := x.2.2) ?_ ?_; rotate_left; clear_value x; intro _; rotate_left; subst x)
    | (extract_lets +onlyGivenNames x; clear_value x)
    | extract_lets +onlyGivenNames _
    | with_reducible apply Within.refl
    | with_reducible assumption
    | decide
    | with_reducible apply Within.step (Chip.atTime_within _ _)
    | with_reducible apply Within.step (Chip.mastSilence_within _)
    | split

theorem execSramScrubStep_within (t : Nat) (upsets : List (Nat × List Nat)) (words : Nat) (s : State) :
    OutcomeWithin 0xb8000 0x1000805 s (execSramScrubStep t upsets words s) := by
  unfold execSramScrubStep
  refine State.does_within fun _ => ?_
  repeat' first
    | (extract_lets +onlyGivenNames x; refine .cut (x := x) ?_ ?_; rotate_left; clear_value x; intro _; rotate_left; subst x)
    | (extract_lets +onlyGivenNames x; refine .cut (x := x.2) ?_ ?_; rotate_left; clear_value x; intro _; rotate_left; subst x)
    | (extract_lets +onlyGivenNames x; refine .cut (x := x.2.2) ?_ ?_; rotate_left; clear_value x; intro _; rotate_left; subst x)
    | (extract_lets +onlyGivenNames x; clear_value x)
    | extract_lets +onlyGivenNames _
    | with_reducible apply Within.refl
    | with_reducible assumption
    | decide
    | with_reducible apply Within.step (Chip.atTime_within _ _)
    | with_reducible apply Within.step (Chip.scrubStep_within _ _ _)
    | split

end Sys2Proof.Machine
end

