-- ==== Sys2Proof/Laws/FrameEdgeCommands.lean ====
section
/-! SUPPORT. The frames of the operations of Machine/EdgeCommands.lean: the fields and the parts of the state each may change. -/

set_option linter.tactic.unusedName false

namespace Sys2Proof.Machine

theorem execEeCommit_within (t : Nat) (s : State) :
    OutcomeWithin 0xc800000000000000000000000000000038000 0x1000904 s (execEeCommit t s) := by
  unfold execEeCommit
  refine State.does_within fun _ => ?_
  repeat' first
    | (extract_lets +onlyGivenNames x; refine .cut (x := x) ?_ ?_; rotate_left; clear_value x; intro _; rotate_left; subst x)
    | (extract_lets +onlyGivenNames x; refine .cut (x := x.2) ?_ ?_; rotate_left; clear_value x; intro _; rotate_left; subst x)
    | (extract_lets +onlyGivenNames x; refine .cut (x := x.2.2) ?_ ?_; rotate_left; clear_value x; intro _; rotate_left; subst x)
    | (extract_lets +onlyGivenNames x; clear_value x)
    | extract_lets +onlyGivenNames _
    | with_reducible apply Within.refl
    | with_reducible assumption
    | decide
    | with_reducible apply Within.step (Chip.atTime_within _ _)
    | with_reducible apply Within.step (Chip.commitNow_within _)
    | split

theorem execTripAsserted_within (t : Nat) (input : Fin 16) (level : Bool) (ns : Nat) (s : State) :
    OutcomeWithin 0x200000000000000000000000000000000000000000000000000000000040000000000000000000000000000000000000 0x18804 s (execTripAsserted t input level ns s) := by
  unfold execTripAsserted
  refine State.does_within fun _ => ?_
  repeat' first
    | (extract_lets +onlyGivenNames x; refine .cut (x := x) ?_ ?_; rotate_left; clear_value x; intro _; rotate_left; subst x)
    | (extract_lets +onlyGivenNames x; refine .cut (x := x.2) ?_ ?_; rotate_left; clear_value x; intro _; rotate_left; subst x)
    | (extract_lets +onlyGivenNames x; refine .cut (x := x.2.2) ?_ ?_; rotate_left; clear_value x; intro _; rotate_left; subst x)
    | (extract_lets +onlyGivenNames x; clear_value x)
    | extract_lets +onlyGivenNames _
    | with_reducible apply Within.refl
    | with_reducible assumption
    | decide
    | with_reducible apply Within.step (Chip.atTime_within _ _)
    | with_reducible apply Within.step (Chip.tripPin_within _ _ _ _)
    | split

theorem execTripDeasserted_within (t : Nat) (input : Fin 16) (level : Bool) (ns : Nat) (s : State) :
    OutcomeWithin 0x600000000000000000000000000000000000000000000000000000000040000000000000000000000000000000000000 0x18804 s (execTripDeasserted t input level ns s) := by
  unfold execTripDeasserted
  refine State.does_within fun _ => ?_
  repeat' first
    | (extract_lets +onlyGivenNames x; refine .cut (x := x) ?_ ?_; rotate_left; clear_value x; intro _; rotate_left; subst x)
    | (extract_lets +onlyGivenNames x; refine .cut (x := x.2) ?_ ?_; rotate_left; clear_value x; intro _; rotate_left; subst x)
    | (extract_lets +onlyGivenNames x; refine .cut (x := x.2.2) ?_ ?_; rotate_left; clear_value x; intro _; rotate_left; subst x)
    | (extract_lets +onlyGivenNames x; clear_value x)
    | extract_lets +onlyGivenNames _
    | with_reducible apply Within.refl
    | with_reducible assumption
    | decide
    | with_reducible apply Within.step (Chip.atTime_within _ _)
    | with_reducible apply Within.step (Chip.tripRelease_within _ _ _ _)
    | split

theorem execTripMaskEnd_within (t : Nat) (input : Fin 16) (s : State) :
    OutcomeWithin 0x200000000000000000000000000000000000000000000000000000000040000000000000000000000000000000000000 0x18804 s (execTripMaskEnd t input s) := by
  unfold execTripMaskEnd
  refine State.does_within fun _ => ?_
  repeat' first
    | (extract_lets +onlyGivenNames x; refine .cut (x := x) ?_ ?_; rotate_left; clear_value x; intro _; rotate_left; subst x)
    | (extract_lets +onlyGivenNames x; refine .cut (x := x.2) ?_ ?_; rotate_left; clear_value x; intro _; rotate_left; subst x)
    | (extract_lets +onlyGivenNames x; refine .cut (x := x.2.2) ?_ ?_; rotate_left; clear_value x; intro _; rotate_left; subst x)
    | (extract_lets +onlyGivenNames x; clear_value x)
    | extract_lets +onlyGivenNames _
    | with_reducible apply Within.refl
    | with_reducible assumption
    | decide
    | with_reducible apply Within.step (Chip.atTime_within _ _)
    | with_reducible apply Within.step (Chip.tripMaskEnd_within _ _)
    | split

theorem execLocalEdge_within (t : Nat) (s : State) :
    OutcomeWithin 0 0x8004 s (execLocalEdge t s) := by
  unfold execLocalEdge
  refine State.does_within fun _ => ?_
  repeat' first
    | (extract_lets +onlyGivenNames x; refine .cut (x := x) ?_ ?_; rotate_left; clear_value x; intro _; rotate_left; subst x)
    | (extract_lets +onlyGivenNames x; refine .cut (x := x.2) ?_ ?_; rotate_left; clear_value x; intro _; rotate_left; subst x)
    | (extract_lets +onlyGivenNames x; refine .cut (x := x.2.2) ?_ ?_; rotate_left; clear_value x; intro _; rotate_left; subst x)
    | (extract_lets +onlyGivenNames x; clear_value x)
    | extract_lets +onlyGivenNames _
    | with_reducible apply Within.refl
    | with_reducible assumption
    | decide
    | with_reducible apply Within.step (Chip.atTime_within _ _)
    | with_reducible apply Within.step (Chip.localEdge_within _)
    | split

theorem execCellBypass_within (t : Nat) (cell : Fin 96) (s : State) :
    OutcomeWithin 0 0x204 s (execCellBypass t cell s) := by
  unfold execCellBypass
  refine State.does_within fun _ => ?_
  repeat' first
    | (extract_lets +onlyGivenNames x; refine .cut (x := x) ?_ ?_; rotate_left; clear_value x; intro _; rotate_left; subst x)
    | (extract_lets +onlyGivenNames x; refine .cut (x := x.2) ?_ ?_; rotate_left; clear_value x; intro _; rotate_left; subst x)
    | (extract_lets +onlyGivenNames x; refine .cut (x := x.2.2) ?_ ?_; rotate_left; clear_value x; intro _; rotate_left; subst x)
    | (extract_lets +onlyGivenNames x; clear_value x)
    | extract_lets +onlyGivenNames _
    | with_reducible apply Within.refl
    | with_reducible assumption
    | decide
    | with_reducible apply Within.step (Chip.atTime_within _ _)
    | with_reducible apply Within.step (Chip.queueCellCommand_within _ _ _)
    | split

theorem execCellRelease_within (t : Nat) (cell : Fin 96) (s : State) :
    OutcomeWithin 0 0x204 s (execCellRelease t cell s) := by
  unfold execCellRelease
  refine State.does_within fun _ => ?_
  repeat' first
    | (extract_lets +onlyGivenNames x; refine .cut (x := x) ?_ ?_; rotate_left; clear_value x; intro _; rotate_left; subst x)
    | (extract_lets +onlyGivenNames x; refine .cut (x := x.2) ?_ ?_; rotate_left; clear_value x; intro _; rotate_left; subst x)
    | (extract_lets +onlyGivenNames x; refine .cut (x := x.2.2) ?_ ?_; rotate_left; clear_value x; intro _; rotate_left; subst x)
    | (extract_lets +onlyGivenNames x; clear_value x)
    | extract_lets +onlyGivenNames _
    | with_reducible apply Within.refl
    | with_reducible assumption
    | decide
    | with_reducible apply Within.step (Chip.atTime_within _ _)
    | with_reducible apply Within.step (Chip.queueCellCommand_within _ _ _)
    | split

theorem execCellSwap_within (t : Nat) (cell : Fin 96) (s : State) :
    OutcomeWithin 0 0x204 s (execCellSwap t cell s) := by
  unfold execCellSwap
  refine State.does_within fun _ => ?_
  repeat' first
    | (extract_lets +onlyGivenNames x; refine .cut (x := x) ?_ ?_; rotate_left; clear_value x; intro _; rotate_left; subst x)
    | (extract_lets +onlyGivenNames x; refine .cut (x := x.2) ?_ ?_; rotate_left; clear_value x; intro _; rotate_left; subst x)
    | (extract_lets +onlyGivenNames x; refine .cut (x := x.2.2) ?_ ?_; rotate_left; clear_value x; intro _; rotate_left; subst x)
    | (extract_lets +onlyGivenNames x; clear_value x)
    | extract_lets +onlyGivenNames _
    | with_reducible apply Within.refl
    | with_reducible assumption
    | decide
    | with_reducible apply Within.step (Chip.atTime_within _ _)
    | with_reducible apply Within.step (Chip.queueCellCommand_within _ _ _)
    | split

theorem execBypassConfirmTimeout_within (t : Nat) (cell : Fin 96) (s : State) :
    OutcomeWithin 0 0xa04 s (execBypassConfirmTimeout t cell s) := by
  unfold execBypassConfirmTimeout
  refine State.does_within fun _ => ?_
  repeat' first
    | (extract_lets +onlyGivenNames x; refine .cut (x := x) ?_ ?_; rotate_left; clear_value x; intro _; rotate_left; subst x)
    | (extract_lets +onlyGivenNames x; refine .cut (x := x.2) ?_ ?_; rotate_left; clear_value x; intro _; rotate_left; subst x)
    | (extract_lets +onlyGivenNames x; refine .cut (x := x.2.2) ?_ ?_; rotate_left; clear_value x; intro _; rotate_left; subst x)
    | (extract_lets +onlyGivenNames x; clear_value x)
    | extract_lets +onlyGivenNames _
    | with_reducible apply Within.refl
    | with_reducible assumption
    | decide
    | with_reducible apply Within.step (Chip.atTime_within _ _)
    | with_reducible apply Within.step (Chip.bypassTimeout_within _ _)
    | split

theorem execRotationAdvance_within (t : Nat) (arm : Fin 6) (s : State) :
    OutcomeWithin 0x20000000000000000000000000000000000000000000000000000 0x204 s (execRotationAdvance t arm s) := by
  unfold execRotationAdvance
  refine State.does_within fun _ => ?_
  repeat' first
    | (extract_lets +onlyGivenNames x; refine .cut (x := x) ?_ ?_; rotate_left; clear_value x; intro _; rotate_left; subst x)
    | (extract_lets +onlyGivenNames x; refine .cut (x := x.2) ?_ ?_; rotate_left; clear_value x; intro _; rotate_left; subst x)
    | (extract_lets +onlyGivenNames x; refine .cut (x := x.2.2) ?_ ?_; rotate_left; clear_value x; intro _; rotate_left; subst x)
    | (extract_lets +onlyGivenNames x; clear_value x)
    | extract_lets +onlyGivenNames _
    | with_reducible apply Within.refl
    | with_reducible assumption
    | decide
    | with_reducible apply Within.step (Chip.atTime_within _ _)
    | with_reducible apply Within.step (Chip.rotationAdvance_within _ _)
    | split

theorem execSpreadWatchFire_within (t : Nat) (arm : Fin 6) (s : State) :
    OutcomeWithin 0x400000000000000000000000000000000000000000000000000 0xa04 s (execSpreadWatchFire t arm s) := by
  unfold execSpreadWatchFire
  refine State.does_within fun _ => ?_
  repeat' first
    | (extract_lets +onlyGivenNames x; refine .cut (x := x) ?_ ?_; rotate_left; clear_value x; intro _; rotate_left; subst x)
    | (extract_lets +onlyGivenNames x; refine .cut (x := x.2) ?_ ?_; rotate_left; clear_value x; intro _; rotate_left; subst x)
    | (extract_lets +onlyGivenNames x; refine .cut (x := x.2.2) ?_ ?_; rotate_left; clear_value x; intro _; rotate_left; subst x)
    | (extract_lets +onlyGivenNames x; clear_value x)
    | extract_lets +onlyGivenNames _
    | with_reducible apply Within.refl
    | with_reducible assumption
    | decide
    | with_reducible apply Within.step (Chip.atTime_within _ _)
    | with_reducible apply Within.step (Chip.spreadFire_within _ _)
    | split

theorem execPrechargeTimeout_within (t : Nat) (arm : Fin 6) (s : State) :
    OutcomeWithin 0x2000000000000000000000000000000000000000000000000000 0xa04 s (execPrechargeTimeout t arm s) := by
  unfold execPrechargeTimeout
  refine State.does_within fun _ => ?_
  repeat' first
    | (extract_lets +onlyGivenNames x; refine .cut (x := x) ?_ ?_; rotate_left; clear_value x; intro _; rotate_left; subst x)
    | (extract_lets +onlyGivenNames x; refine .cut (x := x.2) ?_ ?_; rotate_left; clear_value x; intro _; rotate_left; subst x)
    | (extract_lets +onlyGivenNames x; refine .cut (x := x.2.2) ?_ ?_; rotate_left; clear_value x; intro _; rotate_left; subst x)
    | (extract_lets +onlyGivenNames x; clear_value x)
    | extract_lets +onlyGivenNames _
    | with_reducible apply Within.refl
    | with_reducible assumption
    | decide
    | with_reducible apply Within.step (Chip.atTime_within _ _)
    | with_reducible apply Within.step (Chip.prechargeTimeout_within _ _)
    | split

theorem execGdStaticOn_within (t : Nat) (channel : Fin 8) (s : State) :
    OutcomeWithin 0x880000000000000000000000000000000000000000000000000000000000000000000000000000000000000000000 0x8004 s (execGdStaticOn t channel s) := by
  unfold execGdStaticOn
  refine State.does_within fun _ => ?_
  repeat' first
    | (extract_lets +onlyGivenNames x; refine .cut (x := x) ?_ ?_; rotate_left; clear_value x; intro _; rotate_left; subst x)
    | (extract_lets +onlyGivenNames x; refine .cut (x := x.2) ?_ ?_; rotate_left; clear_value x; intro _; rotate_left; subst x)
    | (extract_lets +onlyGivenNames x; refine .cut (x := x.2.2) ?_ ?_; rotate_left; clear_value x; intro _; rotate_left; subst x)
    | (extract_lets +onlyGivenNames x; clear_value x)
    | extract_lets +onlyGivenNames _
    | with_reducible apply Within.refl
    | with_reducible assumption
    | decide
    | with_reducible apply Within.step (Chip.atTime_within _ _)
    | with_reducible apply Within.step (Chip.gdStaticOn_within _ _)
    | split

theorem execGdStaticOff_within (t : Nat) (channel : Fin 8) (s : State) :
    OutcomeWithin 0x880000000000000000000000000000000000000000000000000000000000000000000000000000000000000000000 0x8004 s (execGdStaticOff t channel s) := by
  unfold execGdStaticOff
  refine State.does_within fun _ => ?_
  repeat' first
    | (extract_lets +onlyGivenNames x; refine .cut (x := x) ?_ ?_; rotate_left; clear_value x; intro _; rotate_left; subst x)
    | (extract_lets +onlyGivenNames x; refine .cut (x := x.2) ?_ ?_; rotate_left; clear_value x; intro _; rotate_left; subst x)
    | (extract_lets +onlyGivenNames x; refine .cut (x := x.2.2) ?_ ?_; rotate_left; clear_value x; intro _; rotate_left; subst x)
    | (extract_lets +onlyGivenNames x; clear_value x)
    | extract_lets +onlyGivenNames _
    | with_reducible apply Within.refl
    | with_reducible assumption
    | decide
    | with_reducible apply Within.step (Chip.atTime_within _ _)
    | with_reducible apply Within.step (Chip.gdStaticOff_within _ _)
    | split

theorem execGdRearm_within (t : Nat) (channel : Fin 8) (mv : Int) (s : State) :
    OutcomeWithin 0x810000000000000000000000000000000000000000000000000000000000000000000000000000000000000000000 0x8004 s (execGdRearm t channel mv s) := by
  unfold execGdRearm
  refine State.does_within fun _ => ?_
  repeat' first
    | (extract_lets +onlyGivenNames x; refine .cut (x := x) ?_ ?_; rotate_left; clear_value x; intro _; rotate_left; subst x)
    | (extract_lets +onlyGivenNames x; refine .cut (x := x.2) ?_ ?_; rotate_left; clear_value x; intro _; rotate_left; subst x)
    | (extract_lets +onlyGivenNames x; refine .cut (x := x.2.2) ?_ ?_; rotate_left; clear_value x; intro _; rotate_left; subst x)
    | (extract_lets +onlyGivenNames x; clear_value x)
    | extract_lets +onlyGivenNames _
    | with_reducible apply Within.refl
    | with_reducible assumption
    | decide
    | with_reducible apply Within.step (Chip.atTime_within _ _)
    | with_reducible apply Within.step (Chip.gdRearm_within _ _ _)
    | split

theorem execGdStampsLate_within (t : Nat) (channel : Fin 8) (s : State) :
    OutcomeWithin 0x400000000000000000000000000000000000000000000000000000000000000000000000000000000000000000000 0x8804 s (execGdStampsLate t channel s) := by
  unfold execGdStampsLate
  refine State.does_within fun _ => ?_
  repeat' first
    | (extract_lets +onlyGivenNames x; refine .cut (x := x) ?_ ?_; rotate_left; clear_value x; intro _; rotate_left; subst x)
    | (extract_lets +onlyGivenNames x; refine .cut (x := x.2) ?_ ?_; rotate_left; clear_value x; intro _; rotate_left; subst x)
    | (extract_lets +onlyGivenNames x; refine .cut (x := x.2.2) ?_ ?_; rotate_left; clear_value x; intro _; rotate_left; subst x)
    | (extract_lets +onlyGivenNames x; clear_value x)
    | extract_lets +onlyGivenNames _
    | with_reducible apply Within.refl
    | with_reducible assumption
    | decide
    | with_reducible apply Within.step (Chip.atTime_within _ _)
    | with_reducible apply Within.step (Chip.stampsLate_within _ _)
    | split

theorem execGdUvloEntry_within (t : Nat) (channel : Fin 8) (negative : Bool) (mv : Nat) (s : State) :
    OutcomeWithin 0x18c000000000000000000000000000000000000000000000000000000000000000000000000000000000000000000 0x804 s (execGdUvloEntry t channel negative mv s) := by
  unfold execGdUvloEntry
  refine State.does_within fun _ => ?_
  repeat' first
    | (extract_lets +onlyGivenNames x; refine .cut (x := x) ?_ ?_; rotate_left; clear_value x; intro _; rotate_left; subst x)
    | (extract_lets +onlyGivenNames x; refine .cut (x := x.2) ?_ ?_; rotate_left; clear_value x; intro _; rotate_left; subst x)
    | (extract_lets +onlyGivenNames x; refine .cut (x := x.2.2) ?_ ?_; rotate_left; clear_value x; intro _; rotate_left; subst x)
    | (extract_lets +onlyGivenNames x; clear_value x)
    | extract_lets +onlyGivenNames _
    | with_reducible apply Within.refl
    | with_reducible assumption
    | decide
    | with_reducible apply Within.step (Chip.atTime_within _ _)
    | with_reducible apply Within.step (Chip.uvloEntry_within _ _ _ _)
    | split

theorem execGdUvloExit_within (t : Nat) (channel : Fin 8) (drv : Nat) (neg : Nat) (ns : Nat) (s : State) :
    OutcomeWithin 0xc000000000000000000000000000000000000000000000000000000000000000000000000000000000000000000 0x8004 s (execGdUvloExit t channel drv neg ns s) := by
  unfold execGdUvloExit
  refine State.does_within fun _ => ?_
  repeat' first
    | (extract_lets +onlyGivenNames x; refine .cut (x := x) ?_ ?_; rotate_left; clear_value x; intro _; rotate_left; subst x)
    | (extract_lets +onlyGivenNames x; refine .cut (x := x.2) ?_ ?_; rotate_left; clear_value x; intro _; rotate_left; subst x)
    | (extract_lets +onlyGivenNames x; refine .cut (x := x.2.2) ?_ ?_; rotate_left; clear_value x; intro _; rotate_left; subst x)
    | (extract_lets +onlyGivenNames x; clear_value x)
    | extract_lets +onlyGivenNames _
    | with_reducible apply Within.refl
    | with_reducible assumption
    | decide
    | with_reducible apply Within.step (Chip.atTime_within _ _)
    | with_reducible apply Within.step (Chip.uvloExit_within _ _ _ _ _)
    | split

theorem execGdShortDetect_within (t : Nat) (channel : Fin 8) (mv : Int) (s : State) :
    OutcomeWithin 0x290000000000000000000000000000000000000000000000000000000000000000000000000000000000000000000 0x8804 s (execGdShortDetect t channel mv s) := by
  unfold execGdShortDetect
  refine State.does_within fun _ => ?_
  repeat' first
    | (extract_lets +onlyGivenNames x; refine .cut (x := x) ?_ ?_; rotate_left; clear_value x; intro _; rotate_left; subst x)
    | (extract_lets +onlyGivenNames x; refine .cut (x := x.2) ?_ ?_; rotate_left; clear_value x; intro _; rotate_left; subst x)
    | (extract_lets +onlyGivenNames x; refine .cut (x := x.2.2) ?_ ?_; rotate_left; clear_value x; intro _; rotate_left; subst x)
    | (extract_lets +onlyGivenNames x; clear_value x)
    | extract_lets +onlyGivenNames _
    | with_reducible apply Within.refl
    | with_reducible assumption
    | decide
    | with_reducible apply Within.step (Chip.atTime_within _ _)
    | with_reducible apply Within.step (Chip.gdiCrossing_within _ _ _)
    | split

theorem execGdBlankEnd_within (t : Nat) (channel : Fin 8) (mv : Int) (s : State) :
    OutcomeWithin 0x290000000000000000000000000000000000000000000000000000000000000000000000000000000000000000000 0x8804 s (execGdBlankEnd t channel mv s) := by
  unfold execGdBlankEnd
  refine State.does_within fun _ => ?_
  repeat' first
    | (extract_lets +onlyGivenNames x; refine .cut (x := x) ?_ ?_; rotate_left; clear_value x; intro _; rotate_left; subst x)
    | (extract_lets +onlyGivenNames x; refine .cut (x := x.2) ?_ ?_; rotate_left; clear_value x; intro _; rotate_left; subst x)
    | (extract_lets +onlyGivenNames x; refine .cut (x := x.2.2) ?_ ?_; rotate_left; clear_value x; intro _; rotate_left; subst x)
    | (extract_lets +onlyGivenNames x; clear_value x)
    | extract_lets +onlyGivenNames _
    | with_reducible apply Within.refl
    | with_reducible assumption
    | decide
    | with_reducible apply Within.step (Chip.atTime_within _ _)
    | with_reducible apply Within.step (Chip.blankEnd_within _ _ _)
    | split

theorem execGdSoftOffEnd_within (t : Nat) (channel : Fin 8) (s : State) :
    OutcomeWithin 0 0x8004 s (execGdSoftOffEnd t channel s) := by
  unfold execGdSoftOffEnd
  refine State.does_within fun _ => ?_
  repeat' first
    | (extract_lets +onlyGivenNames x; refine .cut (x := x) ?_ ?_; rotate_left; clear_value x; intro _; rotate_left; subst x)
    | (extract_lets +onlyGivenNames x; refine .cut (x := x.2) ?_ ?_; rotate_left; clear_value x; intro _; rotate_left; subst x)
    | (extract_lets +onlyGivenNames x; refine .cut (x := x.2.2) ?_ ?_; rotate_left; clear_value x; intro _; rotate_left; subst x)
    | (extract_lets +onlyGivenNames x; clear_value x)
    | extract_lets +onlyGivenNames _
    | with_reducible apply Within.refl
    | with_reducible assumption
    | decide
    | with_reducible apply Within.step (Chip.atTime_within _ _)
    | with_reducible apply Within.step (Chip.softOffEnd_within _ _)
    | split

theorem execGdInterlock_within (t : Nat) (channel : Fin 8) (s : State) :
    OutcomeWithin 0xa0000000000000000000000000000000000000000000000000000000000000000000000000000000000000000000 0x8804 s (execGdInterlock t channel s) := by
  unfold execGdInterlock
  refine State.does_within fun _ => ?_
  repeat' first
    | (extract_lets +onlyGivenNames x; refine .cut (x := x) ?_ ?_; rotate_left; clear_value x; intro _; rotate_left; subst x)
    | (extract_lets +onlyGivenNames x; refine .cut (x := x.2) ?_ ?_; rotate_left; clear_value x; intro _; rotate_left; subst x)
    | (extract_lets +onlyGivenNames x; refine .cut (x := x.2.2) ?_ ?_; rotate_left; clear_value x; intro _; rotate_left; subst x)
    | (extract_lets +onlyGivenNames x; clear_value x)
    | extract_lets +onlyGivenNames _
    | with_reducible apply Within.refl
    | with_reducible assumption
    | decide
    | with_reducible apply Within.step (Chip.atTime_within _ _)
    | with_reducible apply Within.step (Chip.gdInterlock_within _ _)
    | split

end Sys2Proof.Machine
end

