-- ==== Sys2Proof/Laws/FrameEngineCommands.lean ====
section
/-! SUPPORT. The frames of the operations of Machine/EngineCommands.lean: the fields and the parts of the state each may change. -/

set_option linter.tactic.unusedName false

namespace Sys2Proof.Machine

theorem execNop_within (engine : Fin 24) (w : Machine.OpWord) (s : State) :
    OutcomeWithin 0 0x400 s (execNop engine w s) := by
  unfold execNop
  refine State.does_within fun _ => ?_
  repeat' first
    | (extract_lets +onlyGivenNames x; refine .cut (x := x) ?_ ?_; rotate_left; clear_value x; intro _; rotate_left; subst x)
    | (extract_lets +onlyGivenNames x; refine .cut (x := x.2) ?_ ?_; rotate_left; clear_value x; intro _; rotate_left; subst x)
    | (extract_lets +onlyGivenNames x; refine .cut (x := x.2.2) ?_ ?_; rotate_left; clear_value x; intro _; rotate_left; subst x)
    | (extract_lets +onlyGivenNames x; clear_value x)
    | extract_lets +onlyGivenNames _
    | with_reducible apply Within.refl
    | with_reducible assumption
    | decide
    | (with_reducible apply Chip.engineOp_within; rotate_left; intro _ _)
    | split

theorem execClr_within (engine : Fin 24) (w : Machine.OpWord) (s : State) :
    OutcomeWithin 0x800000000000000000000000000000000000000000000000000000000000 0x400 s (execClr engine w s) := by
  unfold execClr
  refine State.does_within fun _ => ?_
  repeat' first
    | (extract_lets +onlyGivenNames x; refine .cut (x := x) ?_ ?_; rotate_left; clear_value x; intro _; rotate_left; subst x)
    | (extract_lets +onlyGivenNames x; refine .cut (x := x.2) ?_ ?_; rotate_left; clear_value x; intro _; rotate_left; subst x)
    | (extract_lets +onlyGivenNames x; refine .cut (x := x.2.2) ?_ ?_; rotate_left; clear_value x; intro _; rotate_left; subst x)
    | (extract_lets +onlyGivenNames x; clear_value x)
    | extract_lets +onlyGivenNames _
    | with_reducible apply Within.refl
    | with_reducible assumption
    | decide
    | (with_reducible apply Chip.engineOp_within; rotate_left; intro _ _)
    | with_reducible apply Within.step (Chip.setAcc_within _ _ _ _)
    | split

theorem execLda_within (engine : Fin 24) (w : Machine.OpWord) (s : State) :
    OutcomeWithin 0x800000000000000000000000000000000000000000000000000000000000 0x400 s (execLda engine w s) := by
  unfold execLda
  refine State.does_within fun _ => ?_
  repeat' first
    | (extract_lets +onlyGivenNames x; refine .cut (x := x) ?_ ?_; rotate_left; clear_value x; intro _; rotate_left; subst x)
    | (extract_lets +onlyGivenNames x; refine .cut (x := x.2) ?_ ?_; rotate_left; clear_value x; intro _; rotate_left; subst x)
    | (extract_lets +onlyGivenNames x; refine .cut (x := x.2.2) ?_ ?_; rotate_left; clear_value x; intro _; rotate_left; subst x)
    | (extract_lets +onlyGivenNames x; clear_value x)
    | extract_lets +onlyGivenNames _
    | with_reducible apply Within.refl
    | with_reducible assumption
    | decide
    | (with_reducible apply Chip.engineOp_within; rotate_left; intro _ _)
    | with_reducible apply Within.step (Chip.setAcc_within _ _ _ _)
    | split

theorem execMac_within (engine : Fin 24) (w : Machine.OpWord) (s : State) :
    OutcomeWithin 0x800000000000000000000000000000000000000000000000000000000000 0x400 s (execMac engine w s) := by
  unfold execMac
  refine State.does_within fun _ => ?_
  repeat' first
    | (extract_lets +onlyGivenNames x; refine .cut (x := x) ?_ ?_; rotate_left; clear_value x; intro _; rotate_left; subst x)
    | (extract_lets +onlyGivenNames x; refine .cut (x := x.2) ?_ ?_; rotate_left; clear_value x; intro _; rotate_left; subst x)
    | (extract_lets +onlyGivenNames x; refine .cut (x := x.2.2) ?_ ?_; rotate_left; clear_value x; intro _; rotate_left; subst x)
    | (extract_lets +onlyGivenNames x; clear_value x)
    | extract_lets +onlyGivenNames _
    | with_reducible apply Within.refl
    | with_reducible assumption
    | decide
    | (with_reducible apply Chip.engineOp_within; rotate_left; intro _ _)
    | with_reducible apply Within.step (Chip.setAcc_within _ _ _ _)
    | split

theorem execMsu_within (engine : Fin 24) (w : Machine.OpWord) (s : State) :
    OutcomeWithin 0x800000000000000000000000000000000000000000000000000000000000 0x400 s (execMsu engine w s) := by
  unfold execMsu
  refine State.does_within fun _ => ?_
  repeat' first
    | (extract_lets +onlyGivenNames x; refine .cut (x := x) ?_ ?_; rotate_left; clear_value x; intro _; rotate_left; subst x)
    | (extract_lets +onlyGivenNames x; refine .cut (x := x.2) ?_ ?_; rotate_left; clear_value x; intro _; rotate_left; subst x)
    | (extract_lets +onlyGivenNames x; refine .cut (x := x.2.2) ?_ ?_; rotate_left; clear_value x; intro _; rotate_left; subst x)
    | (extract_lets +onlyGivenNames x; clear_value x)
    | extract_lets +onlyGivenNames _
    | with_reducible apply Within.refl
    | with_reducible assumption
    | decide
    | (with_reducible apply Chip.engineOp_within; rotate_left; intro _ _)
    | with_reducible apply Within.step (Chip.setAcc_within _ _ _ _)
    | split

theorem execMac2_within (engine : Fin 24) (w : Machine.OpWord) (s : State) :
    OutcomeWithin 0x800000000000000000000000000000000000000000000000000000000000 0x400 s (execMac2 engine w s) := by
  unfold execMac2
  refine State.does_within fun _ => ?_
  repeat' first
    | (extract_lets +onlyGivenNames x; refine .cut (x := x) ?_ ?_; rotate_left; clear_value x; intro _; rotate_left; subst x)
    | (extract_lets +onlyGivenNames x; refine .cut (x := x.2) ?_ ?_; rotate_left; clear_value x; intro _; rotate_left; subst x)
    | (extract_lets +onlyGivenNames x; refine .cut (x := x.2.2) ?_ ?_; rotate_left; clear_value x; intro _; rotate_left; subst x)
    | (extract_lets +onlyGivenNames x; clear_value x)
    | extract_lets +onlyGivenNames _
    | with_reducible apply Within.refl
    | with_reducible assumption
    | decide
    | (with_reducible apply Chip.engineOp_within; rotate_left; intro _ _)
    | with_reducible apply Within.step (Chip.opMac2_within _ _ _ _ _)
    | split

theorem execAsh_within (engine : Fin 24) (w : Machine.OpWord) (s : State) :
    OutcomeWithin 0x800000000000000000000000000000000000000000000000000000000000 0x400 s (execAsh engine w s) := by
  unfold execAsh
  refine State.does_within fun _ => ?_
  repeat' first
    | (extract_lets +onlyGivenNames x; refine .cut (x := x) ?_ ?_; rotate_left; clear_value x; intro _; rotate_left; subst x)
    | (extract_lets +onlyGivenNames x; refine .cut (x := x.2) ?_ ?_; rotate_left; clear_value x; intro _; rotate_left; subst x)
    | (extract_lets +onlyGivenNames x; refine .cut (x := x.2.2) ?_ ?_; rotate_left; clear_value x; intro _; rotate_left; subst x)
    | (extract_lets +onlyGivenNames x; clear_value x)
    | extract_lets +onlyGivenNames _
    | with_reducible apply Within.refl
    | with_reducible assumption
    | decide
    | (with_reducible apply Chip.engineOp_within; rotate_left; intro _ _)
    | with_reducible apply Within.step (Chip.opAsh_within _ _ _ _)
    | split

theorem execSat_within (engine : Fin 24) (w : Machine.OpWord) (s : State) :
    OutcomeWithin 0xa0000000000000000000000000000000000000000000000000000000000000 0x400 s (execSat engine w s) := by
  unfold execSat
  refine State.does_within fun _ => ?_
  repeat' first
    | (extract_lets +onlyGivenNames x; refine .cut (x := x) ?_ ?_; rotate_left; clear_value x; intro _; rotate_left; subst x)
    | (extract_lets +onlyGivenNames x; refine .cut (x := x.2) ?_ ?_; rotate_left; clear_value x; intro _; rotate_left; subst x)
    | (extract_lets +onlyGivenNames x; refine .cut (x := x.2.2) ?_ ?_; rotate_left; clear_value x; intro _; rotate_left; subst x)
    | (extract_lets +onlyGivenNames x; clear_value x)
    | extract_lets +onlyGivenNames _
    | with_reducible apply Within.refl
    | with_reducible assumption
    | decide
    | (with_reducible apply Chip.engineOp_within; rotate_left; intro _ _)
    | with_reducible apply Within.step (Chip.storeWord_within _ _ _ _ _)
    | split

theorem execAddi_within (engine : Fin 24) (w : Machine.OpWord) (s : State) :
    OutcomeWithin 0x800000000000000000000000000000000000000000000000000000000000 0x400 s (execAddi engine w s) := by
  unfold execAddi
  refine State.does_within fun _ => ?_
  repeat' first
    | (extract_lets +onlyGivenNames x; refine .cut (x := x) ?_ ?_; rotate_left; clear_value x; intro _; rotate_left; subst x)
    | (extract_lets +onlyGivenNames x; refine .cut (x := x.2) ?_ ?_; rotate_left; clear_value x; intro _; rotate_left; subst x)
    | (extract_lets +onlyGivenNames x; refine .cut (x := x.2.2) ?_ ?_; rotate_left; clear_value x; intro _; rotate_left; subst x)
    | (extract_lets +onlyGivenNames x; clear_value x)
    | extract_lets +onlyGivenNames _
    | with_reducible apply Within.refl
    | with_reducible assumption
    | decide
    | (with_reducible apply Chip.engineOp_within; rotate_left; intro _ _)
    | with_reducible apply Within.step (Chip.setAcc_within _ _ _ _)
    | split

theorem execInt_within (engine : Fin 24) (w : Machine.OpWord) (s : State) :
    OutcomeWithin 0 0x400 s (execInt engine w s) := by
  unfold execInt
  refine State.does_within fun _ => ?_
  repeat' first
    | (extract_lets +onlyGivenNames x; refine .cut (x := x) ?_ ?_; rotate_left; clear_value x; intro _; rotate_left; subst x)
    | (extract_lets +onlyGivenNames x; refine .cut (x := x.2) ?_ ?_; rotate_left; clear_value x; intro _; rotate_left; subst x)
    | (extract_lets +onlyGivenNames x; refine .cut (x := x.2.2) ?_ ?_; rotate_left; clear_value x; intro _; rotate_left; subst x)
    | (extract_lets +onlyGivenNames x; clear_value x)
    | extract_lets +onlyGivenNames _
    | with_reducible apply Within.refl
    | with_reducible assumption
    | decide
    | (with_reducible apply Chip.engineOp_within; rotate_left; intro _ _)
    | with_reducible apply Within.step (Chip.opInt_within _ _ _ _ _ _)
    | split

theorem execTrk_within (engine : Fin 24) (w : Machine.OpWord) (s : State) :
    OutcomeWithin 0 0x400 s (execTrk engine w s) := by
  unfold execTrk
  refine State.does_within fun _ => ?_
  repeat' first
    | (extract_lets +onlyGivenNames x; refine .cut (x := x) ?_ ?_; rotate_left; clear_value x; intro _; rotate_left; subst x)
    | (extract_lets +onlyGivenNames x; refine .cut (x := x.2) ?_ ?_; rotate_left; clear_value x; intro _; rotate_left; subst x)
    | (extract_lets +onlyGivenNames x; refine .cut (x := x.2.2) ?_ ?_; rotate_left; clear_value x; intro _; rotate_left; subst x)
    | (extract_lets +onlyGivenNames x; clear_value x)
    | extract_lets +onlyGivenNames _
    | with_reducible apply Within.refl
    | with_reducible assumption
    | decide
    | (with_reducible apply Chip.engineOp_within; rotate_left; intro _ _)
    | with_reducible apply Within.step (Chip.opTrk_within _ _ _ _ _)
    | split

theorem execMov_within (engine : Fin 24) (w : Machine.OpWord) (s : State) :
    OutcomeWithin 0xa0000000000000000000000000000000000000000000000000000000000000 0x400 s (execMov engine w s) := by
  unfold execMov
  refine State.does_within fun _ => ?_
  repeat' first
    | (extract_lets +onlyGivenNames x; refine .cut (x := x) ?_ ?_; rotate_left; clear_value x; intro _; rotate_left; subst x)
    | (extract_lets +onlyGivenNames x; refine .cut (x := x.2) ?_ ?_; rotate_left; clear_value x; intro _; rotate_left; subst x)
    | (extract_lets +onlyGivenNames x; refine .cut (x := x.2.2) ?_ ?_; rotate_left; clear_value x; intro _; rotate_left; subst x)
    | (extract_lets +onlyGivenNames x; clear_value x)
    | extract_lets +onlyGivenNames _
    | with_reducible apply Within.refl
    | with_reducible assumption
    | decide
    | (with_reducible apply Chip.engineOp_within; rotate_left; intro _ _)
    | with_reducible apply Within.step (Chip.storeWord_within _ _ _ _ _)
    | split

theorem execNeg_within (engine : Fin 24) (w : Machine.OpWord) (s : State) :
    OutcomeWithin 0xa0000000000000000000000000000000000000000000000000000000000000 0x400 s (execNeg engine w s) := by
  unfold execNeg
  refine State.does_within fun _ => ?_
  repeat' first
    | (extract_lets +onlyGivenNames x; refine .cut (x := x) ?_ ?_; rotate_left; clear_value x; intro _; rotate_left; subst x)
    | (extract_lets +onlyGivenNames x; refine .cut (x := x.2) ?_ ?_; rotate_left; clear_value x; intro _; rotate_left; subst x)
    | (extract_lets +onlyGivenNames x; refine .cut (x := x.2.2) ?_ ?_; rotate_left; clear_value x; intro _; rotate_left; subst x)
    | (extract_lets +onlyGivenNames x; clear_value x)
    | extract_lets +onlyGivenNames _
    | with_reducible apply Within.refl
    | with_reducible assumption
    | decide
    | (with_reducible apply Chip.engineOp_within; rotate_left; intro _ _)
    | with_reducible apply Within.step (Chip.storeWord_within _ _ _ _ _)
    | split

theorem execAdd_within (engine : Fin 24) (w : Machine.OpWord) (s : State) :
    OutcomeWithin 0xa0000000000000000000000000000000000000000000000000000000000000 0x400 s (execAdd engine w s) := by
  unfold execAdd
  refine State.does_within fun _ => ?_
  repeat' first
    | (extract_lets +onlyGivenNames x; refine .cut (x := x) ?_ ?_; rotate_left; clear_value x; intro _; rotate_left; subst x)
    | (extract_lets +onlyGivenNames x; refine .cut (x := x.2) ?_ ?_; rotate_left; clear_value x; intro _; rotate_left; subst x)
    | (extract_lets +onlyGivenNames x; refine .cut (x := x.2.2) ?_ ?_; rotate_left; clear_value x; intro _; rotate_left; subst x)
    | (extract_lets +onlyGivenNames x; clear_value x)
    | extract_lets +onlyGivenNames _
    | with_reducible apply Within.refl
    | with_reducible assumption
    | decide
    | (with_reducible apply Chip.engineOp_within; rotate_left; intro _ _)
    | with_reducible apply Within.step (Chip.storeWord_within _ _ _ _ _)
    | split

theorem execSub_within (engine : Fin 24) (w : Machine.OpWord) (s : State) :
    OutcomeWithin 0xa0000000000000000000000000000000000000000000000000000000000000 0x400 s (execSub engine w s) := by
  unfold execSub
  refine State.does_within fun _ => ?_
  repeat' first
    | (extract_lets +onlyGivenNames x; refine .cut (x := x) ?_ ?_; rotate_left; clear_value x; intro _; rotate_left; subst x)
    | (extract_lets +onlyGivenNames x; refine .cut (x := x.2) ?_ ?_; rotate_left; clear_value x; intro _; rotate_left; subst x)
    | (extract_lets +onlyGivenNames x; refine .cut (x := x.2.2) ?_ ?_; rotate_left; clear_value x; intro _; rotate_left; subst x)
    | (extract_lets +onlyGivenNames x; clear_value x)
    | extract_lets +onlyGivenNames _
    | with_reducible apply Within.refl
    | with_reducible assumption
    | decide
    | (with_reducible apply Chip.engineOp_within; rotate_left; intro _ _)
    | with_reducible apply Within.step (Chip.storeWord_within _ _ _ _ _)
    | split

theorem execMul_within (engine : Fin 24) (w : Machine.OpWord) (s : State) :
    OutcomeWithin 0xa0000000000000000000000000000000000000000000000000000000000000 0x400 s (execMul engine w s) := by
  unfold execMul
  refine State.does_within fun _ => ?_
  repeat' first
    | (extract_lets +onlyGivenNames x; refine .cut (x := x) ?_ ?_; rotate_left; clear_value x; intro _; rotate_left; subst x)
    | (extract_lets +onlyGivenNames x; refine .cut (x := x.2) ?_ ?_; rotate_left; clear_value x; intro _; rotate_left; subst x)
    | (extract_lets +onlyGivenNames x; refine .cut (x := x.2.2) ?_ ?_; rotate_left; clear_value x; intro _; rotate_left; subst x)
    | (extract_lets +onlyGivenNames x; clear_value x)
    | extract_lets +onlyGivenNames _
    | with_reducible apply Within.refl
    | with_reducible assumption
    | decide
    | (with_reducible apply Chip.engineOp_within; rotate_left; intro _ _)
    | with_reducible apply Within.step (Chip.storeWord_within _ _ _ _ _)
    | split

theorem execMin_within (engine : Fin 24) (w : Machine.OpWord) (s : State) :
    OutcomeWithin 0xa0000000000000000000000000000000000000000000000000000000000000 0x400 s (execMin engine w s) := by
  unfold execMin
  refine State.does_within fun _ => ?_
  repeat' first
    | (extract_lets +onlyGivenNames x; refine .cut (x := x) ?_ ?_; rotate_left; clear_value x; intro _; rotate_left; subst x)
    | (extract_lets +onlyGivenNames x; refine .cut (x := x.2) ?_ ?_; rotate_left; clear_value x; intro _; rotate_left; subst x)
    | (extract_lets +onlyGivenNames x; refine .cut (x := x.2.2) ?_ ?_; rotate_left; clear_value x; intro _; rotate_left; subst x)
    | (extract_lets +onlyGivenNames x; clear_value x)
    | extract_lets +onlyGivenNames _
    | with_reducible apply Within.refl
    | with_reducible assumption
    | decide
    | (with_reducible apply Chip.engineOp_within; rotate_left; intro _ _)
    | with_reducible apply Within.step (Chip.storeWord_within _ _ _ _ _)
    | split

theorem execMax_within (engine : Fin 24) (w : Machine.OpWord) (s : State) :
    OutcomeWithin 0xa0000000000000000000000000000000000000000000000000000000000000 0x400 s (execMax engine w s) := by
  unfold execMax
  refine State.does_within fun _ => ?_
  repeat' first
    | (extract_lets +onlyGivenNames x; refine .cut (x := x) ?_ ?_; rotate_left; clear_value x; intro _; rotate_left; subst x)
    | (extract_lets +onlyGivenNames x; refine .cut (x := x.2) ?_ ?_; rotate_left; clear_value x; intro _; rotate_left; subst x)
    | (extract_lets +onlyGivenNames x; refine .cut (x := x.2.2) ?_ ?_; rotate_left; clear_value x; intro _; rotate_left; subst x)
    | (extract_lets +onlyGivenNames x; clear_value x)
    | extract_lets +onlyGivenNames _
    | with_reducible apply Within.refl
    | with_reducible assumption
    | decide
    | (with_reducible apply Chip.engineOp_within; rotate_left; intro _ _)
    | with_reducible apply Within.step (Chip.storeWord_within _ _ _ _ _)
    | split

theorem execLim_within (engine : Fin 24) (w : Machine.OpWord) (s : State) :
    OutcomeWithin 0x140000000000000000000000000000000000000000000000000000000000000 0x400 s (execLim engine w s) := by
  unfold execLim
  refine State.does_within fun _ => ?_
  repeat' first
    | (extract_lets +onlyGivenNames x; refine .cut (x := x) ?_ ?_; rotate_left; clear_value x; intro _; rotate_left; subst x)
    | (extract_lets +onlyGivenNames x; refine .cut (x := x.2) ?_ ?_; rotate_left; clear_value x; intro _; rotate_left; subst x)
    | (extract_lets +onlyGivenNames x; refine .cut (x := x.2.2) ?_ ?_; rotate_left; clear_value x; intro _; rotate_left; subst x)
    | (extract_lets +onlyGivenNames x; clear_value x)
    | extract_lets +onlyGivenNames _
    | with_reducible apply Within.refl
    | with_reducible assumption
    | decide
    | (with_reducible apply Chip.engineOp_within; rotate_left; intro _ _)
    | with_reducible apply Within.step (Chip.opLim_within _ _ _ _ _)
    | split

theorem execTab_within (engine : Fin 24) (w : Machine.OpWord) (s : State) :
    OutcomeWithin 0xa0000000000000000000000000000000000000000000000000000000000000 0x400 s (execTab engine w s) := by
  unfold execTab
  refine State.does_within fun _ => ?_
  repeat' first
    | (extract_lets +onlyGivenNames x; refine .cut (x := x) ?_ ?_; rotate_left; clear_value x; intro _; rotate_left; subst x)
    | (extract_lets +onlyGivenNames x; refine .cut (x := x.2) ?_ ?_; rotate_left; clear_value x; intro _; rotate_left; subst x)
    | (extract_lets +onlyGivenNames x; refine .cut (x := x.2.2) ?_ ?_; rotate_left; clear_value x; intro _; rotate_left; subst x)
    | (extract_lets +onlyGivenNames x; clear_value x)
    | extract_lets +onlyGivenNames _
    | with_reducible apply Within.refl
    | with_reducible assumption
    | decide
    | (with_reducible apply Chip.engineOp_within; rotate_left; intro _ _)
    | with_reducible apply Within.step (Chip.opTab_within _ _ _ _ _ _)
    | split

theorem execSin_within (engine : Fin 24) (w : Machine.OpWord) (s : State) :
    OutcomeWithin 0xa0000000000000000000000000000000000000000000000000000000000000 0x400 s (execSin engine w s) := by
  unfold execSin
  refine State.does_within fun _ => ?_
  repeat' first
    | (extract_lets +onlyGivenNames x; refine .cut (x := x) ?_ ?_; rotate_left; clear_value x; intro _; rotate_left; subst x)
    | (extract_lets +onlyGivenNames x; refine .cut (x := x.2) ?_ ?_; rotate_left; clear_value x; intro _; rotate_left; subst x)
    | (extract_lets +onlyGivenNames x; refine .cut (x := x.2.2) ?_ ?_; rotate_left; clear_value x; intro _; rotate_left; subst x)
    | (extract_lets +onlyGivenNames x; clear_value x)
    | extract_lets +onlyGivenNames _
    | with_reducible apply Within.refl
    | with_reducible assumption
    | decide
    | (with_reducible apply Chip.engineOp_within; rotate_left; intro _ _)
    | with_reducible apply Within.step (Chip.opSin_within _ _ _ _)
    | split

theorem execClk_within (engine : Fin 24) (w : Machine.OpWord) (s : State) :
    OutcomeWithin 0xa0000000000000000000000000000000000000000000000000000000000000 0x400 s (execClk engine w s) := by
  unfold execClk
  refine State.does_within fun _ => ?_
  repeat' first
    | (extract_lets +onlyGivenNames x; refine .cut (x := x) ?_ ?_; rotate_left; clear_value x; intro _; rotate_left; subst x)
    | (extract_lets +onlyGivenNames x; refine .cut (x := x.2) ?_ ?_; rotate_left; clear_value x; intro _; rotate_left; subst x)
    | (extract_lets +onlyGivenNames x; refine .cut (x := x.2.2) ?_ ?_; rotate_left; clear_value x; intro _; rotate_left; subst x)
    | (extract_lets +onlyGivenNames x; clear_value x)
    | extract_lets +onlyGivenNames _
    | with_reducible apply Within.refl
    | with_reducible assumption
    | decide
    | (with_reducible apply Chip.engineOp_within; rotate_left; intro _ _)
    | with_reducible apply Within.step (Chip.opClk_within _ _ _ _)
    | split

theorem execIck_within (engine : Fin 24) (w : Machine.OpWord) (s : State) :
    OutcomeWithin 0xa0000000000000000000000000000000000000000000000000000000000000 0x400 s (execIck engine w s) := by
  unfold execIck
  refine State.does_within fun _ => ?_
  repeat' first
    | (extract_lets +onlyGivenNames x; refine .cut (x := x) ?_ ?_; rotate_left; clear_value x; intro _; rotate_left; subst x)
    | (extract_lets +onlyGivenNames x; refine .cut (x := x.2) ?_ ?_; rotate_left; clear_value x; intro _; rotate_left; subst x)
    | (extract_lets +onlyGivenNames x; refine .cut (x := x.2.2) ?_ ?_; rotate_left; clear_value x; intro _; rotate_left; subst x)
    | (extract_lets +onlyGivenNames x; clear_value x)
    | extract_lets +onlyGivenNames _
    | with_reducible apply Within.refl
    | with_reducible assumption
    | decide
    | (with_reducible apply Chip.engineOp_within; rotate_left; intro _ _)
    | with_reducible apply Within.step (Chip.opIck_within _ _ _ _)
    | split

theorem execPrk_within (engine : Fin 24) (w : Machine.OpWord) (s : State) :
    OutcomeWithin 0xa0000000000000000000000000000000000000000000000000000000000000 0x400 s (execPrk engine w s) := by
  unfold execPrk
  refine State.does_within fun _ => ?_
  repeat' first
    | (extract_lets +onlyGivenNames x; refine .cut (x := x) ?_ ?_; rotate_left; clear_value x; intro _; rotate_left; subst x)
    | (extract_lets +onlyGivenNames x; refine .cut (x := x.2) ?_ ?_; rotate_left; clear_value x; intro _; rotate_left; subst x)
    | (extract_lets +onlyGivenNames x; refine .cut (x := x.2.2) ?_ ?_; rotate_left; clear_value x; intro _; rotate_left; subst x)
    | (extract_lets +onlyGivenNames x; clear_value x)
    | extract_lets +onlyGivenNames _
    | with_reducible apply Within.refl
    | with_reducible assumption
    | decide
    | (with_reducible apply Chip.engineOp_within; rotate_left; intro _ _)
    | with_reducible apply Within.step (Chip.opRotate_within _ _ _ _ _ _)
    | split

theorem execIpk_within (engine : Fin 24) (w : Machine.OpWord) (s : State) :
    OutcomeWithin 0xa0000000000000000000000000000000000000000000000000000000000000 0x400 s (execIpk engine w s) := by
  unfold execIpk
  refine State.does_within fun _ => ?_
  repeat' first
    | (extract_lets +onlyGivenNames x; refine .cut (x := x) ?_ ?_; rotate_left; clear_value x; intro _; rotate_left; subst x)
    | (extract_lets +onlyGivenNames x; refine .cut (x := x.2) ?_ ?_; rotate_left; clear_value x; intro _; rotate_left; subst x)
    | (extract_lets +onlyGivenNames x; refine .cut (x := x.2.2) ?_ ?_; rotate_left; clear_value x; intro _; rotate_left; subst x)
    | (extract_lets +onlyGivenNames x; clear_value x)
    | extract_lets +onlyGivenNames _
    | with_reducible apply Within.refl
    | with_reducible assumption
    | decide
    | (with_reducible apply Chip.engineOp_within; rotate_left; intro _ _)
    | with_reducible apply Within.step (Chip.opRotate_within _ _ _ _ _ _)
    | split

theorem execInSlot_within (engine : Fin 24) (w : Machine.OpWord) (s : State) :
    OutcomeWithin 0 0x400 s (execInSlot engine w s) := by
  unfold execInSlot
  refine State.does_within fun _ => ?_
  repeat' first
    | (extract_lets +onlyGivenNames x; refine .cut (x := x) ?_ ?_; rotate_left; clear_value x; intro _; rotate_left; subst x)
    | (extract_lets +onlyGivenNames x; refine .cut (x := x.2) ?_ ?_; rotate_left; clear_value x; intro _; rotate_left; subst x)
    | (extract_lets +onlyGivenNames x; refine .cut (x := x.2.2) ?_ ?_; rotate_left; clear_value x; intro _; rotate_left; subst x)
    | (extract_lets +onlyGivenNames x; clear_value x)
    | extract_lets +onlyGivenNames _
    | with_reducible apply Within.refl
    | with_reducible assumption
    | decide
    | (with_reducible apply Chip.engineOp_within; rotate_left; intro _ _)
    | with_reducible apply Within.step (Chip.opIn_within _ _ _ _)
    | split

theorem execOutSlot_within (engine : Fin 24) (w : Machine.OpWord) (s : State) :
    OutcomeWithin 0 0x400 s (execOutSlot engine w s) := by
  unfold execOutSlot
  refine State.does_within fun _ => ?_
  repeat' first
    | (extract_lets +onlyGivenNames x; refine .cut (x := x) ?_ ?_; rotate_left; clear_value x; intro _; rotate_left; subst x)
    | (extract_lets +onlyGivenNames x; refine .cut (x := x.2) ?_ ?_; rotate_left; clear_value x; intro _; rotate_left; subst x)
    | (extract_lets +onlyGivenNames x; refine .cut (x := x.2.2) ?_ ?_; rotate_left; clear_value x; intro _; rotate_left; subst x)
    | (extract_lets +onlyGivenNames x; clear_value x)
    | extract_lets +onlyGivenNames _
    | with_reducible apply Within.refl
    | with_reducible assumption
    | decide
    | (with_reducible apply Chip.engineOp_within; rotate_left; intro _ _)
    | with_reducible apply Within.step (Chip.opOut_within _ _ _ _)
    | split

theorem execMsel_within (engine : Fin 24) (w : Machine.OpWord) (s : State) :
    OutcomeWithin 0 0x400 s (execMsel engine w s) := by
  unfold execMsel
  refine State.does_within fun _ => ?_
  repeat' first
    | (extract_lets +onlyGivenNames x; refine .cut (x := x) ?_ ?_; rotate_left; clear_value x; intro _; rotate_left; subst x)
    | (extract_lets +onlyGivenNames x; refine .cut (x := x.2) ?_ ?_; rotate_left; clear_value x; intro _; rotate_left; subst x)
    | (extract_lets +onlyGivenNames x; refine .cut (x := x.2.2) ?_ ?_; rotate_left; clear_value x; intro _; rotate_left; subst x)
    | (extract_lets +onlyGivenNames x; clear_value x)
    | extract_lets +onlyGivenNames _
    | with_reducible apply Within.refl
    | with_reducible assumption
    | decide
    | (with_reducible apply Chip.engineOp_within; rotate_left; intro _ _)
    | with_reducible apply Within.step (Chip.opMsel_within _ _ _ _)
    | split

theorem execSetx_within (engine : Fin 24) (w : Machine.OpWord) (s : State) :
    OutcomeWithin 0 0x400 s (execSetx engine w s) := by
  unfold execSetx
  refine State.does_within fun _ => ?_
  repeat' first
    | (extract_lets +onlyGivenNames x; refine .cut (x := x) ?_ ?_; rotate_left; clear_value x; intro _; rotate_left; subst x)
    | (extract_lets +onlyGivenNames x; refine .cut (x := x.2) ?_ ?_; rotate_left; clear_value x; intro _; rotate_left; subst x)
    | (extract_lets +onlyGivenNames x; refine .cut (x := x.2.2) ?_ ?_; rotate_left; clear_value x; intro _; rotate_left; subst x)
    | (extract_lets +onlyGivenNames x; clear_value x)
    | extract_lets +onlyGivenNames _
    | with_reducible apply Within.refl
    | with_reducible assumption
    | decide
    | (with_reducible apply Chip.engineOp_within; rotate_left; intro _ _)
    | with_reducible apply Within.step (Chip.setEngine_within _ _ _)
    | split

theorem execAddx_within (engine : Fin 24) (w : Machine.OpWord) (s : State) :
    OutcomeWithin 0 0x400 s (execAddx engine w s) := by
  unfold execAddx
  refine State.does_within fun _ => ?_
  repeat' first
    | (extract_lets +onlyGivenNames x; refine .cut (x := x) ?_ ?_; rotate_left; clear_value x; intro _; rotate_left; subst x)
    | (extract_lets +onlyGivenNames x; refine .cut (x := x.2) ?_ ?_; rotate_left; clear_value x; intro _; rotate_left; subst x)
    | (extract_lets +onlyGivenNames x; refine .cut (x := x.2.2) ?_ ?_; rotate_left; clear_value x; intro _; rotate_left; subst x)
    | (extract_lets +onlyGivenNames x; clear_value x)
    | extract_lets +onlyGivenNames _
    | with_reducible apply Within.refl
    | with_reducible assumption
    | decide
    | (with_reducible apply Chip.engineOp_within; rotate_left; intro _ _)
    | with_reducible apply Within.step (Chip.setEngine_within _ _ _)
    | split

theorem execRep_within (engine : Fin 24) (w : Machine.OpWord) (s : State) :
    OutcomeWithin 0 0x400 s (execRep engine w s) := by
  unfold execRep
  refine State.does_within fun _ => ?_
  repeat' first
    | (extract_lets +onlyGivenNames x; refine .cut (x := x) ?_ ?_; rotate_left; clear_value x; intro _; rotate_left; subst x)
    | (extract_lets +onlyGivenNames x; refine .cut (x := x.2) ?_ ?_; rotate_left; clear_value x; intro _; rotate_left; subst x)
    | (extract_lets +onlyGivenNames x; refine .cut (x := x.2.2) ?_ ?_; rotate_left; clear_value x; intro _; rotate_left; subst x)
    | (extract_lets +onlyGivenNames x; clear_value x)
    | extract_lets +onlyGivenNames _
    | with_reducible apply Within.refl
    | with_reducible assumption
    | decide
    | (with_reducible apply Chip.engineOp_within; rotate_left; intro _ _)
    | with_reducible apply Within.step (Chip.opRep_within _ _ _ _)
    | split

theorem execSkn_within (engine : Fin 24) (w : Machine.OpWord) (s : State) :
    OutcomeWithin 0 0x400 s (execSkn engine w s) := by
  unfold execSkn
  refine State.does_within fun _ => ?_
  repeat' first
    | (extract_lets +onlyGivenNames x; refine .cut (x := x) ?_ ?_; rotate_left; clear_value x; intro _; rotate_left; subst x)
    | (extract_lets +onlyGivenNames x; refine .cut (x := x.2) ?_ ?_; rotate_left; clear_value x; intro _; rotate_left; subst x)
    | (extract_lets +onlyGivenNames x; refine .cut (x := x.2.2) ?_ ?_; rotate_left; clear_value x; intro _; rotate_left; subst x)
    | (extract_lets +onlyGivenNames x; clear_value x)
    | extract_lets +onlyGivenNames _
    | with_reducible apply Within.refl
    | with_reducible assumption
    | decide
    | (with_reducible apply Chip.engineOp_within; rotate_left; intro _ _)
    | with_reducible apply Within.step (Chip.opSkn_within _ _ _ _)
    | split

theorem execEndLoop_within (engine : Fin 24) (w : Machine.OpWord) (s : State) :
    OutcomeWithin 0x7e18000000000000000000000000000000000000000000000000000000000000 0x400 s (execEndLoop engine w s) := by
  unfold execEndLoop
  refine State.does_within fun _ => ?_
  repeat' first
    | (extract_lets +onlyGivenNames x; refine .cut (x := x) ?_ ?_; rotate_left; clear_value x; intro _; rotate_left; subst x)
    | (extract_lets +onlyGivenNames x; refine .cut (x := x.2) ?_ ?_; rotate_left; clear_value x; intro _; rotate_left; subst x)
    | (extract_lets +onlyGivenNames x; refine .cut (x := x.2.2) ?_ ?_; rotate_left; clear_value x; intro _; rotate_left; subst x)
    | (extract_lets +onlyGivenNames x; clear_value x)
    | extract_lets +onlyGivenNames _
    | with_reducible apply Within.refl
    | with_reducible assumption
    | decide
    | with_reducible apply Within.step (Chip.opEnd_within _ _)
    | (with_reducible apply Within.onlyIf; rotate_left; intro _ _)
    | split

end Sys2Proof.Machine
end

