-- ==== Sys2Proof/Laws/FrameFaultCommands.lean ====
section
/-! SUPPORT. The frames of the operations of Machine/FaultCommands.lean: the fields and the parts of the state each may change. -/

set_option linter.tactic.unusedName false

namespace Sys2Proof.Machine

theorem execFaultEvent_within (t : Nat) (origins : List Nat) (s : State) :
    OutcomeWithin 0x2c00000000002000000000000000000300000000000000000004000c7c000038cdf20008000000000002bff0000000000000000000800004000000000000042000000020000000000000000030078000000 0x83fba4 s (execFaultEvent t origins s) := by
  unfold execFaultEvent
  refine State.does_within fun _ => ?_
  repeat' first
    | (extract_lets +onlyGivenNames x; refine .cut (x := x) ?_ ?_; rotate_left; clear_value x; intro _; rotate_left; subst x)
    | (extract_lets +onlyGivenNames x; refine .cut (x := x.2) ?_ ?_; rotate_left; clear_value x; intro _; rotate_left; subst x)
    | (extract_lets +onlyGivenNames x; refine .cut (x := x.2.2) ?_ ?_; rotate_left; clear_value x; intro _; rotate_left; subst x)
    | (extract_lets +onlyGivenNames x; clear_value x)
    | extract_lets +onlyGivenNames _
    | with_reducible apply Within.refl
    | with_reducible assumption
    | decide
    | with_reducible apply Within.step (Chip.atTime_within _ _)
    | with_reducible apply Within.step (Chip.faultEvents_within _ _)
    | split

theorem execFaultWindowExpiry_within (t : Nat) (source : Fin 512) (s : State) :
    OutcomeWithin 0x18000000000000000000000000000000000000000000000000000000000000000000000000000000000000000000000000000 0x804 s (execFaultWindowExpiry t source s) := by
  unfold execFaultWindowExpiry
  refine State.does_within fun _ => ?_
  repeat' first
    | (extract_lets +onlyGivenNames x; refine .cut (x := x) ?_ ?_; rotate_left; clear_value x; intro _; rotate_left; subst x)
    | (extract_lets +onlyGivenNames x; refine .cut (x := x.2) ?_ ?_; rotate_left; clear_value x; intro _; rotate_left; subst x)
    | (extract_lets +onlyGivenNames x; refine .cut (x := x.2.2) ?_ ?_; rotate_left; clear_value x; intro _; rotate_left; subst x)
    | (extract_lets +onlyGivenNames x; clear_value x)
    | extract_lets +onlyGivenNames _
    | with_reducible apply Within.refl
    | with_reducible assumption
    | decide
    | with_reducible apply Within.step (Chip.atTime_within _ _)
    | with_reducible apply Within.step (Chip.windowExpiry_within _ _)
    | split

theorem execLockoutBitsCapture_within (t : Nat) (s : State) :
    OutcomeWithin 0 0x24 s (execLockoutBitsCapture t s) := by
  unfold execLockoutBitsCapture
  refine State.does_within fun _ => ?_
  repeat' first
    | (extract_lets +onlyGivenNames x; refine .cut (x := x) ?_ ?_; rotate_left; clear_value x; intro _; rotate_left; subst x)
    | (extract_lets +onlyGivenNames x; refine .cut (x := x.2) ?_ ?_; rotate_left; clear_value x; intro _; rotate_left; subst x)
    | (extract_lets +onlyGivenNames x; refine .cut (x := x.2.2) ?_ ?_; rotate_left; clear_value x; intro _; rotate_left; subst x)
    | (extract_lets +onlyGivenNames x; clear_value x)
    | extract_lets +onlyGivenNames _
    | with_reducible apply Within.refl
    | with_reducible assumption
    | decide
    | with_reducible apply Within.step (Chip.atTime_within _ _)
    | with_reducible apply Within.step (Chip.captureLockoutBits_within _)
    | split

theorem execAliveToggle_within (t : Nat) (b : Bool) (s : State) :
    OutcomeWithin 0 0x804 s (execAliveToggle t b s) := by
  unfold execAliveToggle
  refine State.does_within fun _ => ?_
  repeat' first
    | (extract_lets +onlyGivenNames x; refine .cut (x := x) ?_ ?_; rotate_left; clear_value x; intro _; rotate_left; subst x)
    | (extract_lets +onlyGivenNames x; refine .cut (x := x.2) ?_ ?_; rotate_left; clear_value x; intro _; rotate_left; subst x)
    | (extract_lets +onlyGivenNames x; refine .cut (x := x.2.2) ?_ ?_; rotate_left; clear_value x; intro _; rotate_left; subst x)
    | (extract_lets +onlyGivenNames x; clear_value x)
    | extract_lets +onlyGivenNames _
    | with_reducible apply Within.refl
    | with_reducible assumption
    | decide
    | with_reducible apply Within.step (Chip.aliveToggle_within _ _)
    | with_reducible apply Within.step (Chip.atTime_within _ _)
    | split

theorem execFcKick_within (t : Nat) (key : Byte) (s : State) :
    OutcomeWithin 0x28000000000000000000000000000000000000000000000000000000000000000000000000000000000000000000000000 0x804 s (execFcKick t key s) := by
  unfold execFcKick
  refine State.does_within fun _ => ?_
  repeat' first
    | (extract_lets +onlyGivenNames x; refine .cut (x := x) ?_ ?_; rotate_left; clear_value x; intro _; rotate_left; subst x)
    | (extract_lets +onlyGivenNames x; refine .cut (x := x.2) ?_ ?_; rotate_left; clear_value x; intro _; rotate_left; subst x)
    | (extract_lets +onlyGivenNames x; refine .cut (x := x.2.2) ?_ ?_; rotate_left; clear_value x; intro _; rotate_left; subst x)
    | (extract_lets +onlyGivenNames x; clear_value x)
    | extract_lets +onlyGivenNames _
    | with_reducible apply Within.refl
    | with_reducible assumption
    | decide
    | with_reducible apply Within.step (Chip.atTime_within _ _)
    | with_reducible apply Within.step (Chip.kick_within _ _)
    | split

theorem execKickTimeout_within (t : Nat) (s : State) :
    OutcomeWithin 0x8000000000000000000000000000000000000000000000000000000000000000000000000000000000000000000000000 4 s (execKickTimeout t s) := by
  unfold execKickTimeout
  refine State.does_within fun _ => ?_
  repeat' first
    | (extract_lets +onlyGivenNames x; refine .cut (x := x) ?_ ?_; rotate_left; clear_value x; intro _; rotate_left; subst x)
    | (extract_lets +onlyGivenNames x; refine .cut (x := x.2) ?_ ?_; rotate_left; clear_value x; intro _; rotate_left; subst x)
    | (extract_lets +onlyGivenNames x; refine .cut (x := x.2.2) ?_ ?_; rotate_left; clear_value x; intro _; rotate_left; subst x)
    | (extract_lets +onlyGivenNames x; clear_value x)
    | extract_lets +onlyGivenNames _
    | with_reducible apply Within.refl
    | with_reducible assumption
    | decide
    | with_reducible apply Within.step (Chip.atTime_within _ _)
    | with_reducible apply Within.step (Chip.kickTimeout_within _)
    | split

theorem execSprADemand_within (t : Nat) (ns : Nat) (s : State) :
    OutcomeWithin 0x2c00000000000000000000000000000000000000000000000000000cfc002380019000080000000000008000000000000000000000800004000000000000002000000020000000000000000030078000000 0x83b9a4 s (execSprADemand t ns s) := by
  unfold execSprADemand
  refine State.does_within fun _ => ?_
  repeat' first
    | (extract_lets +onlyGivenNames x; refine .cut (x := x) ?_ ?_; rotate_left; clear_value x; intro _; rotate_left; subst x)
    | (extract_lets +onlyGivenNames x; refine .cut (x := x.2) ?_ ?_; rotate_left; clear_value x; intro _; rotate_left; subst x)
    | (extract_lets +onlyGivenNames x; refine .cut (x := x.2.2) ?_ ?_; rotate_left; clear_value x; intro _; rotate_left; subst x)
    | (extract_lets +onlyGivenNames x; clear_value x)
    | extract_lets +onlyGivenNames _
    | with_reducible apply Within.refl
    | with_reducible assumption
    | decide
    | with_reducible apply Within.step (Chip.atTime_within _ _)
    | with_reducible apply Within.step (Chip.sprADemand_within _ _)
    | split

theorem execSprBDemand_within (t : Nat) (ns : Nat) (s : State) :
    OutcomeWithin 0x2c00000000000000000000000000000000000000000000000000000d7c002380019000080000000000008000000000000000000000800004000000000000002000000020000000000000000030078000000 0x83b9a4 s (execSprBDemand t ns s) := by
  unfold execSprBDemand
  refine State.does_within fun _ => ?_
  repeat' first
    | (extract_lets +onlyGivenNames x; refine .cut (x := x) ?_ ?_; rotate_left; clear_value x; intro _; rotate_left; subst x)
    | (extract_lets +onlyGivenNames x; refine .cut (x := x.2) ?_ ?_; rotate_left; clear_value x; intro _; rotate_left; subst x)
    | (extract_lets +onlyGivenNames x; refine .cut (x := x.2.2) ?_ ?_; rotate_left; clear_value x; intro _; rotate_left; subst x)
    | (extract_lets +onlyGivenNames x; clear_value x)
    | extract_lets +onlyGivenNames _
    | with_reducible apply Within.refl
    | with_reducible assumption
    | decide
    | with_reducible apply Within.step (Chip.atTime_within _ _)
    | with_reducible apply Within.step (Chip.sprBDemand_within _ _)
    | split

theorem execSprInputRelease_within (t : Nat) (b : Bool) (ns : Nat) (s : State) :
    OutcomeWithin 0x2c00000000000000000000000000000000000000000000000000000dfc002380019000080000000000008000000000000000000000800004000000000000002000000020000000000000000030078000000 0x83b9a4 s (execSprInputRelease t b ns s) := by
  unfold execSprInputRelease
  refine State.does_within fun _ => ?_
  repeat' first
    | (extract_lets +onlyGivenNames x; refine .cut (x := x) ?_ ?_; rotate_left; clear_value x; intro _; rotate_left; subst x)
    | (extract_lets +onlyGivenNames x; refine .cut (x := x.2) ?_ ?_; rotate_left; clear_value x; intro _; rotate_left; subst x)
    | (extract_lets +onlyGivenNames x; refine .cut (x := x.2.2) ?_ ?_; rotate_left; clear_value x; intro _; rotate_left; subst x)
    | (extract_lets +onlyGivenNames x; clear_value x)
    | extract_lets +onlyGivenNames _
    | with_reducible apply Within.refl
    | with_reducible assumption
    | decide
    | with_reducible apply Within.step (Chip.atTime_within _ _)
    | with_reducible apply Within.step (Chip.sprRelease_within _ _ _)
    | split

theorem execDiscrepancyTimeout_within (t : Nat) (s : State) :
    OutcomeWithin 0x44c004400000000000000000000000000000000000000000000000000000000000000000000000000000000000000000000000000000 0x9884 s (execDiscrepancyTimeout t s) := by
  unfold execDiscrepancyTimeout
  refine State.does_within fun _ => ?_
  repeat' first
    | (extract_lets +onlyGivenNames x; refine .cut (x := x) ?_ ?_; rotate_left; clear_value x; intro _; rotate_left; subst x)
    | (extract_lets +onlyGivenNames x; refine .cut (x := x.2) ?_ ?_; rotate_left; clear_value x; intro _; rotate_left; subst x)
    | (extract_lets +onlyGivenNames x; refine .cut (x := x.2.2) ?_ ?_; rotate_left; clear_value x; intro _; rotate_left; subst x)
    | (extract_lets +onlyGivenNames x; clear_value x)
    | extract_lets +onlyGivenNames _
    | with_reducible apply Within.refl
    | with_reducible assumption
    | decide
    | with_reducible apply Within.step (Chip.atTime_within _ _)
    | with_reducible apply Within.step (Chip.discrepancyTimeout_within _)
    | split

theorem execConsentLapse_within (t : Nat) (s : State) :
    OutcomeWithin 0x46c000000000000000000000000000000000000000000000000000000000000000000000000000000000000000000000000000000000 0x8084 s (execConsentLapse t s) := by
  unfold execConsentLapse
  refine State.does_within fun _ => ?_
  repeat' first
    | (extract_lets +onlyGivenNames x; refine .cut (x := x) ?_ ?_; rotate_left; clear_value x; intro _; rotate_left; subst x)
    | (extract_lets +onlyGivenNames x; refine .cut (x := x.2) ?_ ?_; rotate_left; clear_value x; intro _; rotate_left; subst x)
    | (extract_lets +onlyGivenNames x; refine .cut (x := x.2.2) ?_ ?_; rotate_left; clear_value x; intro _; rotate_left; subst x)
    | (extract_lets +onlyGivenNames x; clear_value x)
    | extract_lets +onlyGivenNames _
    | with_reducible apply Within.refl
    | with_reducible assumption
    | decide
    | with_reducible apply Within.step (Chip.atTime_within _ _)
    | with_reducible apply Within.step (Chip.consentLapse_within _)
    | split

theorem execSafeTelegramRx_within (t : Nat) (port : Fin 4) (bytes : List Byte) (s : State) :
    OutcomeWithin 0x3d00000000000000000000000000000000000000000000000000000000000000000000000000000000000000000000000000000000 0x1804 s (execSafeTelegramRx t port bytes s) := by
  unfold execSafeTelegramRx
  refine State.does_within fun _ => ?_
  repeat' first
    | (extract_lets +onlyGivenNames x; refine .cut (x := x) ?_ ?_; rotate_left; clear_value x; intro _; rotate_left; subst x)
    | (extract_lets +onlyGivenNames x; refine .cut (x := x.2) ?_ ?_; rotate_left; clear_value x; intro _; rotate_left; subst x)
    | (extract_lets +onlyGivenNames x; refine .cut (x := x.2.2) ?_ ?_; rotate_left; clear_value x; intro _; rotate_left; subst x)
    | (extract_lets +onlyGivenNames x; clear_value x)
    | extract_lets +onlyGivenNames _
    | with_reducible apply Within.refl
    | with_reducible assumption
    | decide
    | with_reducible apply Within.step (Chip.atTime_within _ _)
    | with_reducible apply Within.step (Chip.safeTelegram_within _ _ _)
    | split

theorem execPermitCommand_within (t : Nat) (s : State) :
    OutcomeWithin 0x200800000000000000000000000000000000000000000000000000000000000000000000000000000000000000000000000000000 0x1004 s (execPermitCommand t s) := by
  unfold execPermitCommand
  refine State.does_within fun _ => ?_
  repeat' first
    | (extract_lets +onlyGivenNames x; refine .cut (x := x) ?_ ?_; rotate_left; clear_value x; intro _; rotate_left; subst x)
    | (extract_lets +onlyGivenNames x; refine .cut (x := x.2) ?_ ?_; rotate_left; clear_value x; intro _; rotate_left; subst x)
    | (extract_lets +onlyGivenNames x; refine .cut (x := x.2.2) ?_ ?_; rotate_left; clear_value x; intro _; rotate_left; subst x)
    | (extract_lets +onlyGivenNames x; clear_value x)
    | extract_lets +onlyGivenNames _
    | with_reducible apply Within.refl
    | with_reducible assumption
    | decide
    | with_reducible apply Within.step (Chip.atTime_within _ _)
    | with_reducible apply Within.step (Chip.permitCommand_within _)
    | split

theorem execRemoveCommand_within (t : Nat) (s : State) :
    OutcomeWithin 0x2c00000000000000000000000000000000000000000000000000000c7c202800019000080000000000008000000000000000000000800004000000000000002000000020000000000000000030078000000 0x83b9a4 s (execRemoveCommand t s) := by
  unfold execRemoveCommand
  refine State.does_within fun _ => ?_
  repeat' first
    | (extract_lets +onlyGivenNames x; refine .cut (x := x) ?_ ?_; rotate_left; clear_value x; intro _; rotate_left; subst x)
    | (extract_lets +onlyGivenNames x; refine .cut (x := x.2) ?_ ?_; rotate_left; clear_value x; intro _; rotate_left; subst x)
    | (extract_lets +onlyGivenNames x; refine .cut (x := x.2.2) ?_ ?_; rotate_left; clear_value x; intro _; rotate_left; subst x)
    | (extract_lets +onlyGivenNames x; clear_value x)
    | extract_lets +onlyGivenNames _
    | with_reducible apply Within.refl
    | with_reducible assumption
    | decide
    | with_reducible apply Within.step (Chip.atTime_within _ _)
    | with_reducible apply Within.step (Chip.removeCommand_within _)
    | split

theorem execTelegramCopyTimeout_within (t : Nat) (seq : Nat) (s : State) :
    OutcomeWithin 0x400000000000000000000000000000000000000000000000000000000000000000000000000000000000000000000000000000000 0x1804 s (execTelegramCopyTimeout t seq s) := by
  unfold execTelegramCopyTimeout
  refine State.does_within fun _ => ?_
  repeat' first
    | (extract_lets +onlyGivenNames x; refine .cut (x := x) ?_ ?_; rotate_left; clear_value x; intro _; rotate_left; subst x)
    | (extract_lets +onlyGivenNames x; refine .cut (x := x.2) ?_ ?_; rotate_left; clear_value x; intro _; rotate_left; subst x)
    | (extract_lets +onlyGivenNames x; refine .cut (x := x.2.2) ?_ ?_; rotate_left; clear_value x; intro _; rotate_left; subst x)
    | (extract_lets +onlyGivenNames x; clear_value x)
    | extract_lets +onlyGivenNames _
    | with_reducible apply Within.refl
    | with_reducible assumption
    | decide
    | with_reducible apply Within.step (Chip.atTime_within _ _)
    | with_reducible apply Within.step (Chip.copyTimeout_within _ _)
    | split

theorem execTelegramWatchExpiry_within (t : Nat) (s : State) :
    OutcomeWithin 0x400000000000000000000000000000000000000000000000000000000000000000000000000000000000000000000000000000000 0x1804 s (execTelegramWatchExpiry t s) := by
  unfold execTelegramWatchExpiry
  refine State.does_within fun _ => ?_
  repeat' first
    | (extract_lets +onlyGivenNames x; refine .cut (x := x) ?_ ?_; rotate_left; clear_value x; intro _; rotate_left; subst x)
    | (extract_lets +onlyGivenNames x; refine .cut (x := x.2) ?_ ?_; rotate_left; clear_value x; intro _; rotate_left; subst x)
    | (extract_lets +onlyGivenNames x; refine .cut (x := x.2.2) ?_ ?_; rotate_left; clear_value x; intro _; rotate_left; subst x)
    | (extract_lets +onlyGivenNames x; clear_value x)
    | extract_lets +onlyGivenNames _
    | with_reducible apply Within.refl
    | with_reducible assumption
    | decide
    | with_reducible apply Within.step (Chip.atTime_within _ _)
    | with_reducible apply Within.step (Chip.watchExpiry_within _)
    | split

theorem execStatusTelegramSend_within (t : Nat) (s : State) :
    OutcomeWithin 0 0x81004 s (execStatusTelegramSend t s) := by
  unfold execStatusTelegramSend
  refine State.does_within fun _ => ?_
  repeat' first
    | (extract_lets +onlyGivenNames x; refine .cut (x := x) ?_ ?_; rotate_left; clear_value x; intro _; rotate_left; subst x)
    | (extract_lets +onlyGivenNames x; refine .cut (x := x.2) ?_ ?_; rotate_left; clear_value x; intro _; rotate_left; subst x)
    | (extract_lets +onlyGivenNames x; refine .cut (x := x.2.2) ?_ ?_; rotate_left; clear_value x; intro _; rotate_left; subst x)
    | (extract_lets +onlyGivenNames x; clear_value x)
    | extract_lets +onlyGivenNames _
    | with_reducible apply Within.refl
    | with_reducible assumption
    | decide
    | with_reducible apply Within.step (Chip.atTime_within _ _)
    | with_reducible apply Within.step (Chip.sendStatus_within _)
    | split

end Sys2Proof.Machine
end

