-- ==== Sys2Proof/Laws/FrameHalyardCommands.lean ====
section
/-! SUPPORT. The frames of the operations of Machine/HalyardCommands.lean: the fields and the parts of the state each may change. -/

set_option linter.tactic.unusedName false

namespace Sys2Proof.Machine

theorem execHalyardHeaderRx_within (t : Nat) (lane : Fin 2) (header : Word) (s : State) :
    OutcomeWithin 0x2c000000000000000000000000000000000000000000000001f0800c7c000000019000080000000000008000000000000000000000800004000000000000002000002022000000000000000030078000000 0x83b9e4 s (execHalyardHeaderRx t lane header s) := by
  unfold execHalyardHeaderRx
  refine State.does_within fun _ => ?_
  repeat' first
    | (extract_lets +onlyGivenNames x; refine .cut (x := x) ?_ ?_; rotate_left; clear_value x; intro _; rotate_left; subst x)
    | (extract_lets +onlyGivenNames x; refine .cut (x := x.2) ?_ ?_; rotate_left; clear_value x; intro _; rotate_left; subst x)
    | (extract_lets +onlyGivenNames x; refine .cut (x := x.2.2) ?_ ?_; rotate_left; clear_value x; intro _; rotate_left; subst x)
    | (extract_lets +onlyGivenNames x; clear_value x)
    | extract_lets +onlyGivenNames _
    | with_reducible apply Within.refl
    | with_reducible assumption
    | decide
    | with_reducible apply Within.step (Chip.atTime_within _ _)
    | with_reducible apply Within.step (Chip.halyardHeader_within _ _ _)
    | split

theorem execPartnerSilence_within (t : Nat) (s : State) :
    OutcomeWithin 0x800000000000000000000000000000000000000000000000000000000000000000000000000000000000000000000000000000000000000 0x20084 s (execPartnerSilence t s) := by
  unfold execPartnerSilence
  refine State.does_within fun _ => ?_
  repeat' first
    | (extract_lets +onlyGivenNames x; refine .cut (x := x) ?_ ?_; rotate_left; clear_value x; intro _; rotate_left; subst x)
    | (extract_lets +onlyGivenNames x; refine .cut (x := x.2) ?_ ?_; rotate_left; clear_value x; intro _; rotate_left; subst x)
    | (extract_lets +onlyGivenNames x; refine .cut (x := x.2.2) ?_ ?_; rotate_left; clear_value x; intro _; rotate_left; subst x)
    | (extract_lets +onlyGivenNames x; clear_value x)
    | extract_lets +onlyGivenNames _
    | with_reducible apply Within.refl
    | with_reducible assumption
    | decide
    | with_reducible apply Within.step (Chip.atTime_within _ _)
    | with_reducible apply Within.step (Chip.partnerSilence_within _)
    | split

theorem execSilenceTakeoverCheck_within (t : Nat) (s : State) :
    OutcomeWithin 0 0x20004 s (execSilenceTakeoverCheck t s) := by
  unfold execSilenceTakeoverCheck
  refine State.does_within fun _ => ?_
  repeat' first
    | (extract_lets +onlyGivenNames x; refine .cut (x := x) ?_ ?_; rotate_left; clear_value x; intro _; rotate_left; subst x)
    | (extract_lets +onlyGivenNames x; refine .cut (x := x.2) ?_ ?_; rotate_left; clear_value x; intro _; rotate_left; subst x)
    | (extract_lets +onlyGivenNames x; refine .cut (x := x.2.2) ?_ ?_; rotate_left; clear_value x; intro _; rotate_left; subst x)
    | (extract_lets +onlyGivenNames x; clear_value x)
    | extract_lets +onlyGivenNames _
    | with_reducible apply Within.refl
    | with_reducible assumption
    | decide
    | with_reducible apply Within.step (Chip.atTime_within _ _)
    | with_reducible apply Within.step (Chip.silenceTakeover_within _)
    | split

theorem execSilenceYieldCheck_within (t : Nat) (s : State) :
    OutcomeWithin 0 0x20004 s (execSilenceYieldCheck t s) := by
  unfold execSilenceYieldCheck
  refine State.does_within fun _ => ?_
  repeat' first
    | (extract_lets +onlyGivenNames x; refine .cut (x := x) ?_ ?_; rotate_left; clear_value x; intro _; rotate_left; subst x)
    | (extract_lets +onlyGivenNames x; refine .cut (x := x.2) ?_ ?_; rotate_left; clear_value x; intro _; rotate_left; subst x)
    | (extract_lets +onlyGivenNames x; refine .cut (x := x.2.2) ?_ ?_; rotate_left; clear_value x; intro _; rotate_left; subst x)
    | (extract_lets +onlyGivenNames x; clear_value x)
    | extract_lets +onlyGivenNames _
    | with_reducible apply Within.refl
    | with_reducible assumption
    | decide
    | with_reducible apply Within.step (Chip.atTime_within _ _)
    | with_reducible apply Within.step (Chip.silenceYield_within _)
    | split

theorem execHalMarkRx_within (t : Nat) (arrival : Nat) (countdown : Nat) (index : Fin 65536) (handover : Nat) (s : State) :
    OutcomeWithin 0x16004000000000000000000000000000000000000000000000000000000000000000000000000000000000000000000000000000000000000000 0x20804 s (execHalMarkRx t arrival countdown index handover s) := by
  unfold execHalMarkRx
  refine State.does_within fun _ => ?_
  repeat' first
    | (extract_lets +onlyGivenNames x; refine .cut (x := x) ?_ ?_; rotate_left; clear_value x; intro _; rotate_left; subst x)
    | (extract_lets +onlyGivenNames x; refine .cut (x := x.2) ?_ ?_; rotate_left; clear_value x; intro _; rotate_left; subst x)
    | (extract_lets +onlyGivenNames x; refine .cut (x := x.2.2) ?_ ?_; rotate_left; clear_value x; intro _; rotate_left; subst x)
    | (extract_lets +onlyGivenNames x; clear_value x)
    | extract_lets +onlyGivenNames _
    | with_reducible apply Within.refl
    | with_reducible assumption
    | decide
    | with_reducible apply Within.step (Chip.atTime_within _ _)
    | with_reducible apply Within.step (Chip.markReceived_within _ _ _ _ _)
    | split

theorem execCopyFrameRx_within (t : Nat) (index : Nat) (part : Nat) (share : Nat) (content : Machine.CopyPart) (crcOk : Bool) (s : State) :
    OutcomeWithin 0 0x20004 s (execCopyFrameRx t index part share content crcOk s) := by
  unfold execCopyFrameRx
  refine State.does_within fun _ => ?_
  repeat' first
    | (extract_lets +onlyGivenNames x; refine .cut (x := x) ?_ ?_; rotate_left; clear_value x; intro _; rotate_left; subst x)
    | (extract_lets +onlyGivenNames x; refine .cut (x := x.2) ?_ ?_; rotate_left; clear_value x; intro _; rotate_left; subst x)
    | (extract_lets +onlyGivenNames x; refine .cut (x := x.2.2) ?_ ?_; rotate_left; clear_value x; intro _; rotate_left; subst x)
    | (extract_lets +onlyGivenNames x; clear_value x)
    | extract_lets +onlyGivenNames _
    | with_reducible apply Within.refl
    | with_reducible assumption
    | decide
    | with_reducible apply Within.step (Chip.atTime_within _ _)
    | with_reducible apply Within.step (Chip.copyReceived_within _ _ _ _ _ _)
    | split

theorem execIdNonceRx_within (t : Nat) (lane : Fin 2) (frame : List Byte) (crc : BitVec 32) (s : State) :
    OutcomeWithin 0x4501000000000000000000000000000000000000000000000000000000000000000000000000000000000000000000000000000000000000000000000000000000000000 0x22004 s (execIdNonceRx t lane frame crc s) := by
  unfold execIdNonceRx
  refine State.does_within fun _ => ?_
  repeat' first
    | (extract_lets +onlyGivenNames x; refine .cut (x := x) ?_ ?_; rotate_left; clear_value x; intro _; rotate_left; subst x)
    | (extract_lets +onlyGivenNames x; refine .cut (x := x.2) ?_ ?_; rotate_left; clear_value x; intro _; rotate_left; subst x)
    | (extract_lets +onlyGivenNames x; refine .cut (x := x.2.2) ?_ ?_; rotate_left; clear_value x; intro _; rotate_left; subst x)
    | (extract_lets +onlyGivenNames x; clear_value x)
    | extract_lets +onlyGivenNames _
    | with_reducible apply Within.refl
    | with_reducible assumption
    | decide
    | with_reducible apply Within.step (Chip.atTime_within _ _)
    | with_reducible apply Within.step (Chip.nonceReceived_within _ _ _ _)
    | split

theorem execIdProofRx_within (t : Nat) (lane : Fin 2) (member : Fin 2) (rank : Fin 2) (key : List Byte) (proof : List Byte) (crc : BitVec 32) (s : State) :
    OutcomeWithin 0x4501000000000000000000000000000000000000000000000000000000000000000000000000000000000000000000000000000000000000000000000000000000000000 0x22004 s (execIdProofRx t lane member rank key proof crc s) := by
  unfold execIdProofRx
  refine State.does_within fun _ => ?_
  repeat' first
    | (extract_lets +onlyGivenNames x; refine .cut (x := x) ?_ ?_; rotate_left; clear_value x; intro _; rotate_left; subst x)
    | (extract_lets +onlyGivenNames x; refine .cut (x := x.2) ?_ ?_; rotate_left; clear_value x; intro _; rotate_left; subst x)
    | (extract_lets +onlyGivenNames x; refine .cut (x := x.2.2) ?_ ?_; rotate_left; clear_value x; intro _; rotate_left; subst x)
    | (extract_lets +onlyGivenNames x; clear_value x)
    | extract_lets +onlyGivenNames _
    | with_reducible apply Within.refl
    | with_reducible assumption
    | decide
    | with_reducible apply Within.step (Chip.atTime_within _ _)
    | with_reducible apply Within.step (Chip.proofReceived_within _ _ _ _ _ _ _)
    | split

theorem execIdentityCheckComplete_within (t : Nat) (s : State) :
    OutcomeWithin 0x4501000000000000000000803000000000000000000000000000000000000000000000000000000000000000000000000000000000021000000000000002380000000000 0x10228a4 s (execIdentityCheckComplete t s) := by
  unfold execIdentityCheckComplete
  refine State.does_within fun _ => ?_
  repeat' first
    | (extract_lets +onlyGivenNames x; refine .cut (x := x) ?_ ?_; rotate_left; clear_value x; intro _; rotate_left; subst x)
    | (extract_lets +onlyGivenNames x; refine .cut (x := x.2) ?_ ?_; rotate_left; clear_value x; intro _; rotate_left; subst x)
    | (extract_lets +onlyGivenNames x; refine .cut (x := x.2.2) ?_ ?_; rotate_left; clear_value x; intro _; rotate_left; subst x)
    | (extract_lets +onlyGivenNames x; clear_value x)
    | extract_lets +onlyGivenNames _
    | with_reducible apply Within.refl
    | with_reducible assumption
    | decide
    | with_reducible apply Within.step (Chip.atTime_within _ _)
    | with_reducible apply Within.step (Chip.identityChecked_within _)
    | split

theorem execIdentityRetry_within (t : Nat) (s : State) :
    OutcomeWithin 0 0x1020084 s (execIdentityRetry t s) := by
  unfold execIdentityRetry
  refine State.does_within fun _ => ?_
  repeat' first
    | (extract_lets +onlyGivenNames x; refine .cut (x := x) ?_ ?_; rotate_left; clear_value x; intro _; rotate_left; subst x)
    | (extract_lets +onlyGivenNames x; refine .cut (x := x.2) ?_ ?_; rotate_left; clear_value x; intro _; rotate_left; subst x)
    | (extract_lets +onlyGivenNames x; refine .cut (x := x.2.2) ?_ ?_; rotate_left; clear_value x; intro _; rotate_left; subst x)
    | (extract_lets +onlyGivenNames x; clear_value x)
    | extract_lets +onlyGivenNames _
    | with_reducible apply Within.refl
    | with_reducible assumption
    | decide
    | with_reducible apply Within.step (Chip.atTime_within _ _)
    | with_reducible apply Within.step (Chip.identityRetry_within _)
    | split

theorem execHandoverRequest_within (t : Nat) (s : State) :
    OutcomeWithin 0x200000000000000000000000000000000000000000000000000000000000000000000000000000000000000000000000000000000000000000 0x20004 s (execHandoverRequest t s) := by
  unfold execHandoverRequest
  refine State.does_within fun _ => ?_
  repeat' first
    | (extract_lets +onlyGivenNames x; refine .cut (x := x) ?_ ?_; rotate_left; clear_value x; intro _; rotate_left; subst x)
    | (extract_lets +onlyGivenNames x; refine .cut (x := x.2) ?_ ?_; rotate_left; clear_value x; intro _; rotate_left; subst x)
    | (extract_lets +onlyGivenNames x; refine .cut (x := x.2.2) ?_ ?_; rotate_left; clear_value x; intro _; rotate_left; subst x)
    | (extract_lets +onlyGivenNames x; clear_value x)
    | extract_lets +onlyGivenNames _
    | with_reducible apply Within.refl
    | with_reducible assumption
    | decide
    | with_reducible apply Within.step (Chip.atTime_within _ _)
    | with_reducible apply Within.step (Chip.handoverRequest_within _)
    | split

theorem execHandoverAct_within (t : Nat) (s : State) :
    OutcomeWithin 0x2c0000000000000000000000000000000000000000000018860000046c000000000000080000000000008000000000000000000009800004000000000000002000000020000000000000000000060038008 0x18aa9a5 s (execHandoverAct t s) := by
  unfold execHandoverAct
  refine State.does_within fun _ => ?_
  repeat' first
    | (extract_lets +onlyGivenNames x; refine .cut (x := x) ?_ ?_; rotate_left; clear_value x; intro _; rotate_left; subst x)
    | (extract_lets +onlyGivenNames x; refine .cut (x := x.2) ?_ ?_; rotate_left; clear_value x; intro _; rotate_left; subst x)
    | (extract_lets +onlyGivenNames x; refine .cut (x := x.2.2) ?_ ?_; rotate_left; clear_value x; intro _; rotate_left; subst x)
    | (extract_lets +onlyGivenNames x; clear_value x)
    | extract_lets +onlyGivenNames _
    | with_reducible apply Within.refl
    | with_reducible assumption
    | decide
    | with_reducible apply Within.step (Chip.atTime_within _ _)
    | with_reducible apply Within.step (Chip.handoverAct_within _)
    | with_reducible apply Within.step (Chip.publishFollows_within _)
    | split

theorem execHandoverRetry_within (t : Nat) (s : State) :
    OutcomeWithin 0x200000000000000000000000000000000000000000000000000000000000000000000000000000000000000000000000000000000000000000 0x20004 s (execHandoverRetry t s) := by
  unfold execHandoverRetry
  refine State.does_within fun _ => ?_
  repeat' first
    | (extract_lets +onlyGivenNames x; refine .cut (x := x) ?_ ?_; rotate_left; clear_value x; intro _; rotate_left; subst x)
    | (extract_lets +onlyGivenNames x; refine .cut (x := x.2) ?_ ?_; rotate_left; clear_value x; intro _; rotate_left; subst x)
    | (extract_lets +onlyGivenNames x; refine .cut (x := x.2.2) ?_ ?_; rotate_left; clear_value x; intro _; rotate_left; subst x)
    | (extract_lets +onlyGivenNames x; clear_value x)
    | extract_lets +onlyGivenNames _
    | with_reducible apply Within.refl
    | with_reducible assumption
    | decide
    | with_reducible apply Within.step (Chip.atTime_within _ _)
    | with_reducible apply Within.step (Chip.handoverRetry_within _)
    | split

end Sys2Proof.Machine
end

