-- ==== Sys2Proof/Laws/FrameImageCommands.lean ====
section
/-! SUPPORT. The frames of the operations of Machine/ImageCommands.lean: the fields and the parts of the state each may change. -/

set_option linter.tactic.unusedName false

namespace Sys2Proof.Machine

theorem execImageSelection_within (t : Nat) (levels : List Int) (edges : Bool) (s : State) :
    OutcomeWithin 0x2c00201ff48f08000000fa5fffe7dff000003f003fc01f8008007ff46c0f805f1193ff080ffe07e097e2fff0fd5fffe00004c1c71ffdf8241fffff9e607fff200010016fff01e0f17e3ff023b0278078017 0x1bfeffd s (execImageSelection t levels edges s) := by
  unfold execImageSelection
  refine State.does_within fun _ => ?_
  repeat' first
    | (extract_lets +onlyGivenNames x; refine .cut (x := x) ?_ ?_; rotate_left; clear_value x; intro _; rotate_left; subst x)
    | (extract_lets +onlyGivenNames x; refine .cut (x := x.2) ?_ ?_; rotate_left; clear_value x; intro _; rotate_left; subst x)
    | (extract_lets +onlyGivenNames x; refine .cut (x := x.2.2) ?_ ?_; rotate_left; clear_value x; intro _; rotate_left; subst x)
    | (extract_lets +onlyGivenNames x; clear_value x)
    | extract_lets +onlyGivenNames _
    | with_reducible apply Within.refl
    | with_reducible assumption
    | decide
    | with_reducible apply Within.step (Chip.atTime_within _ _)
    | with_reducible apply Within.step (Chip.imageSelection_within _ _ _)
    | split

theorem execBackgroundImageCheck_within (t : Nat) (s : State) :
    OutcomeWithin 0x48f0800000000000084501000000000000000000000000000000000000000000000000000000000000000000000000000000000000000000000000000000000000000000007400000000000000 0x202804 s (execBackgroundImageCheck t s) := by
  unfold execBackgroundImageCheck
  refine State.does_within fun _ => ?_
  repeat' first
    | (extract_lets +onlyGivenNames x; refine .cut (x := x) ?_ ?_; rotate_left; clear_value x; intro _; rotate_left; subst x)
    | (extract_lets +onlyGivenNames x; refine .cut (x := x.2) ?_ ?_; rotate_left; clear_value x; intro _; rotate_left; subst x)
    | (extract_lets +onlyGivenNames x; refine .cut (x := x.2.2) ?_ ?_; rotate_left; clear_value x; intro _; rotate_left; subst x)
    | (extract_lets +onlyGivenNames x; clear_value x)
    | extract_lets +onlyGivenNames _
    | with_reducible apply Within.refl
    | with_reducible assumption
    | decide
    | with_reducible apply Within.step (Chip.atTime_within _ _)
    | with_reducible apply Within.step (Chip.backgroundCheck_within _)
    | split

theorem execSetpointWrite_within (t : Nat) (index : Fin 256) (value : Word) (s : State) :
    OutcomeWithin 0x4000000000000000000000000000000000000000000000000000000000000000000000000000000000000000000000000003c0000000000000000 0x80c s (execSetpointWrite t index value s) := by
  unfold execSetpointWrite
  refine State.does_within fun _ => ?_
  repeat' first
    | (extract_lets +onlyGivenNames x; refine .cut (x := x) ?_ ?_; rotate_left; clear_value x; intro _; rotate_left; subst x)
    | (extract_lets +onlyGivenNames x; refine .cut (x := x.2) ?_ ?_; rotate_left; clear_value x; intro _; rotate_left; subst x)
    | (extract_lets +onlyGivenNames x; refine .cut (x := x.2.2) ?_ ?_; rotate_left; clear_value x; intro _; rotate_left; subst x)
    | (extract_lets +onlyGivenNames x; clear_value x)
    | extract_lets +onlyGivenNames _
    | with_reducible apply Within.refl
    | with_reducible assumption
    | decide
    | with_reducible apply Within.step (Chip.atTime_within _ _)
    | with_reducible apply Within.step (Chip.writeLive_within _ _ _)
    | split

theorem execLoopControlWrite_within (t : Nat) (index : Fin 256) (value : Word) (s : State) :
    OutcomeWithin 0x4000000000000000000000000000000000000000000000000000000000000000000000000000000000000000000000000003c0000000000000000 0x80c s (execLoopControlWrite t index value s) := by
  unfold execLoopControlWrite
  refine State.does_within fun _ => ?_
  repeat' first
    | (extract_lets +onlyGivenNames x; refine .cut (x := x) ?_ ?_; rotate_left; clear_value x; intro _; rotate_left; subst x)
    | (extract_lets +onlyGivenNames x; refine .cut (x := x.2) ?_ ?_; rotate_left; clear_value x; intro _; rotate_left; subst x)
    | (extract_lets +onlyGivenNames x; refine .cut (x := x.2.2) ?_ ?_; rotate_left; clear_value x; intro _; rotate_left; subst x)
    | (extract_lets +onlyGivenNames x; clear_value x)
    | extract_lets +onlyGivenNames _
    | with_reducible apply Within.refl
    | with_reducible assumption
    | decide
    | with_reducible apply Within.step (Chip.atTime_within _ _)
    | with_reducible apply Within.step (Chip.writeLive_within _ _ _)
    | split

theorem execCoefficientWrite_within (t : Nat) (index : Fin 256) (value : Word) (s : State) :
    OutcomeWithin 0x4000000000000000000000000000000000000000000000000000000000000000000000000000000000000000000000000003c0000000000000000 0x80c s (execCoefficientWrite t index value s) := by
  unfold execCoefficientWrite
  refine State.does_within fun _ => ?_
  repeat' first
    | (extract_lets +onlyGivenNames x; refine .cut (x := x) ?_ ?_; rotate_left; clear_value x; intro _; rotate_left; subst x)
    | (extract_lets +onlyGivenNames x; refine .cut (x := x.2) ?_ ?_; rotate_left; clear_value x; intro _; rotate_left; subst x)
    | (extract_lets +onlyGivenNames x; refine .cut (x := x.2.2) ?_ ?_; rotate_left; clear_value x; intro _; rotate_left; subst x)
    | (extract_lets +onlyGivenNames x; clear_value x)
    | extract_lets +onlyGivenNames _
    | with_reducible apply Within.refl
    | with_reducible assumption
    | decide
    | with_reducible apply Within.step (Chip.atTime_within _ _)
    | with_reducible apply Within.step (Chip.writeLive_within _ _ _)
    | split

theorem execPllLock_within (t : Nat) (stored : Bool) (table : Bool) (full : Bool) (band : Nat) (temperature : Option Int) (s : State) :
    OutcomeWithin 0x80000044c00000000000000000000009000000000000000000000000001e02000000000000000000000016f00001c00f400002380200000010 0x118c2e4 s (execPllLock t stored table full band temperature s) := by
  unfold execPllLock
  refine State.does_within fun _ => ?_
  repeat' first
    | (extract_lets +onlyGivenNames x; refine .cut (x := x) ?_ ?_; rotate_left; clear_value x; intro _; rotate_left; subst x)
    | (extract_lets +onlyGivenNames x; refine .cut (x := x.2) ?_ ?_; rotate_left; clear_value x; intro _; rotate_left; subst x)
    | (extract_lets +onlyGivenNames x; refine .cut (x := x.2.2) ?_ ?_; rotate_left; clear_value x; intro _; rotate_left; subst x)
    | (extract_lets +onlyGivenNames x; clear_value x)
    | extract_lets +onlyGivenNames _
    | with_reducible apply Within.refl
    | with_reducible assumption
    | decide
    | with_reducible apply Within.step (Chip.atTime_within _ _)
    | with_reducible apply Within.step (Chip.pllLock_within _ _ _ _)
    | split

theorem execRelockRetry_within (t : Nat) (s : State) :
    OutcomeWithin 0 0x44 s (execRelockRetry t s) := by
  unfold execRelockRetry
  refine State.does_within fun _ => ?_
  repeat' first
    | (extract_lets +onlyGivenNames x; refine .cut (x := x) ?_ ?_; rotate_left; clear_value x; intro _; rotate_left; subst x)
    | (extract_lets +onlyGivenNames x; refine .cut (x := x.2) ?_ ?_; rotate_left; clear_value x; intro _; rotate_left; subst x)
    | (extract_lets +onlyGivenNames x; refine .cut (x := x.2.2) ?_ ?_; rotate_left; clear_value x; intro _; rotate_left; subst x)
    | (extract_lets +onlyGivenNames x; clear_value x)
    | extract_lets +onlyGivenNames _
    | with_reducible apply Within.refl
    | with_reducible assumption
    | decide
    | with_reducible apply Within.step (Chip.atTime_within _ _)
    | with_reducible apply Within.step (Chip.relockRetry_within _)
    | split

theorem execBandTableUpdate_within (t : Nat) (bands : List Nat) (s : State) :
    OutcomeWithin 0x3000000000000000000000 0x44 s (execBandTableUpdate t bands s) := by
  unfold execBandTableUpdate
  refine State.does_within fun _ => ?_
  repeat' first
    | (extract_lets +onlyGivenNames x; refine .cut (x := x) ?_ ?_; rotate_left; clear_value x; intro _; rotate_left; subst x)
    | (extract_lets +onlyGivenNames x; refine .cut (x := x.2) ?_ ?_; rotate_left; clear_value x; intro _; rotate_left; subst x)
    | (extract_lets +onlyGivenNames x; refine .cut (x := x.2.2) ?_ ?_; rotate_left; clear_value x; intro _; rotate_left; subst x)
    | (extract_lets +onlyGivenNames x; clear_value x)
    | extract_lets +onlyGivenNames _
    | with_reducible apply Within.refl
    | with_reducible assumption
    | decide
    | with_reducible apply Within.step (Chip.atTime_within _ _)
    | with_reducible apply Within.step (Chip.bandTable_within _ _)
    | split

theorem execPlanHopRequest_within (t : Nat) (plan : Fin 8) (edges : Bool) (s : State) :
    OutcomeWithin 0x80000044c00000000000000000000009000000080000000000000000001e00000000000000000000000016f000000017c00002380200000010 0x18cae4 s (execPlanHopRequest t plan edges s) := by
  unfold execPlanHopRequest
  refine State.does_within fun _ => ?_
  repeat' first
    | (extract_lets +onlyGivenNames x; refine .cut (x := x) ?_ ?_; rotate_left; clear_value x; intro _; rotate_left; subst x)
    | (extract_lets +onlyGivenNames x; refine .cut (x := x.2) ?_ ?_; rotate_left; clear_value x; intro _; rotate_left; subst x)
    | (extract_lets +onlyGivenNames x; refine .cut (x := x.2.2) ?_ ?_; rotate_left; clear_value x; intro _; rotate_left; subst x)
    | (extract_lets +onlyGivenNames x; clear_value x)
    | extract_lets +onlyGivenNames _
    | with_reducible apply Within.refl
    | with_reducible assumption
    | decide
    | with_reducible apply Within.step (Chip.atTime_within _ _)
    | with_reducible apply Within.step (Chip.hopRequest_within _ _ _)
    | split

theorem execLossOfReference_within (t : Nat) (s : State) :
    OutcomeWithin 0x2c0000000000000000000000000000000000000000000000000000046c000000019000080000000000008000000000000000000000800004000000000000002000000020000000041c00000030078000000 0x83a9e4 s (execLossOfReference t s) := by
  unfold execLossOfReference
  refine State.does_within fun _ => ?_
  repeat' first
    | (extract_lets +onlyGivenNames x; refine .cut (x := x) ?_ ?_; rotate_left; clear_value x; intro _; rotate_left; subst x)
    | (extract_lets +onlyGivenNames x; refine .cut (x := x.2) ?_ ?_; rotate_left; clear_value x; intro _; rotate_left; subst x)
    | (extract_lets +onlyGivenNames x; refine .cut (x := x.2.2) ?_ ?_; rotate_left; clear_value x; intro _; rotate_left; subst x)
    | (extract_lets +onlyGivenNames x; clear_value x)
    | extract_lets +onlyGivenNames _
    | with_reducible apply Within.refl
    | with_reducible assumption
    | decide
    | with_reducible apply Within.step (Chip.atTime_within _ _)
    | with_reducible apply Within.step (Chip.referenceLost_within _)
    | split

theorem execLossOfLock_within (t : Nat) (s : State) :
    OutcomeWithin 0x2c0000000000000000000000000000000000000000000000080000046c00000001900008000000009000800080000000000000000081e00400000000000000200000016f0000000234000023b0278000010 0x9bebe4 s (execLossOfLock t s) := by
  unfold execLossOfLock
  refine State.does_within fun _ => ?_
  repeat' first
    | (extract_lets +onlyGivenNames x; refine .cut (x := x) ?_ ?_; rotate_left; clear_value x; intro _; rotate_left; subst x)
    | (extract_lets +onlyGivenNames x; refine .cut (x := x.2) ?_ ?_; rotate_left; clear_value x; intro _; rotate_left; subst x)
    | (extract_lets +onlyGivenNames x; refine .cut (x := x.2.2) ?_ ?_; rotate_left; clear_value x; intro _; rotate_left; subst x)
    | (extract_lets +onlyGivenNames x; clear_value x)
    | extract_lets +onlyGivenNames _
    | with_reducible apply Within.refl
    | with_reducible assumption
    | decide
    | with_reducible apply Within.step (Chip.atTime_within _ _)
    | with_reducible apply Within.step (Chip.lockLost_within _)
    | split

theorem execHoldoverExpiry_within (t : Nat) (s : State) :
    OutcomeWithin 0x80000044c00000000000000000000009000000080000000000000000001e00000000000000000000000016f000000003400002380200000010 0x18c2e4 s (execHoldoverExpiry t s) := by
  unfold execHoldoverExpiry
  refine State.does_within fun _ => ?_
  repeat' first
    | (extract_lets +onlyGivenNames x; refine .cut (x := x) ?_ ?_; rotate_left; clear_value x; intro _; rotate_left; subst x)
    | (extract_lets +onlyGivenNames x; refine .cut (x := x.2) ?_ ?_; rotate_left; clear_value x; intro _; rotate_left; subst x)
    | (extract_lets +onlyGivenNames x; refine .cut (x := x.2.2) ?_ ?_; rotate_left; clear_value x; intro _; rotate_left; subst x)
    | (extract_lets +onlyGivenNames x; clear_value x)
    | extract_lets +onlyGivenNames _
    | with_reducible apply Within.refl
    | with_reducible assumption
    | decide
    | with_reducible apply Within.step (Chip.atTime_within _ _)
    | with_reducible apply Within.step (Chip.holdoverExpiry_within _)
    | split

theorem execReferenceReturn_within (t : Nat) (s : State) :
    OutcomeWithin 0x800000000000000000 0x44 s (execReferenceReturn t s) := by
  unfold execReferenceReturn
  refine State.does_within fun _ => ?_
  repeat' first
    | (extract_lets +onlyGivenNames x; refine .cut (x := x) ?_ ?_; rotate_left; clear_value x; intro _; rotate_left; subst x)
    | (extract_lets +onlyGivenNames x; refine .cut (x := x.2) ?_ ?_; rotate_left; clear_value x; intro _; rotate_left; subst x)
    | (extract_lets +onlyGivenNames x; refine .cut (x := x.2.2) ?_ ?_; rotate_left; clear_value x; intro _; rotate_left; subst x)
    | (extract_lets +onlyGivenNames x; clear_value x)
    | extract_lets +onlyGivenNames _
    | with_reducible apply Within.refl
    | with_reducible assumption
    | decide
    | with_reducible apply Within.step (Chip.atTime_within _ _)
    | with_reducible apply Within.step (Chip.referenceReturn_within _)
    | split

theorem execYieldDeadline_within (t : Nat) (s : State) :
    OutcomeWithin 0x2c0000000000000000000000000000000000000000000010040000046c000000019000080000000000008000000000000000000000800004000000000000002000000020000000000000000030078000000 0x83a9e4 s (execYieldDeadline t s) := by
  unfold execYieldDeadline
  refine State.does_within fun _ => ?_
  repeat' first
    | (extract_lets +onlyGivenNames x; refine .cut (x := x) ?_ ?_; rotate_left; clear_value x; intro _; rotate_left; subst x)
    | (extract_lets +onlyGivenNames x; refine .cut (x := x.2) ?_ ?_; rotate_left; clear_value x; intro _; rotate_left; subst x)
    | (extract_lets +onlyGivenNames x; refine .cut (x := x.2.2) ?_ ?_; rotate_left; clear_value x; intro _; rotate_left; subst x)
    | (extract_lets +onlyGivenNames x; clear_value x)
    | extract_lets +onlyGivenNames _
    | with_reducible apply Within.refl
    | with_reducible assumption
    | decide
    | with_reducible apply Within.step (Chip.atTime_within _ _)
    | with_reducible apply Within.step (Chip.yieldDeadline_within _)
    | split

end Sys2Proof.Machine
end

