-- ==== Sys2Proof/Laws/FramePeriodCommands.lean ====
section
/-! SUPPORT. The frames of the operations of Machine/PeriodCommands.lean: the fields and the parts of the state each may change. -/

set_option linter.tactic.unusedName false

namespace Sys2Proof.Machine

theorem execPeriodBoundary_within (t : Nat) (gdi : List Int) (s : State) :
    OutcomeWithin 0x2c000000000000000000000000845010000000000000003e960400046c0000000000008900000000480b8000010000000cd841400981e024000000410000002fff800020003800000200060000060038008 0x1beefad s (execPeriodBoundary t gdi s) := by
  unfold execPeriodBoundary
  refine State.does_within fun _ => ?_
  repeat' first
    | (extract_lets +onlyGivenNames x; refine .cut (x := x) ?_ ?_; rotate_left; clear_value x; intro _; rotate_left; subst x)
    | (extract_lets +onlyGivenNames x; refine .cut (x := x.2) ?_ ?_; rotate_left; clear_value x; intro _; rotate_left; subst x)
    | (extract_lets +onlyGivenNames x; refine .cut (x := x.2.2) ?_ ?_; rotate_left; clear_value x; intro _; rotate_left; subst x)
    | (extract_lets +onlyGivenNames x; clear_value x)
    | extract_lets +onlyGivenNames _
    | with_reducible apply Within.refl
    | with_reducible assumption
    | decide
    | with_reducible apply Within.step (Chip.atTime_within _ _)
    | with_reducible apply Within.step (Chip.periodBoundary_within _ _)
    | split

theorem execInputDistributionClose_within (t : Nat) (s : State) :
    OutcomeWithin 0x38800 0x1000c0d s (execInputDistributionClose t s) := by
  unfold execInputDistributionClose
  refine State.does_within fun _ => ?_
  repeat' first
    | (extract_lets +onlyGivenNames x; refine .cut (x := x) ?_ ?_; rotate_left; clear_value x; intro _; rotate_left; subst x)
    | (extract_lets +onlyGivenNames x; refine .cut (x := x.2) ?_ ?_; rotate_left; clear_value x; intro _; rotate_left; subst x)
    | (extract_lets +onlyGivenNames x; refine .cut (x := x.2.2) ?_ ?_; rotate_left; clear_value x; intro _; rotate_left; subst x)
    | (extract_lets +onlyGivenNames x; clear_value x)
    | extract_lets +onlyGivenNames _
    | with_reducible apply Within.refl
    | with_reducible assumption
    | decide
    | (with_reducible apply Chip.atInstant_within; rotate_right; intro _ _; rotate_left; rotate_right)
    | with_reducible apply Within.step (Chip.atTime_within _ _)
    | with_reducible apply Within.step (Chip.distributeInputs_within _)
    | split

theorem execEngineComputeStart_within (t : Nat) (s : State) :
    OutcomeWithin 0 0x404 s (execEngineComputeStart t s) := by
  unfold execEngineComputeStart
  refine State.does_within fun _ => ?_
  repeat' first
    | (extract_lets +onlyGivenNames x; refine .cut (x := x) ?_ ?_; rotate_left; clear_value x; intro _; rotate_left; subst x)
    | (extract_lets +onlyGivenNames x; refine .cut (x := x.2) ?_ ?_; rotate_left; clear_value x; intro _; rotate_left; subst x)
    | (extract_lets +onlyGivenNames x; refine .cut (x := x.2.2) ?_ ?_; rotate_left; clear_value x; intro _; rotate_left; subst x)
    | (extract_lets +onlyGivenNames x; clear_value x)
    | extract_lets +onlyGivenNames _
    | with_reducible apply Within.refl
    | with_reducible assumption
    | decide
    | (with_reducible apply Chip.atInstant_within; rotate_right; intro _ _; rotate_left; rotate_right)
    | with_reducible apply Within.step (Chip.atTime_within _ _)
    | with_reducible apply Within.step (Chip.enginesStart_within _)
    | split

theorem execEngineRelease_within (t : Nat) (engine : Fin 24) (s : State) :
    OutcomeWithin 0x200000000000000000000000000000000000000000000000000000003e000 0x1000c05 s (execEngineRelease t engine s) := by
  unfold execEngineRelease
  refine State.does_within fun _ => ?_
  repeat' first
    | (extract_lets +onlyGivenNames x; refine .cut (x := x) ?_ ?_; rotate_left; clear_value x; intro _; rotate_left; subst x)
    | (extract_lets +onlyGivenNames x; refine .cut (x := x.2) ?_ ?_; rotate_left; clear_value x; intro _; rotate_left; subst x)
    | (extract_lets +onlyGivenNames x; refine .cut (x := x.2.2) ?_ ?_; rotate_left; clear_value x; intro _; rotate_left; subst x)
    | (extract_lets +onlyGivenNames x; clear_value x)
    | extract_lets +onlyGivenNames _
    | with_reducible apply Within.refl
    | with_reducible assumption
    | decide
    | with_reducible apply Within.step (Chip.atTime_within _ _)
    | with_reducible apply Within.step (Chip.engineRelease_within _ _ _)
    | split

theorem execBalancingStart_within (t : Nat) (s : State) :
    OutcomeWithin 0x20000400000000000000000000000000000000000000000000000041700883e7fda0000041000000080000000000000000020000000000003e400 0x1020f0d s (execBalancingStart t s) := by
  unfold execBalancingStart
  refine State.does_within fun _ => ?_
  repeat' first
    | (extract_lets +onlyGivenNames x; refine .cut (x := x) ?_ ?_; rotate_left; clear_value x; intro _; rotate_left; subst x)
    | (extract_lets +onlyGivenNames x; refine .cut (x := x.2) ?_ ?_; rotate_left; clear_value x; intro _; rotate_left; subst x)
    | (extract_lets +onlyGivenNames x; refine .cut (x := x.2.2) ?_ ?_; rotate_left; clear_value x; intro _; rotate_left; subst x)
    | (extract_lets +onlyGivenNames x; clear_value x)
    | extract_lets +onlyGivenNames _
    | with_reducible apply Within.refl
    | with_reducible assumption
    | decide
    | (with_reducible apply Chip.atInstant_within; rotate_right; intro _ _; rotate_left; rotate_right)
    | with_reducible apply Within.step (Chip.atTime_within _ _)
    | with_reducible apply Within.step (Chip.balancingStart_within _)
    | split

theorem execEdgeReload_within (t : Nat) (lateArms : List Nat) (unfinished : List Nat) (s : State) :
    OutcomeWithin 0x20000400000000000000000000000000000000000000000000000041400881e024000000619d80002800000000000000000200000000000038200 0x1028f0d s (execEdgeReload t lateArms unfinished s) := by
  unfold execEdgeReload
  refine State.does_within fun _ => ?_
  repeat' first
    | (extract_lets +onlyGivenNames x; refine .cut (x := x) ?_ ?_; rotate_left; clear_value x; intro _; rotate_left; subst x)
    | (extract_lets +onlyGivenNames x; refine .cut (x := x.2) ?_ ?_; rotate_left; clear_value x; intro _; rotate_left; subst x)
    | (extract_lets +onlyGivenNames x; refine .cut (x := x.2.2) ?_ ?_; rotate_left; clear_value x; intro _; rotate_left; subst x)
    | (extract_lets +onlyGivenNames x; clear_value x)
    | extract_lets +onlyGivenNames _
    | with_reducible apply Within.refl
    | with_reducible assumption
    | decide
    | (with_reducible apply Chip.atInstant_within; rotate_right; intro _ _; rotate_left; rotate_right)
    | with_reducible apply Within.step (Chip.atTime_within _ _)
    | with_reducible apply Within.step (Chip.reloadEdges_within _ _ _)
    | split

theorem execSheafTransmissionStart_within (t : Nat) (overrun : Bool) (s : State) :
    OutcomeWithin 0x120 0x1020b84 s (execSheafTransmissionStart t overrun s) := by
  unfold execSheafTransmissionStart
  refine State.does_within fun _ => ?_
  repeat' first
    | (extract_lets +onlyGivenNames x; refine .cut (x := x) ?_ ?_; rotate_left; clear_value x; intro _; rotate_left; subst x)
    | (extract_lets +onlyGivenNames x; refine .cut (x := x.2) ?_ ?_; rotate_left; clear_value x; intro _; rotate_left; subst x)
    | (extract_lets +onlyGivenNames x; refine .cut (x := x.2.2) ?_ ?_; rotate_left; clear_value x; intro _; rotate_left; subst x)
    | (extract_lets +onlyGivenNames x; clear_value x)
    | extract_lets +onlyGivenNames _
    | with_reducible apply Within.refl
    | with_reducible assumption
    | decide
    | (with_reducible apply Chip.atInstant_within; rotate_right; intro _ _; rotate_left; rotate_right)
    | with_reducible apply Within.step (Chip.atTime_within _ _)
    | with_reducible apply Within.step (Chip.sheavesStart_within _ _)
    | split

theorem execSheafWindowClose_within (t : Nat) (incomplete : Bool) (s : State) :
    OutcomeWithin 0x80 0x84 s (execSheafWindowClose t incomplete s) := by
  unfold execSheafWindowClose
  refine State.does_within fun _ => ?_
  repeat' first
    | (extract_lets +onlyGivenNames x; refine .cut (x := x) ?_ ?_; rotate_left; clear_value x; intro _; rotate_left; subst x)
    | (extract_lets +onlyGivenNames x; refine .cut (x := x.2) ?_ ?_; rotate_left; clear_value x; intro _; rotate_left; subst x)
    | (extract_lets +onlyGivenNames x; refine .cut (x := x.2.2) ?_ ?_; rotate_left; clear_value x; intro _; rotate_left; subst x)
    | (extract_lets +onlyGivenNames x; clear_value x)
    | extract_lets +onlyGivenNames _
    | with_reducible apply Within.refl
    | with_reducible assumption
    | decide
    | (with_reducible apply Chip.atInstant_within; rotate_right; intro _ _; rotate_left; rotate_right)
    | with_reducible apply Within.step (Chip.atTime_within _ _)
    | with_reducible apply Within.step (Chip.sheavesClose_within _ _)
    | split

theorem execIntervalStart_within (t : Nat) (s : State) :
    OutcomeWithin 0x40000000000000000000000000000000000000 0x8804 s (execIntervalStart t s) := by
  unfold execIntervalStart
  refine State.does_within fun _ => ?_
  repeat' first
    | (extract_lets +onlyGivenNames x; refine .cut (x := x) ?_ ?_; rotate_left; clear_value x; intro _; rotate_left; subst x)
    | (extract_lets +onlyGivenNames x; refine .cut (x := x.2) ?_ ?_; rotate_left; clear_value x; intro _; rotate_left; subst x)
    | (extract_lets +onlyGivenNames x; refine .cut (x := x.2.2) ?_ ?_; rotate_left; clear_value x; intro _; rotate_left; subst x)
    | (extract_lets +onlyGivenNames x; clear_value x)
    | extract_lets +onlyGivenNames _
    | with_reducible apply Within.refl
    | with_reducible assumption
    | decide
    | with_reducible apply Within.step (Chip.atTime_within _ _)
    | with_reducible apply Within.step (Chip.intervalStart_within _)
    | split

theorem execBaleReceived_within (t : Nat) (lane : Fin 100) (line : List Bool) (late : Bool) (s : State) :
    OutcomeWithin 0x80000000000000000000000000000000000000000000000000000000001e0000000000000000000006031ef000000000000002380200000040 0xaa4 s (execBaleReceived t lane line late s) := by
  unfold execBaleReceived
  refine State.does_within fun _ => ?_
  repeat' first
    | (extract_lets +onlyGivenNames x; refine .cut (x := x) ?_ ?_; rotate_left; clear_value x; intro _; rotate_left; subst x)
    | (extract_lets +onlyGivenNames x; refine .cut (x := x.2) ?_ ?_; rotate_left; clear_value x; intro _; rotate_left; subst x)
    | (extract_lets +onlyGivenNames x; refine .cut (x := x.2.2) ?_ ?_; rotate_left; clear_value x; intro _; rotate_left; subst x)
    | (extract_lets +onlyGivenNames x; clear_value x)
    | extract_lets +onlyGivenNames _
    | with_reducible apply Within.refl
    | with_reducible assumption
    | decide
    | with_reducible apply Within.step (Chip.atTime_within _ _)
    | with_reducible apply Within.step (Chip.baleReceived_within _ _ _ _)
    | split

end Sys2Proof.Machine
end

