-- ==== Sys2Proof/Laws/State.lean ====
section
/-! SUPPORT. For each update of the state, one lemma per field: what it leaves as it was. -/

namespace Sys2Proof.Machine

variable (s : Chip)
@[simp] theorem Chip.wr_sram (f : Fld) (v i : Nat) : (s.wr f v i).sram = s.sram := rfl
@[simp] theorem Chip.wr_bus (f : Fld) (v i : Nat) : (s.wr f v i).bus = s.bus := rfl
@[simp] theorem Chip.wr_clock (f : Fld) (v i : Nat) : (s.wr f v i).clock = s.clock := rfl
@[simp] theorem Chip.wr_live (f : Fld) (v i : Nat) : (s.wr f v i).live = s.live := rfl
@[simp] theorem Chip.wr_sys (f : Fld) (v i : Nat) : (s.wr f v i).sys = s.sys := rfl
@[simp] theorem Chip.wr_modes (f : Fld) (v i : Nat) : (s.wr f v i).modes = s.modes := rfl
@[simp] theorem Chip.wr_pll (f : Fld) (v i : Nat) : (s.wr f v i).pll = s.pll := rfl
@[simp] theorem Chip.wr_lanes (f : Fld) (v i : Nat) : (s.wr f v i).lanes = s.lanes := rfl
@[simp] theorem Chip.wr_edges (f : Fld) (v i : Nat) : (s.wr f v i).edges = s.edges := rfl
@[simp] theorem Chip.wr_arms (f : Fld) (v i : Nat) : (s.wr f v i).arms = s.arms := rfl
@[simp] theorem Chip.wr_engines (f : Fld) (v i : Nat) : (s.wr f v i).engines = s.engines := rfl
@[simp] theorem Chip.wr_faults (f : Fld) (v i : Nat) : (s.wr f v i).faults = s.faults := rfl
@[simp] theorem Chip.wr_spr (f : Fld) (v i : Nat) : (s.wr f v i).spr = s.spr := rfl
@[simp] theorem Chip.wr_thermal (f : Fld) (v i : Nat) : (s.wr f v i).thermal = s.thermal := rfl
@[simp] theorem Chip.wr_converter (f : Fld) (v i : Nat) : (s.wr f v i).converter = s.converter := rfl
@[simp] theorem Chip.wr_power (f : Fld) (v i : Nat) : (s.wr f v i).power = s.power := rfl
@[simp] theorem Chip.wr_triggers (f : Fld) (v i : Nat) : (s.wr f v i).triggers = s.triggers := rfl
@[simp] theorem Chip.wr_halyard (f : Fld) (v i : Nat) : (s.wr f v i).halyard = s.halyard := rfl
@[simp] theorem Chip.wr_inputs (f : Fld) (v i : Nat) : (s.wr f v i).inputs = s.inputs := rfl
@[simp] theorem Chip.wr_net (f : Fld) (v i : Nat) : (s.wr f v i).net = s.net := rfl
@[simp] theorem Chip.wr_metrology (f : Fld) (v i : Nat) : (s.wr f v i).metrology = s.metrology := rfl
@[simp] theorem Chip.wr_storage (f : Fld) (v i : Nat) : (s.wr f v i).storage = s.storage := rfl
@[simp] theorem Chip.wr_slices (f : Fld) (v i : Nat) : (s.wr f v i).slices = s.slices := rfl
@[simp] theorem Chip.wr_security (f : Fld) (v i : Nat) : (s.wr f v i).security = s.security := rfl
@[simp] theorem Chip.wr_drawn (f : Fld) (v i : Nat) : (s.wr f v i).drawn = s.drawn := rfl
@[simp] theorem Chip.wrFlag_sram (f : Fld) (b : Bool) (i : Nat) : (s.wrFlag f b i).sram = s.sram := rfl
@[simp] theorem Chip.wrFlag_bus (f : Fld) (b : Bool) (i : Nat) : (s.wrFlag f b i).bus = s.bus := rfl
@[simp] theorem Chip.wrFlag_clock (f : Fld) (b : Bool) (i : Nat) : (s.wrFlag f b i).clock = s.clock := rfl
@[simp] theorem Chip.wrFlag_live (f : Fld) (b : Bool) (i : Nat) : (s.wrFlag f b i).live = s.live := rfl
@[simp] theorem Chip.wrFlag_sys (f : Fld) (b : Bool) (i : Nat) : (s.wrFlag f b i).sys = s.sys := rfl
@[simp] theorem Chip.wrFlag_modes (f : Fld) (b : Bool) (i : Nat) : (s.wrFlag f b i).modes = s.modes := rfl
@[simp] theorem Chip.wrFlag_pll (f : Fld) (b : Bool) (i : Nat) : (s.wrFlag f b i).pll = s.pll := rfl
@[simp] theorem Chip.wrFlag_lanes (f : Fld) (b : Bool) (i : Nat) : (s.wrFlag f b i).lanes = s.lanes := rfl
@[simp] theorem Chip.wrFlag_edges (f : Fld) (b : Bool) (i : Nat) : (s.wrFlag f b i).edges = s.edges := rfl
@[simp] theorem Chip.wrFlag_arms (f : Fld) (b : Bool) (i : Nat) : (s.wrFlag f b i).arms = s.arms := rfl
@[simp] theorem Chip.wrFlag_engines (f : Fld) (b : Bool) (i : Nat) : (s.wrFlag f b i).engines = s.engines := rfl
@[simp] theorem Chip.wrFlag_faults (f : Fld) (b : Bool) (i : Nat) : (s.wrFlag f b i).faults = s.faults := rfl
@[simp] theorem Chip.wrFlag_spr (f : Fld) (b : Bool) (i : Nat) : (s.wrFlag f b i).spr = s.spr := rfl
@[simp] theorem Chip.wrFlag_thermal (f : Fld) (b : Bool) (i : Nat) : (s.wrFlag f b i).thermal = s.thermal := rfl
@[simp] theorem Chip.wrFlag_converter (f : Fld) (b : Bool) (i : Nat) : (s.wrFlag f b i).converter = s.converter := rfl
@[simp] theorem Chip.wrFlag_power (f : Fld) (b : Bool) (i : Nat) : (s.wrFlag f b i).power = s.power := rfl
@[simp] theorem Chip.wrFlag_triggers (f : Fld) (b : Bool) (i : Nat) : (s.wrFlag f b i).triggers = s.triggers := rfl
@[simp] theorem Chip.wrFlag_halyard (f : Fld) (b : Bool) (i : Nat) : (s.wrFlag f b i).halyard = s.halyard := rfl
@[simp] theorem Chip.wrFlag_inputs (f : Fld) (b : Bool) (i : Nat) : (s.wrFlag f b i).inputs = s.inputs := rfl
@[simp] theorem Chip.wrFlag_net (f : Fld) (b : Bool) (i : Nat) : (s.wrFlag f b i).net = s.net := rfl
@[simp] theorem Chip.wrFlag_metrology (f : Fld) (b : Bool) (i : Nat) : (s.wrFlag f b i).metrology = s.metrology := rfl
@[simp] theorem Chip.wrFlag_storage (f : Fld) (b : Bool) (i : Nat) : (s.wrFlag f b i).storage = s.storage := rfl
@[simp] theorem Chip.wrFlag_slices (f : Fld) (b : Bool) (i : Nat) : (s.wrFlag f b i).slices = s.slices := rfl
@[simp] theorem Chip.wrFlag_security (f : Fld) (b : Bool) (i : Nat) : (s.wrFlag f b i).security = s.security := rfl
@[simp] theorem Chip.wrFlag_drawn (f : Fld) (b : Bool) (i : Nat) : (s.wrFlag f b i).drawn = s.drawn := rfl
@[simp] theorem Chip.wrInt_sram (f : Fld) (x : Int) (i : Nat) : (s.wrInt f x i).sram = s.sram := rfl
@[simp] theorem Chip.wrInt_bus (f : Fld) (x : Int) (i : Nat) : (s.wrInt f x i).bus = s.bus := rfl
@[simp] theorem Chip.wrInt_clock (f : Fld) (x : Int) (i : Nat) : (s.wrInt f x i).clock = s.clock := rfl
@[simp] theorem Chip.wrInt_live (f : Fld) (x : Int) (i : Nat) : (s.wrInt f x i).live = s.live := rfl
@[simp] theorem Chip.wrInt_sys (f : Fld) (x : Int) (i : Nat) : (s.wrInt f x i).sys = s.sys := rfl
@[simp] theorem Chip.wrInt_modes (f : Fld) (x : Int) (i : Nat) : (s.wrInt f x i).modes = s.modes := rfl
@[simp] theorem Chip.wrInt_pll (f : Fld) (x : Int) (i : Nat) : (s.wrInt f x i).pll = s.pll := rfl
@[simp] theorem Chip.wrInt_lanes (f : Fld) (x : Int) (i : Nat) : (s.wrInt f x i).lanes = s.lanes := rfl
@[simp] theorem Chip.wrInt_edges (f : Fld) (x : Int) (i : Nat) : (s.wrInt f x i).edges = s.edges := rfl
@[simp] theorem Chip.wrInt_arms (f : Fld) (x : Int) (i : Nat) : (s.wrInt f x i).arms = s.arms := rfl
@[simp] theorem Chip.wrInt_engines (f : Fld) (x : Int) (i : Nat) : (s.wrInt f x i).engines = s.engines := rfl
@[simp] theorem Chip.wrInt_faults (f : Fld) (x : Int) (i : Nat) : (s.wrInt f x i).faults = s.faults := rfl
@[simp] theorem Chip.wrInt_spr (f : Fld) (x : Int) (i : Nat) : (s.wrInt f x i).spr = s.spr := rfl
@[simp] theorem Chip.wrInt_thermal (f : Fld) (x : Int) (i : Nat) : (s.wrInt f x i).thermal = s.thermal := rfl
@[simp] theorem Chip.wrInt_converter (f : Fld) (x : Int) (i : Nat) : (s.wrInt f x i).converter = s.converter := rfl
@[simp] theorem Chip.wrInt_power (f : Fld) (x : Int) (i : Nat) : (s.wrInt f x i).power = s.power := rfl
@[simp] theorem Chip.wrInt_triggers (f : Fld) (x : Int) (i : Nat) : (s.wrInt f x i).triggers = s.triggers := rfl
@[simp] theorem Chip.wrInt_halyard (f : Fld) (x : Int) (i : Nat) : (s.wrInt f x i).halyard = s.halyard := rfl
@[simp] theorem Chip.wrInt_inputs (f : Fld) (x : Int) (i : Nat) : (s.wrInt f x i).inputs = s.inputs := rfl
@[simp] theorem Chip.wrInt_net (f : Fld) (x : Int) (i : Nat) : (s.wrInt f x i).net = s.net := rfl
@[simp] theorem Chip.wrInt_metrology (f : Fld) (x : Int) (i : Nat) : (s.wrInt f x i).metrology = s.metrology := rfl
@[simp] theorem Chip.wrInt_storage (f : Fld) (x : Int) (i : Nat) : (s.wrInt f x i).storage = s.storage := rfl
@[simp] theorem Chip.wrInt_slices (f : Fld) (x : Int) (i : Nat) : (s.wrInt f x i).slices = s.slices := rfl
@[simp] theorem Chip.wrInt_security (f : Fld) (x : Int) (i : Nat) : (s.wrInt f x i).security = s.security := rfl
@[simp] theorem Chip.wrInt_drawn (f : Fld) (x : Int) (i : Nat) : (s.wrInt f x i).drawn = s.drawn := rfl
@[simp] theorem Chip.count_sram (f : Fld) (i n : Nat) : (s.count f i n).sram = s.sram := rfl
@[simp] theorem Chip.count_bus (f : Fld) (i n : Nat) : (s.count f i n).bus = s.bus := rfl
@[simp] theorem Chip.count_clock (f : Fld) (i n : Nat) : (s.count f i n).clock = s.clock := rfl
@[simp] theorem Chip.count_live (f : Fld) (i n : Nat) : (s.count f i n).live = s.live := rfl
@[simp] theorem Chip.count_sys (f : Fld) (i n : Nat) : (s.count f i n).sys = s.sys := rfl
@[simp] theorem Chip.count_modes (f : Fld) (i n : Nat) : (s.count f i n).modes = s.modes := rfl
@[simp] theorem Chip.count_pll (f : Fld) (i n : Nat) : (s.count f i n).pll = s.pll := rfl
@[simp] theorem Chip.count_lanes (f : Fld) (i n : Nat) : (s.count f i n).lanes = s.lanes := rfl
@[simp] theorem Chip.count_edges (f : Fld) (i n : Nat) : (s.count f i n).edges = s.edges := rfl
@[simp] theorem Chip.count_arms (f : Fld) (i n : Nat) : (s.count f i n).arms = s.arms := rfl
@[simp] theorem Chip.count_engines (f : Fld) (i n : Nat) : (s.count f i n).engines = s.engines := rfl
@[simp] theorem Chip.count_faults (f : Fld) (i n : Nat) : (s.count f i n).faults = s.faults := rfl
@[simp] theorem Chip.count_spr (f : Fld) (i n : Nat) : (s.count f i n).spr = s.spr := rfl
@[simp] theorem Chip.count_thermal (f : Fld) (i n : Nat) : (s.count f i n).thermal = s.thermal := rfl
@[simp] theorem Chip.count_converter (f : Fld) (i n : Nat) : (s.count f i n).converter = s.converter := rfl
@[simp] theorem Chip.count_power (f : Fld) (i n : Nat) : (s.count f i n).power = s.power := rfl
@[simp] theorem Chip.count_triggers (f : Fld) (i n : Nat) : (s.count f i n).triggers = s.triggers := rfl
@[simp] theorem Chip.count_halyard (f : Fld) (i n : Nat) : (s.count f i n).halyard = s.halyard := rfl
@[simp] theorem Chip.count_inputs (f : Fld) (i n : Nat) : (s.count f i n).inputs = s.inputs := rfl
@[simp] theorem Chip.count_net (f : Fld) (i n : Nat) : (s.count f i n).net = s.net := rfl
@[simp] theorem Chip.count_metrology (f : Fld) (i n : Nat) : (s.count f i n).metrology = s.metrology := rfl
@[simp] theorem Chip.count_storage (f : Fld) (i n : Nat) : (s.count f i n).storage = s.storage := rfl
@[simp] theorem Chip.count_slices (f : Fld) (i n : Nat) : (s.count f i n).slices = s.slices := rfl
@[simp] theorem Chip.count_security (f : Fld) (i n : Nat) : (s.count f i n).security = s.security := rfl
@[simp] theorem Chip.count_drawn (f : Fld) (i n : Nat) : (s.count f i n).drawn = s.drawn := rfl
@[simp] theorem Chip.wrBit_sram (f : Fld) (bit : Nat) (b : Bool) (i : Nat) : (s.wrBit f bit b i).sram = s.sram := rfl
@[simp] theorem Chip.wrBit_bus (f : Fld) (bit : Nat) (b : Bool) (i : Nat) : (s.wrBit f bit b i).bus = s.bus := rfl
@[simp] theorem Chip.wrBit_clock (f : Fld) (bit : Nat) (b : Bool) (i : Nat) : (s.wrBit f bit b i).clock = s.clock := rfl
@[simp] theorem Chip.wrBit_live (f : Fld) (bit : Nat) (b : Bool) (i : Nat) : (s.wrBit f bit b i).live = s.live := rfl
@[simp] theorem Chip.wrBit_sys (f : Fld) (bit : Nat) (b : Bool) (i : Nat) : (s.wrBit f bit b i).sys = s.sys := rfl
@[simp] theorem Chip.wrBit_modes (f : Fld) (bit : Nat) (b : Bool) (i : Nat) : (s.wrBit f bit b i).modes = s.modes := rfl
@[simp] theorem Chip.wrBit_pll (f : Fld) (bit : Nat) (b : Bool) (i : Nat) : (s.wrBit f bit b i).pll = s.pll := rfl
@[simp] theorem Chip.wrBit_lanes (f : Fld) (bit : Nat) (b : Bool) (i : Nat) : (s.wrBit f bit b i).lanes = s.lanes := rfl
@[simp] theorem Chip.wrBit_edges (f : Fld) (bit : Nat) (b : Bool) (i : Nat) : (s.wrBit f bit b i).edges = s.edges := rfl
@[simp] theorem Chip.wrBit_arms (f : Fld) (bit : Nat) (b : Bool) (i : Nat) : (s.wrBit f bit b i).arms = s.arms := rfl
@[simp] theorem Chip.wrBit_engines (f : Fld) (bit : Nat) (b : Bool) (i : Nat) : (s.wrBit f bit b i).engines = s.engines := rfl
@[simp] theorem Chip.wrBit_faults (f : Fld) (bit : Nat) (b : Bool) (i : Nat) : (s.wrBit f bit b i).faults = s.faults := rfl
@[simp] theorem Chip.wrBit_spr (f : Fld) (bit : Nat) (b : Bool) (i : Nat) : (s.wrBit f bit b i).spr = s.spr := rfl
@[simp] theorem Chip.wrBit_thermal (f : Fld) (bit : Nat) (b : Bool) (i : Nat) : (s.wrBit f bit b i).thermal = s.thermal := rfl
@[simp] theorem Chip.wrBit_converter (f : Fld) (bit : Nat) (b : Bool) (i : Nat) : (s.wrBit f bit b i).converter = s.converter := rfl
@[simp] theorem Chip.wrBit_power (f : Fld) (bit : Nat) (b : Bool) (i : Nat) : (s.wrBit f bit b i).power = s.power := rfl
@[simp] theorem Chip.wrBit_triggers (f : Fld) (bit : Nat) (b : Bool) (i : Nat) : (s.wrBit f bit b i).triggers = s.triggers := rfl
@[simp] theorem Chip.wrBit_halyard (f : Fld) (bit : Nat) (b : Bool) (i : Nat) : (s.wrBit f bit b i).halyard = s.halyard := rfl
@[simp] theorem Chip.wrBit_inputs (f : Fld) (bit : Nat) (b : Bool) (i : Nat) : (s.wrBit f bit b i).inputs = s.inputs := rfl
@[simp] theorem Chip.wrBit_net (f : Fld) (bit : Nat) (b : Bool) (i : Nat) : (s.wrBit f bit b i).net = s.net := rfl
@[simp] theorem Chip.wrBit_metrology (f : Fld) (bit : Nat) (b : Bool) (i : Nat) : (s.wrBit f bit b i).metrology = s.metrology := rfl
@[simp] theorem Chip.wrBit_storage (f : Fld) (bit : Nat) (b : Bool) (i : Nat) : (s.wrBit f bit b i).storage = s.storage := rfl
@[simp] theorem Chip.wrBit_slices (f : Fld) (bit : Nat) (b : Bool) (i : Nat) : (s.wrBit f bit b i).slices = s.slices := rfl
@[simp] theorem Chip.wrBit_security (f : Fld) (bit : Nat) (b : Bool) (i : Nat) : (s.wrBit f bit b i).security = s.security := rfl
@[simp] theorem Chip.wrBit_drawn (f : Fld) (bit : Nat) (b : Bool) (i : Nat) : (s.wrBit f bit b i).drawn = s.drawn := rfl
@[simp] theorem Chip.raise_sram (o : Nat) : (s.raise o).sram = s.sram := rfl
@[simp] theorem Chip.raise_bus (o : Nat) : (s.raise o).bus = s.bus := rfl
@[simp] theorem Chip.raise_clock (o : Nat) : (s.raise o).clock = s.clock := rfl
@[simp] theorem Chip.raise_live (o : Nat) : (s.raise o).live = s.live := rfl
@[simp] theorem Chip.raise_sys (o : Nat) : (s.raise o).sys = s.sys := rfl
@[simp] theorem Chip.raise_modes (o : Nat) : (s.raise o).modes = s.modes := rfl
@[simp] theorem Chip.raise_pll (o : Nat) : (s.raise o).pll = s.pll := rfl
@[simp] theorem Chip.raise_lanes (o : Nat) : (s.raise o).lanes = s.lanes := rfl
@[simp] theorem Chip.raise_edges (o : Nat) : (s.raise o).edges = s.edges := rfl
@[simp] theorem Chip.raise_arms (o : Nat) : (s.raise o).arms = s.arms := rfl
@[simp] theorem Chip.raise_engines (o : Nat) : (s.raise o).engines = s.engines := rfl
@[simp] theorem Chip.raise_spr (o : Nat) : (s.raise o).spr = s.spr := rfl
@[simp] theorem Chip.raise_thermal (o : Nat) : (s.raise o).thermal = s.thermal := rfl
@[simp] theorem Chip.raise_converter (o : Nat) : (s.raise o).converter = s.converter := rfl
@[simp] theorem Chip.raise_power (o : Nat) : (s.raise o).power = s.power := rfl
@[simp] theorem Chip.raise_triggers (o : Nat) : (s.raise o).triggers = s.triggers := rfl
@[simp] theorem Chip.raise_halyard (o : Nat) : (s.raise o).halyard = s.halyard := rfl
@[simp] theorem Chip.raise_inputs (o : Nat) : (s.raise o).inputs = s.inputs := rfl
@[simp] theorem Chip.raise_net (o : Nat) : (s.raise o).net = s.net := rfl
@[simp] theorem Chip.raise_metrology (o : Nat) : (s.raise o).metrology = s.metrology := rfl
@[simp] theorem Chip.raise_storage (o : Nat) : (s.raise o).storage = s.storage := rfl
@[simp] theorem Chip.raise_slices (o : Nat) : (s.raise o).slices = s.slices := rfl
@[simp] theorem Chip.raise_security (o : Nat) : (s.raise o).security = s.security := rfl
@[simp] theorem Chip.raise_drawn (o : Nat) : (s.raise o).drawn = s.drawn := rfl
@[simp] theorem Chip.raise_regs (o : Nat) : (s.raise o).regs = s.regs := rfl
@[simp] theorem Chip.rd_raise (o : Nat) (g : Fld) (j : Nat) : (s.raise o).rd g j = s.rd g j := rfl
@[simp] theorem Chip.sramPutByte_bus (a : Nat) (v : Byte) : (s.sramPutByte a v).bus = s.bus := rfl
@[simp] theorem Chip.sramPutByte_clock (a : Nat) (v : Byte) : (s.sramPutByte a v).clock = s.clock := rfl
@[simp] theorem Chip.sramPutByte_live (a : Nat) (v : Byte) : (s.sramPutByte a v).live = s.live := rfl
@[simp] theorem Chip.sramPutByte_sys (a : Nat) (v : Byte) : (s.sramPutByte a v).sys = s.sys := rfl
@[simp] theorem Chip.sramPutByte_modes (a : Nat) (v : Byte) : (s.sramPutByte a v).modes = s.modes := rfl
@[simp] theorem Chip.sramPutByte_pll (a : Nat) (v : Byte) : (s.sramPutByte a v).pll = s.pll := rfl
@[simp] theorem Chip.sramPutByte_lanes (a : Nat) (v : Byte) : (s.sramPutByte a v).lanes = s.lanes := rfl
@[simp] theorem Chip.sramPutByte_edges (a : Nat) (v : Byte) : (s.sramPutByte a v).edges = s.edges := rfl
@[simp] theorem Chip.sramPutByte_arms (a : Nat) (v : Byte) : (s.sramPutByte a v).arms = s.arms := rfl
@[simp] theorem Chip.sramPutByte_engines (a : Nat) (v : Byte) : (s.sramPutByte a v).engines = s.engines := rfl
@[simp] theorem Chip.sramPutByte_faults (a : Nat) (v : Byte) : (s.sramPutByte a v).faults = s.faults := rfl
@[simp] theorem Chip.sramPutByte_spr (a : Nat) (v : Byte) : (s.sramPutByte a v).spr = s.spr := rfl
@[simp] theorem Chip.sramPutByte_thermal (a : Nat) (v : Byte) : (s.sramPutByte a v).thermal = s.thermal := rfl
@[simp] theorem Chip.sramPutByte_converter (a : Nat) (v : Byte) : (s.sramPutByte a v).converter = s.converter := rfl
@[simp] theorem Chip.sramPutByte_power (a : Nat) (v : Byte) : (s.sramPutByte a v).power = s.power := rfl
@[simp] theorem Chip.sramPutByte_triggers (a : Nat) (v : Byte) : (s.sramPutByte a v).triggers = s.triggers := rfl
@[simp] theorem Chip.sramPutByte_halyard (a : Nat) (v : Byte) : (s.sramPutByte a v).halyard = s.halyard := rfl
@[simp] theorem Chip.sramPutByte_inputs (a : Nat) (v : Byte) : (s.sramPutByte a v).inputs = s.inputs := rfl
@[simp] theorem Chip.sramPutByte_net (a : Nat) (v : Byte) : (s.sramPutByte a v).net = s.net := rfl
@[simp] theorem Chip.sramPutByte_metrology (a : Nat) (v : Byte) : (s.sramPutByte a v).metrology = s.metrology := rfl
@[simp] theorem Chip.sramPutByte_storage (a : Nat) (v : Byte) : (s.sramPutByte a v).storage = s.storage := rfl
@[simp] theorem Chip.sramPutByte_slices (a : Nat) (v : Byte) : (s.sramPutByte a v).slices = s.slices := rfl
@[simp] theorem Chip.sramPutByte_security (a : Nat) (v : Byte) : (s.sramPutByte a v).security = s.security := rfl
@[simp] theorem Chip.sramPutByte_drawn (a : Nat) (v : Byte) : (s.sramPutByte a v).drawn = s.drawn := rfl
@[simp] theorem Chip.sramPutByte_regs (a : Nat) (v : Byte) : (s.sramPutByte a v).regs = s.regs := rfl
@[simp] theorem Chip.rd_sramPutByte (a : Nat) (v : Byte) (g : Fld) (j : Nat) : (s.sramPutByte a v).rd g j = s.rd g j := rfl
@[simp] theorem Chip.setLane_sram (n : Nat) (l : LaneState) : (s.setLane n l).sram = s.sram := rfl
@[simp] theorem Chip.setLane_bus (n : Nat) (l : LaneState) : (s.setLane n l).bus = s.bus := rfl
@[simp] theorem Chip.setLane_clock (n : Nat) (l : LaneState) : (s.setLane n l).clock = s.clock := rfl
@[simp] theorem Chip.setLane_live (n : Nat) (l : LaneState) : (s.setLane n l).live = s.live := rfl
@[simp] theorem Chip.setLane_sys (n : Nat) (l : LaneState) : (s.setLane n l).sys = s.sys := rfl
@[simp] theorem Chip.setLane_modes (n : Nat) (l : LaneState) : (s.setLane n l).modes = s.modes := rfl
@[simp] theorem Chip.setLane_pll (n : Nat) (l : LaneState) : (s.setLane n l).pll = s.pll := rfl
@[simp] theorem Chip.setLane_edges (n : Nat) (l : LaneState) : (s.setLane n l).edges = s.edges := rfl
@[simp] theorem Chip.setLane_arms (n : Nat) (l : LaneState) : (s.setLane n l).arms = s.arms := rfl
@[simp] theorem Chip.setLane_engines (n : Nat) (l : LaneState) : (s.setLane n l).engines = s.engines := rfl
@[simp] theorem Chip.setLane_faults (n : Nat) (l : LaneState) : (s.setLane n l).faults = s.faults := rfl
@[simp] theorem Chip.setLane_spr (n : Nat) (l : LaneState) : (s.setLane n l).spr = s.spr := rfl
@[simp] theorem Chip.setLane_thermal (n : Nat) (l : LaneState) : (s.setLane n l).thermal = s.thermal := rfl
@[simp] theorem Chip.setLane_converter (n : Nat) (l : LaneState) : (s.setLane n l).converter = s.converter := rfl
@[simp] theorem Chip.setLane_power (n : Nat) (l : LaneState) : (s.setLane n l).power = s.power := rfl
@[simp] theorem Chip.setLane_triggers (n : Nat) (l : LaneState) : (s.setLane n l).triggers = s.triggers := rfl
@[simp] theorem Chip.setLane_halyard (n : Nat) (l : LaneState) : (s.setLane n l).halyard = s.halyard := rfl
@[simp] theorem Chip.setLane_inputs (n : Nat) (l : LaneState) : (s.setLane n l).inputs = s.inputs := rfl
@[simp] theorem Chip.setLane_net (n : Nat) (l : LaneState) : (s.setLane n l).net = s.net := rfl
@[simp] theorem Chip.setLane_metrology (n : Nat) (l : LaneState) : (s.setLane n l).metrology = s.metrology := rfl
@[simp] theorem Chip.setLane_storage (n : Nat) (l : LaneState) : (s.setLane n l).storage = s.storage := rfl
@[simp] theorem Chip.setLane_slices (n : Nat) (l : LaneState) : (s.setLane n l).slices = s.slices := rfl
@[simp] theorem Chip.setLane_security (n : Nat) (l : LaneState) : (s.setLane n l).security = s.security := rfl
@[simp] theorem Chip.setLane_drawn (n : Nat) (l : LaneState) : (s.setLane n l).drawn = s.drawn := rfl
@[simp] theorem Chip.setLane_regs (n : Nat) (l : LaneState) : (s.setLane n l).regs = s.regs := rfl
@[simp] theorem Chip.rd_setLane (n : Nat) (l : LaneState) (g : Fld) (j : Nat) : (s.setLane n l).rd g j = s.rd g j := rfl
@[simp] theorem Chip.setLeg_sram (n : Nat) (l : Leg) : (s.setLeg n l).sram = s.sram := rfl
@[simp] theorem Chip.setLeg_bus (n : Nat) (l : Leg) : (s.setLeg n l).bus = s.bus := rfl
@[simp] theorem Chip.setLeg_clock (n : Nat) (l : Leg) : (s.setLeg n l).clock = s.clock := rfl
@[simp] theorem Chip.setLeg_live (n : Nat) (l : Leg) : (s.setLeg n l).live = s.live := rfl
@[simp] theorem Chip.setLeg_sys (n : Nat) (l : Leg) : (s.setLeg n l).sys = s.sys := rfl
@[simp] theorem Chip.setLeg_modes (n : Nat) (l : Leg) : (s.setLeg n l).modes = s.modes := rfl
@[simp] theorem Chip.setLeg_pll (n : Nat) (l : Leg) : (s.setLeg n l).pll = s.pll := rfl
@[simp] theorem Chip.setLeg_lanes (n : Nat) (l : Leg) : (s.setLeg n l).lanes = s.lanes := rfl
@[simp] theorem Chip.setLeg_arms (n : Nat) (l : Leg) : (s.setLeg n l).arms = s.arms := rfl
@[simp] theorem Chip.setLeg_engines (n : Nat) (l : Leg) : (s.setLeg n l).engines = s.engines := rfl
@[simp] theorem Chip.setLeg_faults (n : Nat) (l : Leg) : (s.setLeg n l).faults = s.faults := rfl
@[simp] theorem Chip.setLeg_spr (n : Nat) (l : Leg) : (s.setLeg n l).spr = s.spr := rfl
@[simp] theorem Chip.setLeg_thermal (n : Nat) (l : Leg) : (s.setLeg n l).thermal = s.thermal := rfl
@[simp] theorem Chip.setLeg_converter (n : Nat) (l : Leg) : (s.setLeg n l).converter = s.converter := rfl
@[simp] theorem Chip.setLeg_power (n : Nat) (l : Leg) : (s.setLeg n l).power = s.power := rfl
@[simp] theorem Chip.setLeg_triggers (n : Nat) (l : Leg) : (s.setLeg n l).triggers = s.triggers := rfl
@[simp] theorem Chip.setLeg_halyard (n : Nat) (l : Leg) : (s.setLeg n l).halyard = s.halyard := rfl
@[simp] theorem Chip.setLeg_inputs (n : Nat) (l : Leg) : (s.setLeg n l).inputs = s.inputs := rfl
@[simp] theorem Chip.setLeg_net (n : Nat) (l : Leg) : (s.setLeg n l).net = s.net := rfl
@[simp] theorem Chip.setLeg_metrology (n : Nat) (l : Leg) : (s.setLeg n l).metrology = s.metrology := rfl
@[simp] theorem Chip.setLeg_storage (n : Nat) (l : Leg) : (s.setLeg n l).storage = s.storage := rfl
@[simp] theorem Chip.setLeg_slices (n : Nat) (l : Leg) : (s.setLeg n l).slices = s.slices := rfl
@[simp] theorem Chip.setLeg_security (n : Nat) (l : Leg) : (s.setLeg n l).security = s.security := rfl
@[simp] theorem Chip.setLeg_drawn (n : Nat) (l : Leg) : (s.setLeg n l).drawn = s.drawn := rfl
@[simp] theorem Chip.setLeg_regs (n : Nat) (l : Leg) : (s.setLeg n l).regs = s.regs := rfl
@[simp] theorem Chip.rd_setLeg (n : Nat) (l : Leg) (g : Fld) (j : Nat) : (s.setLeg n l).rd g j = s.rd g j := rfl
@[simp] theorem Chip.setCell_sram (n : Nat) (c : CellState) : (s.setCell n c).sram = s.sram := rfl
@[simp] theorem Chip.setCell_bus (n : Nat) (c : CellState) : (s.setCell n c).bus = s.bus := rfl
@[simp] theorem Chip.setCell_clock (n : Nat) (c : CellState) : (s.setCell n c).clock = s.clock := rfl
@[simp] theorem Chip.setCell_live (n : Nat) (c : CellState) : (s.setCell n c).live = s.live := rfl
@[simp] theorem Chip.setCell_sys (n : Nat) (c : CellState) : (s.setCell n c).sys = s.sys := rfl
@[simp] theorem Chip.setCell_modes (n : Nat) (c : CellState) : (s.setCell n c).modes = s.modes := rfl
@[simp] theorem Chip.setCell_pll (n : Nat) (c : CellState) : (s.setCell n c).pll = s.pll := rfl
@[simp] theorem Chip.setCell_lanes (n : Nat) (c : CellState) : (s.setCell n c).lanes = s.lanes := rfl
@[simp] theorem Chip.setCell_edges (n : Nat) (c : CellState) : (s.setCell n c).edges = s.edges := rfl
@[simp] theorem Chip.setCell_engines (n : Nat) (c : CellState) : (s.setCell n c).engines = s.engines := rfl
@[simp] theorem Chip.setCell_faults (n : Nat) (c : CellState) : (s.setCell n c).faults = s.faults := rfl
@[simp] theorem Chip.setCell_spr (n : Nat) (c : CellState) : (s.setCell n c).spr = s.spr := rfl
@[simp] theorem Chip.setCell_thermal (n : Nat) (c : CellState) : (s.setCell n c).thermal = s.thermal := rfl
@[simp] theorem Chip.setCell_converter (n : Nat) (c : CellState) : (s.setCell n c).converter = s.converter := rfl
@[simp] theorem Chip.setCell_power (n : Nat) (c : CellState) : (s.setCell n c).power = s.power := rfl
@[simp] theorem Chip.setCell_triggers (n : Nat) (c : CellState) : (s.setCell n c).triggers = s.triggers := rfl
@[simp] theorem Chip.setCell_halyard (n : Nat) (c : CellState) : (s.setCell n c).halyard = s.halyard := rfl
@[simp] theorem Chip.setCell_inputs (n : Nat) (c : CellState) : (s.setCell n c).inputs = s.inputs := rfl
@[simp] theorem Chip.setCell_net (n : Nat) (c : CellState) : (s.setCell n c).net = s.net := rfl
@[simp] theorem Chip.setCell_metrology (n : Nat) (c : CellState) : (s.setCell n c).metrology = s.metrology := rfl
@[simp] theorem Chip.setCell_storage (n : Nat) (c : CellState) : (s.setCell n c).storage = s.storage := rfl
@[simp] theorem Chip.setCell_slices (n : Nat) (c : CellState) : (s.setCell n c).slices = s.slices := rfl
@[simp] theorem Chip.setCell_security (n : Nat) (c : CellState) : (s.setCell n c).security = s.security := rfl
@[simp] theorem Chip.setCell_drawn (n : Nat) (c : CellState) : (s.setCell n c).drawn = s.drawn := rfl
@[simp] theorem Chip.setCell_regs (n : Nat) (c : CellState) : (s.setCell n c).regs = s.regs := rfl
@[simp] theorem Chip.rd_setCell (n : Nat) (c : CellState) (g : Fld) (j : Nat) : (s.setCell n c).rd g j = s.rd g j := rfl
@[simp] theorem Chip.setArm_sram (a : Nat) (r : ArmState) : (s.setArm a r).sram = s.sram := rfl
@[simp] theorem Chip.setArm_bus (a : Nat) (r : ArmState) : (s.setArm a r).bus = s.bus := rfl
@[simp] theorem Chip.setArm_clock (a : Nat) (r : ArmState) : (s.setArm a r).clock = s.clock := rfl
@[simp] theorem Chip.setArm_live (a : Nat) (r : ArmState) : (s.setArm a r).live = s.live := rfl
@[simp] theorem Chip.setArm_sys (a : Nat) (r : ArmState) : (s.setArm a r).sys = s.sys := rfl
@[simp] theorem Chip.setArm_modes (a : Nat) (r : ArmState) : (s.setArm a r).modes = s.modes := rfl
@[simp] theorem Chip.setArm_pll (a : Nat) (r : ArmState) : (s.setArm a r).pll = s.pll := rfl
@[simp] theorem Chip.setArm_lanes (a : Nat) (r : ArmState) : (s.setArm a r).lanes = s.lanes := rfl
@[simp] theorem Chip.setArm_edges (a : Nat) (r : ArmState) : (s.setArm a r).edges = s.edges := rfl
@[simp] theorem Chip.setArm_engines (a : Nat) (r : ArmState) : (s.setArm a r).engines = s.engines := rfl
@[simp] theorem Chip.setArm_faults (a : Nat) (r : ArmState) : (s.setArm a r).faults = s.faults := rfl
@[simp] theorem Chip.setArm_spr (a : Nat) (r : ArmState) : (s.setArm a r).spr = s.spr := rfl
@[simp] theorem Chip.setArm_thermal (a : Nat) (r : ArmState) : (s.setArm a r).thermal = s.thermal := rfl
@[simp] theorem Chip.setArm_converter (a : Nat) (r : ArmState) : (s.setArm a r).converter = s.converter := rfl
@[simp] theorem Chip.setArm_power (a : Nat) (r : ArmState) : (s.setArm a r).power = s.power := rfl
@[simp] theorem Chip.setArm_triggers (a : Nat) (r : ArmState) : (s.setArm a r).triggers = s.triggers := rfl
@[simp] theorem Chip.setArm_halyard (a : Nat) (r : ArmState) : (s.setArm a r).halyard = s.halyard := rfl
@[simp] theorem Chip.setArm_inputs (a : Nat) (r : ArmState) : (s.setArm a r).inputs = s.inputs := rfl
@[simp] theorem Chip.setArm_net (a : Nat) (r : ArmState) : (s.setArm a r).net = s.net := rfl
@[simp] theorem Chip.setArm_metrology (a : Nat) (r : ArmState) : (s.setArm a r).metrology = s.metrology := rfl
@[simp] theorem Chip.setArm_storage (a : Nat) (r : ArmState) : (s.setArm a r).storage = s.storage := rfl
@[simp] theorem Chip.setArm_slices (a : Nat) (r : ArmState) : (s.setArm a r).slices = s.slices := rfl
@[simp] theorem Chip.setArm_security (a : Nat) (r : ArmState) : (s.setArm a r).security = s.security := rfl
@[simp] theorem Chip.setArm_drawn (a : Nat) (r : ArmState) : (s.setArm a r).drawn = s.drawn := rfl
@[simp] theorem Chip.setArm_regs (a : Nat) (r : ArmState) : (s.setArm a r).regs = s.regs := rfl
@[simp] theorem Chip.rd_setArm (a : Nat) (r : ArmState) (g : Fld) (j : Nat) : (s.setArm a r).rd g j = s.rd g j := rfl
@[simp] theorem Chip.draw_regs : s.draw.2.regs = s.regs := rfl
@[simp] theorem Chip.draw_sram : s.draw.2.sram = s.sram := rfl
@[simp] theorem Chip.draw_bus : s.draw.2.bus = s.bus := rfl
@[simp] theorem Chip.draw_clock : s.draw.2.clock = s.clock := rfl
@[simp] theorem Chip.draw_live : s.draw.2.live = s.live := rfl
@[simp] theorem Chip.draw_sys : s.draw.2.sys = s.sys := rfl
@[simp] theorem Chip.draw_modes : s.draw.2.modes = s.modes := rfl
@[simp] theorem Chip.draw_pll : s.draw.2.pll = s.pll := rfl
@[simp] theorem Chip.draw_lanes : s.draw.2.lanes = s.lanes := rfl
@[simp] theorem Chip.draw_edges : s.draw.2.edges = s.edges := rfl
@[simp] theorem Chip.draw_arms : s.draw.2.arms = s.arms := rfl
@[simp] theorem Chip.draw_engines : s.draw.2.engines = s.engines := rfl
@[simp] theorem Chip.draw_faults : s.draw.2.faults = s.faults := rfl
@[simp] theorem Chip.draw_spr : s.draw.2.spr = s.spr := rfl
@[simp] theorem Chip.draw_thermal : s.draw.2.thermal = s.thermal := rfl
@[simp] theorem Chip.draw_converter : s.draw.2.converter = s.converter := rfl
@[simp] theorem Chip.draw_power : s.draw.2.power = s.power := rfl
@[simp] theorem Chip.draw_triggers : s.draw.2.triggers = s.triggers := rfl
@[simp] theorem Chip.draw_halyard : s.draw.2.halyard = s.halyard := rfl
@[simp] theorem Chip.draw_inputs : s.draw.2.inputs = s.inputs := rfl
@[simp] theorem Chip.draw_net : s.draw.2.net = s.net := rfl
@[simp] theorem Chip.draw_metrology : s.draw.2.metrology = s.metrology := rfl
@[simp] theorem Chip.draw_storage : s.draw.2.storage = s.storage := rfl
@[simp] theorem Chip.draw_slices : s.draw.2.slices = s.slices := rfl
@[simp] theorem Chip.draw_security : s.draw.2.security = s.security := rfl

@[simp] theorem Chip.raise_events (o : Nat) : (s.raise o).faults.events = s.faults.events ++ [o] := rfl
@[simp] theorem Chip.draw_drawn : s.draw.2.drawn = s.drawn + 1 := rfl
@[simp] theorem Chip.rd_draw (g : Fld) (j : Nat) : s.draw.2.rd g j = s.rd g j := rfl

@[simp] theorem State.does_eq (σ : State) (f : Chip → Chip) : σ.does f = .next { σ with chip := f σ.chip } := rfl

end Sys2Proof.Machine
end

