-- ==== Sys2Proof/Laws/Time.lean ====
section
/-! SUPPORT. Laws of time: a command's instant changes nothing but the clock. -/

namespace Sys2Proof.Machine

variable (s : Chip) (t : Nat)

@[simp] theorem Chip.atTime_regs : (s.atTime t).regs = s.regs := by unfold Chip.atTime; split <;> rfl
@[simp] theorem Chip.atTime_rd (f : Fld) (i : Nat) : (s.atTime t).rd f i = s.rd f i := by unfold Chip.rd; rw [Chip.atTime_regs]
@[simp] theorem Chip.atTime_on (f : Fld) (i : Nat) : (s.atTime t).on f i = s.on f i := by unfold Chip.on; rw [Chip.atTime_rd]
@[simp] theorem Chip.atTime_rdInt (f : Fld) (i : Nat) : (s.atTime t).rdInt f i = s.rdInt f i := by unfold Chip.rdInt; rw [Chip.atTime_rd]
@[simp] theorem Chip.atTime_sram : (s.atTime t).sram = s.sram := by unfold Chip.atTime; split <;> rfl
@[simp] theorem Chip.atTime_bus : (s.atTime t).bus = s.bus := by unfold Chip.atTime; split <;> rfl
@[simp] theorem Chip.atTime_live : (s.atTime t).live = s.live := by unfold Chip.atTime; split <;> rfl
@[simp] theorem Chip.atTime_sys : (s.atTime t).sys = s.sys := by unfold Chip.atTime; split <;> rfl
@[simp] theorem Chip.atTime_modes : (s.atTime t).modes = s.modes := by unfold Chip.atTime; split <;> rfl
@[simp] theorem Chip.atTime_pll : (s.atTime t).pll = s.pll := by unfold Chip.atTime; split <;> rfl
@[simp] theorem Chip.atTime_lanes : (s.atTime t).lanes = s.lanes := by unfold Chip.atTime; split <;> rfl
@[simp] theorem Chip.atTime_edges : (s.atTime t).edges = s.edges := by unfold Chip.atTime; split <;> rfl
@[simp] theorem Chip.atTime_arms : (s.atTime t).arms = s.arms := by unfold Chip.atTime; split <;> rfl
@[simp] theorem Chip.atTime_engines : (s.atTime t).engines = s.engines := by unfold Chip.atTime; split <;> rfl
@[simp] theorem Chip.atTime_faults : (s.atTime t).faults = s.faults := by unfold Chip.atTime; split <;> rfl
@[simp] theorem Chip.atTime_spr : (s.atTime t).spr = s.spr := by unfold Chip.atTime; split <;> rfl
@[simp] theorem Chip.atTime_thermal : (s.atTime t).thermal = s.thermal := by unfold Chip.atTime; split <;> rfl
@[simp] theorem Chip.atTime_converter : (s.atTime t).converter = s.converter := by unfold Chip.atTime; split <;> rfl
@[simp] theorem Chip.atTime_power : (s.atTime t).power = s.power := by unfold Chip.atTime; split <;> rfl
@[simp] theorem Chip.atTime_triggers : (s.atTime t).triggers = s.triggers := by unfold Chip.atTime; split <;> rfl
@[simp] theorem Chip.atTime_halyard : (s.atTime t).halyard = s.halyard := by unfold Chip.atTime; split <;> rfl
@[simp] theorem Chip.atTime_inputs : (s.atTime t).inputs = s.inputs := by unfold Chip.atTime; split <;> rfl
@[simp] theorem Chip.atTime_net : (s.atTime t).net = s.net := by unfold Chip.atTime; split <;> rfl
@[simp] theorem Chip.atTime_metrology : (s.atTime t).metrology = s.metrology := by unfold Chip.atTime; split <;> rfl
@[simp] theorem Chip.atTime_storage : (s.atTime t).storage = s.storage := by unfold Chip.atTime; split <;> rfl
@[simp] theorem Chip.atTime_slices : (s.atTime t).slices = s.slices := by unfold Chip.atTime; split <;> rfl
@[simp] theorem Chip.atTime_security : (s.atTime t).security = s.security := by unfold Chip.atTime; split <;> rfl
@[simp] theorem Chip.atTime_drawn : (s.atTime t).drawn = s.drawn := by unfold Chip.atTime; split <;> rfl

/-- Time never runs backward. -/
theorem Chip.atTime_now : (s.atTime t).clock.now = max s.clock.now t := by
  unfold Chip.atTime
  split
  · omega
  · dsimp only
    omega

end Sys2Proof.Machine
end

