-- ==== Sys2Proof/Laws/Wires.lean ====
section
/-! SUPPORT. The wires of the Shroud stay safe (R431 to R434): every operation that touches what the safety of the wires rests on
keeps it, each by the frames of what it calls and by the Shroud's fresh judgement. -/

set_option linter.tactic.unusedName false

namespace Sys2Proof.Machine

/-- The fields that the safety of the wires rests on. -/
abbrev wireFields : Nat := 0x17c000000000000000000000000000000000000000000000000000000000000000000000000000000000000002000000000000000000

/-- The wires of `t` are safe where those of `s` are. -/
def Kept (s t : Chip) : Prop := s.wiresSafe = true → t.wiresSafe = true

theorem Kept.refl {s : Chip} : Kept s s := fun h => h

theorem Kept.step {s x y : Chip} (h : Kept x y) (k : Kept s x) : Kept s y := fun w => h (k w)

theorem Kept.cut {s x t : Chip} (h : Kept s x) (k : Kept s x → Kept s t) : Kept s t := k h

/-- The same values in the fields and in the Shroud's records of the inter-die bus, the supply and the discrepancy. -/
theorem Kept.same {x y : Chip} (h : ∀ f, wireFields.testBit f.ctorIdx = true → y.rd f 0 = x.rd f 0) (h1 : y.spr.idbUp = x.spr.idbUp)
    (h2 : y.spr.warned = x.spr.warned) (h3 : y.spr.discLong = x.spr.discLong) : Kept x y := by
  intro w
  unfold Chip.wiresSafe Chip.wiresAsserted Chip.consentsPresent Chip.shroudWithheld Chip.on at w ⊢
  simp only [h _ (show wireFields.testBit Fld.shroudStat_bw.ctorIdx = true by decide),
    h _ (show wireFields.testBit Fld.shroudStat_drvDisable.ctorIdx = true by decide),
    h _ (show wireFields.testBit Fld.shroudStat_shroudConsent.ctorIdx = true by decide),
    h _ (show wireFields.testBit Fld.shroudStat_mastConsent.ctorIdx = true by decide),
    h _ (show wireFields.testBit Fld.shroudStat_sprB.ctorIdx = true by decide),
    h _ (show wireFields.testBit Fld.shroudStat_lockout.ctorIdx = true by decide),
    h _ (show wireFields.testBit Fld.pllStat_synthDown.ctorIdx = true by decide), h1, h2, h3]
  exact w

theorem testBit_disjoint {F G k : Nat} (h : Nat.land F G = 0) (hk : G.testBit k = true) : F.testBit k = false := by
  have : (F &&& G).testBit k = false := by
    show (Nat.land F G).testBit k = false
    rw [h, Nat.zero_testBit]
  rwa [Nat.testBit_and, hk, Bool.and_true] at this

theorem Kept.within {F C : Nat} {s x y : Chip} (h : Within F C x y) (k : Kept s x) (hF : Nat.land F wireFields = 0)
    (hC : C.testBit 12 = false) : Kept s y :=
  .step (.same (fun f hf => h.rd f 0 (testBit_disjoint hF hf)) (by rw [h.spr hC]) (by rw [h.spr hC]) (by rw [h.spr hC])) k

theorem Kept.wr {s x : Chip} (k : Kept s x) (f : Fld) (v i : Nat) (hf : wireFields.testBit f.ctorIdx = false) : Kept s (x.wr f v i) :=
  .step (.same (fun g hg => Chip.rd_wr_ne _ _ (by rintro ⟨rfl, -⟩; rw [hf] at hg; cases hg)) rfl rfl rfl) k

theorem Kept.wrFlag {s x : Chip} (k : Kept s x) (f : Fld) (b : Bool) (i : Nat) (hf : wireFields.testBit f.ctorIdx = false) :
    Kept s (x.wrFlag f b i) := k.wr f _ i hf

theorem Kept.wrInt {s x : Chip} (k : Kept s x) (f : Fld) (v : Int) (i : Nat) (hf : wireFields.testBit f.ctorIdx = false) :
    Kept s (x.wrInt f v i) := k.wr f _ i hf

theorem Kept.count {s x : Chip} (k : Kept s x) (f : Fld) (n i : Nat) (hf : wireFields.testBit f.ctorIdx = false) :
    Kept s (x.count f n i) := by
  unfold Chip.count
  exact k.wr f _ n hf

theorem Kept.wrBit {s x : Chip} (k : Kept s x) (f : Fld) (n : Nat) (b : Bool) (i : Nat) (hf : wireFields.testBit f.ctorIdx = false) :
    Kept s (x.wrBit f n b i) := k.wr f _ i hf

theorem Kept.each {α : Type} {g : Chip → α → Chip} {s x : Chip} (k : Kept s x) (l : List α)
    (h : ∀ u a, Kept s u → Kept s (g u a)) : Kept s (x.each l g) := by
  unfold Chip.each
  induction l generalizing x with
  | nil => exact k
  | cons a l ih => exact ih (h x a k)

theorem Kept.onlyIf {g : Chip → Chip} {s x : Chip} (k : Kept s x) (b : Bool)
    (h : ∀ u, Kept s u → Kept s (g u)) : Kept s (x.onlyIf b g) := by
  unfold Chip.onlyIf
  split
  · exact h x k
  · exact k


theorem Kept.set_arms {s x : Chip} (k : Kept s x) {varms : ArmsState} :
    Kept s { x with arms := varms } :=
  .step (.same (x := x) (fun _ _ => rfl) rfl rfl rfl) k

theorem Kept.set_bus {s x : Chip} (k : Kept s x) {vbus : BusState} :
    Kept s { x with bus := vbus } :=
  .step (.same (x := x) (fun _ _ => rfl) rfl rfl rfl) k

theorem Kept.set_clock {s x : Chip} (k : Kept s x) {vclock : ClockState} :
    Kept s { x with clock := vclock } :=
  .step (.same (x := x) (fun _ _ => rfl) rfl rfl rfl) k

theorem Kept.set_clock_metrology {s x : Chip} (k : Kept s x) {vclock : ClockState} {vmetrology : MetrologyState} :
    Kept s { x with clock := vclock, metrology := vmetrology } :=
  .step (.same (x := x) (fun _ _ => rfl) rfl rfl rfl) k

theorem Kept.set_converter {s x : Chip} (k : Kept s x) {vconverter : ConverterState} :
    Kept s { x with converter := vconverter } :=
  .step (.same (x := x) (fun _ _ => rfl) rfl rfl rfl) k

theorem Kept.set_drawn {s x : Chip} (k : Kept s x) {vdrawn : Nat} :
    Kept s { x with drawn := vdrawn } :=
  .step (.same (x := x) (fun _ _ => rfl) rfl rfl rfl) k

theorem Kept.set_edges {s x : Chip} (k : Kept s x) {vedges : EdgeState} :
    Kept s { x with edges := vedges } :=
  .step (.same (x := x) (fun _ _ => rfl) rfl rfl rfl) k

theorem Kept.set_edges_arms {s x : Chip} (k : Kept s x) {vedges : EdgeState} {varms : ArmsState} :
    Kept s { x with edges := vedges, arms := varms } :=
  .step (.same (x := x) (fun _ _ => rfl) rfl rfl rfl) k

theorem Kept.set_engines {s x : Chip} (k : Kept s x) {vengines : EngineState} :
    Kept s { x with engines := vengines } :=
  .step (.same (x := x) (fun _ _ => rfl) rfl rfl rfl) k

theorem Kept.set_faults {s x : Chip} (k : Kept s x) {vfaults : FaultState} :
    Kept s { x with faults := vfaults } :=
  .step (.same (x := x) (fun _ _ => rfl) rfl rfl rfl) k

theorem Kept.set_faults_spr {s x : Chip} (k : Kept s x) {vfaults : FaultState} {vspr : SprState} (h1 : vspr.idbUp = x.spr.idbUp) (h2 : vspr.warned = x.spr.warned) (h3 : vspr.discLong = x.spr.discLong) :
    Kept s { x with faults := vfaults, spr := vspr } :=
  .step (.same (x := x) (fun _ _ => rfl) h1 h2 h3) k

theorem Kept.set_halyard {s x : Chip} (k : Kept s x) {vhalyard : HalyardState} :
    Kept s { x with halyard := vhalyard } :=
  .step (.same (x := x) (fun _ _ => rfl) rfl rfl rfl) k

theorem Kept.set_inputs {s x : Chip} (k : Kept s x) {vinputs : InputState} :
    Kept s { x with inputs := vinputs } :=
  .step (.same (x := x) (fun _ _ => rfl) rfl rfl rfl) k

theorem Kept.set_lanes {s x : Chip} (k : Kept s x) {vlanes : Store LaneState} :
    Kept s { x with lanes := vlanes } :=
  .step (.same (x := x) (fun _ _ => rfl) rfl rfl rfl) k

theorem Kept.set_live {s x : Chip} (k : Kept s x) {vlive : LiveState} :
    Kept s { x with live := vlive } :=
  .step (.same (x := x) (fun _ _ => rfl) rfl rfl rfl) k

theorem Kept.set_live_sys_engines_inputs_net_storage {s x : Chip} (k : Kept s x) {vlive : LiveState} {vsys : SystemSettings} {vengines : EngineState} {vinputs : InputState} {vnet : NetState} {vstorage : StorageState} :
    Kept s { x with live := vlive, sys := vsys, engines := vengines, inputs := vinputs, net := vnet, storage := vstorage } :=
  .step (.same (x := x) (fun _ _ => rfl) rfl rfl rfl) k

theorem Kept.set_metrology {s x : Chip} (k : Kept s x) {vmetrology : MetrologyState} :
    Kept s { x with metrology := vmetrology } :=
  .step (.same (x := x) (fun _ _ => rfl) rfl rfl rfl) k

theorem Kept.set_modes {s x : Chip} (k : Kept s x) {vmodes : ModeState} :
    Kept s { x with modes := vmodes } :=
  .step (.same (x := x) (fun _ _ => rfl) rfl rfl rfl) k

theorem Kept.set_modes_halyard {s x : Chip} (k : Kept s x) {vmodes : ModeState} {vhalyard : HalyardState} :
    Kept s { x with modes := vmodes, halyard := vhalyard } :=
  .step (.same (x := x) (fun _ _ => rfl) rfl rfl rfl) k

theorem Kept.set_modes_metrology {s x : Chip} (k : Kept s x) {vmodes : ModeState} {vmetrology : MetrologyState} :
    Kept s { x with modes := vmodes, metrology := vmetrology } :=
  .step (.same (x := x) (fun _ _ => rfl) rfl rfl rfl) k

theorem Kept.set_modes_slices {s x : Chip} (k : Kept s x) {vmodes : ModeState} {vslices : SliceTestState} :
    Kept s { x with modes := vmodes, slices := vslices } :=
  .step (.same (x := x) (fun _ _ => rfl) rfl rfl rfl) k

theorem Kept.set_modes_spr {s x : Chip} (k : Kept s x) {vmodes : ModeState} {vspr : SprState} (h1 : vspr.idbUp = x.spr.idbUp) (h2 : vspr.warned = x.spr.warned) (h3 : vspr.discLong = x.spr.discLong) :
    Kept s { x with modes := vmodes, spr := vspr } :=
  .step (.same (x := x) (fun _ _ => rfl) h1 h2 h3) k

theorem Kept.set_net {s x : Chip} (k : Kept s x) {vnet : NetState} :
    Kept s { x with net := vnet } :=
  .step (.same (x := x) (fun _ _ => rfl) rfl rfl rfl) k

theorem Kept.set_pll {s x : Chip} (k : Kept s x) {vpll : PllState} :
    Kept s { x with pll := vpll } :=
  .step (.same (x := x) (fun _ _ => rfl) rfl rfl rfl) k

theorem Kept.set_power {s x : Chip} (k : Kept s x) {vpower : PowerState} :
    Kept s { x with power := vpower } :=
  .step (.same (x := x) (fun _ _ => rfl) rfl rfl rfl) k

theorem Kept.set_security {s x : Chip} (k : Kept s x) {vsecurity : SecurityState} :
    Kept s { x with security := vsecurity } :=
  .step (.same (x := x) (fun _ _ => rfl) rfl rfl rfl) k

theorem Kept.set_slices {s x : Chip} (k : Kept s x) {vslices : SliceTestState} :
    Kept s { x with slices := vslices } :=
  .step (.same (x := x) (fun _ _ => rfl) rfl rfl rfl) k

theorem Kept.set_spr {s x : Chip} (k : Kept s x) {vspr : SprState} (h1 : vspr.idbUp = x.spr.idbUp) (h2 : vspr.warned = x.spr.warned) (h3 : vspr.discLong = x.spr.discLong) :
    Kept s { x with spr := vspr } :=
  .step (.same (x := x) (fun _ _ => rfl) h1 h2 h3) k

theorem Kept.set_sram {s x : Chip} (k : Kept s x) {vsram : SramState} :
    Kept s { x with sram := vsram } :=
  .step (.same (x := x) (fun _ _ => rfl) rfl rfl rfl) k

theorem Kept.set_storage {s x : Chip} (k : Kept s x) {vstorage : StorageState} :
    Kept s { x with storage := vstorage } :=
  .step (.same (x := x) (fun _ _ => rfl) rfl rfl rfl) k

theorem Kept.set_sys {s x : Chip} (k : Kept s x) {vsys : SystemSettings} :
    Kept s { x with sys := vsys } :=
  .step (.same (x := x) (fun _ _ => rfl) rfl rfl rfl) k

theorem Kept.set_thermal {s x : Chip} (k : Kept s x) {vthermal : ThermalState} :
    Kept s { x with thermal := vthermal } :=
  .step (.same (x := x) (fun _ _ => rfl) rfl rfl rfl) k

theorem Kept.set_triggers {s x : Chip} (k : Kept s x) {vtriggers : List RecordCause} :
    Kept s { x with triggers := vtriggers } :=
  .step (.same (x := x) (fun _ _ => rfl) rfl rfl rfl) k

theorem Kept.atInstant {g : Chip → Chip} {s x : Chip} (k : Kept s x) (n due : Nat) (h : ∀ u, Kept s u → Kept s (g u)) :
    Kept s (x.atInstant n due g) := by
  unfold Chip.atInstant
  split
  · exact h _ (.set_clock k)
  · exact k

theorem Kept.wiresFollow {g : Chip → Chip} {s x : Chip} (k : Kept s x) (h : ∀ u, Kept s u → Kept s (g u)) :
    Kept s (x.wiresFollow g) := .within (x.wiresFollow_same g) (h _ k) (by decide) (by decide)

theorem Kept.blockFollows {g : Chip → Chip} {s x : Chip} (k : Kept s x) (h : ∀ u, Kept s u → Kept s (g u)) :
    Kept s (x.blockFollows g) := .within (x.blockFollows_same g) (h _ k) (by decide) (by decide)

/-- What is disjoint from the fields of the wires and from the Shroud's records leaves the conditions of R434 alone. -/
theorem Chip.shroudWithheld_within {F C : Nat} {x y : Chip} (h : Within F C x y) (hF : Nat.land F wireFields = 0)
    (hC : C.testBit 12 = false) : y.shroudWithheld = x.shroudWithheld := by
  have hr : ∀ f, wireFields.testBit f.ctorIdx = true → y.rd f 0 = x.rd f 0 := fun f hf => h.rd f 0 (testBit_disjoint hF hf)
  unfold Chip.shroudWithheld Chip.on
  simp only [hr _ (show wireFields.testBit Fld.shroudStat_sprB.ctorIdx = true by decide),
    hr _ (show wireFields.testBit Fld.shroudStat_lockout.ctorIdx = true by decide),
    hr _ (show wireFields.testBit Fld.pllStat_synthDown.ctorIdx = true by decide), h.spr hC]

/-- Neither the wires nor the records of the judgement enter the conditions of R434. -/
theorem Chip.shroudWithheld_wr (s : Chip) (v i : Nat) (f : Fld)
    (h : f = .shroudStat_withheld ∨ f = .shroudStat_shroudConsent ∨ f = .shroudStat_bw ∨ f = .shroudStat_drvDisable) :
    (s.wr f v i).shroudWithheld = s.shroudWithheld := by
  have hs : (s.wr f v i).spr = s.spr := rfl
  rcases h with rfl | rfl | rfl | rfl <;> simp only [Chip.shroudWithheld, Chip.on, hs] <;> simp [Chip.rd_wr]

/-- Once the Shroud asserts its wires they are safe. -/
theorem Chip.shroudAssert_safe (s : Chip) : s.shroudAssert.wiresSafe = true := by
  refine Kept.within (s.wiresFollow_same _) .refl (by decide) (by decide) ?_
  have h1 : ((s.wr .shroudStat_bw 15).wr .shroudStat_drvDisable 1).rd .shroudStat_bw 0 = 15 := by
    rw [Chip.rd_wr_ne _ _ (by decide), Chip.rd_wr_self]
    rfl
  have h2 : ((s.wr .shroudStat_bw 15).wr .shroudStat_drvDisable 1).rd .shroudStat_drvDisable 0 = 1 := by
    rw [Chip.rd_wr_self]
    rfl
  unfold Chip.wiresSafe Chip.wiresAsserted
  rw [h1, h2]
  rfl

/-- The Shroud's fresh judgement makes its wires safe, whatever they were (R431, R433, R434). -/
theorem Chip.shroudRefresh_safe (s : Chip) : s.shroudRefresh.wiresSafe = true := by
  unfold Chip.shroudRefresh
  extract_lets w a
  split
  · next h =>
    rw [Bool.and_eq_true] at h
    have hw : a.shroudWithheld = w := by
      simp only [a, Chip.wrFlag]
      rw [Chip.shroudWithheld_wr _ _ _ _ (by simp), Chip.shroudWithheld_wr _ _ _ _ (by simp)]
    have hc : a.on .shroudStat_shroudConsent = true := by
      simp only [a, Chip.wrFlag, Chip.on, Chip.rd_wr_self, h.1]
      rfl
    unfold Chip.wiresSafe Chip.consentsPresent
    rw [hw, hc, h.1, h.2]
    simp
  · exact a.shroudAssert_safe

/-- Asserting the wires changes neither the conditions of R434 nor the Shroud's consent. -/
theorem Chip.shroudAssert_judgement (s : Chip) : s.shroudAssert.shroudWithheld = s.shroudWithheld ∧
    s.shroudAssert.rd .shroudStat_shroudConsent = s.rd .shroudStat_shroudConsent := by
  have h := s.wiresFollow_same fun s => (s.wr .shroudStat_bw 15).wr .shroudStat_drvDisable 1
  constructor
  · exact (Chip.shroudWithheld_within h (by decide) (by decide)).trans
      ((Chip.shroudWithheld_wr _ _ _ _ (by simp)).trans (Chip.shroudWithheld_wr _ _ _ _ (by simp)))
  · rw [Chip.shroudAssert, h.rd _ _ (by decide), Chip.rd_wr_ne _ _ (by decide), Chip.rd_wr_ne _ _ (by decide)]

/-- After the judgement the Shroud's consent stands only where nothing withholds it (R434). -/
theorem Chip.shroudRefresh_consent (s : Chip) (h : s.shroudRefresh.on .shroudStat_shroudConsent = true) :
    s.shroudRefresh.shroudWithheld = 0 := by
  have key : s.shroudRefresh.shroudWithheld = s.shroudWithheld ∧
      s.shroudRefresh.rd .shroudStat_shroudConsent = flag (s.shroudWithheld == 0) % 2 := by
    unfold Chip.shroudRefresh
    extract_lets w a
    have ha : a.shroudWithheld = s.shroudWithheld :=
      (Chip.shroudWithheld_wr _ _ _ _ (by simp)).trans (Chip.shroudWithheld_wr _ _ _ _ (by simp))
    have hr : a.rd .shroudStat_shroudConsent = flag (s.shroudWithheld == 0) % 2 := by
      simp only [a, Chip.wrFlag, Chip.rd_wr_self]
      rfl
    clear_value a
    split
    · exact ⟨ha, hr⟩
    · exact ⟨a.shroudAssert_judgement.1.trans ha, a.shroudAssert_judgement.2.trans hr⟩
  rw [key.1]
  unfold Chip.on at h
  rw [key.2] at h
  cases hz : s.shroudWithheld with
  | zero => rfl
  | succ n =>
    rw [hz] at h
    simp [flag] at h

theorem Kept.refresh {s x : Chip} : Kept s x.shroudRefresh := fun _ => x.shroudRefresh_safe

theorem Kept.assert {s x : Chip} : Kept s x.shroudAssert := fun _ => x.shroudAssert_safe

theorem Chip.shroudAssert_wires (s : Chip) : Kept s s.shroudAssert := .assert

/-- The Shroud deasserts only with both consents present (R431). -/
theorem Chip.shroudUnblock_safe (s : Chip) : s.shroudUnblock.wiresSafe = true := by
  have hs := s.shroudRefresh_safe
  have hc := s.shroudRefresh_consent
  unfold Chip.shroudUnblock
  extract_lets a
  have ha : a.wiresSafe = true := hs
  have hc : a.on .shroudStat_shroudConsent = true → a.shroudWithheld = 0 := hc
  clear_value a
  split
  · next h =>
    rw [Bool.and_eq_true] at h
    have hw := hc h.1
    refine Kept.within (a.wiresFollow_same _) .refl (by decide) (by decide) ?_
    have h1 : ((a.wr .shroudStat_bw 0).wr .shroudStat_drvDisable 0).on .shroudStat_shroudConsent = true := by
      simpa [Chip.on, Chip.rd_wr] using h.1
    have h2 : ((a.wr .shroudStat_bw 0).wr .shroudStat_drvDisable 0).on .shroudStat_mastConsent = true := by
      simpa [Chip.on, Chip.rd_wr] using h.2
    unfold Chip.wiresSafe Chip.consentsPresent
    rw [h1, h2, Chip.shroudWithheld_wr _ _ _ _ (by simp), Chip.shroudWithheld_wr _ _ _ _ (by simp), hw]
    simp
  · exact ha

theorem Chip.shroudUnblock_wires (s : Chip) : Kept s s.shroudUnblock := fun _ => s.shroudUnblock_safe

theorem Chip.shroudLatch_safe (s : Chip) (c : HoldCause) : (s.shroudLatch c).wiresSafe = true := Chip.shroudRefresh_safe _

theorem Kept.latch {s x : Chip} {c : HoldCause} : Kept s (x.shroudLatch c) := fun _ => x.shroudLatch_safe c

theorem Chip.shroudLatch_wires (s : Chip) (c : HoldCause) : Kept s (s.shroudLatch c) := .latch

theorem Chip.withdrawConsent_wires (s : Chip) : Kept s (Chip.withdrawConsent s) := by
  unfold Chip.withdrawConsent
  repeat' first
    | (extract_lets +onlyGivenNames x; refine .cut (x := x) ?_ ?_; rotate_left; clear_value x; intro _; rotate_left; subst x)
    | (extract_lets +onlyGivenNames x; refine .cut (x := x.2) ?_ ?_; rotate_left; clear_value x; intro _; rotate_left; subst x)
    | (extract_lets +onlyGivenNames x; refine .cut (x := x.2.2) ?_ ?_; rotate_left; clear_value x; intro _; rotate_left; subst x)
    | (extract_lets +onlyGivenNames x; clear_value x)
    | extract_lets +onlyGivenNames _
    | with_reducible apply Kept.refresh
    | with_reducible apply Kept.assert
    | with_reducible apply Kept.latch
    | with_reducible apply Kept.inputs
    | with_reducible apply Kept.refl
    | with_reducible assumption
    | decide
    | with_reducible apply Kept.within (Chip.shroudRefresh_within _)
    | with_reducible apply Kept.wr
    | split

theorem Chip.setMode_wires (s : Chip) (m : Mode) : Kept s (Chip.setMode s m) := by
  unfold Chip.setMode
  repeat' first
    | (extract_lets +onlyGivenNames x; refine .cut (x := x) ?_ ?_; rotate_left; clear_value x; intro _; rotate_left; subst x)
    | (extract_lets +onlyGivenNames x; refine .cut (x := x.2) ?_ ?_; rotate_left; clear_value x; intro _; rotate_left; subst x)
    | (extract_lets +onlyGivenNames x; refine .cut (x := x.2.2) ?_ ?_; rotate_left; clear_value x; intro _; rotate_left; subst x)
    | (extract_lets +onlyGivenNames x; clear_value x)
    | extract_lets +onlyGivenNames _
    | with_reducible apply Kept.refresh
    | with_reducible apply Kept.assert
    | with_reducible apply Kept.latch
    | with_reducible apply Kept.inputs
    | with_reducible apply Kept.refl
    | with_reducible assumption
    | decide
    | with_reducible apply Kept.within (Chip.clearStaticOn_within _)
    | with_reducible apply Kept.within (Chip.rejudgePending_within _)
    | with_reducible apply Kept.within (Chip.releaseLanes_within _)
    | with_reducible apply Kept.within (Chip.relockDebug_within _)
    | (with_reducible apply Kept.wiresFollow; rotate_left; intro _ _)
    | with_reducible apply Kept.step (Chip.withdrawConsent_wires _)
    | with_reducible apply Kept.wrFlag
    | with_reducible apply Kept.wr
    | (with_reducible apply Kept.each; rotate_left; intro _ _ _)
    | split
    | with_reducible apply Kept.set_halyard
    | with_reducible apply Kept.set_thermal
    | with_reducible apply Kept.set_modes

theorem Chip.enterSafeHold_wires (s : Chip) (c : HoldCause) : Kept s (Chip.enterSafeHold s c) := by
  unfold Chip.enterSafeHold
  repeat' first
    | (extract_lets +onlyGivenNames x; refine .cut (x := x) ?_ ?_; rotate_left; clear_value x; intro _; rotate_left; subst x)
    | (extract_lets +onlyGivenNames x; refine .cut (x := x.2) ?_ ?_; rotate_left; clear_value x; intro _; rotate_left; subst x)
    | (extract_lets +onlyGivenNames x; refine .cut (x := x.2.2) ?_ ?_; rotate_left; clear_value x; intro _; rotate_left; subst x)
    | (extract_lets +onlyGivenNames x; clear_value x)
    | extract_lets +onlyGivenNames _
    | with_reducible apply Kept.refresh
    | with_reducible apply Kept.assert
    | with_reducible apply Kept.latch
    | with_reducible apply Kept.inputs
    | with_reducible apply Kept.refl
    | with_reducible assumption
    | decide
    | (with_reducible apply Kept.blockFollows; rotate_left; intro _ _)
    | with_reducible apply Kept.within (Chip.closeWindow_within _)
    | with_reducible apply Kept.within (Chip.freezeAlive_within _)
    | with_reducible apply Kept.step (Chip.setMode_wires _ _)
    | with_reducible apply Kept.within (Chip.trigger_within _ _)
    | with_reducible apply Kept.within (Chip.wantLockoutEntry_within _ _ _)
    | with_reducible apply Kept.wrFlag
    | with_reducible apply Kept.wr
    | split
    | with_reducible apply Kept.set_modes

theorem Chip.sendReaction_wires (s : Chip) (c : HoldCause) : Kept s (Chip.sendReaction s c) := by
  unfold Chip.sendReaction
  repeat' first
    | (extract_lets +onlyGivenNames x; refine .cut (x := x) ?_ ?_; rotate_left; clear_value x; intro _; rotate_left; subst x)
    | (extract_lets +onlyGivenNames x; refine .cut (x := x.2) ?_ ?_; rotate_left; clear_value x; intro _; rotate_left; subst x)
    | (extract_lets +onlyGivenNames x; refine .cut (x := x.2.2) ?_ ?_; rotate_left; clear_value x; intro _; rotate_left; subst x)
    | extract_lets +onlyGivenNames _
    | with_reducible apply Kept.refresh
    | with_reducible apply Kept.assert
    | with_reducible apply Kept.latch
    | with_reducible apply Kept.inputs
    | with_reducible apply Kept.refl
    | with_reducible assumption
    | decide
    | rfl
    | with_reducible apply Kept.step (Chip.shroudLatch_wires _ _)
    | split
    | with_reducible apply Kept.set_spr

theorem Chip.severeReaction_wires (s : Chip) : Kept s (Chip.severeReaction s) := by
  unfold Chip.severeReaction
  repeat' first
    | (extract_lets +onlyGivenNames x; refine .cut (x := x) ?_ ?_; rotate_left; clear_value x; intro _; rotate_left; subst x)
    | (extract_lets +onlyGivenNames x; refine .cut (x := x.2) ?_ ?_; rotate_left; clear_value x; intro _; rotate_left; subst x)
    | (extract_lets +onlyGivenNames x; refine .cut (x := x.2.2) ?_ ?_; rotate_left; clear_value x; intro _; rotate_left; subst x)
    | (extract_lets +onlyGivenNames x; clear_value x)
    | extract_lets +onlyGivenNames _
    | with_reducible apply Kept.refresh
    | with_reducible apply Kept.assert
    | with_reducible apply Kept.latch
    | with_reducible apply Kept.inputs
    | with_reducible apply Kept.refl
    | with_reducible assumption
    | decide
    | with_reducible apply Kept.step (Chip.enterSafeHold_wires _ _)
    | with_reducible apply Kept.step (Chip.sendReaction_wires _ _)
    | split

theorem Chip.sprReaction_wires (s : Chip) : Kept s (Chip.sprReaction s) := by
  unfold Chip.sprReaction
  repeat' first
    | (extract_lets +onlyGivenNames x; refine .cut (x := x) ?_ ?_; rotate_left; clear_value x; intro _; rotate_left; subst x)
    | (extract_lets +onlyGivenNames x; refine .cut (x := x.2) ?_ ?_; rotate_left; clear_value x; intro _; rotate_left; subst x)
    | (extract_lets +onlyGivenNames x; refine .cut (x := x.2.2) ?_ ?_; rotate_left; clear_value x; intro _; rotate_left; subst x)
    | (extract_lets +onlyGivenNames x; clear_value x)
    | extract_lets +onlyGivenNames _
    | with_reducible apply Kept.refresh
    | with_reducible apply Kept.assert
    | with_reducible apply Kept.latch
    | with_reducible apply Kept.inputs
    | with_reducible apply Kept.refl
    | with_reducible assumption
    | decide
    | with_reducible apply Kept.step (Chip.enterSafeHold_wires _ _)
    | with_reducible apply Kept.step (Chip.sendReaction_wires _ _)
    | split

theorem Chip.shutdownStep3_wires (s : Chip) : Kept s (Chip.shutdownStep3 s) := by
  unfold Chip.shutdownStep3
  repeat' first
    | (extract_lets +onlyGivenNames x; refine .cut (x := x) ?_ ?_; rotate_left; clear_value x; intro _; rotate_left; subst x)
    | (extract_lets +onlyGivenNames x; refine .cut (x := x.2) ?_ ?_; rotate_left; clear_value x; intro _; rotate_left; subst x)
    | (extract_lets +onlyGivenNames x; refine .cut (x := x.2.2) ?_ ?_; rotate_left; clear_value x; intro _; rotate_left; subst x)
    | (extract_lets +onlyGivenNames x; clear_value x)
    | extract_lets +onlyGivenNames _
    | with_reducible apply Kept.refresh
    | with_reducible apply Kept.assert
    | with_reducible apply Kept.latch
    | with_reducible apply Kept.inputs
    | with_reducible apply Kept.refl
    | with_reducible assumption
    | decide
    | with_reducible apply Kept.step (Chip.enterSafeHold_wires _ _)
    | with_reducible apply Kept.within (Chip.raise_within _ _)
    | with_reducible apply Kept.wr
    | split

theorem Chip.declareShutdown_wires (s : Chip) (k : Nat) : Kept s (Chip.declareShutdown s k) := by
  unfold Chip.declareShutdown
  repeat' first
    | (extract_lets +onlyGivenNames x; refine .cut (x := x) ?_ ?_; rotate_left; clear_value x; intro _; rotate_left; subst x)
    | (extract_lets +onlyGivenNames x; refine .cut (x := x.2) ?_ ?_; rotate_left; clear_value x; intro _; rotate_left; subst x)
    | (extract_lets +onlyGivenNames x; refine .cut (x := x.2.2) ?_ ?_; rotate_left; clear_value x; intro _; rotate_left; subst x)
    | (extract_lets +onlyGivenNames x; clear_value x)
    | extract_lets +onlyGivenNames _
    | with_reducible apply Kept.refresh
    | with_reducible apply Kept.assert
    | with_reducible apply Kept.latch
    | with_reducible apply Kept.inputs
    | with_reducible apply Kept.refl
    | with_reducible assumption
    | decide
    | with_reducible apply Kept.within (Chip.raise_within _ _)
    | with_reducible apply Kept.step (Chip.shutdownStep3_wires _)
    | with_reducible apply Kept.count
    | with_reducible apply Kept.wr
    | split
    | with_reducible apply Kept.set_thermal

theorem Chip.checkShutdown_wires (s : Chip) : Kept s (Chip.checkShutdown s) := by
  unfold Chip.checkShutdown
  repeat' first
    | (extract_lets +onlyGivenNames x; refine .cut (x := x) ?_ ?_; rotate_left; clear_value x; intro _; rotate_left; subst x)
    | (extract_lets +onlyGivenNames x; refine .cut (x := x.2) ?_ ?_; rotate_left; clear_value x; intro _; rotate_left; subst x)
    | (extract_lets +onlyGivenNames x; refine .cut (x := x.2.2) ?_ ?_; rotate_left; clear_value x; intro _; rotate_left; subst x)
    | (extract_lets +onlyGivenNames x; clear_value x)
    | extract_lets +onlyGivenNames _
    | with_reducible apply Kept.refresh
    | with_reducible apply Kept.assert
    | with_reducible apply Kept.latch
    | with_reducible apply Kept.inputs
    | with_reducible apply Kept.refl
    | with_reducible assumption
    | decide
    | with_reducible apply Kept.step (Chip.declareShutdown_wires _ _)
    | split
    | with_reducible apply Kept.set_thermal

theorem Chip.evaluate_wires (s : Chip) (raw : List SensorReading) : Kept s (Chip.evaluate s raw) := by
  unfold Chip.evaluate
  repeat' first
    | (extract_lets +onlyGivenNames x; refine .cut (x := x) ?_ ?_; rotate_left; clear_value x; intro _; rotate_left; subst x)
    | (extract_lets +onlyGivenNames x; refine .cut (x := x.2) ?_ ?_; rotate_left; clear_value x; intro _; rotate_left; subst x)
    | (extract_lets +onlyGivenNames x; refine .cut (x := x.2.2) ?_ ?_; rotate_left; clear_value x; intro _; rotate_left; subst x)
    | (extract_lets +onlyGivenNames x; clear_value x)
    | extract_lets +onlyGivenNames _
    | with_reducible apply Kept.refresh
    | with_reducible apply Kept.assert
    | with_reducible apply Kept.latch
    | with_reducible apply Kept.inputs
    | with_reducible apply Kept.refl
    | with_reducible assumption
    | decide
    | with_reducible apply Kept.within (Chip.checkCalm_within _)
    | with_reducible apply Kept.within (Chip.checkCharger_within _)
    | with_reducible apply Kept.within (Chip.checkHood_within _ _)
    | with_reducible apply Kept.within (Chip.checkLimit_within _ _)
    | with_reducible apply Kept.within (Chip.checkRate_within _ _)
    | with_reducible apply Kept.within (Chip.checkRearm_within _)
    | with_reducible apply Kept.within (Chip.checkReef_within _)
    | with_reducible apply Kept.step (Chip.checkShutdown_wires _)
    | with_reducible apply Kept.within (Chip.granary_within _)
    | with_reducible apply Kept.within (Chip.takeReading_within _ _ _)
    | with_reducible apply Kept.wrFlag
    | with_reducible apply Kept.wrInt
    | (with_reducible apply Kept.each; rotate_left; intro _ _ _)
    | (with_reducible apply Kept.onlyIf; rotate_left; intro _ _)
    | split
    | with_reducible apply Kept.set_thermal

theorem Chip.thermalEvaluation_wires (s : Chip) (raw : List SensorReading) : Kept s (Chip.thermalEvaluation s raw) := by
  unfold Chip.thermalEvaluation
  repeat' first
    | (extract_lets +onlyGivenNames x; refine .cut (x := x) ?_ ?_; rotate_left; clear_value x; intro _; rotate_left; subst x)
    | (extract_lets +onlyGivenNames x; refine .cut (x := x.2) ?_ ?_; rotate_left; clear_value x; intro _; rotate_left; subst x)
    | (extract_lets +onlyGivenNames x; refine .cut (x := x.2.2) ?_ ?_; rotate_left; clear_value x; intro _; rotate_left; subst x)
    | (extract_lets +onlyGivenNames x; clear_value x)
    | extract_lets +onlyGivenNames _
    | with_reducible apply Kept.refresh
    | with_reducible apply Kept.assert
    | with_reducible apply Kept.latch
    | with_reducible apply Kept.inputs
    | with_reducible apply Kept.refl
    | with_reducible assumption
    | decide
    | with_reducible apply Kept.step (Chip.evaluate_wires _ _)
    | split
    | with_reducible apply Kept.set_thermal

theorem Chip.enterMode_wires (s : Chip) (m : Mode) : Kept s (Chip.enterMode s m) := by
  unfold Chip.enterMode
  repeat' first
    | (extract_lets +onlyGivenNames x; refine .cut (x := x) ?_ ?_; rotate_left; clear_value x; intro _; rotate_left; subst x)
    | (extract_lets +onlyGivenNames x; refine .cut (x := x.2) ?_ ?_; rotate_left; clear_value x; intro _; rotate_left; subst x)
    | (extract_lets +onlyGivenNames x; refine .cut (x := x.2.2) ?_ ?_; rotate_left; clear_value x; intro _; rotate_left; subst x)
    | (extract_lets +onlyGivenNames x; clear_value x)
    | extract_lets +onlyGivenNames _
    | with_reducible apply Kept.refresh
    | with_reducible apply Kept.assert
    | with_reducible apply Kept.latch
    | with_reducible apply Kept.inputs
    | with_reducible apply Kept.refl
    | with_reducible assumption
    | decide
    | with_reducible apply Kept.within (Chip.phaseStep_within _ _)
    | with_reducible apply Kept.step (Chip.setMode_wires _ _)
    | (with_reducible apply Kept.each; rotate_left; intro _ _ _)
    | split

theorem Chip.stopSynthesisers_wires (s : Chip) : Kept s s.stopSynthesisers := by
  unfold Chip.stopSynthesisers
  extract_lets
  exact .refresh

theorem Chip.locked_wires (s : Chip) (path band : Nat) : Kept s (s.locked path band) := by
  unfold Chip.locked
  extract_lets
  exact .refresh

theorem Chip.pllLock_wires (s : Chip) (ok : Bool × Bool × Bool) (band : Nat) (temp : Option Int) : Kept s (Chip.pllLock s ok band temp) := by
  unfold Chip.pllLock
  repeat' first
    | (extract_lets +onlyGivenNames x; refine .cut (x := x) ?_ ?_; rotate_left; clear_value x; intro _; rotate_left; subst x)
    | (extract_lets +onlyGivenNames x; refine .cut (x := x.2) ?_ ?_; rotate_left; clear_value x; intro _; rotate_left; subst x)
    | (extract_lets +onlyGivenNames x; refine .cut (x := x.2.2) ?_ ?_; rotate_left; clear_value x; intro _; rotate_left; subst x)
    | (extract_lets +onlyGivenNames x; clear_value x)
    | extract_lets +onlyGivenNames _
    | with_reducible apply Kept.refresh
    | with_reducible apply Kept.assert
    | with_reducible apply Kept.latch
    | with_reducible apply Kept.inputs
    | with_reducible apply Kept.refl
    | with_reducible assumption
    | decide
    | with_reducible apply Kept.step (Chip.locked_wires _ _ _)
    | split
    | with_reducible apply Kept.set_pll

theorem Chip.hop_wires (s : Chip) (p : Nat) (edges : Bool) : Kept s (Chip.hop s p edges) := by
  unfold Chip.hop
  repeat' first
    | (extract_lets +onlyGivenNames x; refine .cut (x := x) ?_ ?_; rotate_left; clear_value x; intro _; rotate_left; subst x)
    | (extract_lets +onlyGivenNames x; refine .cut (x := x.2) ?_ ?_; rotate_left; clear_value x; intro _; rotate_left; subst x)
    | (extract_lets +onlyGivenNames x; refine .cut (x := x.2.2) ?_ ?_; rotate_left; clear_value x; intro _; rotate_left; subst x)
    | (extract_lets +onlyGivenNames x; clear_value x)
    | extract_lets +onlyGivenNames _
    | with_reducible apply Kept.refresh
    | with_reducible apply Kept.assert
    | with_reducible apply Kept.latch
    | with_reducible apply Kept.inputs
    | with_reducible apply Kept.refl
    | with_reducible assumption
    | decide
    | with_reducible apply Kept.within (Chip.anchorPtp_within _)
    | with_reducible apply Kept.step (Chip.stopSynthesisers_wires _)
    | with_reducible apply Kept.wrFlag
    | with_reducible apply Kept.wr
    | split

theorem Chip.hopRequest_wires (s : Chip) (p : Nat) (edges : Bool) : Kept s (Chip.hopRequest s p edges) := by
  unfold Chip.hopRequest
  repeat' first
    | (extract_lets +onlyGivenNames x; refine .cut (x := x) ?_ ?_; rotate_left; clear_value x; intro _; rotate_left; subst x)
    | (extract_lets +onlyGivenNames x; refine .cut (x := x.2) ?_ ?_; rotate_left; clear_value x; intro _; rotate_left; subst x)
    | (extract_lets +onlyGivenNames x; refine .cut (x := x.2.2) ?_ ?_; rotate_left; clear_value x; intro _; rotate_left; subst x)
    | (extract_lets +onlyGivenNames x; clear_value x)
    | extract_lets +onlyGivenNames _
    | with_reducible apply Kept.refresh
    | with_reducible apply Kept.assert
    | with_reducible apply Kept.latch
    | with_reducible apply Kept.inputs
    | with_reducible apply Kept.refl
    | with_reducible assumption
    | decide
    | with_reducible apply Kept.step (Chip.hop_wires _ _ _)
    | with_reducible apply Kept.within (Chip.raise_within _ _)
    | split

theorem Chip.clockLossMode_wires (s : Chip) : Kept s (Chip.clockLossMode s) := by
  unfold Chip.clockLossMode
  repeat' first
    | (extract_lets +onlyGivenNames x; refine .cut (x := x) ?_ ?_; rotate_left; clear_value x; intro _; rotate_left; subst x)
    | (extract_lets +onlyGivenNames x; refine .cut (x := x.2) ?_ ?_; rotate_left; clear_value x; intro _; rotate_left; subst x)
    | (extract_lets +onlyGivenNames x; refine .cut (x := x.2.2) ?_ ?_; rotate_left; clear_value x; intro _; rotate_left; subst x)
    | (extract_lets +onlyGivenNames x; clear_value x)
    | extract_lets +onlyGivenNames _
    | with_reducible apply Kept.refresh
    | with_reducible apply Kept.assert
    | with_reducible apply Kept.latch
    | with_reducible apply Kept.inputs
    | with_reducible apply Kept.refl
    | with_reducible assumption
    | decide
    | with_reducible apply Kept.within (Chip.closeWindow_within _)
    | with_reducible apply Kept.step (Chip.enterSafeHold_wires _ _)
    | split
    | with_reducible apply Kept.set_pll

theorem Chip.referenceLost_wires (s : Chip) : Kept s (Chip.referenceLost s) := by
  unfold Chip.referenceLost
  repeat' first
    | (extract_lets +onlyGivenNames x; refine .cut (x := x) ?_ ?_; rotate_left; clear_value x; intro _; rotate_left; subst x)
    | (extract_lets +onlyGivenNames x; refine .cut (x := x.2) ?_ ?_; rotate_left; clear_value x; intro _; rotate_left; subst x)
    | (extract_lets +onlyGivenNames x; refine .cut (x := x.2.2) ?_ ?_; rotate_left; clear_value x; intro _; rotate_left; subst x)
    | (extract_lets +onlyGivenNames x; clear_value x)
    | extract_lets +onlyGivenNames _
    | with_reducible apply Kept.refresh
    | with_reducible apply Kept.assert
    | with_reducible apply Kept.latch
    | with_reducible apply Kept.inputs
    | with_reducible apply Kept.refl
    | with_reducible assumption
    | decide
    | with_reducible apply Kept.step (Chip.clockLossMode_wires _)
    | with_reducible apply Kept.within (Chip.raise_within _ _)
    | with_reducible apply Kept.count
    | with_reducible apply Kept.wr
    | (with_reducible apply Kept.onlyIf; rotate_left; intro _ _)
    | split
    | with_reducible apply Kept.set_pll

theorem Chip.lockLost_wires (s : Chip) : Kept s (Chip.lockLost s) := by
  unfold Chip.lockLost
  repeat' first
    | (extract_lets +onlyGivenNames x; refine .cut (x := x) ?_ ?_; rotate_left; clear_value x; intro _; rotate_left; subst x)
    | (extract_lets +onlyGivenNames x; refine .cut (x := x.2) ?_ ?_; rotate_left; clear_value x; intro _; rotate_left; subst x)
    | (extract_lets +onlyGivenNames x; refine .cut (x := x.2.2) ?_ ?_; rotate_left; clear_value x; intro _; rotate_left; subst x)
    | (extract_lets +onlyGivenNames x; clear_value x)
    | extract_lets +onlyGivenNames _
    | with_reducible apply Kept.refresh
    | with_reducible apply Kept.assert
    | with_reducible apply Kept.latch
    | with_reducible apply Kept.inputs
    | with_reducible apply Kept.refl
    | with_reducible assumption
    | decide
    | with_reducible apply Kept.step (Chip.clockLossMode_wires _)
    | with_reducible apply Kept.step (Chip.stopSynthesisers_wires _)
    | with_reducible apply Kept.count
    | split

theorem Chip.holdoverExpiry_wires (s : Chip) : Kept s (Chip.holdoverExpiry s) := by
  unfold Chip.holdoverExpiry
  repeat' first
    | (extract_lets +onlyGivenNames x; refine .cut (x := x) ?_ ?_; rotate_left; clear_value x; intro _; rotate_left; subst x)
    | (extract_lets +onlyGivenNames x; refine .cut (x := x.2) ?_ ?_; rotate_left; clear_value x; intro _; rotate_left; subst x)
    | (extract_lets +onlyGivenNames x; refine .cut (x := x.2.2) ?_ ?_; rotate_left; clear_value x; intro _; rotate_left; subst x)
    | (extract_lets +onlyGivenNames x; clear_value x)
    | extract_lets +onlyGivenNames _
    | with_reducible apply Kept.refresh
    | with_reducible apply Kept.assert
    | with_reducible apply Kept.latch
    | with_reducible apply Kept.inputs
    | with_reducible apply Kept.refl
    | with_reducible assumption
    | decide
    | with_reducible apply Kept.step (Chip.stopSynthesisers_wires _)
    | split

theorem Chip.partnerRules_wires (s : Chip) : Kept s (Chip.partnerRules s) := by
  unfold Chip.partnerRules
  repeat' first
    | (extract_lets +onlyGivenNames x; refine .cut (x := x) ?_ ?_; rotate_left; clear_value x; intro _; rotate_left; subst x)
    | (extract_lets +onlyGivenNames x; refine .cut (x := x.2) ?_ ?_; rotate_left; clear_value x; intro _; rotate_left; subst x)
    | (extract_lets +onlyGivenNames x; refine .cut (x := x.2.2) ?_ ?_; rotate_left; clear_value x; intro _; rotate_left; subst x)
    | (extract_lets +onlyGivenNames x; clear_value x)
    | extract_lets +onlyGivenNames _
    | with_reducible apply Kept.refresh
    | with_reducible apply Kept.assert
    | with_reducible apply Kept.latch
    | with_reducible apply Kept.inputs
    | with_reducible apply Kept.refl
    | with_reducible assumption
    | decide
    | with_reducible apply Kept.within (Chip.raise_within _ _)
    | with_reducible apply Kept.step (Chip.severeReaction_wires _)
    | split
    | with_reducible apply Kept.set_halyard
    | with_reducible apply Kept.set_pll

theorem Chip.halyardHeader_wires (s : Chip) (n : Nat) (h : BitVec 32) : Kept s (Chip.halyardHeader s n h) := by
  unfold Chip.halyardHeader
  repeat' first
    | (extract_lets +onlyGivenNames x; refine .cut (x := x) ?_ ?_; rotate_left; clear_value x; intro _; rotate_left; subst x)
    | (extract_lets +onlyGivenNames x; refine .cut (x := x.2) ?_ ?_; rotate_left; clear_value x; intro _; rotate_left; subst x)
    | (extract_lets +onlyGivenNames x; refine .cut (x := x.2.2) ?_ ?_; rotate_left; clear_value x; intro _; rotate_left; subst x)
    | (extract_lets +onlyGivenNames x; clear_value x)
    | extract_lets +onlyGivenNames _
    | with_reducible apply Kept.refresh
    | with_reducible apply Kept.assert
    | with_reducible apply Kept.latch
    | with_reducible apply Kept.inputs
    | with_reducible apply Kept.refl
    | with_reducible assumption
    | decide
    | (with_reducible apply Kept.blockFollows; rotate_left; intro _ _)
    | with_reducible apply Kept.step (Chip.partnerRules_wires _)
    | with_reducible apply Kept.within (Chip.setLane_within _ _ _)
    | with_reducible apply Kept.within (Chip.showPartner_within _ _)
    | with_reducible apply Kept.wrFlag
    | with_reducible apply Kept.count
    | with_reducible apply Kept.wr
    | split
    | with_reducible apply Kept.set_halyard

theorem Chip.takeOver_wires (s : Chip) : Kept s (Chip.takeOver s) := by
  unfold Chip.takeOver
  repeat' first
    | (extract_lets +onlyGivenNames x; refine .cut (x := x) ?_ ?_; rotate_left; clear_value x; intro _; rotate_left; subst x)
    | (extract_lets +onlyGivenNames x; refine .cut (x := x.2) ?_ ?_; rotate_left; clear_value x; intro _; rotate_left; subst x)
    | (extract_lets +onlyGivenNames x; refine .cut (x := x.2.2) ?_ ?_; rotate_left; clear_value x; intro _; rotate_left; subst x)
    | (extract_lets +onlyGivenNames x; clear_value x)
    | extract_lets +onlyGivenNames _
    | with_reducible apply Kept.refresh
    | with_reducible apply Kept.assert
    | with_reducible apply Kept.latch
    | with_reducible apply Kept.inputs
    | with_reducible apply Kept.refl
    | with_reducible assumption
    | decide
    | with_reducible apply Kept.step (Chip.setMode_wires _ _)
    | with_reducible apply Kept.wrFlag
    | with_reducible apply Kept.count
    | with_reducible apply Kept.wr
    | (with_reducible apply Kept.each; rotate_left; intro _ _ _)
    | split
    | with_reducible apply Kept.set_modes
    | with_reducible apply Kept.set_halyard

theorem Chip.yield_wires (s : Chip) : Kept s (Chip.yield s) := by
  unfold Chip.yield
  repeat' first
    | (extract_lets +onlyGivenNames x; refine .cut (x := x) ?_ ?_; rotate_left; clear_value x; intro _; rotate_left; subst x)
    | (extract_lets +onlyGivenNames x; refine .cut (x := x.2) ?_ ?_; rotate_left; clear_value x; intro _; rotate_left; subst x)
    | (extract_lets +onlyGivenNames x; refine .cut (x := x.2.2) ?_ ?_; rotate_left; clear_value x; intro _; rotate_left; subst x)
    | (extract_lets +onlyGivenNames x; clear_value x)
    | extract_lets +onlyGivenNames _
    | with_reducible apply Kept.refresh
    | with_reducible apply Kept.assert
    | with_reducible apply Kept.latch
    | with_reducible apply Kept.inputs
    | with_reducible apply Kept.refl
    | with_reducible assumption
    | decide
    | with_reducible apply Kept.step (Chip.setMode_wires _ _)
    | with_reducible apply Kept.count
    | with_reducible apply Kept.wr
    | split
    | with_reducible apply Kept.set_halyard

theorem Chip.yieldDeadline_wires (s : Chip) : Kept s (Chip.yieldDeadline s) := by
  unfold Chip.yieldDeadline
  repeat' first
    | (extract_lets +onlyGivenNames x; refine .cut (x := x) ?_ ?_; rotate_left; clear_value x; intro _; rotate_left; subst x)
    | (extract_lets +onlyGivenNames x; refine .cut (x := x.2) ?_ ?_; rotate_left; clear_value x; intro _; rotate_left; subst x)
    | (extract_lets +onlyGivenNames x; refine .cut (x := x.2.2) ?_ ?_; rotate_left; clear_value x; intro _; rotate_left; subst x)
    | (extract_lets +onlyGivenNames x; clear_value x)
    | extract_lets +onlyGivenNames _
    | with_reducible apply Kept.refresh
    | with_reducible apply Kept.assert
    | with_reducible apply Kept.latch
    | with_reducible apply Kept.inputs
    | with_reducible apply Kept.refl
    | with_reducible assumption
    | decide
    | with_reducible apply Kept.step (Chip.enterSafeHold_wires _ _)
    | with_reducible apply Kept.step (Chip.yield_wires _)
    | split
    | with_reducible apply Kept.set_pll

theorem Chip.roleBoundary_wires (s : Chip) : Kept s (Chip.roleBoundary s) := by
  unfold Chip.roleBoundary
  repeat' first
    | (extract_lets +onlyGivenNames x; refine .cut (x := x) ?_ ?_; rotate_left; clear_value x; intro _; rotate_left; subst x)
    | (extract_lets +onlyGivenNames x; refine .cut (x := x.2) ?_ ?_; rotate_left; clear_value x; intro _; rotate_left; subst x)
    | (extract_lets +onlyGivenNames x; refine .cut (x := x.2.2) ?_ ?_; rotate_left; clear_value x; intro _; rotate_left; subst x)
    | (extract_lets +onlyGivenNames x; clear_value x)
    | extract_lets +onlyGivenNames _
    | with_reducible apply Kept.refresh
    | with_reducible apply Kept.assert
    | with_reducible apply Kept.latch
    | with_reducible apply Kept.inputs
    | with_reducible apply Kept.refl
    | with_reducible assumption
    | decide
    | with_reducible apply Kept.step (Chip.takeOver_wires _)
    | with_reducible apply Kept.step (Chip.yield_wires _)
    | split
    | with_reducible apply Kept.set_halyard

theorem Chip.probeBoundary_wires (s : Chip) : Kept s (Chip.probeBoundary s) := by
  unfold Chip.probeBoundary
  repeat' first
    | (extract_lets +onlyGivenNames x; refine .cut (x := x) ?_ ?_; rotate_left; clear_value x; intro _; rotate_left; subst x)
    | (extract_lets +onlyGivenNames x; refine .cut (x := x.2) ?_ ?_; rotate_left; clear_value x; intro _; rotate_left; subst x)
    | (extract_lets +onlyGivenNames x; refine .cut (x := x.2.2) ?_ ?_; rotate_left; clear_value x; intro _; rotate_left; subst x)
    | (extract_lets +onlyGivenNames x; clear_value x)
    | extract_lets +onlyGivenNames _
    | with_reducible apply Kept.refresh
    | with_reducible apply Kept.assert
    | with_reducible apply Kept.latch
    | with_reducible apply Kept.inputs
    | with_reducible apply Kept.refl
    | with_reducible assumption
    | decide
    | with_reducible apply Kept.within (Chip.dropPending_within _)
    | with_reducible apply Kept.step (Chip.enterMode_wires _ _)
    | split
    | with_reducible apply Kept.set_halyard

theorem Chip.handoverAct_wires (s : Chip) : Kept s (Chip.handoverAct s) := by
  unfold Chip.handoverAct
  repeat' first
    | (extract_lets +onlyGivenNames x; refine .cut (x := x) ?_ ?_; rotate_left; clear_value x; intro _; rotate_left; subst x)
    | (extract_lets +onlyGivenNames x; refine .cut (x := x.2) ?_ ?_; rotate_left; clear_value x; intro _; rotate_left; subst x)
    | (extract_lets +onlyGivenNames x; refine .cut (x := x.2.2) ?_ ?_; rotate_left; clear_value x; intro _; rotate_left; subst x)
    | (extract_lets +onlyGivenNames x; clear_value x)
    | extract_lets +onlyGivenNames _
    | with_reducible apply Kept.refresh
    | with_reducible apply Kept.assert
    | with_reducible apply Kept.latch
    | with_reducible apply Kept.inputs
    | with_reducible apply Kept.refl
    | with_reducible assumption
    | decide
    | with_reducible apply Kept.within (Chip.alignSilent_within _)
    | with_reducible apply Kept.within (Chip.snapshotAnew_within _)
    | with_reducible apply Kept.step (Chip.takeOver_wires _)
    | with_reducible apply Kept.step (Chip.yield_wires _)
    | with_reducible apply Kept.wr
    | split
    | with_reducible apply Kept.set_halyard

theorem Chip.escalate_wires (s : Chip) (src : Nat) : Kept s (Chip.escalate s src) := by
  unfold Chip.escalate
  repeat' first
    | (extract_lets +onlyGivenNames x; refine .cut (x := x) ?_ ?_; rotate_left; clear_value x; intro _; rotate_left; subst x)
    | (extract_lets +onlyGivenNames x; refine .cut (x := x.2) ?_ ?_; rotate_left; clear_value x; intro _; rotate_left; subst x)
    | (extract_lets +onlyGivenNames x; refine .cut (x := x.2.2) ?_ ?_; rotate_left; clear_value x; intro _; rotate_left; subst x)
    | (extract_lets +onlyGivenNames x; clear_value x)
    | extract_lets +onlyGivenNames _
    | with_reducible apply Kept.refresh
    | with_reducible apply Kept.assert
    | with_reducible apply Kept.latch
    | with_reducible apply Kept.inputs
    | with_reducible apply Kept.refl
    | with_reducible assumption
    | decide
    | with_reducible apply Kept.within (Chip.degradeOrigin_within _ _)
    | with_reducible apply Kept.within (Chip.logFault_within _ _ _)
    | with_reducible apply Kept.within (Chip.recordEscalation_within _ _ _)
    | with_reducible apply Kept.within (Chip.setEscalation_within _ _)
    | with_reducible apply Kept.step (Chip.severeReaction_wires _)
    | with_reducible apply Kept.count
    | with_reducible apply Kept.wr
    | (with_reducible apply Kept.each; rotate_left; intro _ _ _)
    | split

theorem Chip.faultEvents_wires (s : Chip) (origins : List Nat) : Kept s (Chip.faultEvents s origins) := by
  unfold Chip.faultEvents
  repeat' first
    | (extract_lets +onlyGivenNames x; refine .cut (x := x) ?_ ?_; rotate_left; clear_value x; intro _; rotate_left; subst x)
    | (extract_lets +onlyGivenNames x; refine .cut (x := x.2) ?_ ?_; rotate_left; clear_value x; intro _; rotate_left; subst x)
    | (extract_lets +onlyGivenNames x; refine .cut (x := x.2.2) ?_ ?_; rotate_left; clear_value x; intro _; rotate_left; subst x)
    | (extract_lets +onlyGivenNames x; clear_value x)
    | extract_lets +onlyGivenNames _
    | with_reducible apply Kept.refresh
    | with_reducible apply Kept.assert
    | with_reducible apply Kept.latch
    | with_reducible apply Kept.inputs
    | with_reducible apply Kept.refl
    | with_reducible assumption
    | decide
    | with_reducible apply Kept.within (Chip.creditEvents_within _ _)
    | with_reducible apply Kept.step (Chip.escalate_wires _ _)
    | with_reducible apply Kept.within (Chip.mergeEscalation_within _ _)
    | (with_reducible apply Kept.each; rotate_left; intro _ _ _)
    | split

theorem Kept.inputs {s x : Chip} : Kept s x.shroudInputs := .refresh

theorem Chip.shroudInputs_wires (s : Chip) : Kept s s.shroudInputs := .inputs

theorem Chip.episodeOver_wires (s : Chip) : Kept s (Chip.episodeOver s) := by
  unfold Chip.episodeOver
  repeat' first
    | (extract_lets +onlyGivenNames x; refine .cut (x := x) ?_ ?_; rotate_left; clear_value x; intro _; rotate_left; subst x)
    | (extract_lets +onlyGivenNames x; refine .cut (x := x.2) ?_ ?_; rotate_left; clear_value x; intro _; rotate_left; subst x)
    | (extract_lets +onlyGivenNames x; refine .cut (x := x.2.2) ?_ ?_; rotate_left; clear_value x; intro _; rotate_left; subst x)
    | extract_lets +onlyGivenNames _
    | with_reducible apply Kept.refresh
    | with_reducible apply Kept.assert
    | with_reducible apply Kept.latch
    | with_reducible apply Kept.inputs
    | with_reducible apply Kept.refl
    | with_reducible assumption
    | decide
    | rfl
    | split
    | with_reducible apply Kept.set_spr

theorem Chip.sprToMast_wires (s : Chip) : Kept s (Chip.sprToMast s) := by
  unfold Chip.sprToMast
  repeat' first
    | (extract_lets +onlyGivenNames x; refine .cut (x := x) ?_ ?_; rotate_left; clear_value x; intro _; rotate_left; subst x)
    | (extract_lets +onlyGivenNames x; refine .cut (x := x.2) ?_ ?_; rotate_left; clear_value x; intro _; rotate_left; subst x)
    | (extract_lets +onlyGivenNames x; refine .cut (x := x.2.2) ?_ ?_; rotate_left; clear_value x; intro _; rotate_left; subst x)
    | extract_lets +onlyGivenNames _
    | with_reducible apply Kept.refresh
    | with_reducible apply Kept.assert
    | with_reducible apply Kept.latch
    | with_reducible apply Kept.inputs
    | with_reducible apply Kept.refl
    | with_reducible assumption
    | decide
    | rfl
    | with_reducible apply Kept.step (Chip.episodeOver_wires _)
    | with_reducible apply Kept.step (Chip.sprReaction_wires _)
    | with_reducible apply Kept.step (Chip.withdrawConsent_wires _)
    | with_reducible apply Kept.wrFlag
    | with_reducible apply Kept.count
    | (with_reducible apply Kept.onlyIf; rotate_left; intro _ _)
    | split
    | with_reducible apply Kept.set_spr

theorem Chip.sprADemand_wires (s : Chip) (ns : Nat) : Kept s (Chip.sprADemand s ns) := .onlyIf .refl _ fun _ _ => .step (Chip.episodeOver_wires _) (.step (Chip.sprToMast_wires _) .inputs)

theorem Chip.sprBDemand_wires (s : Chip) (ns : Nat) : Kept s (Chip.sprBDemand s ns) := .onlyIf .refl _ fun _ _ => .step (Chip.episodeOver_wires _) (.step (Chip.sprToMast_wires _) .latch)

theorem Chip.sprRelease_wires (s : Chip) (b : Bool) (ns : Nat) : Kept s (Chip.sprRelease s b ns) :=
  .onlyIf .refl _ fun _ _ => .step (Chip.episodeOver_wires _) (.step (Chip.sprToMast_wires _) .inputs)

theorem Chip.discrepancyTimeout_wires (s : Chip) : Kept s s.discrepancyTimeout := by
  unfold Chip.discrepancyTimeout
  extract_lets +onlyGivenNames long shroud pair fresh a report src b c
  have kc : Kept s c := .refresh
  clear_value c
  split
  · split
    · exact .within (Chip.raise_within _ _) kc (by decide) (by decide)
    · exact .within (Chip.raiseRigging_within _ _) kc (by decide) (by decide)
  · exact kc

theorem Chip.consentLapse_wires (s : Chip) : Kept s (Chip.consentLapse s) := by
  unfold Chip.consentLapse
  repeat' first
    | (extract_lets +onlyGivenNames x; refine .cut (x := x) ?_ ?_; rotate_left; clear_value x; intro _; rotate_left; subst x)
    | (extract_lets +onlyGivenNames x; refine .cut (x := x.2) ?_ ?_; rotate_left; clear_value x; intro _; rotate_left; subst x)
    | (extract_lets +onlyGivenNames x; refine .cut (x := x.2.2) ?_ ?_; rotate_left; clear_value x; intro _; rotate_left; subst x)
    | (extract_lets +onlyGivenNames x; clear_value x)
    | extract_lets +onlyGivenNames _
    | with_reducible apply Kept.refresh
    | with_reducible apply Kept.assert
    | with_reducible apply Kept.latch
    | with_reducible apply Kept.inputs
    | with_reducible apply Kept.refl
    | with_reducible assumption
    | decide
    | with_reducible apply Kept.within (Chip.shroudRefresh_within _)
    | with_reducible apply Kept.step (Chip.withdrawConsent_wires _)
    | split

theorem Chip.dropCopies_wires (s : Chip) (seq : Nat) : Kept s (Chip.dropCopies s seq) := by
  unfold Chip.dropCopies
  repeat' first
    | (extract_lets +onlyGivenNames x; refine .cut (x := x) ?_ ?_; rotate_left; clear_value x; intro _; rotate_left; subst x)
    | (extract_lets +onlyGivenNames x; refine .cut (x := x.2) ?_ ?_; rotate_left; clear_value x; intro _; rotate_left; subst x)
    | (extract_lets +onlyGivenNames x; refine .cut (x := x.2.2) ?_ ?_; rotate_left; clear_value x; intro _; rotate_left; subst x)
    | extract_lets +onlyGivenNames _
    | with_reducible apply Kept.refresh
    | with_reducible apply Kept.assert
    | with_reducible apply Kept.latch
    | with_reducible apply Kept.inputs
    | with_reducible apply Kept.refl
    | with_reducible assumption
    | decide
    | rfl
    | split
    | with_reducible apply Kept.set_spr

theorem Chip.acceptTelegram_wires (s : Chip) (seq : Nat) (bytes : List Byte) : Kept s (Chip.acceptTelegram s seq bytes) := by
  unfold Chip.acceptTelegram
  repeat' first
    | (extract_lets +onlyGivenNames x; refine .cut (x := x) ?_ ?_; rotate_left; clear_value x; intro _; rotate_left; subst x)
    | (extract_lets +onlyGivenNames x; refine .cut (x := x.2) ?_ ?_; rotate_left; clear_value x; intro _; rotate_left; subst x)
    | (extract_lets +onlyGivenNames x; refine .cut (x := x.2.2) ?_ ?_; rotate_left; clear_value x; intro _; rotate_left; subst x)
    | extract_lets +onlyGivenNames _
    | with_reducible apply Kept.refresh
    | with_reducible apply Kept.assert
    | with_reducible apply Kept.latch
    | with_reducible apply Kept.inputs
    | with_reducible apply Kept.refl
    | with_reducible assumption
    | decide
    | rfl
    | with_reducible apply Kept.count
    | with_reducible apply Kept.wr
    | split
    | with_reducible apply Kept.set_spr

theorem Chip.judgeCopy_wires (s : Chip) (port : Nat) (seq : Nat) (bytes : List Byte) : Kept s (Chip.judgeCopy s port seq bytes) := by
  unfold Chip.judgeCopy
  repeat' first
    | (extract_lets +onlyGivenNames x; refine .cut (x := x) ?_ ?_; rotate_left; clear_value x; intro _; rotate_left; subst x)
    | (extract_lets +onlyGivenNames x; refine .cut (x := x.2) ?_ ?_; rotate_left; clear_value x; intro _; rotate_left; subst x)
    | (extract_lets +onlyGivenNames x; refine .cut (x := x.2.2) ?_ ?_; rotate_left; clear_value x; intro _; rotate_left; subst x)
    | extract_lets +onlyGivenNames _
    | with_reducible apply Kept.refresh
    | with_reducible apply Kept.assert
    | with_reducible apply Kept.latch
    | with_reducible apply Kept.inputs
    | with_reducible apply Kept.refl
    | with_reducible assumption
    | decide
    | rfl
    | with_reducible apply Kept.step (Chip.acceptTelegram_wires _ _ _)
    | with_reducible apply Kept.step (Chip.dropCopies_wires _ _)
    | with_reducible apply Kept.within (Chip.telegramFails_within _ _)
    | with_reducible apply Kept.count
    | split
    | with_reducible apply Kept.set_spr

theorem Chip.safeTelegram_wires (s : Chip) (port : Nat) (bytes : List Byte) : Kept s (Chip.safeTelegram s port bytes) := by
  unfold Chip.safeTelegram
  repeat' first
    | (extract_lets +onlyGivenNames x; refine .cut (x := x) ?_ ?_; rotate_left; clear_value x; intro _; rotate_left; subst x)
    | (extract_lets +onlyGivenNames x; refine .cut (x := x.2) ?_ ?_; rotate_left; clear_value x; intro _; rotate_left; subst x)
    | (extract_lets +onlyGivenNames x; refine .cut (x := x.2.2) ?_ ?_; rotate_left; clear_value x; intro _; rotate_left; subst x)
    | extract_lets +onlyGivenNames _
    | with_reducible apply Kept.refresh
    | with_reducible apply Kept.assert
    | with_reducible apply Kept.latch
    | with_reducible apply Kept.inputs
    | with_reducible apply Kept.refl
    | with_reducible assumption
    | decide
    | rfl
    | with_reducible apply Kept.step (Chip.judgeCopy_wires _ _ _ _)
    | with_reducible apply Kept.count
    | split
    | with_reducible apply Kept.set_spr

theorem Chip.permitCommand_wires (s : Chip) : Kept s (Chip.permitCommand s) := by
  unfold Chip.permitCommand
  repeat' first
    | (extract_lets +onlyGivenNames x; refine .cut (x := x) ?_ ?_; rotate_left; clear_value x; intro _; rotate_left; subst x)
    | (extract_lets +onlyGivenNames x; refine .cut (x := x.2) ?_ ?_; rotate_left; clear_value x; intro _; rotate_left; subst x)
    | (extract_lets +onlyGivenNames x; refine .cut (x := x.2.2) ?_ ?_; rotate_left; clear_value x; intro _; rotate_left; subst x)
    | extract_lets +onlyGivenNames _
    | with_reducible apply Kept.refresh
    | with_reducible apply Kept.assert
    | with_reducible apply Kept.latch
    | with_reducible apply Kept.inputs
    | with_reducible apply Kept.refl
    | with_reducible assumption
    | decide
    | rfl
    | with_reducible apply Kept.wr
    | split
    | with_reducible apply Kept.set_spr

theorem Chip.removeCommand_wires (s : Chip) : Kept s (Chip.removeCommand s) := by
  unfold Chip.removeCommand
  repeat' first
    | (extract_lets +onlyGivenNames x; refine .cut (x := x) ?_ ?_; rotate_left; clear_value x; intro _; rotate_left; subst x)
    | (extract_lets +onlyGivenNames x; refine .cut (x := x.2) ?_ ?_; rotate_left; clear_value x; intro _; rotate_left; subst x)
    | (extract_lets +onlyGivenNames x; refine .cut (x := x.2.2) ?_ ?_; rotate_left; clear_value x; intro _; rotate_left; subst x)
    | extract_lets +onlyGivenNames _
    | with_reducible apply Kept.refresh
    | with_reducible apply Kept.assert
    | with_reducible apply Kept.latch
    | with_reducible apply Kept.inputs
    | with_reducible apply Kept.refl
    | with_reducible assumption
    | decide
    | rfl
    | with_reducible apply Kept.step (Chip.sprReaction_wires _)
    | with_reducible apply Kept.count
    | with_reducible apply Kept.wr
    | (with_reducible apply Kept.onlyIf; rotate_left; intro _ _)
    | split
    | with_reducible apply Kept.set_spr

theorem Chip.copyTimeout_wires (s : Chip) (seq : Nat) : Kept s (Chip.copyTimeout s seq) := by
  unfold Chip.copyTimeout
  repeat' first
    | (extract_lets +onlyGivenNames x; refine .cut (x := x) ?_ ?_; rotate_left; clear_value x; intro _; rotate_left; subst x)
    | (extract_lets +onlyGivenNames x; refine .cut (x := x.2) ?_ ?_; rotate_left; clear_value x; intro _; rotate_left; subst x)
    | (extract_lets +onlyGivenNames x; refine .cut (x := x.2.2) ?_ ?_; rotate_left; clear_value x; intro _; rotate_left; subst x)
    | (extract_lets +onlyGivenNames x; clear_value x)
    | extract_lets +onlyGivenNames _
    | with_reducible apply Kept.refresh
    | with_reducible apply Kept.assert
    | with_reducible apply Kept.latch
    | with_reducible apply Kept.inputs
    | with_reducible apply Kept.refl
    | with_reducible assumption
    | decide
    | with_reducible apply Kept.step (Chip.dropCopies_wires _ _)
    | with_reducible apply Kept.within (Chip.telegramFails_within _ _)
    | split

theorem Chip.watchExpiry_wires (s : Chip) : Kept s (Chip.watchExpiry s) := by
  unfold Chip.watchExpiry
  repeat' first
    | (extract_lets +onlyGivenNames x; refine .cut (x := x) ?_ ?_; rotate_left; clear_value x; intro _; rotate_left; subst x)
    | (extract_lets +onlyGivenNames x; refine .cut (x := x.2) ?_ ?_; rotate_left; clear_value x; intro _; rotate_left; subst x)
    | (extract_lets +onlyGivenNames x; refine .cut (x := x.2.2) ?_ ?_; rotate_left; clear_value x; intro _; rotate_left; subst x)
    | extract_lets +onlyGivenNames _
    | with_reducible apply Kept.refresh
    | with_reducible apply Kept.assert
    | with_reducible apply Kept.latch
    | with_reducible apply Kept.inputs
    | with_reducible apply Kept.refl
    | with_reducible assumption
    | decide
    | rfl
    | with_reducible apply Kept.within (Chip.telegramFails_within _ _)
    | split
    | with_reducible apply Kept.set_spr

theorem Chip.sendStatus_wires (s : Chip) : Kept s (Chip.sendStatus s) := by
  unfold Chip.sendStatus
  repeat' first
    | (extract_lets +onlyGivenNames x; refine .cut (x := x) ?_ ?_; rotate_left; clear_value x; intro _; rotate_left; subst x)
    | (extract_lets +onlyGivenNames x; refine .cut (x := x.2) ?_ ?_; rotate_left; clear_value x; intro _; rotate_left; subst x)
    | (extract_lets +onlyGivenNames x; refine .cut (x := x.2.2) ?_ ?_; rotate_left; clear_value x; intro _; rotate_left; subst x)
    | extract_lets +onlyGivenNames _
    | with_reducible apply Kept.refresh
    | with_reducible apply Kept.assert
    | with_reducible apply Kept.latch
    | with_reducible apply Kept.inputs
    | with_reducible apply Kept.refl
    | with_reducible assumption
    | decide
    | rfl
    | with_reducible apply Kept.within (Chip.enqueuePair_within _ _ _ _)
    | split
    | with_reducible apply Kept.set_spr

theorem Chip.refusePage_wires (s : Chip) (p : LedgerJob × List (Nat × List Byte)) : Kept s (Chip.refusePage s p) := by
  unfold Chip.refusePage
  repeat' first
    | (extract_lets +onlyGivenNames x; refine .cut (x := x) ?_ ?_; rotate_left; clear_value x; intro _; rotate_left; subst x)
    | (extract_lets +onlyGivenNames x; refine .cut (x := x.2) ?_ ?_; rotate_left; clear_value x; intro _; rotate_left; subst x)
    | (extract_lets +onlyGivenNames x; refine .cut (x := x.2.2) ?_ ?_; rotate_left; clear_value x; intro _; rotate_left; subst x)
    | (extract_lets +onlyGivenNames x; clear_value x)
    | extract_lets +onlyGivenNames _
    | with_reducible apply Kept.refresh
    | with_reducible apply Kept.assert
    | with_reducible apply Kept.latch
    | with_reducible apply Kept.inputs
    | with_reducible apply Kept.refl
    | with_reducible assumption
    | decide
    | with_reducible apply Kept.within (Chip.donePage_within _ _)
    | with_reducible apply Kept.within (Chip.raise_within _ _)
    | with_reducible apply Kept.within (Chip.returnLeave_within _ _)
    | with_reducible apply Kept.step (Chip.shutdownStep3_wires _)
    | with_reducible apply Kept.count
    | with_reducible apply Kept.wr
    | split
    | with_reducible apply Kept.set_metrology
    | with_reducible apply Kept.set_thermal
    | with_reducible apply Kept.set_modes

theorem Chip.ledgerWrite_wires (s : Chip) : Kept s (Chip.ledgerWrite s) := by
  unfold Chip.ledgerWrite
  repeat' first
    | (extract_lets +onlyGivenNames x; refine .cut (x := x) ?_ ?_; rotate_left; clear_value x; intro _; rotate_left; subst x)
    | (extract_lets +onlyGivenNames x; refine .cut (x := x.2) ?_ ?_; rotate_left; clear_value x; intro _; rotate_left; subst x)
    | (extract_lets +onlyGivenNames x; refine .cut (x := x.2.2) ?_ ?_; rotate_left; clear_value x; intro _; rotate_left; subst x)
    | (extract_lets +onlyGivenNames x; clear_value x)
    | extract_lets +onlyGivenNames _
    | with_reducible apply Kept.refresh
    | with_reducible apply Kept.assert
    | with_reducible apply Kept.latch
    | with_reducible apply Kept.inputs
    | with_reducible apply Kept.refl
    | with_reducible assumption
    | decide
    | with_reducible apply Kept.within (Chip.askLockout_within _)
    | with_reducible apply Kept.within (Chip.pageWritten_within _ _)
    | with_reducible apply Kept.within (Chip.programPage_within _ _ _)
    | with_reducible apply Kept.step (Chip.refusePage_wires _ _)
    | with_reducible apply Kept.within (Chip.tryCarry_within _)
    | with_reducible apply Kept.within (Chip.writeTable_within _)
    | (with_reducible apply Kept.onlyIf; rotate_left; intro _ _)
    | split

theorem Chip.commitImage_wires (s : Chip) (old : Chip) (second : Bool) (c : SlotCopy) (levels : List Int) (edges : Bool) : Kept s (Chip.commitImage s old second c levels edges) := by
  unfold Chip.commitImage
  repeat' first
    | (extract_lets +onlyGivenNames x; refine .cut (x := x) ?_ ?_; rotate_left; clear_value x; intro _; rotate_left; subst x)
    | (extract_lets +onlyGivenNames x; refine .cut (x := x.2) ?_ ?_; rotate_left; clear_value x; intro _; rotate_left; subst x)
    | (extract_lets +onlyGivenNames x; refine .cut (x := x.2.2) ?_ ?_; rotate_left; clear_value x; intro _; rotate_left; subst x)
    | (extract_lets +onlyGivenNames x; clear_value x)
    | extract_lets +onlyGivenNames _
    | with_reducible apply Kept.refresh
    | with_reducible apply Kept.assert
    | with_reducible apply Kept.latch
    | with_reducible apply Kept.inputs
    | with_reducible apply Kept.refl
    | with_reducible assumption
    | decide
    | with_reducible apply Kept.step (Chip.hop_wires _ _ _)
    | with_reducible apply Kept.within (Chip.setPtp_within _ _ _)
    | with_reducible apply Kept.within (Chip.startGrid_within _)
    | with_reducible apply Kept.within (Chip.takeImage_within _ _ _ _ _)
    | with_reducible apply Kept.wr
    | split

theorem Chip.tryCandidates_wires (s : Chip) (levels : List Int) (edges : Bool) (z3 : List (Bool × SlotCopy)) : Kept s (Chip.tryCandidates s levels edges z3).2 := by
  have hf : ∀ second, wireFields.testBit (statusField second).ctorIdx = false := by intro second; cases second <;> decide
  induction z3 generalizing s with
  | nil => exact .refl
  | cons e l ih =>
    obtain ⟨second, c⟩ := e
    unfold Chip.tryCandidates
    extract_lets +onlyGivenNames x
    have k : Kept s x := .within (Chip.readFlash_within _ _) .refl (by decide) (by decide)
    clear_value x
    split
    · exact .step (ih _) (k.wr _ _ _ (hf _))
    · split
      · next h => exact .step (Chip.commitImage_wires _ _ _ _ _ _) (.within (Chip.stage_within _ _ _ h) k (by decide) (by decide))
      · exact .step (ih _) (k.wr _ _ _ (hf _))

theorem Chip.selectionDone_wires (s : Chip) (chosen : Bool) : Kept s (Chip.selectionDone s chosen) := by
  unfold Chip.selectionDone
  repeat' first
    | (extract_lets +onlyGivenNames x; refine .cut (x := x) ?_ ?_; rotate_left; clear_value x; intro _; rotate_left; subst x)
    | (extract_lets +onlyGivenNames x; refine .cut (x := x.2) ?_ ?_; rotate_left; clear_value x; intro _; rotate_left; subst x)
    | (extract_lets +onlyGivenNames x; refine .cut (x := x.2.2) ?_ ?_; rotate_left; clear_value x; intro _; rotate_left; subst x)
    | (extract_lets +onlyGivenNames x; clear_value x)
    | extract_lets +onlyGivenNames _
    | with_reducible apply Kept.refresh
    | with_reducible apply Kept.assert
    | with_reducible apply Kept.latch
    | with_reducible apply Kept.inputs
    | with_reducible apply Kept.refl
    | with_reducible assumption
    | decide
    | with_reducible apply Kept.step (Chip.enterSafeHold_wires _ _)
    | with_reducible apply Kept.within (Chip.raise_within _ _)
    | with_reducible apply Kept.within (Chip.statusEvent_within _ _)
    | with_reducible apply Kept.wr
    | (with_reducible apply Kept.onlyIf; rotate_left; intro _ _)
    | split

theorem Chip.imageSelection_wires (s : Chip) (levels : List Int) (edges : Bool) : Kept s (Chip.imageSelection s levels edges) := by
  unfold Chip.imageSelection
  split
  · exact .refl
  extract_lets +onlyGivenNames a b x y ms z r
  have kx : Kept s x := .within (Chip.readFlash_within _ _) .refl (by decide) (by decide)
  clear_value x a b
  have ky : Kept s z := .set_modes (.within (Chip.readHeader_within _ _ _)
    (.within (Chip.readHeader_within _ _ _) kx (by decide) (by decide)) (by decide) (by decide))
  clear_value z
  have kr : Kept s r.2 := .step (Chip.tryCandidates_wires _ _ _ _) ky
  clear_value r
  exact .within (Chip.tieNoted_within _ _ _) (.step (Chip.selectionDone_wires _ _) kr) (by decide) (by decide)

theorem Chip.coldReset_wires (s : Chip) (cause : Nat) : Kept s (s.coldReset cause) := by
  unfold Chip.coldReset
  extract_lets
  exact .refresh

theorem Chip.holdAgain_wires (s : Chip) (c : HoldCause) : Kept s (Chip.holdAgain s c) := by
  unfold Chip.holdAgain
  repeat' first
    | (extract_lets +onlyGivenNames x; refine .cut (x := x) ?_ ?_; rotate_left; clear_value x; intro _; rotate_left; subst x)
    | (extract_lets +onlyGivenNames x; refine .cut (x := x.2) ?_ ?_; rotate_left; clear_value x; intro _; rotate_left; subst x)
    | (extract_lets +onlyGivenNames x; refine .cut (x := x.2.2) ?_ ?_; rotate_left; clear_value x; intro _; rotate_left; subst x)
    | (extract_lets +onlyGivenNames x; clear_value x)
    | extract_lets +onlyGivenNames _
    | with_reducible apply Kept.refresh
    | with_reducible apply Kept.assert
    | with_reducible apply Kept.latch
    | with_reducible apply Kept.inputs
    | with_reducible apply Kept.refl
    | with_reducible assumption
    | decide
    | with_reducible apply Kept.step (Chip.enterSafeHold_wires _ _)
    | split
    | with_reducible apply Kept.set_modes

theorem Chip.warmRequest_wires (s : Chip) : Kept s s.warmRequest := by
  unfold Chip.warmRequest
  extract_lets +onlyGivenNames a old new
  have k : Kept s new := .refresh
  clear_value new
  split
  · exact .step (Chip.holdAgain_wires _ _) k
  · exact k

theorem Chip.warmFailure_wires (s : Chip) (cause : Fld) : Kept s (s.warmFailure cause) := by
  unfold Chip.warmFailure
  extract_lets
  exact .refresh

theorem Chip.deliberateReset_wires (s : Chip) : Kept s (Chip.deliberateReset s) := by
  unfold Chip.deliberateReset
  repeat' first
    | (extract_lets +onlyGivenNames x; refine .cut (x := x) ?_ ?_; rotate_left; clear_value x; intro _; rotate_left; subst x)
    | (extract_lets +onlyGivenNames x; refine .cut (x := x.2) ?_ ?_; rotate_left; clear_value x; intro _; rotate_left; subst x)
    | (extract_lets +onlyGivenNames x; refine .cut (x := x.2.2) ?_ ?_; rotate_left; clear_value x; intro _; rotate_left; subst x)
    | (extract_lets +onlyGivenNames x; clear_value x)
    | extract_lets +onlyGivenNames _
    | with_reducible apply Kept.refresh
    | with_reducible apply Kept.assert
    | with_reducible apply Kept.latch
    | with_reducible apply Kept.inputs
    | with_reducible apply Kept.refl
    | with_reducible assumption
    | decide
    | with_reducible apply Kept.within (Chip.clearFaultCounts_within _)
    | with_reducible apply Kept.within (Chip.clearShorts_within _)
    | with_reducible apply Kept.within (Chip.enginesToDefault_within _)
    | with_reducible apply Kept.within (Chip.forgetRole_within _)
    | with_reducible apply Kept.within (Chip.holdLanes_within _)
    | with_reducible apply Kept.within (Chip.initCells_within _)
    | with_reducible apply Kept.within (Chip.liveDefault_within _)
    | with_reducible apply Kept.within (Chip.lockDebug_within _)
    | with_reducible apply Kept.within (Chip.resumeAlive_within _)
    | with_reducible apply Kept.within (Chip.retestEngines_within _)
    | with_reducible apply Kept.step (Chip.setMode_wires _ _)
    | with_reducible apply Kept.wr
    | split

theorem Chip.modeAtBoundary_wires (s : Chip) (m : Mode) : Kept s (Chip.modeAtBoundary s m) := by
  unfold Chip.modeAtBoundary
  repeat' first
    | (extract_lets +onlyGivenNames x; refine .cut (x := x) ?_ ?_; rotate_left; clear_value x; intro _; rotate_left; subst x)
    | (extract_lets +onlyGivenNames x; refine .cut (x := x.2) ?_ ?_; rotate_left; clear_value x; intro _; rotate_left; subst x)
    | (extract_lets +onlyGivenNames x; refine .cut (x := x.2.2) ?_ ?_; rotate_left; clear_value x; intro _; rotate_left; subst x)
    | (extract_lets +onlyGivenNames x; clear_value x)
    | extract_lets +onlyGivenNames _
    | with_reducible apply Kept.refresh
    | with_reducible apply Kept.assert
    | with_reducible apply Kept.latch
    | with_reducible apply Kept.inputs
    | with_reducible apply Kept.refl
    | with_reducible assumption
    | decide
    | with_reducible apply Kept.within (Chip.alignSilent_within _)
    | with_reducible apply Kept.step (Chip.enterMode_wires _ _)
    | with_reducible apply Kept.within (Chip.snapshotAnew_within _)
    | split

theorem Chip.takeRequest_wires (s : Chip) (m : Mode) : Kept s (Chip.takeRequest s m) := by
  unfold Chip.takeRequest
  repeat' first
    | (extract_lets +onlyGivenNames x; refine .cut (x := x) ?_ ?_; rotate_left; clear_value x; intro _; rotate_left; subst x)
    | (extract_lets +onlyGivenNames x; refine .cut (x := x.2) ?_ ?_; rotate_left; clear_value x; intro _; rotate_left; subst x)
    | (extract_lets +onlyGivenNames x; refine .cut (x := x.2.2) ?_ ?_; rotate_left; clear_value x; intro _; rotate_left; subst x)
    | (extract_lets +onlyGivenNames x; clear_value x)
    | extract_lets +onlyGivenNames _
    | with_reducible apply Kept.refresh
    | with_reducible apply Kept.assert
    | with_reducible apply Kept.latch
    | with_reducible apply Kept.inputs
    | with_reducible apply Kept.refl
    | with_reducible assumption
    | decide
    | with_reducible apply Kept.within (Chip.dropPending_within _)
    | with_reducible apply Kept.step (Chip.modeAtBoundary_wires _ _)
    | split

theorem Chip.judgeRequest_wires (s : Chip) : Kept s (Chip.judgeRequest s) := by
  unfold Chip.judgeRequest
  repeat' first
    | (extract_lets +onlyGivenNames x; refine .cut (x := x) ?_ ?_; rotate_left; clear_value x; intro _; rotate_left; subst x)
    | (extract_lets +onlyGivenNames x; refine .cut (x := x.2) ?_ ?_; rotate_left; clear_value x; intro _; rotate_left; subst x)
    | (extract_lets +onlyGivenNames x; refine .cut (x := x.2.2) ?_ ?_; rotate_left; clear_value x; intro _; rotate_left; subst x)
    | (extract_lets +onlyGivenNames x; clear_value x)
    | extract_lets +onlyGivenNames _
    | with_reducible apply Kept.refresh
    | with_reducible apply Kept.assert
    | with_reducible apply Kept.latch
    | with_reducible apply Kept.inputs
    | with_reducible apply Kept.refl
    | with_reducible assumption
    | decide
    | with_reducible apply Kept.within (Chip.beginStopping_within _)
    | with_reducible apply Kept.within (Chip.dropPending_within _)
    | with_reducible apply Kept.within (Chip.enterQuiescent_within _)
    | with_reducible apply Kept.within (Chip.quiescentEnds_within _)
    | with_reducible apply Kept.within (Chip.refuseRequest_within _)
    | with_reducible apply Kept.within (Chip.stand_within _)
    | with_reducible apply Kept.step (Chip.takeRequest_wires _ _)
    | with_reducible apply Kept.step (Chip.warmRequest_wires _)
    | exact all_full _
    | exact testBit_full _
    | split
    | with_reducible apply Kept.set_modes

theorem Chip.modeRequest_wires (s : Chip) (r : Nat) : Kept s (Chip.modeRequest s r) := by
  unfold Chip.modeRequest
  repeat' first
    | (extract_lets +onlyGivenNames x; refine .cut (x := x) ?_ ?_; rotate_left; clear_value x; intro _; rotate_left; subst x)
    | (extract_lets +onlyGivenNames x; refine .cut (x := x.2) ?_ ?_; rotate_left; clear_value x; intro _; rotate_left; subst x)
    | (extract_lets +onlyGivenNames x; refine .cut (x := x.2.2) ?_ ?_; rotate_left; clear_value x; intro _; rotate_left; subst x)
    | (extract_lets +onlyGivenNames x; clear_value x)
    | extract_lets +onlyGivenNames _
    | with_reducible apply Kept.refresh
    | with_reducible apply Kept.assert
    | with_reducible apply Kept.latch
    | with_reducible apply Kept.inputs
    | with_reducible apply Kept.refl
    | with_reducible assumption
    | decide
    | with_reducible apply Kept.step (Chip.judgeRequest_wires _)
    | with_reducible apply Kept.wr
    | exact all_full _
    | exact testBit_full _
    | split
    | with_reducible apply Kept.set_modes

theorem Chip.boundaryRequest_wires (s : Chip) : Kept s (Chip.boundaryRequest s) := by
  unfold Chip.boundaryRequest
  repeat' first
    | (extract_lets +onlyGivenNames x; refine .cut (x := x) ?_ ?_; rotate_left; clear_value x; intro _; rotate_left; subst x)
    | (extract_lets +onlyGivenNames x; refine .cut (x := x.2) ?_ ?_; rotate_left; clear_value x; intro _; rotate_left; subst x)
    | (extract_lets +onlyGivenNames x; refine .cut (x := x.2.2) ?_ ?_; rotate_left; clear_value x; intro _; rotate_left; subst x)
    | (extract_lets +onlyGivenNames x; clear_value x)
    | extract_lets +onlyGivenNames _
    | with_reducible apply Kept.refresh
    | with_reducible apply Kept.assert
    | with_reducible apply Kept.latch
    | with_reducible apply Kept.inputs
    | with_reducible apply Kept.refl
    | with_reducible assumption
    | decide
    | with_reducible apply Kept.within (Chip.dropPending_within _)
    | with_reducible apply Kept.step (Chip.judgeRequest_wires _)
    | exact all_full _
    | exact testBit_full _
    | split

theorem Chip.modeTransition_wires (s : Chip) : Kept s (Chip.modeTransition s) := by
  unfold Chip.modeTransition
  repeat' first
    | (extract_lets +onlyGivenNames x; refine .cut (x := x) ?_ ?_; rotate_left; clear_value x; intro _; rotate_left; subst x)
    | (extract_lets +onlyGivenNames x; refine .cut (x := x.2) ?_ ?_; rotate_left; clear_value x; intro _; rotate_left; subst x)
    | (extract_lets +onlyGivenNames x; refine .cut (x := x.2.2) ?_ ?_; rotate_left; clear_value x; intro _; rotate_left; subst x)
    | (extract_lets +onlyGivenNames x; clear_value x)
    | extract_lets +onlyGivenNames _
    | with_reducible apply Kept.refresh
    | with_reducible apply Kept.assert
    | with_reducible apply Kept.latch
    | with_reducible apply Kept.inputs
    | with_reducible apply Kept.refl
    | with_reducible assumption
    | decide
    | with_reducible apply Kept.step (Chip.boundaryRequest_wires _)
    | with_reducible apply Kept.step (Chip.modeAtBoundary_wires _ _)
    | exact all_full _
    | exact testBit_full _
    | split
    | with_reducible apply Kept.set_modes

theorem Chip.endOfConfigure_wires (s : Chip) : Kept s (Chip.endOfConfigure s) := by
  unfold Chip.endOfConfigure
  repeat' first
    | (extract_lets +onlyGivenNames x; refine .cut (x := x) ?_ ?_; rotate_left; clear_value x; intro _; rotate_left; subst x)
    | (extract_lets +onlyGivenNames x; refine .cut (x := x.2) ?_ ?_; rotate_left; clear_value x; intro _; rotate_left; subst x)
    | (extract_lets +onlyGivenNames x; refine .cut (x := x.2.2) ?_ ?_; rotate_left; clear_value x; intro _; rotate_left; subst x)
    | (extract_lets +onlyGivenNames x; clear_value x)
    | extract_lets +onlyGivenNames _
    | with_reducible apply Kept.refresh
    | with_reducible apply Kept.assert
    | with_reducible apply Kept.latch
    | with_reducible apply Kept.inputs
    | with_reducible apply Kept.refl
    | with_reducible assumption
    | decide
    | with_reducible apply Kept.within (Chip.dropPending_within _)
    | with_reducible apply Kept.step (Chip.modeAtBoundary_wires _ _)
    | split
    | with_reducible apply Kept.set_halyard

theorem Chip.earlyWarning_wires (s : Chip) : Kept s (Chip.earlyWarning s) := by
  unfold Chip.earlyWarning
  repeat' first
    | (extract_lets +onlyGivenNames x; refine .cut (x := x) ?_ ?_; rotate_left; clear_value x; intro _; rotate_left; subst x)
    | (extract_lets +onlyGivenNames x; refine .cut (x := x.2) ?_ ?_; rotate_left; clear_value x; intro _; rotate_left; subst x)
    | (extract_lets +onlyGivenNames x; refine .cut (x := x.2.2) ?_ ?_; rotate_left; clear_value x; intro _; rotate_left; subst x)
    | (extract_lets +onlyGivenNames x; clear_value x)
    | extract_lets +onlyGivenNames _
    | with_reducible apply Kept.refresh
    | with_reducible apply Kept.assert
    | with_reducible apply Kept.latch
    | with_reducible apply Kept.inputs
    | with_reducible apply Kept.refl
    | with_reducible assumption
    | decide
    | with_reducible apply Kept.within (Chip.closeEarly_within _)
    | with_reducible apply Kept.step (Chip.enterSafeHold_wires _ _)
    | with_reducible apply Kept.within (Chip.finalSave_within _)
    | with_reducible apply Kept.within (Chip.holdSaves_within _)
    | with_reducible apply Kept.within (Chip.lockDebug_within _)
    | with_reducible apply Kept.step (Chip.shroudLatch_wires _ _)
    | with_reducible apply Kept.wr
    | (with_reducible apply Kept.onlyIf; rotate_left; intro _ _)
    | split

theorem Chip.supplyWarning_wires (s : Chip) (n : Nat) : Kept s (s.supplyWarning n) := by
  unfold Chip.supplyWarning
  split
  · exact .refl
  · exact .refresh

theorem Chip.supplyReturn_wires (s : Chip) (n : Nat) : Kept s (s.supplyReturn n) := .refresh

theorem Chip.lockoutRestore_wires (s : Chip) : Kept s (Chip.lockoutRestore s) := by
  unfold Chip.lockoutRestore
  repeat' first
    | (extract_lets +onlyGivenNames x; refine .cut (x := x) ?_ ?_; rotate_left; clear_value x; intro _; rotate_left; subst x)
    | (extract_lets +onlyGivenNames x; refine .cut (x := x.2) ?_ ?_; rotate_left; clear_value x; intro _; rotate_left; subst x)
    | (extract_lets +onlyGivenNames x; refine .cut (x := x.2.2) ?_ ?_; rotate_left; clear_value x; intro _; rotate_left; subst x)
    | (extract_lets +onlyGivenNames x; clear_value x)
    | extract_lets +onlyGivenNames _
    | with_reducible apply Kept.refresh
    | with_reducible apply Kept.assert
    | with_reducible apply Kept.latch
    | with_reducible apply Kept.inputs
    | with_reducible apply Kept.refl
    | with_reducible assumption
    | decide
    | with_reducible apply Kept.step (Chip.enterSafeHold_wires _ _)
    | with_reducible apply Kept.step (Chip.shroudLatch_wires _ _)
    | split
    | with_reducible apply Kept.set_modes

theorem Chip.filteredPulse_wires (s : Chip) (width : Nat) : Kept s (Chip.filteredPulse s width) := by
  unfold Chip.filteredPulse
  repeat' first
    | (extract_lets +onlyGivenNames x; refine .cut (x := x) ?_ ?_; rotate_left; clear_value x; intro _; rotate_left; subst x)
    | (extract_lets +onlyGivenNames x; refine .cut (x := x.2) ?_ ?_; rotate_left; clear_value x; intro _; rotate_left; subst x)
    | (extract_lets +onlyGivenNames x; refine .cut (x := x.2.2) ?_ ?_; rotate_left; clear_value x; intro _; rotate_left; subst x)
    | extract_lets +onlyGivenNames _
    | with_reducible apply Kept.refresh
    | with_reducible apply Kept.assert
    | with_reducible apply Kept.latch
    | with_reducible apply Kept.inputs
    | with_reducible apply Kept.refl
    | with_reducible assumption
    | decide
    | rfl
    | with_reducible apply Kept.wr
    | split
    | with_reducible apply Kept.set_spr
    | with_reducible apply Kept.set_modes_spr

theorem Chip.resetPulse_wires (s : Chip) (width : Nat) : Kept s (Chip.resetPulse s width) := by
  unfold Chip.resetPulse
  repeat' first
    | (extract_lets +onlyGivenNames x; refine .cut (x := x) ?_ ?_; rotate_left; clear_value x; intro _; rotate_left; subst x)
    | (extract_lets +onlyGivenNames x; refine .cut (x := x.2) ?_ ?_; rotate_left; clear_value x; intro _; rotate_left; subst x)
    | (extract_lets +onlyGivenNames x; refine .cut (x := x.2.2) ?_ ?_; rotate_left; clear_value x; intro _; rotate_left; subst x)
    | (extract_lets +onlyGivenNames x; clear_value x)
    | extract_lets +onlyGivenNames _
    | with_reducible apply Kept.refresh
    | with_reducible apply Kept.assert
    | with_reducible apply Kept.latch
    | with_reducible apply Kept.inputs
    | with_reducible apply Kept.refl
    | with_reducible assumption
    | decide
    | with_reducible apply Kept.within (Chip.draw_within _)
    | with_reducible apply Kept.step (Chip.filteredPulse_wires _ _)
    | (with_reducible apply Kept.onlyIf; rotate_left; intro _ _)
    | split

theorem Chip.ack_wires (s : Chip) (authentic : Bool) : Kept s (s.ack authentic) := by
  unfold Chip.ack
  extract_lets r
  split
  · exact .wr .refl _ _ _ (by decide)
  · exact .refresh

theorem Chip.watchdogExpiry_wires (s : Chip) : Kept s (Chip.watchdogExpiry s) := by
  unfold Chip.watchdogExpiry
  repeat' first
    | (extract_lets +onlyGivenNames x; refine .cut (x := x) ?_ ?_; rotate_left; clear_value x; intro _; rotate_left; subst x)
    | (extract_lets +onlyGivenNames x; refine .cut (x := x.2) ?_ ?_; rotate_left; clear_value x; intro _; rotate_left; subst x)
    | (extract_lets +onlyGivenNames x; refine .cut (x := x.2.2) ?_ ?_; rotate_left; clear_value x; intro _; rotate_left; subst x)
    | (extract_lets +onlyGivenNames x; clear_value x)
    | extract_lets +onlyGivenNames _
    | with_reducible apply Kept.refresh
    | with_reducible apply Kept.assert
    | with_reducible apply Kept.latch
    | with_reducible apply Kept.inputs
    | with_reducible apply Kept.refl
    | with_reducible assumption
    | decide
    | with_reducible apply Kept.step (Chip.warmFailure_wires _ _)
    | exact all_full _
    | exact testBit_full _
    | split

theorem Chip.lockstepMismatch_wires (s : Chip) : Kept s (Chip.lockstepMismatch s) := by
  unfold Chip.lockstepMismatch
  repeat' first
    | (extract_lets +onlyGivenNames x; refine .cut (x := x) ?_ ?_; rotate_left; clear_value x; intro _; rotate_left; subst x)
    | (extract_lets +onlyGivenNames x; refine .cut (x := x.2) ?_ ?_; rotate_left; clear_value x; intro _; rotate_left; subst x)
    | (extract_lets +onlyGivenNames x; refine .cut (x := x.2.2) ?_ ?_; rotate_left; clear_value x; intro _; rotate_left; subst x)
    | (extract_lets +onlyGivenNames x; clear_value x)
    | extract_lets +onlyGivenNames _
    | with_reducible apply Kept.refresh
    | with_reducible apply Kept.assert
    | with_reducible apply Kept.latch
    | with_reducible apply Kept.inputs
    | with_reducible apply Kept.refl
    | with_reducible assumption
    | decide
    | with_reducible apply Kept.step (Chip.warmFailure_wires _ _)
    | exact all_full _
    | exact testBit_full _
    | split

theorem Chip.evaluateTemperatures_wires (s : Chip) (raw : List SensorReading) : Kept s (Chip.evaluateTemperatures s raw) := by
  unfold Chip.evaluateTemperatures
  repeat' first
    | (extract_lets +onlyGivenNames x; refine .cut (x := x) ?_ ?_; rotate_left; clear_value x; intro _; rotate_left; subst x)
    | (extract_lets +onlyGivenNames x; refine .cut (x := x.2) ?_ ?_; rotate_left; clear_value x; intro _; rotate_left; subst x)
    | (extract_lets +onlyGivenNames x; refine .cut (x := x.2.2) ?_ ?_; rotate_left; clear_value x; intro _; rotate_left; subst x)
    | (extract_lets +onlyGivenNames x; clear_value x)
    | extract_lets +onlyGivenNames _
    | with_reducible apply Kept.refresh
    | with_reducible apply Kept.assert
    | with_reducible apply Kept.latch
    | with_reducible apply Kept.inputs
    | with_reducible apply Kept.refl
    | with_reducible assumption
    | decide
    | with_reducible apply Kept.within (Chip.queueShutdown_within _)
    | with_reducible apply Kept.step (Chip.thermalEvaluation_wires _ _)
    | split

theorem Chip.shutdownWritten_wires (s : Chip) : Kept s (Chip.shutdownWritten s) := by
  unfold Chip.shutdownWritten
  repeat' first
    | (extract_lets +onlyGivenNames x; refine .cut (x := x) ?_ ?_; rotate_left; clear_value x; intro _; rotate_left; subst x)
    | (extract_lets +onlyGivenNames x; refine .cut (x := x.2) ?_ ?_; rotate_left; clear_value x; intro _; rotate_left; subst x)
    | (extract_lets +onlyGivenNames x; refine .cut (x := x.2.2) ?_ ?_; rotate_left; clear_value x; intro _; rotate_left; subst x)
    | (extract_lets +onlyGivenNames x; clear_value x)
    | extract_lets +onlyGivenNames _
    | with_reducible apply Kept.refresh
    | with_reducible apply Kept.assert
    | with_reducible apply Kept.latch
    | with_reducible apply Kept.inputs
    | with_reducible apply Kept.refl
    | with_reducible assumption
    | decide
    | with_reducible apply Kept.step (Chip.shutdownStep3_wires _)
    | with_reducible apply Kept.within (Chip.takeWritten_within _ _)
    | with_reducible apply Kept.wr
    | (with_reducible apply Kept.onlyIf; rotate_left; intro _ _)
    | split

theorem Chip.shutdownDeadline_wires (s : Chip) : Kept s (Chip.shutdownDeadline s) := by
  unfold Chip.shutdownDeadline
  repeat' first
    | (extract_lets +onlyGivenNames x; refine .cut (x := x) ?_ ?_; rotate_left; clear_value x; intro _; rotate_left; subst x)
    | (extract_lets +onlyGivenNames x; refine .cut (x := x.2) ?_ ?_; rotate_left; clear_value x; intro _; rotate_left; subst x)
    | (extract_lets +onlyGivenNames x; refine .cut (x := x.2.2) ?_ ?_; rotate_left; clear_value x; intro _; rotate_left; subst x)
    | (extract_lets +onlyGivenNames x; clear_value x)
    | extract_lets +onlyGivenNames _
    | with_reducible apply Kept.refresh
    | with_reducible apply Kept.assert
    | with_reducible apply Kept.latch
    | with_reducible apply Kept.inputs
    | with_reducible apply Kept.refl
    | with_reducible assumption
    | decide
    | with_reducible apply Kept.step (Chip.shutdownStep3_wires _)
    | split

theorem Chip.pairBoundary_wires (s : Chip) : Kept s (Chip.pairBoundary s) := by
  unfold Chip.pairBoundary
  repeat' first
    | (extract_lets +onlyGivenNames x; refine .cut (x := x) ?_ ?_; rotate_left; clear_value x; intro _; rotate_left; subst x)
    | (extract_lets +onlyGivenNames x; refine .cut (x := x.2) ?_ ?_; rotate_left; clear_value x; intro _; rotate_left; subst x)
    | (extract_lets +onlyGivenNames x; refine .cut (x := x.2.2) ?_ ?_; rotate_left; clear_value x; intro _; rotate_left; subst x)
    | (extract_lets +onlyGivenNames x; clear_value x)
    | extract_lets +onlyGivenNames _
    | with_reducible apply Kept.refresh
    | with_reducible apply Kept.assert
    | with_reducible apply Kept.latch
    | with_reducible apply Kept.inputs
    | with_reducible apply Kept.refl
    | with_reducible assumption
    | decide
    | with_reducible apply Kept.within (Chip.alignSilent_within _)
    | with_reducible apply Kept.within (Chip.applyPart_within _ _ _)
    | with_reducible apply Kept.within (Chip.judgeStep_within _)
    | with_reducible apply Kept.step (Chip.probeBoundary_wires _)
    | with_reducible apply Kept.step (Chip.roleBoundary_wires _)
    | with_reducible apply Kept.within (Chip.watchStep_within _)
    | split

theorem Chip.periodBoundary_wires (s : Chip) (gdi : List Int) : Kept s (Chip.periodBoundary s gdi) := by
  unfold Chip.periodBoundary
  split
  · extract_lets +onlyGivenNames first a r b c d
    have ka : Kept s a := .within (Chip.slicesServe_within _) (.within (Chip.takeReady_within _) (.within (Chip.countBoundary_within _)
      (.onlyIf .refl _ fun u hu => .within (Chip.keepReleased_within _) hu (by decide) (by decide)) (by decide) (by decide))
      (by decide) (by decide)) (by decide) (by decide)
    clear_value a
    have kr : Kept s r.2 := .within (Chip.captureBoundary_within _) ka (by decide) (by decide)
    clear_value r
    have kb : Kept s b := .within (Chip.takeSnapshot_within _ _) (.step (Chip.pairBoundary_wires _) kr) (by decide) (by decide)
    clear_value b
    have kc : Kept s c := .within (Chip.advanceArms_within _)
      (.onlyIf kb _ fun u hu => .within (Chip.advanceCarriers_within _) hu (by decide) (by decide)) (by decide) (by decide)
    clear_value c
    have kd : Kept s d := by
      refine .within (Chip.liveSnapshot_within (F := 0x84501000000000000000000000000000000000000000890000000040090000000000000000004000000000000000000000000000000000000000000000000000000000000) (C := 0x30ae08) .refl _
        (fun u l hu => .step (liveCommand_within _ _ _) hu (by decide) (by decide)) (by decide) (by decide)) ?_ (by decide) (by decide)
      exact .within (Chip.enginesSnapshot_within _) kc (by decide) (by decide)
    clear_value d
    exact .within (Chip.judgeEdges_within _) (.within (Chip.countResume_within _) (.within (Chip.meterStatus_within _)
      (.within (Chip.publishBoundary_within _) (.within (Chip.systemWords_within _) kd (by decide) (by decide)) (by decide) (by decide))
      (by decide) (by decide)) (by decide) (by decide)) (by decide) (by decide)
  · exact .refl

theorem Chip.frameToMast_wires (s : Chip) : Kept s s.frameToMast := by
  unfold Chip.frameToMast
  extract_lets +onlyGivenNames waiting l0 p f b
  have kb : Kept s b := .set_faults_spr (.wr .refl .idbStat_linkUp _ _ (by decide)) rfl rfl rfl
  clear_value b
  exact .step (Chip.sprToMast_wires _) (.within (Chip.deliverMirrors_within _) kb (by decide) (by decide))

theorem Chip.frameToShroud_wires (s : Chip) : Kept s s.frameToShroud := fun _ => Chip.shroudUnblock_safe _

theorem Chip.idbFrame_wires (s : Chip) (toShroud : Bool) (good : Bool) : Kept s (Chip.idbFrame s toShroud good) := by
  unfold Chip.idbFrame
  repeat' first
    | (extract_lets +onlyGivenNames x; refine .cut (x := x) ?_ ?_; rotate_left; clear_value x; intro _; rotate_left; subst x)
    | (extract_lets +onlyGivenNames x; refine .cut (x := x.2) ?_ ?_; rotate_left; clear_value x; intro _; rotate_left; subst x)
    | (extract_lets +onlyGivenNames x; refine .cut (x := x.2.2) ?_ ?_; rotate_left; clear_value x; intro _; rotate_left; subst x)
    | (extract_lets +onlyGivenNames x; clear_value x)
    | extract_lets +onlyGivenNames _
    | with_reducible apply Kept.refresh
    | with_reducible apply Kept.assert
    | with_reducible apply Kept.latch
    | with_reducible apply Kept.inputs
    | with_reducible apply Kept.refl
    | with_reducible assumption
    | decide
    | with_reducible apply Kept.step (Chip.frameToMast_wires _)
    | with_reducible apply Kept.step (Chip.frameToShroud_wires _)
    | with_reducible apply Kept.within (Chip.shroudRefresh_within _)
    | with_reducible apply Kept.count
    | with_reducible apply Kept.wr
    | split

theorem Chip.shroudSilence_wires (s : Chip) : Kept s s.shroudSilence := by
  unfold Chip.shroudSilence
  split
  · exact .within (Chip.raiseRigging_within _ _) (.wr .latch _ _ _ (by decide)) (by decide) (by decide)
  · exact .refl

theorem Chip.writeReg_wires (s : Chip) (r : Reg) (i : Nat) (v : Nat) (edges : Bool) : Kept s (Chip.writeReg s r i v edges) := by
  unfold Chip.writeReg
  repeat' first
    | (extract_lets +onlyGivenNames x; refine .cut (x := x) ?_ ?_; rotate_left; clear_value x; intro _; rotate_left; subst x)
    | (extract_lets +onlyGivenNames x; refine .cut (x := x.2) ?_ ?_; rotate_left; clear_value x; intro _; rotate_left; subst x)
    | (extract_lets +onlyGivenNames x; refine .cut (x := x.2.2) ?_ ?_; rotate_left; clear_value x; intro _; rotate_left; subst x)
    | (extract_lets +onlyGivenNames x; clear_value x)
    | extract_lets +onlyGivenNames _
    | with_reducible apply Kept.refresh
    | with_reducible apply Kept.assert
    | with_reducible apply Kept.latch
    | with_reducible apply Kept.inputs
    | with_reducible apply Kept.refl
    | with_reducible assumption
    | decide
    | with_reducible apply Kept.within (Chip.commitNow_within _)
    | with_reducible apply Kept.step (Chip.hopRequest_wires _ _ _)
    | with_reducible apply Kept.within (Chip.kick_within _ _)
    | with_reducible apply Kept.within (Chip.laneControl_within _ _ _)
    | with_reducible apply Kept.step (Chip.modeRequest_wires _ _)
    | with_reducible apply Kept.within (Chip.poArm_within _ _ _)
    | with_reducible apply Kept.within (Chip.restartMargin_within _)
    | with_reducible apply Kept.within (Chip.showConverter_within _)
    | with_reducible apply Kept.within (Chip.writeFields_within _ _ _ _)
    | with_reducible apply Kept.within (Chip.writeLive_within _ _ _)
    | (with_reducible apply Kept.onlyIf; rotate_left; intro _ _)
    | exact all_full _
    | exact testBit_full _
    | split

theorem Chip.busWrite_wires (s : Chip) (a : Nat) (v : Nat) (edges : Bool) : Kept s (Chip.busWrite s a v edges) := by
  unfold Chip.busWrite
  repeat' first
    | (extract_lets +onlyGivenNames x; refine .cut (x := x) ?_ ?_; rotate_left; clear_value x; intro _; rotate_left; subst x)
    | (extract_lets +onlyGivenNames x; refine .cut (x := x.2) ?_ ?_; rotate_left; clear_value x; intro _; rotate_left; subst x)
    | (extract_lets +onlyGivenNames x; refine .cut (x := x.2.2) ?_ ?_; rotate_left; clear_value x; intro _; rotate_left; subst x)
    | (extract_lets +onlyGivenNames x; clear_value x)
    | extract_lets +onlyGivenNames _
    | with_reducible apply Kept.refresh
    | with_reducible apply Kept.assert
    | with_reducible apply Kept.latch
    | with_reducible apply Kept.inputs
    | with_reducible apply Kept.refl
    | with_reducible assumption
    | decide
    | with_reducible apply Kept.within (Chip.lostAccess_within _)
    | with_reducible apply Kept.step (Chip.writeReg_wires _ _ _ _ _)
    | with_reducible apply Kept.within (Chip.writeSram_within _ _ _)
    | exact all_full _
    | exact testBit_full _
    | split

theorem Chip.riggingAccess_wires (s : Chip) (a : Nat) (write : Option Nat) : Kept s (Chip.riggingAccess s a write) := by
  unfold Chip.riggingAccess
  repeat' first
    | (extract_lets +onlyGivenNames x; refine .cut (x := x) ?_ ?_; rotate_left; clear_value x; intro _; rotate_left; subst x)
    | (extract_lets +onlyGivenNames x; refine .cut (x := x.2) ?_ ?_; rotate_left; clear_value x; intro _; rotate_left; subst x)
    | (extract_lets +onlyGivenNames x; refine .cut (x := x.2.2) ?_ ?_; rotate_left; clear_value x; intro _; rotate_left; subst x)
    | (extract_lets +onlyGivenNames x; clear_value x)
    | extract_lets +onlyGivenNames _
    | with_reducible apply Kept.refresh
    | with_reducible apply Kept.assert
    | with_reducible apply Kept.latch
    | with_reducible apply Kept.inputs
    | with_reducible apply Kept.refl
    | with_reducible assumption
    | decide
    | with_reducible apply Kept.step (Chip.busWrite_wires _ _ _ _)
    | with_reducible apply Kept.within (Chip.readAt_within _ _)
    | exact all_full _
    | exact testBit_full _
    | split

theorem Chip.opWrite_wires (s : Chip) (a : Nat) (v : Nat) (edges : Bool) : Kept s (Chip.opWrite s a v edges).2 := by
  unfold Chip.opWrite
  repeat' first
    | (extract_lets +onlyGivenNames x; refine .cut (x := x) ?_ ?_; rotate_left; clear_value x; intro _; rotate_left; subst x)
    | (extract_lets +onlyGivenNames x; refine .cut (x := x.2) ?_ ?_; rotate_left; clear_value x; intro _; rotate_left; subst x)
    | (extract_lets +onlyGivenNames x; refine .cut (x := x.2.2) ?_ ?_; rotate_left; clear_value x; intro _; rotate_left; subst x)
    | (extract_lets +onlyGivenNames x; clear_value x)
    | extract_lets +onlyGivenNames _
    | with_reducible apply Kept.refresh
    | with_reducible apply Kept.assert
    | with_reducible apply Kept.latch
    | with_reducible apply Kept.inputs
    | with_reducible apply Kept.refl
    | with_reducible assumption
    | decide
    | with_reducible apply Kept.step (Chip.busWrite_wires _ _ _ _)
    | with_reducible apply Kept.within (Chip.opWriteLive_within _ _ _)
    | exact all_full _
    | exact testBit_full _
    | split

theorem Chip.opAck_wires (s : Chip) : Kept s (Chip.opAck s).2 := by
  unfold Chip.opAck
  repeat' first
    | (extract_lets +onlyGivenNames x; refine .cut (x := x) ?_ ?_; rotate_left; clear_value x; intro _; rotate_left; subst x)
    | (extract_lets +onlyGivenNames x; refine .cut (x := x.2) ?_ ?_; rotate_left; clear_value x; intro _; rotate_left; subst x)
    | (extract_lets +onlyGivenNames x; refine .cut (x := x.2.2) ?_ ?_; rotate_left; clear_value x; intro _; rotate_left; subst x)
    | (extract_lets +onlyGivenNames x; clear_value x)
    | extract_lets +onlyGivenNames _
    | with_reducible apply Kept.refresh
    | with_reducible apply Kept.assert
    | with_reducible apply Kept.latch
    | with_reducible apply Kept.inputs
    | with_reducible apply Kept.refl
    | with_reducible assumption
    | decide
    | with_reducible apply Kept.step (Chip.ack_wires _ _)
    | split

theorem Chip.opEffect_wires (s : Chip) (o : StationOp) (edges : Bool) : Kept s (Chip.opEffect s o edges).2 := by
  unfold Chip.opEffect
  repeat' first
    | (extract_lets +onlyGivenNames x; refine .cut (x := x) ?_ ?_; rotate_left; clear_value x; intro _; rotate_left; subst x)
    | (extract_lets +onlyGivenNames x; refine .cut (x := x.2) ?_ ?_; rotate_left; clear_value x; intro _; rotate_left; subst x)
    | (extract_lets +onlyGivenNames x; refine .cut (x := x.2.2) ?_ ?_; rotate_left; clear_value x; intro _; rotate_left; subst x)
    | (extract_lets +onlyGivenNames x; clear_value x)
    | extract_lets +onlyGivenNames _
    | with_reducible apply Kept.refresh
    | with_reducible apply Kept.assert
    | with_reducible apply Kept.latch
    | with_reducible apply Kept.inputs
    | with_reducible apply Kept.refl
    | with_reducible assumption
    | decide
    | with_reducible apply Kept.step (Chip.opAck_wires _)
    | with_reducible apply Kept.within (Chip.opAttest_within _ _ _)
    | with_reducible apply Kept.within (Chip.opLedgerNewest_within _ _ _)
    | with_reducible apply Kept.within (Chip.opLedgerRead_within _ _ _ _)
    | with_reducible apply Kept.within (Chip.opLogRead_within _ _ _ _)
    | with_reducible apply Kept.within (Chip.opRead_within _ _ _)
    | with_reducible apply Kept.within (Chip.opRecList_within _ _ _)
    | with_reducible apply Kept.within (Chip.opRecRead_within _ _ _ _)
    | with_reducible apply Kept.within (Chip.opTrigger_within _)
    | with_reducible apply Kept.step (Chip.opWrite_wires _ _ _ _)
    | exact all_full _
    | exact testBit_full _
    | split

theorem Chip.runOp_wires (s : Chip) (role : Nat) (left : Nat) (o : StationOp) (edges : Bool) : Kept s (Chip.runOp s role left o edges).2 := by
  unfold Chip.runOp
  repeat' first
    | (extract_lets +onlyGivenNames x; refine .cut (x := x) ?_ ?_; rotate_left; clear_value x; intro _; rotate_left; subst x)
    | (extract_lets +onlyGivenNames x; refine .cut (x := x.2) ?_ ?_; rotate_left; clear_value x; intro _; rotate_left; subst x)
    | (extract_lets +onlyGivenNames x; refine .cut (x := x.2.2) ?_ ?_; rotate_left; clear_value x; intro _; rotate_left; subst x)
    | (extract_lets +onlyGivenNames x; clear_value x)
    | extract_lets +onlyGivenNames _
    | with_reducible apply Kept.refresh
    | with_reducible apply Kept.assert
    | with_reducible apply Kept.latch
    | with_reducible apply Kept.inputs
    | with_reducible apply Kept.refl
    | with_reducible assumption
    | decide
    | with_reducible apply Kept.step (Chip.opEffect_wires _ _ _)
    | exact all_full _
    | exact testBit_full _
    | split

theorem Chip.runOps_wires (s : Chip) (role left : Nat) (edges : Bool) (l : List StationOp) : Kept s (s.runOps role left edges l).2 := by
  induction l generalizing s left with
  | nil => exact .refl
  | cons o l ih => exact .step (ih _ _) (Chip.runOp_wires _ _ _ _ _)

theorem Chip.singleOp_wires (s : Chip) (key : Nat) (o : StationOp) (edges : Bool) : Kept s (Chip.singleOp s key o edges) := by
  unfold Chip.singleOp
  repeat' first
    | (extract_lets +onlyGivenNames x; refine .cut (x := x) ?_ ?_; rotate_left; clear_value x; intro _; rotate_left; subst x)
    | (extract_lets +onlyGivenNames x; refine .cut (x := x.2) ?_ ?_; rotate_left; clear_value x; intro _; rotate_left; subst x)
    | (extract_lets +onlyGivenNames x; refine .cut (x := x.2.2) ?_ ?_; rotate_left; clear_value x; intro _; rotate_left; subst x)
    | (extract_lets +onlyGivenNames x; clear_value x)
    | extract_lets +onlyGivenNames _
    | with_reducible apply Kept.refresh
    | with_reducible apply Kept.assert
    | with_reducible apply Kept.latch
    | with_reducible apply Kept.inputs
    | with_reducible apply Kept.refl
    | with_reducible assumption
    | decide
    | with_reducible apply Kept.step (Chip.runOp_wires _ _ _ _ _)
    | exact all_full _
    | exact testBit_full _
    | split
    | with_reducible apply Kept.set_bus

theorem Chip.acceptRequest_wires (s : Chip) (q : StationRequest) (edges : Bool) : Kept s (Chip.acceptRequest s q edges) := by
  unfold Chip.acceptRequest
  repeat' first
    | (extract_lets +onlyGivenNames x; refine .cut (x := x) ?_ ?_; rotate_left; clear_value x; intro _; rotate_left; subst x)
    | (extract_lets +onlyGivenNames x; refine .cut (x := x.2) ?_ ?_; rotate_left; clear_value x; intro _; rotate_left; subst x)
    | (extract_lets +onlyGivenNames x; refine .cut (x := x.2.2) ?_ ?_; rotate_left; clear_value x; intro _; rotate_left; subst x)
    | (extract_lets +onlyGivenNames x; clear_value x)
    | extract_lets +onlyGivenNames _
    | with_reducible apply Kept.refresh
    | with_reducible apply Kept.assert
    | with_reducible apply Kept.latch
    | with_reducible apply Kept.inputs
    | with_reducible apply Kept.refl
    | with_reducible assumption
    | decide
    | with_reducible apply Kept.within (Chip.answerBy_within _ _ _)
    | with_reducible apply Kept.within (Chip.draw_within _)
    | with_reducible apply Kept.step (Chip.runOps_wires _ _ _ _ _)
    | exact all_full _
    | exact testBit_full _
    | split
    | with_reducible apply Kept.set_net
    | with_reducible apply Kept.set_bus

theorem Chip.stationCheck_wires (s : Chip) (id : Nat) (edges : Bool) : Kept s (Chip.stationCheck s id edges) := by
  unfold Chip.stationCheck
  repeat' first
    | (extract_lets +onlyGivenNames x; refine .cut (x := x) ?_ ?_; rotate_left; clear_value x; intro _; rotate_left; subst x)
    | (extract_lets +onlyGivenNames x; refine .cut (x := x.2) ?_ ?_; rotate_left; clear_value x; intro _; rotate_left; subst x)
    | (extract_lets +onlyGivenNames x; refine .cut (x := x.2.2) ?_ ?_; rotate_left; clear_value x; intro _; rotate_left; subst x)
    | (extract_lets +onlyGivenNames x; clear_value x)
    | extract_lets +onlyGivenNames _
    | with_reducible apply Kept.refresh
    | with_reducible apply Kept.assert
    | with_reducible apply Kept.latch
    | with_reducible apply Kept.inputs
    | with_reducible apply Kept.refl
    | with_reducible assumption
    | decide
    | with_reducible apply Kept.step (Chip.acceptRequest_wires _ _ _)
    | with_reducible apply Kept.step (Chip.ack_wires _ _)
    | with_reducible apply Kept.within (Chip.discardRequest_within _ _ _)
    | with_reducible apply Kept.within (Chip.dropStation_within _ _)
    | with_reducible apply Kept.within (Chip.takeStation_within _ _)
    | with_reducible apply Kept.count
    | (with_reducible apply Kept.onlyIf; rotate_left; intro _ _)
    | exact all_full _
    | exact testBit_full _
    | split

theorem execRegisterWrite_wires (t : Nat) (address : Word) (value : Word) (edges : Bool) (s : State) :
    ∃ u, (execRegisterWrite t address value edges s) = .next { s with chip := u } ∧ Kept s.chip u := by
  unfold execRegisterWrite
  refine ⟨_, rfl, ?_⟩
  repeat' first
    | (extract_lets +onlyGivenNames x; refine .cut (x := x) ?_ ?_; rotate_left; clear_value x; intro _; rotate_left; subst x)
    | (extract_lets +onlyGivenNames x; refine .cut (x := x.2) ?_ ?_; rotate_left; clear_value x; intro _; rotate_left; subst x)
    | (extract_lets +onlyGivenNames x; refine .cut (x := x.2.2) ?_ ?_; rotate_left; clear_value x; intro _; rotate_left; subst x)
    | (extract_lets +onlyGivenNames x; clear_value x)
    | extract_lets +onlyGivenNames _
    | with_reducible apply Kept.refresh
    | with_reducible apply Kept.assert
    | with_reducible apply Kept.latch
    | with_reducible apply Kept.inputs
    | with_reducible apply Kept.refl
    | with_reducible assumption
    | decide
    | with_reducible apply Kept.within (Chip.atTime_within _ _)
    | with_reducible apply Kept.step (Chip.busWrite_wires _ _ _ _)
    | exact all_full _
    | exact testBit_full _
    | split

theorem execW1cWrite_wires (t : Nat) (address : Word) (value : Word) (s : State) :
    ∃ u, (execW1cWrite t address value s) = .next { s with chip := u } ∧ Kept s.chip u := by
  unfold execW1cWrite
  refine ⟨_, rfl, ?_⟩
  repeat' first
    | (extract_lets +onlyGivenNames x; refine .cut (x := x) ?_ ?_; rotate_left; clear_value x; intro _; rotate_left; subst x)
    | (extract_lets +onlyGivenNames x; refine .cut (x := x.2) ?_ ?_; rotate_left; clear_value x; intro _; rotate_left; subst x)
    | (extract_lets +onlyGivenNames x; refine .cut (x := x.2.2) ?_ ?_; rotate_left; clear_value x; intro _; rotate_left; subst x)
    | (extract_lets +onlyGivenNames x; clear_value x)
    | extract_lets +onlyGivenNames _
    | with_reducible apply Kept.refresh
    | with_reducible apply Kept.assert
    | with_reducible apply Kept.latch
    | with_reducible apply Kept.inputs
    | with_reducible apply Kept.refl
    | with_reducible assumption
    | decide
    | with_reducible apply Kept.within (Chip.atTime_within _ _)
    | with_reducible apply Kept.step (Chip.busWrite_wires _ _ _ _)
    | exact all_full _
    | exact testBit_full _
    | split

theorem execRiggingAccess_wires (t : Nat) (address : Word) (write : Option Word) (s : State) :
    ∃ u, (execRiggingAccess t address write s) = .next { s with chip := u } ∧ Kept s.chip u := by
  unfold execRiggingAccess
  refine ⟨_, rfl, ?_⟩
  repeat' first
    | (extract_lets +onlyGivenNames x; refine .cut (x := x) ?_ ?_; rotate_left; clear_value x; intro _; rotate_left; subst x)
    | (extract_lets +onlyGivenNames x; refine .cut (x := x.2) ?_ ?_; rotate_left; clear_value x; intro _; rotate_left; subst x)
    | (extract_lets +onlyGivenNames x; refine .cut (x := x.2.2) ?_ ?_; rotate_left; clear_value x; intro _; rotate_left; subst x)
    | (extract_lets +onlyGivenNames x; clear_value x)
    | extract_lets +onlyGivenNames _
    | with_reducible apply Kept.refresh
    | with_reducible apply Kept.assert
    | with_reducible apply Kept.latch
    | with_reducible apply Kept.inputs
    | with_reducible apply Kept.refl
    | with_reducible assumption
    | decide
    | with_reducible apply Kept.within (Chip.atTime_within _ _)
    | with_reducible apply Kept.step (Chip.riggingAccess_wires _ _ _)
    | exact all_full _
    | exact testBit_full _
    | split

theorem execIdbFrameRx_wires (t : Nat) (toShroud : Bool) (good : Bool) (s : State) :
    ∃ u, (execIdbFrameRx t toShroud good s) = .next { s with chip := u } ∧ Kept s.chip u := by
  unfold execIdbFrameRx
  refine ⟨_, rfl, ?_⟩
  repeat' first
    | (extract_lets +onlyGivenNames x; refine .cut (x := x) ?_ ?_; rotate_left; clear_value x; intro _; rotate_left; subst x)
    | (extract_lets +onlyGivenNames x; refine .cut (x := x.2) ?_ ?_; rotate_left; clear_value x; intro _; rotate_left; subst x)
    | (extract_lets +onlyGivenNames x; refine .cut (x := x.2.2) ?_ ?_; rotate_left; clear_value x; intro _; rotate_left; subst x)
    | (extract_lets +onlyGivenNames x; clear_value x)
    | extract_lets +onlyGivenNames _
    | with_reducible apply Kept.refresh
    | with_reducible apply Kept.assert
    | with_reducible apply Kept.latch
    | with_reducible apply Kept.inputs
    | with_reducible apply Kept.refl
    | with_reducible assumption
    | decide
    | with_reducible apply Kept.within (Chip.atTime_within _ _)
    | with_reducible apply Kept.step (Chip.idbFrame_wires _ _ _)
    | split

theorem execShroudIdbSilence_wires (t : Nat) (s : State) :
    ∃ u, (execShroudIdbSilence t s) = .next { s with chip := u } ∧ Kept s.chip u := by
  unfold execShroudIdbSilence
  refine ⟨_, rfl, ?_⟩
  repeat' first
    | (extract_lets +onlyGivenNames x; refine .cut (x := x) ?_ ?_; rotate_left; clear_value x; intro _; rotate_left; subst x)
    | (extract_lets +onlyGivenNames x; refine .cut (x := x.2) ?_ ?_; rotate_left; clear_value x; intro _; rotate_left; subst x)
    | (extract_lets +onlyGivenNames x; refine .cut (x := x.2.2) ?_ ?_; rotate_left; clear_value x; intro _; rotate_left; subst x)
    | (extract_lets +onlyGivenNames x; clear_value x)
    | extract_lets +onlyGivenNames _
    | with_reducible apply Kept.refresh
    | with_reducible apply Kept.assert
    | with_reducible apply Kept.latch
    | with_reducible apply Kept.inputs
    | with_reducible apply Kept.refl
    | with_reducible assumption
    | decide
    | with_reducible apply Kept.within (Chip.atTime_within _ _)
    | with_reducible apply Kept.step (Chip.shroudSilence_wires _)
    | split

theorem execPeriodBoundary_wires (t : Nat) (gdi : List Int) (s : State) :
    ∃ u, (execPeriodBoundary t gdi s) = .next { s with chip := u } ∧ Kept s.chip u := by
  unfold execPeriodBoundary
  refine ⟨_, rfl, ?_⟩
  repeat' first
    | (extract_lets +onlyGivenNames x; refine .cut (x := x) ?_ ?_; rotate_left; clear_value x; intro _; rotate_left; subst x)
    | (extract_lets +onlyGivenNames x; refine .cut (x := x.2) ?_ ?_; rotate_left; clear_value x; intro _; rotate_left; subst x)
    | (extract_lets +onlyGivenNames x; refine .cut (x := x.2.2) ?_ ?_; rotate_left; clear_value x; intro _; rotate_left; subst x)
    | (extract_lets +onlyGivenNames x; clear_value x)
    | extract_lets +onlyGivenNames _
    | with_reducible apply Kept.refresh
    | with_reducible apply Kept.assert
    | with_reducible apply Kept.latch
    | with_reducible apply Kept.inputs
    | with_reducible apply Kept.refl
    | with_reducible assumption
    | decide
    | with_reducible apply Kept.within (Chip.atTime_within _ _)
    | with_reducible apply Kept.step (Chip.periodBoundary_wires _ _)
    | split

theorem execRequestCommission_wires (t : Nat) (s : State) :
    ∃ u, (execRequestCommission t s) = .next { s with chip := u } ∧ Kept s.chip u := by
  unfold execRequestCommission
  refine ⟨_, rfl, ?_⟩
  repeat' first
    | (extract_lets +onlyGivenNames x; refine .cut (x := x) ?_ ?_; rotate_left; clear_value x; intro _; rotate_left; subst x)
    | (extract_lets +onlyGivenNames x; refine .cut (x := x.2) ?_ ?_; rotate_left; clear_value x; intro _; rotate_left; subst x)
    | (extract_lets +onlyGivenNames x; refine .cut (x := x.2.2) ?_ ?_; rotate_left; clear_value x; intro _; rotate_left; subst x)
    | (extract_lets +onlyGivenNames x; clear_value x)
    | extract_lets +onlyGivenNames _
    | with_reducible apply Kept.refresh
    | with_reducible apply Kept.assert
    | with_reducible apply Kept.latch
    | with_reducible apply Kept.inputs
    | with_reducible apply Kept.refl
    | with_reducible assumption
    | decide
    | with_reducible apply Kept.within (Chip.atTime_within _ _)
    | with_reducible apply Kept.step (Chip.modeRequest_wires _ _)
    | exact all_full _
    | exact testBit_full _
    | split

theorem execRequestCharge_wires (t : Nat) (s : State) :
    ∃ u, (execRequestCharge t s) = .next { s with chip := u } ∧ Kept s.chip u := by
  unfold execRequestCharge
  refine ⟨_, rfl, ?_⟩
  repeat' first
    | (extract_lets +onlyGivenNames x; refine .cut (x := x) ?_ ?_; rotate_left; clear_value x; intro _; rotate_left; subst x)
    | (extract_lets +onlyGivenNames x; refine .cut (x := x.2) ?_ ?_; rotate_left; clear_value x; intro _; rotate_left; subst x)
    | (extract_lets +onlyGivenNames x; refine .cut (x := x.2.2) ?_ ?_; rotate_left; clear_value x; intro _; rotate_left; subst x)
    | (extract_lets +onlyGivenNames x; clear_value x)
    | extract_lets +onlyGivenNames _
    | with_reducible apply Kept.refresh
    | with_reducible apply Kept.assert
    | with_reducible apply Kept.latch
    | with_reducible apply Kept.inputs
    | with_reducible apply Kept.refl
    | with_reducible assumption
    | decide
    | with_reducible apply Kept.within (Chip.atTime_within _ _)
    | with_reducible apply Kept.step (Chip.modeRequest_wires _ _)
    | exact all_full _
    | exact testBit_full _
    | split

theorem execRequestRun_wires (t : Nat) (s : State) :
    ∃ u, (execRequestRun t s) = .next { s with chip := u } ∧ Kept s.chip u := by
  unfold execRequestRun
  refine ⟨_, rfl, ?_⟩
  repeat' first
    | (extract_lets +onlyGivenNames x; refine .cut (x := x) ?_ ?_; rotate_left; clear_value x; intro _; rotate_left; subst x)
    | (extract_lets +onlyGivenNames x; refine .cut (x := x.2) ?_ ?_; rotate_left; clear_value x; intro _; rotate_left; subst x)
    | (extract_lets +onlyGivenNames x; refine .cut (x := x.2.2) ?_ ?_; rotate_left; clear_value x; intro _; rotate_left; subst x)
    | (extract_lets +onlyGivenNames x; clear_value x)
    | extract_lets +onlyGivenNames _
    | with_reducible apply Kept.refresh
    | with_reducible apply Kept.assert
    | with_reducible apply Kept.latch
    | with_reducible apply Kept.inputs
    | with_reducible apply Kept.refl
    | with_reducible assumption
    | decide
    | with_reducible apply Kept.within (Chip.atTime_within _ _)
    | with_reducible apply Kept.step (Chip.modeRequest_wires _ _)
    | exact all_full _
    | exact testBit_full _
    | split

theorem execRequestStopTransfer_wires (t : Nat) (s : State) :
    ∃ u, (execRequestStopTransfer t s) = .next { s with chip := u } ∧ Kept s.chip u := by
  unfold execRequestStopTransfer
  refine ⟨_, rfl, ?_⟩
  repeat' first
    | (extract_lets +onlyGivenNames x; refine .cut (x := x) ?_ ?_; rotate_left; clear_value x; intro _; rotate_left; subst x)
    | (extract_lets +onlyGivenNames x; refine .cut (x := x.2) ?_ ?_; rotate_left; clear_value x; intro _; rotate_left; subst x)
    | (extract_lets +onlyGivenNames x; refine .cut (x := x.2.2) ?_ ?_; rotate_left; clear_value x; intro _; rotate_left; subst x)
    | (extract_lets +onlyGivenNames x; clear_value x)
    | extract_lets +onlyGivenNames _
    | with_reducible apply Kept.refresh
    | with_reducible apply Kept.assert
    | with_reducible apply Kept.latch
    | with_reducible apply Kept.inputs
    | with_reducible apply Kept.refl
    | with_reducible assumption
    | decide
    | with_reducible apply Kept.within (Chip.atTime_within _ _)
    | with_reducible apply Kept.step (Chip.modeRequest_wires _ _)
    | exact all_full _
    | exact testBit_full _
    | split

theorem execRequestEnterQuiescent_wires (t : Nat) (s : State) :
    ∃ u, (execRequestEnterQuiescent t s) = .next { s with chip := u } ∧ Kept s.chip u := by
  unfold execRequestEnterQuiescent
  refine ⟨_, rfl, ?_⟩
  repeat' first
    | (extract_lets +onlyGivenNames x; refine .cut (x := x) ?_ ?_; rotate_left; clear_value x; intro _; rotate_left; subst x)
    | (extract_lets +onlyGivenNames x; refine .cut (x := x.2) ?_ ?_; rotate_left; clear_value x; intro _; rotate_left; subst x)
    | (extract_lets +onlyGivenNames x; refine .cut (x := x.2.2) ?_ ?_; rotate_left; clear_value x; intro _; rotate_left; subst x)
    | (extract_lets +onlyGivenNames x; clear_value x)
    | extract_lets +onlyGivenNames _
    | with_reducible apply Kept.refresh
    | with_reducible apply Kept.assert
    | with_reducible apply Kept.latch
    | with_reducible apply Kept.inputs
    | with_reducible apply Kept.refl
    | with_reducible assumption
    | decide
    | with_reducible apply Kept.within (Chip.atTime_within _ _)
    | with_reducible apply Kept.step (Chip.modeRequest_wires _ _)
    | exact all_full _
    | exact testBit_full _
    | split

theorem execRequestLeaveQuiescent_wires (t : Nat) (s : State) :
    ∃ u, (execRequestLeaveQuiescent t s) = .next { s with chip := u } ∧ Kept s.chip u := by
  unfold execRequestLeaveQuiescent
  refine ⟨_, rfl, ?_⟩
  repeat' first
    | (extract_lets +onlyGivenNames x; refine .cut (x := x) ?_ ?_; rotate_left; clear_value x; intro _; rotate_left; subst x)
    | (extract_lets +onlyGivenNames x; refine .cut (x := x.2) ?_ ?_; rotate_left; clear_value x; intro _; rotate_left; subst x)
    | (extract_lets +onlyGivenNames x; refine .cut (x := x.2.2) ?_ ?_; rotate_left; clear_value x; intro _; rotate_left; subst x)
    | (extract_lets +onlyGivenNames x; clear_value x)
    | extract_lets +onlyGivenNames _
    | with_reducible apply Kept.refresh
    | with_reducible apply Kept.assert
    | with_reducible apply Kept.latch
    | with_reducible apply Kept.inputs
    | with_reducible apply Kept.refl
    | with_reducible assumption
    | decide
    | with_reducible apply Kept.within (Chip.atTime_within _ _)
    | with_reducible apply Kept.step (Chip.modeRequest_wires _ _)
    | exact all_full _
    | exact testBit_full _
    | split

theorem execRequestWarmReset_wires (t : Nat) (s : State) :
    ∃ u, (execRequestWarmReset t s) = .next { s with chip := u } ∧ Kept s.chip u := by
  unfold execRequestWarmReset
  refine ⟨_, rfl, ?_⟩
  repeat' first
    | (extract_lets +onlyGivenNames x; refine .cut (x := x) ?_ ?_; rotate_left; clear_value x; intro _; rotate_left; subst x)
    | (extract_lets +onlyGivenNames x; refine .cut (x := x.2) ?_ ?_; rotate_left; clear_value x; intro _; rotate_left; subst x)
    | (extract_lets +onlyGivenNames x; refine .cut (x := x.2.2) ?_ ?_; rotate_left; clear_value x; intro _; rotate_left; subst x)
    | (extract_lets +onlyGivenNames x; clear_value x)
    | extract_lets +onlyGivenNames _
    | with_reducible apply Kept.refresh
    | with_reducible apply Kept.assert
    | with_reducible apply Kept.latch
    | with_reducible apply Kept.inputs
    | with_reducible apply Kept.refl
    | with_reducible assumption
    | decide
    | with_reducible apply Kept.within (Chip.atTime_within _ _)
    | with_reducible apply Kept.step (Chip.modeRequest_wires _ _)
    | exact all_full _
    | exact testBit_full _
    | split

theorem execModeTransition_wires (t : Nat) (s : State) :
    ∃ u, (execModeTransition t s) = .next { s with chip := u } ∧ Kept s.chip u := by
  unfold execModeTransition
  refine ⟨_, rfl, ?_⟩
  repeat' first
    | (extract_lets +onlyGivenNames x; refine .cut (x := x) ?_ ?_; rotate_left; clear_value x; intro _; rotate_left; subst x)
    | (extract_lets +onlyGivenNames x; refine .cut (x := x.2) ?_ ?_; rotate_left; clear_value x; intro _; rotate_left; subst x)
    | (extract_lets +onlyGivenNames x; refine .cut (x := x.2.2) ?_ ?_; rotate_left; clear_value x; intro _; rotate_left; subst x)
    | (extract_lets +onlyGivenNames x; clear_value x)
    | extract_lets +onlyGivenNames _
    | with_reducible apply Kept.refresh
    | with_reducible apply Kept.assert
    | with_reducible apply Kept.latch
    | with_reducible apply Kept.inputs
    | with_reducible apply Kept.refl
    | with_reducible assumption
    | decide
    | with_reducible apply Kept.within (Chip.atTime_within _ _)
    | with_reducible apply Kept.step (Chip.modeTransition_wires _)
    | exact all_full _
    | exact testBit_full _
    | split

theorem execEndOfConfigure_wires (t : Nat) (s : State) :
    ∃ u, (execEndOfConfigure t s) = .next { s with chip := u } ∧ Kept s.chip u := by
  unfold execEndOfConfigure
  refine ⟨_, rfl, ?_⟩
  repeat' first
    | (extract_lets +onlyGivenNames x; refine .cut (x := x) ?_ ?_; rotate_left; clear_value x; intro _; rotate_left; subst x)
    | (extract_lets +onlyGivenNames x; refine .cut (x := x.2) ?_ ?_; rotate_left; clear_value x; intro _; rotate_left; subst x)
    | (extract_lets +onlyGivenNames x; refine .cut (x := x.2.2) ?_ ?_; rotate_left; clear_value x; intro _; rotate_left; subst x)
    | (extract_lets +onlyGivenNames x; clear_value x)
    | extract_lets +onlyGivenNames _
    | with_reducible apply Kept.refresh
    | with_reducible apply Kept.assert
    | with_reducible apply Kept.latch
    | with_reducible apply Kept.inputs
    | with_reducible apply Kept.refl
    | with_reducible assumption
    | decide
    | with_reducible apply Kept.within (Chip.atTime_within _ _)
    | with_reducible apply Kept.step (Chip.endOfConfigure_wires _)
    | split

theorem execLockoutRestore_wires (t : Nat) (s : State) :
    ∃ u, (execLockoutRestore t s) = .next { s with chip := u } ∧ Kept s.chip u := by
  unfold execLockoutRestore
  refine ⟨_, rfl, ?_⟩
  repeat' first
    | (extract_lets +onlyGivenNames x; refine .cut (x := x) ?_ ?_; rotate_left; clear_value x; intro _; rotate_left; subst x)
    | (extract_lets +onlyGivenNames x; refine .cut (x := x.2) ?_ ?_; rotate_left; clear_value x; intro _; rotate_left; subst x)
    | (extract_lets +onlyGivenNames x; refine .cut (x := x.2.2) ?_ ?_; rotate_left; clear_value x; intro _; rotate_left; subst x)
    | (extract_lets +onlyGivenNames x; clear_value x)
    | extract_lets +onlyGivenNames _
    | with_reducible apply Kept.refresh
    | with_reducible apply Kept.assert
    | with_reducible apply Kept.latch
    | with_reducible apply Kept.inputs
    | with_reducible apply Kept.refl
    | with_reducible assumption
    | decide
    | with_reducible apply Kept.within (Chip.atTime_within _ _)
    | with_reducible apply Kept.step (Chip.lockoutRestore_wires _)
    | split

theorem execEarlyWarningTrip_wires (t : Nat) (s : State) :
    ∃ u, (execEarlyWarningTrip t s) = .next { s with chip := u } ∧ Kept s.chip u := by
  unfold execEarlyWarningTrip
  refine ⟨_, rfl, ?_⟩
  repeat' first
    | (extract_lets +onlyGivenNames x; refine .cut (x := x) ?_ ?_; rotate_left; clear_value x; intro _; rotate_left; subst x)
    | (extract_lets +onlyGivenNames x; refine .cut (x := x.2) ?_ ?_; rotate_left; clear_value x; intro _; rotate_left; subst x)
    | (extract_lets +onlyGivenNames x; refine .cut (x := x.2.2) ?_ ?_; rotate_left; clear_value x; intro _; rotate_left; subst x)
    | (extract_lets +onlyGivenNames x; clear_value x)
    | extract_lets +onlyGivenNames _
    | with_reducible apply Kept.refresh
    | with_reducible apply Kept.assert
    | with_reducible apply Kept.latch
    | with_reducible apply Kept.inputs
    | with_reducible apply Kept.refl
    | with_reducible assumption
    | decide
    | with_reducible apply Kept.within (Chip.atTime_within _ _)
    | with_reducible apply Kept.step (Chip.earlyWarning_wires _)
    | split

theorem execSupplyWarning_wires (t : Nat) (supply : Fin 4) (s : State) :
    ∃ u, (execSupplyWarning t supply s) = .next { s with chip := u } ∧ Kept s.chip u := by
  unfold execSupplyWarning
  refine ⟨_, rfl, ?_⟩
  repeat' first
    | (extract_lets +onlyGivenNames x; refine .cut (x := x) ?_ ?_; rotate_left; clear_value x; intro _; rotate_left; subst x)
    | (extract_lets +onlyGivenNames x; refine .cut (x := x.2) ?_ ?_; rotate_left; clear_value x; intro _; rotate_left; subst x)
    | (extract_lets +onlyGivenNames x; refine .cut (x := x.2.2) ?_ ?_; rotate_left; clear_value x; intro _; rotate_left; subst x)
    | (extract_lets +onlyGivenNames x; clear_value x)
    | extract_lets +onlyGivenNames _
    | with_reducible apply Kept.refresh
    | with_reducible apply Kept.assert
    | with_reducible apply Kept.latch
    | with_reducible apply Kept.inputs
    | with_reducible apply Kept.refl
    | with_reducible assumption
    | decide
    | with_reducible apply Kept.within (Chip.atTime_within _ _)
    | with_reducible apply Kept.step (Chip.supplyWarning_wires _ _)
    | split

theorem execSupplyReturn_wires (t : Nat) (supply : Fin 4) (s : State) :
    ∃ u, (execSupplyReturn t supply s) = .next { s with chip := u } ∧ Kept s.chip u := by
  unfold execSupplyReturn
  refine ⟨_, rfl, ?_⟩
  repeat' first
    | (extract_lets +onlyGivenNames x; refine .cut (x := x) ?_ ?_; rotate_left; clear_value x; intro _; rotate_left; subst x)
    | (extract_lets +onlyGivenNames x; refine .cut (x := x.2) ?_ ?_; rotate_left; clear_value x; intro _; rotate_left; subst x)
    | (extract_lets +onlyGivenNames x; refine .cut (x := x.2.2) ?_ ?_; rotate_left; clear_value x; intro _; rotate_left; subst x)
    | (extract_lets +onlyGivenNames x; clear_value x)
    | extract_lets +onlyGivenNames _
    | with_reducible apply Kept.refresh
    | with_reducible apply Kept.assert
    | with_reducible apply Kept.latch
    | with_reducible apply Kept.inputs
    | with_reducible apply Kept.refl
    | with_reducible assumption
    | decide
    | with_reducible apply Kept.within (Chip.atTime_within _ _)
    | with_reducible apply Kept.step (Chip.supplyReturn_wires _ _)
    | split

theorem execColdReset_wires (t : Nat) (cause : Fin 3) (s : State) :
    ∃ u, (execColdReset t cause s) = .next { s with chip := u } ∧ Kept s.chip u := by
  unfold execColdReset
  refine ⟨_, rfl, ?_⟩
  repeat' first
    | (extract_lets +onlyGivenNames x; refine .cut (x := x) ?_ ?_; rotate_left; clear_value x; intro _; rotate_left; subst x)
    | (extract_lets +onlyGivenNames x; refine .cut (x := x.2) ?_ ?_; rotate_left; clear_value x; intro _; rotate_left; subst x)
    | (extract_lets +onlyGivenNames x; refine .cut (x := x.2.2) ?_ ?_; rotate_left; clear_value x; intro _; rotate_left; subst x)
    | (extract_lets +onlyGivenNames x; clear_value x)
    | extract_lets +onlyGivenNames _
    | with_reducible apply Kept.refresh
    | with_reducible apply Kept.assert
    | with_reducible apply Kept.latch
    | with_reducible apply Kept.inputs
    | with_reducible apply Kept.refl
    | with_reducible assumption
    | decide
    | with_reducible apply Kept.within (Chip.atTime_within _ _)
    | with_reducible apply Kept.step (Chip.coldReset_wires _ _)
    | with_reducible apply Kept.within (Chip.powerLost_within _ _)
    | exact all_full _
    | exact testBit_full _
    | split

theorem execWatchdogExpiry_wires (t : Nat) (s : State) :
    ∃ u, (execWatchdogExpiry t s) = .next { s with chip := u } ∧ Kept s.chip u := by
  unfold execWatchdogExpiry
  refine ⟨_, rfl, ?_⟩
  repeat' first
    | (extract_lets +onlyGivenNames x; refine .cut (x := x) ?_ ?_; rotate_left; clear_value x; intro _; rotate_left; subst x)
    | (extract_lets +onlyGivenNames x; refine .cut (x := x.2) ?_ ?_; rotate_left; clear_value x; intro _; rotate_left; subst x)
    | (extract_lets +onlyGivenNames x; refine .cut (x := x.2.2) ?_ ?_; rotate_left; clear_value x; intro _; rotate_left; subst x)
    | (extract_lets +onlyGivenNames x; clear_value x)
    | extract_lets +onlyGivenNames _
    | with_reducible apply Kept.refresh
    | with_reducible apply Kept.assert
    | with_reducible apply Kept.latch
    | with_reducible apply Kept.inputs
    | with_reducible apply Kept.refl
    | with_reducible assumption
    | decide
    | with_reducible apply Kept.within (Chip.atTime_within _ _)
    | with_reducible apply Kept.step (Chip.watchdogExpiry_wires _)
    | exact all_full _
    | exact testBit_full _
    | split

theorem execLockstepMismatch_wires (t : Nat) (s : State) :
    ∃ u, (execLockstepMismatch t s) = .next { s with chip := u } ∧ Kept s.chip u := by
  unfold execLockstepMismatch
  refine ⟨_, rfl, ?_⟩
  repeat' first
    | (extract_lets +onlyGivenNames x; refine .cut (x := x) ?_ ?_; rotate_left; clear_value x; intro _; rotate_left; subst x)
    | (extract_lets +onlyGivenNames x; refine .cut (x := x.2) ?_ ?_; rotate_left; clear_value x; intro _; rotate_left; subst x)
    | (extract_lets +onlyGivenNames x; refine .cut (x := x.2.2) ?_ ?_; rotate_left; clear_value x; intro _; rotate_left; subst x)
    | (extract_lets +onlyGivenNames x; clear_value x)
    | extract_lets +onlyGivenNames _
    | with_reducible apply Kept.refresh
    | with_reducible apply Kept.assert
    | with_reducible apply Kept.latch
    | with_reducible apply Kept.inputs
    | with_reducible apply Kept.refl
    | with_reducible assumption
    | decide
    | with_reducible apply Kept.within (Chip.atTime_within _ _)
    | with_reducible apply Kept.step (Chip.lockstepMismatch_wires _)
    | exact all_full _
    | exact testBit_full _
    | split

theorem execSprRstPulse_wires (t : Nat) (width : Nat) (s : State) :
    ∃ u, (execSprRstPulse t width s) = .next { s with chip := u } ∧ Kept s.chip u := by
  unfold execSprRstPulse
  refine ⟨_, rfl, ?_⟩
  repeat' first
    | (extract_lets +onlyGivenNames x; refine .cut (x := x) ?_ ?_; rotate_left; clear_value x; intro _; rotate_left; subst x)
    | (extract_lets +onlyGivenNames x; refine .cut (x := x.2) ?_ ?_; rotate_left; clear_value x; intro _; rotate_left; subst x)
    | (extract_lets +onlyGivenNames x; refine .cut (x := x.2.2) ?_ ?_; rotate_left; clear_value x; intro _; rotate_left; subst x)
    | (extract_lets +onlyGivenNames x; clear_value x)
    | extract_lets +onlyGivenNames _
    | with_reducible apply Kept.refresh
    | with_reducible apply Kept.assert
    | with_reducible apply Kept.latch
    | with_reducible apply Kept.inputs
    | with_reducible apply Kept.refl
    | with_reducible assumption
    | decide
    | with_reducible apply Kept.within (Chip.atTime_within _ _)
    | with_reducible apply Kept.step (Chip.resetPulse_wires _ _)
    | split

theorem execAck_wires (t : Nat) (authentic : Bool) (s : State) :
    ∃ u, (execAck t authentic s) = .next { s with chip := u } ∧ Kept s.chip u := by
  unfold execAck
  refine ⟨_, rfl, ?_⟩
  repeat' first
    | (extract_lets +onlyGivenNames x; refine .cut (x := x) ?_ ?_; rotate_left; clear_value x; intro _; rotate_left; subst x)
    | (extract_lets +onlyGivenNames x; refine .cut (x := x.2) ?_ ?_; rotate_left; clear_value x; intro _; rotate_left; subst x)
    | (extract_lets +onlyGivenNames x; refine .cut (x := x.2.2) ?_ ?_; rotate_left; clear_value x; intro _; rotate_left; subst x)
    | (extract_lets +onlyGivenNames x; clear_value x)
    | extract_lets +onlyGivenNames _
    | with_reducible apply Kept.refresh
    | with_reducible apply Kept.assert
    | with_reducible apply Kept.latch
    | with_reducible apply Kept.inputs
    | with_reducible apply Kept.refl
    | with_reducible assumption
    | decide
    | with_reducible apply Kept.step (Chip.ack_wires _ _)
    | with_reducible apply Kept.within (Chip.atTime_within _ _)
    | split

theorem execImageSelection_wires (t : Nat) (levels : List Int) (edges : Bool) (s : State) :
    ∃ u, (execImageSelection t levels edges s) = .next { s with chip := u } ∧ Kept s.chip u := by
  unfold execImageSelection
  refine ⟨_, rfl, ?_⟩
  repeat' first
    | (extract_lets +onlyGivenNames x; refine .cut (x := x) ?_ ?_; rotate_left; clear_value x; intro _; rotate_left; subst x)
    | (extract_lets +onlyGivenNames x; refine .cut (x := x.2) ?_ ?_; rotate_left; clear_value x; intro _; rotate_left; subst x)
    | (extract_lets +onlyGivenNames x; refine .cut (x := x.2.2) ?_ ?_; rotate_left; clear_value x; intro _; rotate_left; subst x)
    | (extract_lets +onlyGivenNames x; clear_value x)
    | extract_lets +onlyGivenNames _
    | with_reducible apply Kept.refresh
    | with_reducible apply Kept.assert
    | with_reducible apply Kept.latch
    | with_reducible apply Kept.inputs
    | with_reducible apply Kept.refl
    | with_reducible assumption
    | decide
    | with_reducible apply Kept.within (Chip.atTime_within _ _)
    | with_reducible apply Kept.step (Chip.imageSelection_wires _ _ _)
    | split

theorem execPllLock_wires (t : Nat) (stored : Bool) (table : Bool) (full : Bool) (band : Nat) (temperature : Option Int) (s : State) :
    ∃ u, (execPllLock t stored table full band temperature s) = .next { s with chip := u } ∧ Kept s.chip u := by
  unfold execPllLock
  refine ⟨_, rfl, ?_⟩
  repeat' first
    | (extract_lets +onlyGivenNames x; refine .cut (x := x) ?_ ?_; rotate_left; clear_value x; intro _; rotate_left; subst x)
    | (extract_lets +onlyGivenNames x; refine .cut (x := x.2) ?_ ?_; rotate_left; clear_value x; intro _; rotate_left; subst x)
    | (extract_lets +onlyGivenNames x; refine .cut (x := x.2.2) ?_ ?_; rotate_left; clear_value x; intro _; rotate_left; subst x)
    | (extract_lets +onlyGivenNames x; clear_value x)
    | extract_lets +onlyGivenNames _
    | with_reducible apply Kept.refresh
    | with_reducible apply Kept.assert
    | with_reducible apply Kept.latch
    | with_reducible apply Kept.inputs
    | with_reducible apply Kept.refl
    | with_reducible assumption
    | decide
    | with_reducible apply Kept.within (Chip.atTime_within _ _)
    | with_reducible apply Kept.step (Chip.pllLock_wires _ _ _ _)
    | split

theorem execPlanHopRequest_wires (t : Nat) (plan : Fin 8) (edges : Bool) (s : State) :
    ∃ u, (execPlanHopRequest t plan edges s) = .next { s with chip := u } ∧ Kept s.chip u := by
  unfold execPlanHopRequest
  refine ⟨_, rfl, ?_⟩
  repeat' first
    | (extract_lets +onlyGivenNames x; refine .cut (x := x) ?_ ?_; rotate_left; clear_value x; intro _; rotate_left; subst x)
    | (extract_lets +onlyGivenNames x; refine .cut (x := x.2) ?_ ?_; rotate_left; clear_value x; intro _; rotate_left; subst x)
    | (extract_lets +onlyGivenNames x; refine .cut (x := x.2.2) ?_ ?_; rotate_left; clear_value x; intro _; rotate_left; subst x)
    | (extract_lets +onlyGivenNames x; clear_value x)
    | extract_lets +onlyGivenNames _
    | with_reducible apply Kept.refresh
    | with_reducible apply Kept.assert
    | with_reducible apply Kept.latch
    | with_reducible apply Kept.inputs
    | with_reducible apply Kept.refl
    | with_reducible assumption
    | decide
    | with_reducible apply Kept.within (Chip.atTime_within _ _)
    | with_reducible apply Kept.step (Chip.hopRequest_wires _ _ _)
    | split

theorem execLossOfReference_wires (t : Nat) (s : State) :
    ∃ u, (execLossOfReference t s) = .next { s with chip := u } ∧ Kept s.chip u := by
  unfold execLossOfReference
  refine ⟨_, rfl, ?_⟩
  repeat' first
    | (extract_lets +onlyGivenNames x; refine .cut (x := x) ?_ ?_; rotate_left; clear_value x; intro _; rotate_left; subst x)
    | (extract_lets +onlyGivenNames x; refine .cut (x := x.2) ?_ ?_; rotate_left; clear_value x; intro _; rotate_left; subst x)
    | (extract_lets +onlyGivenNames x; refine .cut (x := x.2.2) ?_ ?_; rotate_left; clear_value x; intro _; rotate_left; subst x)
    | (extract_lets +onlyGivenNames x; clear_value x)
    | extract_lets +onlyGivenNames _
    | with_reducible apply Kept.refresh
    | with_reducible apply Kept.assert
    | with_reducible apply Kept.latch
    | with_reducible apply Kept.inputs
    | with_reducible apply Kept.refl
    | with_reducible assumption
    | decide
    | with_reducible apply Kept.within (Chip.atTime_within _ _)
    | with_reducible apply Kept.step (Chip.referenceLost_wires _)
    | split

theorem execLossOfLock_wires (t : Nat) (s : State) :
    ∃ u, (execLossOfLock t s) = .next { s with chip := u } ∧ Kept s.chip u := by
  unfold execLossOfLock
  refine ⟨_, rfl, ?_⟩
  repeat' first
    | (extract_lets +onlyGivenNames x; refine .cut (x := x) ?_ ?_; rotate_left; clear_value x; intro _; rotate_left; subst x)
    | (extract_lets +onlyGivenNames x; refine .cut (x := x.2) ?_ ?_; rotate_left; clear_value x; intro _; rotate_left; subst x)
    | (extract_lets +onlyGivenNames x; refine .cut (x := x.2.2) ?_ ?_; rotate_left; clear_value x; intro _; rotate_left; subst x)
    | (extract_lets +onlyGivenNames x; clear_value x)
    | extract_lets +onlyGivenNames _
    | with_reducible apply Kept.refresh
    | with_reducible apply Kept.assert
    | with_reducible apply Kept.latch
    | with_reducible apply Kept.inputs
    | with_reducible apply Kept.refl
    | with_reducible assumption
    | decide
    | with_reducible apply Kept.within (Chip.atTime_within _ _)
    | with_reducible apply Kept.step (Chip.lockLost_wires _)
    | split

theorem execHoldoverExpiry_wires (t : Nat) (s : State) :
    ∃ u, (execHoldoverExpiry t s) = .next { s with chip := u } ∧ Kept s.chip u := by
  unfold execHoldoverExpiry
  refine ⟨_, rfl, ?_⟩
  repeat' first
    | (extract_lets +onlyGivenNames x; refine .cut (x := x) ?_ ?_; rotate_left; clear_value x; intro _; rotate_left; subst x)
    | (extract_lets +onlyGivenNames x; refine .cut (x := x.2) ?_ ?_; rotate_left; clear_value x; intro _; rotate_left; subst x)
    | (extract_lets +onlyGivenNames x; refine .cut (x := x.2.2) ?_ ?_; rotate_left; clear_value x; intro _; rotate_left; subst x)
    | (extract_lets +onlyGivenNames x; clear_value x)
    | extract_lets +onlyGivenNames _
    | with_reducible apply Kept.refresh
    | with_reducible apply Kept.assert
    | with_reducible apply Kept.latch
    | with_reducible apply Kept.inputs
    | with_reducible apply Kept.refl
    | with_reducible assumption
    | decide
    | with_reducible apply Kept.within (Chip.atTime_within _ _)
    | with_reducible apply Kept.step (Chip.holdoverExpiry_wires _)
    | split

theorem execYieldDeadline_wires (t : Nat) (s : State) :
    ∃ u, (execYieldDeadline t s) = .next { s with chip := u } ∧ Kept s.chip u := by
  unfold execYieldDeadline
  refine ⟨_, rfl, ?_⟩
  repeat' first
    | (extract_lets +onlyGivenNames x; refine .cut (x := x) ?_ ?_; rotate_left; clear_value x; intro _; rotate_left; subst x)
    | (extract_lets +onlyGivenNames x; refine .cut (x := x.2) ?_ ?_; rotate_left; clear_value x; intro _; rotate_left; subst x)
    | (extract_lets +onlyGivenNames x; refine .cut (x := x.2.2) ?_ ?_; rotate_left; clear_value x; intro _; rotate_left; subst x)
    | (extract_lets +onlyGivenNames x; clear_value x)
    | extract_lets +onlyGivenNames _
    | with_reducible apply Kept.refresh
    | with_reducible apply Kept.assert
    | with_reducible apply Kept.latch
    | with_reducible apply Kept.inputs
    | with_reducible apply Kept.refl
    | with_reducible assumption
    | decide
    | with_reducible apply Kept.within (Chip.atTime_within _ _)
    | with_reducible apply Kept.step (Chip.yieldDeadline_wires _)
    | split

theorem execFaultEvent_wires (t : Nat) (origins : List Nat) (s : State) :
    ∃ u, (execFaultEvent t origins s) = .next { s with chip := u } ∧ Kept s.chip u := by
  unfold execFaultEvent
  refine ⟨_, rfl, ?_⟩
  repeat' first
    | (extract_lets +onlyGivenNames x; refine .cut (x := x) ?_ ?_; rotate_left; clear_value x; intro _; rotate_left; subst x)
    | (extract_lets +onlyGivenNames x; refine .cut (x := x.2) ?_ ?_; rotate_left; clear_value x; intro _; rotate_left; subst x)
    | (extract_lets +onlyGivenNames x; refine .cut (x := x.2.2) ?_ ?_; rotate_left; clear_value x; intro _; rotate_left; subst x)
    | (extract_lets +onlyGivenNames x; clear_value x)
    | extract_lets +onlyGivenNames _
    | with_reducible apply Kept.refresh
    | with_reducible apply Kept.assert
    | with_reducible apply Kept.latch
    | with_reducible apply Kept.inputs
    | with_reducible apply Kept.refl
    | with_reducible assumption
    | decide
    | with_reducible apply Kept.within (Chip.atTime_within _ _)
    | with_reducible apply Kept.step (Chip.faultEvents_wires _ _)
    | split

theorem execSprADemand_wires (t : Nat) (ns : Nat) (s : State) :
    ∃ u, (execSprADemand t ns s) = .next { s with chip := u } ∧ Kept s.chip u := by
  unfold execSprADemand
  refine ⟨_, rfl, ?_⟩
  repeat' first
    | (extract_lets +onlyGivenNames x; refine .cut (x := x) ?_ ?_; rotate_left; clear_value x; intro _; rotate_left; subst x)
    | (extract_lets +onlyGivenNames x; refine .cut (x := x.2) ?_ ?_; rotate_left; clear_value x; intro _; rotate_left; subst x)
    | (extract_lets +onlyGivenNames x; refine .cut (x := x.2.2) ?_ ?_; rotate_left; clear_value x; intro _; rotate_left; subst x)
    | (extract_lets +onlyGivenNames x; clear_value x)
    | extract_lets +onlyGivenNames _
    | with_reducible apply Kept.refresh
    | with_reducible apply Kept.assert
    | with_reducible apply Kept.latch
    | with_reducible apply Kept.inputs
    | with_reducible apply Kept.refl
    | with_reducible assumption
    | decide
    | with_reducible apply Kept.within (Chip.atTime_within _ _)
    | with_reducible apply Kept.step (Chip.sprADemand_wires _ _)
    | split

theorem execSprBDemand_wires (t : Nat) (ns : Nat) (s : State) :
    ∃ u, (execSprBDemand t ns s) = .next { s with chip := u } ∧ Kept s.chip u := by
  unfold execSprBDemand
  refine ⟨_, rfl, ?_⟩
  repeat' first
    | (extract_lets +onlyGivenNames x; refine .cut (x := x) ?_ ?_; rotate_left; clear_value x; intro _; rotate_left; subst x)
    | (extract_lets +onlyGivenNames x; refine .cut (x := x.2) ?_ ?_; rotate_left; clear_value x; intro _; rotate_left; subst x)
    | (extract_lets +onlyGivenNames x; refine .cut (x := x.2.2) ?_ ?_; rotate_left; clear_value x; intro _; rotate_left; subst x)
    | (extract_lets +onlyGivenNames x; clear_value x)
    | extract_lets +onlyGivenNames _
    | with_reducible apply Kept.refresh
    | with_reducible apply Kept.assert
    | with_reducible apply Kept.latch
    | with_reducible apply Kept.inputs
    | with_reducible apply Kept.refl
    | with_reducible assumption
    | decide
    | with_reducible apply Kept.within (Chip.atTime_within _ _)
    | with_reducible apply Kept.step (Chip.sprBDemand_wires _ _)
    | split

theorem execSprInputRelease_wires (t : Nat) (b : Bool) (ns : Nat) (s : State) :
    ∃ u, (execSprInputRelease t b ns s) = .next { s with chip := u } ∧ Kept s.chip u := by
  unfold execSprInputRelease
  refine ⟨_, rfl, ?_⟩
  repeat' first
    | (extract_lets +onlyGivenNames x; refine .cut (x := x) ?_ ?_; rotate_left; clear_value x; intro _; rotate_left; subst x)
    | (extract_lets +onlyGivenNames x; refine .cut (x := x.2) ?_ ?_; rotate_left; clear_value x; intro _; rotate_left; subst x)
    | (extract_lets +onlyGivenNames x; refine .cut (x := x.2.2) ?_ ?_; rotate_left; clear_value x; intro _; rotate_left; subst x)
    | (extract_lets +onlyGivenNames x; clear_value x)
    | extract_lets +onlyGivenNames _
    | with_reducible apply Kept.refresh
    | with_reducible apply Kept.assert
    | with_reducible apply Kept.latch
    | with_reducible apply Kept.inputs
    | with_reducible apply Kept.refl
    | with_reducible assumption
    | decide
    | with_reducible apply Kept.within (Chip.atTime_within _ _)
    | with_reducible apply Kept.step (Chip.sprRelease_wires _ _ _)
    | split

theorem execDiscrepancyTimeout_wires (t : Nat) (s : State) :
    ∃ u, (execDiscrepancyTimeout t s) = .next { s with chip := u } ∧ Kept s.chip u := by
  unfold execDiscrepancyTimeout
  refine ⟨_, rfl, ?_⟩
  repeat' first
    | (extract_lets +onlyGivenNames x; refine .cut (x := x) ?_ ?_; rotate_left; clear_value x; intro _; rotate_left; subst x)
    | (extract_lets +onlyGivenNames x; refine .cut (x := x.2) ?_ ?_; rotate_left; clear_value x; intro _; rotate_left; subst x)
    | (extract_lets +onlyGivenNames x; refine .cut (x := x.2.2) ?_ ?_; rotate_left; clear_value x; intro _; rotate_left; subst x)
    | (extract_lets +onlyGivenNames x; clear_value x)
    | extract_lets +onlyGivenNames _
    | with_reducible apply Kept.refresh
    | with_reducible apply Kept.assert
    | with_reducible apply Kept.latch
    | with_reducible apply Kept.inputs
    | with_reducible apply Kept.refl
    | with_reducible assumption
    | decide
    | with_reducible apply Kept.within (Chip.atTime_within _ _)
    | with_reducible apply Kept.step (Chip.discrepancyTimeout_wires _)
    | split

theorem execConsentLapse_wires (t : Nat) (s : State) :
    ∃ u, (execConsentLapse t s) = .next { s with chip := u } ∧ Kept s.chip u := by
  unfold execConsentLapse
  refine ⟨_, rfl, ?_⟩
  repeat' first
    | (extract_lets +onlyGivenNames x; refine .cut (x := x) ?_ ?_; rotate_left; clear_value x; intro _; rotate_left; subst x)
    | (extract_lets +onlyGivenNames x; refine .cut (x := x.2) ?_ ?_; rotate_left; clear_value x; intro _; rotate_left; subst x)
    | (extract_lets +onlyGivenNames x; refine .cut (x := x.2.2) ?_ ?_; rotate_left; clear_value x; intro _; rotate_left; subst x)
    | (extract_lets +onlyGivenNames x; clear_value x)
    | extract_lets +onlyGivenNames _
    | with_reducible apply Kept.refresh
    | with_reducible apply Kept.assert
    | with_reducible apply Kept.latch
    | with_reducible apply Kept.inputs
    | with_reducible apply Kept.refl
    | with_reducible assumption
    | decide
    | with_reducible apply Kept.within (Chip.atTime_within _ _)
    | with_reducible apply Kept.step (Chip.consentLapse_wires _)
    | split

theorem execSafeTelegramRx_wires (t : Nat) (port : Fin 4) (bytes : List Byte) (s : State) :
    ∃ u, (execSafeTelegramRx t port bytes s) = .next { s with chip := u } ∧ Kept s.chip u := by
  unfold execSafeTelegramRx
  refine ⟨_, rfl, ?_⟩
  repeat' first
    | (extract_lets +onlyGivenNames x; refine .cut (x := x) ?_ ?_; rotate_left; clear_value x; intro _; rotate_left; subst x)
    | (extract_lets +onlyGivenNames x; refine .cut (x := x.2) ?_ ?_; rotate_left; clear_value x; intro _; rotate_left; subst x)
    | (extract_lets +onlyGivenNames x; refine .cut (x := x.2.2) ?_ ?_; rotate_left; clear_value x; intro _; rotate_left; subst x)
    | (extract_lets +onlyGivenNames x; clear_value x)
    | extract_lets +onlyGivenNames _
    | with_reducible apply Kept.refresh
    | with_reducible apply Kept.assert
    | with_reducible apply Kept.latch
    | with_reducible apply Kept.inputs
    | with_reducible apply Kept.refl
    | with_reducible assumption
    | decide
    | with_reducible apply Kept.within (Chip.atTime_within _ _)
    | with_reducible apply Kept.step (Chip.safeTelegram_wires _ _ _)
    | split

theorem execPermitCommand_wires (t : Nat) (s : State) :
    ∃ u, (execPermitCommand t s) = .next { s with chip := u } ∧ Kept s.chip u := by
  unfold execPermitCommand
  refine ⟨_, rfl, ?_⟩
  repeat' first
    | (extract_lets +onlyGivenNames x; refine .cut (x := x) ?_ ?_; rotate_left; clear_value x; intro _; rotate_left; subst x)
    | (extract_lets +onlyGivenNames x; refine .cut (x := x.2) ?_ ?_; rotate_left; clear_value x; intro _; rotate_left; subst x)
    | (extract_lets +onlyGivenNames x; refine .cut (x := x.2.2) ?_ ?_; rotate_left; clear_value x; intro _; rotate_left; subst x)
    | (extract_lets +onlyGivenNames x; clear_value x)
    | extract_lets +onlyGivenNames _
    | with_reducible apply Kept.refresh
    | with_reducible apply Kept.assert
    | with_reducible apply Kept.latch
    | with_reducible apply Kept.inputs
    | with_reducible apply Kept.refl
    | with_reducible assumption
    | decide
    | with_reducible apply Kept.within (Chip.atTime_within _ _)
    | with_reducible apply Kept.step (Chip.permitCommand_wires _)
    | split

theorem execRemoveCommand_wires (t : Nat) (s : State) :
    ∃ u, (execRemoveCommand t s) = .next { s with chip := u } ∧ Kept s.chip u := by
  unfold execRemoveCommand
  refine ⟨_, rfl, ?_⟩
  repeat' first
    | (extract_lets +onlyGivenNames x; refine .cut (x := x) ?_ ?_; rotate_left; clear_value x; intro _; rotate_left; subst x)
    | (extract_lets +onlyGivenNames x; refine .cut (x := x.2) ?_ ?_; rotate_left; clear_value x; intro _; rotate_left; subst x)
    | (extract_lets +onlyGivenNames x; refine .cut (x := x.2.2) ?_ ?_; rotate_left; clear_value x; intro _; rotate_left; subst x)
    | (extract_lets +onlyGivenNames x; clear_value x)
    | extract_lets +onlyGivenNames _
    | with_reducible apply Kept.refresh
    | with_reducible apply Kept.assert
    | with_reducible apply Kept.latch
    | with_reducible apply Kept.inputs
    | with_reducible apply Kept.refl
    | with_reducible assumption
    | decide
    | with_reducible apply Kept.within (Chip.atTime_within _ _)
    | with_reducible apply Kept.step (Chip.removeCommand_wires _)
    | split

theorem execTelegramCopyTimeout_wires (t : Nat) (seq : Nat) (s : State) :
    ∃ u, (execTelegramCopyTimeout t seq s) = .next { s with chip := u } ∧ Kept s.chip u := by
  unfold execTelegramCopyTimeout
  refine ⟨_, rfl, ?_⟩
  repeat' first
    | (extract_lets +onlyGivenNames x; refine .cut (x := x) ?_ ?_; rotate_left; clear_value x; intro _; rotate_left; subst x)
    | (extract_lets +onlyGivenNames x; refine .cut (x := x.2) ?_ ?_; rotate_left; clear_value x; intro _; rotate_left; subst x)
    | (extract_lets +onlyGivenNames x; refine .cut (x := x.2.2) ?_ ?_; rotate_left; clear_value x; intro _; rotate_left; subst x)
    | (extract_lets +onlyGivenNames x; clear_value x)
    | extract_lets +onlyGivenNames _
    | with_reducible apply Kept.refresh
    | with_reducible apply Kept.assert
    | with_reducible apply Kept.latch
    | with_reducible apply Kept.inputs
    | with_reducible apply Kept.refl
    | with_reducible assumption
    | decide
    | with_reducible apply Kept.within (Chip.atTime_within _ _)
    | with_reducible apply Kept.step (Chip.copyTimeout_wires _ _)
    | split

theorem execTelegramWatchExpiry_wires (t : Nat) (s : State) :
    ∃ u, (execTelegramWatchExpiry t s) = .next { s with chip := u } ∧ Kept s.chip u := by
  unfold execTelegramWatchExpiry
  refine ⟨_, rfl, ?_⟩
  repeat' first
    | (extract_lets +onlyGivenNames x; refine .cut (x := x) ?_ ?_; rotate_left; clear_value x; intro _; rotate_left; subst x)
    | (extract_lets +onlyGivenNames x; refine .cut (x := x.2) ?_ ?_; rotate_left; clear_value x; intro _; rotate_left; subst x)
    | (extract_lets +onlyGivenNames x; refine .cut (x := x.2.2) ?_ ?_; rotate_left; clear_value x; intro _; rotate_left; subst x)
    | (extract_lets +onlyGivenNames x; clear_value x)
    | extract_lets +onlyGivenNames _
    | with_reducible apply Kept.refresh
    | with_reducible apply Kept.assert
    | with_reducible apply Kept.latch
    | with_reducible apply Kept.inputs
    | with_reducible apply Kept.refl
    | with_reducible assumption
    | decide
    | with_reducible apply Kept.within (Chip.atTime_within _ _)
    | with_reducible apply Kept.step (Chip.watchExpiry_wires _)
    | split

theorem execStatusTelegramSend_wires (t : Nat) (s : State) :
    ∃ u, (execStatusTelegramSend t s) = .next { s with chip := u } ∧ Kept s.chip u := by
  unfold execStatusTelegramSend
  refine ⟨_, rfl, ?_⟩
  repeat' first
    | (extract_lets +onlyGivenNames x; refine .cut (x := x) ?_ ?_; rotate_left; clear_value x; intro _; rotate_left; subst x)
    | (extract_lets +onlyGivenNames x; refine .cut (x := x.2) ?_ ?_; rotate_left; clear_value x; intro _; rotate_left; subst x)
    | (extract_lets +onlyGivenNames x; refine .cut (x := x.2.2) ?_ ?_; rotate_left; clear_value x; intro _; rotate_left; subst x)
    | (extract_lets +onlyGivenNames x; clear_value x)
    | extract_lets +onlyGivenNames _
    | with_reducible apply Kept.refresh
    | with_reducible apply Kept.assert
    | with_reducible apply Kept.latch
    | with_reducible apply Kept.inputs
    | with_reducible apply Kept.refl
    | with_reducible assumption
    | decide
    | with_reducible apply Kept.within (Chip.atTime_within _ _)
    | with_reducible apply Kept.step (Chip.sendStatus_wires _)
    | split

theorem execHalyardHeaderRx_wires (t : Nat) (lane : Fin 2) (header : Word) (s : State) :
    ∃ u, (execHalyardHeaderRx t lane header s) = .next { s with chip := u } ∧ Kept s.chip u := by
  unfold execHalyardHeaderRx
  refine ⟨_, rfl, ?_⟩
  repeat' first
    | (extract_lets +onlyGivenNames x; refine .cut (x := x) ?_ ?_; rotate_left; clear_value x; intro _; rotate_left; subst x)
    | (extract_lets +onlyGivenNames x; refine .cut (x := x.2) ?_ ?_; rotate_left; clear_value x; intro _; rotate_left; subst x)
    | (extract_lets +onlyGivenNames x; refine .cut (x := x.2.2) ?_ ?_; rotate_left; clear_value x; intro _; rotate_left; subst x)
    | (extract_lets +onlyGivenNames x; clear_value x)
    | extract_lets +onlyGivenNames _
    | with_reducible apply Kept.refresh
    | with_reducible apply Kept.assert
    | with_reducible apply Kept.latch
    | with_reducible apply Kept.inputs
    | with_reducible apply Kept.refl
    | with_reducible assumption
    | decide
    | with_reducible apply Kept.within (Chip.atTime_within _ _)
    | with_reducible apply Kept.step (Chip.halyardHeader_wires _ _ _)
    | split

theorem execHandoverAct_wires (t : Nat) (s : State) :
    ∃ u, (execHandoverAct t s) = .next { s with chip := u } ∧ Kept s.chip u := by
  unfold execHandoverAct
  refine ⟨_, rfl, ?_⟩
  repeat' first
    | (extract_lets +onlyGivenNames x; refine .cut (x := x) ?_ ?_; rotate_left; clear_value x; intro _; rotate_left; subst x)
    | (extract_lets +onlyGivenNames x; refine .cut (x := x.2) ?_ ?_; rotate_left; clear_value x; intro _; rotate_left; subst x)
    | (extract_lets +onlyGivenNames x; refine .cut (x := x.2.2) ?_ ?_; rotate_left; clear_value x; intro _; rotate_left; subst x)
    | (extract_lets +onlyGivenNames x; clear_value x)
    | extract_lets +onlyGivenNames _
    | with_reducible apply Kept.refresh
    | with_reducible apply Kept.assert
    | with_reducible apply Kept.latch
    | with_reducible apply Kept.inputs
    | with_reducible apply Kept.refl
    | with_reducible assumption
    | decide
    | with_reducible apply Kept.within (Chip.atTime_within _ _)
    | with_reducible apply Kept.step (Chip.handoverAct_wires _)
    | with_reducible apply Kept.within (Chip.publishFollows_within _)
    | split

theorem execStationCheckComplete_wires (t : Nat) (id : Nat) (edges : Bool) (s : State) :
    ∃ u, (execStationCheckComplete t id edges s) = .next { s with chip := u } ∧ Kept s.chip u := by
  unfold execStationCheckComplete
  refine ⟨_, rfl, ?_⟩
  repeat' first
    | (extract_lets +onlyGivenNames x; refine .cut (x := x) ?_ ?_; rotate_left; clear_value x; intro _; rotate_left; subst x)
    | (extract_lets +onlyGivenNames x; refine .cut (x := x.2) ?_ ?_; rotate_left; clear_value x; intro _; rotate_left; subst x)
    | (extract_lets +onlyGivenNames x; refine .cut (x := x.2.2) ?_ ?_; rotate_left; clear_value x; intro _; rotate_left; subst x)
    | (extract_lets +onlyGivenNames x; clear_value x)
    | extract_lets +onlyGivenNames _
    | with_reducible apply Kept.refresh
    | with_reducible apply Kept.assert
    | with_reducible apply Kept.latch
    | with_reducible apply Kept.inputs
    | with_reducible apply Kept.refl
    | with_reducible assumption
    | decide
    | with_reducible apply Kept.within (Chip.atTime_within _ _)
    | with_reducible apply Kept.step (Chip.stationCheck_wires _ _ _)
    | exact all_full _
    | exact testBit_full _
    | split

theorem execRead_wires (t : Nat) (key : Fin 8) (address : Word) (count : Nat) (s : State) :
    ∃ u, (execRead t key address count s) = .next { s with chip := u } ∧ Kept s.chip u := by
  unfold execRead
  refine ⟨_, rfl, ?_⟩
  repeat' first
    | (extract_lets +onlyGivenNames x; refine .cut (x := x) ?_ ?_; rotate_left; clear_value x; intro _; rotate_left; subst x)
    | (extract_lets +onlyGivenNames x; refine .cut (x := x.2) ?_ ?_; rotate_left; clear_value x; intro _; rotate_left; subst x)
    | (extract_lets +onlyGivenNames x; refine .cut (x := x.2.2) ?_ ?_; rotate_left; clear_value x; intro _; rotate_left; subst x)
    | (extract_lets +onlyGivenNames x; clear_value x)
    | extract_lets +onlyGivenNames _
    | with_reducible apply Kept.refresh
    | with_reducible apply Kept.assert
    | with_reducible apply Kept.latch
    | with_reducible apply Kept.inputs
    | with_reducible apply Kept.refl
    | with_reducible assumption
    | decide
    | with_reducible apply Kept.within (Chip.atTime_within _ _)
    | with_reducible apply Kept.step (Chip.singleOp_wires _ _ _ _)
    | exact all_full _
    | exact testBit_full _
    | split

theorem execWrite_wires (t : Nat) (key : Fin 8) (address : Word) (value : Word) (edges : Bool) (s : State) :
    ∃ u, (execWrite t key address value edges s) = .next { s with chip := u } ∧ Kept s.chip u := by
  unfold execWrite
  refine ⟨_, rfl, ?_⟩
  repeat' first
    | (extract_lets +onlyGivenNames x; refine .cut (x := x) ?_ ?_; rotate_left; clear_value x; intro _; rotate_left; subst x)
    | (extract_lets +onlyGivenNames x; refine .cut (x := x.2) ?_ ?_; rotate_left; clear_value x; intro _; rotate_left; subst x)
    | (extract_lets +onlyGivenNames x; refine .cut (x := x.2.2) ?_ ?_; rotate_left; clear_value x; intro _; rotate_left; subst x)
    | (extract_lets +onlyGivenNames x; clear_value x)
    | extract_lets +onlyGivenNames _
    | with_reducible apply Kept.refresh
    | with_reducible apply Kept.assert
    | with_reducible apply Kept.latch
    | with_reducible apply Kept.inputs
    | with_reducible apply Kept.refl
    | with_reducible assumption
    | decide
    | with_reducible apply Kept.within (Chip.atTime_within _ _)
    | with_reducible apply Kept.step (Chip.singleOp_wires _ _ _ _)
    | exact all_full _
    | exact testBit_full _
    | split

theorem execTrigger_wires (t : Nat) (key : Fin 8) (s : State) :
    ∃ u, (execTrigger t key s) = .next { s with chip := u } ∧ Kept s.chip u := by
  unfold execTrigger
  refine ⟨_, rfl, ?_⟩
  repeat' first
    | (extract_lets +onlyGivenNames x; refine .cut (x := x) ?_ ?_; rotate_left; clear_value x; intro _; rotate_left; subst x)
    | (extract_lets +onlyGivenNames x; refine .cut (x := x.2) ?_ ?_; rotate_left; clear_value x; intro _; rotate_left; subst x)
    | (extract_lets +onlyGivenNames x; refine .cut (x := x.2.2) ?_ ?_; rotate_left; clear_value x; intro _; rotate_left; subst x)
    | (extract_lets +onlyGivenNames x; clear_value x)
    | extract_lets +onlyGivenNames _
    | with_reducible apply Kept.refresh
    | with_reducible apply Kept.assert
    | with_reducible apply Kept.latch
    | with_reducible apply Kept.inputs
    | with_reducible apply Kept.refl
    | with_reducible assumption
    | decide
    | with_reducible apply Kept.within (Chip.atTime_within _ _)
    | with_reducible apply Kept.step (Chip.singleOp_wires _ _ _ _)
    | exact all_full _
    | exact testBit_full _
    | split

theorem execRecList_wires (t : Nat) (key : Fin 8) (first : Word) (count : Nat) (s : State) :
    ∃ u, (execRecList t key first count s) = .next { s with chip := u } ∧ Kept s.chip u := by
  unfold execRecList
  refine ⟨_, rfl, ?_⟩
  repeat' first
    | (extract_lets +onlyGivenNames x; refine .cut (x := x) ?_ ?_; rotate_left; clear_value x; intro _; rotate_left; subst x)
    | (extract_lets +onlyGivenNames x; refine .cut (x := x.2) ?_ ?_; rotate_left; clear_value x; intro _; rotate_left; subst x)
    | (extract_lets +onlyGivenNames x; refine .cut (x := x.2.2) ?_ ?_; rotate_left; clear_value x; intro _; rotate_left; subst x)
    | (extract_lets +onlyGivenNames x; clear_value x)
    | extract_lets +onlyGivenNames _
    | with_reducible apply Kept.refresh
    | with_reducible apply Kept.assert
    | with_reducible apply Kept.latch
    | with_reducible apply Kept.inputs
    | with_reducible apply Kept.refl
    | with_reducible assumption
    | decide
    | with_reducible apply Kept.within (Chip.atTime_within _ _)
    | with_reducible apply Kept.step (Chip.singleOp_wires _ _ _ _)
    | exact all_full _
    | exact testBit_full _
    | split

theorem execRecRead_wires (t : Nat) (key : Fin 8) (record : Word) (offset : Word) (count : Nat) (s : State) :
    ∃ u, (execRecRead t key record offset count s) = .next { s with chip := u } ∧ Kept s.chip u := by
  unfold execRecRead
  refine ⟨_, rfl, ?_⟩
  repeat' first
    | (extract_lets +onlyGivenNames x; refine .cut (x := x) ?_ ?_; rotate_left; clear_value x; intro _; rotate_left; subst x)
    | (extract_lets +onlyGivenNames x; refine .cut (x := x.2) ?_ ?_; rotate_left; clear_value x; intro _; rotate_left; subst x)
    | (extract_lets +onlyGivenNames x; refine .cut (x := x.2.2) ?_ ?_; rotate_left; clear_value x; intro _; rotate_left; subst x)
    | (extract_lets +onlyGivenNames x; clear_value x)
    | extract_lets +onlyGivenNames _
    | with_reducible apply Kept.refresh
    | with_reducible apply Kept.assert
    | with_reducible apply Kept.latch
    | with_reducible apply Kept.inputs
    | with_reducible apply Kept.refl
    | with_reducible assumption
    | decide
    | with_reducible apply Kept.within (Chip.atTime_within _ _)
    | with_reducible apply Kept.step (Chip.singleOp_wires _ _ _ _)
    | exact all_full _
    | exact testBit_full _
    | split

theorem execLedgerRead_wires (t : Nat) (key : Fin 8) (entry : Word) (offset : Word) (count : Nat) (s : State) :
    ∃ u, (execLedgerRead t key entry offset count s) = .next { s with chip := u } ∧ Kept s.chip u := by
  unfold execLedgerRead
  refine ⟨_, rfl, ?_⟩
  repeat' first
    | (extract_lets +onlyGivenNames x; refine .cut (x := x) ?_ ?_; rotate_left; clear_value x; intro _; rotate_left; subst x)
    | (extract_lets +onlyGivenNames x; refine .cut (x := x.2) ?_ ?_; rotate_left; clear_value x; intro _; rotate_left; subst x)
    | (extract_lets +onlyGivenNames x; refine .cut (x := x.2.2) ?_ ?_; rotate_left; clear_value x; intro _; rotate_left; subst x)
    | (extract_lets +onlyGivenNames x; clear_value x)
    | extract_lets +onlyGivenNames _
    | with_reducible apply Kept.refresh
    | with_reducible apply Kept.assert
    | with_reducible apply Kept.latch
    | with_reducible apply Kept.inputs
    | with_reducible apply Kept.refl
    | with_reducible assumption
    | decide
    | with_reducible apply Kept.within (Chip.atTime_within _ _)
    | with_reducible apply Kept.step (Chip.singleOp_wires _ _ _ _)
    | exact all_full _
    | exact testBit_full _
    | split

theorem execLedgerNewest_wires (t : Nat) (key : Fin 8) (kind : Word) (count : Nat) (s : State) :
    ∃ u, (execLedgerNewest t key kind count s) = .next { s with chip := u } ∧ Kept s.chip u := by
  unfold execLedgerNewest
  refine ⟨_, rfl, ?_⟩
  repeat' first
    | (extract_lets +onlyGivenNames x; refine .cut (x := x) ?_ ?_; rotate_left; clear_value x; intro _; rotate_left; subst x)
    | (extract_lets +onlyGivenNames x; refine .cut (x := x.2) ?_ ?_; rotate_left; clear_value x; intro _; rotate_left; subst x)
    | (extract_lets +onlyGivenNames x; refine .cut (x := x.2.2) ?_ ?_; rotate_left; clear_value x; intro _; rotate_left; subst x)
    | (extract_lets +onlyGivenNames x; clear_value x)
    | extract_lets +onlyGivenNames _
    | with_reducible apply Kept.refresh
    | with_reducible apply Kept.assert
    | with_reducible apply Kept.latch
    | with_reducible apply Kept.inputs
    | with_reducible apply Kept.refl
    | with_reducible assumption
    | decide
    | with_reducible apply Kept.within (Chip.atTime_within _ _)
    | with_reducible apply Kept.step (Chip.singleOp_wires _ _ _ _)
    | exact all_full _
    | exact testBit_full _
    | split

theorem execLogRead_wires (t : Nat) (key : Fin 8) (index : Word) (offset : Word) (count : Nat) (s : State) :
    ∃ u, (execLogRead t key index offset count s) = .next { s with chip := u } ∧ Kept s.chip u := by
  unfold execLogRead
  refine ⟨_, rfl, ?_⟩
  repeat' first
    | (extract_lets +onlyGivenNames x; refine .cut (x := x) ?_ ?_; rotate_left; clear_value x; intro _; rotate_left; subst x)
    | (extract_lets +onlyGivenNames x; refine .cut (x := x.2) ?_ ?_; rotate_left; clear_value x; intro _; rotate_left; subst x)
    | (extract_lets +onlyGivenNames x; refine .cut (x := x.2.2) ?_ ?_; rotate_left; clear_value x; intro _; rotate_left; subst x)
    | (extract_lets +onlyGivenNames x; clear_value x)
    | extract_lets +onlyGivenNames _
    | with_reducible apply Kept.refresh
    | with_reducible apply Kept.assert
    | with_reducible apply Kept.latch
    | with_reducible apply Kept.inputs
    | with_reducible apply Kept.refl
    | with_reducible assumption
    | decide
    | with_reducible apply Kept.within (Chip.atTime_within _ _)
    | with_reducible apply Kept.step (Chip.singleOp_wires _ _ _ _)
    | exact all_full _
    | exact testBit_full _
    | split

theorem execAttest_wires (t : Nat) (key : Fin 8) (address : Word) (value : Word) (s : State) :
    ∃ u, (execAttest t key address value s) = .next { s with chip := u } ∧ Kept s.chip u := by
  unfold execAttest
  refine ⟨_, rfl, ?_⟩
  repeat' first
    | (extract_lets +onlyGivenNames x; refine .cut (x := x) ?_ ?_; rotate_left; clear_value x; intro _; rotate_left; subst x)
    | (extract_lets +onlyGivenNames x; refine .cut (x := x.2) ?_ ?_; rotate_left; clear_value x; intro _; rotate_left; subst x)
    | (extract_lets +onlyGivenNames x; refine .cut (x := x.2.2) ?_ ?_; rotate_left; clear_value x; intro _; rotate_left; subst x)
    | (extract_lets +onlyGivenNames x; clear_value x)
    | extract_lets +onlyGivenNames _
    | with_reducible apply Kept.refresh
    | with_reducible apply Kept.assert
    | with_reducible apply Kept.latch
    | with_reducible apply Kept.inputs
    | with_reducible apply Kept.refl
    | with_reducible assumption
    | decide
    | with_reducible apply Kept.within (Chip.atTime_within _ _)
    | with_reducible apply Kept.step (Chip.singleOp_wires _ _ _ _)
    | exact all_full _
    | exact testBit_full _
    | split

theorem execUnknownOperation_wires (t : Nat) (key : Fin 8) (code : Byte) (s : State) :
    ∃ u, (execUnknownOperation t key code s) = .next { s with chip := u } ∧ Kept s.chip u := by
  unfold execUnknownOperation
  refine ⟨_, rfl, ?_⟩
  repeat' first
    | (extract_lets +onlyGivenNames x; refine .cut (x := x) ?_ ?_; rotate_left; clear_value x; intro _; rotate_left; subst x)
    | (extract_lets +onlyGivenNames x; refine .cut (x := x.2) ?_ ?_; rotate_left; clear_value x; intro _; rotate_left; subst x)
    | (extract_lets +onlyGivenNames x; refine .cut (x := x.2.2) ?_ ?_; rotate_left; clear_value x; intro _; rotate_left; subst x)
    | (extract_lets +onlyGivenNames x; clear_value x)
    | extract_lets +onlyGivenNames _
    | with_reducible apply Kept.refresh
    | with_reducible apply Kept.assert
    | with_reducible apply Kept.latch
    | with_reducible apply Kept.inputs
    | with_reducible apply Kept.refl
    | with_reducible assumption
    | decide
    | with_reducible apply Kept.within (Chip.atTime_within _ _)
    | with_reducible apply Kept.step (Chip.singleOp_wires _ _ _ _)
    | exact all_full _
    | exact testBit_full _
    | split

theorem execThermalEvaluation_wires (t : Nat) (readings : List SensorReading) (s : State) :
    ∃ u, (execThermalEvaluation t readings s) = .next { s with chip := u } ∧ Kept s.chip u := by
  unfold execThermalEvaluation
  refine ⟨_, rfl, ?_⟩
  repeat' first
    | (extract_lets +onlyGivenNames x; refine .cut (x := x) ?_ ?_; rotate_left; clear_value x; intro _; rotate_left; subst x)
    | (extract_lets +onlyGivenNames x; refine .cut (x := x.2) ?_ ?_; rotate_left; clear_value x; intro _; rotate_left; subst x)
    | (extract_lets +onlyGivenNames x; refine .cut (x := x.2.2) ?_ ?_; rotate_left; clear_value x; intro _; rotate_left; subst x)
    | (extract_lets +onlyGivenNames x; clear_value x)
    | extract_lets +onlyGivenNames _
    | with_reducible apply Kept.refresh
    | with_reducible apply Kept.assert
    | with_reducible apply Kept.latch
    | with_reducible apply Kept.inputs
    | with_reducible apply Kept.refl
    | with_reducible assumption
    | decide
    | with_reducible apply Kept.within (Chip.atTime_within _ _)
    | with_reducible apply Kept.step (Chip.evaluateTemperatures_wires _ _)
    | split

theorem execShutdownRecordWritten_wires (t : Nat) (s : State) :
    ∃ u, (execShutdownRecordWritten t s) = .next { s with chip := u } ∧ Kept s.chip u := by
  unfold execShutdownRecordWritten
  refine ⟨_, rfl, ?_⟩
  repeat' first
    | (extract_lets +onlyGivenNames x; refine .cut (x := x) ?_ ?_; rotate_left; clear_value x; intro _; rotate_left; subst x)
    | (extract_lets +onlyGivenNames x; refine .cut (x := x.2) ?_ ?_; rotate_left; clear_value x; intro _; rotate_left; subst x)
    | (extract_lets +onlyGivenNames x; refine .cut (x := x.2.2) ?_ ?_; rotate_left; clear_value x; intro _; rotate_left; subst x)
    | (extract_lets +onlyGivenNames x; clear_value x)
    | extract_lets +onlyGivenNames _
    | with_reducible apply Kept.refresh
    | with_reducible apply Kept.assert
    | with_reducible apply Kept.latch
    | with_reducible apply Kept.inputs
    | with_reducible apply Kept.refl
    | with_reducible assumption
    | decide
    | with_reducible apply Kept.within (Chip.atTime_within _ _)
    | with_reducible apply Kept.step (Chip.shutdownWritten_wires _)
    | split

theorem execShutdownDeadline_wires (t : Nat) (s : State) :
    ∃ u, (execShutdownDeadline t s) = .next { s with chip := u } ∧ Kept s.chip u := by
  unfold execShutdownDeadline
  refine ⟨_, rfl, ?_⟩
  repeat' first
    | (extract_lets +onlyGivenNames x; refine .cut (x := x) ?_ ?_; rotate_left; clear_value x; intro _; rotate_left; subst x)
    | (extract_lets +onlyGivenNames x; refine .cut (x := x.2) ?_ ?_; rotate_left; clear_value x; intro _; rotate_left; subst x)
    | (extract_lets +onlyGivenNames x; refine .cut (x := x.2.2) ?_ ?_; rotate_left; clear_value x; intro _; rotate_left; subst x)
    | (extract_lets +onlyGivenNames x; clear_value x)
    | extract_lets +onlyGivenNames _
    | with_reducible apply Kept.refresh
    | with_reducible apply Kept.assert
    | with_reducible apply Kept.latch
    | with_reducible apply Kept.inputs
    | with_reducible apply Kept.refl
    | with_reducible assumption
    | decide
    | with_reducible apply Kept.within (Chip.atTime_within _ _)
    | with_reducible apply Kept.step (Chip.shutdownDeadline_wires _)
    | split

theorem execLedgerWrite_wires (t : Nat) (s : State) :
    ∃ u, (execLedgerWrite t s) = .next { s with chip := u } ∧ Kept s.chip u := by
  unfold execLedgerWrite
  refine ⟨_, rfl, ?_⟩
  repeat' first
    | (extract_lets +onlyGivenNames x; refine .cut (x := x) ?_ ?_; rotate_left; clear_value x; intro _; rotate_left; subst x)
    | (extract_lets +onlyGivenNames x; refine .cut (x := x.2) ?_ ?_; rotate_left; clear_value x; intro _; rotate_left; subst x)
    | (extract_lets +onlyGivenNames x; refine .cut (x := x.2.2) ?_ ?_; rotate_left; clear_value x; intro _; rotate_left; subst x)
    | (extract_lets +onlyGivenNames x; clear_value x)
    | extract_lets +onlyGivenNames _
    | with_reducible apply Kept.refresh
    | with_reducible apply Kept.assert
    | with_reducible apply Kept.latch
    | with_reducible apply Kept.inputs
    | with_reducible apply Kept.refl
    | with_reducible assumption
    | decide
    | with_reducible apply Kept.within (Chip.atTime_within _ _)
    | with_reducible apply Kept.step (Chip.ledgerWrite_wires _)
    | split

end Sys2Proof.Machine
end

