-- ==== Sys2Proof/Machine/Balls.lean ====
section
/-! DEFINITION. The balls of the package (R609 to R615): the name of every position of the 39 × 39 array, by the rules of
chapter 22. Rows and columns count from 1. -/

namespace Sys2Proof.Machine

/-- What a ball is (R610 to R613). A lane's balls carry the lane number of R130, so that AX[n] is lane 96 + n. -/
inductive Ball where
  | vss | nc | vddC | vddM | vddLa | vddLh | vddaPll | vddioA | vddioB | vsys | hold
  | laneTxp (n : Nat) | laneTxn (n : Nat) | laneRxp (n : Nat) | laneRxn (n : Nat)
  | portTxp (n : Nat) | portTxn (n : Nat) | portRxp (n : Nat) | portRxn (n : Nat)
  | xtalIn | xtalOut | refinP | refinN | clkoP (n : Nat) | clkoN (n : Nat)
  | osmCk | osmDs | osmDq (n : Nat) | osmCsN (n : Nat) | osmRstN
  | tck | tms | tdi | tdo | trstN | porstN | pairEn | priOut | aliveA | aliveB
  | lp (n : Nat) | trip (n : Nat) | po (n : Nat)
  | ainP (n : Nat) | ainN (n : Nat) | arefP | arefN | tsP (n : Nat) | tsN (n : Nat) | sprA | sprB | sprRst
  | vdrv (n : Nat) | gcp (n : Nat) | gdh (n : Nat) | gds (n : Nat) | gdl (n : Nat) | vneg (n : Nat) | gdi (n : Nat)
  deriving DecidableEq, Repr

/-- The row letters (R609). -/
def rowLetters : List String :=
  ["A", "B", "C", "D", "E", "F", "G", "H", "J", "K", "L", "M", "N", "P", "T", "U", "V", "W", "Y", "AA", "AB", "AC", "AD",
   "AE", "AF", "AG", "AH", "AJ", "AK", "AL", "AM", "AN", "AP", "AT", "AU", "AV", "AW", "AY", "BA"]

/-- A ball's coordinate, as G10 (R609). -/
def ballCoordinate (row col : Nat) : String := rowLetters.getD (row - 1) "" ++ toString col

/-- The lane region (R611): the upper row of a tile holds TXP, TXN and VSS, the lower RXP, RXN and VSS. -/
def laneBall (row col : Nat) : Ball :=
  let n := 13 * ((row - 1) / 2) + (col - 1) / 3
  let k := (col - 1) % 3
  if 100 ≤ n ∨ k = 2 then .vss
  else if (row - 1) % 2 = 0 then (if k = 0 then .laneTxp n else .laneTxn n)
  else (if k = 0 then .laneRxp n else .laneRxn n)

/-- The logic supply region, rows 21 to 32 and columns 1 to 26 (R610): of the positions whose row and column add to an odd
number, 13 a row, the first 116 in fill order are VDD_C. -/
def logicBall (row col : Nat) : Ball :=
  if (row + col) % 2 = 0 then .vss
  else if 13 * (row - 21) + (col - 1) / 2 < 116 then .vddC else .vddM

/-- `k` times one ball. -/
def balls (k : Nat) (b : Ball) : List Ball := List.replicate k b

/-- The Mast die signals, row by row in column order (R612). -/
def mastRow : Nat → List Ball
  | 33 => (List.range 4).flatMap (fun n => [.portTxp n, .portTxn n, .portRxp n, .portRxn n]) ++
      [.vss, .xtalIn, .xtalOut, .refinP, .refinN, .vss] ++ balls 4 .vddaPll
  | 34 => (List.range 4).flatMap (fun n => [.clkoP n, .clkoN n]) ++ [.vss] ++ balls 4 .vddioA ++ [.osmCk, .osmDs] ++
      (List.range 8).map .osmDq ++ [.vss] ++ balls 2 .vddioA
  | 35 => [.osmCsN 0, .osmCsN 1, .osmRstN] ++ balls 4 .vddioA ++
      [.tck, .tms, .tdi, .tdo, .trstN, .vss, .porstN, .pairEn, .priOut, .aliveA, .vss] ++ balls 6 .vddioA ++ balls 2 .vss
  | 36 => (List.range 16).map .lp ++ balls 4 .vddioB ++ balls 6 .vss
  | 37 => (List.range' 16 16).map .lp ++ balls 4 .vddioB ++ balls 6 .vss
  | 38 => (List.range 16).map .trip ++ balls 4 .vddioB ++ balls 6 .vss
  | _ => (List.range 8).map .po ++ balls 18 .vss

/-- The row of gate-driver channel `n` (R613). -/
def gateRow (n : Nat) : List Ball :=
  balls 2 (.vdrv n) ++ [.gcp n] ++ balls 2 (.gdh n) ++ balls 3 (.gds n) ++ balls 2 (.gdl n) ++ balls 2 (.vneg n) ++ [.gdi n]

/-- The Rigging die balls in fill order by group of rows, with the group's first row (R613). -/
def riggingGroup (row : Nat) : Nat × List Ball :=
  if row ≤ 18 then (17, balls 12 .vsys ++ balls 8 .hold ++ balls 6 .vss)
  else if row ≤ 22 then (19, (List.range 24).flatMap (fun n => [.ainP n, .ainN n]) ++ [.arefP, .arefN] ++ balls 2 .vss)
  else if row ≤ 25 then
    (23, (List.range 16).flatMap (fun n => [.tsP n, .tsN n]) ++ [.sprA, .sprB, .sprRst, .aliveB] ++ balls 3 .vss)
  else match row with
    | 27 => (27, gateRow 0)
    | 28 => (28, gateRow 1)
    | 30 => (30, gateRow 2)
    | 31 => (31, gateRow 3)
    | 33 => (33, gateRow 4)
    | 34 => (34, gateRow 5)
    | 36 => (36, gateRow 6)
    | 37 => (37, gateRow 7)
    | 38 | 39 => (38, balls 26 .vss)
    | r => (r, balls 13 .nc)

/-- The ball at a row and a column (R610). -/
def ballAt (row col : Nat) : Ball :=
  if row ≤ 16 then laneBall row col
  else if 27 ≤ col then
    let g := riggingGroup row
    g.2.getD (13 * (row - g.1) + (col - 27)) .nc
  else if row ≤ 18 then .vddLa
  else if row ≤ 20 then .vddLh
  else if row ≤ 32 then logicBall row col
  else (mastRow row).getD (col - 1) .nc

/-- A signal ball: neither a supply, nor ground, nor unconnected. VDRV[n] and VNEG[n] count as signals (R614). -/
def Ball.isSignal : Ball → Bool
  | .vss | .nc | .vddC | .vddM | .vddLa | .vddLh | .vddaPll | .vddioA | .vddioB | .vsys | .hold => false
  | _ => true

/-- All balls of a row. -/
def ballRow (row : Nat) : List Ball := (List.range' 1 39).map (ballAt row)

/-- How many balls of the array a test holds for. -/
def ballCount (p : Ball → Bool) : Nat := ((List.range' 1 39).map fun r => (ballRow r).countP p).foldl (· + ·) 0

end Sys2Proof.Machine
end

