-- ==== Sys2Proof/WellFormed.lean ====
section
/-! DEFINITION. Which commands are well formed: the limits the spec sets on what a command carries, beyond those its type already sets.
The meanings are total, and answer on every command; these are the commands that the hardware can meet. -/

namespace Sys2Proof

/-- An address of a word on the register bus. -/
def wordAligned (a : Word) : Bool := a.toNat % 4 == 0

/-- The register at an address, if any. -/
def registerAt (a : Word) : Option Machine.Reg := (Machine.findReg Machine.Reg.all a.toNat).map (·.1)

/-- The address is that of a register with a field of access `k` (R5). -/
def hasAccess (k : Machine.Access) (a : Word) : Bool :=
  match registerAt a with
  | some r => r.spec.fields.any fun f => f.spec.access == k
  | none => false

/-- The address is that of the low half, or of the high half, of a 64-bit register (R5, R6). -/
def isLowHalf (a : Word) : Bool := (registerAt a).any fun r => (Machine.highHalfOf r).isSome
def isHighHalfAddress (a : Word) : Bool := (registerAt a).any fun r => (Machine.isHighHalf r).isSome

/-- An address on the Rigging die (R9). -/
def riggingAddress (a : Word) : Bool := Machine.onRigging a.toNat

/-- The limits of R276 on REP and SKN, of the group table on MSEL, and of TAB's table on its size (R278). -/
def repWellFormed (w : Machine.OpWord) : Bool := decide (1 ≤ w.a.toNat) && decide (w.a.toNat ≤ 16) &&
  decide (1 ≤ w.b.toNat) && decide (w.b.toNat ≤ 4096)
def sknWellFormed (w : Machine.OpWord) : Bool := w.n != 0
def mselWellFormed (w : Machine.OpWord) : Bool := decide (w.a.toNat < 8)
def trkWellFormed (w : Machine.OpWord) : Bool := decide (w.n.toNat ≤ 1)
def tabWellFormed (w : Machine.OpWord) : Bool := decide (2 ≤ w.n.toNat) && decide (w.n.toNat ≤ 8)

/-- A frame of an Ethernet port has 64 to 1,522 bytes (R481). -/
def frameWellFormed (f : EthFrameRx) : Bool := decide (64 ≤ f.length) && decide (f.length ≤ 1522)

/-- The well-formed commands. -/
def Instr.wellFormed : Instr → Bool
  | .registerWrite _ a _ _ => wordAligned a
  | .w1cWrite _ a _ => wordAligned a && hasAccess .w1c a
  | .rcRead _ a => wordAligned a && hasAccess .rc a
  | .lowHalfRead _ a => isLowHalf a
  | .highHalfRead _ a => isHighHalfAddress a
  | .riggingAccess _ a _ => wordAligned a && riggingAddress a
  | .edgeReload _ late unfinished => (late.all fun x => decide (x < 6)) && unfinished.all fun x => decide (x < 102)
  | .sprRstPulse _ width => width != 0
  | .imageSelection _ inputs _ => inputs.length == 24
  | .thresholdReadback _ conversions => conversions.length == 24 && conversions.all fun x => x.1.length == 384 && x.2.length == 384
  | .thermalEvaluation _ readings => readings.length == 22
  | .rep _ w => repWellFormed w
  | .skn _ w => sknWellFormed w
  | .msel _ w => mselWellFormed w
  | .trk _ w => trkWellFormed w
  | .tab _ w => tabWellFormed w
  | .sramScrubStep _ upsets _ =>
    upsets.all fun u => decide (u.1 < 2097152) && decide u.2.Nodup && u.2.all fun b => decide (b ≤ 138)
  | .faultEvent _ origins => origins.all fun o => decide (o < 1024)
  | .idNonceRx _ _ frame _ => frame.length == 24
  | .idProofRx _ _ _ _ key proof _ => key.length == 96 && proof.length == 96
  | .identityDerivation _ derived => derived.length == 96
  | .nandOpComplete _ _ page _ _ found => decide (page < 64) && found.data.length == 4096 && found.spare.length == 128
  | .retentionRefresh _ _ wrong => wrong.all fun x => x.2.all fun i => decide (i < 33792)
  | .copyFrameRx _ _ part share _ _ => decide (1 ≤ part) && decide (part ≤ 3) && decide (share < 2)
  | .frameRxClassify _ _ f _ _ => frameWellFormed f
  | .powerOnSliceTest _ failed => failed.all fun i => decide (i ≤ 1024)
  | .dbgResponse _ din => din.length == 768
  | .ownerFuse _ din _ hash burned _ => din.length == 385 && hash.length == 48 && burned.length == 48
  | .extest _ balls din => balls.length == din.length
  | .extestPulse _ balls din => balls.length == din.length
  | .extestTrain _ balls din => balls.length == din.length
  | .samplePreload _ balls din => balls.length == din.length
  | .riggingAccessTimeout .. | .budgetMarginRestart .. | .periodBoundary .. | .inputDistributionClose ..
  | .engineComputeStart .. | .engineRelease .. | .balancingStart .. | .sheafTransmissionStart ..
  | .sheafWindowClose .. | .intervalStart .. | .idbFrameRx .. | .shroudIdbSilence .. | .mastIdbSilence ..
  | .requestCommission .. | .requestCharge .. | .requestRun .. | .requestStopTransfer ..
  | .requestEnterQuiescent .. | .requestLeaveQuiescent .. | .requestWarmReset .. | .modeTransition ..
  | .endOfConfigure .. | .quiescentResume .. | .lockoutEntryPersisted .. | .lockoutEntryRetry ..
  | .lockoutRestore .. | .earlyWarningTrip .. | .vsysReturn .. | .coldReset .. | .porstNRelease ..
  | .watchdogExpiry .. | .lockstepMismatch .. | .ackWindowExpiry .. | .ack .. | .backgroundImageCheck ..
  | .setpointWrite .. | .loopControlWrite .. | .coefficientWrite .. | .pllLock .. | .relockRetry ..
  | .bandTableUpdate .. | .planHopRequest .. | .lossOfReference .. | .lossOfLock .. | .holdoverExpiry ..
  | .referenceReturn .. | .yieldDeadline .. | .laneBlockLock .. | .laneLossOfLock .. | .laneResetRequest ..
  | .loopTimedTimeout .. | .baleReceived .. | .idleBlockRx .. | .echoRequestSend .. | .echoResponseRx .. | .echoTimeout .. | .fomUpdate ..
  | .eyeScanRequest .. | .eyeScanInterval .. | .eyeScanComplete .. | .readaptRequest .. | .readaptComplete ..
  | .eeCommit .. | .tripAsserted .. | .tripMaskEnd .. | .cellBypass .. | .cellRelease .. | .cellSwap ..
  | .bypassConfirmTimeout .. | .rotationAdvance .. | .spreadWatchFire .. | .prechargeTimeout .. | .nop .. | .clr ..
  | .lda .. | .mac .. | .msu .. | .mac2 .. | .ash .. | .sat .. | .addi .. | .int .. | .mov .. | .neg .. | .add ..
  | .sub .. | .mul .. | .min .. | .max .. | .lim .. | .sin .. | .clk .. | .ick .. | .prk .. | .ipk .. | .inSlot ..
  | .outSlot .. | .setx .. | .addx .. | .endLoop .. | .svFrameRx .. | .sampleMissing .. | .gooseFrameRx ..
  | .gooseTtlExpiry .. | .sequenceTrigger .. | .adcResultComplete .. | .sliceRotation .. | .channelSourceChange ..
  | .calibrationComplete .. | .comparatorOutside .. | .comparatorInside .. | .comparatorResolved ..
  | .meteringWindowEnd .. | .periodicSave .. | .saveRetry .. | .metrologySave .. | .finalSaveWritten ..
  | .gdStaticOn .. | .gdStaticOff .. | .gdRearm .. | .gdStampsLate .. | .gdUvloEntry .. | .gdUvloExit ..
  | .gdShortDetect .. | .gdBlankEnd .. | .gdSoftOffEnd .. | .gdInterlock .. | .faultWindowExpiry ..
  | .lockoutBitsCapture .. | .aliveToggle .. | .fcKick .. | .kickTimeout .. | .sprADemand .. | .sprBDemand ..
  | .sprInputRelease .. | .discrepancyTimeout .. | .consentLapse .. | .safeTelegramRx .. | .permitCommand ..
  | .removeCommand .. | .telegramCopyTimeout .. | .telegramWatchExpiry .. | .statusTelegramSend ..
  | .halyardHeaderRx .. | .partnerSilence .. | .silenceTakeoverCheck .. | .silenceYieldCheck .. | .halMarkRx ..
  | .identityCheckComplete .. | .identityRetry .. | .handoverRequest .. | .handoverAct .. | .handoverRetry ..
  | .portLinkUp .. | .portLinkLoss .. | .lanFaultTimeout .. | .hsrForward .. | .supervisionFrameSend ..
  | .ptpSyncRx .. | .ptpAnnounceTimeout .. | .pdelayReqRx .. | .ptpMessageSend .. | .pulseEdge .. | .poArm ..
  | .svPublishSample .. | .gooseFastChange .. | .gooseRepeat .. | .stationRequestRx .. | .stationCheckComplete ..
  | .read .. | .write .. | .trigger .. | .recList .. | .recRead .. | .ledgerRead .. | .ledgerNewest .. | .logRead ..
  | .attest .. | .unknownOperation .. | .arpIcmpRx .. | .shutdownRecordWritten .. | .shutdownDeadline ..
  | .shutdownRecordRetry .. | .reefForcedClear .. | .holdupReadyTimeout .. | .granaryRequest .. | .granaryReturn ..
  | .granaryStarved .. | .sliceCycleStart .. | .ceSliceHandover .. | .eeSliceHandover .. | .eeSSlice ..
  | .pcsSliceHandover .. | .pcsHandoverTimeout .. | .blockWireTest .. | .securitySlice .. | .compareUnitTest ..
  | .sliceSignatureCompare .. | .sliceHandback .. | .cycleLate .. | .supplyMonitorCheck .. | .eeLLockstepMismatch ..
  | .nandOpTimeout .. | .ledgerWrite .. | .ledgerScan ..
  | .recorderSample .. | .recordTrigger .. | .recordLock .. | .recordFlush .. | .logWrite .. | .firmwareBoot ..
  | .firmwareRetry .. | .vaultClear .. | .supplyWarning .. | .bypass .. | .idcode ..
  | .status .. | .dbgLock .. | .dbgChallenge .. | .dbgResponseCheck .. | .challengeExpiry .. | .engineRead ..
  | .halt .. | .resume .. | .supplyReturn .. | .tripDeasserted .. | .localEdge .. | .stationLeaveTimeout ..
  | .vsysFallsToHold .. | .holdReadyChange .. | .frameTransmissionEnd .. | .echoRequestRx .. => true

end Sys2Proof
end

