-- ==== Sys2Proof/Tests/Slice0.lean ====
section
/-! SUPPORT. Witnesses: for each statement a concrete block and operands that meet its hypotheses, at the boundaries of their ranges, with what
the command leaves there; and which commands are well formed. The expected values follow from the rules the statements cite. -/

set_option Elab.async false
open Sys2Proof Sys2Proof.Machine
namespace Sys2Proof.Tests
/-- The block after reset with PORST_N released and the given fields set: field, instance, value. -/
def chipOf (l : List (Fld × Nat × Nat)) : Chip :=
  l.foldl (fun s x => s.wr x.1 x.2.2 x.2.1) { State.reset.chip with modes := { porstLow := false } }
/-- The block after one command. -/
def after (i : Instr) (s : Chip) : Chip :=
  match exec i { chip := s } with
  | .next u => u.chip
  | _ => State.reset.chip
/-- The registers of two blocks agree but for the listed fields. -/
def agree (u s : Chip) (l : List (Fld × Nat)) : Bool :=
  let k := l.map fun x => x.1.key x.2
  (u.regs.filter fun e => !k.contains e.1) == s.regs.filter fun e => !k.contains e.1
def key (f : Fld) (i : Nat := 0) : Fld × Nat := (f, i)

def engineWord (a b c : Nat) (n : Nat := 0) (acc : Bool := false) : Machine.OpWord := { a := BitVec.ofNat 13 a, b := BitVec.ofNat 13 b, c := BitVec.ofNat 13 c, n := BitVec.ofNat 4 n, acc }

/-- All that is READY is used from the last boundary on, and step 4 acts (R65, R208). -/
def allUsable (s : Chip) : Chip := { s with modes := { s.modes with usable := 2 ^ 300 - 1, edgesActive := true } }
/-- A control engine that runs its first loop of two, in COMMISSION. -/
def engineChip : Chip :=
  let g : Engine := { phase := .running, a0 := 549755813887, a1 := -7, image := { loops := [{ outWord := some 5 }, {}], inSlots := [0x10480000], outSlots := [0x10490000], groups := [{ members := [] }] } }
  allUsable ((chipOf [(.imageStat_appliedValid, 0, 1), (.modeStat_mode, 0, 1), (.ceCfg_active, 23, 1), (.ceCfg_runsOn, 23, 23)]).setEngine 23
    (((((g.setDm 1 (-32768)).setDm 2 32767).setDm 3 300).setDm 4 (-5)).setDm 8191 100))
/-- An instruction word by the bits of R273. -/
def wordOf (code : Nat) (w : Machine.OpWord) : Nat :=
  2 ^ 50 * code + 2 ^ 49 * flag w.xa + 2 ^ 48 * flag w.xb + 2 ^ 47 * flag w.xc + 2 ^ 46 * flag w.acc + 2 ^ 42 * w.n.toNat + 2 ^ 26 * w.a.toNat +
    2 ^ 13 * w.b.toNat + w.c.toNat
/-- The block after an instruction of engine 23 whose program holds it. -/
def run (op : Fin 24 → Machine.OpWord → Instr) (code : Nat) (w : Machine.OpWord) (s : Chip) : Chip :=
  let g := s.engine 23
  let s := s.setEngine 23 { g with image := { g.image with program := List.replicate g.pc 0 ++ [wordOf code w] } }
  if s.executes 23 code w || g.skip != 0 then after (op 23 w) s else State.reset.chip

/-- A key pair of the curve, the private number 7: its public key, and what it signed below. The parity of the pages follows R566. All of it was
computed outside the model. -/
def testKey : List Byte := beBytes 96 0x283C1D7365CE4788F29F8EBF234EDFFEAD6FE997FBEA5FFA2D58CC9DFA7B1C508B05526F55B9EBB2040F05B48FB6D0E19475C99061E41B88BA52EFDB8C1690471A61D867ED799729D9C92CD01DBD225630D84EDE32A78F9E64664CDAC512EF8C
def requestSig : List Byte := beBytes 96 0x7A85AD5FDE68C4C2DF5756C2C3CAA93D9A74EEE9762413FB6EC95D01D11841110C9A276EA579267DCA0813F4BEDD52B1DCF4207232D9304F988A5562383B39FC09C0F00364EC5D53750419B5C82BF0259B1FC84E9DFD9367CBC35D447CB079A2
/-- A nonce, and the key's signature over it with the member and rank bytes 1 and 1 (R457). -/
def identityNonce : List Byte := (List.range 16).map fun i => BitVec.ofNat 8 (i + 1)
def identitySig : List Byte := beBytes 96 0x46AC62EB4D61FFD2595159A6948187F33D191F65EEEF0B3A696352F693CFA35D8D8166506A6D123EF031B67EE17E148889A6AB2A02DF517CBE6D9445E953E28B3C8635DB61E4D651F29F82298E26722C318637103D743BD47E7832BAEC2DB36F
/-- A page of 4,096 bytes that begins with the given ones, of a region, with its parity. -/
def testPage (bytes : List Byte) (region : Byte) (parity : Nat) : NandPage :=
  { data := bytes ++ List.replicate (4096 - bytes.length) 0xFF,
    spare := [0xFF, 0xFF, region, 0, 0, 0, 0, 0, 0, 0, 0, 0, 0, 0, 0xFF, 0xFF] ++ beBytes 112 parity }
/-- A firmware copy of version 9 in one page, and an image of sequence 6 whose one section is the system's. -/
def firmwareBytes : List Byte := leBytes 4 0x56594657 ++ [1, 0, 0, 0, 0x12, 0x96, 2, 0] ++ leBytes 4 9 ++ leBytes 4 256 ++ List.replicate 44 0 ++ testKey ++
  beBytes 96 0xA04C6F3E16184BA578C0FDA73E106CA94745DBE8B3557865D3FC57E8B8726A81C0B6C243C1E18D29E56CC0313DE3651A5F77935F23DDE943C15DC2B23204C425DF50187B39F19CB9F1617AEF8DF270302DACD7BD7E60DFECA83361B1BF19CBBD
def firmwarePage : NandPage := testPage firmwareBytes 1 0xC852C50B9C84FFBB54AD0E0296F9FE620ADF757872D1215F0A2CE090C3A725B10F37A1B300BC346266C40A3B6CE63EFDEFCDFB0864454F21C3A725B10F37A1B300BC346266C40A3B6CE63EFDEFCDFB0864454F21B0A443FFB153F448C2ACFC35B14ED3ACB327476F4015152AB6D6A072
def imageBytes : List Byte := leBytes 4 0x5659494D ++ [1, 0, 0, 1, 0x12, 0x96, 2, 0] ++ leBytes 4 6 ++ leBytes 4 468 ++ [1, 0] ++ List.replicate 10 0 ++ testKey ++
  List.replicate 128 0 ++ [1, 0, 0, 0] ++ leBytes 4 0x140 ++ leBytes 4 48 ++ leBytes 4 0 ++ List.replicate 48 0 ++
  [100, 0, 10, 0, 0, 1, 1, 0, 100, 0, 0, 0, 0, 0, 0, 0, 0, 0, 0, 0x80] ++ List.replicate 28 0 ++ leBytes 4 0xae3586d7 ++ beBytes 96 0x03595BCB5E9A69A85EE1A6F249CC363F566242EC8662A1341462F731B847C1B635CF362C792D20B32438A433A79E9D0DDD972952EC99159197B31AB4A3630F17A2EE3CE0805C6EEE834138F7AB454143D7C04CBFD0740C7FB46ED4112E0C1230
def testKeyHash : List Byte := beBytes 48 0x23F483080C149D8F735AA82A32F21BACDD93B8CE607AC182110F7B3E828442E0EBA9A5653F3DA819029CAAC0B8CB67EA
/-- The bytes that `requestSig` signs. -/
def requestHead : List Byte := [1, 0, 0, 1] ++ leBytes 4 5 ++ leBytes 4 0 ++ [0, 0, 0, 0, 1, 0] ++ leBytes 2 1 ++ leBytes 4 0x40000000 ++ leBytes 4 0
/-- The line bits of blocks from a transmitter that has sent nothing, and a receiver in block lock that has received nothing. -/
def lineOf (blocks : List LineBlock) : List Bool := (LineTx.sendAll {} blocks).1
def lockedRx : LineRx := { locked := true }
def imagePage : NandPage := testPage imageBytes 4 0x67CA91A8428E2F69E98FCD8B50ABC7C98A8E16D6B98BA9B7B25BCE76C3A725B10F37A1B300BC346266C40A3B6CE63EFDEFCDFB0864454F21C3A725B10F37A1B300BC346266C40A3B6CE63EFDEFCDFB0864454F215B9FB8F59A4CCEF7A22D0F5A7529285D3A643643842CB0904A800CCF

/-- Witnesses of `Obligations.WritesActByAccessCodeAndWord`: rw, rw2, w1c, ro, sram, sramEnds. -/
theorem test_writesActByAccessCodeAndWord : (
  let s := chipOf [(.sramScrubStat_enabled, 0, 1), (.idbStat_linkUp, 0, 1), (.poCfg_enabled, 2, 1)]
  [
    findReg Reg.all 0x48000208 == some (.poArmSec, 0) && (after (.registerWrite 5 0x48000208 0x12345678 false) s).rd .poArmSec_sec == 0x12345678,
    findReg Reg.all 0x4800020C == some (.poArmNs, 0),
    let s := s.wr .fsSticky_bits 0xF0 3; let a := Reg.fsSticky.spec.base + 12; findReg Reg.all a == some (.fsSticky, 3) && (after (.w1cWrite 5 (BitVec.ofNat 32 a) 0x30) s).rd .fsSticky_bits 3 == 0xC0,
    let s := s; findReg Reg.all 0x40000000 == some (.sysIdent, 0) && (after (.registerWrite 5 0x40000000 0xFFFFFFFF false) s) == { s.atTime 5 with regs := s.regs },
    let u := after (.registerWrite 5 0x10400004 0x04030201 false) s; u.sramByte 0x10400004 == 1 && u.sramByte 0x10400007 == 4 && u.sramByte 0x10400008 == 0,
    let u := after (.registerWrite 5 0x11FFFFFC 0x04030201 false) s; u.sramByte 0x11FFFFFF == 4 && sramReadOnly 0x1050FFFC == false && sramReadOnly 0x10510000] : List Bool).all id = true := by decide +kernel

/-- Witnesses of `Obligations.WritesActByAccessCodeAndWord`: sramBad. -/
theorem test_writesActByAccessCodeAndWord_2 : (
  let s := chipOf [(.sramScrubStat_enabled, 0, 1), (.idbStat_linkUp, 0, 1), (.poCfg_enabled, 2, 1)]
  [
    let s := { s with sram := { s.sram with upsets := [(0, [3, 5])] } }; let u := after (.registerWrite 5 0x10000000 1 false) s;
      s.sramShows 0 == .uncorrectable && u.rd .sramUncorrAddr_addr == 0x1000000 && u.rd .sramUncorrAddr_valid == 1 && u.faults.events == [originSram] && u.sram == s.sram,
    let s := { s with sram := { s.sram with upsets := [(0, [137, 136]), (1, [138])] } }; let u := after (.registerWrite 5 0x10000004 9 false) s;
      s.sramShows 0 == .corrected && s.sramShows 1 == .uncorrectable && u.rd .sramCorrCount_count == 1 && u.sramByte 0x10000004 == 9 && u.sram.upsets == [(1, [138])]] : List Bool).all id = true := by decide +kernel

/-- Witnesses of `Obligations.CommandRegistersCarryTheirCommands`: mode1, margin, hop, laneReset, commit. -/
theorem test_commandRegistersCarryTheirCommands : (
  let s := chipOf [(.sramScrubStat_enabled, 0, 1), (.idbStat_linkUp, 0, 1), (.poCfg_enabled, 2, 1)]
  [
    after (.registerWrite 5 0x40000008 1 false) s == after (.requestCommission 5) s,
    after (.registerWrite 5 0x4000010C 0x80000000 false) s == after (.budgetMarginRestart 5) s,
    after (.registerWrite 5 0x40000304 7 true) s == after (.planHopRequest 5 7 true) s,
    after (.registerWrite 5 (BitVec.ofNat 32 (0x41000018 + 4096 * 99)) 1 true) s == after (.laneResetRequest 5 99) s,
    let m := s.wr .modeStat_mode 1; m.mode == .commission && after (.registerWrite 5 0x42000000 1 true) m == after (.eeCommit 5) m,
    s.mode != .commission && after (.registerWrite 5 0x42000000 1 true) s == s.atTime 5] : List Bool).all id = true := by decide +kernel

/-- Witnesses of `Obligations.ReadsClearRcFieldsAndEmptyAddressesReadZero`: rc, empty. -/
theorem test_readsClearRcFieldsAndEmptyAddressesReadZero : (
  let s := chipOf [(.sramScrubStat_enabled, 0, 1), (.idbStat_linkUp, 0, 1), (.poCfg_enabled, 2, 1)]
  [
    let s := s.wr .stCount_accepted 7; let a := match Reg.all.find? (· == .stCount) with | some r => r.spec.base | none => 0;
      findReg Reg.all a == some (.stCount, 0) && let u := after (.rcRead 5 (BitVec.ofNat 32 a)) s
      u.rd .stCount_accepted == 0 && u.bus.lastRead.toNat == s.readWord .stCount 0 && u.bus.lastRead != 0,
    findReg Reg.all 0x40000FFC == none && after (.rcRead 5 0x40000FFC) s == s.atTime 5 && after (.registerWrite 5 0x40000FFC 3 false) s == s.atTime 5] : List Bool).all id = true := by decide +kernel

/-- Witnesses of `Obligations.HalvesReadThroughTheShadow`: halves, halvesOk. -/
theorem test_halvesReadThroughTheShadow : (
  let s := chipOf [(.sramScrubStat_enabled, 0, 1), (.idbStat_linkUp, 0, 1), (.poCfg_enabled, 2, 1)]
  [
    (halfTable 0).all fun e => match e with
      | (lo, hi, _, st, b, n) => findReg Reg.all lo.spec.base == some (lo, 0) && findReg Reg.all hi.spec.base == some (hi, 0) &&
        (after (.highHalfRead 5 (BitVec.ofNat 32 hi.spec.base)) s).rdBit st b n && !s.rdBit st b n,
    (halfTable 0).all fun e => match e with
      | (lo, hi, _, st, b, n) => let u := after (.lowHalfRead 5 (BitVec.ofNat 32 lo.spec.base)) s
        !(after (.highHalfRead 5 (BitVec.ofNat 32 hi.spec.base)) u).rdBit st b n] : List Bool).all id = true := by decide +kernel

/-- Witnesses of `Obligations.RiggingAccessWithoutAnswerIsCounted`: lost, lostW, timeout. -/
theorem test_riggingAccessWithoutAnswerIsCounted : (
  let s := chipOf [(.sramScrubStat_enabled, 0, 1), (.idbStat_linkUp, 0, 1), (.poCfg_enabled, 2, 1)]
  let d := chipOf [(.idbStat_linkUp, 0, 0), (.idbStat_lostAccesses, 0, 255)]
  [
    let u := after (.riggingAccess 5 0x50000000 none) d; u.bus.lastRead == 0xFFFFFFFF && u.rd .idbStat_lostAccesses == 255,
    let u := after (.riggingAccess 5 0x50000000 (some 1)) (d.wr .idbStat_lostAccesses 254); u.rd .idbStat_lostAccesses == 255,
    let u := after (.riggingAccessTimeout 5 false) s; u.bus.lastRead == 0xFFFFFFFF && u.rd .idbStat_lostAccesses == 1] : List Bool).all id = true := by decide +kernel

/-- Witnesses of `Obligations.InterDieFramesAndSilence`: mast, mastEarly, shroud, shroudEarly, good, unblock. -/
theorem test_interDieFramesAndSilence : (
  let s := chipOf [(.idbStat_linkUp, 0, 1)]
  let h := { s with spr := { s.spr with idbUp := true } }
  [
    let u := after (.mastIdbSilence 20000) s; u.rd .idbStat_linkUp == 0 && u.faults.events == [originIdbSilence],
    after (.mastIdbSilence 19999) s == s.atTime 19999,
    let u := after (.shroudIdbSilence 20000) h; u.wiresAsserted && u.rd .shroudStat_lockout == 1 && u.rd .shroudStat_holdCause == 1 && u.faults.events == [originIdbSilence] && u.rd .fcStat_aliveBFrozen == 1,
    after (.shroudIdbSilence 19999) h == h.atTime 19999,
    let s := (chipOf [(.shroudStat_sprA, 0, 1)]); let s := { s with faults := { s.faults with idbEvents := [845] } };
      let u := after (.idbFrameRx 9 false true) s; u.rd .idbStat_linkUp == 1 && u.faults.idbEvents == [] && u.rd .sprStat_aDemand == 1 && u.spr.mastHeard == 9 && u.faults.events.contains 845,
    let s := chipOf [(.modeStat_mode, 0, 3), (.shroudStat_lockout, 0, 0), (.shroudStat_sprB, 0, 0), (.pllStat_synthDown, 0, 0), (.sprStat_aDemand, 0, 0), (.sprStat_bDemand, 0, 0)];
      let u := after (.idbFrameRx 9 true true) s; u.rd .shroudStat_bw == 0 && u.rd .shroudStat_drvDisable == 0 && u.rd .shroudStat_mastConsent == 1] : List Bool).all id = true := by decide +kernel

/-- Witnesses of `Obligations.InterDieFramesAndSilence`: block, badMast, badShroud. -/
theorem test_interDieFramesAndSilence_2 : (
  let s := chipOf [(.idbStat_linkUp, 0, 1)]
  [
    let u := after (.idbFrameRx 9 true true) s; u.wiresAsserted,
    let w := { s with spr := { s.spr with reaction := .spr } }; let u := after (.idbFrameRx 9 true true) w; u.rd .shroudStat_lockout == 1 && u.rd .shroudStat_holdCause == 2 && u.spr.reaction == .none && u.wiresAsserted,
    let u := after (.idbFrameRx 9 false false) s; u.rd .idbStat_retries == 1,
    let u := after (.idbFrameRx 9 true false) s; u.rd .idbStat_retries == 1 && u.wiresAsserted && u.rd .shroudStat_mastConsent == 0] : List Bool).all id = true := by decide +kernel

/-- Witnesses of `Obligations.ScrubWalksAndMarginRestarts`: scrub, margin. -/
theorem test_scrubWalksAndMarginRestarts : (
  let s := chipOf [(.idbStat_linkUp, 0, 1)]
  [
    let s := chipOf [(.sramScrubStat_enabled, 0, 1), (.sramScrubStat_passes, 0, 0xFFFFFF)]; let s := { s with sram := { s.sram with scrubAt := sramWords - 1 } };
      let u := after (.sramScrubStep 9 [(sramWords - 1, [7]), (0, [1, 3])] 2) s;
      Registers.wf s.regs && u.rd .sramCorrCount_count == 1 && u.faults.events == [originSram] && u.sram.scrubAt == 1 && u.rd .sramScrubStat_passes == 0 && u.sram.upsets == [(0, [1, 3])],
    let s := chipOf [(.budgetMargin_minMargin, 0, 5), (.budgetMargin_worstCe, 0, 3)]; let u := after (.budgetMarginRestart 9) s;
      u.rd .budgetMargin_minMargin == 65535 && u.rd .budgetMargin_worstCe == 0 && agree u s [(.budgetMargin_minMargin, 0), (.budgetMargin_worstCe, 0)]] : List Bool).all id = true := by decide +kernel

/-- Witnesses of `Obligations.FaultEventsCountAndEscalate`: count, second, windowRun, note, degrade, suspended. -/
theorem test_faultEventsCountAndEscalate : (
  let s0 := chipOf [(.idbStat_linkUp, 0, 1), (.fcOrigin_source, 100, 40), (.fsCfg_n, 40, 2), (.fsCfg_w, 40, 1), (.fsCfg_class, 40, 2), (.modeStat_mode, 0, 3), (.imageStat_appliedValid, 0, 1)]
  let s := { s0 with faults := { s0.faults with events := [7, 100, 100] }, spr := { s0.spr with idbUp := true } }
  let one (s : Chip) := s.wr .fsCfg_n 1 40
  let holds (u : Chip) (c : HoldCause) : Bool := u.mode == .safeHold && u.rd .modeStat_holdCause == c.code && u.rd .delibStat_windowOpen == 0 &&
    u.rd .fcStat_reaction == flag c.isSystem && u.rd .shroudStat_mastConsent == 0 && u.wiresAsserted && u.rd .eeStat_halted == 0 &&
    (List.range 8).all (fun n => u.rd .gdStat_staticOn n == 0) && u.rd .fcStat_aliveAFrozen == 1 && u.rd .fcStat_aliveBFrozen == 1
  let ev (s : Chip) := after (.faultEvent 5 [100]) s
  let sev := FaultClass.ofCode (s.rd .fsCfg_class 40)
  [
    s.rd .fsCfg_n 40 == 2 && sev == .severe && let u := ev s; u.sticky 40 && u.rd .fsCount_events 40 == 1 && u.rd .fsCount_winOpen 40 == 1 && u.rd .fsCount_winCount 40 == 1 &&
      u.faults.events == [7, 100] && u.faults.log.any (fun e => e.source == 40 && !e.merged) && agree u s [(.fsSticky_bits, 1), (.fsCount_events, 40), (.fsCount_winOpen, 40), (.fsCount_winCount, 40)],
    let v := ev s; let u := ev v; u.rd .fsCount_winOpen 40 == 0 && u.rd .fsCount_winCount 40 == 0 && u.rdBit .fsEsc_bits 8 1 && u.rd .fcStat_escalations == 1 && holds u .severe && u.rd .shroudStat_lockout == 1 && (after (.faultEvent 5 [100]) { v with spr := { v.spr with idbUp := false } }).spr.reaction == .severe,
    let v := ev s; let v := { v with clock := { v.clock with now := 1000005 } }; v.windowOver 40 && let u := after (.faultEvent 1000005 [100]) v; u.rd .fsCount_winCount 40 == 1 && u.rd .fsCount_events 40 == 2,
    let s := (one s).wr .fsCfg_class 0 40; s.sourceClass 40 == .note && let u := ev s; u.rd .fcStat_notePending == 1 && u.mode == .run && u.rd .fcStat_escalations == 1,
    let s := (one s).wr .fsCfg_class 1 40; s.sourceClass 40 == .degrade && let u := ev s; u.rd .fcStat_degradePending == 1 && u.mode == .run && (u.cell 4).degradeDue,
    let s := ((one s).wr .fsCfg_class 1 40).wr .modeStat_mode 5; s.degradeSuspended && !s.reaction && let u := ev s; u.rd .fcStat_degradePending == 1 && u.faults.events == [7, 100]] : List Bool).all id = true := by decide +kernel

/-- Witnesses of `Obligations.FaultEventsCountAndEscalate`: merged. -/
theorem test_faultEventsCountAndEscalate_2 : (
  let s0 := chipOf [(.idbStat_linkUp, 0, 1), (.fcOrigin_source, 100, 40), (.fsCfg_n, 40, 2), (.fsCfg_w, 40, 1), (.fsCfg_class, 40, 2), (.modeStat_mode, 0, 3), (.imageStat_appliedValid, 0, 1)]
  let s := { s0 with faults := { s0.faults with events := [7, 100, 100] }, spr := { s0.spr with idbUp := true } }
  let one (s : Chip) := s.wr .fsCfg_n 1 40
  let ev (s : Chip) := after (.faultEvent 5 [100]) s
  [
    let s := ((one s).wr .modeStat_mode 5).wr .modeStat_holdCause 1; s.reaction && let u := ev s; u.rd .fcStat_merged == 1 && !u.rdBit .fsEsc_bits 8 1 && u.faults.events == [7, 100]] : List Bool).all id = true := by decide +kernel

/-- Witnesses of `Obligations.WindowsLockoutBitsAndAlive`: expiry, expiryEarly, bits, alive, kick, kickHold. -/
theorem test_windowsLockoutBitsAndAlive : (
  let s0 := chipOf [(.idbStat_linkUp, 0, 1), (.fcOrigin_source, 100, 40), (.fsCfg_n, 40, 2), (.fsCfg_w, 40, 1), (.fsCfg_class, 40, 2), (.modeStat_mode, 0, 3), (.imageStat_appliedValid, 0, 1)]
  let s := { s0 with faults := { s0.faults with events := [7, 100, 100] }, spr := { s0.spr with idbUp := true } }
  let ev (s : Chip) := after (.faultEvent 5 [100]) s
  [
    let v := ev s; v.on .fsCount_winOpen 40 && let u := after (.faultWindowExpiry 1000005 40) v; u.rd .fsCount_winOpen 40 == 0 && u.rd .fsCount_winCount 40 == 0 && agree u v [(.fsCount_winOpen, 40), (.fsCount_winCount, 40)],
    let v := ev s; after (.faultWindowExpiry 1000004 40) v == v.atTime 1000004,
    let s := { s with modes := { s.modes with lockoutEntries := [{ cause := 3, waits := some 0 }, { cause := 1 }, { cause := 2, waits := some 1 }] } }; let u := after (.lockoutBitsCapture 10000000) (s.wr .fsSticky_bits 9 2);
      (u.modes.lockoutEntries.map fun e => (e.cause, e.waits, e.sticky[2]?)) == [(3, none, some 9), (1, none, none), (2, some 1, none)] && after (.lockoutBitsCapture 9999999) s == s.atTime 9999999,
    let t := (s.wr .fcStat_aliveAFrozen 0).wr .fcAlive_fAlive 10; (after (.aliveToggle 495000 false) t).faults.aliveA && !(after (.aliveToggle 494999 false) t).faults.aliveA && !(after (.aliveToggle 495000 false) (t.wr .fcStat_aliveAFrozen 1)).faults.aliveA && (after (.aliveToggle 495000 true) (t.wr .fcStat_aliveBFrozen 0)).faults.aliveB &&
      after (.aliveToggle 5 true) { t with modes := { t.modes with porstLow := true } } == ({ t with modes := { t.modes with porstLow := true } } : Chip).atTime 5,
    let u := after (.fcKick 5 0xAA) s; u.faults.kickExpect == 0x55 && u.rd .fcStat_aliveAFrozen == 0 && (after (.fcKick 5 0x55) u).faults.kickExpect == 0xAA && u.faults.lastKick == 5,
    let s := s.wr .modeStat_mode 5; (after (.fcKick 5 0xAA) s).rd .fcStat_aliveAFrozen == s.rd .fcStat_aliveAFrozen] : List Bool).all id = true := by decide +kernel

/-- Witnesses of `Obligations.WindowsLockoutBitsAndAlive`: kickErr, noKick. -/
theorem test_windowsLockoutBitsAndAlive_2 : (
  let s0 := chipOf [(.idbStat_linkUp, 0, 1), (.fcOrigin_source, 100, 40), (.fsCfg_n, 40, 2), (.fsCfg_w, 40, 1), (.fsCfg_class, 40, 2), (.modeStat_mode, 0, 3), (.imageStat_appliedValid, 0, 1)]
  let s := { s0 with faults := { s0.faults with events := [7, 100, 100] }, spr := { s0.spr with idbUp := true } }
  [
    let u := after (.fcKick 5 0x55) s; u.rd .fcStat_kickErr == 1 && u.faults == s.faults,
    (after (.kickTimeout 10000000) (s.wr .fcStat_aliveAFrozen 0)).rd .fcStat_aliveAFrozen == 1 && after (.kickTimeout 9999999) s == s.atTime 9999999] : List Bool).all id = true := by decide +kernel

/-- Witnesses of `Obligations.SprInputsRemovePower`: a, b, bNoImage, bThermal, release, releaseDown. -/
theorem test_sprInputsRemovePower : (
  let s0 := chipOf [(.idbStat_linkUp, 0, 1), (.modeStat_mode, 0, 3), (.shroudStat_sprA, 0, 0), (.shroudStat_sprB, 0, 0), (.sprStat_aDemand, 0, 0), (.sprStat_bDemand, 0, 0), (.shroudStat_lockout, 0, 0)]
  let s := { s0 with spr := { s0.spr with idbUp := true } }
  let holds (u : Chip) (c : HoldCause) : Bool := u.mode == .safeHold && u.rd .modeStat_holdCause == c.code && u.wiresAsserted && u.rd .shroudStat_mastConsent == 0 && u.rd .fcStat_reaction == 1 && u.rd .fcStat_aliveAFrozen == 1
  [
    after (.sprADemand 5 1000) s == s.atTime 5 && after (.sprBDemand 5 1000) s == s.atTime 5 && after (.sprInputRelease 5 false 1999) s == s.atTime 5,
    let u := after (.sprADemand 5 1001) { s with spr := { s.spr with idbUp := false } }; u.spr.reaction == .spr && u.rd .shroudStat_lockout == 0 && holds u .spr,
    let u := after (.sprADemand 5 1001) s; u.rd .shroudStat_sprA == 1 && u.rd .sprStat_aDemand == 1 && u.rd .sprStat_discrepancy == 1 && holds u .spr && u.rd .sprStat_demands == 1 && u.rd .shroudStat_lockout == 1 && u.rd .shroudStat_holdCause == 2,
    let u := after (.sprBDemand 5 1001) s; u.rd .shroudStat_sprB == 1 && u.wiresAsserted && u.rd .shroudStat_shroudConsent == 0 && u.rd .shroudStat_withheld == 1 && u.rd .shroudStat_holdCause == 2 && holds u .spr && u.rd .sprStat_demands == 1,
    let s := (s.wr .shroudStat_lockout 1).wr .shroudStat_holdCause 5; let u := after (.sprBDemand 5 2000) s; u.rd .shroudStat_holdCause == 5,
    let s := (s.wr .shroudStat_lockout 1).wr .shroudStat_holdCause 4; let u := after (.sprBDemand 5 2000) s; u.rd .shroudStat_holdCause == 2,
    let v := after (.sprBDemand 5 2000) s; let u := after (.sprInputRelease 6 true 2000) v; u.rd .shroudStat_sprB == 0 && u.wiresAsserted && u.on .shroudStat_lockout && u.rd .sprStat_bDemand == 0,
    let v := (after (.sprBDemand 5 2000) s).wr .idbStat_linkUp 0; let u := after (.sprInputRelease 6 true 2000) v; u.rd .shroudStat_sprB == 0 && u.rd .sprStat_bDemand == 1] : List Bool).all id = true := by decide +kernel

/-- Witnesses of `Obligations.SprInputsRemovePower`: disc, discShroud, lapse, lapseNo. -/
theorem test_sprInputsRemovePower_2 : (
  let s0 := chipOf [(.idbStat_linkUp, 0, 1), (.modeStat_mode, 0, 3), (.shroudStat_sprA, 0, 0), (.shroudStat_sprB, 0, 0), (.sprStat_aDemand, 0, 0), (.sprStat_bDemand, 0, 0), (.shroudStat_lockout, 0, 0)]
  let s := { s0 with spr := { s0.spr with idbUp := true } }
  [
    let s := { s with spr := { s.spr with pairDiscAt := some 0 } }; let u := after (.discrepancyTimeout 10000001) s; u.rd .sprStat_discFault == 1 && u.rd .sprStat_discCount == 1 && u.faults.events == [originSpr] && (after (.discrepancyTimeout 10000002) u).faults == u.faults,
    let s := { s with spr := { s.spr with discAt := some 0 } }; let u := after (.discrepancyTimeout 10000001) s; u.wiresAsserted && u.rd .shroudStat_shroudConsent == 0 && u.faults.events == [originSpr],
    let s := (s.wr .shroudStat_mastConsent 1).wr .shroudStat_bw 0; let u := after (.consentLapse 5) s; u.rd .shroudStat_withheld == s.shroudWithheld && s.mastConsents && u.rd .shroudStat_shroudConsent == flag (s.shroudWithheld == 0),
    let s := (s.wr .modeStat_mode 5).wr .shroudStat_bw 0; let u := after (.consentLapse 5) s; u.wiresAsserted && u.rd .shroudStat_mastConsent == 0] : List Bool).all id = true := by decide +kernel

/-- Witnesses of `Obligations.SafeTelegramsAreJudgedAndAct`: valid, other, first, repeat, accept, late. -/
theorem test_safeTelegramsAreJudgedAndAct : (
  let s := chipOf [(.stCfg_enabled, 0, 1), (.stCfg_pair, 0, 1), (.stCfg_connId, 0, 0x1234), (.modeStat_mode, 0, 3), (.netCfg_portMode, 0, 0xFF), (.sprStat_aDemand, 0, 0), (.sprStat_bDemand, 0, 0)]
  let tel (kind : Nat) (seq : Nat) (cmd : Byte) : List Byte :=
    let p : List Byte := cmd :: List.replicate 7 0
    let h := leBytes 2 0x1234 ++ [BitVec.ofNat 8 kind, 0] ++ leBytes 4 seq ++ p ++ p.map (fun b => ~~~b)
    h ++ leBytes 4 (crc32c h) ++ [0, 0, 0, 0]
  let m := tel 1 9 0xC3
  let first := after (.safeTelegramRx 5 2 m) s
  let failed (u : Chip) (k : Nat) : Bool := u.rd .stStat_lastFail == k && u.faults.events == [originTelegram]
  [
    s.telegramValid m && !s.telegramValid (tel 1 9 0x11) && leAt m 4 4 == 9,
    after (.safeTelegramRx 5 0 m) s == s.atTime 5 && after (.safeTelegramRx 5 2 (tel 2 9 0xC3)) s == s.atTime 5 && after (.safeTelegramRx 5 2 m) (s.wr .stCfg_enabled 0) == (s.wr .stCfg_enabled 0).atTime 5,
    first.spr.copies == [⟨9, 2, m, 5⟩] && first.spr.seen == [(9, 2)] && first.regs == s.regs,
    let u := after (.safeTelegramRx 6 2 m) first; u.rd .stCount_stale == 1 && u.faults == first.faults,
    let u := after (.safeTelegramRx 2000005 3 m) first; u.rd .stSeq_seq == 9 && u.rd .stStat_supervising == 1 && u.rd .stCount_accepted == 1 && u.spr.accepted == some true && u.spr.watchOn && u.spr.acceptedAt == 2000005,
    failed (after (.safeTelegramRx 2000006 3 m) first) 3] : List Bool).all id = true := by decide +kernel

/-- Witnesses of `Obligations.SafeTelegramsAreJudgedAndAct`: differ, invalid, old, gap, next, permit. -/
theorem test_safeTelegramsAreJudgedAndAct_2 : (
  let s := chipOf [(.stCfg_enabled, 0, 1), (.stCfg_pair, 0, 1), (.stCfg_connId, 0, 0x1234), (.modeStat_mode, 0, 3), (.netCfg_portMode, 0, 0xFF), (.sprStat_aDemand, 0, 0), (.sprStat_bDemand, 0, 0)]
  let tel (kind : Nat) (seq : Nat) (cmd : Byte) : List Byte :=
    let p : List Byte := cmd :: List.replicate 7 0
    let h := leBytes 2 0x1234 ++ [BitVec.ofNat 8 kind, 0] ++ leBytes 4 seq ++ p ++ p.map (fun b => ~~~b)
    h ++ leBytes 4 (crc32c h) ++ [0, 0, 0, 0]
  let m := tel 1 9 0xC3
  let first := after (.safeTelegramRx 5 2 m) s
  let failed (u : Chip) (k : Nat) : Bool := u.rd .stStat_lastFail == k && u.faults.events == [originTelegram]
  [
    failed (after (.safeTelegramRx 6 3 (tel 1 9 0x3C)) first) 2,
    failed (after (.safeTelegramRx 6 3 (tel 1 9 0x11)) first) 1,
    let s := (s.wr .stStat_supervising 1).wr .stSeq_seq 9; let u := after (.safeTelegramRx 5 2 m) s; u.rd .stCount_stale == 1,
    let s := (s.wr .stStat_supervising 1).wr .stSeq_seq 7; failed (after (.safeTelegramRx 5 2 m) s) 4,
    let s := (s.wr .stStat_supervising 1).wr .stSeq_seq 8; (after (.safeTelegramRx 5 2 m) s).spr.copies.length == 1,
    let s := { s with spr := { s.spr with accepted := some true } }; let u := after (.permitCommand 5) s; u.rd .stStat_permitted == 1 && u.rd .sprStat_stDemand == 0 && u.spr.accepted == none] : List Bool).all id = true := by decide +kernel

/-- Witnesses of `Obligations.SafeTelegramsAreJudgedAndAct`: remove, copyOut, watch, status. -/
theorem test_safeTelegramsAreJudgedAndAct_3 : (
  let s := chipOf [(.stCfg_enabled, 0, 1), (.stCfg_pair, 0, 1), (.stCfg_connId, 0, 0x1234), (.modeStat_mode, 0, 3), (.netCfg_portMode, 0, 0xFF), (.sprStat_aDemand, 0, 0), (.sprStat_bDemand, 0, 0)]
  let tel (kind : Nat) (seq : Nat) (cmd : Byte) : List Byte :=
    let p : List Byte := cmd :: List.replicate 7 0
    let h := leBytes 2 0x1234 ++ [BitVec.ofNat 8 kind, 0] ++ leBytes 4 seq ++ p ++ p.map (fun b => ~~~b)
    h ++ leBytes 4 (crc32c h) ++ [0, 0, 0, 0]
  let m := tel 1 9 0xC3
  let first := after (.safeTelegramRx 5 2 m) s
  let failed (u : Chip) (k : Nat) : Bool := u.rd .stStat_lastFail == k && u.faults.events == [originTelegram]
  [
    let s := { s with spr := { s.spr with accepted := some false } }; let u := after (.removeCommand 5) s; u.rd .stStat_permitted == 0 && u.rd .sprStat_stDemand == 1 && u.mode == .safeHold && u.rd .modeStat_holdCause == 2 && u.rd .sprStat_demands == 1,
    failed (after (.telegramCopyTimeout 2000005 9) first) 3 && after (.telegramCopyTimeout 2000004 9) first == first.atTime 2000004,
    let s := { s.wr .stTime_tWatch 30 with spr := { s.spr with watchOn := true } }; failed (after (.telegramWatchExpiry 3000000) s) 5,
    let u := after (.statusTelegramSend 5) s; u.spr.statusSeq == 1 && (u.port 2).sending == some (.telegram ({ s with spr := { s.spr with statusSeq := 1 } } : Chip).statusTelegram) && (u.port 3).sending.isSome] : List Bool).all id = true := by decide +kernel

/-- Witnesses of `Obligations.PortsFollowLinksAndFrames`: up, upAlone, upSingle, upNot, loss, lan. -/
theorem test_portsFollowLinksAndFrames : (
  let s := chipOf [(.netCfg_portMode, 0, 0x55), (.netCfg_saPair, 0, 1), (.netCfg_stationMode, 0, 1), (.netCfg_processMode, 0, 2)]
  let raised (u : Chip) : Bool := u.faults.events == [originPorts]
  [
    let u := after (.portLinkUp 5 2 0 true) s; u.rd .pStat_linkUp 2 == 1 && u.rd .pStat_ready 2 == 1 && u.rdBit .readyIo_port 2,
    let u := after (.portLinkUp 5 2 0 false) s; u.rd .pStat_linkUp 2 == 1 && u.rd .pStat_ready 2 == 0 && !u.rdBit .readyIo_port 2,
    let s := s.wr .netCfg_stationMode 0; let u := after (.portLinkUp 5 3 0 false) s; u.rd .pStat_ready 3 == 1 && u.rdBit .readyIo_port 3,
    let z := s.wr .netCfg_portMode 0; after (.portLinkUp 5 2 0 true) z == z.atTime 5,
    let g := s.wr .netCfg_portMode 0xE5; (after (.portLinkUp 5 2 1000 true) g).rd .pStat_linkUp 2 == 1 && after (.portLinkUp 5 2 100 true) g == g.atTime 5 && after (.portLinkUp 5 3 1000 true) g == g.atTime 5 && (after (.portLinkUp 5 3 100 true) g).rd .pStat_linkUp 3 == 1,
    let v := after (.portLinkUp 5 2 0 true) s; let u := after (.portLinkLoss 6 2) v; u.rd .pStat_linkUp 2 == 0 && u.rd .pStat_joined 2 == 0 && u.rd .pStat_ready 2 == 0 && !u.rdBit .readyIo_port 2 && u.rd .pStat_linkLosses 2 == 1 && raised u,
    let u := after (.lanFaultTimeout 4000000000 2) s; u.rd .pStat_lanFault 2 == 1 && raised u && after (.lanFaultTimeout 3999999999 2) s == s.atTime 3999999999] : List Bool).all id = true := by decide +kernel

/-- Witnesses of `Obligations.PortsFollowLinksAndFrames`: pause, long, reserved, ordinary, full, duplicate. -/
theorem test_portsFollowLinksAndFrames_2 : (
  let s := chipOf [(.netCfg_portMode, 0, 0x55), (.netCfg_saPair, 0, 1), (.netCfg_stationMode, 0, 1), (.netCfg_processMode, 0, 2)]
  let f : EthFrameRx := { length := 1000, ethertype := 0x0800 }
  [
    let u := after (.frameRxClassify 5 2 { f with pause := true } 0 0) s; u.rd .pCount_rxDrop 2 == 1,
    let u := after (.frameRxClassify 5 2 { f with length := 1523 } 0 0) s; u.rd .pCount_rxDrop 2 == 1,
    let s := (s.wr .stCfg_enabled 1).wr .stCfg_pair 1; let g := { f with ethertype := 0x88B5 }; s.reservedFrame 2 g && let u := after (.frameRxClassify 5 2 g 0 0) s; u.rd .pCount_tripRx 2 == 1 && (u.port 2).reserved == 1,
    let u := after (.frameRxClassify 5 2 f 0 0) s; (u.port 2).ordinary == [1000],
    let s := s.setPort 2 { reserved := 3, ordinary := [8, 9] }; (after (.frameRxClassify 5 2 f 0 2) s).port 2 == { reserved := 2, ordinary := [8, 9, 1000] } && (after (.frameRxClassify 5 2 f 3 1) s).port 2 == { ordinary := [9, 1000] },
    let s := s.setPort 2 { ordinary := [64537] }; let u := after (.frameRxClassify 5 2 f 0 0) s; (u.port 2).ordinary == [64537] && u.rd .pCount_rxDrop 2 == 1 && (after (.frameRxClassify 5 2 { f with length := 999 } 0 0) s).port 2 == { ordinary := [64537, 999] },
    let g := { f with redundancy := some 4 }; let v := after (.frameRxClassify 5 2 g 0 0) s; !(v.firstCopy 1 g.src 4).1 && (let u := after (.frameRxClassify 6 3 g 0 0) v; (u.port 3).ordinary == []) && (let u := after (.frameRxClassify 6 2 g 0 0) v; (u.port 2).ordinary == [1000])] : List Bool).all id = true := by decide +kernel

/-- Witnesses of `Obligations.PortsFollowLinksAndFrames`: forward, forwardNot, supervision, end, idle, arp. -/
theorem test_portsFollowLinksAndFrames_3 : (
  let s := chipOf [(.netCfg_portMode, 0, 0x55), (.netCfg_saPair, 0, 1), (.netCfg_stationMode, 0, 1), (.netCfg_processMode, 0, 2)]
  [
    let g : RingFrameRx := { src := 77, dst := 78, seq := 1, priority := some 7, bytes := [1] }; let u := after (.hsrForward 5 0 g) s; s.pairMode 0 == 2 && (u.port 1).sending == some (.forwarded [1] none 0) && u.regs == s.regs && (((after (.hsrForward 500 0 { g with ptp := true }) s).port 1).sending matches some (.forwarded [1] (some _) _)) &&
      (let w := after (.hsrForward 6 0 g) u; w.net.ports == u.net.ports),
    let g : RingFrameRx := { src := s.portMac 0, dst := 78 }; after (.hsrForward 5 0 g) s == s.atTime 5 && after (.hsrForward 5 2 g) s == s.atTime 5,
    let u := after (.supervisionFrameSend 5 1) s; s.intervalDue 1 2000000000 && (u.port 2).sending == some (.tagged false 0 0 .supervision) && s.copyOn 3 .supervision == .tagged false 0 1 .supervision && (u.port 3).sending == some (s.copyOn 3 .supervision) && after (.supervisionFrameSend 2000000004 1) u == u.atTime 2000000004 && (after (.supervisionFrameSend 2000000005 1) u).port 2 != u.port 2,
    let s := s.setPort 2 { queue := [(0, .supervision), (7, .telegram []), (7, .telegram [1])], sending := some .pdelayReq }; nextFrame (s.port 2).queue == some (7, .telegram []) &&
      let u := after (.frameTransmissionEnd 5 2) s; (u.port 2).sending == some (.telegram []) && (u.port 2).queue == [(0, .supervision), (7, .telegram [1])],
    let s := s.setPort 2 { sending := some .pdelayReq }; let u := after (.frameTransmissionEnd 5 2) s; (u.port 2).sending == none && (u.port 2).queue == [],
    let s := { s with net := { s.net with ip := 0xC0A80001, prefixLen := 24, gateway := 0xC0A80002 } }; let h : IpHost := { ip := 0xC0A80105, port := 7 };
      let i := s.wr .netCfg_stationMode 0; let reply := FrameBody.arpReply (s.portMac 2) 0xC0A80001 h; let echo := FrameBody.echoReply h 0xC0A80002 [7];
      (let u := after (.arpIcmpRx 5 2 (.arp 0xC0A80001 h)) s; u.port 2 == { sending := some (s.copyOn 2 reply) } && u.port 3 == { sending := some (.tagged false 0 1 reply) }) &&
      (let u := after (.arpIcmpRx 5 3 (.icmpEcho 0xC0A80001 h [7])) i; u.port 3 == { sending := some echo } && u.port 2 == {} && i.copyOn 3 echo == echo) &&
      after (.arpIcmpRx 5 0 (.arp 0xC0A80001 h)) s == s.atTime 5 && after (.arpIcmpRx 5 2 .other) s == s.atTime 5 && after (.arpIcmpRx 5 2 (.arp 0xC0A80002 h)) s == s.atTime 5] : List Bool).all id = true := by decide +kernel

/-- Witnesses of `Obligations.PtpClockFollowsItsMaster`: not, twoStep, offset, lock, noLock, lose. -/
theorem test_ptpClockFollowsItsMaster : (
  let s0 := chipOf [(.netCfg_portMode, 0, 0x55), (.ptpCfg_enabled, 0, 1), (.ptpCfg_pair, 0, 1), (.netCfg_stationMode, 0, 1), (.ptpStat_slavePort, 0, 0), (.ptpCfg_slaveOnly, 0, 1), (.pCorr_ingress, 2, 0)]
  let s := { s0 with net := { s0.net with ptp := { s0.net.ptp with selected := some 9, time := 1000000 } } }
  let f (o : Nat) : SyncRx := { master := 9, origin := o, seq := 3 }
  let run (s : Chip) (i o : Nat) : Chip := { s with net := { s.net with ptp := { s.net.ptp with insideRun := i, outsideRun := o } } }
  let l := s.wr .ptpStat_locked 1
  [
    after (.ptpSyncRx 5 0 (f 1000000)) s == s.atTime 5 && after (.ptpSyncRx 5 2 { f 5 with domain := 3 }) s == s.atTime 5 && after (.ptpSyncRx 5 3 (f 5)) s == s.atTime 5 && after (.ptpSyncRx 5 2 { f 5 with master := 8 }) s == s.atTime 5,
    let h := (s.wr .netCfg_stationMode 2).wr .pCorr_ingress 0 3; let u := after (.ptpSyncRx 0 3 (f 999950)) h; u.rdInt .ptpOffset_offset == 50 && u.rd .ptpStat_slavePort == 1 && let v := after (.ptpSyncRx 5 2 (f 0)) u; agree v u [] && v.net.ptp.time == u.net.ptp.time && v.net.ptp.insideRun == u.net.ptp.insideRun,
    let u := after (.ptpSyncRx 5 2 { f 5 with twoStep := true }) s; u.rd .ptpStat_twoStepSeen == 1 && u.faults.events == [originPtp] && (after (.ptpSyncRx 6 2 { f 5 with twoStep := true }) u).faults == u.faults,
    s.ptpNow == 1000000 && let u := after (.ptpSyncRx 0 2 (f 999950)) s; u.rdInt .ptpOffset_offset == 50 && u.net.ptp.insideRun == 1 && u.net.ptp.outsideRun == 0 && !u.on .ptpStat_locked,
    let u := after (.ptpSyncRx 0 2 (f 999900)) (run s 7 0); u.rdInt .ptpOffset_offset == 100 && u.on .ptpStat_locked,
    let u := after (.ptpSyncRx 0 2 (f 999900)) (run s 6 0); !u.on .ptpStat_locked,
    let u := after (.ptpSyncRx 0 2 (f 998999)) (run l 0 3); u.rd .ptpStat_locked == 0 && u.rd .ptpStat_lockLosses == 1 && u.faults.events == [originPtp]] : List Bool).all id = true := by decide +kernel

/-- Witnesses of `Obligations.PtpClockFollowsItsMaster`: keep, step, negative, moves, another, alone. -/
theorem test_ptpClockFollowsItsMaster_2 : (
  let s0 := chipOf [(.netCfg_portMode, 0, 0x55), (.ptpCfg_enabled, 0, 1), (.ptpCfg_pair, 0, 1), (.netCfg_stationMode, 0, 1), (.ptpStat_slavePort, 0, 0), (.ptpCfg_slaveOnly, 0, 1), (.pCorr_ingress, 2, 0)]
  let s := { s0 with net := { s0.net with ptp := { s0.net.ptp with selected := some 9, time := 1000000 } } }
  let f (o : Nat) : SyncRx := { master := 9, origin := o, seq := 3 }
  let run (s : Chip) (i o : Nat) : Chip := { s with net := { s.net with ptp := { s.net.ptp with insideRun := i, outsideRun := o } } }
  let l := s.wr .ptpStat_locked 1
  [
    (after (.ptpSyncRx 0 2 (f 999000)) (run l 0 3)).on .ptpStat_locked,
    let u := after (.ptpSyncRx 0 2 (f 989999)) s; u.rd .ptpStat_steps == 1 && u.net.ptp.time == 989999,
    let u := after (.ptpSyncRx 0 2 (f 1000150)) s; u.rdInt .ptpOffset_offset == -150,
    let m (s : Chip) (l : List ForeignMaster) : Chip := { s with net := { s.net with ptp := { s.net.ptp with masters := l } } }; let x : ForeignMaster := { port := 2, data := { source := 9 }, heard := [5], qualifiedAt := some 1 };
      let u := after (.ptpAnnounceTimeout 3000000005 2 9) (m s [x, { x with port := 3, heard := [6] }]); u.rd .ptpStat_slavePort == 1 && agree u s [(.ptpStat_slavePort, 0)] && u.net.ptp.selected == some 9 &&
      after (.ptpAnnounceTimeout 3000000004 2 9) (m s [x]) == (m s [x]).atTime 3000000004 &&
      (let u := after (.ptpAnnounceTimeout 3000000005 2 9) (m l [x]); u.rd .ptpStat_locked == 0 && u.rd .ptpStat_master == 0 && u.net.ptp.selected == none) &&
      (let u := after (.ptpAnnounceTimeout 3000000005 2 9) (m l [x, { x with port := 3 }]); u.rd .ptpStat_locked == 0),
    let a : AnnounceData := { domain := s.rd .ptpCfg_domain, source := 9 }; let f : EthFrameRx := { ethertype := 0x88F7, ptp := .announce a };
      let v := after (.frameRxClassify 5 3 f 1 0) (after (.frameRxClassify 4 3 f 1 0) { s with net := { s.net with ptp := { s.net.ptp with selected := none } } });
      v.net.ptp.masters == [⟨3, a, [5, 4], some 5⟩] && v.net.ptp.listensFrom == 5 && v.net.ptp.selected == some 9 && v.rd .ptpStat_slavePort == 1 && s.clockIdentity != 9,
    let s := s.setPort 2 { requestAt := some 1000000 }; let f : EthFrameRx := { ethertype := 0x88F7, ptp := .pdelayResp 100 }; let u := after (.frameRxClassify 900 2 f 1 0) s; (u.port 2).peerDelay == 400 && (u.port 2).requestAt == none] : List Bool).all id = true := by decide +kernel

/-- Witnesses of `Obligations.PtpClockFollowsItsMaster`: master, pdelay, send. -/
theorem test_ptpClockFollowsItsMaster_3 : (
  let s0 := chipOf [(.netCfg_portMode, 0, 0x55), (.ptpCfg_enabled, 0, 1), (.ptpCfg_pair, 0, 1), (.netCfg_stationMode, 0, 1), (.ptpStat_slavePort, 0, 0), (.ptpCfg_slaveOnly, 0, 1), (.pCorr_ingress, 2, 0)]
  let s := { s0 with net := { s0.net with ptp := { s0.net.ptp with selected := some 9, time := 1000000 } } }
  [
    let s := { s.wr .ptpCfg_slaveOnly 0 with net := { s.net with ptp := { s.net.ptp with selected := none } } }; let u := after (.ptpAnnounceTimeout 3000000000 2 7) s; u.rd .ptpStat_locked == 1 && u.rd .ptpStat_master == 1 && after (.ptpAnnounceTimeout 2999999999 2 7) s == s.atTime 2999999999,
    s.measuresDelay 2 && !s.measuresDelay 0 && after (.pdelayReqRx 5 0) s == s.atTime 5 && match ((after (.pdelayReqRx 5 2) s).port 2).sending with | some (.pdelayResp r _) => r == 1000005 | _ => false,
    let h := s.wr .netCfg_processMode 2; h.measuresDelay 0 && h.ptpOn 0 .pdelayReq == .tagged true 0 0 .pdelayReq && ((after (.ptpMessageSend 5 0 .pdelayReq) h).port 0).sending == some (h.ptpOn 0 .pdelayReq),
    (let u := after (.ptpMessageSend 5 2 .pdelayReq) s; (u.port 2).sending == some .pdelayReq && s.intervalDue (ptpSlot 2 .pdelayReq) 1000000000 && after (.ptpMessageSend 1000000004 2 .pdelayReq) u == u.atTime 1000000004) && after (.ptpMessageSend 5 2 .sync) s == s.atTime 5 && (((after (.ptpMessageSend 5 2 .announce) (s.wr .ptpStat_master 1)).port 2).sending matches some (.announce _ 0xA0)) &&
      (((after (.ptpMessageSend 5 2 .sync) (s.wr .ptpStat_master 1)).port 2).sending matches some (.sync _))] : List Bool).all id = true := by decide +kernel

/-- Witnesses of `Obligations.PulsesAndPublishedMessages`: arm, missed, once, periodic, trailing, gate. -/
theorem test_pulsesAndPublishedMessages : (
  let s0 := chipOf [(.poCfg_enabled, 3, 1), (.poCfg_mode, 3, 1), (.poCfg_width, 3, 10), (.ptpStat_locked, 0, 1), (.netCfg_portMode, 0, 0x55), (.poRate_rate, 3, 1), (.poArmSec_sec, 3, 1), (.modeStat_mode, 0, 3)]
  let s := { s0 with net := { s0.net with ptp := { s0.net.ptp with time := 1000000000 }, streams := [{ rate := 0, perFrame := 2 }], blocks := [{ fast := true, tMin := 4, tMax := 10, interval := 4, publishing := true, members := [{ kind := 2, source := 0 }], values := [0] }] } }
  [
    let u := after (.poArm 0 3 7) s; u.rd .poArmNs_ns 3 == 7 && u.rd .poArmNs_armed 3 == 1 && u.rd .poArmNs_missed 3 == 0,
    let u := after (.poArm 0 3 0) s; u.rd .poArmNs_missed 3 == 1 && u.rd .poArmNs_armed 3 == 0,
    let v := after (.poArm 0 3 7) s; v.isNow (v.onceTime 3) == false && (let u := after (.pulseEdge 3 3) v; (u.pulse 3).active && u.rd .poArmNs_armed 3 == 0) && !((after (.pulseEdge 2 3) v).pulse 3).active,
    let s := (s.wr .poCfg_mode 2 3); let u := after (.pulseEdge 4 3) s; (u.pulse 3).active && (u.pulse 3).lastEdge == 1000000000,
    let s := s.setPulse 3 { active := true, lastEdge := 1000000000 }; !((after (.pulseEdge 996 3) s).pulse 3).active && ((after (.pulseEdge 995 3) s).pulse 3).active,
    let s := ((s.wr .ptpStat_locked 0).wr .poCfg_gateLock 1 3).setPulse 3 { active := true }; !((after (.pulseEdge 5 3) s).pulse 3).active] : List Bool).all id = true := by decide +kernel

/-- Witnesses of `Obligations.PulsesAndPublishedMessages`: sample, same, change, wrap, repeat. -/
theorem test_pulsesAndPublishedMessages_2 : (
  let s0 := chipOf [(.poCfg_enabled, 3, 1), (.poCfg_mode, 3, 1), (.poCfg_width, 3, 10), (.ptpStat_locked, 0, 1), (.netCfg_portMode, 0, 0x55), (.poRate_rate, 3, 1), (.poArmSec_sec, 3, 1), (.modeStat_mode, 0, 3)]
  let s := { s0 with net := { s0.net with ptp := { s0.net.ptp with time := 1000000000 }, streams := [{ rate := 0, perFrame := 2 }], blocks := [{ fast := true, tMin := 4, tMax := 10, interval := 4, publishing := true, members := [{ kind := 2, source := 0 }], values := [0] }] } }
  let b : PubGoose := { fast := true, tMin := 4, tMax := 10, interval := 4, publishing := true, members := [{ kind := 2, source := 0 }], values := [0] }
  [
    s.publishes false && let u := after (.svPublishSample 5 0 1 0) s; (u.net.streams[0]?.map (·.collected.length)) == some 1 && (u.net.streams[0]?.map (·.collected.map (·.smpSynch))) == some [2] && u.regs == s.regs &&
      let w := after (.svPublishSample 250006 0 1 1) u; (w.net.streams[0]?.map (·.collected.length)) == some 0 && ((w.port 0).sending matches some (.samples 0 [_, _])) && ((w.port 1).sending matches some (.samples 0 [_, _])),
    after (.gooseFastChange 5 0) s == s.atTime 5 && after (.svPublishSample 5 0 2 0) s == s.atTime 5 && after (.svPublishSample 5 0 1 (svRate 0)) s == s.atTime 5,
    let q := { s.wr .modeStat_mode Mode.shadow.code with net := { s.net with streams := [{ rate := 0, primaryOnly := true }], blocks := [{ b with primaryOnly := true }] } }; !q.publishes true && after (.svPublishSample 5 0 1 0) q == q.atTime 5 && after (.gooseRepeat 5 0) q == q.atTime 5 && ((after (.gooseFastChange 5 0) q).net.blocks[0]?.map (·.publishing)) == some false,
    let q := { s with net := { s.net with streams := [{ rate := 0, perFrame := 3, collected := [⟨7, 0, [], false⟩] }], blocks := [{ b with fast := false }] } }; followsOn (svRate 0) 0 [⟨7, 0, [], false⟩] == [] && ((after (.svPublishSample 5 0 1 0) q).net.streams[0]?.map (·.collected.map (·.smpCnt))) == some [0] && after (.gooseFastChange 5 0) q == q.atTime 5,
    let s := s.wr .modeStat_mode 5; let u := after (.gooseFastChange 5 0) s; (u.port 2).sending == some (.goose 0 2 0 8 [1] false) && (u.port 3).sending == some (.goose 0 2 0 8 [1] false) && (u.net.blocks[0]?.map (·.stNum)) == some 2,
    let s := { s.wr .modeStat_mode 5 with net := { s.net with blocks := [{ b with stNum := 4294967295 }] } }; let u := after (.gooseFastChange 5 0) s; (u.net.blocks[0]?.map (·.stNum)) == some 1,
    let u := after (.gooseRepeat 0 0) s; (u.port 2).sending == some (.goose 0 1 1 16 [0] false) && (u.net.blocks[0]?.map (·.interval)) == some 8 && after (.gooseRepeat 0 0) { s with net := { s.net with blocks := [{ b with repeatAt := 1 }] } } == { s with net := { s.net with blocks := [{ b with repeatAt := 1 }] } }] : List Bool).all id = true := by decide +kernel

/-- Witnesses of `Obligations.StationRequestsAreChecked`: formed, other, bad, notUs, good, refused. -/
theorem test_stationRequestsAreChecked : (
  let s0 := chipOf [(.netCfg_portMode, 0, 0x55), (.netCfg_saPair, 0, 1), (.imageStat_appliedValid, 0, 1), (.secStat_idReady, 0, 1), (.grCfg_pLim, 0, 1000), (.drCfg_enabled, 0, 1), (.idbStat_linkUp, 0, 1)]
  let s := { s0.wr .netCfg_saPort 77 with net := { s0.net with keys := [{ publicKey := testKey, role := 7 }, {}], ip := 0xC0A80001, prefixLen := 24, gateway := 0xC0A80002 } }
  let from_ : IpHost := { ip := 0xC0A80005, port := 9 }
  let udp (b : List Byte) : UdpRx := { source := from_, target := { ip := 0xC0A80001, port := 77 }, payload := b }
  let req (id : List Byte) (v : Byte) : List Byte := [1, 0, v, 1] ++ leBytes 4 5 ++ leBytes 4 0 ++ id ++ ([1, 0] ++ leBytes 2 1 ++ leBytes 4 0x40000000 ++ leBytes 4 0) ++ requestSig
  let good := req (s.identityDigest.take 4) 0
  let v := after (.stationRequestRx 5 2 (udp good)) s
  let held : Chip := { v with thermal := { v.thermal with queue := [], grants := [{ what := .stationCheck 0, since := 5 }] } }
  [
    s.requestFormed good && s.requestForUs good && !s.requestFormed (good.drop 1) && !s.requestForUs (req [1, 2, 3, 4] 0),
    after (.stationRequestRx 5 0 (udp good)) s == s.atTime 5 && after (.stationRequestRx 5 2 { udp good with target := { ip := 0xC0A80001, port := 78 } }) s == s.atTime 5 && after (.stationRequestRx 5 2 { udp good with target := { ip := 0xC0A80003, port := 77 } }) s == s.atTime 5,
    let u := after (.stationRequestRx 5 2 (udp (good.drop 1))) s; u.rd .saStat_lastStatus == 6 && u.rd .saStat_refused == 1 && u.faults.events == [originSecurity],
    let u := after (.stationRequestRx 5 2 (udp (req [1, 2, 3, 4] 0))) s; u.rd .saStat_lastStatus == 2 && u.faults.events == [originSecurity],
    v.net.requests.length == 1 && v.net.nextRequest == 1 && (v.waitsLeave (.stationCheck 0) || v.holdsLeave (.stationCheck 0)),
    let held := { held with net := { held.net with keys := [{ publicKey := testKey.drop 1 ++ [0], role := 7 }] } };
      held.holdsLeave (.stationCheck 0) && held.requestRefusal good == 1 && let u := after (.stationCheckComplete 6 0 false) held; u.rd .saStat_lastStatus == 1 && u.rd .secStat_sigFails == 1 && u.requestOf 0 == none && u.faults.events == [originSecurity]] : List Bool).all id = true := by decide +kernel

/-- Witnesses of `Obligations.StationRequestsAreChecked`: accepted, timeout, timeoutEarly. -/
theorem test_stationRequestsAreChecked_2 : (
  let s0 := chipOf [(.netCfg_portMode, 0, 0x55), (.netCfg_saPair, 0, 1), (.imageStat_appliedValid, 0, 1), (.secStat_idReady, 0, 1), (.grCfg_pLim, 0, 1000), (.drCfg_enabled, 0, 1), (.idbStat_linkUp, 0, 1)]
  let s := { s0.wr .netCfg_saPort 77 with net := { s0.net with keys := [{ publicKey := testKey, role := 7 }, {}], ip := 0xC0A80001, prefixLen := 24, gateway := 0xC0A80002 } }
  let from_ : IpHost := { ip := 0xC0A80005, port := 9 }
  let udp (b : List Byte) : UdpRx := { source := from_, target := { ip := 0xC0A80001, port := 77 }, payload := b }
  let req (id : List Byte) (v : Byte) : List Byte := [1, 0, v, 1] ++ leBytes 4 5 ++ leBytes 4 0 ++ id ++ ([1, 0] ++ leBytes 2 1 ++ leBytes 4 0x40000000 ++ leBytes 4 0) ++ requestSig
  let good := req (s.identityDigest.take 4) 0
  let v := after (.stationRequestRx 5 2 (udp good)) s
  let held : Chip := { v with thermal := { v.thermal with queue := [], grants := [{ what := .stationCheck 0, since := 5 }] } }
  let wait : Chip := { v with thermal := { v.thermal with grants := [], queue := [{ what := .stationCheck 0, since := 5 }] } }
  let rep (st : Nat) (w : List Nat) : List Byte := StationReply.bytes ⟨st, w⟩
  [
    held.requestRefusal good == 0 && let u := after (.stationCheckComplete 6 0 false) held; u.bus.reply.take 16 == good.take 16 && u.bus.reply.drop 16 == rep 0 [s.readWord .sysIdent 0],
    wait.waitsLeave (.stationCheck 0) && let u := after (.stationLeaveTimeout 100000005 0) wait; u.rd .saStat_lastStatus == 5 && u.requestOf 0 == none && !u.waitsLeave (.stationCheck 0) && u.faults == wait.faults,
    after (.stationLeaveTimeout 100000004 0) wait == wait.atTime 100000004 && after (.stationCheckComplete 6 0 false) wait == wait.atTime 6] : List Bool).all id = true := by decide +kernel

/-- Witnesses of `Obligations.StationOperationsAnswer`: roles, unknown, count, read, storage, attest. -/
theorem test_stationOperationsAnswer : (
  let s0 := chipOf [(.netCfg_portMode, 0, 0x55), (.netCfg_saPair, 0, 1), (.imageStat_appliedValid, 0, 1), (.secStat_idReady, 0, 1), (.grCfg_pLim, 0, 1000), (.drCfg_enabled, 0, 1), (.idbStat_linkUp, 0, 1)]
  let s := { s0 with net := { s0.net with keys := [{ publicKey := testKey, role := 7 }, {}] } }
  let rep (st : Nat) (w : List Nat) : List Byte := StationReply.bytes ⟨st, w⟩
  let a := fun (i : Instr) => (after i s).bus.reply
  [
    a (.read 5 1 0x40000000 1) == rep 2 [] && a (.trigger 5 1) == rep 2 [] && a (.attest 5 1 0 0) == rep 2 [] && a (.write 5 1 0x40000008 1 false) == rep 2 [],
    a (.unknownOperation 5 0 22) == rep 6 [] && opRole 22 == none,
    a (.read 5 0 0x40000000 0) == rep 1 [] && a (.read 5 0 0x40000000 65) == rep 1 [] && a (.recList 5 0 0 65) == rep 1 [],
    a (.read 5 0 0x40000000 1) == rep 0 [s.readWord .sysIdent 0] && readable 0x40000000 && !readable 0x10000000 && a (.read 5 0 0x10000000 1) == rep 1 [],
    a (.recList 5 0 0 2) == rep 0 [0xFFFFFFFF, 0xFFFFFFFF] && a (.recRead 5 0 1 0 1) == rep 0 [0xFFFFFFFF] && a (.ledgerRead 5 0 1 0 1) == rep 0 [0xFFFFFFFF] && a (.ledgerNewest 5 0 4 2) == rep 0 [0, 0xFFFFFFFF] && a (.logRead 5 0 0 0 1) == rep 0 [0xFFFFFFFF],
    let u := after (.attest 5 0 1 2) s; s.canSign && u.bus.reply.length == 228 && u.bus.reply.take 20 == leBytes 4 0 ++ leBytes 4 0x56594154 ++ leBytes 4 1 ++ leBytes 4 1 ++ leBytes 4 2 && u.rd .secStat_attests == 1] : List Bool).all id = true := by decide +kernel

/-- Witnesses of `Obligations.StationOperationsAnswer`: attestNot, trigger, write, live. -/
theorem test_stationOperationsAnswer_2 : (
  let s0 := chipOf [(.netCfg_portMode, 0, 0x55), (.netCfg_saPair, 0, 1), (.imageStat_appliedValid, 0, 1), (.secStat_idReady, 0, 1), (.grCfg_pLim, 0, 1000), (.drCfg_enabled, 0, 1), (.idbStat_linkUp, 0, 1)]
  let s := { s0 with net := { s0.net with keys := [{ publicKey := testKey, role := 7 }, {}] } }
  let rep (st : Nat) (w : List Nat) : List Byte := StationReply.bytes ⟨st, w⟩
  let a := fun (i : Instr) => (after i s).bus.reply
  [
    (after (.attest 5 0 1 2) (s.wr .secStat_idReady 0)).bus.reply == rep 1 [],
    (after (.trigger 5 0) s).triggers == [.station],
    (after (.write 5 0 0x40000008 1 false) s).bus.reply == rep 0 [] && writable .modeReq && a (.write 5 0 0x40000000 1 false) == rep 1 [] && a (.write 5 0 0x40000FFC 1 false) == rep 1 [],
    findReg Reg.all (Reg.liveWord.spec.base) == some (.liveWord, 0) && (after (.write 5 0 (BitVec.ofNat 32 Reg.liveWord.spec.base) 1 false) (s.wr .modeStat_mode 4)).bus.reply == rep 4 []] : List Bool).all id = true := by decide +kernel

/-- Witnesses of `Obligations.FlashOperationsAreJudged`: read, readGood, ok, bad, slow, retention. -/
theorem test_flashOperationsAreJudged : (
  let s := chipOf [(.nvStat_busy, 0, 1), (.nvCfg_refreshBits, 0, 8), (.flTemp_inRange, 0, 1), (.nvDev_blocks, 0, 4096), (.grPower_granted, 0, 100)]
  let r (s : Chip) : Chip := { s with thermal := { s.thermal with grants := [{ what := .retention, since := 0 }] }, storage := { s.storage with scheduled := [0], failedCopies := [0] } }
  let lost : NandPage := { data := [0, 0, 0], spare := List.replicate 41 0 ++ [0xFF, 0xFF, 0xFF] ++ List.replicate 84 0 }
  [
    let u := after (.nandOpComplete 5 130 7 true true lost) s; regionOf 130 == 5 && lost.read.content == none && u.rd .nvStat_busy == 0 && u.rd .nvEcc_corrected == 0 && u.rd .nvEcc_uncorrectable == 1 && u.faults.events == [originStorageLost] && u.storage.nand == [(8327, lost)],
    let p : LedgerPage := { block := 130, page := 7, writeSeq := 1, entries := [{ kind := 5, timeValid := false, seq := 1, start := 0, time := 0, body := [] }] }; let x : StoredRecord := { id := 1, timeValid := false, first := 0, trig := 0, causes := [], truncated := false, channels := 1, times := [], samples := [], blocks := [500, 501] };
      let s := { s with storage := { s.storage with pages := [p], records := [x], logBlocks := [(200, []), (201, [])] } }; (after (.nandOpComplete 5 130 7 true true lost) s).storage.pages == [{ p with readable := false }] && (after (.nandOpComplete 5 500 7 true true lost) s).storage.records == [{ x with readable := false }] &&
      (after (.nandOpComplete 5 200 7 true true lost) s).storage.logBlocks == [(201, [])],
    let e : NandPage := { data := [] }; let u := after (.nandOpComplete 5 24 0 true true e) s; e.isErased && regionOf 24 == 2 && u.faults == s.faults && u.rd .nvEcc_maxBits == 0 && u.storage.nand == [(1536, e)],
    let u := after (.nandOpComplete 5 130 0 false true {}) s; agree u s [(.nvStat_busy, 0)] && u.storage == s.storage,
    let u := after (.nandOpComplete 5 130 0 false false {}) s; u.storage.bad.contains 130 && u.rd .nvBlocks_grown == 1 && u.faults.events.head? == some originStorage && u.rd .nvStat_busy == 0,
    let u := after (.nandOpTimeout 5 130 false) s; u.storage.bad.contains 130 && u.rd .nvBlocks_grown == 1 && let w := after (.nandOpTimeout 5 131 true) s; w.faults.events == [originStorageLost] && agree w s [(.nvStat_busy, 0)],
    let s := r s; s.refreshDue 0 && s.rd .nvScrub_nextCopy == 0 && !s.copyVerifies 1 && let u := after (.retentionRefresh 5 0 []) s; u.rd .nvScrub_nextCopy == 1 && u.storage == s.storage,
    let s := { (r s).wr .nvScrub_nextCopy 1 with storage := { s.storage with scheduled := [1, 3], failedCopies := [0] } }; let u := after (.retentionRefresh 5 1 []) s; s.refreshDue 1 && u.rd .nvScrub_nextCopy == 2 && u.storage == s.storage && (after (.retentionRefresh 5 3 []) s).rd .nvScrub_nextCopy == 1] : List Bool).all id = true := by decide +kernel

/-- Witnesses of `Obligations.FlashOperationsAreJudged`: retentionWaits, retentionHot. -/
theorem test_flashOperationsAreJudged_2 : (
  let s := chipOf [(.nvStat_busy, 0, 1), (.nvCfg_refreshBits, 0, 8), (.flTemp_inRange, 0, 1), (.nvDev_blocks, 0, 4096), (.grPower_granted, 0, 100)]
  let r (s : Chip) : Chip := { s with thermal := { s.thermal with grants := [{ what := .retention, since := 0 }] }, storage := { s.storage with scheduled := [0], failedCopies := [0] } }
  [
    let s := r s; let s := { s with thermal := { s.thermal with grants := [], queue := [{ what := .retention, since := 0 }] } }; after (.retentionRefresh 5 0 []) s == s.atTime 5,
    let s := r (s.wr .flTemp_inRange 0); let u := after (.retentionRefresh 5 0 []) s; u.rd .flTemp_refused == 1 && u.faults.events == [originStorage] && u.storage == s.storage] : List Bool).all id = true := by decide +kernel

/-- Bits of a page that turn its first codeword into another: bit 0 of its first byte, with the parity of that bit (computed outside the model). -/
def codewordFlips : List Nat :=
  0 :: ((List.range 224).filter fun i => bitAt 0x59B0B0F1CD4FC94DCDEC0A0B44FEFC951001F06B604C67DEF430AF48 (8 * (27 - i / 8) + i % 8)).map (32896 + ·)

/-- The copy in flash of the retention tests: the firmware page in BOOT A, under leave to be refreshed. -/
def refreshChip : Chip :=
  let s := chipOf [(.nvCfg_refreshBits, 0, 8), (.flTemp_inRange, 0, 1), (.nvDev_blocks, 0, 4096), (.grPower_granted, 0, 100)]
  { s with thermal := { s.thermal with grants := [{ what := .retention, since := 0 }] }
           storage := { s.storage with scheduled := [0], nand := [(256, firmwarePage)] }
           security := { s.security with romDigest0 := testKeyHash } }

/-- Witnesses of `Obligations.FlashOperationsAreJudged`: retention. -/
theorem test_flashOperationsAreJudged_3 : (
  let s := refreshChip
  [
    let u := after (.retentionRefresh 5 0 []) s; s.refreshDue 0 && u.storage.jobs.length == 1 && u.rd .nvScrub_nextCopy == 1 && u.storage.scheduled == [] && u.faults == s.faults] : List Bool).all id = true := by decide +kernel

/-- Witnesses of `Obligations.FlashOperationsAreJudged`: retentionFails. -/
theorem test_flashOperationsAreJudged_4 : (
  let s := refreshChip
  [
    let u := after (.retentionRefresh 5 0 [(256, codewordFlips)]) s; u.rd .nvScrub_lastFail == 1 && u.faults.events.contains originStorageLost && u.storage.failedCopies.contains 0 && u.storage.jobs == []] : List Bool).all id = true := by decide +kernel

/-- Witnesses of `Obligations.LedgerTakesItsPages`: write, refused, final, scan, scanLost, scanEmpty. -/
theorem test_ledgerTakesItsPages : (
  let s0 := chipOf [(.flTemp_inRange, 0, 1), (.metStat_saves, 0, 65535)]
  let p : LedgerJob × List (Nat × List Byte) := (.save, [(1, [0, 0, 5, 0, 0, 0]), (2, [1, 3])])
  let s := { s0 with storage := { s0.storage with jobs := [p], writePage := 62, erased := [125, 126, 127] } }
  let e (n : Nat) : LedgerEntry := { kind := 8, timeValid := false, seq := n, start := 0, time := 0, body := leBytes 4 n ++ [0] }
  let pages : List LedgerPage := [{ block := 124, page := 0, writeSeq := 1, entries := [e 6] }, { block := 124, page := 1, writeSeq := 2, entries := [e 7] }]
  let z := { s0 with storage := { s0.storage with pages } }
  [
    s.nextPage == some p && let u := after (.ledgerWrite 5) s; u.storage.pages.length == 1 && u.storage.pages.all (fun g => g.block == 124 && g.page == 62 && g.writeSeq == 1 && g.entries.map (fun e => (e.kind, e.body)) == p.2 && g.entries.map (·.seq) == [1, 2]) &&
      u.storage.writePage == 63 && u.storage.nextSeq == 3 && u.storage.jobs == [] && u.rd .metStat_saves == 0,
    let u := after (.ledgerWrite 5) (s.wr .flTemp_inRange 0); u.rd .flTemp_refused == 1 && u.storage.pages == [] && u.rd .metStat_saveRefused == 1 && u.storage.jobs == [] && u.faults.events == [originMetrology],
    let s := { s with storage := { s.storage with jobs := [(.final, p.2)] } }; let u := after (.ledgerWrite 5) s; u.storage.pages.length == 1 && u.storage.jobs == [],
    let u := after (.ledgerScan 5 []) z; u.storage.pages == pages && u.rd .saStart_start == 8 && u.storage.jobs.length == 1 && u.storage.scanned && (let v := after (.ledgerScan 6 [2]) u; agree v u [] && v.storage.pages == u.storage.pages) && after (.ledgerWrite 5) { s with modes := { s.modes with porstLow := true } } == { s with modes := { s.modes with porstLow := true } }.atTime 5,
    let u := after (.ledgerScan 5 [2]) z; u.storage.pages.map (·.readable) == [true, false] && u.rd .saStart_start == 7,
    let u := after (.ledgerScan 5 []) s0; u.rd .saStart_start == 1] : List Bool).all id = true := by decide +kernel

/-- Witnesses of `Obligations.LedgerTakesItsPages`: log, logHot. -/
theorem test_ledgerTakesItsPages_2 : (
  let s0 := chipOf [(.flTemp_inRange, 0, 1), (.metStat_saves, 0, 65535)]
  [
    let s := { s0 with thermal := { s0.thermal with grants := [{ what := .logWrite, since := 0 }] } }; s.goodBlocks 6 != [] && let u := after (.logWrite 5) s; u.storage.logNext == 189 && u.storage.logBlocks == [(188, [])] && storeGet u.storage.erases 188 0 == 1 && u.faults == s.faults,
    let s := { s0.wr .flTemp_inRange 0 with thermal := { s0.thermal with grants := [{ what := .logWrite, since := 0 }] } }; let u := after (.logWrite 5) s; s.holdsLeave .logWrite && u.rd .flTemp_refused == 1 && u.faults.events == [originStorage] && u.storage == s.storage] : List Bool).all id = true := by decide +kernel

/-- Witnesses of `Obligations.RecordsAreTakenLockedAndWritten`: sample, off, start, lost, joined, locked. -/
theorem test_recordsAreTakenLockedAndWritten : (
  let s0 := chipOf [(.flTemp_inRange, 0, 1), (.drCfg_enabled, 0, 1), (.drCfg_channels, 0, 2), (.pllStat_synthDown, 0, 0), (.drChan_addr, 0, 0x10400000), (.drChan_addr, 1, 0x10400002), (.drSpan_preMs, 0, 0), (.drSpan_postMs, 0, 1), (.nvDev_blocks, 0, 4096)]
  let s := { (s0.sramPutHalf 0x10400000 0x1234).sramPutHalf 0x10400002 0xFFFF with clock := { s0.clock with gridOn := true } }
  let w (s : Chip) : Chip := { s with triggers := [.station, .hold] }
  let open_ := after (.recordTrigger 5) (w s)
  let locked := after (.recordLock 1000005) open_
  [
    s.clock.gridOn && s.on .drCfg_enabled && !s.on .pllStat_synthDown && s.rd .drCfg_channels == 2 && s.ringSets == 4194304,
    after (.recorderSample 0) { s with clock := { s.clock with gridOn := false } } == { s with clock := { s.clock with gridOn := false } },
    open_.triggers == [.hold] && open_.rd .drStat_state == 2 && open_.storage.nextId == 2 && open_.storage.openRecord.any (fun r => r.id == 1 && r.trigAt == 5 && r.causes == [.station]),
    let s := { w s with storage := { s.storage with locked := [{ id := 0, trigAt := 0, sets := List.replicate 10 (0, 0), channels := 1, causes := [] }] } }; let s := s.wr .drCfg_channels 0x1FF; let s := s.wr .drSpan_postMs 65535;
      s.ringSets < 10 + 10 * (s.rd .drSpan_preMs + s.rd .drSpan_postMs) && let u := after (.recordTrigger 5) s; u.rd .drCount_lost == 1 && u.storage == s.storage && u.triggers == [.hold],
    let u := after (.recordTrigger 1000004) open_; u.rd .drCount_joined == 1 && u.storage.openRecord.any (fun r => r.causes == [.station, .hold]),
    locked.storage.openRecord == none && locked.storage.locked.length == 1 && locked.rd .drStat_locked == 1 && (locked.waitsLeave .recordFlush || locked.holdsLeave .recordFlush)] : List Bool).all id = true := by decide +kernel

/-- Witnesses of `Obligations.RecordsAreTakenLockedAndWritten`: notYet, flushed, part, hot. -/
theorem test_recordsAreTakenLockedAndWritten_2 : (
  let s0 := chipOf [(.flTemp_inRange, 0, 1), (.drCfg_enabled, 0, 1), (.drCfg_channels, 0, 2), (.pllStat_synthDown, 0, 0), (.drChan_addr, 0, 0x10400000), (.drChan_addr, 1, 0x10400002), (.drSpan_preMs, 0, 0), (.drSpan_postMs, 0, 1), (.nvDev_blocks, 0, 4096)]
  let s := { (s0.sramPutHalf 0x10400000 0x1234).sramPutHalf 0x10400002 0xFFFF with clock := { s0.clock with gridOn := true } }
  let w (s : Chip) : Chip := { s with triggers := [.station, .hold] }
  let open_ := after (.recordTrigger 5) (w s)
  let locked := after (.recordLock 1000005) open_
  let held (s : Chip) : Chip := { s with thermal := { s.thermal with queue := [], grants := [{ what := .recordFlush, since := 0 }] } }
  [
    after (.recordLock 1000004) open_ == open_.atTime 1000004,
    let v := held locked; v.logOpen && v.storage.locked.all (fun r => decide (r.pages ≤ 256)) && let u := after (.recordFlush 1000006) v; u.storage.locked == [] && u.rd .drLast_id == 1 && u.rd .drStat_flushing == 0 && u.storage.records.any (fun x => x.id == 1 && x.causes == [.station]),
    let big : DrRecord := { id := 4, trigAt := 0, causes := [], channels := 256, sets := List.replicate 2048 (0, 0) }; let v := held { s with storage := { s.storage with locked := [big] } };
      256 < big.pages && let u := after (.recordFlush 6) v; u.rd .drStat_flushing == 1 && u.storage.locked.map (·.flushed) == [1] && u.storage.records == [],
    let v := held (locked.wr .flTemp_inRange 0); let u := after (.recordFlush 1000006) v; u.rd .flTemp_refused == 1 && u.storage == v.storage] : List Bool).all id = true := by decide +kernel

/-- Witnesses of `Obligations.BootIdentityAndOwnerKey`: boot, badKey, retry, runs. -/
theorem test_bootIdentityAndOwnerKey : (
  let s := chipOf [(.pllStat_locked, 0, 1), (.modeStat_mode, 0, 1)]
  let flash (p : Nat) : Chip := { s with storage := { s.storage with nand := [(p, firmwarePage)] }, security := { s.security with romDigest0 := testKeyHash } }
  let bad : Chip := { s with storage := { s.storage with nand := [(256, firmwarePage)] } }
  let copy (s : Chip) (second : Bool) := s.slotCopy (if second then 2 else 1)
  [
    let s := flash 1536; s.noFirmware && bootOrder (copy s false) (copy s true) == [true] && let u := after (.firmwareBoot 5) s; u.rd .bootStat_statusA == 3 && u.rd .bootStat_statusB == 1 && u.rd .bootStat_copy == 1 && u.rd .fwVersion_version == 9 && u.security.bootTried == some 5 && u.faults == s.faults && u.sramBytes 0x10000000 256 == firmwareBytes,
    let v := after (.firmwareBoot 5) bad; v.rd .bootStat_statusA == 8 && v.rd .bootStat_copy == 3 && v.sram == bad.sram && v.security.bootTried == some 5 &&
      (let x := after (.firmwareRetry 10000000004) v; agree x v [] && x.security == v.security) && (after (.firmwareRetry 10000000005) v).security.bootTried == some 10000000005,
    let s := s.wr .bootStat_copy 0; after (.firmwareBoot 5) s == s.atTime 5 && after (.firmwareRetry 5) s == s.atTime 5] : List Bool).all id = true := by decide +kernel

/-- Witnesses of `Obligations.BootIdentityAndOwnerKey`: derive, mismatch. -/
theorem test_bootIdentityAndOwnerKey_3 : (
  let s := chipOf [(.pllStat_locked, 0, 1), (.modeStat_mode, 0, 1)]
  let s : Chip := { s with security := { s.security with idDigest := beNat testKeyHash } }
  [
    s.security.deriveDue && let u := after (.identityDerivation 5 testKey) s; u.rd .secStat_idReady == 1 && u.rd .secStat_vaultClear == 0 && !u.security.deriveDue && u.rd .secStat_retired == 0 && u.faults == s.faults,
    let u := after (.identityDerivation 5 []) s; u.rd .secStat_retired == 1 && u.faults.events.contains originSecurity && !u.security.deriveDue] : List Bool).all id = true := by decide +kernel

/-- Witnesses of `Obligations.BootIdentityAndOwnerKey`: vault, fuse, fuseCut, fuseNot, fuseUsed. -/
theorem test_bootIdentityAndOwnerKey_2 : (
  let s := chipOf [(.pllStat_locked, 0, 1), (.modeStat_mode, 0, 1), (.dbgStat_unlocked, 0, 1)]
  let hash := List.replicate 48 (0x0F : Byte)
  let all := List.replicate 48 (0xFF : Byte)
  [
    let u := after (.vaultClear 5) s; u.rd .secStat_vaultClear == 1 && u.rd .secStat_idReady == 0 && agree u s [(.secStat_vaultClear, 0), (.secStat_idReady, 0), (.dbgStat_challengeOpen, 0), (.dbgStat_windowLeft, 0)],
    bitsWithin s.security.slot0.hash hash && let u := after (.ownerFuse 5 [] false hash all false) s; u.security.slot0.valid && u.security.slot0.hash == hash && u.rd .secStat_ownerFused == 1,
    let u := after (.ownerFuse 5 [] false hash (List.replicate 48 3) true) s; !u.security.slot0.valid && u.security.slot0.hash == List.replicate 48 3 && u.rd .secStat_ownerFused == 0,
    let s := { s with security := { s.security with slot0 := { hash := all, valid := false } } }; bitsWithin all hash == false && let u := after (.ownerFuse 5 [] false hash all false) s; u.security.slot0.hash == all && u.faults.events == [originSecurity] && u.regs == s.regs,
    let s := { s with security := { s.security with slot0 := { hash := hash, valid := true } } }; after (.ownerFuse 5 [true] false hash all false) s == after (.bypass 5 [true]) s && (let u := after (.ownerFuse 5 [] true all all false) s; u.security.slot1.valid && u.security.slot0 == s.security.slot0)] : List Bool).all id = true := by decide +kernel

/-- Witnesses of `Obligations.TestPortActsAndUnlocks`: bypass, idcode, status, sample, lock, extest. -/
theorem test_testPortActsAndUnlocks : (
  let s := chipOf [(.modeStat_mode, 0, 1), (.dbgStat_unlocked, 0, 0), (.secStat_ownerFused, 0, 1), (.dbgStat_failCount, 0, 2)]
  let n := s.wr .dbgStat_unlocked 1
  let out (u : Chip) : List Bool := u.security.shiftOut
  let byp := [false, true, false]
  [
    out (after (.bypass 5 [true, false, true]) s) == byp,
    out (after (.idcode 5) s) == (List.range 32).map ((0x296124F5 : Nat).testBit ·),
    (out (after (.status 5) s)).length == 64 && (out (after (.status 5) s)).take 32 == (List.range 32).map ((s.fieldsWord .secStat).testBit ·),
    let u := after (.samplePreload 5 [true] [false]) s; u.security.shiftOut == [true] && u.security.scan == [false],
    let u := after (.dbgLock 5) n; u.rd .dbgStat_unlocked == 0 && agree u n [(.dbgStat_unlocked, 0)],
    out (after (.extest 5 [true, true] [true, false, true]) s) == byp && (after (.extestPulse 5 [true] [false]) n).security.drive == .pulse && (after (.extestTrain 5 [true] [false]) (s.wr .secStat_ownerFused 0)).security.drive == .train] : List Bool).all id = true := by decide +kernel

/-- Witnesses of `Obligations.TestPortActsAndUnlocks`: locked, engine, program, halt, mode, barred. -/
theorem test_testPortActsAndUnlocks_2 : (
  let s := chipOf [(.modeStat_mode, 0, 1), (.dbgStat_unlocked, 0, 0), (.secStat_ownerFused, 0, 1), (.dbgStat_failCount, 0, 2)]
  let n := s.wr .dbgStat_unlocked 1
  let out (u : Chip) : List Bool := u.security.shiftOut
  let byp := [false, true, false]
  [
    out (after (.engineRead 5 [true, false, true] (.data 0 0)) s) == byp && out (after (.halt 5 [true, false, true]) s) == byp && out (after (.resume 5 [true, false, true]) s) == byp,
    let n := n.setEngine 3 ((n.engine 3).setDm 8191 (-2)); out (after (.engineRead 5 [] (.data 3 8191)) n) == false :: List.replicate 15 true,
    (out (after (.engineRead 5 [] (.program 3 0)) n)).length == 56 && (out (after (.engineRead 5 [] (.references 0 0)) n)).length == 32,
    (after (.halt 5 []) n).edges.haltWanted && !(after (.halt 5 []) (n.wr .modeStat_mode 3)).edges.haltWanted && !(after (.resume 5 []) n).edges.haltWanted,
    let z := s.wr .modeStat_mode 3; out (after (.dbgChallenge 5 [true, false, true]) z) == byp && out (after (.dbgResponse 5 [true, false, true]) z) == byp,
    out (after (.dbgChallenge 5 [true]) (s.wr .dbgStat_barred 1)) == []] : List Bool).all id = true := by decide +kernel

/-- Witnesses of `Obligations.TestPortActsAndUnlocks`: challenge, response, noChallenge, unlock, wrong, void. -/
theorem test_testPortActsAndUnlocks_3 : (
  let s := chipOf [(.modeStat_mode, 0, 1), (.dbgStat_unlocked, 0, 0), (.secStat_ownerFused, 0, 1), (.dbgStat_failCount, 0, 2)]
  let held (s : Chip) : Chip := { s with thermal := { s.thermal with grants := [{ what := .debugResponse, since := 0 }] } }
  let resp (s : Chip) (key : List Byte) (b : Bool) : Chip := held { s with security := { s.security with response := some ⟨requestHead, requestSig, b⟩, ownerKey := key } }
  [
    let u := after (.dbgChallenge 5 []) s; u.rd .dbgStat_challengeOpen == 1 && u.rd .dbgStat_windowLeft == 60 && u.security.challengeAt == 5 && u.security.challenge.length == 64 && u.security.shiftOut.length == 512,
    let s := { s.wr .dbgStat_challengeOpen 1 with security := { s.security with challenge := [7] } }; let u := after (.dbgResponse 5 (requestSig.flatMap byteBits)) s; u.rd .dbgStat_challengeOpen == 0 && u.security.response == some ⟨[7], requestSig, true⟩ && (u.waitsLeave .debugResponse || u.holdsLeave .debugResponse),
    let u := after (.dbgResponse 5 []) s; u.rd .dbgStat_failCount == 3 && u.rd .dbgStat_barred == 1 && u.faults.events == [originSecurity],
    let u := after (.dbgResponseCheck 5) (resp s testKey true); u.rd .dbgStat_unlocked == 1 && u.security.response == none && u.faults == s.faults,
    let u := after (.dbgResponseCheck 5) (resp s [] true); u.rd .dbgStat_unlocked == 0 && u.rd .dbgStat_failCount == 3 && u.rd .secStat_sigFails == 1,
    let u := after (.dbgResponseCheck 5) (resp s testKey false); u.rd .dbgStat_unlocked == 0 && u.rd .dbgStat_failCount == 3 && after (.dbgResponseCheck 5) s == s.atTime 5] : List Bool).all id = true := by decide +kernel

/-- Witnesses of `Obligations.TestPortActsAndUnlocks`: expiry. -/
theorem test_testPortActsAndUnlocks_4 : (
  let s := chipOf [(.modeStat_mode, 0, 1), (.dbgStat_unlocked, 0, 0), (.secStat_ownerFused, 0, 1), (.dbgStat_failCount, 0, 2)]
  [
    let z := s.wr .dbgStat_challengeOpen 1; (after (.challengeExpiry 60000000000) z).rd .dbgStat_challengeOpen == 0 && after (.challengeExpiry 59999999999) z == z.atTime 59999999999,
    let z : Chip := { s with security := { s.security with response := some ⟨[], [], true⟩ } }; (after (.challengeExpiry 60000000000) z).security.response == some ⟨[], [], false⟩] : List Bool).all id = true := by decide +kernel

/-- Witnesses of `Obligations.ModeRequestsWaitOrActAtOnce`: wait, waitAll, refused, commission, charge, run. -/
theorem test_modeRequestsWaitOrActAtOnce : (
  let s := chipOf [(.modeStat_mode, 0, 2), (.modeReq_pending, 0, 5), (.imageStat_appliedValid, 0, 1), (.dbgStat_unlocked, 0, 1), (.eeStat_halted, 0, 0), (.periodCfg_tCtl, 0, 20), (.shroudStat_shroudConsent, 0, 1), (.pllStat_locked, 0, 1), (.pllStat_synthDown, 0, 0)]
  let g : Chip := { s with clock := { s.clock with gridOn := true, started := true, n := 1 } }
  let std (s : Chip) (r : Nat) : Chip := { s.wr .modeReq_pending r with modes := { s.modes with reqStands := true } }
  [
    let u := after (.requestWarmReset 5) g; u.rd .modeReq_pending == 7 && agree u g [(.modeReq_pending, 0)] && u.mode == .charge,
    [(1, Instr.requestCommission 5), (2, .requestCharge 5), (3, .requestRun 5), (4, .requestStopTransfer 5), (5, .requestEnterQuiescent 5), (6, .requestLeaveQuiescent 5)].all fun p => (after p.2 (std g 3)).rd .modeReq_pending == p.1 && !(after p.2 (std g 3)).modes.reqStands,
    !s.requestHasRow 4 && let u := after (.requestStopTransfer 5) s; u.rd .modeReq_pending == 0 && u.faults.events == [originModeRequest] && agree u s [(.modeReq_pending, 0)],
    let u := after (.requestCommission 5) s; u.mode == .commission && u.rd .modeReq_pending == 0,
    let u := after (.requestCharge 5) (s.wr .modeStat_mode 1); u.mode == .charge && u.rd .dbgStat_unlocked == 0 && u.rd .modeReq_pending == 0,
    s.prechargeComplete && let u := after (.requestRun 5) s; u.mode == .run && u.rd .modeReq_pending == 0] : List Bool).all id = true := by decide +kernel

/-- Witnesses of `Obligations.ModeRequestsWaitOrActAtOnce`: stop, quiet, warm. -/
theorem test_modeRequestsWaitOrActAtOnce_2 : (
  let s := chipOf [(.modeStat_mode, 0, 2), (.modeReq_pending, 0, 5), (.imageStat_appliedValid, 0, 1), (.dbgStat_unlocked, 0, 1), (.eeStat_halted, 0, 0), (.periodCfg_tCtl, 0, 20), (.shroudStat_shroudConsent, 0, 1), (.pllStat_locked, 0, 1), (.pllStat_synthDown, 0, 0)]
  [
    let s := (s.wr .modeStat_mode 3).wr .cePower_designated 1 5; let u := after (.requestStopTransfer 5) s; u.modes.stopping && u.mode == .run && u.rd .cePower_stopping 5 == 1 && u.rd .modeReq_pending == 0,
    let s := s.wr .modeStat_mode 5; s.requestHasRow 5 && let u := after (.requestEnterQuiescent 5) s; u.rd .modeStat_quiescent == 1 && u.mode == .safeHold && u.rd .readyUnit_ce == 0 && u.rd .readyEdgeA_ready == 0 && (let v := after (.requestLeaveQuiescent 6) u; v.rd .modeStat_quiescent == 0 && v.mode == .safeHold && v.rd .modeReq_pending == 0),
    let s := (s.wr .modeStat_mode 1).wr .saStart_start 0xFFFFFFFF; s.requestHasRow 7 && let u := after (.requestWarmReset 5) s; u.rd .resetCause_warmRequest == 1 && u.wiresAsserted && u.rd .shroudStat_mastConsent == 0 && u.rd .modeStat_quiescent == 0 && u.rd .saStart_start == 0 && u.sram == s.sram && u.mode == .configure] : List Bool).all id = true := by decide +kernel

/-- Witnesses of `Obligations.TransitionsConfigureAndQuiescentEnd`: at1, at2, at3, auto, stopped, noRow. -/
theorem test_transitionsConfigureAndQuiescentEnd : (
  let s := chipOf [(.modeStat_mode, 0, 2), (.modeReq_pending, 0, 5), (.imageStat_appliedValid, 0, 1), (.dbgStat_unlocked, 0, 1), (.eeStat_halted, 0, 0), (.periodCfg_tCtl, 0, 20), (.shroudStat_shroudConsent, 0, 1), (.pllStat_locked, 0, 1), (.pllStat_synthDown, 0, 0)]
  let g : Chip := { s with clock := { s.clock with gridOn := true, started := true, n := 1 } }
  let std (s : Chip) (r : Nat) : Chip := { s.wr .modeReq_pending r with modes := { s.modes with reqStands := true } }
  [
    g.atBoundary && let u := after (.modeTransition 0) (std g 1); u.mode == .commission && u.modes.transitionAt == some g.boundaryTb,
    (after (.modeTransition 0) (std (g.wr .modeStat_mode 1) 2)).mode == .charge,
    (after (.modeTransition 0) (std g 3)).mode == .run,
    (after (.modeTransition 0) { g.wr .modeReq_pending 0 with sys := { g.sys with autoRun := true } }).mode == .run,
    let z := { g.wr .modeStat_mode 3 with modes := { g.modes with stopping := true } }; z.powerIsZero && (after (.modeTransition 0) z).mode == .charge,
    let z := std (g.wr .modeStat_mode 1) 3; !z.requestHasRow 3 && let u := after (.modeTransition 0) z; u.mode == .commission && u.rd .modeReq_pending == 0 && u.faults.events == [originModeRequest]] : List Bool).all id = true := by decide +kernel

/-- Witnesses of `Obligations.TransitionsConfigureAndQuiescentEnd`: configure, configureStays, shadow, resume. -/
theorem test_transitionsConfigureAndQuiescentEnd_2 : (
  let s := chipOf [(.modeStat_mode, 0, 2), (.modeReq_pending, 0, 5), (.imageStat_appliedValid, 0, 1), (.dbgStat_unlocked, 0, 1), (.eeStat_halted, 0, 0), (.periodCfg_tCtl, 0, 20), (.shroudStat_shroudConsent, 0, 1), (.pllStat_locked, 0, 1), (.pllStat_synthDown, 0, 0)]
  let g : Chip := { s with clock := { s.clock with gridOn := true, started := true, n := 1 } }
  let conf (s : Chip) : Chip := { (s.wr .modeStat_mode 0).wr .modeReq_pending 0 with modes := { s.modes with sliceDone := true, restoreDone := true } }
  [
    let z := { conf g with sys := { g.sys with startMode := 2 } }; z.configureMayEnd && z.configureTarget.any (fun p => (after (.endOfConfigure 0) z).mode == p.1),
    let z := conf g; z.configureTarget == none && after (.endOfConfigure 0) z == z && (after (.endOfConfigure 0) { z.wr .modeReq_pending 1 with modes := { z.modes with reqReached := true } }).mode == .commission && (after (.endOfConfigure 0) (z.wr .modeReq_pending 1)).mode == .configure,
    let z := { conf g with sys := { g.sys with pair := true } }; z.configureTarget == some (.shadow, true) && let u := after (.endOfConfigure 0) z; u.mode == .shadow && u.halyard.probing,
    let z := { g.wr .modeStat_quiescent 1 with modes := { g.modes with resumeIn := some 0 } }; let u := after (.quiescentResume 0) z; u.rd .modeStat_quiescent == 0 && u.modes.resumeIn == none && u.mode == .charge &&
      let y := { z with modes := { z.modes with resumeIn := some 1 } }; after (.quiescentResume 0) y == y] : List Bool).all id = true := by decide +kernel

/-- Witnesses of `Obligations.LockoutIsKeptAndRestored`: persisted, retry, restore. -/
theorem test_lockoutIsKeptAndRestored : (
  let s := chipOf [(.modeStat_mode, 0, 3), (.imageStat_appliedValid, 0, 1), (.idbStat_linkUp, 0, 1), (.dbgStat_unlocked, 0, 1), (.metStat_ewArmed, 0, 1), (.periodCfg_tCtl, 0, 20), (.laneCfg_enabled, 99, 1), (.laneCfg_enabled, 98, 0), (.pllStat_synthDown, 0, 0), (.shroudStat_sprA, 0, 0), (.shroudStat_sprB, 0, 0), (.sprStat_aDemand, 0, 0), (.sprStat_bDemand, 0, 0)]
  let holds (u : Chip) (c : HoldCause) : Bool := u.mode == .safeHold && u.rd .modeStat_holdCause == c.code && u.rd .delibStat_windowOpen == 0 &&
    u.rd .fcStat_reaction == flag c.isSystem && u.rd .shroudStat_mastConsent == 0 && u.wiresAsserted && u.rd .eeStat_halted == 0 &&
    (List.range 8).all (fun n => u.rd .gdStat_staticOn n == 0) && u.rd .fcStat_aliveAFrozen == 1 && u.rd .fcStat_aliveBFrozen == 1
  let h := (s.wr .modeStat_mode 5).wr .modeStat_holdCause 2
  [
    let z := { h with storage := { h.storage with written := [.lockout] } }; let u := after (.lockoutEntryPersisted 5) z; u.rd .modeStat_lockoutPersisted == 1 && u.storage.written == [] && (after (.lockoutEntryPersisted 5) { z with modes := { z.modes with lockoutEntries := [{}] } }).rd .modeStat_lockoutPersisted == 0,
    let z := { h with modes := { h.modes with lockoutRefused := some 0, lockoutEntries := [{}] } }; let u := after (.lockoutEntryRetry 1000000000) z; u.modes.lockoutRefused == none && (u.waitsLeave .lockoutWrite || u.holdsLeave .lockoutWrite) && (after (.lockoutEntryRetry 999999999) z).modes == z.modes,
    let z := { s with storage := { s.storage with lockoutFound := some 2 }, clock := { s.clock with gridOn := true, started := true, n := 1 } }; z.atBoundary && z.storage.lockoutFound.bind restoredCause == some .restored && let u := after (.lockoutRestore 0) z; holds u .restored && u.rd .shroudStat_lockout == 1 && u.modes.restoreDone] : List Bool).all id = true := by decide +kernel

/-- Witnesses of `Obligations.HoldUpAndSupplies`: early, earlyHeld, vsys, supply, supplyMast. -/
theorem test_holdUpAndSupplies : (
  let s := chipOf [(.modeStat_mode, 0, 3), (.imageStat_appliedValid, 0, 1), (.idbStat_linkUp, 0, 1), (.dbgStat_unlocked, 0, 1), (.metStat_ewArmed, 0, 1), (.periodCfg_tCtl, 0, 20), (.laneCfg_enabled, 99, 1), (.laneCfg_enabled, 98, 0), (.pllStat_synthDown, 0, 0), (.shroudStat_sprA, 0, 0), (.shroudStat_sprB, 0, 0), (.sprStat_aDemand, 0, 0), (.sprStat_bDemand, 0, 0)]
  let holds (u : Chip) (c : HoldCause) : Bool := u.mode == .safeHold && u.rd .modeStat_holdCause == c.code && u.rd .delibStat_windowOpen == 0 &&
    u.rd .fcStat_reaction == flag c.isSystem && u.rd .shroudStat_mastConsent == 0 && u.wiresAsserted && u.rd .eeStat_halted == 0 &&
    (List.range 8).all (fun n => u.rd .gdStat_staticOn n == 0) && u.rd .fcStat_aliveAFrozen == 1 && u.rd .fcStat_aliveBFrozen == 1
  let h := (s.wr .modeStat_mode 5).wr .modeStat_holdCause 2
  [
    let u := after (.earlyWarningTrip 5) s; u.rd .modeStat_holdUp == 1 && u.rd .shroudStat_lockout == 1 && u.rd .dbgStat_unlocked == 0 && u.rd .metStat_ewArmed == 0 && holds u .earlyWarning,
    let u := after (.earlyWarningTrip 5) h; u.mode == .safeHold && u.rd .modeStat_holdCause == 2 && (let w := after (.earlyWarningTrip 5) (h.wr .modeStat_holdCause 0); w.rd .modeStat_holdCause == 4),
    let z := s.wr .modeStat_holdUp 1; (let u := after (.vsysFallsToHold 5) z; u.modes.holdSwitch && u.regs == z.regs) && let u := after (.vsysReturn 5) (z.wr .metStat_finalWritten 1); u.rd .modeStat_holdUp == 0 && u.rd .metStat_finalWritten == 0 && !u.modes.holdSwitch,
    let u := after (.supplyWarning 5 2) s; u.spr.warned == [2] && u.wiresAsserted && u.rd .shroudStat_shroudConsent == 0 && u.faults.events == [originSupply] && after (.supplyWarning 6 2) u == u.atTime 6 && let v := after (.supplyReturn 7 2) u; v.spr.warned == [] && v.faults == u.faults && v.rd .shroudStat_withheld == v.shroudWithheld,
    let u := after (.supplyWarning 5 0) (s.wr .idbStat_linkUp 0); u.spr.warned == [0] && u.faults.idbEvents == [originSupply]] : List Bool).all id = true := by decide +kernel

/-- Witnesses of `Obligations.ColdResetAndSupervisorFailures`: cold, release, watchdog, lockstep. -/
theorem test_coldResetAndSupervisorFailures : (
  let s := chipOf [(.modeStat_mode, 0, 3), (.imageStat_appliedValid, 0, 1), (.idbStat_linkUp, 0, 1), (.dbgStat_unlocked, 0, 1), (.metStat_ewArmed, 0, 1), (.periodCfg_tCtl, 0, 20), (.laneCfg_enabled, 99, 1), (.laneCfg_enabled, 98, 0), (.pllStat_synthDown, 0, 0), (.shroudStat_sprA, 0, 0), (.shroudStat_sprB, 0, 0), (.sprStat_aDemand, 0, 0), (.sprStat_bDemand, 0, 0)]
  let h := (s.wr .modeStat_mode 5).wr .modeStat_holdCause 2
  [
    let z := { s with drawn := 3 }; let u := after (.coldReset 5 2) z; u.mode == .configure && u.modes == {} && u.sram == {} && u.faults == {} && u.wiresAsserted && u.storage == z.storage.flash && u.rd .resetCause_coldPin == 1 && u.rd .resetCause_coldPowerOn == 0,
    let z := State.reset.chip.wr .laneCfg_enabled 0 98; let u := after (.porstNRelease 0 { pairEn := false, refEdges := true, dev0 := true, dev1 := false, profile := true, blocks := 0, table := none, markers := [], pages := [(256, firmwarePage)] }) z; z.modes.porstLow && !u.modes.porstLow && !u.halyard.pairEn && u.rd .pllStat_refPresent == 1 && u.linkState 99 == .hunt && u.linkState 98 == .disabled && u.rd .nvDev_dev0 == 1 && u.rd .nvDev_dev1 == 0 && (u.flashPage 256).spare == firmwarePage.spare,
    s.modes.porstLow == false && s.sys.lockstep && h.holdCause.merge .warmReset == .spr,
    let z := { s with sys := { s.sys with lockstep := false } }; after (.lockstepMismatch 5) z == z.atTime 5] : List Bool).all id = true := by decide +kernel

/-- Witnesses of `Obligations.ResetPulseOpensTheWindow`: pulse, short, long, window. -/
theorem test_resetPulseOpensTheWindow : (
  let s := chipOf [(.modeStat_mode, 0, 3), (.imageStat_appliedValid, 0, 1), (.idbStat_linkUp, 0, 1), (.dbgStat_unlocked, 0, 1), (.metStat_ewArmed, 0, 1), (.periodCfg_tCtl, 0, 20), (.laneCfg_enabled, 99, 1), (.laneCfg_enabled, 98, 0), (.pllStat_synthDown, 0, 0), (.shroudStat_sprA, 0, 0), (.shroudStat_sprB, 0, 0), (.sprStat_aDemand, 0, 0), (.sprStat_bDemand, 0, 0)]
  let h := (s.wr .modeStat_mode 5).wr .modeStat_holdCause 2
  let win := { h with modes := { h.modes with windowFall := 0 }, spr := { h.spr with shroudFall := some 0, idbUp := true } }
  let win := win.wr .delibStat_windowOpen 1
  [
    let u := after (.sprRstPulse 7 500000000) s; u.rd .delibStat_windowOpen == 1 && u.rd .delibStat_windowLeft == 100 && u.spr.shroudFall == some 7 && u.modes.windowFall == 7 && agree u s [(.delibStat_windowOpen, 0), (.delibStat_windowLeft, 0)] && (after (.sprRstPulse 7 5000000000) s).rd .delibStat_windowOpen == 1,
    let u := after (.sprRstPulse 7 499999999) s; u.rd .delibStat_lastRefusal == 1 && agree u s [(.delibStat_lastRefusal, 0)] && u.spr == s.spr && after (.sprRstPulse 7 999999) s == s.atTime 7 && (after (.sprRstPulse 7 2000000) s).rd .delibStat_lastRefusal == 1,
    let u := after (.sprRstPulse 7 5000000001) s; u.rd .delibStat_lastRefusal == 2 && u.spr == s.spr,
    let u := after (.ackWindowExpiry 10000000000) win; u.rd .delibStat_windowOpen == 0 && after (.ackWindowExpiry 9999999999) win == win.atTime 9999999999] : List Bool).all id = true := by decide +kernel

/-- Witnesses of `Obligations.AcknowledgeRefusesOrResets`: ackRefused, ack. -/
theorem test_acknowledgeRefusesOrResets : (
  let s := chipOf [(.modeStat_mode, 0, 3), (.imageStat_appliedValid, 0, 1), (.idbStat_linkUp, 0, 1), (.dbgStat_unlocked, 0, 1), (.metStat_ewArmed, 0, 1), (.periodCfg_tCtl, 0, 20), (.laneCfg_enabled, 99, 1), (.laneCfg_enabled, 98, 0), (.pllStat_synthDown, 0, 0), (.shroudStat_sprA, 0, 0), (.shroudStat_sprB, 0, 0), (.sprStat_aDemand, 0, 0), (.sprStat_bDemand, 0, 0)]
  let h := (s.wr .modeStat_mode 5).wr .modeStat_holdCause 2
  let win := { h with modes := { h.modes with windowFall := 0 }, spr := { h.spr with shroudFall := some 0, idbUp := true } }
  let win := win.wr .delibStat_windowOpen 1
  [
    (win.atTime 10000000000).ackRefusal true == 7 && (let u := after (.ack 10000000000 true) win; u.rd .delibStat_lastRefusal == 7) && (after (.ack 5 false) win).rd .delibStat_lastRefusal == 8,
    (win.atTime 5).ackRefusal true == 0 && let z := win.wr .gdStat_shortLatched 1 7; (z.atTime 5).ackRefusal true == 0] : List Bool).all id = true := by decide +kernel

/-- Witnesses of `Obligations.HalyardHeadersAndSilence`: header, agreed, react, badHeader, silence, takeover. -/
theorem test_halyardHeadersAndSilence : (
  let s := chipOf [(.modeStat_mode, 0, 4), (.halStat_accepted, 0, 1), (.halStat_partnerSeen, 0, 1), (.periodIndex_index, 0, 2), (.halCfg_rank, 0, 0), (.halStat_inStep, 0, 1), (.halCfg_holdTime, 0, 1), (.pllStat_holdover, 0, 0), (.pllStat_synthDown, 0, 0), (.pllStat_locked, 0, 1), (.halCfg_member, 0, 0), (.halStat_aligned, 0, 1), (.periodCfg_tCtl, 0, 20), (.grCfg_pLim, 0, 1000)]
  let s := { s with sys := { s.sys with pair := true, dualSend := true } }
  let lk (s : Chip) : Chip := s.setLane 96 { s.lane 96 with rx := lockedRx }
  let p : HalHeader := { healthy := true, mode := 3, rank := 1 }
  let w : Word := 0xb0000591
  let r : Word := 0xac000599
  let holds (u : Chip) (c : HoldCause) : Bool := u.mode == .safeHold && u.rd .modeStat_holdCause == c.code && u.wiresAsserted && u.rd .fcStat_reaction == 1
  let sil (s : Chip) (j : Nat) : Chip := { s with halyard := { s.halyard with silentPeriod := some j } }
  [
    halHeaderValid w && readHalHeader w == p && let u := after (.halyardHeaderRx 5 0 w) (lk s); u.rd .halStat_partnerSeen == 1 && u.rd .halStat_partnerBlock == 0 && u.rd .laneStat_farBlock 96 == 0,
    let v := after (.halyardHeaderRx 5 0 w) (lk s); let u := after (.halyardHeaderRx 6 0 w) v; u.rd .halStat_partnerHealthy == 1 && u.rd .halStat_partnerMode == 3 && u.rd .halStat_partnerReact == 0,
    let v := after (.halyardHeaderRx 5 0 r) (lk s); v.mode == .shadow && holds (after (.halyardHeaderRx 6 0 r) v) .severe,
    let u := after (.halyardHeaderRx 5 0 0) (lk s); u.rd .laneErrs_invalidHeaders 96 == 1 && agree u (lk s) [(.laneErrs_invalidHeaders, 96)],
    let u := after (.partnerSilence 2000) s; u.rd .halStat_partnerSeen == 0 && u.halyard.silentPeriod == some 2 && u.halyard.coasting && after (.partnerSilence 1999) s == s.atTime 1999,
    let z := { sil s 0xFFFFFFFF with halyard := { (sil s 0xFFFFFFFF).halyard with coasting := true } }; z.periodsSince 0xFFFFFFFF == 3 && let u := after (.silenceTakeoverCheck 5) z; u.halyard.takeNext && u.halyard.takeover && u.halyard.sendsNow && !u.halyard.coasting && u.regs == z.regs && (let w := z.wr .pllStat_locked 0; after (.silenceTakeoverCheck 5) w == w.atTime 5)] : List Bool).all id = true := by decide +kernel

/-- Witnesses of `Obligations.HalyardHeadersAndSilence`: noExec, yield. -/
theorem test_halyardHeadersAndSilence_2 : (
  let s := chipOf [(.modeStat_mode, 0, 4), (.halStat_accepted, 0, 1), (.halStat_partnerSeen, 0, 1), (.periodIndex_index, 0, 2), (.halCfg_rank, 0, 0), (.halStat_inStep, 0, 1), (.halCfg_holdTime, 0, 1), (.pllStat_holdover, 0, 0), (.pllStat_synthDown, 0, 0), (.pllStat_locked, 0, 1), (.halCfg_member, 0, 0), (.halStat_aligned, 0, 1), (.periodCfg_tCtl, 0, 20), (.grCfg_pLim, 0, 1000)]
  let s := { s with sys := { s.sys with pair := true, dualSend := true } }
  let sil (s : Chip) (j : Nat) : Chip := { s with halyard := { s.halyard with silentPeriod := some j } }
  [
    let x (k i : Nat) (s : Chip) : Chip := { (sil s 0).wr .periodIndex_index i with halyard := { (sil s 0).halyard with noExecAt := some k } }
    let u := after (.silenceTakeoverCheck 5) (x 1 2 s); u.halyard.noExecRun == 1 && !u.halyard.takeNext && (after (.silenceTakeoverCheck 6) (x 2 3 u)).halyard.takeNext && (after (.silenceTakeoverCheck 6) (x 3 3 u)).halyard.noExecRun == 1,
    let z := ((s.wr .modeStat_mode 3).wr .laneStat_state 3 0).wr .laneStat_ready 1 0; let z := z.setLane 0 { baleNext := some { execMember := true } }; let z := (sil z 0).wr .periodIndex_index 5;
      z.waitingBales.any z.showsPartner && let u := after (.silenceYieldCheck 5) z; u.halyard.yieldNext && u.halyard.stoppedSending] : List Bool).all id = true := by decide +kernel

/-- Witnesses of `Obligations.MarksCopiesAndHandingBack`: mark, drift, copy, ask, askAgain, take. -/
theorem test_marksCopiesAndHandingBack : (
  let s := chipOf [(.modeStat_mode, 0, 4), (.halStat_accepted, 0, 1), (.halStat_partnerSeen, 0, 1), (.periodIndex_index, 0, 2), (.halCfg_rank, 0, 0), (.halStat_inStep, 0, 1), (.halCfg_holdTime, 0, 1), (.pllStat_holdover, 0, 0), (.pllStat_synthDown, 0, 0), (.pllStat_locked, 0, 1), (.halCfg_member, 0, 0), (.halStat_aligned, 0, 1), (.periodCfg_tCtl, 0, 20), (.grCfg_pLim, 0, 1000)]
  let s := { s with sys := { s.sys with pair := true, dualSend := true } }
  let p : HalHeader := { healthy := true, mode := 3, rank := 1 }
  let grid (s : Chip) : Chip := { s with clock := { s.clock with gridOn := true, b0 := 100, n := 2 } }
  let hand (own ack : Bool) : Chip := { s.wr .periodIndex_index 3 with halyard := { s.halyard with handover := some ⟨0, own, ack⟩, partner := { p with mode := 4 } } }
  let ask : Chip := { s with halyard := { s.halyard with stepFrom := some 0 } }
  [
    let z := grid s; let o := 8 * (100 + 2 * z.tCtlNs); let u := after (.halMarkRx 0 (o - 100) 92 7 0) { z with halyard := { z.halyard with driftRun := 7 } }; u.rd .halAlign_valid == 1 && u.rd .halAlign_offset == 8 && u.halyard.markIndex == 7 && u.rd .halStat_inStep == 1,
    let z := grid s; let o := 8 * (100 + 2 * z.tCtlNs); let u := after (.halMarkRx 0 (o - 100) 91 7 0) { z with halyard := { z.halyard with driftRun := 7 } }; u.rd .halAlign_offset == 9 && u.rd .halAlign_drift == 1 && u.rd .halStat_inStep == 0 && u.faults.events == [originHalyard],
    let u := after (.copyFrameRx 5 1 2 0 (.arms [] []) true) s; u.regs == s.regs && u.halyard.copySof == some 1 && ((storeGet u.halyard.parts 5 none).any fun q => q.index == 1 && q.shares.contains 0 && q.content == .arms [] [] && q.doneAt == 5) && after (.copyFrameRx 5 1 2 0 (.arms [] []) false) s == { s.atTime 5 with halyard := { s.halyard with copySof := some 1 } },
    (ask.atTime 1000000000).mayAskReturn && let u := after (.handoverRequest 1000000000) ask; u.rd .halStat_returnPending == 1 && u.halyard.handover == some ⟨2, true, false⟩,
    let z := { ask with halyard := { ask.halyard with askAgainAt := 2000000000 } }; (after (.handoverRetry 2000000000) z).rd .halStat_returnPending == 1 && (after (.handoverRetry 1999999999) z).rd .halStat_returnPending == 0,
    let u := after (.handoverAct 5) (hand true true); u.mode == .run && u.halyard.handover == none && u.rd .halCount_takeovers == 1] : List Bool).all id = true := by decide +kernel

/-- Witnesses of `Obligations.MarksCopiesAndHandingBack`: failed, gives. -/
theorem test_marksCopiesAndHandingBack_2 : (
  let s := chipOf [(.modeStat_mode, 0, 4), (.halStat_accepted, 0, 1), (.halStat_partnerSeen, 0, 1), (.periodIndex_index, 0, 2), (.halCfg_rank, 0, 0), (.halStat_inStep, 0, 1), (.halCfg_holdTime, 0, 1), (.pllStat_holdover, 0, 0), (.pllStat_synthDown, 0, 0), (.pllStat_locked, 0, 1), (.halCfg_member, 0, 0), (.halStat_aligned, 0, 1), (.periodCfg_tCtl, 0, 20), (.grCfg_pLim, 0, 1000)]
  let s := { s with sys := { s.sys with pair := true, dualSend := true } }
  let p : HalHeader := { healthy := true, mode := 3, rank := 1 }
  let hand (own ack : Bool) : Chip := { s.wr .periodIndex_index 3 with halyard := { s.halyard with handover := some ⟨0, own, ack⟩, partner := { p with mode := 4 } } }
  [
    let u := after (.handoverAct 5) (hand true false); u.mode == .shadow && u.rd .halStat_returnPending == 0 && u.halyard.askAgainAt == 1000000005,
    let u := after (.handoverAct 5) ((hand false true).wr .modeStat_mode 3); u.mode == .shadow && u.rd .halStat_aligned == 0 && u.rd .halCount_yields == 1] : List Bool).all id = true := by decide +kernel

/-- Witnesses of `Obligations.PartnerIdentityIsExchangedAndJudged`: nonce, proof, judgedOk, judgedNot, again. -/
theorem test_partnerIdentityIsExchangedAndJudged : (
  let s := chipOf [(.modeStat_mode, 0, 4), (.halStat_accepted, 0, 1), (.halStat_partnerSeen, 0, 1), (.periodIndex_index, 0, 2), (.halCfg_rank, 0, 0), (.halStat_inStep, 0, 1), (.halCfg_holdTime, 0, 1), (.pllStat_holdover, 0, 0), (.pllStat_synthDown, 0, 0), (.pllStat_locked, 0, 1), (.halCfg_member, 0, 0), (.halStat_aligned, 0, 1), (.periodCfg_tCtl, 0, 20), (.grCfg_pLim, 0, 1000)]
  let s := { s with sys := { s.sys with pair := true, dualSend := true } }
  let meas (s : Chip) : Chip := (s.wr .laneStat_state 2 96).wr .laneLatency_valid 1 96
  let proof : IdProof := ⟨identityNonce, 1, 1, testKey, identitySig⟩
  let idl (s : Chip) (q : Option IdProof) : Chip := ((List.range 12).foldl (fun z k => z.wr .halPeerHash_digest (beNat ((testKeyHash.drop (4 * k)).take 4)) k)
    { meas s with thermal := { s.thermal with grants := [{ what := .halyardIdentity, since := 0 }] }, halyard := { s.halyard with ids := [(96, { nonce := identityNonce, proof := q })] } })
  [
    let f : List Byte := idSof 1 0 0 ++ [9]; let u := after (.idNonceRx 5 0 f (BitVec.ofNat 32 (crc32 f))) (meas s); (meas s).exchanges 96 && (storeGet u.halyard.ids 96 {}).toAnswer == [9] && (u.waitsLeave .halyardIdentity || u.holdsLeave .halyardIdentity) &&
      after (.idNonceRx 5 0 f 0) (meas s) == (meas s).atTime 5 && (let v := { u with thermal := { u.thermal with queue := [], grants := [{ what := .halyardIdentity, since := 0 }] } }; let w := after (.identityCheckComplete 6) v; (storeGet w.halyard.ids 96 {}).toAnswer == []),
    let z := idl s none; let u := after (.idProofRx 5 0 1 1 testKey identitySig (BitVec.ofNat 32 (crc32 (idSof 2 1 1 ++ testKey ++ identitySig)))) z; (storeGet u.halyard.ids 96 {}).proof == some proof,
    let z := idl s (some proof); z.peerHash == testKeyHash && z.proofLane == some 96 && let u := after (.identityCheckComplete 5) z; u.rd .halStat_accepted == 1 && u.rd .halStat_idRefused == 0 && u.linkState 96 == .ready && u.halyard.refusedAt == none,
    let z := idl s (some { proof with sig := [] }); let u := after (.identityCheckComplete 5) z; u.rd .halStat_accepted == 0 && u.rd .halStat_idRefused == 1 && u.halyard.refusedAt == some 5 && u.faults.events == [originPartner],
    let z := { (meas s).wr .halStat_idRefused 1 with halyard := { s.halyard with refusedAt := some 0 } }; let u := after (.identityRetry 10000000000) z; u.halyard.refusedAt == some 10000000000 && (storeGet u.halyard.ids 96 {}).nonce.length == 16 && u.regs == z.regs] : List Bool).all id = true := by decide +kernel

/-- Witnesses of `Obligations.AccumulatorsTakeTheirResults`: clr, lda, mac, msu, ash, mac2. -/
theorem test_accumulatorsTakeTheirResults : (
  let s := engineChip
  let u (op : Fin 24 → Machine.OpWord → Instr) (code : Nat) (w : Machine.OpWord) : Engine := (run op code w s).engine 23
  let w (a b c : Nat) : Machine.OpWord := engineWord a b c
  [
    (u .clr 0x01 (w 0 0 0)).a0 == 0 && (u .clr 0x01 (w 0 0 0)).a1 == -7 && (u .clr 0x01 (w 0 0 0)).pc == 1,
    (u .lda 0x02 (w 4 0 0)).a0 == -5 * 32768,
    (u .mac 0x03 (w 3 3 0)).a0 == 549755813887 && (run .mac 0x03 (w 3 3 0) s).rd .ceEstat_accSat 23 == 1 && (u .mac 0x03 (engineWord 3 4 0 0 true)).a1 == -1507 && (run .mac 0x03 (engineWord 3 4 0 0 true) s).rd .ceEstat_accSat 23 == 0,
    (u .msu 0x04 (w 3 3 0)).a0 == 549755813887 - 90000,
    (u .ash 0x06 (engineWord 0 0 0 15 true)).a1 == -4 && (u .ash 0x06 (engineWord 0 0 0 7 true)).a1 == -7 * 128 && (u .ash 0x06 (engineWord 0 0 0 1)).a0 == 549755813887,
    (u .mac2 0x05 (w 3 4 3)).a1 == -7 + 25 && (u .mac2 0x05 (w 3 4 3)).a0 == 549755813887] : List Bool).all id = true := by decide +kernel

/-- Witnesses of `Obligations.AccumulatorsTakeTheirResults`: addi. -/
theorem test_accumulatorsTakeTheirResults_2 : (
  let s := engineChip
  let u (op : Fin 24 → Machine.OpWord → Instr) (code : Nat) (w : Machine.OpWord) : Engine := (run op code w s).engine 23
  [
    (u .addi 0x08 (engineWord 3 0 0 0 true)).a1 == -7 + (300 * 65536 + 65531) / 2] : List Bool).all id = true := by decide +kernel

/-- Witnesses of `Obligations.DataWordsTakeTheirResults`: sat, mov, add, min, tab, sin. -/
theorem test_dataWordsTakeTheirResults : (
  let s := engineChip
  let u (op : Fin 24 → Machine.OpWord → Instr) (code : Nat) (w : Machine.OpWord) : Engine := (run op code w s).engine 23
  let dm (op : Fin 24 → Machine.OpWord → Instr) (code : Nat) (w : Machine.OpWord) (x : Nat) : Int := (u op code w).dmAt x
  let w (a b c : Nat) : Machine.OpWord := engineWord a b c
  [
    dm .sat 0x07 (w 0 0 9) 9 == 32767 && (run .sat 0x07 (w 0 0 9) s).rd .ceLoopStat_satCount (64 * 23) == 1 && dm .sat 0x07 (engineWord 0 0 9 0 true) 9 == 0,
    dm .mov 0x0B (w 1 0 8192) 0 == -32768 && dm .neg 0x0C (w 1 0 1) 1 == 32767 && (run .neg 0x0C (w 1 0 1) s).rd .ceLoopStat_sat (64 * 23) == 1,
    dm .add 0x0D (w 2 3 2) 2 == 32767 && dm .sub 0x0E (w 3 4 3) 3 == 305 && dm .mul 0x0F (w 1 1 9) 9 == 32767 && dm .mul 0x0F (w 3 3 9) 9 == 3,
    dm .min 0x10 (w 1 2 9) 9 == -32768 && dm .max 0x11 (w 1 2 9) 9 == 32767,
    dm .tab 0x13 (w 1 2 9) 9 == 32767 && dm .tab 0x13 (w 4 2 9) 9 == (roundHalfUp (32767 * 65536 + 32763 * (300 - 32767)) 65536),
    dm .sin 0x14 (w 1 0 9) 9 == 0 && dm .sin 0x14 (w 1 0 9) 10 == -32768 && dm .sin 0x14 (w 3 0 3) 3 == roundHalfUp (sineOf 300) 64] : List Bool).all id = true := by decide +kernel

/-- Witnesses of `Obligations.DataWordsTakeTheirResults`: clk, ick, prk, ipk, int, lim. -/
theorem test_dataWordsTakeTheirResults_2 : (
  let s := engineChip
  let g := s.engine 23
  let u (op : Fin 24 → Machine.OpWord → Instr) (code : Nat) (w : Machine.OpWord) : Engine := (run op code w s).engine 23
  let dm (op : Fin 24 → Machine.OpWord → Instr) (code : Nat) (w : Machine.OpWord) (x : Nat) : Int := (u op code w).dmAt x
  let w (a b c : Nat) : Machine.OpWord := engineWord a b c
  [
    dm .clk 0x15 (w 3 0 3) 3 == roundHalfUp (21845 * 300 - 10923 * (-5)) 32768 && dm .clk 0x15 (w 3 0 3) 4 == roundHalfUp (18919 * (-5)) 32768,
    dm .ick 0x16 (w 3 0 2) 2 == 300 && dm .ick 0x16 (w 3 0 2) 3 == roundHalfUp (-16384 * 300 + 28378 * (-5)) 32768 && dm .ick 0x16 (w 3 0 2) 4 == roundHalfUp (-16384 * 300 - 28378 * (-5)) 32768,
    dm .prk 0x17 (w 3 2 3) 3 == roundHalfUp (300 * 300 + -5 * 32767) 32768 && dm .prk 0x17 (w 3 2 3) 4 == roundHalfUp (-(300 * 32767) + -5 * 300) 32768,
    dm .ipk 0x18 (w 3 2 3) 3 == roundHalfUp (300 * 300 - -5 * 32767) 32768 && dm .ipk 0x18 (w 3 2 3) 4 == roundHalfUp (300 * 32767 + -5 * 300) 32768,
    dm .int 0x09 (w 3 3 20) 20 == 0 && (let g2 := ((g.setDm 22 (-100)).setDm 23 100); (run .int 0x09 (w 3 3 20) (s.setEngine 23 g2)).engine 23 |>.integrator 20) == 180000,
    dm .lim 0x12 (w 4 3 2) 2 == 300 && (run .lim 0x12 (w 4 3 2) s).rd .ceLoopStat_lim (64 * 23) == 1 && dm .lim 0x12 (w 3 4 2) 2 == -5 && (run .lim 0x12 (w 1 2 3) s).rd .ceLoopStat_lim (64 * 23) == 0] : List Bool).all id = true := by decide +kernel

/-- Witnesses of `Obligations.EngineControlOperations`: index, rep, skip, stopped, slots, endLoop. -/
theorem test_engineControlOperations : (
  let s := engineChip
  let g := s.engine 23
  let u (op : Fin 24 → Machine.OpWord → Instr) (code : Nat) (w : Machine.OpWord) : Engine := (run op code w s).engine 23
  let w (a b c : Nat) : Machine.OpWord := engineWord a b c
  [
    (u .setx 0x1C (w 8191 0 0)).x == 8191 && ((run .addx 0x1D (w 2 0 0) (run .setx 0x1C (w 8191 0 0) s)).engine 23).x == 1,
    (u .rep 0x1E (w 3 2 0)).rep == some ⟨1, 3, 2⟩ && (u .skn 0x1F (engineWord 4 0 0 3)).skip == 3 && (u .skn 0x1F (engineWord 3 0 0 3)).skip == 0,
    let z := s.setEngine 23 { g with skip := 2 }; ((run .mov 0x0B (w 1 0 9) z).engine 23).skip == 1 && ((run .mov 0x0B (w 1 0 9) z).engine 23).dmAt 9 == 0,
    let z := s.setEngine 23 { g with image := { g.image with program := [wordOf 0x0B (w 1 0 9)] } }; !z.executes 23 0x0B (w 1 0 8) && after (.mov 23 (w 1 0 8)) z == z && after (.endLoop 23 (w 1 0 9)) z == z && (let z := z.setEngine 23 { z.engine 23 with phase := .stopped }; after (.mov 23 (w 1 0 9)) z == z) && (let z := z.wr .modeStat_mode 0; after (.mov 23 (w 1 0 9)) z == z) && (let z := z.wr .ceCfg_lost 1 23; after (.mov 23 (w 1 0 9)) z == z) && (after (.mov 23 (w 1 0 9)) z).engine 23 != z.engine 23,
    let z := s.setEngine 23 { g with inVals := [(511, 65535)] }; ((run .inSlot 0x19 (w 511 0 9) z).engine 23).dmAt 9 == -1 && storeGet (u .outSlot 0x1A (w 4 0 511)).outVals 511 0 == 65531,
    (u .endLoop 0x3F (w 0 0 0)).loop == 1 && (let z := s.setEngine 23 ({ g with loop := 1 }.setDm 5 77); let v := run .endLoop 0x3F (w 0 0 0) z; (v.engine 23).phase == .ended && v.rdInt .ceLoopOut_out (64 * 23) == 77)] : List Bool).all id = true := by decide +kernel

/-- Witnesses of `Obligations.EngineControlOperations`: nop, trk, msel. -/
theorem test_engineControlOperations_2 : (
  let s := engineChip
  let g := s.engine 23
  let u (op : Fin 24 → Machine.OpWord → Instr) (code : Nat) (w : Machine.OpWord) : Engine := (run op code w s).engine 23
  let dm (op : Fin 24 → Machine.OpWord → Instr) (code : Nat) (w : Machine.OpWord) (x : Nat) : Int := (u op code w).dmAt x
  let w (a b c : Nat) : Machine.OpWord := engineWord a b c
  [
    u .nop 0x00 (w 0 0 0) == { g with image := { g.image with program := [0] } }.advance,
s.loopOpen 23 0 && (g.desc 0).group.isNone && dm .trk 0x0A (w 0 0 9) 9 == s.trackTarget 23 0 && (let z := s.wr .ceLoopStat_closed 1 (64 * 23); !z.loopOpen 23 0 && !z.loopRestarts 23 0 && (run .trk 0x0A (w 0 0 9) z).engine 23 == { g with image := { g.image with program := [wordOf 0x0A (w 0 0 9)] } }.advance),
    let z := s.setEngine 23 { g with image := { g.image with groups := [{ members := [0, 1] }] } }; let k : List Int := [0, 1].map (z.memberValue 23); let v := ((run .msel 0x1B (w 0 0 9) z).engine 23).dmAt 9; k.all (fun x => decide (v ≤ x)) && k.contains v] : List Bool).all id = true := by decide +kernel

/-- Witnesses of `Obligations.BoundaryCountsAndTakesTheSnapshot`: due, yield and takeover, notDue. -/
theorem test_boundaryCountsAndTakesTheSnapshot : (
  let s0 := allUsable (chipOf [(.periodCfg_tCtl, 0, 40), (.periodCfg_sheafRate, 0, 1), (.imageStat_appliedValid, 0, 1), (.modeStat_mode, 0, 1), (.pllStat_locked, 0, 1), (.pllStat_synthDown, 0, 0), (.pllStat_holdover, 0, 0), (.ptpStat_locked, 0, 1), (.eeCfg_enabled, 5, 1), (.laneStat_ready, 5, 1), (.cellStat_state, 5, 1), (.modeReq_pending, 0, 1), (.ceCfg_active, 3, 1), (.ceCfg_runsOn, 3, 3), (.readyUnit_ce, 0, 8), (.modeStat_quiescent, 0, 0), (.ceCfg_lost, 3, 0), (.periodIndex_index, 0, 0xFFFFFFFF), (.tripCfg_enabled, 4, 1)])
  let s := { s0 with clock := { s0.clock with gridOn := true, b0 := 100, n := 3, tb := 100 + 3 * 20000, started := true, ran := true }
                     modes := { s0.modes with resumeIn := some 2 } }
  let c := { s with clock := { s.clock with n := 4 } }
  [
    s.boundaryDue && s.mode == .commission && !s.halyard.yieldNext && s.sram.upsets == [],
    (let z := { s.wr .modeStat_mode 3 with live := { s.live with waiting := [(4, 1)] }, halyard := { s.halyard with yieldNext := true } }; z.boundaryDue && z.mode == .run) &&
      (let z := { s.wr .modeStat_mode 4 with halyard := { s.halyard with takeNext := true } }; z.boundaryDue && z.mode == .shadow && !z.halyard.probing && z.on .pllStat_locked),
    !c.boundaryDue && after (.periodBoundary 0 []) c == c] : List Bool).all id = true := by decide +kernel

/-- Witnesses of `Obligations.StepsOfThePeriod`: release, inputs, start, overrun, bypassActs, sheaf. -/
theorem test_stepsOfThePeriod : (
  let s0 := allUsable (chipOf [(.periodCfg_tCtl, 0, 40), (.periodCfg_sheafRate, 0, 1), (.imageStat_appliedValid, 0, 1), (.modeStat_mode, 0, 1), (.pllStat_locked, 0, 1), (.pllStat_synthDown, 0, 0), (.pllStat_holdover, 0, 0), (.ptpStat_locked, 0, 1), (.eeCfg_enabled, 5, 1), (.laneStat_ready, 5, 1), (.cellStat_state, 5, 1), (.modeReq_pending, 0, 1), (.ceCfg_active, 3, 1), (.ceCfg_runsOn, 3, 3), (.readyUnit_ce, 0, 8), (.modeStat_quiescent, 0, 0), (.ceCfg_lost, 3, 0), (.periodIndex_index, 0, 0xFFFFFFFF), (.tripCfg_enabled, 4, 1)])
  let s := { s0 with clock := { s0.clock with gridOn := true, b0 := 100, n := 3, tb := 100 + 3 * 20000, started := true, ran := true }
                     modes := { s0.modes with resumeIn := some 2 } }
  let c := { s with clock := { s.clock with n := 4 } }
  let g : Engine := { phase := .ended, late := false, image := { outSlots := [0x10490000], inSlots := [0x10480002], ranges := [(3, 2)] }, outVals := [(0, 65535)] }
  let g := (g.setDm 3 (-5)).setDm 4 9
  let r := c.setEngine 3 g
  [
    let u := after (.engineRelease 0 3) r; (u.engine 3).phase == .released && (u.engine 3).released == [-5, 9] && u.sramHalf 0x10490000 == 65535 && u.rd .ceEstat_marginLast 3 == min ((r.tB - r.phaseNs) / 2) 65535,
    let z : Chip := { (r.setEngine 3 { g with phase := .idle }).sramPutHalf 0x10480002 0xABCD with live := { r.live with setpoints := [(3, 100, 65534)] } };
      z.inPeriod && after (.inputDistributionClose 999) z == z.atTime 999 && let u := after (.inputDistributionClose 1000) z; u.clock.step == 1 && after (.inputDistributionClose 1000) u == u && u.live.setpoints == [] && (u.engine 3).dmAt 100 == -2 && storeGet (u.engine 3).inVals 0 0 == 0xABCD,
    r.engineRuns 3 && !r.engineRuns 2 && let u := after (.engineComputeStart 1000) r; u.clock.step == 2 && (u.engine 3).phase == .running && (u.engine 3).dm == g.dm && u.engine 2 == r.engine 2 && u.regs == r.regs,
    let u := after (.balancingStart r.tB) r; u.clock.step == 3 && (u.engine 3).phase == .stopped && u.rd .ceEstat_overrun 3 == 1 && u.rd .periodStat_computeOverrun == 1,
    let z := { c with arms := { c.arms with commands := [(.bypass, 5)] } }; (after (.balancingStart z.tB) z).rd .cellStat_state 5 == 2,
    let z := { c.wr .modeStat_mode 0 with modes := { c.modes with usable := 32 } }; !z.laneReady 4 && z.laneReady 5 && z.sendsSheaves && z.flaggedSheaves && let u := after (.sheafTransmissionStart z.tS true) z; u.clock.step == 5 && u.clock.windowOpen && u.rd .periodStat_halyardOverrun == 1 && (u.lane 4).sheaf == none && ((u.lane 5).sheaf.any fun f => f.blockReq && f.stamps.isEmpty)] : List Bool).all id = true := by decide +kernel

/-- Witnesses of `Obligations.StepsOfThePeriod`: rests, engineRests, close. -/
theorem test_stepsOfThePeriod_2 : (
  let s0 := allUsable (chipOf [(.periodCfg_tCtl, 0, 40), (.periodCfg_sheafRate, 0, 1), (.imageStat_appliedValid, 0, 1), (.modeStat_mode, 0, 1), (.pllStat_locked, 0, 1), (.pllStat_synthDown, 0, 0), (.pllStat_holdover, 0, 0), (.ptpStat_locked, 0, 1), (.eeCfg_enabled, 5, 1), (.laneStat_ready, 5, 1), (.cellStat_state, 5, 1), (.modeReq_pending, 0, 1), (.ceCfg_active, 3, 1), (.ceCfg_runsOn, 3, 3), (.readyUnit_ce, 0, 8), (.modeStat_quiescent, 0, 0), (.ceCfg_lost, 3, 0), (.periodIndex_index, 0, 0xFFFFFFFF), (.tripCfg_enabled, 4, 1)])
  let s := { s0 with clock := { s0.clock with gridOn := true, b0 := 100, n := 3, tb := 100 + 3 * 20000, started := true, ran := true }
                     modes := { s0.modes with resumeIn := some 2 } }
  let c := { s with clock := { s.clock with n := 4 } }
  [
    after (.inputDistributionClose 999) c == c.atTime 999 && after (.engineComputeStart 999) c == c.atTime 999 && after (.balancingStart (c.tB - 1)) c == c.atTime (c.tB - 1) && after (.sheafTransmissionStart (c.tS - 1) true) c == c.atTime (c.tS - 1) && after (.sheafWindowClose 19499 true) c == c.atTime 19499,
    (c.engine 3).phase != .ended && after (.engineRelease 0 3) c == c,
    let u := after (.sheafWindowClose 19500 true) { c with clock := { c.clock with windowOpen := true } }; !u.clock.windowOpen && u.rd .periodStat_sheafLate == 1] : List Bool).all id = true := by decide +kernel

/-- Witnesses of `Obligations.CommitsAndReloadsOfTheReferenceSet`: commit, commitLate, reload, reloadNone, halted, quiescent. -/
theorem test_commitsAndReloadsOfTheReferenceSet : (
  let s0 := allUsable (chipOf [(.periodCfg_tCtl, 0, 40), (.periodCfg_sheafRate, 0, 1), (.imageStat_appliedValid, 0, 1), (.modeStat_mode, 0, 1), (.pllStat_locked, 0, 1), (.pllStat_synthDown, 0, 0), (.pllStat_holdover, 0, 0), (.ptpStat_locked, 0, 1), (.eeCfg_enabled, 5, 1), (.laneStat_ready, 5, 1), (.cellStat_state, 5, 1), (.modeReq_pending, 0, 1), (.ceCfg_active, 3, 1), (.ceCfg_runsOn, 3, 3), (.readyUnit_ce, 0, 8), (.modeStat_quiescent, 0, 0), (.ceCfg_lost, 3, 0), (.periodIndex_index, 0, 0xFFFFFFFF), (.tripCfg_enabled, 4, 1)])
  let s := { s0 with clock := { s0.clock with gridOn := true, b0 := 100, n := 3, tb := 100 + 3 * 20000, started := true, ran := true }
                     modes := { s0.modes with resumeIn := some 2 } }
  let c := { s with clock := { s.clock with n := 4 } }
  let cm (s : Chip) : Chip := (s.sramPutWord stagingBase 77).sramPutWord (stagingBase + 4 * 1567) 99
  let set := some [(0, 77), (1567, 99)]
  [
    let z := { cm c with edges := { c.edges with pendingSet := some [] } }; !z.commitLate 0 && let u := after (.eeCommit 0) z; u.rd .eeCommit_pending == 1 && u.edges.pendingSet == set && u.edges.lateSet == none && u.rd .eeStat_superseded == 1,
    let z := cm c; z.tE == 16500 && !z.commitLate 16467 && z.commitLate 16468 && let u := after (.eeCommit 16468) z; u.edges.lateSet == set && u.edges.pendingSet == none && u.rd .eeStat_late == 1 && u.rd .eeStat_superseded == 0,
    let z := { c.wr .eeCommit_pending 1 with edges := { c.edges with pendingSet := some [(0, 77)], lateSet := set } }; !z.engineComputes 6 && after (.edgeReload 16499 [2] []) z == z.atTime 16499 &&
      let u := after (.edgeReload 16500 [2] []) z; u.edges.pendingSet == set && u.edges.lateSet == none && u.rd .eeCommit_pending == 1 && u.rd .periodStat_sortOverrun == 1 && u.stampsOf 6 == [] && u.edges.paused.contains 6 && u.power.queued.getLast? == some (z.clock.b0 + z.clock.n * z.tCtlNs + z.leadNs, u.stampsOf 96) && u.clock.step == 4,
    let u := after (.edgeReload 16500 [] []) c; u.sram == c.sram && u.rd .eeStat_halted == 0 && u.rd .eeCommit_pending == 0,
    let z := { c.wr .dbgStat_unlocked 1 with edges := { c.edges with haltWanted := true } }; let u := after (.edgeReload 16500 [] []) z; u.rd .eeStat_halted == 1 && u.edges.stamps == [],
    let z := c.wr .modeStat_quiescent 1; let z := { z with edges := { z.edges with pendingSet := set } }; let d := z.atTime 16500; after (.edgeReload 16500 [] []) z == { d with clock := { d.clock with step := 4 } }] : List Bool).all id = true := by decide +kernel

/-- Witnesses of `Obligations.IntervalsPlaceTheirStamps`: interval, edge, early. -/
theorem test_intervalsPlaceTheirStamps : (
  let s0 := allUsable (chipOf [(.periodCfg_tCtl, 0, 40), (.periodCfg_sheafRate, 0, 1), (.imageStat_appliedValid, 0, 1), (.modeStat_mode, 0, 1), (.pllStat_locked, 0, 1), (.pllStat_synthDown, 0, 0), (.pllStat_holdover, 0, 0), (.ptpStat_locked, 0, 1), (.eeCfg_enabled, 5, 1), (.laneStat_ready, 5, 1), (.cellStat_state, 5, 1), (.modeReq_pending, 0, 1), (.ceCfg_active, 3, 1), (.ceCfg_runsOn, 3, 3), (.readyUnit_ce, 0, 8), (.modeStat_quiescent, 0, 0), (.ceCfg_lost, 3, 0), (.periodIndex_index, 0, 0xFFFFFFFF), (.tripCfg_enabled, 4, 1)])
  let s := { s0 with clock := { s0.clock with gridOn := true, b0 := 100, n := 3, tb := 100 + 3 * 20000, started := true, ran := true }
                     modes := { s0.modes with resumeIn := some 2 } }
  let c := { s with clock := { s.clock with n := 4 } }
  let st : Stamp := ⟨7, true, 16⟩
  let iv : Chip := { c.setTripIn 4 { pin := true, counts := true } with power := { c.power with trips := (c.setTripIn 4 { pin := true, counts := true }).power.trips, queued := [(60100 + c.leadNs, [st])] } }
  let l := c.leadNs
  [
    let u := after (.intervalStart l) iv; u.power.e == 60100 + l && u.power.begun && u.power.queued == [] && u.rdBit .eeTripStat_cutting 4 && !u.rdBit .eeTripStat_cutting 5 && u.faults.events == [originTripInput 4] && u.power.stampsLeft == [st] && (let w := u.atTime (l + 1); after (.intervalStart (l + 1)) u == w),
    let u := after (.intervalStart l) iv; let v := after (.localEdge (l + 2)) u; u.stampAt st == 8 * u.power.e + 16 && v.channelOn 7 && v.power.stampsLeft == [] && v.regs == u.regs,
    let u := after (.intervalStart l) iv; (after (.localEdge (l + 1)) u).power.stampsLeft == [st] && !(after (.localEdge (l + 1)) u).channelOn 7] : List Bool).all id = true := by decide +kernel

/-- Witnesses of `Obligations.TripInputsCutTheirChannels`: asserted, again, maskEnd, masked, released. -/
theorem test_tripInputsCutTheirChannels : (
  let s := chipOf [(.tripCfg_enabled, 15, 1), (.tripCfg_unblanked, 15, 0), (.tripCfg_polarity, 15, 1), (.tripCfg_filter, 15, 2)]
  let m := s.setTripIn 15 { pin := false, counts := false, maskUntil := 10 }
  let p := s.setTripIn 15 { pin := true, counts := false, maskUntil := 10 }
  let cut (u c : Chip) : Bool := u.rdBit .tripStat_asserted 15 && u.rdBit .eeTripStat_cutting 15 && (u.tripIn 15).counts && u.faults.events == c.faults.events ++ [originTripInput 15]
  [
    cut (after (.tripAsserted 10 15 true 50) m) m && cut (after (.tripAsserted 9 15 true 50) (m.wr .tripCfg_unblanked 1 15)) m,
    after (.tripAsserted 10 15 true 49) m == m.atTime 10 && after (.tripDeasserted 9 15 false 49) p == p.atTime 9 && cut (after (.tripAsserted 10 15 false 50) (m.wr .tripCfg_polarity 0 15)) m && (after (.tripAsserted 10 15 true 50) (m.wrBit .eeTripStat_cutting 15 true)).faults == m.faults && (let z := m.wr .tripCfg_enabled 0 15; let u := after (.tripAsserted 10 15 true 50) z; u.rdBit .tripStat_asserted 15 && agree u z [(.tripStat_asserted, 0)] && u.faults == z.faults),
    cut (after (.tripMaskEnd 10 15) p) p && after (.tripMaskEnd 9 15) p == p.atTime 9,
    let u := after (.tripAsserted 9 15 true 50) m; (u.tripIn 15).pin && !u.rdBit .tripStat_asserted 15 && u.faults == m.faults,
    let u := after (.tripDeasserted 9 15 false 50) p; !(u.tripIn 15).pin && u.rdBit .tripStat_masked 15 && !u.rdBit .tripStat_asserted 15] : List Bool).all id = true := by decide +kernel

/-- Witnesses of `Obligations.CellCommandsAndArmWatches`: commands, timeout, noArm, rotation, spread, precharge. -/
theorem test_cellCommandsAndArmWatches : (
  let s := chipOf [(.cellStat_bypassPending, 95, 1), (.eeCfg_arm, 95, 5), (.periodCfg_lead, 0, 10), (.periodCfg_tCtl, 0, 20), (.armBal_rotationPeriods, 5, 3), (.armStat_rotPtr, 5, 31), (.armStat_pcPhase, 5, 2), (.armPc_pcTimeout, 5, 2)]
  let age (k : Nat) : Chip := s.setCell 95 { s.cell 95 with bypassAge := some k }
  let rot (k : Nat) : Chip := s.setArm 5 { s.arm 5 with rotCount := k, spreadRun := k + 5 }
  [
    (after (.cellSwap 1 95) (after (.cellRelease 0 7) (after (.cellBypass 0 95) s))).arms.commands == [(.bypass, 95), (.release, 7), (.swap, 95)],
    (age 5).bypassSnapshots 95 == 4 && let u := after (.bypassConfirmTimeout 0 95) (age 5); (u.cell 95).bypassReported && u.regs == s.regs && u.faults.events == [originBypass 5] && after (.bypassConfirmTimeout 0 95) u == u && after (.bypassConfirmTimeout 0 95) (age 4) == age 4,
    (after (.bypassConfirmTimeout 0 95) ((age 5).wr .eeCfg_arm 7 95)).faults.events == [originLink 95],
    let u := after (.rotationAdvance 0 5) (rot 3); u.rd .armStat_rotPtr 5 == 0 && (u.arm 5).rotCount == 0 && agree u s [(.armStat_rotPtr, 5)] && after (.rotationAdvance 0 5) (rot 2) == rot 2,
    let u := after (.spreadWatchFire 0 5) (rot 3); u.rd .armStat_spread 5 == 1 && u.faults.events == [originBalance 5] && !(u.arm 5).spreadArmed && after (.spreadWatchFire 0 5) (rot 2) == rot 2,
    let u := after (.prechargeTimeout 200000000 5) s; u.rd .armStat_pcTimeout 5 == 1 && u.faults.events == [originPrecharge 5] && (u.arm 5).phaseAt == 200000000 && after (.prechargeTimeout 199999999 5) s == s.atTime 199999999] : List Bool).all id = true := by decide +kernel

/-- Witnesses of `Obligations.GateDriversActAndProtect`: on, ignored, off, rearm, late, uvlo. -/
theorem test_gateDriversActAndProtect : (
  let s := chipOf [(.modeStat_mode, 0, 1), (.gdCfg_src, 6, 2), (.gdCfg_src, 7, 2), (.gdCfg_enabled, 6, 1), (.gdCfg_enabled, 7, 1), (.gdCfg_pair, 6, 1), (.gdCfg_src, 1, 1), (.gdCfg_enabled, 1, 1), (.gdCfg_softOff, 6, 3), (.gdDidt_loThr, 6, 5), (.gdDidt_hiThr, 6, 9), (.gdCfg_negUvlo, 1, 1), (.gdCfg_drvUvlo, 1, 1), (.idbStat_linkUp, 0, 1), (.shroudStat_drvDisable, 0, 0)]
  let on := s.wr .gdStat_staticOn 1 6
  let lat := s.wr .gdStat_shortLatched 1 6
  [
    let u := after (.gdStaticOn 0 6) s; u.rd .gdStat_staticOn 6 == 1 && agree u s [(.gdStat_staticOn, 6)],
    after (.gdStaticOn 0 1) s == s.count .gdCount_cmdIgnored && after (.gdStaticOff 0 1) s == s.count .gdCount_cmdIgnored && (after (.gdStaticOn 0 6) (s.wr .modeStat_mode 0)).rd .gdCount_cmdIgnored == 1,
    let u := after (.gdStaticOff 0 6) on; u.rd .gdStat_staticOn 6 == 0,
    let u := after (.gdRearm 0 6 49) lat; u.rd .gdStat_shortLatched 6 == 0 && (after (.gdRearm 0 6 50) lat) == lat.count .gdCount_cmdIgnored,
    let u := after (.gdStampsLate 0 1) s; (u.driver 1).nextLate && u.rd .gdCount_lateStamps == 1 && u.faults.events == [originIdbLate],
    let u := after (.gdUvloEntry 0 1 true 2499) s; after (.gdUvloEntry 0 1 true 2500) s == s && u.rd .gdStat_uvloNeg 1 == 1 && u.rd .gdStat_uvloCount 1 == 1 && u.faults.events == [originUvlo 1] && (let v := after (.gdUvloEntry 0 1 false 12999) u; v.rd .gdStat_uvloPos 1 == 1 && v.rd .gdStat_uvloCount 1 == 1 && let w := after (.gdUvloExit 0 1 13801 2801 100000) v; after (.gdUvloExit 0 1 13800 2801 100000) v == v && after (.gdUvloExit 0 1 13801 2801 99999) v == v && (w.driver 1).untilNextE && w.rd .gdStat_uvloPos 1 == 0 && w.rd .gdStat_uvloNeg 1 == 0)] : List Bool).all id = true := by decide +kernel

/-- Witnesses of `Obligations.GateDriversActAndProtect`: short, blank, interlock. -/
theorem test_gateDriversActAndProtect_2 : (
  let s := chipOf [(.modeStat_mode, 0, 1), (.gdCfg_src, 6, 2), (.gdCfg_src, 7, 2), (.gdCfg_enabled, 6, 1), (.gdCfg_enabled, 7, 1), (.gdCfg_pair, 6, 1), (.gdCfg_src, 1, 1), (.gdCfg_enabled, 1, 1), (.gdCfg_softOff, 6, 3), (.gdDidt_loThr, 6, 5), (.gdDidt_hiThr, 6, 9), (.gdCfg_negUvlo, 1, 1), (.gdCfg_drvUvlo, 1, 1), (.idbStat_linkUp, 0, 1), (.shroudStat_drvDisable, 0, 0)]
  let on := s.wr .gdStat_staticOn 1 6
  let both := on.wr .gdStat_staticOn 1 7
  [
    on.gdOn 6 && let u := after (.gdShortDetect 0 6 91) on; u.rd .gdStat_shortLatched 6 == 1 && u.rd .gdStat_staticOn 6 == 0 && u.rd .gdStat_shortCount 6 == 1 && u.faults.events == [originShort 6] && (u.driver 6).softOff == some 600 && (let z := (on.setDriver 6 { on.driver 6 with disabledAt := some 0 }).wr .shroudStat_drvDisable 1; !z.gdOn 6 && z.gdCompared 6 && (after (.gdShortDetect 0 6 91) z).rd .gdStat_shortLatched 6 == 1) && (let v := after (.gdSoftOffEnd 600 6) u; (v.driver 6).softOff == none && v.regs == u.regs) && after (.gdSoftOffEnd 599 6) u == u.atTime 599,
    let z := on.setDriver 6 { on.driver 6 with blankUntil := 50 }; after (.gdShortDetect 49 6 90) z == z.atTime 49 && (after (.gdShortDetect 49 6 91) z).rd .gdStat_shortLatched 6 == 1 && (after (.gdShortDetect 50 6 51) z).rd .gdStat_shortLatched 6 == 1 && (after (.gdBlankEnd 50 6 51) z).rd .gdStat_shortLatched 6 == 1 && after (.gdBlankEnd 49 6 51) z == z.atTime 49 && after (.gdBlankEnd 50 6 50) z == z.atTime 50,
    both.gdPair 7 == some 6 && both.pairConflict 6 && let u := after (.gdInterlock 0 7) both; (u.driver 6).interlockCut && (u.driver 7).interlockCut && u.rd .gdStat_interlock 6 == 1 && u.rd .gdStat_interlock 7 == 1 && u.rd .gdStat_staticOn 7 == 0 && u.faults.events == [originGdInterlock]] : List Bool).all id = true := by decide +kernel

/-- Witnesses of `Obligations.LanesLockResetAndTakeBales`: lock, reset, lost, timeout, badIdle, idle. -/
theorem test_lanesLockResetAndTakeBales : (
  let s := chipOf [(.pllStat_synthDown, 0, 0), (.pllStat_locked, 0, 1), (.laneStat_state, 99, 1), (.laneCfg_enabled, 99, 1), (.imageStat_appliedValid, 0, 1), (.laneStat_farRxLocked, 99, 1), (.laneStat_farLoopTimed, 99, 1), (.eeCfg_enabled, 4, 1), (.eeCfg_laneSel, 4, 2), (.laneCfg_enabled, 3, 1)]
  let s := { s with clock := { s.clock with started := true } }
  let lk := s.setLane 99 { s.lane 99 with rx := lockedRx }
  let rd := ((lk.wr .laneStat_state 3 99).wr .laneStat_ready 1 99).wr .cellStat_state 0 4
  let idle : LineBlock := { payload := [0x1E, 3, 0, 0, 0, 0, 0, 0] }
  let down (u : Chip) : Bool := !u.laneReady 99 && u.linkState 99 == .hunt && u.rd .laneLatency_valid 99 == 0 && u.rd .resetCause_lane == 1 && !(u.lane 99).locked && (u.lane 99).baleNext == none && u.rd .cellStat_state 4 == 3
  let hunts (bad : Nat) : Chip := s.setLane 99 { s.lane 99 with rx := { seen := 63, bad := bad } }
  let line := lineOf [idle]
  let off := lineOf [{ idle with h0 := false, h1 := false }]
  let invalid (k : Nat) (u : Chip) : Chip := u.setLane 99 { u.lane 99 with rx := { lockedRx with recent := List.replicate k true } }
  [
    s.lanesRun && let u := after (.laneBlockLock 0 99 line) (hunts 2); (u.lane 99).locked && u.linkState 99 == .measure && !((after (.laneBlockLock 0 99 off) (hunts 2)).lane 99).locked && ((after (.laneBlockLock 0 99 off) (hunts 1)).lane 99).locked && (after (.laneBlockLock 0 99 line) ((hunts 0).wr .laneStat_farLoopTimed 0 99)).linkState 99 == .hunt,
    rd.cellOfLane 99 == some 4 && down (after (.laneResetRequest 0 99) rd),
    let z := invalid 16 rd; let u := after (.laneLossOfLock 0 99 [] false) z; down u && u.rd .laneStat_lockLosses 99 == 1 && down (after (.laneLossOfLock 0 99 [] true) rd) && (let z := invalid 15 rd; after (.laneLossOfLock 0 99 [] false) z == z) && ([Instr.laneLossOfLock 0 99 off false, .laneBlockLock 0 99 off, .idleBlockRx 0 99 off].all fun op => down (after op (invalid 15 rd))),
    let z := lk.wr .laneStat_farLoopTimed 0 99; let u := after (.loopTimedTimeout 0 99) z; u.linkState 99 == .held && u.rd .laneStat_heldReason 99 == 3 && u.faults.events == [originLink 99],
    let u := after (.idleBlockRx 0 99 off) lk; u.rd .laneErrs_invalidHeaders 99 == 1 && agree u lk [(.laneErrs_invalidHeaders, 99)],
    let z := (lk.wr .laneStat_farLoopTimed 0 99).wr .laneStat_farRxLocked 0 99; let line := lineOf [{ idle with h2 := true }]; let u := after (.idleBlockRx 0 99 line) z; u.rd .laneStat_farRxLocked 99 == 1 && u.rd .laneStat_farLoopTimed 99 == 1 && u.rd .laneStat_farBlock 99 == 0 && u.linkState 99 == .measure && (u.lane 99).lastBlock && (after (.idleBlockRx 0 99 (lineOf (List.replicate 2 { idle with h2 := true }))) z).rd .laneStat_farBlock 99 == 1] : List Bool).all id = true := by decide +kernel

/-- Witnesses of `Obligations.LanesLockResetAndTakeBales`: badBale, lateBale, goodBale. -/
theorem test_lanesLockResetAndTakeBales_2 : (
  let s := chipOf [(.pllStat_synthDown, 0, 0), (.pllStat_locked, 0, 1), (.laneStat_state, 99, 1), (.laneCfg_enabled, 99, 1), (.imageStat_appliedValid, 0, 1), (.laneStat_farRxLocked, 99, 1), (.laneStat_farLoopTimed, 99, 1), (.eeCfg_enabled, 4, 1), (.eeCfg_laneSel, 4, 2), (.laneCfg_enabled, 3, 1)]
  let s := { s with clock := { s.clock with started := true } }
  let lk := s.setLane 99 { s.lane 99 with rx := lockedRx }
  let rd := ((lk.wr .laneStat_state 3 99).wr .laneStat_ready 1 99).wr .cellStat_state 0 4
  let bale (v : Nat) : List LineBlock :=
    let body : List LineBlock := [controlBlock false [0x66, 1, 0, 8, 0], dataBlock false [5, 0], dataBlock false [], dataBlock false []]
    body ++ [controlBlock false (0x87 :: leBytes 4 (crc32 (body.flatMap (·.payload)) + v))]
  [
    let u := after (.baleReceived 0 99 (lineOf (bale 1)) false) rd; u.rd .linkBale_badBales 99 == 1 && u.faults.events == [originLink 99] && (u.lane 99).baleNext == none,
    let u := after (.baleReceived 0 99 (lineOf (bale 0)) true) rd; u.rd .linkBale_lateBales 99 == 1 && u.rd .periodStat_baleLate == 1 && u.faults.events == [originLink 99] && (u.lane 99).baleNext == none,
    let u := after (.baleReceived 0 99 (lineOf (bale 0)) false) rd; (u.lane 99).baleNext == some (readBale (bale 0)) && (readBale (bale 0)).vCap == 5 && (readBale (bale 0)).bypassClosed && u.faults == rd.faults] : List Bool).all id = true := by decide +kernel

/-- The line of an ECHO_RSP block with a tag and a hold time, on a Halyard lane or not. -/
def response (halyard : Bool) (tag hold : Nat) : List Bool :=
  let b := controlBlock false ([0x33, BitVec.ofNat 8 tag] ++ leBytes 3 hold)
  lineOf [if halyard then { b with rest := HalHeader.rest {} } else b]

/-- Witnesses of `Obligations.EchoesAndQualityOfLanes`: closed, next, again, readySend, unknown, counts. -/
theorem test_echoesAndQualityOfLanes : (
  let s := allUsable (chipOf [(.pllStat_synthDown, 0, 0), (.laneStat_state, 3, 2), (.laneStat_state, 97, 2), (.laneCfg_driftLimit, 3, 10), (.periodCfg_lead, 0, 10), (.halCfg_dMax, 0, 1)])
  let s := { s with clock := { s.clock with started := true } }
  let l (n : Nat) (f : LaneState → LaneState) (s : Chip) : Chip := s.setLane n { f (s.lane n) with rx := lockedRx }
  let got (k : Nat) : Chip := l 3 (fun x => { x with echoGot := List.replicate 63 100, echoSent := [(7, 50, 0)], spreadFails := k }) s
  let rd := (l 3 (fun x => { x with echoSent := [(0, 50, 0)], driftOut := 7 }) s).wr .laneStat_state 3 3
  [
    let z := { s with clock := { s.clock with windowOpen := true } }; after (.echoRequestSend 0 3 50) z == z,
    let u := after (.echoRequestSend 0 3 50) s; (u.lane 3).echoTag == 1 && storeGet (u.lane 3).echoSent 0 (0, 0) == (50, 0) && u.regs == s.regs,
    let z := l 3 (fun x => { x with echoLost := [9, 4], echoTag := 64 }) s; let u := after (.echoRequestSend 0 3 50) z; (u.lane 3).echoTag == 64 && (u.lane 3).echoLost == [4] && storeGet (u.lane 3).echoSent 9 (0, 0) == (50, 0),
    (let u := after (.echoRequestSend 0 3 60) rd; storeGet (u.lane 3).echoSent 0 (0, 0) == (60, 0) && u.regs == rd.regs && ((after (.echoRequestSend 0 3 70) u).lane 3).echoTag == 1),
    after (.echoResponseRx 0 3 (response false 8 0) 150) (got 0) == ((got 0).receive 3 (response false 8 0)).2 && ((got 0).receive 3 (response false 8 0)).1.length == 1,
    after (.echoResponseRx 0 3 (response false 7 0) 2000051) (got 0) == ((got 0).receive 3 (response false 7 0)).2 && (let u := after (.echoResponseRx 0 3 (response false 7 0) 2000050) (got 0); u != ((got 0).receive 3 (response false 7 0)).2),
    let z := l 3 (fun x => { x with echoSent := [(7, 50, 0)], lostRun := 5 }) s; let u := after (.echoResponseRx 0 3 (response false 7 10) 160) z; (u.lane 3).echoGot == [100] && (u.lane 3).lostRun == 0 && u.rd .laneRtt_loopDelay 3 == 100 && agree u z [(.laneRtt_loopDelay, 3)]] : List Bool).all id = true := by decide +kernel

/-- Witnesses of `Obligations.EchoesAndQualityOfLanes`: fixed, notAdmitted, halyard, spread, drift, lost. -/
theorem test_echoesAndQualityOfLanes_2 : (
  let s := allUsable (chipOf [(.pllStat_synthDown, 0, 0), (.laneStat_state, 3, 2), (.laneStat_state, 97, 2), (.laneCfg_driftLimit, 3, 10), (.periodCfg_lead, 0, 10), (.halCfg_dMax, 0, 1)])
  let s := { s with clock := { s.clock with started := true } }
  let l (n : Nat) (f : LaneState → LaneState) (s : Chip) : Chip := s.setLane n { f (s.lane n) with rx := lockedRx }
  let got (k : Nat) : Chip := l 3 (fun x => { x with echoGot := List.replicate 63 100, echoSent := [(7, 50, 0)], spreadFails := k }) s
  let hl := l 97 (fun x => { x with echoGot := List.replicate 63 100, echoSent := [(7, 50, 0)] }) s
  let rd := (l 3 (fun x => { x with echoSent := [(0, 50, 1)], driftOut := 7 }) s).wr .laneStat_state 3 3
  [
    let u := after (.echoResponseRx 0 3 (response false 7 0) 166) (got 0); u.rd .laneLatency_latency 3 == 50 && u.rd .laneLatency_valid 3 == 1 && (got 0).laneAdmits 3 50 && u.linkState 3 == .ready && u.laneReady 3 && u.faults == s.faults,
    let z := (got 0).wr .periodCfg_lead 1; let u := after (.echoResponseRx 0 3 (response false 7 0) 166) z; u.linkState 3 == .held && u.rd .laneStat_heldReason 3 == 1 && u.faults.events == [originLink 3],
    let u := after (.echoResponseRx 0 97 (response true 7 0) 150) hl; hl.laneAdmits 97 50 && u.linkState 97 == .measure && (storeGet u.halyard.ids 97 {}).nonce.length == 16,
    let u := after (.echoResponseRx 0 3 (response false 7 0) 167) (got 0); (u.lane 3).echoGot == [] && (u.lane 3).echoTag == 0 && u.linkState 3 == .measure && (let v := after (.echoResponseRx 0 3 (response false 7 0) 167) (got 3); v.linkState 3 == .held && v.rd .laneStat_heldReason 3 == 2),
    let z := (rd.wr .laneLatency_latency 50 3).wr .periodIndex_index 1; z.driftFollows 3 1 && let u := after (.echoResponseRx 0 3 (response false 0 0) 161) z; u.rd .laneRtt_drift 3 == 1 && u.faults.events == [originLink 3] && !(u.lane 3).driftArmed && (after (.echoResponseRx 0 3 (response false 0 0) 160) z).rd .laneRtt_drift 3 == 0,
    let z (k : Nat) := l 3 (fun x => { x with echoSent := [(7, 50, 0)], lostRun := k }) s; let u := after (.echoTimeout 250007 3 7) (z 63); after (.echoTimeout 250006 3 7) (z 63) == (z 63).atTime 250006 && u.linkState 3 == .held && u.rd .laneStat_heldReason 3 == 4 && u.faults.events == [originLink 3] && (let v := after (.echoTimeout 250007 3 7) (z 62); (v.lane 3).echoLost == [7] && (v.lane 3).lostRun == 63 && v.regs == s.regs)] : List Bool).all id = true := by decide +kernel

/-- Witnesses of `Obligations.EchoesAndQualityOfLanes`: answer. -/
theorem test_echoesAndQualityOfLanes_3 : (
  let s := allUsable (chipOf [(.pllStat_synthDown, 0, 0), (.laneStat_state, 3, 2), (.laneStat_state, 97, 2), (.laneCfg_driftLimit, 3, 10), (.periodCfg_lead, 0, 10), (.halCfg_dMax, 0, 1)])
  let s := { s with clock := { s.clock with started := true } }
  let l (n : Nat) (f : LaneState → LaneState) (s : Chip) : Chip := s.setLane n { f (s.lane n) with rx := lockedRx }
  [
    let z := l 97 id s; let u := after (.echoRequestRx 0 1 255) z; u.regs == z.regs && ((u.lane 97).echoReply.any fun p => p.1 == 255)] : List Bool).all id = true := by decide +kernel

/-- Witnesses of `Obligations.EchoesAndQualityOfLanes`: fom, scan, interval, eye, readapt, readaptEnd. -/
theorem test_echoesAndQualityOfLanes_4 : (
  let s := chipOf [(.laneCfg_qualityThreshold, 99, 20), (.laneStat_state, 99, 1)]
  let q := s.wr .laneCfg_qualityMode 1 99
  let h (w : Leave) (s : Chip) : Chip := { s with thermal := { s.thermal with grants := [{ what := w, since := 0 }] } }
  [
    let u := after (.fomUpdate 0 99 19) s; u.rd .laneQuality_fom 99 == 19 && (u.lane 99).fomBelow && u.faults.events == [originLink 99] && (after (.fomUpdate 0 99 18) u).faults == u.faults && (after (.fomUpdate 0 99 20) s).faults == s.faults,
    let u := after (.eyeScanRequest 0 99) q; (u.waitsLeave (.eyeScan 99) || u.holdsLeave (.eyeScan 99)) && after (.eyeScanRequest 0 99) s == s,
    let u := after (.eyeScanInterval 0 99) (q.wr .laneCfg_scanInterval 1 99); u.waitsLeave (.eyeScan 99) || u.holdsLeave (.eyeScan 99),
    let z := h (.eyeScan 99) q; let u := after (.eyeScanComplete 0 99 19 33) z; u.rd .laneQuality_eyeWidth 99 == 19 && u.rd .laneQuality_eyeHeight 99 == 33 && u.rd .laneQuality_scanValid 99 == 1 && !u.holdsLeave (.eyeScan 99) && u.faults.events == [originLink 99] && (after (.eyeScanComplete 0 99 20 33) z).faults == z.faults && (let y := h (.eyeScan 99) s; let v := after (.eyeScanComplete 0 99 19 33) y; v.rd .laneQuality_scanValid 99 == y.rd .laneQuality_scanValid 99 && v.faults == y.faults),
    let u := after (.readaptRequest 0 99) s; (u.waitsLeave (.readapt 99) || u.holdsLeave (.readapt 99)) && (let z := s.wr .laneStat_state 3 99; after (.readaptRequest 0 99) z == z),
    let u := after (.readaptComplete 0 99) (h (.readapt 99) s); !u.holdsLeave (.readapt 99) && u.lanes == s.lanes] : List Bool).all id = true := by decide +kernel

/-- Witnesses of `Obligations.TemperaturesAreEvaluated`: notApplied, declared, written, deadline, retry, reef. -/
theorem test_temperaturesAreEvaluated : (
  let s := chipOf [(.idbStat_linkUp, 0, 1), (.imageStat_appliedValid, 0, 1), (.modeStat_mode, 0, 3), (.thSensor_enabled, 3, 1), (.tsCfg_kind, 3, 1), (.tsCfg_param, 3, 16384), (.thLimA_tShut, 0, 1600), (.thLimA_tMax, 0, 1300), (.flTemp_flashSensor, 0, 3), (.flTemp_inRange, 0, 1)]
  let held (u : Chip) : Bool := u.mode == .safeHold && u.rd .modeStat_holdCause == 3 && u.wiresAsserted && u.rd .fcStat_reaction == flag HoldCause.thermal.isSystem && u.rd .shroudStat_mastConsent == 0 && u.rd .eeStat_halted == 0 && u.rd .gdStat_staticOn 7 == 0 && u.rd .fcStat_aliveAFrozen == 1 && u.rd .fcStat_aliveBFrozen == 1 && u.rd .delibStat_windowOpen == 0 && u.rd .thStat_shutdownPending == 0 && u.faults.events.getLast? == some originTempShutdown
  let raw (v : SensorReading) : List SensorReading := [.open_, .open_, .open_, v]
  let p : Chip := { s.wr .thStat_shutdownPending 1 with thermal := { s.thermal with records := [{}], shutRun := 1 } }
  let h : Chip := { (p.wr .modeStat_mode 5).wr .thStat_recordPending 1 with storage := { s.storage with written := [] } }
  let q (u : Chip) : Bool := u.storage.jobs.any fun j => j.1 == .shutdown
  [
    after (.thermalEvaluation 9999999 []) s == s.atTime 9999999 && (let z := s.wr .idbStat_linkUp 0; let u := after (.thermalEvaluation 10000000 (List.replicate 22 (.value 99))) z; u.thermal.mirror == z.temperatureWords (List.replicate 22 (.value 99)) && u.rd .thRead_reading 3 == 0),
    let z : Chip := { (((((s.wr .tsCfg_kind 1 4).wr .tsCfg_param 16384 4).wr .tsCfg_kind 1 5).wr .thSensor_enabled 1 4).wr .thSensor_enabled 1 5) with thermal := p.thermal };
      let u := after (.thermalEvaluation 25000000 (raw (.diode 70240) ++ [.diode 95520, .shorted])) z;
      u.rd .thStat_shutdownPending == 1 && q u && u.rd .thRead_valid 3 == 1 && u.rd .thRead_reading 3 == 20 && u.rd .thRead_above 3 == 0 && u.rd .thRead_above 4 == 1 && (u.sensor 3).inside && !(u.sensor 4).inside && u.rd .flTemp_inRange == 1 && u.thermal.evalAt == 20000000 && u.rd .thRead_valid 5 == 0 && u.rd .thRead_broken 5 == 1 && u.rd .thRead_brokenReason 5 == 2,
    let z : Chip := { p with thermal := { p.thermal with records := [] }, storage := { p.storage with written := [.shutdown] } }; let u := after (.shutdownRecordWritten 5) z; u.rd .thStat_recordWritten == 1 && u.rd .thStat_recordPending == 0 && held u &&
      (after (.shutdownRecordWritten 5) { z with thermal := p.thermal }).regs == z.regs,
    held (after (.shutdownDeadline 3000000) p) && after (.shutdownDeadline 2999999) p == p.atTime 2999999,
    let u := after (.shutdownRecordRetry 1000000000) h; q u && u.regs == h.regs && !q (after (.shutdownRecordRetry 999999999) h),
    let z : Chip := { (s.wr .grStat_reefForced 1).wr .grStat_reefLevel 3 with thermal := { s.thermal with calmFrom := some 1, reefOwn := 2 } }; let u := after (.reefForcedClear 60000000001) z; u.rd .grStat_reefForced == 0 && u.rd .grStat_reefLevel == 2 && agree u z [(.grStat_reefForced, 0), (.grStat_reefLevel, 0)] && after (.reefForcedClear 60000000000) z == z.atTime 60000000000] : List Bool).all id = true := by decide +kernel

/-- Witnesses of `Obligations.GranaryGrantsAndReadyIsWatched`: granted, full, third, returned, starved, ready. -/
theorem test_granaryGrantsAndReadyIsWatched : (
  let s := chipOf [(.grStat_headroom, 0, 100), (.grPower_granted, 0, 1600), (.grClass_maxWait, 0, 3), (.modeStat_mode, 0, 3), (.idbStat_linkUp, 0, 1)]
  let g (l : List Leave) (s : Chip) : Chip := { s with thermal := { s.thermal with grants := l.map fun w => { what := w, since := 0 } } }
  let qd : Chip := { s with thermal := { s.thermal with queue := [{ what := .metrologySave, since := 7 }] } }
  [
    let u := after (.granaryRequest 5 (.slice 200)) (g [.slice 1] s); u.holdsLeave (.slice 200) && u.thermal.queue == [] && u.rd .grPower_granted == 2000 && u.rd .grCount_grants == 1,
    let z := s.wr .grPower_granted 1601; let u := after (.granaryRequest 5 (.slice 200)) z; u.waitsLeave (.slice 200) && u.rd .grPower_granted == 1601,
    let u := after (.granaryRequest 5 (.slice 200)) (g [.slice 1, .slice 2] s); u.waitsLeave (.slice 200),
    let z := g [.metrologySave] s; let u := after (.granaryReturn 5 .metrologySave) z; !u.holdsLeave .metrologySave && u.rd .grPower_granted == 1300 && after (.granaryReturn 5 .imageCheck) z == z.atTime 5,
    let u := after (.granaryStarved 3000008 .metrologySave) qd; u.thermal.queue == [{ what := .metrologySave, since := 7, starved := true }] && u.rd .grCount_starved == 1 && u.faults.events == [originGranary] && agree u qd [(.grCount_starved, 0)] && after (.granaryStarved 3000007 .metrologySave) qd == qd.atTime 3000007,
    let u := after (.holdReadyChange 5 13300) s; u.rd .huStat_ready == 1 && u.rd .huStat_holdMv == 13300 && u.thermal.readyClearFrom == none && (let v := after (.holdReadyChange 6 13299) u; v.rd .huStat_ready == 0 && v.rd .huStat_holdMv == 13299 && v.thermal.readyClearFrom == some 6)] : List Bool).all id = true := by decide +kernel

/-- Witnesses of `Obligations.GranaryGrantsAndReadyIsWatched`: notAsked, notReady. -/
theorem test_granaryGrantsAndReadyIsWatched_2 : (
  let s := chipOf [(.grStat_headroom, 0, 100), (.grPower_granted, 0, 1600), (.grClass_maxWait, 0, 3), (.modeStat_mode, 0, 3), (.idbStat_linkUp, 0, 1)]
  [
    let z := s.wr .laneStat_state 3 99; !z.mayAsk (.readapt 99) && after (.granaryRequest 5 (.readapt 99)) z == z.atTime 5 && !s.mayAsk (.eyeScan 99) && after (.granaryRequest 5 (.eyeScan 99)) s == s.atTime 5 && s.mayAsk (.slice 200),
    let u := after (.holdupReadyTimeout 10000000000) s; u.thermal.readyReported && u.faults.events == [originCharger] && u.regs == s.regs && after (.holdupReadyTimeout 9999999999) s == s.atTime 9999999999] : List Bool).all id = true := by decide +kernel

/-- The point in the period at which a slice of a kind begins and its load comes back. -/
def pointOf (kind : Nat) (s : Chip) : Chip :=
  { s with clock := { s.clock with gridOn := true, n := 1, step := if kind = 1 then 0 else 4, tb := s.tE + 1500 } }

/-- Witnesses of `Obligations.SliceCyclesBeginTheirSlices`: engine, late, edge, spare, compare, pcs. -/
theorem test_sliceCyclesBeginTheirSlices : (
  let s := allUsable (chipOf [(.periodCfg_tCtl, 0, 40), (.grStat_headroom, 0, 100), (.imageStat_appliedValid, 0, 1), (.modeStat_mode, 0, 3), (.ceCfg_active, 2, 1), (.ceCfg_runsOn, 2, 2), (.ceCfg_runsOn, 0, 0), (.eeEstat_standFor, 100, 127), (.eeEstat_standFor, 101, 127), (.sltCfg_enabled, 0, 1), (.sltCfg_cyclePeriod, 0, 10), (.laneCfg_enabled, 99, 1), (.eeCfg_enabled, 95, 1), (.secStat_idReady, 0, 1), (.dbgStat_challengeOpen, 0, 1), (.readyUnit_ce, 0, 0xFFFFFF)])
  let at_ (i : Nat) (s : Chip) : Chip := { pointOf (instKind i) s with slices := if trackOf (instKind i) = 0 then { s.slices with queue0 := [i, 5] } else { s.slices with queue1 := [i, 5] } }
  let begun (c u : Chip) (i : Nat) : Bool := c.sliceNext i && (c.inPlace i || (c.spareFor i).isSome) && u.sliceQueue (trackOf (instKind i)) == [5] && (u.sliceRun (trackOf (instKind i))).any fun r => r.inst == i && r.began == 9 && !r.done && !r.again && r.carrier == (if c.inPlace i then none else c.spareFor i)
  let ok (op : Instr) (i : Nat) : Bool := begun (at_ i s) (after op (at_ i s)) i && (let z := (at_ i s).wr .grPower_granted 2000; let u := after op z; u.sliceQueue (trackOf (instKind i)) == [i, 5] && u.sliceRun (trackOf (instKind i)) == none && u.waitsLeave (.slice i))
  [
    !(at_ 130 s).inPlace 130 && ok (.ceSliceHandover 9 2) (sliceInst 1 2) && ok (.ceSliceHandover 9 23) (sliceInst 1 23),
    let z := (at_ 130 s).setEngine 2 { late := true }; (after (.ceSliceHandover 9 2) z).slices == z.slices,
    ok (.eeSliceHandover 9 95) (sliceInst 2 95),
    ok (.eeSSlice 9 1) (sliceInst 3 1),
    ok (.compareUnitTest 9) (sliceInst 4 0),
    ok (.pcsSliceHandover 9 99) (sliceInst 5 99) && ok (.pcsSliceHandover 9 101) (sliceInst 6 1)] : List Bool).all id = true := by decide +kernel

/-- Witnesses of `Obligations.SliceCyclesBeginTheirSlices`: security, vault, cycle, cycleLate. -/
theorem test_sliceCyclesBeginTheirSlices_2 : (
  let s := allUsable (chipOf [(.periodCfg_tCtl, 0, 40), (.grStat_headroom, 0, 100), (.imageStat_appliedValid, 0, 1), (.modeStat_mode, 0, 3), (.ceCfg_active, 2, 1), (.ceCfg_runsOn, 2, 2), (.ceCfg_runsOn, 0, 0), (.eeEstat_standFor, 100, 127), (.eeEstat_standFor, 101, 127), (.sltCfg_enabled, 0, 1), (.sltCfg_cyclePeriod, 0, 10), (.laneCfg_enabled, 99, 1), (.eeCfg_enabled, 95, 1), (.secStat_idReady, 0, 1), (.dbgStat_challengeOpen, 0, 1), (.readyUnit_ce, 0, 0xFFFFFF)])
  let at_ (i : Nat) (s : Chip) : Chip := { pointOf (instKind i) s with slices := if trackOf (instKind i) = 0 then { s.slices with queue0 := [i, 5] } else { s.slices with queue1 := [i, 5] } }
  let begun (c u : Chip) (i : Nat) : Bool := c.sliceNext i && (c.inPlace i || (c.spareFor i).isSome) && u.sliceQueue (trackOf (instKind i)) == [5] && (u.sliceRun (trackOf (instKind i))).any fun r => r.inst == i && r.began == 9 && !r.done && !r.again && r.carrier == (if c.inPlace i then none else c.spareFor i)
  let ok (op : Instr) (i : Nat) : Bool := begun (at_ i s) (after op (at_ i s)) i && (let z := (at_ i s).wr .grPower_granted 2000; let u := after op z; u.sliceQueue (trackOf (instKind i)) == [i, 5] && u.sliceRun (trackOf (instKind i)) == none && u.waitsLeave (.slice i))
  [
    ok (.securitySlice 9) (sliceInst 8 0),
    let u := after (.securitySlice 9) (at_ (sliceInst 8 0) s); u.rd .secStat_vaultClear == 1 && u.rd .secStat_idReady == 0 && u.rd .dbgStat_challengeOpen == 0 && u.security.rederiving,
    let z : Chip := { s with slices := { s.slices with nextStart := some 9, lateSeen := true } }; let u := after (.sliceCycleStart 9) z; u.slices.cycleFrom == 9 && !u.slices.lateSeen && u.slices.nextStart == some 10000009 && u.slices.queue0 == z.cycleTrack0.filter (fun i => z.inPlace i || (z.spareFor i).isSome) && u.slices.queue0 != [] && u.rd .sltStat_running == 1 && after (.sliceCycleStart 8) z == z.atTime 8,
    let z : Chip := { s.wr .sltStat_running 1 with slices := { s.slices with nextStart := some 9 } }; let u := after (.cycleLate 9) z; u.rd .sltStat_cycleLate == 1 && u.slices.lateSeen && u.faults.events == [originSliceTest] && agree u z [(.sltStat_cycleLate, 0)]] : List Bool).all id = true := by decide +kernel

/-- Witnesses of `Obligations.SlicesJudgeRepeatAndRetire`: equal, inPlace, repeat, retire, back, backEngine. -/
theorem test_slicesJudgeRepeatAndRetire : (
  let s := allUsable (chipOf [(.periodCfg_tCtl, 0, 40), (.grStat_headroom, 0, 100), (.imageStat_appliedValid, 0, 1), (.modeStat_mode, 0, 3), (.sltCfg_enabled, 0, 1), (.gdCfg_enabled, 7, 1), (.laneCfg_enabled, 99, 1), (.laneStat_ready, 99, 1), (.ceCfg_runsOn, 4, 23), (.sltStat_running, 0, 1)])
  let s := { s with security := { s.security with signatures := [(2, 9)] } }
  let run (k : Nat) (r : SliceRun) (s : Chip) : Chip := ({ s with thermal := { s.thermal with grants := [{ what := .slice r.inst, since := 0 }] } }).setSliceRun k (some r)
  let r : SliceRun := { inst := sliceInst 2 7, began := 0, carrier := some 1 }
  let failed (u : Chip) : Bool := u.rd .sltCount_failures == 1 && u.rd .sltLast_result == 2 && u.faults.events.contains originSliceTest
  [
    let u := after (.sliceSignatureCompare 30000 0 9) (run 0 r s); u.sliceRun 0 == some { r with done := true } && after (.sliceSignatureCompare 29999 0 9) (run 0 r s) == (run 0 r s).atTime 29999,
    let z := run 0 { r with carrier := none, again := true } s; let u := after (.sliceSignatureCompare 30000 0 9) z; u.sliceRun 0 == none && u.rd .sltCount_transients == 1 && u.rd .sltLast_result == 1,
    let u := after (.sliceSignatureCompare 30000 0 0) (run 0 r s); u.sliceRun 0 == some { r with again := true, began := 30000 } && u.holdsLeave (.slice r.inst),
    let u := after (.sliceSignatureCompare 30000 0 0) (run 0 { r with again := true } s); u.sliceRun 0 == none && failed u && u.rd .sltLast_kind == 2 && u.rd .sltLast_index == 7,
    let z := run 0 { r with done := true, backFrom := 9 } (pointOf 2 s |>.wr .eeEstat_standFor 7 101); let u := after (.sliceHandback 9 0) z; u.sliceRun 0 == none && u.rd .eeEstat_standFor 101 == 127 && after (.sliceHandback 8 0) z == z.atTime 8,
    let z := run 0 { inst := sliceInst 1 4, carrier := some 23, load := 4, done := true, began := 0 } (pointOf 1 s); (after (.sliceHandback 9 0) z).rd .ceCfg_runsOn 4 == 4] : List Bool).all id = true := by decide +kernel

/-- Witnesses of `Obligations.SlicesJudgeRepeatAndRetire`: pcs, wire, supply, powerOn, lockstep. -/
theorem test_slicesJudgeRepeatAndRetire_2 : (
  let s := allUsable (chipOf [(.periodCfg_tCtl, 0, 40), (.grStat_headroom, 0, 100), (.imageStat_appliedValid, 0, 1), (.modeStat_mode, 0, 3), (.sltCfg_enabled, 0, 1), (.gdCfg_enabled, 7, 1), (.laneCfg_enabled, 99, 1), (.laneStat_ready, 99, 1), (.ceCfg_runsOn, 4, 23), (.sltStat_running, 0, 1)])
  let s := { s with security := { s.security with signatures := [(2, 9)] } }
  let run (k : Nat) (r : SliceRun) (s : Chip) : Chip := ({ s with thermal := { s.thermal with grants := [{ what := .slice r.inst, since := 0 }] } }).setSliceRun k (some r)
  let failed (u : Chip) : Bool := u.rd .sltCount_failures == 1 && u.rd .sltLast_result == 2 && u.faults.events.contains originSliceTest
  let w (s : Chip) : Chip := { s with slices := { s.slices with queue1 := [sliceInst 7 3, 5] } }
  [
    let z := run 1 { inst := sliceInst 5 99, carrier := some 0, began := 0 } s; let u := after (.pcsHandoverTimeout 9 99) z; !u.laneReady 99 && u.rd .resetCause_lane == 1 && u.slices.run1 == z.slices.run1,
    let u := after (.blockWireTest 9 3 []) (w s); u.slices.queue1 == [5] && u.slices.run1 == some { inst := sliceInst 7 3, began := 9 } && u.faults == s.faults && after (.blockWireTest 208 3 []) u == u.atTime 208 &&
      (let v := after (.blockWireTest 209 3 (List.range 102)) u; v.slices.run1 == none && v.faults == u.faults) && (let v := after (.blockWireTest 209 3 (List.range 101)) u; v.slices.run1 == none && failed v && v.rdBit .sltRetMisc_bw 3) &&
      (let z := (w s).wr .grPower_granted 1601; let v := after (.blockWireTest 9 3 []) z; v.waitsLeave (.slice (sliceInst 7 3)) && v.slices.run1 == none && v.slices.queue1 == z.slices.queue1),
    let z := (s.wr .gdCfg_drvUvlo 1 7).wr .gdCfg_negUvlo 1 7; let u := after (.supplyMonitorCheck 9 7 12699 (-3000)) z; failed u && u.rdBit .sltRetMisc_gdMon 7 && after (.supplyMonitorCheck 9 7 12700 (-2200)) z == { z.atTime 9 with slices := { z.slices with supplyDone := [7] } } && failed (after (.supplyMonitorCheck 9 7 12700 (-2199)) z),
    let u := after (.powerOnSliceTest 9 []) s; u.modes.sliceDone && u.slices.nextStart == some (9 + 1000000 * s.rd .sltCfg_cyclePeriod) && (List.range 24).all (u.rdBit .readyUnit_ce ·) && (List.range 97).all u.edgeReady && u.edgeReady 100 && u.edgeReady 101 && u.faults == s.faults && u.rd .secStat_vaultClear == 1 && u.rd .secStat_idReady == 0 && u.security.deriveDue,
    let u := after (.eeLLockstepMismatch 9) s; failed u && u.rd .sltRetMisc_eeL == 1 && u.rd .readyUnit_eeL == 0 && u.rd .sltLast_kind == 4] : List Bool).all id = true := by decide +kernel

/-- Witnesses of `Obligations.ImageSelectionAndBackgroundCheck`: order, staged, once. -/
theorem test_imageSelectionAndBackgroundCheck : (
  let c := chipOf [(.secStat_ownerFused, 0, 1), (.bootStat_copy, 0, 0), (.nvDev_blocks, 0, 4096)]
  let bad : Chip := { c with storage := { c.storage with nand := [(5376, imagePage)] } }
  let c := bad.wrBytes .ownerHash_bytes testKeyHash 12
  let x := c.slotCopy 4
  [
    (imageOrder (c.slotCopy 3) x).map (·.1) == [true] && x.bytes.take 468 == imageBytes && c.checkContent x == none,
    ((c.readFlash (c.bodyPages 4 x)).stage x).isSome,
    let z := State.reset.chip.wr .bootStat_copy 3; z.noFirmware && after (.imageSelection 5 [] true) z == z.atTime 5 && (let z : Chip := { z.wr .bootStat_copy 0 with modes := { z.modes with imageDone := true } }; after (.imageSelection 5 [] true) z == z.atTime 5)] : List Bool).all id = true := by decide +kernel

/-- Witnesses of `Obligations.ImageSelectionAndBackgroundCheck`: none, background, backgroundGood, retired. -/
theorem test_imageSelectionAndBackgroundCheck_2 : (
  let c := chipOf [(.secStat_ownerFused, 0, 1), (.bootStat_copy, 0, 0), (.nvDev_blocks, 0, 4096)]
  let bad : Chip := { c with storage := { c.storage with nand := [(5376, imagePage)] } }
  let c := bad.wrBytes .ownerHash_bytes testKeyHash 12
  let ap (c : Chip) : Chip := { ((c.wr .imageStat_appliedValid 1).wr .modeStat_mode 3).wr .imageSeqA_sequence 5 with thermal := { c.thermal with grants := [{ what := .imageCheck, since := 0 }] } }
  [
    let u := after (.imageSelection 5 [] true) bad; u.mode == .safeHold && u.rd .modeStat_holdCause == 5 && u.rd .imageStat_statusA == 3 && u.rd .imageStat_statusB == 8 && u.modes.imageDone && u.wiresAsserted,
    let z := ap bad; let u := after (.backgroundImageCheck 5) z; u.rd .imageStat_statusB == 8 && u.faults.events == [originImage],
    let z := ap c; let u := after (.backgroundImageCheck 5) z; u.rd .imageStat_statusB == 2 && u.faults == z.faults && !u.holdsLeave .imageCheck,
    let z := (ap c).wr .secStat_retired 1; let u := after (.backgroundImageCheck 5) z; agree u z [] && u.faults == z.faults && u.holdsLeave .imageCheck] : List Bool).all id = true := by decide +kernel

/-- Witnesses of `Obligations.LiveWritesAreJudged`: shadow, undeclared, range, closed, taken. -/
theorem test_liveWritesAreJudged : (
  let s0 := chipOf [(.modeStat_mode, 0, 3)]
  let s : Chip := { s0 with live := { s0.live with decls := [(255, { kind := 1, format := 1, min := -5, max := 7 }), (3, { kind := 4, target := 2 ^ 24 + 2 ^ 16 * 2 + 1, min := -5, max := 7 }), (4, { kind := 3, target := 2 ^ 24 + 2, min := 0, max := 1 })] } }
  let refused (u c : Chip) (i k : Nat) : Bool := u.rd .liveStat_lastRefusal == k && u.rd .liveStat_lastIndex == i && u.rd .liveStat_refusals == 1 && u.faults.events == [originLive] && u.live == c.live && agree u c [(.liveStat_lastRefusal, 0), (.liveStat_lastIndex, 0), (.liveStat_refusals, 0)]
  [
    let z := s.wr .modeStat_mode 4; let u := after (.setpointWrite 0 255 3) z; u.rd .halCount_liveRefused == 1 && u.live == z.live && agree u z [(.halCount_liveRefused, 0)],
    refused (after (.setpointWrite 0 254 3) s) s 254 1,
    refused (after (.loopControlWrite 0 255 8) s) s 255 2 && refused (after (.setpointWrite 0 255 0xFFFFFFFA) s) s 255 2,
    let z := { s with live := { s.live with waiting := [(4, 1)] } }; z.closedAtSnapshot 1 2 && refused (after (.coefficientWrite 0 3 7) z) z 3 3,
    let u := after (.setpointWrite 0 255 0xFFFFFFFB) s; u.rd .liveWord_value 255 == 0xFFFFFFFB && u.live.waiting == [(255, 0xFFFFFFFB)] && agree u s [(.liveWord_value, 255)] && u.faults == s.faults && (let z := { s with live := { s.live with waiting := [(4, 0)] } }; (after (.coefficientWrite 0 3 7) z).live.waiting == [(4, 0), (3, 7)])] : List Bool).all id = true := by decide +kernel

/-- Witnesses of `Obligations.TimebaseLocksHopsAndIsLost`: locks, fails, bands, hop, reference, referenceShadow. -/
theorem test_timebaseLocksHopsAndIsLost : (
  let s := chipOf [(.pllStat_refPresent, 0, 1), (.pllPlan_defined, 3, 1), (.imageStat_appliedValid, 0, 1), (.pllStat_activePlan, 0, 3), (.pllStat_synthDown, 0, 0)]
  let l := s.wr .pllStat_locked 1
  let run := l.wr .modeStat_mode 3
  let held (u : Chip) : Bool := u.mode == .safeHold && u.rd .modeStat_holdCause == 6 && u.wiresAsserted && u.rd .fcStat_reaction == flag HoldCause.clockLoss.isSystem
  [
    s.locking && s.lockPath (false, false, true) == some 2 && (s.wr .pllBandTable_valid 1 3).lockPath (true, true, true) == some 1 && s.lockPath (true, true, false) == none,
    let u := after (.pllLock 5 true true false 9 none) s; u.pll.failedAt == some 5 && u.regs == s.regs && (after (.relockRetry 1000005) u).pll.failedAt == none && (after (.relockRetry 1000004) u).pll.failedAt == some 5,
    let z := { s.wr .bootStat_copy 0 with pll := { s.pll with bandAt := some 5 } }; !z.noFirmware && after (.bandTableUpdate 1000000004 [1]) z == z.atTime 1000000004 && let u := after (.bandTableUpdate 1000000005 [1, 2, 3, 63]) z; u.pll.bandAt == some 1000000005 && u.rd .pllBandTable_valid 3 == 1 && u.rd .pllBandTable_band 3 == 63 && u.rd .pllBandTable_valid 2 == 0,
    let z := l.wr .modeStat_mode 5; (let u := s.wr .pllStat_hopPending 1; let w := after (.lossOfReference 5) u; agree w u [(.pllStat_refPresent, 0)] && w.rd .pllStat_refPresent == 0 && w.faults == u.faults) && z.mode == .safeHold && z.on .pllPlan_defined 3 && let v := after (.planHopRequest 0 3 true) run; v.faults.events == [originModeRequest] && v.regs == run.regs,
    let run := { run with clock := { run.clock with started := true } }; run.synthRuns && let u := after (.lossOfReference 5) run; u.rd .pllStat_refPresent == 0 && u.rd .pllStat_locked == 0 && u.rd .pllStat_holdover == 1 && u.rd .pllStat_refLosses == 1 && u.pll.holdoverAt == 5 && u.faults.events.getLast? == some originClock && held u,
    (after (.lossOfReference 5) (l.wr .modeStat_mode 4)).mode == .shadow] : List Bool).all id = true := by decide +kernel

/-- Witnesses of `Obligations.TimebaseLocksHopsAndIsLost`: lock, expiry, return, yield. -/
theorem test_timebaseLocksHopsAndIsLost_2 : (
  let s := chipOf [(.pllStat_refPresent, 0, 1), (.pllPlan_defined, 3, 1), (.imageStat_appliedValid, 0, 1), (.pllStat_activePlan, 0, 3), (.pllStat_synthDown, 0, 0)]
  let l := s.wr .pllStat_locked 1
  let run := l.wr .modeStat_mode 3
  let held (u : Chip) : Bool := u.mode == .safeHold && u.rd .modeStat_holdCause == 6 && u.wiresAsserted && u.rd .fcStat_reaction == flag HoldCause.clockLoss.isSystem
  [
    run.on .pllStat_locked && run.on .pllStat_refPresent && run.mode == .run && !run.waitsForTakeover,
    let z := (s.wr .pllStat_holdover 1).wr .pllStat_refPresent 0; after (.holdoverExpiry 99999999) z == z.atTime 99999999 && (let z := z.wr .pllStat_refPresent 1; after (.holdoverExpiry 100000000) z == z.atTime 100000000),
    let z := s.wr .pllStat_refPresent 0; let z := { z with pll := { z.pll with failedAt := some 3 } }; let u := after (.referenceReturn 5) z; u.rd .pllStat_refPresent == 1 && agree u z [(.pllStat_refPresent, 0)] && u.pll.failedAt == none && (after (.referenceReturn 6) { u with pll := { u.pll with failedAt := some 3 } }).pll.failedAt == some 3,
    let z := { run with pll := { run.pll with yieldDeadline := some 5, takeoverSeen := true } }; let u := after (.yieldDeadline 5) z; u.mode == .shadow && u.rd .halCount_yields == 1 && u.pll.yieldDeadline == none && held (after (.yieldDeadline 5) { z with pll := { z.pll with takeoverSeen := false } })] : List Bool).all id = true := by decide +kernel

/-- Witnesses of `Obligations.SampledValuesAndGooseAreJudged`: wrongPort, unsupported, otherRevision, taken, invalidSample, missing. -/
theorem test_sampledValuesAndGooseAreJudged : (
  let s0 := chipOf [(.modeStat_mode, 0, 3), (.svStat_valid, 15, 1), (.goStat_valid, 63, 1)]
  let k : SvConfig := { dst := 9, appid := 8, svId := [65], confRev := 7, values := 1, used := 1, delta := 1000, fullScale := [10] }
  let s := s0.setStream 15 { cfg := some k, last := 4800 * 3 + 9 }
  let a : SvAsduRx := { svId := [65], confRev := 7, smpCnt := 10, values := [(5, {})] }
  let f (a : SvAsduRx) : SvFrameRx := { dst := 9, appid := 8, arrival := 3002100000, asdus := [a] }
  let mis : Chip := s.setStream 15 { cfg := some k, seen := true, samples := [{ idx := 5, values := [1] }], missing := [7] }
  [
    after (.svFrameRx 0 2 (f a)) s == s,
    let u := after (.svFrameRx 0 1 { f a with supported := false }) s; u.rd .svCount_rejected 15 == 1 && (u.stream 15).samples == [] && u.rd .svStat_valid 15 == 1 && (after (.svFrameRx 0 0 { f a with supported := false }) u).rd .svCount_rejected 15 == 1,
    let u := after (.svFrameRx 0 1 (f { a with confRev := 6 })) s; u.rd .svCount_rejected 15 == 1 && u.rd .svStat_valid 15 == 0,
    let u := after (.svFrameRx 0 1 (f a)) s; (u.stream 15).last == 14410 && (u.stream 15).seen && u.rd .svStat_smpCnt 15 == 10 && (u.stream 15).samples.map (fun x => (x.idx, x.values, x.good)) == [(14410, [5], true)] && u.rd .svStat_valid 15 == 1,
    let u := after (.svFrameRx 0 1 (f { a with values := [(5, { validity := 1 })] })) s; u.rd .svStat_valid 15 == 0 && (u.stream 15).samples.map (·.good) == [false] && (let u := after (.svFrameRx 0 1 (f { a with smpSynch := 1 })) s; u.rd .svCount_rejected 15 == 1 && u.rd .svStat_valid 15 == 0) && (let u := after (.svFrameRx 0 1 { f a with simulation := true }) s; u.rd .svCount_rejected 15 == 1 && u.rd .svStat_valid 15 == 1),
    let u := after (.sampleMissing 10000000 15 0 6) mis; (u.stream 15).missing == [6, 7] && u.rd .svCount_missing 15 == 1 && u.rd .svStat_valid 15 == 0 && u.rd .svStat_invalidReason 15 == 1 && u.faults.events == [originStream 15] && after (.sampleMissing 10 15 0 6) mis == mis.atTime 10] : List Bool).all id = true := by decide +kernel

/-- Witnesses of `Obligations.SampledValuesAndGooseAreJudged`: gooseCopy, gooseNew, gooseOlder, gooseDead. -/
theorem test_sampledValuesAndGooseAreJudged_2 : (
  let s0 := chipOf [(.modeStat_mode, 0, 3), (.svStat_valid, 15, 1), (.goStat_valid, 63, 1)]
  let gk : GooseConfig := { dst := 9, appid := 8, confRev := 7, ref := [66], failTrip := true, members := [{ position := 1, dbpos := true }] }
  let gf : GooseFrameRx := { dst := 9, appid := 8, ref := [66], confRev := 7, stNum := 6, sqNum := 0, ttl := 2, data := [.other, .dbpos 2] }
  let g := s0.setGoose 63 { cfg := some gk, seen := true, stNum := 5, sqNum := 99, taken := [(5, 99)], liveUntil := 20 }
  [
    let u := after (.gooseFrameRx 0 0 { gf with stNum := 5, sqNum := 99 }) g; u.goose 63 == g.goose 63 && (after (.gooseFrameRx 0 0 { gf with confRev := 6 }) g).rd .goStat_valid 63 == 0 && (after (.gooseFrameRx 0 0 { gf with simulation := true }) g).rd .goStat_valid 63 == 1 && (after (.gooseFrameRx 0 0 { gf with data := [] }) g).rd .goStat_valid 63 == 1,
    let u := after (.gooseFrameRx 5 0 gf) g; u.rd .goStat_valid 63 == 1 && u.rd .goStat_stNum 63 == 6 && (u.goose 63).stNum == 6 && (u.goose 63).sqNum == 0 && (u.goose 63).liveUntil == 2000005 && u.rd .goStat_values 63 == 1,
    let u := after (.gooseFrameRx 5 0 { gf with stNum := 4 }) g; u.rd .goCount_rejected == 1 && u.rd .goStat_valid 63 == 1 && u.faults == g.faults && (u.goose 63).stNum == 5,
    let u := after (.gooseTtlExpiry 20 63) g; u.rd .goStat_valid 63 == 0 && u.rd .goStat_invalidReason 63 == 1 && u.faults.events == [originGoose 63, originGooseTrip 63] && after (.gooseTtlExpiry 19 63) g == g.atTime 19] : List Bool).all id = true := by decide +kernel

/-- Witnesses of `Obligations.ConverterRunsRotatesAndCalibrates`: trigger, notDue, held, result, notDelivered, rotation. -/
theorem test_converterRunsRotatesAndCalibrates : (
  let s0 := chipOf [(.adcSeqCfg_enabled, 3, 1), (.adcSeqCfg_source, 3, 0), (.adcSeqTrig_div, 3, 4), (.periodIndex_index, 0, 8), (.adcSeqCfg_delay, 3, 60), (.pllStat_synthDown, 0, 0), (.idbStat_linkUp, 0, 1), (.adcSeqCfg_first, 3, 31), (.adcSeqCfg_last, 3, 31), (.adcEntry_channel, 31, 5), (.adcEntry_order, 31, 2), (.adcEntry_dec, 31, 8), (.readyIo_slice, 0, 0x1FFFFFF), (.adcSlice_calibrating, 24, 1), (.adcStat_calSlice, 0, 24)]
  let s := (List.range 24).foldl (fun s k => s.wr .adcSlice_serving k k) s0
  let s : Chip := { s with clock := { s.clock with tb := 13, now := 20, gridOn := true, n := 1, started := true }, converter := { s.converter with served := [(5, [(5, 0)])] } }
  let run := s.setSequence 3 { running := true }
  let due := s.setSequence 3 { running := true, sampling := 1000 }
  [
    s.triggerDue 3 == some 0 && let u := after (.sequenceTrigger 20 3) s; u.rd .adcSeqStat_running 3 == 1 && (u.sequence 3).running && (u.sequence 3).sampling == 107 && after (.sequenceTrigger 20 3) u == u,
    after (.sequenceTrigger 20 3) (s.wr .periodIndex_index 9) == s.wr .periodIndex_index 9,
    let u := after (.sequenceTrigger 20 3) run; u.rd .adcSeqStat_heldPending 3 == 1 && (u.sequence 3).held == some (107, 20) && (let z := u.setSequence 3 { u.sequence 3 with last := none }; let v := after (.sequenceTrigger 20 3) z; agree v u [] && (v.sequence 3).held == some (107, 20) && (v.sequence 3).third == some (107, 20) && let w := after (.sequenceTrigger 20 3) (v.setSequence 3 { v.sequence 3 with last := none }); w.rd .adcSeqStat_overruns 3 == 1 && agree w u [(.adcSeqStat_overruns, 3)] && (w.sequence 3).third == some (107, 20)),
    due.halfWindow 31 == 400 && (due.atTime 1400).adcDue 31 && let u := after (.adcResultComplete 1400 31 (List.replicate 16 true) 2 true) due; (u.adcEntry 31).latest.value == 8388607 && (u.adcEntry 31).latest.ovr && (u.adcEntry 31).latest.valid && u.rd .idbStat_retries == 2 && u.rd .adcRes_result 31 == 8388607 && (u.adcEntry 31).delivered && (u.adcEntry 31).isNew && u.rd .adcSeqStat_running 3 == 0 && after (.adcResultComplete 1399 31 [] 0 true) due == due.atTime 1399,
    let u := after (.adcResultComplete 1400 31 (List.replicate 8 true ++ List.replicate 8 false) 0 false) due; !(u.adcEntry 31).delivered && (u.adcEntry 31).latest.value.natAbs == 1048576 && u.rd .adcRes_result 31 == 0,
    let s := s.wr .adcSlice_calibrating 0 24; s.nextServing == some 0 && let u := after (.sliceRotation 250000000) s; u.converter.takeover == some (24, 0, 250000000) && u.regs == s.regs && after (.sliceRotation 249999999) s == s.atTime 249999999] : List Bool).all id = true := by decide +kernel

/-- Witnesses of `Obligations.ConverterRunsRotatesAndCalibrates`: change, calibrated, retired. -/
theorem test_converterRunsRotatesAndCalibrates_2 : (
  let s0 := chipOf [(.adcSeqCfg_enabled, 3, 1), (.adcSeqCfg_source, 3, 0), (.adcSeqTrig_div, 3, 4), (.periodIndex_index, 0, 8), (.adcSeqCfg_delay, 3, 60), (.pllStat_synthDown, 0, 0), (.idbStat_linkUp, 0, 1), (.adcSeqCfg_first, 3, 31), (.adcSeqCfg_last, 3, 31), (.adcEntry_channel, 31, 5), (.adcEntry_order, 31, 2), (.adcEntry_dec, 31, 8), (.readyIo_slice, 0, 0x1FFFFFF), (.adcSlice_calibrating, 24, 1), (.adcStat_calSlice, 0, 24)]
  let s := (List.range 24).foldl (fun s k => s.wr .adcSlice_serving k k) s0
  let s : Chip := { s with clock := { s.clock with tb := 13, now := 20, gridOn := true, n := 1, started := true }, converter := { s.converter with served := [(5, [(5, 0)])] } }
  [
    let z := { s with converter := { s.converter with takeover := some (24, 3, 100) } }; let u := after (.channelSourceChange 1100100) z; u.rd .adcSlice_serving 24 == 3 && u.rd .adcSlice_serving 3 == 31 && u.rd .adcSlice_calibrating 3 == 1 && u.rd .adcStat_calSlice == 3 && u.converter.takeover == none && u.converter.lastRelieved == 3,
    let u := after (.calibrationComplete 20 24 20000 (-20000) true) s; u.rd .adcSlice_calibrating 24 == 0 && u.rdBit .readyIo_slice 24 && u.slice 24 == ⟨20000, -20000, true⟩ && u.rd .adcSlice_retired 24 == 0,
    let u := after (.calibrationComplete 20 24 20001 0 true) s; u.rd .adcSlice_retired 24 == 1 && !u.rdBit .readyIo_slice 24 && u.converter.noRotation && u.converter.retired == 1 && u.rd .adcStat_noRotation == 1 && u.rd .adcStat_nRetired == 1 && u.faults.events.contains (originCalibration 24) && (after (.calibrationComplete 20 24 0 0 false) s).rd .adcSlice_retired 24 == 1] : List Bool).all id = true := by decide +kernel

/-- Witnesses of `Obligations.ComparatorsFollowTheirWindows`: outside, inside, resolved. The thresholds lie at −824,000 µV and −624,000 µV. -/
theorem test_comparatorsFollowTheirWindows : (
  let s := chipOf [(.wcCfg_enabled, 23, 1), (.idbStat_linkUp, 0, 1), (.wcCfg_lo, 23, 100), (.wcCfg_hi, 23, 200), (.wcCfg_hyst, 23, 1)]
  let o := after (.comparatorOutside 0 23 (-624000)) s
  let un := { s with converter := { s.converter with unresolved := 2 ^ 23 } }
  [
    bitAt o.converter.outside 23 && bitAt o.converter.above 23 && o.rdBit .wcLatch_flags 23 && o.rdBit .wcState_state 23 && o.faults.events == [originWindow 23] && after (.comparatorOutside 0 23 (-624001)) s == s && after (.comparatorOutside 0 23 (-823999)) s == s && (let d := after (.comparatorOutside 0 23 (-824000)) s; bitAt d.converter.outside 23 && !bitAt d.converter.above 23),
    let u := after (.comparatorInside 0 23 (-640001)) o; !bitAt u.converter.outside 23 && u.rdBit .wcLatch_flags 23 && !u.rdBit .wcState_state 23 && after (.comparatorInside 0 23 (-640000)) o == o && (let d := after (.comparatorOutside 0 23 (-824000)) s; after (.comparatorInside 0 23 (-808000)) d == d && !bitAt (after (.comparatorInside 0 23 (-807999)) d).converter.outside 23),
    let u := after (.comparatorResolved 0 23 (-624000)) un; bitAt u.converter.outside 23 && !bitAt u.converter.unresolved 23 && u.faults.events == [originWindow 23] && !bitAt (after (.comparatorResolved 0 23 (-700000)) un).converter.outside 23 && after (.comparatorResolved 0 23 (-640000)) un == un] : List Bool).all id = true := by decide +kernel

/-- Witnesses of `Obligations.ComparatorsFollowTheirWindows`: readback. Half of the bits at 1 is 0 V, code 512. -/
theorem test_comparatorsFollowTheirWindows_2 : (
  let s := chipOf [(.wcCfg_enabled, 23, 1), (.idbStat_linkUp, 0, 1), (.sltCfg_enabled, 0, 1), (.adcRb_enabled, 0, 1), (.sltStat_running, 0, 1), (.pllStat_synthDown, 0, 0), (.adcSlice_calibrating, 24, 0), (.wcCfg_lo, 23, 512), (.wcCfg_hi, 23, 514)]
  let s := { s with clock := { s.clock with started := true } }
  let bits := (List.replicate 192 [true, false]).flatten
  let rb : List (List Bool × List Bool) := List.replicate 23 ([], []) ++ [(bits, bits)]
  [
    let u := after (.thresholdReadback 0 rb) s; u.converter.readBackDone && !u.rdBit .wcRbFail_flags 23 && u.faults == s.faults && after (.thresholdReadback 0 rb) u == u,
    let u := after (.thresholdReadback 0 rb) (s.wr .wcCfg_hi 516 23); u.rdBit .wcRbFail_flags 23 && u.faults.events == [originReadback 23]] : List Bool).all id = true := by decide +kernel

/-- Witnesses of `Obligations.MeteringWindowsAndSaves`: bad, good, short, save, refused, periodic. -/
theorem test_meteringWindowsAndSaves : (
  let s := chipOf [(.mptCfg_enabled, 1, 1), (.mptCfg_nW, 1, 2), (.flTemp_inRange, 0, 1), (.grStat_headroom, 0, 100), (.metCfg_saveInterval, 0, 2), (.mptTotalLo_energy, 40, 9)]
  let m (b : Bool) (n : Nat) : Chip := s.setMeter 1 { s.meter 1 with window := (List.range n).map fun i => { bad := b, instant := 100 + i, num := 2000000, v := [0, 0, 0], i := [0, 0, 0] } }
  let lv : Chip := { s with thermal := { s.thermal with grants := [{ what := .metrologySave, since := 0 }] } }
  let q (u : Chip) : Bool := u.storage.jobs.any fun j => j.1 == .save
  let no := s.wr .flTemp_inRange 0
  let refused (u : Chip) : Bool := u.rd .metStat_saveRefused == 1 && u.rd .metStat_refusals == 1 && u.faults.events == [originMetrology] && u.storage == s.storage
  [
    let u := after (.meteringWindowEnd 0 1) (m true 3); u.rd .mptStat_unmeasured 1 == 1 && u.rd .mptTotalLo_energy 40 == 9 && (u.meter 1).window.length == 1,
    let u := after (.meteringWindowEnd 0 1) (m false 2); u.rd .mptStat_unmeasuredMs 1 == 0 && (u.meter 1).lastEnd == some (101 + s.meterInterval 1) && (u.meter 1).window == [],
    after (.meteringWindowEnd 0 1) (m false 1) == m false 1,
    let u := after (.metrologySave 0) lv; q u && u.metrology.retryFrom == none && u.faults == s.faults,
    let u := after (.metrologySave 5) no; refused u && u.metrology.retryFrom == some 5 && (after (.metrologySave 5) (lv.wr .flTemp_inRange 0)).rd .flTemp_refused == 1 && (let v := after (.saveRetry 10000000005) (u.wr .flTemp_inRange 1); q v) && !q (after (.saveRetry 10000000004) (u.wr .flTemp_inRange 1)),
    let z := { lv with clock := { lv.clock with gridOn := true, tb := 5 }, metrology := { lv.metrology with nextSave := 5 } }; let u := after (.periodicSave 0) z; q u && u.metrology.savedOnce && u.metrology.nextSave == 120000000005] : List Bool).all id = true := by decide +kernel

/-- Witnesses of `Obligations.MeteringWindowsAndSaves`: holdUp, final. -/
theorem test_meteringWindowsAndSaves_2 : (
  let s := chipOf [(.mptCfg_enabled, 1, 1), (.mptCfg_nW, 1, 2), (.flTemp_inRange, 0, 1), (.grStat_headroom, 0, 100), (.metCfg_saveInterval, 0, 2), (.mptTotalLo_energy, 40, 9)]
  let lv : Chip := { s with thermal := { s.thermal with grants := [{ what := .metrologySave, since := 0 }] } }
  [
    let z := lv.wr .modeStat_holdUp 1; after (.metrologySave 0) z == z,
    let y := { s.wr .modeStat_mode 5 with storage := { s.storage with written := [.final] } }; let z := y.wr .modeStat_holdUp 1; let u := after (.finalSaveWritten 0) z; (after (.finalSaveWritten 0) y).rd .metStat_finalWritten == y.rd .metStat_finalWritten && u.rd .metStat_finalWritten == 1 && u.rd .modeStat_lockoutPersisted == 1 && !u.storage.written.contains .final] : List Bool).all id = true := by decide +kernel

/-- Witness of `Obligations.EveryStepKeepsTheBlockSafe`: the block after reset is safe, and so is the block after a step that takes a command. -/
theorem test_stepFromASafeState : (let s : State := { State.reset with pending := [.earlyWarningTrip 5, .referenceReturn 6] }
    s.chip.safe && match step s with
      | .next u => u.chip.safe && u.pending == [.referenceReturn 6]
      | _ => false) = true := by decide +kernel

/-- On an empty queue the block idles. -/
theorem test_idles : step State.reset = .next State.reset := rfl

/-- Commands on the bus are well formed where their addresses are (R5, R9, R15). -/
theorem test_wellFormedBus : ([
    Instr.wellFormed (.registerWrite 0 0x10000000 1 false), !Instr.wellFormed (.registerWrite 0 0x10000002 1 false),
    Instr.wellFormed (.w1cWrite 0 0x40000030 1) == hasAccess .w1c 0x40000030, !Instr.wellFormed (.w1cWrite 0 0x40000000 1),
    Instr.wellFormed (.rcRead 0 0x40000300), !Instr.wellFormed (.rcRead 0 0x40000000),
    Instr.wellFormed (.lowHalfRead 0 (BitVec.ofNat 32 Reg.tbCountLo.spec.base)), !Instr.wellFormed (.lowHalfRead 0 0x40000000),
    Instr.wellFormed (.highHalfRead 0 (BitVec.ofNat 32 Reg.tbCountHi.spec.base)), !Instr.wellFormed (.highHalfRead 0 0x40000000),
    Instr.wellFormed (.riggingAccess 0 0x50000000 none), !Instr.wellFormed (.riggingAccess 0 0x40000000 none),
    !Instr.wellFormed (.riggingAccess 0 0x50000001 none)] : List Bool).all id = true := by decide +kernel

/-- Lists that commands carry have the lengths and ranges the spec gives them (R25, R131, R351, R516). -/
theorem test_wellFormedLists : ([
    Instr.wellFormed (.edgeReload 0 [0, 5] [0, 101]), !Instr.wellFormed (.edgeReload 0 [6] []), !Instr.wellFormed (.edgeReload 0 [] [102]),
    Instr.wellFormed (.sramScrubStep 0 [(2097151, [0, 138])] 0), !Instr.wellFormed (.sramScrubStep 0 [(2097152, [])] 0),
    !Instr.wellFormed (.sramScrubStep 0 [(0, [139])] 0), !Instr.wellFormed (.sramScrubStep 0 [(0, [1, 1])] 0),
    Instr.wellFormed (.nandOpComplete 0 0 63 true true {}), !Instr.wellFormed (.nandOpComplete 0 0 64 true true {}),
    Instr.wellFormed (.retentionRefresh 0 0 [(256, [33791])]), !Instr.wellFormed (.retentionRefresh 0 0 [(256, [33792])]),
    Instr.wellFormed (.sprRstPulse 0 1), !Instr.wellFormed (.sprRstPulse 0 0),
    Instr.wellFormed (.imageSelection 0 (List.replicate 24 0) true), !Instr.wellFormed (.imageSelection 0 [] true),
    !Instr.wellFormed (.thresholdReadback 0 []), !Instr.wellFormed (.thresholdReadback 0 (List.replicate 24 ([], []))),
    Instr.wellFormed (.thresholdReadback 0 (List.replicate 24 (List.replicate 384 true, List.replicate 384 true))),
    Instr.wellFormed (.thermalEvaluation 0 (List.replicate 22 .open_)), !Instr.wellFormed (.thermalEvaluation 0 []),
    Instr.wellFormed (.faultEvent 0 [1023]), !Instr.wellFormed (.faultEvent 0 [1024]),
    Instr.wellFormed (.powerOnSliceTest 0 [1024]), !Instr.wellFormed (.powerOnSliceTest 0 [1025])] : List Bool).all id = true := by decide +kernel

/-- The operands of the engine's instructions lie in their ranges (R276, R278). -/
theorem test_wellFormedEngine : ([
    Instr.wellFormed (.rep 0 (engineWord 16 4096 0)), !Instr.wellFormed (.rep 0 (engineWord 17 1 0)), !Instr.wellFormed (.rep 0 (engineWord 0 1 0)),
    !Instr.wellFormed (.rep 0 (engineWord 1 0 0)), Instr.wellFormed (.skn 0 (engineWord 0 0 0 1)), !Instr.wellFormed (.skn 0 (engineWord 0 0 0)),
    Instr.wellFormed (.msel 0 (engineWord 7 0 0)), !Instr.wellFormed (.msel 0 (engineWord 8 0 0)),
    Instr.wellFormed (.trk 0 (engineWord 0 0 0 1)), !Instr.wellFormed (.trk 0 (engineWord 0 0 0 2)),
    Instr.wellFormed (.tab 0 (engineWord 0 0 0 8)), !Instr.wellFormed (.tab 0 (engineWord 0 0 0 9)),
    !Instr.wellFormed (.tab 0 (engineWord 0 0 0 1))] : List Bool).all id = true := by decide +kernel

/-- Messages and scan operations have the lengths the spec gives them (R457, R464, R481, R599, R602, R604). -/
theorem test_wellFormedMessages : ([
    Instr.wellFormed (.idNonceRx 0 0 (List.replicate 24 0) 0), !Instr.wellFormed (.idNonceRx 0 0 [] 0),
    Instr.wellFormed (.idProofRx 0 0 0 1 testKey identitySig 0), !Instr.wellFormed (.idProofRx 0 0 0 1 [] identitySig 0),
    !Instr.wellFormed (.idProofRx 0 0 0 1 testKey [] 0), Instr.wellFormed (.identityDerivation 0 testKey), !Instr.wellFormed (.identityDerivation 0 []),
    Instr.wellFormed (.copyFrameRx 0 1 3 1 (.arms [] []) true), !Instr.wellFormed (.copyFrameRx 0 1 4 1 (.arms [] []) true),
    !Instr.wellFormed (.copyFrameRx 0 1 1 2 (.arms [] []) true), frameWellFormed { length := 1522 }, !frameWellFormed { length := 63 },
    Instr.wellFormed (.dbgResponse 0 (List.replicate 768 false)), !Instr.wellFormed (.dbgResponse 0 []),
    Instr.wellFormed (.extest 0 [] []), !Instr.wellFormed (.extest 0 [] [true]), !Instr.wellFormed (.extestPulse 0 [] [true]),
    !Instr.wellFormed (.extestTrain 0 [] [true]), !Instr.wellFormed (.samplePreload 0 [] [true])] : List Bool).all id = true := by decide +kernel

/-- Instruction words of the control engines, written bit by bit from R273 and R274: MAC of a = 3 and X + b = 4 into A1; REP 2 of 5; a word
with a reserved bit set; one of no operation. -/
theorem test_engineWordsDecode :
    decodeEngineWord 23 0b00001101010000000000000000001100000000001000000000000000 = some (.mac 23 { acc := true, xb := true, a := 3, b := 4 }) ∧
    decodeEngineWord 0 0b01111000000000000000000000001000000000001010000000000000 = some (.rep 0 { a := 2, b := 5 }) ∧
    decodeEngineWord 0 0b00001100000000001000000000000000000000000000000000000000 = none ∧
    decodeEngineWord 0 0b10000000000000000000000000000000000000000000000000000000 = none := by decide +kernel

/-- The generator of R566: of degree 224, with α¹ to α³¹ among its roots, as the product of their minimal polynomials has; the parity of data
reads clean, and one wrong bit is corrected. -/
theorem test_codeOfAPage : (
  let root (a : Nat) : Bool := bchAt (bchGenerator % 2 ^ 224) a 224 1 == 0
  [
    bchGenerator / 2 ^ 224 == 1,
    ((gfPowers 32).drop 1).all root && !root 1,
    bchDecode [0xA5, 7] (bchBytes [0xA5, 7]) == some ([0xA5, 7], 0),
    bchDecode [0xA5, 7] (bchBytes [0xA5, 5]) != some ([0xA5, 7], 0) && bchDecode [0xA5, 5 ^^^ 2] (bchBytes [0xA5, 5]) == some ([0xA5, 5], 1)] : List Bool).all id = true := by decide +kernel

end Sys2Proof.Tests
end

section
/-! PROOF. What a register field, a register and a word of SRAM read as after an access on the bus (R5 to R8, R35, R37, R38). -/

namespace Sys2Proof.Machine

/-! ## Bits of numbers -/

theorem bitAt_eq_testBit (v n : Nat) : bitAt v n = v.testBit n := by
  rw [Nat.testBit_eq_decide_div_mod_eq]
  rfl

/-- Bit `n` of a bit field is the bit of the number at the field's place. -/
theorem testBit_bits (v lo w n : Nat) : (bits v lo w).testBit n = (decide (n < w) && v.testBit (lo + n)) := by
  rw [bits, Nat.testBit_mod_two_pow, Nat.testBit_div_two_pow, Nat.add_comm]

/-- Taking from a number the bits it shares with another clears those bits and no other (R5, W1C). -/
theorem testBit_sub_land (v x n : Nat) : (v - (v &&& x)).testBit n = (v.testBit n && !x.testBit n) := by
  have hle : v &&& x ≤ v := Nat.and_le_left
  have hlow : (v &&& x) % 2 = 1 ↔ v % 2 = 1 ∧ x % 2 = 1 := Nat.and_mod_two_eq_one
  induction n generalizing v x with
  | zero =>
    simp only [Nat.testBit_zero, ← decide_not, ← Bool.decide_and, decide_eq_decide]
    omega
  | succ n ih =>
    have hhalf : (v - (v &&& x)) / 2 = v / 2 - (v / 2 &&& x / 2) := by
      rw [← Nat.and_div_two]
      omega
    simp only [Nat.testBit_succ, hhalf]
    exact ih (v / 2) (x / 2) Nat.and_le_left Nat.and_mod_two_eq_one

theorem bits_lt (v lo w : Nat) : bits v lo w < 2 ^ w := Nat.mod_lt _ (Nat.two_pow_pos w)

/-- Setting a bit sets it. -/
theorem bitAt_setBit_true (v n : Nat) : bitAt (setBit v n true) n = true := by
  unfold setBit
  split
  · assumption
  · next h =>
    rw [if_pos rfl]
    rw [bitAt_eq_testBit] at h ⊢
    rw [Nat.add_comm, Nat.testBit_two_pow_add_eq]
    rw [Bool.not_eq_true] at h
    rw [h, Bool.not_false]

/-! ## Bytes of words -/

theorem leBytes_length (n v : Nat) : (leBytes n v).length = n := by
  induction n generalizing v with
  | zero => rfl
  | succ n ih => rw [leBytes, List.length_cons, ih]

theorem leBytes_getD (n v k : Nat) (h : k < n) : (leBytes n v).getD k 0 = BitVec.ofNat 8 (v / 256 ^ k) := by
  induction n generalizing v k with
  | zero => omega
  | succ n ih =>
    cases k with
    | zero => rw [leBytes, List.getD_cons_zero, Nat.pow_zero, Nat.div_one]
    | succ k =>
      rw [leBytes, List.getD_cons_succ, ih _ _ (by omega), Nat.div_div_eq_div_mul, Nat.pow_succ']

/-! ## Operations that rewrite one field for each field of a list -/

/-- `g` puts `φ f x` for the value `x` of its field `f` at index `i`, and changes nothing else. -/
structure Rewrites (i : Nat) (φ : Fld → Nat → Nat) (g : Chip → Fld → Chip) : Prop where
  self : ∀ s f, (g s f).rd f i = φ f (s.rd f i)
  other : ∀ s f k j, k ≠ f ∨ j ≠ i → (g s f).rd k j = s.rd k j
  frame : ∀ s f, g s f = { s with regs := (g s f).regs }

namespace Rewrites
variable {i : Nat} {φ : Fld → Nat → Nat} {g : Chip → Fld → Chip} (h : Rewrites i φ g)
include h

/-- A field outside the list stays, and so does every field at another index. -/
theorem rd_each_other (l : List Fld) (s : Chip) {k : Fld} {j : Nat} (hk : k ∉ l ∨ j ≠ i) : (s.each l g).rd k j = s.rd k j := by
  induction l generalizing s with
  | nil => rfl
  | cons f l ih =>
    have hf : k ≠ f ∨ j ≠ i := hk.imp_left (List.ne_of_not_mem_cons)
    exact (ih (g s f) (hk.imp_left List.not_mem_of_not_mem_cons)).trans (h.other s f k j hf)

/-- A field of the list is rewritten once. -/
theorem rd_each_mem {l : List Fld} (hl : l.Nodup) (s : Chip) {f : Fld} (hf : f ∈ l) : (s.each l g).rd f i = φ f (s.rd f i) := by
  induction l generalizing s with
  | nil => cases hf
  | cons k l ih =>
    obtain ⟨hk, hl⟩ := List.nodup_cons.mp hl
    rcases List.mem_cons.mp hf with rfl | hf
    · exact (h.rd_each_other l _ (.inl hk)).trans (h.self s f)
    · have hne : f ≠ k := fun e => hk (e ▸ hf)
      rw [← h.other s k f i (.inl hne)]
      exact ih hl (g s k) hf

/-- Only register fields change. -/
theorem each_frame (l : List Fld) (s : Chip) : s.each l g = { s with regs := (s.each l g).regs } := by
  induction l generalizing s with
  | nil => rfl
  | cons f l ih =>
    show (g s f).each l g = { s with regs := ((g s f).each l g).regs }
    rw [ih (g s f), h.frame s f]

end Rewrites

/-- No register lists a field twice. -/
theorem Reg.fields_nodup (r : Reg) : r.spec.fields.Nodup := by cases r <;> decide

/-- A field as a write of `v` to its register leaves it, where it held `old` (R5). -/
def Fld.afterWrite (v : Nat) (f : Fld) (old : Nat) : Nat :=
  match f.spec.access with
  | .rw => bits v f.spec.lo f.spec.width
  | .w1c => (old - (old &&& bits v f.spec.lo f.spec.width)) % 2 ^ f.spec.width
  | _ => old

/-- The effect of a write on one field of the register (R5). -/
def Chip.writeField (i v : Nat) (s : Chip) (f : Fld) : Chip :=
  let x := bits v f.spec.lo f.spec.width
  match f.spec.access with
  | .rw => s.wr f x i
  | .w1c => s.wr f (s.rd f i - (s.rd f i &&& x)) i
  | _ => s

theorem Chip.writeFields_eq_each (s : Chip) (r : Reg) (i v : Nat) : s.writeFields r i v = s.each r.spec.fields (Chip.writeField i v) := rfl

theorem writeField_rewrites (i v : Nat) : Rewrites i (Fld.afterWrite v) (Chip.writeField i v) where
  self s f := by
    unfold Chip.writeField Fld.afterWrite
    cases f.spec.access <;> simp only [Chip.rd_wr_self, Nat.mod_eq_of_lt (bits_lt _ _ _)]
  other s f k j h := by
    have hne : ¬(f = k ∧ i = j) := fun ⟨hf, hi⟩ => h.elim (fun c => c hf.symm) (fun c => c hi.symm)
    unfold Chip.writeField
    cases f.spec.access <;> simp only [Chip.rd_wr_ne _ _ hne]
  frame s f := by
    unfold Chip.writeField
    cases f.spec.access <;> rfl

theorem clearField_rewrites (i : Nat) : Rewrites i (fun _ _ => 0) (fun s f => s.wr f 0 i) where
  self s f := by rw [Chip.rd_wr_self, Nat.zero_mod]
  other s f k j h := s.rd_wr_ne 0 fun ⟨hf, hi⟩ => h.elim (fun c => c hf.symm) (fun c => c hi.symm)
  frame _ _ := rfl

theorem Fld.afterWrite_kept {f : Fld} (h1 : f.spec.access ≠ .rw) (h2 : f.spec.access ≠ .w1c) (v old : Nat) : f.afterWrite v old = old := by
  unfold Fld.afterWrite
  split
  · exact absurd ‹_› h1
  · exact absurd ‹_› h2
  · rfl

/-- W1C: a bit stays where it was set and its bit of the word is 0 (R5). -/
theorem bitAt_afterWrite_w1c {f : Fld} (hf : f.spec.access = .w1c) (v old : Nat) {n : Nat} (hn : n < f.spec.width) :
    bitAt (f.afterWrite v old) n = (bitAt old n && !bitAt v (f.spec.lo + n)) := by
  simp only [Fld.afterWrite, hf, bitAt_eq_testBit, Nat.testBit_mod_two_pow, testBit_sub_land, testBit_bits, hn, decide_true, Bool.true_and]

/-! ## Counters and set bits -/

theorem Chip.rd_count_self (s : Chip) (f : Fld) (i n : Nat) :
    (s.count f i n).rd f i = min (s.rd f i + n) (2 ^ f.spec.width - 1) := by
  have hw : 0 < 2 ^ f.spec.width := Nat.two_pow_pos _
  rw [Chip.count, Chip.rd_wr_self, Nat.mod_eq_of_lt (by omega)]

theorem Chip.rd_count_ne (s : Chip) {f g : Fld} {i j : Nat} (n : Nat) (h : ¬(f = g ∧ i = j)) :
    (s.count f i n).rd g j = s.rd g j := s.rd_wr_ne _ h

theorem Chip.rdBit_wrBit_true (s : Chip) (f : Fld) {bit : Nat} (i : Nat) (h : bit < f.spec.width) :
    (s.wrBit f bit true i).rdBit f bit i = true := by
  have hset := bitAt_setBit_true (s.rd f i) bit
  rw [bitAt_eq_testBit] at hset
  rw [Chip.rdBit, Chip.wrBit, Chip.rd_wr_self, bitAt_eq_testBit, Nat.testBit_mod_two_pow, hset, decide_eq_true h, Bool.and_true]

/-! ## Words of SRAM -/

theorem Chip.atTime_frame (s : Chip) (t : Nat) : s.atTime t = { s with clock := (s.atTime t).clock } := by
  unfold Chip.atTime; split <;> rfl

theorem Chip.atTime_with_regs (s : Chip) (t : Nat) (regs : Store Nat) :
    { s.atTime t with regs := regs } = { s with regs := regs, clock := (s.atTime t).clock } := by
  unfold Chip.atTime; split <;> rfl

theorem Chip.sramShows_atTime (s : Chip) (t k : Nat) : (s.atTime t).sramShows k = s.sramShows k := by
  rw [s.atTime_frame t]; rfl

theorem Chip.sramByte_atTime (s : Chip) (t b : Nat) : (s.atTime t).sramByte b = s.sramByte b := by
  rw [s.atTime_frame t]; rfl

theorem Chip.sramPutBytes_frame (s : Chip) (a : Nat) (bs : List Byte) :
    s.sramPutBytes a bs = { s with sram := { s.sram with cells := (s.sramPutBytes a bs).sram.cells } } := by
  induction bs generalizing s a with
  | nil => rfl
  | cons b bs ih => exact ih (s.sramPutByte a b) (a + 1)

theorem Chip.rd_sramPutBytes (s : Chip) (a : Nat) (bs : List Byte) (f : Fld) (i : Nat) : (s.sramPutBytes a bs).rd f i = s.rd f i := by
  rw [s.sramPutBytes_frame a bs]; rfl

theorem Chip.sramShows_putBytes (s : Chip) (a : Nat) (bs : List Byte) (k : Nat) : (s.sramPutBytes a bs).sramShows k = s.sramShows k := by
  rw [s.sramPutBytes_frame a bs]; rfl

/-- Bytes written into words whose data can be had read as they were written, and every other byte stays. -/
theorem Chip.sramByte_putBytes (s : Chip) (a : Nat) (bs : List Byte) (b : Nat)
    (h : ∀ x, a ≤ x → x < a + bs.length → s.sramIntact (sramWordOf x) = true) :
    (s.sramPutBytes a bs).sramByte b = if a ≤ b ∧ b < a + bs.length then bs.getD (b - a) 0 else s.sramByte b := by
  induction bs generalizing s a with
  | nil => rw [List.length_nil, if_neg (by omega)]; rfl
  | cons x bs ih =>
    rw [List.length_cons] at h
    rw [Chip.sramPutBytes, ih _ _ fun y h1 h2 => by rw [Chip.sramIntact_put]; exact h y (by omega) (by omega),
      Chip.sramByte_put, List.length_cons]
    rcases Nat.lt_trichotomy a b with hab | rfl | hab
    · have hsub : b - a = b - (a + 1) + 1 := by omega
      rw [if_neg (c := a = b ∧ _) (by omega), hsub, List.getD_cons_succ]
      by_cases hin : b < a + 1 + bs.length
      · rw [if_pos ⟨hab, hin⟩, if_pos ⟨by omega, by omega⟩]
      · rw [if_neg (by omega), if_neg (by omega)]
    · rw [if_neg (by omega), if_pos ⟨rfl, h a (Nat.le_refl a) (by omega)⟩, if_pos ⟨Nat.le_refl a, by omega⟩, Nat.sub_self,
        List.getD_cons_zero]
    · rw [if_neg (by omega), if_neg (by omega), if_neg (by omega)]

/-- The four bytes of an aligned 32-bit word lie in one 128-bit word. -/
theorem sramWordOf_of_mem {a x : Nat} (ha : sramBase ≤ a) (h1 : a / 4 * 4 ≤ x) (h2 : x < a / 4 * 4 + 4) : sramWordOf x = sramWordOf a := by
  unfold sramWordOf sramBase at *
  omega

/-- A 32-bit word of SRAM as it stands in four bytes, the least significant at the lowest address (log entry 6). -/
theorem Chip.sramByte_putWord {s : Chip} {a : Nat} (ha : sramBase ≤ a) (h : s.sramIntact (sramWordOf a) = true) (v b : Nat) :
    (s.sramPutBytes (a / 4 * 4) (leBytes 4 v)).sramByte b =
      if a / 4 * 4 ≤ b ∧ b < a / 4 * 4 + 4 then BitVec.ofNat 8 (v / 256 ^ (b - a / 4 * 4)) else s.sramByte b := by
  rw [s.sramByte_putBytes _ _ b fun x h1 h2 => by
    rw [leBytes_length] at h2
    rw [sramWordOf_of_mem ha h1 h2, h], leBytes_length]
  split
  · next hb => exact leBytes_getD 4 v _ (by omega)
  · rfl

theorem Chip.sramShows_heal (s : Chip) (k j : Nat) : (s.sramHeal k).sramShows j = if j = k then .clean else s.sramShows j := by
  unfold Chip.sramShows Chip.sramHeal
  rw [storeGet_put]
  split
  · next h => rw [if_pos h.symm]; rfl
  · next h => rw [if_neg (Ne.symm h)]

/-- Where the data of a word can be had, forming its code anew leaves every byte as it reads. -/
theorem Chip.sramByte_heal {s : Chip} {k : Nat} (h : s.sramIntact k = true) (b : Nat) : (s.sramHeal k).sramByte b = s.sramByte b := by
  have hi : (s.sramHeal k).sramIntact (sramWordOf b) = s.sramIntact (sramWordOf b) := by
    by_cases hb : sramWordOf b = k
    · rw [hb, h, Chip.sramIntact, Chip.sramShows_heal, if_pos rfl]
    · rw [Chip.sramIntact, Chip.sramShows_heal, if_neg hb, Chip.sramIntact]
  unfold Chip.sramByte
  rw [hi]
  rfl

theorem Chip.sramIntact_of_clean {s : Chip} {k : Nat} (h : s.sramShows k = .clean) : s.sramIntact k = true := by
  rw [Chip.sramIntact, h]

theorem Chip.sramIntact_of_corrected {s : Chip} {k : Nat} (h : s.sramShows k = .corrected) : s.sramIntact k = true := by
  rw [Chip.sramIntact, h]

theorem sramWordOf_align {a : Nat} (ha : sramBase ≤ a) : sramWordOf (a / 4 * 4) = sramWordOf a :=
  sramWordOf_of_mem ha (Nat.le_refl _) (by omega)

section
variable {s : Chip} {a : Nat} (ha : sramBase ≤ a) (hr : sramReadOnly a = false) (v : Nat)
include ha hr

theorem Chip.writeSram_clean (h : s.sramShows (sramWordOf a) = .clean) :
    s.writeSram a v = s.sramPutBytes (a / 4 * 4) (leBytes 4 v) := by
  simp only [Chip.writeSram, hr, Chip.sramPutWord, Chip.sramMerge, sramWordOf_align ha, h, Bool.false_eq_true, if_false]

theorem Chip.writeSram_corrected (h : s.sramShows (sramWordOf a) = .corrected) :
    s.writeSram a v = ((s.count .sramCorrCount_count).sramHeal (sramWordOf a)).sramPutBytes (a / 4 * 4) (leBytes 4 v) := by
  simp only [Chip.writeSram, hr, Chip.sramPutWord, Chip.sramMerge, Chip.sramAccess, sramWordOf_align ha, h, Bool.false_eq_true, if_false]

theorem Chip.writeSram_uncorrectable (h : s.sramShows (sramWordOf a) = .uncorrectable) :
    s.writeSram a v = s.draw.2.sramUncorrectable (sramWordOf a) := by
  simp only [Chip.writeSram, hr, Chip.sramPutWord, Chip.sramMerge, Chip.sramAccess, sramWordOf_align ha, h, Bool.false_eq_true, if_false]

/-- The bytes after a write that a corrected error does not hinder (R37). -/
theorem Chip.sramByte_writeSram_corrected (h : s.sramShows (sramWordOf a) = .corrected) (b : Nat) :
    (s.writeSram a v).sramByte b =
      if a / 4 * 4 ≤ b ∧ b < a / 4 * 4 + 4 then BitVec.ofNat 8 (v / 256 ^ (b - a / 4 * 4)) else s.sramByte b := by
  have hcount : (s.count .sramCorrCount_count).sramIntact (sramWordOf a) = true := Chip.sramIntact_of_corrected h
  have hheal : ((s.count .sramCorrCount_count).sramHeal (sramWordOf a)).sramIntact (sramWordOf a) = true :=
    Chip.sramIntact_of_clean (by rw [Chip.sramShows_heal, if_pos rfl])
  rw [Chip.writeSram_corrected ha hr v h, Chip.sramByte_putWord ha hheal, Chip.sramByte_heal hcount]
  rfl

/-- The registers after it: the error is counted, and nothing else (R35, R39). -/
theorem Chip.rd_writeSram_corrected (h : s.sramShows (sramWordOf a) = .corrected) (f : Fld) (i : Nat) :
    (s.writeSram a v).rd f i = (s.count .sramCorrCount_count).rd f i := by
  rw [Chip.writeSram_corrected ha hr v h, Chip.rd_sramPutBytes]
  rfl

/-- The codes after it: the word stands right, and every other word as it did (R35). -/
theorem Chip.sramShows_writeSram_corrected (h : s.sramShows (sramWordOf a) = .corrected) (j : Nat) :
    (s.writeSram a v).sramShows j = if j = sramWordOf a then .clean else s.sramShows j := by
  rw [Chip.writeSram_corrected ha hr v h, Chip.sramShows_putBytes, Chip.sramShows_heal]
  rfl

end

theorem uncorrAddr_lt {a : Nat} (ha : a < sramEnd) : (sramBase + 16 * sramWordOf a) / 16 < 2 ^ 28 := by
  unfold sramWordOf sramBase sramEnd at *
  omega

/-- The address reported of a word that lies in the SRAM is that of the word (R38). -/
theorem Chip.rd_sramUncorrectable_addr (s : Chip) {a : Nat} (ha : a < sramEnd) :
    (s.sramUncorrectable (sramWordOf a)).rd .sramUncorrAddr_addr = (sramBase + 16 * sramWordOf a) / 16 := by
  have hwidth : Fld.sramUncorrAddr_addr.spec.width = 28 := rfl
  rw [Chip.sramUncorrectable, Chip.rd_raise, Chip.rd_wr_ne _ _ (by decide), Chip.rd_wr_self, hwidth, Nat.mod_eq_of_lt (uncorrAddr_lt ha)]

theorem Chip.rd_sramUncorrectable_valid (s : Chip) (k : Nat) : (s.sramUncorrectable k).rd .sramUncorrAddr_valid = 1 := by
  rw [Chip.sramUncorrectable, Chip.rd_raise, Chip.rd_wr_self]
  rfl

theorem Chip.sramUncorrectable_events (s : Chip) (k : Nat) :
    (s.sramUncorrectable k).faults.events = s.faults.events ++ [originSram] := rfl

theorem Chip.sramUncorrectable_sram (s : Chip) (k : Nat) : (s.sramUncorrectable k).sram = s.sram := rfl

/-! ## Routing of an access by its address -/

/-- An access at `a` is not to SRAM, and its die answers (R15, R16). -/
def Chip.reaches (s : Chip) (a : Nat) : Prop := ¬(sramBase ≤ a ∧ a < sramEnd) ∧ (onRigging a && !s.on .idbStat_linkUp) = false

theorem Chip.reaches_atTime {s : Chip} {a : Nat} (t : Nat) (ha : a < sramBase ∨ sramEnd ≤ a)
    (hl : onRigging a = true → s.on .idbStat_linkUp = true) : (s.atTime t).reaches a := by
  refine ⟨by omega, ?_⟩
  rw [Chip.atTime_on]
  cases h : onRigging a with
  | false => rfl
  | true => rw [hl h]; rfl

section
variable {s : Chip} {a : Nat} (h : s.reaches a)
include h

theorem Chip.busWrite_reg {r : Reg} {i : Nat} (hr : findReg Reg.all a = some (r, i)) (v : Nat) (edges : Bool) :
    s.busWrite a v edges = s.writeReg r i v edges := by
  simp only [Chip.busWrite, h.1, h.2, hr, if_false, Bool.false_eq_true]

theorem Chip.busWrite_empty (hr : findReg Reg.all a = none) (v : Nat) (edges : Bool) : s.busWrite a v edges = s := by
  simp only [Chip.busWrite, h.1, h.2, hr, if_false, Bool.false_eq_true]

theorem Chip.busRead_reg {r : Reg} {i : Nat} (hr : findReg Reg.all a = some (r, i)) : s.busRead a = s.readReg r i := by
  simp only [Chip.busRead, h.1, h.2, hr, if_false, Bool.false_eq_true]

theorem Chip.busRead_empty (hr : findReg Reg.all a = none) : s.busRead a = (0, s) := by
  simp only [Chip.busRead, h.1, h.2, hr, if_false, Bool.false_eq_true]

end

theorem Chip.busWrite_sram {s : Chip} {a : Nat} (h1 : sramBase ≤ a) (h2 : a < sramEnd) (v : Nat) (edges : Bool) :
    s.busWrite a v edges = s.writeSram a v := by
  rw [Chip.busWrite, if_pos ⟨h1, h2⟩]

/-- The registers whose write has a row of its own. -/
def specialRegs : List Reg := [.modeReq, .budgetMargin, .liveWord, .pllPlanReq, .laneCtrl, .eeCommit, .wcLatch, .fcKick, .poArmNs]

theorem Chip.writeReg_plain (s : Chip) {r : Reg} (hr : r ∉ specialRegs) (i v : Nat) (edges : Bool) :
    s.writeReg r i v edges = s.writeFields r i v := by
  unfold Chip.writeReg
  split
  case h_10 => rfl
  all_goals exact absurd hr (by decide)

/-- A register that is no half of a pair with a shadow is read plainly. -/
theorem Chip.readReg_plain (s : Chip) {r : Reg} (h1 : highHalfOf r = none) (h2 : isHighHalf r = none) (i : Nat) :
    s.readReg r i = (s.readWord r i, s.clearOnRead r i) := by
  simp only [Chip.readReg, h1, h2]

theorem Chip.readReg_low (s : Chip) {r : Reg} {f : Fld} (h : highHalfOf r = some f) (i : Nat) : s.readReg r i = s.readLow r f i := by
  simp only [Chip.readReg, h]

theorem Chip.readReg_high (s : Chip) {r : Reg} {f : Fld} (h1 : highHalfOf r = none) (h2 : isHighHalf r = some f) (i : Nat) :
    s.readReg r i = s.readHigh f i := by
  simp only [Chip.readReg, h1, h2]

/-! ## The commands of the bus -/

theorem completes_read {t : Nat} {a : Word} {s : State} {P : Chip → Prop} {c : Instr}
    (hc : c ∈ [Instr.rcRead t a, .lowHalfRead t a, .highHalfRead t a, .riggingAccess t a none])
    (h : P ((s.chip.atTime t).readAt a.toNat)) : Completes c s P := by
  simp only [List.mem_cons, List.not_mem_nil, or_false] at hc
  rcases hc with rfl | rfl | rfl | rfl <;> exact ⟨_, rfl, h⟩

theorem completes_write {t : Nat} {a v : Word} {edges : Bool} {s : State} {P : Chip → Prop} {c : Instr}
    (hc : c ∈ [Instr.registerWrite t a v edges, .w1cWrite t a v, .riggingAccess t a (some v)])
    (h : ∀ e, P ((s.chip.atTime t).busWrite a.toNat v.toNat e)) : Completes c s P := by
  simp only [List.mem_cons, List.not_mem_nil, or_false] at hc
  rcases hc with rfl | rfl | rfl
  · exact ⟨_, rfl, h edges⟩
  · exact ⟨_, rfl, h false⟩
  · exact ⟨_, rfl, h false⟩

/-! ## Fields after a write, and after a read that clears -/

theorem Chip.rd_writeFields_mem (s : Chip) {r : Reg} {f : Fld} (hf : f ∈ r.spec.fields) (i v : Nat) :
    (s.writeFields r i v).rd f i = f.afterWrite v (s.rd f i) := by
  rw [Chip.writeFields_eq_each]
  exact (writeField_rewrites i v).rd_each_mem r.fields_nodup s hf

theorem Chip.rd_writeFields_other (s : Chip) {r : Reg} {f : Fld} {i j : Nat} (v : Nat) (h : f ∉ r.spec.fields ∨ j ≠ i) :
    (s.writeFields r i v).rd f j = s.rd f j := by
  rw [Chip.writeFields_eq_each]
  exact (writeField_rewrites i v).rd_each_other _ s h

theorem Chip.writeFields_frame (s : Chip) (r : Reg) (i v : Nat) :
    s.writeFields r i v = { s with regs := (s.writeFields r i v).regs } := by
  rw [Chip.writeFields_eq_each]
  exact (writeField_rewrites i v).each_frame _ s

theorem mem_rcFields {r : Reg} {f : Fld} :
    f ∈ r.spec.fields.filter (fun f => f.spec.access == .rc) ↔ f ∈ r.spec.fields ∧ f.spec.access = .rc := by
  rw [List.mem_filter, beq_iff_eq]

theorem Chip.rd_clearOnRead_rc (s : Chip) {r : Reg} {f : Fld} (hf : f ∈ r.spec.fields) (hrc : f.spec.access = .rc) (i : Nat) :
    (s.clearOnRead r i).rd f i = 0 :=
  (clearField_rewrites i).rd_each_mem (r.fields_nodup.filter _) s (mem_rcFields.mpr ⟨hf, hrc⟩)

theorem Chip.rd_clearOnRead_other (s : Chip) {r : Reg} {f : Fld} {i j : Nat}
    (h : f ∉ r.spec.fields ∨ f.spec.access ≠ .rc ∨ j ≠ i) : (s.clearOnRead r i).rd f j = s.rd f j := by
  refine (clearField_rewrites i).rd_each_other _ s ?_
  rw [mem_rcFields, Decidable.not_and_iff_not_or_not, or_assoc]
  exact h

theorem Chip.clearOnRead_frame (s : Chip) (r : Reg) (i : Nat) : s.clearOnRead r i = { s with regs := (s.clearOnRead r i).regs } :=
  (clearField_rewrites i).each_frame _ s

/-! ## The halves of a 64-bit register -/

theorem Chip.shadow_setShadow (s : Chip) (f : Fld) (i : Nat) (x : Shadow) : (s.setShadow f i x).shadow f i = x :=
  storeGet_put_self _ _ _ _

theorem Chip.shadow_congr {s u : Chip} (h : u.bus.shadows = s.bus.shadows) (f : Fld) (i : Nat) : u.shadow f i = s.shadow f i := by
  unfold Chip.shadow
  rw [h]

/-- What the model's functions make of a row of the table of halves (R6, R368). -/
structure HalfRow (i : Nat) (lo hi : Reg) (f stale : Fld) (bit n : Nat) : Prop where
  low : highHalfOf lo = some f
  highNoLow : highHalfOf hi = none
  high : isHighHalf hi = some f
  stale : ∀ s : Chip, (s.setStale f i).rdBit stale bit n = true
  bus : ∀ s : Chip, (s.setStale f i).bus = s.bus

theorem Chip.rdBit_wr_one (s : Chip) {f : Fld} (hf : f.spec.width = 1) : (s.wr f 1).rdBit f 0 = true := by
  rw [Chip.rdBit, Chip.rd_wr_self, hf]; rfl

theorem halfRow_of_mem {i : Nat} {lo hi : Reg} {f stale : Fld} {bit n : Nat} (h : (lo, hi, f, stale, bit, n) ∈ halfTable i) :
    HalfRow i lo hi f stale bit n := by
  simp only [halfTable, List.mem_cons, List.not_mem_nil, or_false, Prod.mk.injEq] at h
  have h28 : i % 28 < 28 := Nat.mod_lt i (by decide)
  have h4 : i % 4 < 4 := Nat.mod_lt i (by decide)
  rcases h with ⟨rfl, rfl, rfl, rfl, rfl, rfl⟩ | ⟨rfl, rfl, rfl, rfl, rfl, rfl⟩ | ⟨rfl, rfl, rfl, rfl, rfl, rfl⟩ |
    ⟨rfl, rfl, rfl, rfl, rfl, rfl⟩ | ⟨rfl, rfl, rfl, rfl, rfl, rfl⟩ | ⟨rfl, rfl, rfl, rfl, rfl, rfl⟩
  · exact ⟨rfl, rfl, rfl, fun s => s.rdBit_wr_one rfl, fun _ => rfl⟩
  · exact ⟨rfl, rfl, rfl, fun s => s.rdBit_wr_one rfl, fun _ => rfl⟩
  · exact ⟨rfl, rfl, rfl, fun s => s.rdBit_wrBit_true _ _ h28, fun _ => rfl⟩
  · exact ⟨rfl, rfl, rfl, fun s => s.rdBit_wrBit_true _ _ h28, fun _ => rfl⟩
  · exact ⟨rfl, rfl, rfl, fun s => s.rdBit_wrBit_true _ _ h4, fun _ => rfl⟩
  · exact ⟨rfl, rfl, rfl, fun s => s.rdBit_wr_one rfl, fun _ => rfl⟩

/-- A read of the low half latches the high half (R5, R6). -/
theorem Chip.shadow_readLow (s : Chip) (r : Reg) (f : Fld) (i : Nat) : (s.readLow r f i).2.shadow f i = ⟨s.readField f i, true⟩ := by
  rw [← s.shadow_setShadow f i ⟨s.readField f i, true⟩]
  refine Chip.shadow_congr ?_ f i
  unfold Chip.readLow
  dsimp only
  split <;> rfl

/-- Both halves of a 64-bit pair read 0 after it was set to 0. -/
theorem Chip.rd_wr64_zero (s : Chip) {lo hi : Fld} (h : hi ≠ lo) (i : Nat) :
    (s.wr64 lo hi 0 i).rd lo i = 0 ∧ (s.wr64 lo hi 0 i).rd hi i = 0 := by
  unfold Chip.wr64
  rw [Chip.rd_wr_self, Chip.rd_wr_ne _ _ fun k => h k.1, Chip.rd_wr_self]
  exact ⟨Nat.zero_mod _, by rw [Nat.zero_div, Nat.zero_mod]⟩

/-- A read of the low half resets the delta registers, and leaves every other register (R5, R365). -/
theorem Chip.regs_readLow (s : Chip) (r : Reg) (f : Fld) (i : Nat) :
    if r = .mptDeltaLo then (s.readLow r f i).2.rd .mptDeltaLo_energy i = 0 ∧ (s.readLow r f i).2.rd .mptDeltaHi_energy i = 0
    else (s.readLow r f i).2.regs = s.regs := by
  unfold Chip.readLow
  dsimp only
  split
  · exact Chip.rd_wr64_zero _ (by decide) i
  · rfl

/-- A read of the high half returns the shadow, keeps its value, and asks for another read of the low half before the next (R6). -/
theorem Chip.shadow_readHigh (s : Chip) {f : Fld} {i : Nat} (hbus : (s.setStale f i).bus = s.bus) :
    (s.readHigh f i).2.shadow f i = ⟨(s.shadow f i).value, false⟩ := by
  unfold Chip.readHigh
  dsimp only
  cases h : (s.shadow f i).lowRead with
  | true => rw [if_pos rfl, Chip.shadow_setShadow]
  | false => rw [if_neg Bool.false_ne_true, Chip.shadow_congr (congrArg BusState.shadows hbus), ← h]

/-- STALE is set exactly where the low half was not read before (R6). -/
theorem Chip.stale_readHigh (s : Chip) {f stale : Fld} {i bit n : Nat} (hst : (s.setStale f i).rdBit stale bit n = true) :
    if (s.shadow f i).lowRead then (s.readHigh f i).2.regs = s.regs else (s.readHigh f i).2.rdBit stale bit n = true := by
  unfold Chip.readHigh
  dsimp only
  split
  · rfl
  · exact hst

/-! ## A read command at an address that answers -/

section
variable {s : Chip} {a : Nat} (h : s.reaches a)
include h

theorem Chip.readAt_reg {r : Reg} {i : Nat} (hr : findReg Reg.all a = some (r, i)) :
    s.readAt a = { (s.readReg r i).2 with bus := { (s.readReg r i).2.bus with lastRead := BitVec.ofNat 32 (s.readReg r i).1 } } := by
  rw [Chip.readAt, Chip.busRead_reg h hr]

theorem Chip.readAt_empty (hr : findReg Reg.all a = none) : s.readAt a = { s with bus := { s.bus with lastRead := 0 } } := by
  rw [Chip.readAt, Chip.busRead_empty h hr]
  rfl

theorem Chip.readAt_plain {r : Reg} {i : Nat} (hr : findReg Reg.all a = some (r, i)) (h1 : highHalfOf r = none)
    (h2 : isHighHalf r = none) :
    s.readAt a = { s with regs := (s.clearOnRead r i).regs, bus := { s.bus with lastRead := BitVec.ofNat 32 (s.readWord r i) } } := by
  rw [Chip.readAt_reg h hr, Chip.readReg_plain s h1 h2, s.clearOnRead_frame r i]

end

end Sys2Proof.Machine
end

section
/-! PROOF. The statements about accesses on the register bus. -/

open Sys2Proof Sys2Proof.Machine

/-- Settles O1: both clauses are the two branches of `step`. -/
theorem stepTakesTheFrontOfTheQueue : Obligations.StepTakesTheFrontOfTheQueue := by
  unfold Obligations.StepTakesTheFrontOfTheQueue
  refine ⟨fun c rest s => rfl, fun s h => ?_⟩
  rw [step, h]

/-- Settles O6, by the route of each address: a plain register is read and its RC fields clear; an empty address reads 0. -/
theorem readsClearRcFieldsAndEmptyAddressesReadZero : Obligations.ReadsClearRcFieldsAndEmptyAddressesReadZero := by
  unfold Obligations.ReadsClearRcFieldsAndEmptyAddressesReadZero
  refine ⟨fun s t a r i ha hl hr h1 h2 c hc => ?_, fun s t a v edges ha hl hr => ⟨fun c hc => ?_, fun c hc => ?_⟩⟩
  · have hc : c ∈ [Instr.rcRead t a, .lowHalfRead t a, .highHalfRead t a, .riggingAccess t a none] := by
      simp only [List.mem_cons, List.not_mem_nil, or_false] at hc ⊢
      exact hc.imp_right fun h => .inr (.inr h)
    refine completes_read hc ?_
    rw [Chip.readAt_plain (Chip.reaches_atTime t ha hl) hr h1 h2]
    refine ⟨rfl, fun f hf hrc => Chip.rd_clearOnRead_rc (s.chip.atTime t) hf hrc i, fun f j hj => ?_, by rw [Chip.atTime_bus]⟩
    exact (Chip.rd_clearOnRead_other (s.chip.atTime t) hj).trans (Chip.atTime_rd _ _ f j)
  · refine completes_write hc fun e => ?_
    exact Chip.busWrite_empty (Chip.reaches_atTime t ha hl) hr _ e
  · refine completes_read hc ?_
    rw [Chip.readAt_empty (Chip.reaches_atTime t ha hl) hr]
    exact ⟨rfl, by rw [Chip.atTime_bus]⟩

/-- Settles O7: every row of the table of halves is a `HalfRow`, so the two reads go by way of `Chip.readLow` and `Chip.readHigh`. -/
theorem halvesReadThroughTheShadow : Obligations.HalvesReadThroughTheShadow := by
  unfold Obligations.HalvesReadThroughTheShadow
  rintro s t a i hl ha ⟨lo, hi, f, stale, bit, n⟩ he
  have row := halfRow_of_mem he
  have hreach := Chip.reaches_atTime t ha hl
  have hshadow : (s.chip.atTime t).shadow f i = s.chip.shadow f i := Chip.shadow_congr (by rw [Chip.atTime_bus]) f i
  refine ⟨fun hr => ?_, fun hr => ?_⟩
  · refine completes_read (t := t) (a := a) (.tail _ (.head _)) ?_
    rw [Chip.readAt_reg hreach hr, Chip.readReg_low _ row.low]
    refine ⟨rfl, Chip.shadow_readLow (s.chip.atTime t) lo f i, ?_⟩
    rw [← Chip.atTime_regs s.chip t]
    exact Chip.regs_readLow (s.chip.atTime t) lo f i
  · refine completes_read (t := t) (a := a) (.tail _ (.tail _ (.head _))) ?_
    rw [Chip.readAt_reg hreach hr, Chip.readReg_high _ row.highNoLow row.high, ← hshadow]
    have hnew := Chip.shadow_readHigh (s.chip.atTime t) (row.bus _)
    refine ⟨rfl, (congrArg Shadow.lowRead hnew :), (congrArg Shadow.value hnew :), ?_⟩
    rw [← Chip.atTime_regs s.chip t]
    exact Chip.stale_readHigh (s.chip.atTime t) (row.stale _)

/-- Settles O4: a plain register takes the write field by field, and a word of SRAM by what its code shows. -/
theorem writesActByAccessCodeAndWord : Obligations.WritesActByAccessCodeAndWord := by
  unfold Obligations.WritesActByAccessCodeAndWord
  refine ⟨fun s t a v edges r i ha hl hr hplain c hc => ?_, fun s t a v edges h1 h2 hro => ?_⟩
  · have hc : c ∈ [Instr.registerWrite t a v edges, .w1cWrite t a v, .riggingAccess t a (some v)] := by
      simp only [List.mem_cons, List.not_mem_nil, or_false] at hc ⊢
      exact hc.imp_right .inl
    refine completes_write hc fun e => ?_
    rw [Chip.busWrite_reg (Chip.reaches_atTime t ha hl) hr, Chip.writeReg_plain _ hplain]
    refine ⟨fun f hf => ?_, fun f j hj => ?_, ?_⟩
    · rw [Chip.rd_writeFields_mem _ hf, Chip.atTime_rd]
      refine ⟨fun hrw => by rw [Fld.afterWrite, hrw], fun hw n hn => bitAt_afterWrite_w1c hw _ _ hn, fun h3 h4 => ?_⟩
      exact Fld.afterWrite_kept h3 h4 _ _
    · rw [Chip.rd_writeFields_other _ _ hj, Chip.atTime_rd]
    · exact (Chip.writeFields_frame _ r i _).trans (Chip.atTime_with_regs _ _ _)
  · have hwrite {P : Chip → Prop} (h : P ((s.chip.atTime t).writeSram a.toNat v.toNat)) : Completes (.registerWrite t a v edges) s P :=
      completes_write (edges := edges) List.mem_cons_self fun e => by rw [Chip.busWrite_sram h1 h2]; exact h
    refine ⟨fun hk => hwrite ?_, fun hk => hwrite ?_, fun hk => hwrite ?_⟩ <;> rw [← Chip.sramShows_atTime s.chip t] at hk
    · rw [Chip.writeSram_clean h1 hro _ hk, ← Chip.atTime_sram s.chip t]
      refine ⟨fun b => ?_, Chip.sramPutBytes_frame _ _ _⟩
      rw [Chip.sramByte_putWord h1 (Chip.sramIntact_of_clean hk), Chip.sramByte_atTime]
    · refine ⟨fun b => ?_, ?_, fun f i hf => ?_, fun j => ?_⟩
      · rw [Chip.sramByte_writeSram_corrected h1 hro _ hk, Chip.sramByte_atTime]
      · rw [Chip.counted, Chip.rd_writeSram_corrected h1 hro _ hk, Chip.rd_count_self, Chip.atTime_rd]
      · rw [Chip.rd_writeSram_corrected h1 hro _ hk, Chip.rd_count_ne _ _ (by rintro ⟨rfl, rfl⟩; exact hf List.mem_cons_self), Chip.atTime_rd]
      · rw [Chip.sramShows_writeSram_corrected h1 hro _ hk, Chip.sramShows_atTime]
    · rw [Chip.writeSram_uncorrectable h1 hro _ hk]
      refine ⟨Chip.rd_sramUncorrectable_addr _ h2, Chip.rd_sramUncorrectable_valid _ _, ?_, ?_⟩
      · rw [Chip.sramUncorrectable_events, Chip.draw_faults, Chip.atTime_faults]
      · rw [Chip.sramUncorrectable_sram, Chip.draw_sram, Chip.atTime_sram]

end

section
/-! PROOF. The return of the active reference (R116, R118), and why the statement about the timebase fails: a register field is a plain
number in the model's state, and that of ref_present need not be one bit wide. -/

namespace Sys2Proof.Machine

/-- A command that always goes on answers the one next state that its function gives. -/
theorem completes_does {c : Instr} {s : State} {f : Chip → Chip} (h : exec c s = s.does f) {P : Chip → Prop} :
    Completes c s P ↔ P (f s.chip) := by
  rw [Completes, h, State.does_eq]
  constructor
  · rintro ⟨u, hu, hP⟩
    obtain rfl : f s.chip = u := congrArg State.chip (Host.Outcome.next.inj hu)
    exact hP
  · exact fun hP => ⟨_, rfl, hP⟩

theorem completes_referenceReturn {t : Nat} {s : State} {P : Chip → Prop} :
    Completes (.referenceReturn t) s P ↔ P (s.chip.atTime t).referenceReturn :=
  completes_does (f := fun c => (c.atTime t).referenceReturn) rfl

/-- REFERENCE_RETURN sets ref_present where it is 0, and leaves every other value of it (R118). -/
theorem Chip.rd_referenceReturn (s : Chip) :
    s.referenceReturn.rd .pllStat_refPresent = if s.rd .pllStat_refPresent = 0 then 1 else s.rd .pllStat_refPresent := by
  unfold Chip.referenceReturn Chip.on
  by_cases h : s.rd .pllStat_refPresent = 0
  · rw [h, if_pos rfl]
    exact s.rd_wr_self .pllStat_refPresent 1 0
  · rw [if_pos (bne_iff_ne.mpr h), if_neg h]

/-- So ref_present reads 1 after the return exactly where it held one bit before. -/
theorem Chip.rd_referenceReturn_eq_one (s : Chip) : s.referenceReturn.rd .pllStat_refPresent = 1 ↔ s.rd .pllStat_refPresent ≤ 1 := by
  rw [Chip.rd_referenceReturn]
  split <;> omega

/-- A state whose ref_present holds 2, which its one bit cannot show: the register store is outside the canonical form `Registers.wf`. -/
def State.wideRefPresent : State := { chip := { regs := [(Fld.pllStat_refPresent.key 0, 2)] } }

theorem State.rd_wideRefPresent : State.wideRefPresent.chip.rd .pllStat_refPresent = 2 := by decide

end Sys2Proof.Machine
end

section
/-! PROOF. The statement about the timebase. -/

open Sys2Proof Sys2Proof.Machine

/-- Refutes O39: it speaks of every state, canonical or not, and says without a condition that ref_present reads 1 after REFERENCE_RETURN. Where
ref_present holds 2 before, the reference counts as present, the command changes nothing, and ref_present reads 2 still. -/
theorem not_timebaseLocksHopsAndIsLost : ¬ Obligations.TimebaseLocksHopsAndIsLost := by
  unfold Obligations.TimebaseLocksHopsAndIsLost
  intro h
  obtain ⟨-, -, -, -, -, -, -, -, hreturn, -⟩ := h .wideRefPresent 0
  obtain ⟨hpresent, -, -⟩ := completes_referenceReturn.mp hreturn
  have hbit := (Chip.rd_referenceReturn_eq_one _).mp hpresent
  rw [Chip.atTime_rd, State.rd_wideRefPresent] at hbit
  exact absurd hbit (by decide)

end

section
/-! PROOF. The Granary (R531 to R534): what a grant does, what its walk keeps, and when one request is granted at once. -/

namespace Sys2Proof.Machine

/-! ## Who holds leave and who waits for it -/

theorem Chip.holdsLeave_iff {s : Chip} {w : Leave} : s.holdsLeave w = true ↔ ∃ r ∈ s.thermal.grants, r.what = w := by
  simp only [Chip.holdsLeave, List.any_eq_true, beq_iff_eq]

theorem Chip.waitsLeave_iff {s : Chip} {w : Leave} : s.waitsLeave w = true ↔ ∃ r ∈ s.thermal.queue, r.what = w := by
  simp only [Chip.waitsLeave, List.any_eq_true, beq_iff_eq]

theorem Chip.not_waitsLeave {s : Chip} {w : Leave} (h : s.waitsLeave w = false) {r : LeaveRequest} (hr : r ∈ s.thermal.queue) :
    r.what ≠ w := fun e => Bool.false_ne_true (h.symm.trans (Chip.waitsLeave_iff.mpr ⟨r, hr, e⟩))

/-- Whether a request waits or holds leave depends on the Granary's lists alone. -/
theorem Chip.asks_congr {s u : Chip} (h : u.thermal = s.thermal) {w : Leave} (hs : s.asks w) : u.asks w := by
  unfold Chip.asks Chip.holdsLeave Chip.waitsLeave at *
  rwa [h]

/-! ## A grant -/

/-- A grant moves the request from the queue to the grants. -/
theorem Chip.grant_thermal (s : Chip) (r : LeaveRequest) :
    (s.grant r).thermal = { s.thermal with queue := s.thermal.queue.filter (· != r), grants := s.thermal.grants ++ [r] } := by
  unfold Chip.grant
  dsimp only
  split <;> rfl

/-- Beside the charge, a grant changes the power granted and the count of grants. -/
theorem Chip.rd_grant (s : Chip) (r : LeaveRequest) {f : Fld} (hf : f ≠ .huStat_charge) (i : Nat) :
    (s.grant r).rd f i = ((s.wr .grPower_granted (s.rd .grPower_granted + r.what.cost)).count .grCount_grants).rd f i := by
  unfold Chip.grant
  dsimp only
  split
  · exact Chip.rd_wr_ne _ _ fun h => hf h.1.symm
  · rfl

theorem Chip.rd_grant_granted (s : Chip) (r : LeaveRequest) :
    (s.grant r).rd .grPower_granted = (s.rd .grPower_granted + r.what.cost) % 65536 := by
  rw [Chip.rd_grant s r (by decide), Chip.rd_count_ne _ _ (by decide), Chip.rd_wr_self]
  rfl

theorem Chip.counted_grant (s : Chip) (r : LeaveRequest) : (s.grant r).counted s .grCount_grants := by
  rw [Chip.counted, Chip.rd_grant s r (by decide), Chip.rd_count_self, Chip.rd_wr_ne _ _ (by decide)]

theorem Chip.holdsLeave_grant {s : Chip} {r : LeaveRequest} {w : Leave} :
    (s.grant r).holdsLeave w = true ↔ s.holdsLeave w = true ∨ r.what = w := by
  simp only [Chip.holdsLeave_iff, Chip.grant_thermal, List.mem_append, List.mem_singleton, or_and_right, exists_or, exists_eq_left]

/-- A grant forgets no request: the one granted holds its leave, and every other stands where it stood. -/
theorem Chip.asks_grant {s : Chip} {w : Leave} (r : LeaveRequest) (h : s.asks w) : (s.grant r).asks w := by
  rcases h with hwaits | hholds
  · obtain ⟨x, hx, rfl⟩ := Chip.waitsLeave_iff.mp hwaits
    by_cases e : x = r
    · exact .inr (Chip.holdsLeave_grant.mpr (.inr (congrArg LeaveRequest.what e.symm)))
    · refine .inl (Chip.waitsLeave_iff.mpr ⟨x, ?_, rfl⟩)
      rw [Chip.grant_thermal]
      exact List.mem_filter.mpr ⟨hx, bne_iff_ne.mpr e⟩
  · exact .inr (Chip.holdsLeave_grant.mpr (.inl hholds))

/-! ## The walk over the queue -/

/-- What setting a request aside keeps, and every grant of a request of the list that stays within 2 W, the walk keeps. -/
theorem granaryWalk_induction {P : Chip → Prop} (haside : ∀ u, P u → P (u.count .grCount_setAside)) (l : List LeaveRequest)
    (hgrant : ∀ u, ∀ r ∈ l, u.rd .grPower_granted + r.what.cost ≤ 2000 → P u → P (u.grant r)) (s : Chip) (hs : P s) :
    P (granaryWalk s l) := by
  induction l generalizing s with
  | nil => exact hs
  | cons r rest ih =>
    have hrest := ih fun u x hx => hgrant u x (List.mem_cons_of_mem _ hx)
    rw [granaryWalk]
    split
    · exact hrest s hs
    · split
      · exact hrest _ (haside s hs)
      · split
        · exact hs
        · dsimp only
          split
          · exact hs
          · next hfits => exact hrest _ (hgrant s r List.mem_cons_self (by omega) hs)

theorem mem_of_mem_walkOrder {q : List LeaveRequest} {r : LeaveRequest} (h : r ∈ walkOrder q) : r ∈ q := by
  simp only [walkOrder, List.mem_append, List.mem_filter] at h
  obtain ((h | h) | h) | h := h <;> exact h.1

/-- The state whose walk the Granary begins: the requests that may not be asked for any longer are gone from the queue. -/
def Chip.granaryStart (s : Chip) : Chip :=
  { s with thermal := { s.thermal with queue := s.thermal.queue.filter fun r => s.mayAsk r.what } }

theorem Chip.granary_eq (s : Chip) : s.granary = granaryWalk s.granaryStart (walkOrder s.granaryStart.thermal.queue) := rfl

theorem Chip.mem_granaryStart {s : Chip} {r : LeaveRequest} :
    r ∈ s.granaryStart.thermal.queue ↔ r ∈ s.thermal.queue ∧ s.mayAsk r.what = true := List.mem_filter

/-- What the walk's steps keep, an examination of the queue keeps. -/
theorem Chip.granary_induction {P : Chip → Prop} {s : Chip} (hs : P s.granaryStart) (haside : ∀ u, P u → P (u.count .grCount_setAside))
    (hgrant : ∀ u, ∀ r ∈ s.thermal.queue, u.rd .grPower_granted + r.what.cost ≤ 2000 → P u → P (u.grant r)) : P s.granary := by
  rw [Chip.granary_eq]
  refine granaryWalk_induction haside _ (fun u r hr => hgrant u r ?_) _ hs
  exact (Chip.mem_granaryStart.mp (mem_of_mem_walkOrder hr)).1

/-- What is granted never grows past 2 W (R531). -/
theorem Chip.granary_bounded (s : Chip) : s.granary.rd .grPower_granted ≤ max 2000 (s.rd .grPower_granted) := by
  refine Chip.granary_induction (P := fun u => u.rd .grPower_granted ≤ max 2000 (s.rd .grPower_granted)) ?_ (fun u hu => ?_)
    fun u r _ hfits _ => ?_
  · exact Nat.le_max_right ..
  · rwa [Chip.rd_count_ne _ _ (by decide)]
  · rw [Chip.rd_grant_granted]
    omega

/-- A request that may be asked for waits after the walk, or holds its leave. -/
theorem Chip.asks_granary {s : Chip} {w : Leave} (hmay : s.mayAsk w = true) (h : s.asks w) : s.granary.asks w := by
  refine Chip.granary_induction (P := fun u => u.asks w) ?_ (fun u hu => ?_) fun u r _ _ hu => Chip.asks_grant r hu
  · rcases h with hwaits | hholds
    · obtain ⟨x, hx, rfl⟩ := Chip.waitsLeave_iff.mp hwaits
      exact .inl (Chip.waitsLeave_iff.mpr ⟨x, Chip.mem_granaryStart.mpr ⟨hx, hmay⟩, rfl⟩)
    · exact .inr hholds
  · exact Chip.asks_congr (Chip.count_thermal ..) hu

/-- Nothing that does not wait comes to hold leave by the walk. -/
theorem Chip.holdsLeave_granary {s : Chip} {w : Leave} (hwaits : s.waitsLeave w = false) (hholds : s.holdsLeave w = false) :
    s.granary.holdsLeave w = false := by
  refine Chip.granary_induction (P := fun u => u.holdsLeave w = false) hholds (fun u hu => ?_) fun u r hr _ hu => ?_
  · unfold Chip.holdsLeave at *
    rwa [Chip.count_thermal]
  · rw [← Bool.not_eq_true, Chip.holdsLeave_grant, hu]
    exact fun h => h.elim Bool.false_ne_true (Chip.not_waitsLeave hwaits hr)

/-! ## A request that stands alone -/

theorem Leave.cls_lt (w : Leave) : w.cls < 4 := by cases w <;> simp [Leave.cls]

theorem walkOrder_singleton (r : LeaveRequest) : walkOrder [r] = [r] := by
  have hcls : r.what.cls = 0 ∨ r.what.cls = 1 ∨ r.what.cls = 2 ∨ r.what.cls = 3 := by
    have := r.what.cls_lt
    omega
  rcases hcls with h | h | h | h <;> simp [walkOrder, h]

/-- The conditions of a grant (R531 to R533, R547): no derivation in progress for an ECDSA operation, the headroom not below the floor
of the class, fewer than two slices under leave for a slice, and the cost within P_lim and within 2 W. -/
structure Chip.Admits (s : Chip) (w : Leave) : Prop where
  derived : (w.isEcdsa && s.security.rederiving) = false
  floor : (16 * s.rd .grClass_floor w.cls : Nat) ≤ s.rdInt .grStat_headroom
  slices : w.isSlice = true → (s.thermal.grants.filter (·.what.isSlice)).length < 2
  power : s.powerBase + s.rd .grPower_granted + w.cost ≤ 100 * s.rd .grCfg_pLim
  total : s.rd .grPower_granted + w.cost ≤ 2000

/-- The walk grants a request that the Granary admits, and goes on. -/
theorem granaryWalk_admitted {s : Chip} {r : LeaveRequest} (h : s.Admits r.what) (rest : List LeaveRequest) :
    granaryWalk s (r :: rest) = granaryWalk (s.grant r) rest := by
  have hslices : ¬ (r.what.isSlice && decide (2 ≤ (s.thermal.grants.filter (·.what.isSlice)).length)) = true := by
    rw [Bool.and_eq_true, decide_eq_true_iff]
    exact fun ⟨hw, hn⟩ => Nat.not_lt.mpr hn (h.slices hw)
  have hfits := h.power
  have htotal := h.total
  rw [granaryWalk, if_neg (by simp [h.derived]), if_neg (Int.not_lt.mpr h.floor), if_neg hslices]
  exact if_neg (by omega)

/-- A request that waits alone and that the Granary admits is granted (R533). -/
theorem Chip.granary_alone {s : Chip} {r : LeaveRequest} (hqueue : s.thermal.queue = [r]) (hmay : s.mayAsk r.what = true)
    (h : s.Admits r.what) : s.granary = s.grant r := by
  have hstart : s.granaryStart.thermal.queue = [r] := by
    show s.thermal.queue.filter _ = [r]
    rw [hqueue]
    exact List.filter_cons_of_pos hmay
  have hsame : s.granaryStart = s := by
    unfold Chip.granaryStart at hstart ⊢
    rw [show s.thermal.queue.filter _ = _ from hstart, ← hqueue]
  rw [Chip.granary_eq, hstart, walkOrder_singleton, hsame, granaryWalk_admitted h]
  rfl

/-! ## A request for leave -/

/-- The state in which a request joins the queue. -/
def Chip.joined (s : Chip) (w : Leave) : Chip :=
  { s with thermal := { s.thermal with queue := s.thermal.queue ++ [{ what := w, since := s.clock.now }] } }

theorem Chip.askLeave_held {s : Chip} {w : Leave} (h : s.asks w) : s.askLeave w = s := by
  rw [Chip.askLeave, if_pos]
  rcases h with h | h <;> simp [h]

theorem Chip.askLeave_refused {s : Chip} {w : Leave} (h : s.mayAsk w = false) : s.askLeave w = s := by
  rw [Chip.askLeave, if_pos]
  simp [h]

theorem Chip.askLeave_new {s : Chip} {w : Leave} (hmay : s.mayAsk w = true) (h : ¬ s.asks w) :
    s.askLeave w = (s.joined w).granary := by
  obtain ⟨hwaits, hholds⟩ := not_or.mp h
  rw [Chip.askLeave, if_neg]
  · rfl
  · simp [hmay, hwaits, hholds]

theorem Chip.asks_joined (s : Chip) (w : Leave) : (s.joined w).asks w :=
  .inl (Chip.waitsLeave_iff.mpr ⟨_, List.mem_append_right _ List.mem_cons_self, rfl⟩)

/-- A request that may be asked for waits or holds its leave. -/
theorem Chip.asks_askLeave {s : Chip} {w : Leave} (hmay : s.mayAsk w = true) : (s.askLeave w).asks w := by
  by_cases h : s.asks w
  · rwa [Chip.askLeave_held h]
  · rw [Chip.askLeave_new hmay h]
    exact Chip.asks_granary (s := s.joined w) hmay (s.asks_joined w)

theorem Chip.askLeave_bounded {s : Chip} {w : Leave} (hmay : s.mayAsk w = true) :
    (s.askLeave w).rd .grPower_granted ≤ max 2000 (s.rd .grPower_granted) := by
  by_cases h : s.asks w
  · rw [Chip.askLeave_held h]
    exact Nat.le_max_right ..
  · rw [Chip.askLeave_new hmay h]
    exact (s.joined w).granary_bounded

/-- A request that finds the queue empty and that the Granary admits is granted at once, with its cost (R531, R533). -/
theorem Chip.askLeave_granted {s : Chip} {w : Leave} (hmay : s.mayAsk w = true) (hqueue : s.thermal.queue = [])
    (hholds : s.holdsLeave w = false) (h : s.Admits w) :
    let u := s.askLeave w
    u.holdsLeave w = true ∧ u.thermal.queue = [] ∧ u.rd .grPower_granted = s.rd .grPower_granted + w.cost ∧
      u.counted s .grCount_grants := by
  have hnew : ¬ s.asks w := by
    simp [Chip.asks, hholds, Chip.waitsLeave, hqueue]
  have hjoined : (s.joined w).thermal.queue = [{ what := w, since := s.clock.now }] := by
    show s.thermal.queue ++ _ = _
    rw [hqueue, List.nil_append]
  have hadmits : (s.joined w).Admits w := ⟨h.derived, h.floor, h.slices, h.power, h.total⟩
  rw [Chip.askLeave_new hmay hnew, Chip.granary_alone hjoined hmay hadmits]
  refine ⟨Chip.holdsLeave_grant.mpr (.inr rfl), ?_, ?_, Chip.counted_grant _ _⟩
  · rw [Chip.grant_thermal]
    show (s.joined w).thermal.queue.filter _ = []
    rw [hjoined]
    simp
  · rw [Chip.rd_grant_granted]
    exact Nat.mod_eq_of_lt (Nat.lt_of_le_of_lt h.total (by decide))

/-! ## The return of leave -/

/-- The state in which leave has been returned and the queue is not examined yet. -/
def Chip.released (s : Chip) (w : Leave) : Chip :=
  let u : Chip := { s with thermal := { s.thermal with grants := s.thermal.grants.filter (·.what != w) } }
  let u := u.wr .grPower_granted (u.rd .grPower_granted - w.cost)
  if w = .charging then u.wr .huStat_charge (if u.chargerOk then 1 else 0) else u

theorem Chip.returnLeave_held {s : Chip} {w : Leave} (h : s.holdsLeave w = true) : s.returnLeave w = (s.released w).granary := by
  rw [Chip.returnLeave, if_pos h]
  rfl

theorem Chip.returnLeave_without {s : Chip} {w : Leave} (h : s.holdsLeave w = false) : s.returnLeave w = s := by
  rw [Chip.returnLeave, if_neg (by simp [h])]

theorem Chip.released_thermal (s : Chip) (w : Leave) :
    (s.released w).thermal = { s.thermal with grants := s.thermal.grants.filter (·.what != w) } := by
  unfold Chip.released
  dsimp only
  split <;> rfl

/-- The power of the leave returned is free again. -/
theorem Chip.rd_released_granted (s : Chip) (w : Leave) :
    (s.released w).rd .grPower_granted = (s.rd .grPower_granted - w.cost) % 65536 := by
  unfold Chip.released
  dsimp only
  split
  · rw [Chip.rd_wr_ne _ _ (by decide), Chip.rd_wr_self]
    rfl
  · rw [Chip.rd_wr_self]
    rfl

theorem Chip.returnLeave_bounded {s : Chip} {w : Leave} (h : s.holdsLeave w = true) :
    (s.returnLeave w).rd .grPower_granted ≤ max 2000 (s.rd .grPower_granted) := by
  have hbound := (s.released w).granary_bounded
  rw [Chip.rd_released_granted] at hbound
  rw [Chip.returnLeave_held h]
  omega

/-- Leave that is returned is not held any longer (R533). -/
theorem Chip.holdsLeave_returnLeave {s : Chip} {w : Leave} (hholds : s.holdsLeave w = true) (hwaits : s.waitsLeave w = false) :
    (s.returnLeave w).holdsLeave w = false := by
  rw [Chip.returnLeave_held hholds]
  refine Chip.holdsLeave_granary ?_ ?_
  · rw [Chip.waitsLeave, Chip.released_thermal]
    exact hwaits
  · rw [Chip.holdsLeave, Chip.released_thermal, List.any_eq_false]
    intro r hr
    obtain ⟨-, hne⟩ := List.mem_filter.mp hr
    exact fun e => bne_iff_ne.mp hne (beq_iff_eq.mp e)

/-! ## A request that waits too long -/

/-- A request that waits alone, has not been reported and has waited longer than its class may, is reported (R534). -/
theorem Chip.starve_alone {s : Chip} {r : LeaveRequest} (hqueue : s.thermal.queue = [r]) (hfresh : r.starved = false)
    (hlate : 1000000 * s.rd .grClass_maxWait r.what.cls < s.clock.now - r.since) :
    s.starve r.what =
      (({ s with thermal := { s.thermal with queue := [{ r with starved := true }] } }).count .grCount_starved).raise originGranary := by
  simp [Chip.starve, hqueue, hfresh, hlate]

/-! ## The hold-up stack's watch -/

/-- HOLD at 13.3 V or above is ready (R528). -/
theorem Chip.rd_holdReadyChange_high (s : Chip) {mv : Nat} (h : 13300 ≤ mv) (f : Fld) (i : Nat) :
    (s.holdReadyChange mv).rd f i = ((s.wr .huStat_holdMv mv).wr .huStat_ready 1).rd f i := by
  rw [Chip.holdReadyChange, if_pos h]
  rfl

/-- The watch ends where HOLD is ready (R528). -/
theorem Chip.readyClearFrom_holdReadyChange_high (s : Chip) {mv : Nat} (h : 13300 ≤ mv) :
    (s.holdReadyChange mv).thermal.readyClearFrom = none := by
  rw [Chip.holdReadyChange, if_pos h]

/-- HOLD below 13.3 V is not ready (R528). -/
theorem Chip.rd_holdReadyChange_low (s : Chip) {mv : Nat} (h : mv < 13300) (f : Fld) (i : Nat) :
    (s.holdReadyChange mv).rd f i = ((s.wr .huStat_holdMv mv).wr .huStat_ready 0).rd f i := by
  rw [Chip.holdReadyChange, if_neg (Nat.not_le.mpr h)]
  rfl

/-- The watch starts where HOLD was ready before (R528). -/
theorem Chip.readyClearFrom_holdReadyChange_low (s : Chip) {mv : Nat} (h : mv < 13300) (hready : s.on .huStat_ready = true) :
    (s.holdReadyChange mv).thermal.readyClearFrom = some s.clock.now := by
  have hkeep : (s.wr .huStat_holdMv mv).on .huStat_ready = true := by
    rwa [Chip.on, Chip.rd_wr_ne _ _ (by decide)]
  rw [Chip.holdReadyChange, if_neg (Nat.not_le.mpr h)]
  exact if_pos hkeep

/-- What HU_STAT reads as after both its fields were written. -/
theorem Chip.rd_holdMv_ready (s : Chip) (mv ready : Nat) :
    let u := (s.wr .huStat_holdMv mv).wr .huStat_ready ready
    u.rd .huStat_ready = ready % 2 ∧ u.rd .huStat_holdMv = mv % 65536 :=
  ⟨Chip.rd_wr_self _ _ _ _, (Chip.rd_wr_ne _ _ (by decide)).trans (Chip.rd_wr_self _ _ _ _)⟩

/-- The state in which the watch has noted its report. -/
def Chip.readyNoted (s : Chip) : Chip := { s with thermal := { s.thermal with readyReported := true } }

/-- The watch reports once, after 10 s without ready in RUN or SHADOW (R528). -/
theorem Chip.holdReadyTimeout_fires {s : Chip} {from_ : Nat} (hfrom : s.thermal.readyClearFrom = some from_)
    (hready : s.on .huStat_ready = false) (hmode : s.mode = .run ∨ s.mode = .shadow) (hlong : 10000000000 ≤ s.clock.now - from_)
    (hreport : s.thermal.readyReported = false) :
    s.holdReadyTimeout = s.readyNoted.raiseRigging originCharger := by
  have hruns : (s.mode == .run || s.mode == .shadow) = true := by
    rcases hmode with h | h <;> rw [h] <;> rfl
  simp [Chip.holdReadyTimeout, Chip.readyNoted, hfrom, hready, hruns, hlong, hreport]

theorem Chip.raisedRigging_raiseRigging (s : Chip) (o : Nat) : (s.raiseRigging o).raisedRigging s o := by
  unfold Chip.raisedRigging Chip.raiseRigging
  split
  · rfl
  · rfl

theorem Chip.raiseRigging_regs (s : Chip) (o : Nat) : (s.raiseRigging o).regs = s.regs := by
  unfold Chip.raiseRigging
  split <;> rfl

theorem Chip.raiseRigging_thermal (s : Chip) (o : Nat) : (s.raiseRigging o).thermal = s.thermal := by
  unfold Chip.raiseRigging
  split <;> rfl

/-! ## The commands of the Granary -/

section
variable {t : Nat} {s : State} {P : Chip → Prop}

theorem completes_granaryRequest {w : Leave} : Completes (.granaryRequest t w) s P ↔ P ((s.chip.atTime t).askLeave w) :=
  completes_does (f := fun c => (c.atTime t).askLeave w) rfl

theorem completes_granaryReturn {w : Leave} : Completes (.granaryReturn t w) s P ↔ P ((s.chip.atTime t).returnLeave w) :=
  completes_does (f := fun c => (c.atTime t).returnLeave w) rfl

theorem completes_granaryStarved {w : Leave} : Completes (.granaryStarved t w) s P ↔ P ((s.chip.atTime t).starve w) :=
  completes_does (f := fun c => (c.atTime t).starve w) rfl

theorem completes_holdReadyChange {mv : Nat} : Completes (.holdReadyChange t mv) s P ↔ P ((s.chip.atTime t).holdReadyChange mv) :=
  completes_does (f := fun c => (c.atTime t).holdReadyChange mv) rfl

theorem completes_holdupReadyTimeout : Completes (.holdupReadyTimeout t) s P ↔ P (s.chip.atTime t).holdReadyTimeout :=
  completes_does (f := fun c => (c.atTime t).holdReadyTimeout) rfl

end

end Sys2Proof.Machine
end

section
/-! PROOF. The statement about the Granary and the hold-up stack. -/

open Sys2Proof Sys2Proof.Machine

/-- Settles O34: a request by what the Granary's walk keeps and by the grant of a request that stands alone; the hold-up stack by its watch. -/
theorem granaryGrantsAndReadyIsWatched : Obligations.GranaryGrantsAndReadyIsWatched := by
  unfold Obligations.GranaryGrantsAndReadyIsWatched
  intro s t c
  refine ⟨fun w hmay _ _ => ?_, fun w hmay => ?_, fun w hholds hwaits => ?_, fun w hholds => ?_, fun r hqueue hfresh hlate => ?_,
    fun mv => ⟨fun hmv => ?_, fun hmv => ?_⟩, fun from_ hfrom hready hmode hlong hreport => ?_⟩
  · exact completes_granaryRequest.mpr (Chip.askLeave_refused hmay)
  · refine completes_granaryRequest.mpr ⟨Chip.asks_askLeave hmay, Chip.askLeave_bounded hmay, ?_⟩
    intro hqueue hholds hderived hfloor hslices hpower htotal
    exact Chip.askLeave_granted hmay hqueue hholds ⟨hderived, hfloor, hslices, hpower, htotal⟩
  · exact completes_granaryReturn.mpr ⟨Chip.holdsLeave_returnLeave hholds hwaits, Chip.returnLeave_bounded hholds⟩
  · exact completes_granaryReturn.mpr (Chip.returnLeave_without hholds)
  · rw [completes_granaryStarved, Chip.starve_alone hqueue hfresh hlate]
    refine ⟨rfl, Chip.rd_count_self _ _ _ _, rfl, fun f i hf => Chip.rd_count_ne _ _ ?_⟩
    rintro ⟨rfl, rfl⟩
    exact hf List.mem_cons_self
  · rw [completes_holdReadyChange, Chip.rd_holdReadyChange_high _ hmv, Chip.rd_holdReadyChange_high _ hmv]
    obtain ⟨hone, hvolts⟩ := c.rd_holdMv_ready mv 1
    exact ⟨hone, hvolts, Chip.readyClearFrom_holdReadyChange_high _ hmv⟩
  · rw [completes_holdReadyChange, Chip.rd_holdReadyChange_low _ hmv, Chip.rd_holdReadyChange_low _ hmv]
    obtain ⟨hzero, hvolts⟩ := c.rd_holdMv_ready mv 0
    exact ⟨hzero, hvolts, Chip.readyClearFrom_holdReadyChange_low _ hmv⟩
  · rw [completes_holdupReadyTimeout, Chip.holdReadyTimeout_fires hfrom hready hmode hlong hreport]
    refine ⟨congrArg ThermalState.readyReported (Chip.raiseRigging_thermal _ _), ?_, Chip.raiseRigging_regs _ _⟩
    exact c.readyNoted.raisedRigging_raiseRigging originCharger

end

section
/-! PROOF. The statement about the frames of the control engines, the lanes, the edge engines, the arms, the gate drivers, the inputs, the
converter and metering. The frame of each command stands under Sys2Proof/Laws as two sets of numbers, of fields and of parts; what is left is
that the statement's lists hold them. -/

namespace Sys2Proof.Machine

/-- A command's frame by numbers is its frame by lists that hold all that the numbers hold. -/
theorem OutcomeWithin.changes {F C : Nat} {c : Instr} {s : State} {fields : List Fld} {parts : List Part}
    (h : OutcomeWithin F C s (exec c s)) (hF : Nat.land F (fieldSet fields) = F := by decide +kernel)
    (hC : Nat.land C (partSet parts) = C := by decide +kernel) : Changes c s fields parts :=
  changes_of_within h hF hC

end Sys2Proof.Machine
end

section
open Sys2Proof Sys2Proof.Machine

/-- Settles O59, by the frame of each command. -/
theorem framesOfEnginesLanesEdgesAndMeasurement : Obligations.FramesOfEnginesLanesEdgesAndMeasurement := by
  unfold Obligations.FramesOfEnginesLanesEdgesAndMeasurement
  simp only [List.forall_mem_cons, List.not_mem_nil, false_implies, implies_true, and_true]
  refine ⟨fun s => ⟨
    -- The control engines.
    fun _ _ => ⟨(execNop_within ..).changes, (execInt_within ..).changes, (execTrk_within ..).changes, (execInSlot_within ..).changes,
      (execOutSlot_within ..).changes, (execMsel_within ..).changes, (execSetx_within ..).changes, (execAddx_within ..).changes,
      (execRep_within ..).changes, (execSkn_within ..).changes⟩,
    fun _ _ => ⟨(execClr_within ..).changes, (execLda_within ..).changes, (execMac_within ..).changes, (execMsu_within ..).changes,
      (execMac2_within ..).changes, (execAsh_within ..).changes, (execAddi_within ..).changes⟩,
    fun _ _ => ⟨(execSat_within ..).changes, (execMov_within ..).changes, (execNeg_within ..).changes, (execAdd_within ..).changes,
      (execSub_within ..).changes, (execMul_within ..).changes, (execMin_within ..).changes, (execMax_within ..).changes,
      (execTab_within ..).changes, (execSin_within ..).changes, (execClk_within ..).changes, (execIck_within ..).changes,
      (execPrk_within ..).changes, (execIpk_within ..).changes⟩,
    fun _ _ => (execLim_within ..).changes,
    fun _ _ => (execEndLoop_within ..).changes⟩,
    fun s t => ⟨
    -- The lanes.
    fun _ _ _ => (execBaleReceived_within ..).changes,
    fun _ _ => ⟨(execLaneBlockLock_within ..).changes, (execIdleBlockRx_within ..).changes⟩,
    fun _ _ _ => (execLaneLossOfLock_within ..).changes,
    fun _ => (execLaneResetRequest_within ..).changes,
    fun _ => (execLoopTimedTimeout_within ..).changes,
    fun _ _ => (execEchoRequestSend_within ..).changes,
    fun _ _ _ => (execEchoResponseRx_within ..).changes,
    fun _ _ => (execEchoTimeout_within ..).changes,
    fun _ _ => (execFomUpdate_within ..).changes,
    fun _ => ⟨(execEyeScanRequest_within ..).changes, (execEyeScanInterval_within ..).changes, (execReadaptRequest_within ..).changes,
      (execReadaptComplete_within ..).changes⟩,
    fun _ _ _ => (execEyeScanComplete_within ..).changes,
    -- The edge engines, the trip inputs and the arms.
    (execEeCommit_within ..).changes,
    fun _ _ _ => (execTripAsserted_within ..).changes,
    fun _ => (execTripMaskEnd_within ..).changes,
    fun _ _ _ => (execTripDeasserted_within ..).changes,
    (execLocalEdge_within ..).changes,
    fun _ => ⟨(execCellBypass_within ..).changes, (execCellRelease_within ..).changes, (execCellSwap_within ..).changes⟩,
    fun _ => (execBypassConfirmTimeout_within ..).changes,
    fun _ => (execRotationAdvance_within ..).changes,
    fun _ => (execSpreadWatchFire_within ..).changes,
    fun _ => (execPrechargeTimeout_within ..).changes,
    -- The far end's echo.
    fun _ _ => (execEchoRequestRx_within ..).changes,
    -- The gate drivers.
    fun _ => ⟨(execGdStaticOn_within ..).changes, (execGdStaticOff_within ..).changes⟩,
    fun _ _ => (execGdRearm_within ..).changes,
    fun _ => (execGdStampsLate_within ..).changes,
    fun _ _ _ => (execGdUvloEntry_within ..).changes,
    fun _ _ _ _ => (execGdUvloExit_within ..).changes,
    fun _ _ => ⟨(execGdShortDetect_within ..).changes, (execGdBlankEnd_within ..).changes⟩,
    fun _ => (execGdSoftOffEnd_within ..).changes,
    fun _ => (execGdInterlock_within ..).changes,
    -- Sampled values and GOOSE.
    fun _ _ => (execSvFrameRx_within ..).changes,
    fun _ _ _ => (execSampleMissing_within ..).changes,
    fun _ _ => (execGooseFrameRx_within ..).changes,
    fun _ => (execGooseTtlExpiry_within ..).changes,
    -- The converter.
    fun _ => (execSequenceTrigger_within ..).changes,
    fun _ _ _ _ => (execAdcResultComplete_within ..).changes,
    (execSliceRotation_within ..).changes,
    (execChannelSourceChange_within ..).changes,
    fun _ _ _ _ => (execCalibrationComplete_within ..).changes,
    fun _ _ => ⟨(execComparatorOutside_within ..).changes, (execComparatorInside_within ..).changes,
      (execComparatorResolved_within ..).changes⟩,
    fun _ => (execThresholdReadback_within ..).changes,
    -- Metering and its saves.
    fun _ => (execMeteringWindowEnd_within ..).changes,
    ⟨(execPeriodicSave_within ..).changes, (execSaveRetry_within ..).changes, (execMetrologySave_within ..).changes⟩,
    (execFinalSaveWritten_within ..).changes⟩⟩

end

section
/-! PROOF. Cell commands and the watches of the arms (R240, R241, R248, R250, R259): the state that each watch leaves where it fires, and what
that state's records and register fields read as. -/

namespace Sys2Proof.Machine

/-! ## Records of cells and arms -/

@[simp] theorem Chip.cell_setCell (s : Chip) (n : Nat) (c : CellState) : (s.setCell n c).cell n = c := storeGet_put_self _ _ _ _

@[simp] theorem Chip.arm_setArm (s : Chip) (a : Nat) (r : ArmState) : (s.setArm a r).arm a = r := storeGet_put_self _ _ _ _

@[simp] theorem Chip.cell_raise (s : Chip) (o n : Nat) : (s.raise o).cell n = s.cell n := rfl

@[simp] theorem Chip.arm_raise (s : Chip) (o a : Nat) : (s.raise o).arm a = s.arm a := rfl

@[simp] theorem Chip.arm_wr (s : Chip) (f : Fld) (v i a : Nat) : (s.wr f v i).arm a = s.arm a := rfl

/-- Which arm a cell belongs to is a matter of the register fields. -/
@[simp] theorem Chip.armOf_setCell (s : Chip) (n : Nat) (c : CellState) (k : Nat) : (s.setCell n c).armOf k = s.armOf k := rfl

/-- A write of one field leaves every other, whatever else was set beside it. -/
theorem Chip.sameBut_of_wr {s u : Chip} {f : Fld} {v i : Nat} (h : u.regs = (s.wr f v i).regs) : u.sameBut s [(f, i)] := by
  intro g j hg
  have hne : ¬(f = g ∧ i = j) := by
    rintro ⟨rfl, rfl⟩
    exact hg List.mem_cons_self
  calc u.rd g j = (s.wr f v i).rd g j := by rw [Chip.rd, Chip.rd, h]
    _ = s.rd g j := s.rd_wr_ne v hne

/-! ## The confirmation of a bypass (R240) -/

/-- The confirmation of a bypass is overdue and not reported yet. -/
structure Chip.BypassOverdue (s : Chip) (n : Nat) : Prop where
  pending : s.on .cellStat_bypassPending n = true
  late : 4 ≤ s.bypassSnapshots n
  unreported : (s.cell n).bypassReported = false

/-- The state in which the report of an overdue confirmation is noted. -/
def Chip.bypassNoted (s : Chip) (n : Nat) : Chip := s.setCell n { s.cell n with bypassReported := true }

theorem Chip.bypassNoted_reported (s : Chip) (n : Nat) : ((s.bypassNoted n).cell n).bypassReported = true := by
  rw [Chip.bypassNoted, Chip.cell_setCell]

/-- The origin of the report: the arm's bypass source, or without an arm the cell's link source. -/
def Chip.bypassOrigin (s : Chip) (n : Nat) : Nat :=
  (s.armOf n).elim (originLink (s.laneOfCell n)) originBypass

theorem Chip.bypassTimeout_fires {s : Chip} {n : Nat} (h : s.BypassOverdue n) :
    s.bypassTimeout n = (s.bypassNoted n).raise (s.bypassOrigin n) := by
  obtain ⟨hpending, hlate, hunreported⟩ := h
  rw [Chip.bypassTimeout, if_pos ⟨hpending, hlate, hunreported⟩, Chip.bypassOrigin]
  simp only [Chip.armOf_setCell]
  cases s.armOf n <;> rfl

/-! ## The watches of an arm -/

/-- The state in which the rotation pointer of an arm has advanced (R248). -/
def Chip.rotated (s : Chip) (a : Nat) : Chip :=
  (s.setArm a { s.arm a with rotCount := 0 }).wr .armStat_rotPtr ((s.rd .armStat_rotPtr a + 1) % 32) a

theorem Chip.rotationAdvance_fires {s : Chip} {a : Nat} (h : s.rd .armBal_rotationPeriods a ≤ (s.arm a).rotCount) :
    s.rotationAdvance a = s.rotated a := if_pos h

theorem Chip.rotCount_rotated (s : Chip) (a : Nat) : ((s.rotated a).arm a).rotCount = 0 := by
  rw [Chip.rotated, Chip.arm_wr, Chip.arm_setArm]

theorem Chip.rd_rotated_rotPtr (s : Chip) (a : Nat) :
    (s.rotated a).rd .armStat_rotPtr a = (s.rd .armStat_rotPtr a + 1) % 32 := by
  calc (s.rotated a).rd .armStat_rotPtr a
      = (s.rd .armStat_rotPtr a + 1) % 32 % 2 ^ Fld.armStat_rotPtr.spec.width := Chip.rd_wr_self _ _ _ _
    _ = (s.rd .armStat_rotPtr a + 1) % 32 := Nat.mod_mod _ 32

/-- An arm's watch puts `r` in the arm's record, sets the flag `f` of the arm and reports at origin `o`. -/
def Chip.armReport (s : Chip) (a : Nat) (r : ArmState) (f : Fld) (o : Nat) : Chip := ((s.setArm a r).wr f 1 a).raise o

theorem Chip.arm_armReport (s : Chip) (a : Nat) (r : ArmState) (f : Fld) (o : Nat) : (s.armReport a r f o).arm a = r := by
  rw [Chip.armReport, Chip.arm_raise, Chip.arm_wr, Chip.arm_setArm]

theorem Chip.rd_armReport_flag (s : Chip) (a : Nat) (r : ArmState) {f : Fld} (hf : f.spec.width = 1) (o : Nat) :
    (s.armReport a r f o).rd f a = 1 := by
  calc (s.armReport a r f o).rd f a = 1 % 2 ^ f.spec.width := (s.setArm a r).rd_wr_self f 1 a
    _ = 1 := Nat.one_mod_two_pow (hf ▸ Nat.one_pos)

theorem Chip.sameBut_armReport (s : Chip) (a : Nat) (r : ArmState) (f : Fld) (o : Nat) : (s.armReport a r f o).sameBut s [(f, a)] :=
  Chip.sameBut_of_wr (v := 1) rfl

theorem Chip.raised_armReport (s : Chip) (a : Nat) (r : ArmState) (f : Fld) (o : Nat) : (s.armReport a r f o).raised s o := rfl

/-- The spread watch fires at the eighth t_B in a row, where it is armed (R250). -/
theorem Chip.spreadFire_fires {s : Chip} {a : Nat} (hrun : 8 ≤ (s.arm a).spreadRun) (harmed : (s.arm a).spreadArmed = true) :
    s.spreadFire a = s.armReport a { s.arm a with spreadArmed := false } .armStat_spread (originBalance a) :=
  if_pos ⟨hrun, harmed⟩

/-- The watch of pre-charge fires once a phase other than 4 has stood for pc_timeout, and starts anew (R259). -/
theorem Chip.prechargeTimeout_fires {s : Chip} {a : Nat} (hphase : s.rd .armStat_pcPhase a ≠ 0) (hopen : s.rd .armStat_pcPhase a ≠ 4)
    (hlong : 100000000 * s.rd .armPc_pcTimeout a ≤ s.clock.now - (s.arm a).phaseAt) :
    s.prechargeTimeout a = s.armReport a { s.arm a with phaseAt := s.clock.now } .armStat_pcTimeout (originPrecharge a) :=
  if_pos ⟨hphase, hopen, hlong⟩

/-! ## The commands of cells and arms -/

section
variable {t : Nat} {s : State} {P : Chip → Prop}

/-- Each of the three commands on a cell is queued as what it asks for (R241). -/
theorem completes_cellCommand {n : Fin 96} {p : Instr × CellCommand}
    (hp : p ∈ [(Instr.cellBypass t n, CellCommand.bypass), (.cellRelease t n, .release), (.cellSwap t n, .swap)]) :
    Completes p.1 s P ↔ P ((s.chip.atTime t).queueCellCommand p.2 n) := by
  refine completes_does (f := fun c => (c.atTime t).queueCellCommand p.2 n) ?_
  simp only [List.mem_cons, List.not_mem_nil, or_false] at hp
  rcases hp with rfl | rfl | rfl <;> rfl

theorem completes_bypassConfirmTimeout {n : Fin 96} :
    Completes (.bypassConfirmTimeout t n) s P ↔ P ((s.chip.atTime t).bypassTimeout n) :=
  completes_does (f := fun c => (c.atTime t).bypassTimeout n) rfl

theorem completes_rotationAdvance {a : Fin 6} : Completes (.rotationAdvance t a) s P ↔ P ((s.chip.atTime t).rotationAdvance a) :=
  completes_does (f := fun c => (c.atTime t).rotationAdvance a) rfl

theorem completes_spreadWatchFire {a : Fin 6} : Completes (.spreadWatchFire t a) s P ↔ P ((s.chip.atTime t).spreadFire a) :=
  completes_does (f := fun c => (c.atTime t).spreadFire a) rfl

theorem completes_prechargeTimeout {a : Fin 6} : Completes (.prechargeTimeout t a) s P ↔ P ((s.chip.atTime t).prechargeTimeout a) :=
  completes_does (f := fun c => (c.atTime t).prechargeTimeout a) rfl

end

end Sys2Proof.Machine
end

section
/-! PROOF. The statement about cell commands and the watches of the arms. -/

open Sys2Proof Sys2Proof.Machine

/-- Settles O29: a command joins the queue of cell commands, and each watch leaves the state of its own lemma where its condition holds. -/
theorem cellCommandsAndArmWatches : Obligations.CellCommandsAndArmWatches := by
  unfold Obligations.CellCommandsAndArmWatches
  intro s t c
  refine ⟨fun n p hp => ?_, fun n hpending hlate hunreported => ?_, fun a hdue => ?_, fun a hrun harmed => ?_, fun a => ?_⟩
  · exact (completes_cellCommand hp).mpr rfl
  · rw [completes_bypassConfirmTimeout, Chip.bypassTimeout_fires ⟨hpending, hlate, hunreported⟩]
    refine ⟨c.bypassNoted_reported n, rfl, ?_⟩
    rw [Chip.raised, Chip.raise_events, Chip.bypassOrigin]
    cases c.armOf n <;> rfl
  · rw [completes_rotationAdvance, Chip.rotationAdvance_fires hdue]
    exact ⟨c.rotCount_rotated a, c.rd_rotated_rotPtr a, Chip.sameBut_of_wr rfl⟩
  · rw [completes_spreadWatchFire, Chip.spreadFire_fires hrun harmed, Chip.arm_armReport]
    exact ⟨rfl, c.rd_armReport_flag _ _ rfl _, c.sameBut_armReport _ _ _ _, c.raised_armReport _ _ _ _⟩
  · intro p hphase hopen hlong
    rw [completes_prechargeTimeout, Chip.prechargeTimeout_fires hphase hopen hlong, Chip.arm_armReport]
    exact ⟨rfl, c.rd_armReport_flag _ _ rfl _, c.sameBut_armReport _ _ _ _, c.raised_armReport _ _ _ _⟩

end

section
/-! PROOF. The gate drivers (R384 to R392): what the operations of the local power stage leave of a driver and of its fields, and the state that
each command of a gate driver gives where it acts. -/

namespace Sys2Proof.Machine

/-! ## A field and a driver after one operation -/

@[simp] theorem Chip.driver_setDriver (s : Chip) (n : Nat) (g : GateDriver) : (s.setDriver n g).driver n = g := storeGet_put_self _ _ _ _

theorem Chip.driver_setDriver_ne (s : Chip) {n k : Nat} (h : n ≠ k) (g : GateDriver) : (s.setDriver n g).driver k = s.driver k :=
  storeGet_put_ne _ _ _ _ h

@[simp] theorem Chip.rd_setDriver (s : Chip) (n : Nat) (g : GateDriver) (f : Fld) (i : Nat) : (s.setDriver n g).rd f i = s.rd f i := rfl

@[simp] theorem Chip.driver_wr (s : Chip) (f : Fld) (v i n : Nat) : (s.wr f v i).driver n = s.driver n := rfl

@[simp] theorem Chip.driver_count (s : Chip) (f : Fld) (i m n : Nat) : (s.count f i m).driver n = s.driver n := rfl

@[simp] theorem Chip.rd_raiseRigging (s : Chip) (o : Nat) (f : Fld) (i : Nat) : (s.raiseRigging o).rd f i = s.rd f i := by
  rw [Chip.rd, Chip.rd, Chip.raiseRigging_regs]

@[simp] theorem Chip.driver_raiseRigging (s : Chip) (o n : Nat) : (s.raiseRigging o).driver n = s.driver n := by
  unfold Chip.raiseRigging
  split <;> rfl

/-- A write that fits in its field is read back. -/
theorem Chip.rd_wr_fit (s : Chip) {f : Fld} {v : Nat} (h : v < 2 ^ f.spec.width) (i : Nat) : (s.wr f v i).rd f i = v := by
  rw [Chip.rd_wr_self, Nat.mod_eq_of_lt h]

theorem Chip.rd_wr_field (s : Chip) {f g : Fld} (h : f ≠ g) (v i j : Nat) : (s.wr f v i).rd g j = s.rd g j :=
  s.rd_wr_ne v fun e => h e.1

theorem Chip.rd_count_field (s : Chip) {f g : Fld} (h : f ≠ g) (i j n : Nat) : (s.count f i n).rd g j = s.rd g j :=
  s.rd_count_ne n fun e => h e.1

theorem Chip.sameBut_count (s : Chip) (f : Fld) (i n : Nat) : (s.count f i n).sameBut s [(f, i)] := Chip.sameBut_of_wr rfl

theorem Chip.sameBut_trans {s t u : Chip} {l m : List (Fld × Nat)} (hu : u.sameBut t l) (ht : t.sameBut s m) : u.sameBut s (m ++ l) := by
  intro f i h
  rw [List.mem_append, not_or] at h
  obtain ⟨hm, hl⟩ := h
  exact (hu f i hl).trans (ht f i hm)

/-- A state whose registers are those after one write reads the value there, and every other field as before. -/
theorem Chip.wrote_only {s u : Chip} {f : Fld} {v i : Nat} (h : u.regs = (s.wr f v i).regs) (hv : v < 2 ^ f.spec.width) :
    u.rd f i = v ∧ u.sameBut s [(f, i)] :=
  ⟨(congrArg (storeGet · (f.key i) (f.coldAt i)) h).trans (s.rd_wr_fit hv i), Chip.sameBut_of_wr h⟩

/-- An event of the Rigging die is raised over `s` where its events and its link still stand as in `s` (R414). -/
theorem Chip.raisedRigging_of_kept {s t : Chip} (hfaults : t.faults = s.faults) (hlink : t.rd .idbStat_linkUp = s.rd .idbStat_linkUp) (o : Nat) :
    (t.raiseRigging o).raisedRigging s o := by
  have h := t.raisedRigging_raiseRigging o
  rwa [Chip.raisedRigging, hfaults, Chip.on, hlink] at h

/-! ## What a change of the outputs restarts -/

/-- What each step of a walk over a list keeps, the walk keeps. -/
theorem Chip.each_keeps {α β : Type} (φ : Chip → β) {g : Chip → α → Chip} (h : ∀ s x, φ (g s x) = φ s) (s : Chip) (l : List α) :
    φ (s.each l g) = φ s := by
  induction l generalizing s with
  | nil => rfl
  | cons x l ih => exact (ih (g s x)).trans (h s x)

/-- A gate driver without the mask and the instant that a change of the outputs restarts (R389, R393). -/
def GateDriver.unmasked (g : GateDriver) : GateDriver := { g with blankUntil := 0, disabledAt := none }

theorem GateDriver.softOff_unmasked (g : GateDriver) : g.unmasked.softOff = g.softOff := rfl

theorem GateDriver.untilNextE_unmasked (g : GateDriver) : g.unmasked.untilNextE = g.untilNextE := rfl

/-- To set a driver to what differs from it in those two alone keeps every driver, unmasked. -/
theorem Chip.unmasked_setDriver {s : Chip} {n : Nat} {g : GateDriver} (h : g.unmasked = (s.driver n).unmasked) (k : Nat) :
    ((s.setDriver n g).driver k).unmasked = (s.driver k).unmasked := by
  by_cases hk : n = k
  · subst hk
    rw [Chip.driver_setDriver, h]
  · rw [s.driver_setDriver_ne hk]

/-- The restart of the masks keeps the registers. -/
theorem Chip.restartMasks_regs (s old : Chip) : (s.restartMasks old).regs = s.regs := by
  unfold Chip.restartMasks
  refine (Chip.each_keeps Chip.regs (fun u n => ?_) _ _).trans (Chip.each_keeps Chip.regs (fun u i => ?_) _ _)
  · dsimp only
    split
    · rfl
    · split <;> rfl
  · unfold Chip.maskTrip
    split <;> rfl

/-- The restart of the masks keeps each driver but for its mask and its disable. -/
theorem Chip.restartMasks_unmasked (s old : Chip) (k : Nat) : ((s.restartMasks old).driver k).unmasked = (s.driver k).unmasked := by
  unfold Chip.restartMasks
  refine (Chip.each_keeps (fun u => (u.driver k).unmasked) (fun u n => ?_) _ _).trans
    (Chip.each_keeps (fun u => (u.driver k).unmasked) (fun u i => ?_) _ _)
  · dsimp only
    split
    · exact Chip.unmasked_setDriver (by rfl) k
    · split
      · exact Chip.unmasked_setDriver (by rfl) k
      · rfl
  · unfold Chip.maskTrip
    split <;> rfl

theorem Chip.withOutputs_regs (s : Chip) (f : Chip → Chip) : (s.withOutputs f).regs = (f s).regs := Chip.restartMasks_regs _ _

theorem Chip.softOff_withOutputs (s : Chip) (f : Chip → Chip) (k : Nat) :
    ((s.withOutputs f).driver k).softOff = ((f s).driver k).softOff := by
  rw [← GateDriver.softOff_unmasked, Chip.withOutputs, Chip.restartMasks_unmasked, GateDriver.softOff_unmasked]

theorem Chip.untilNextE_withOutputs (s : Chip) (f : Chip → Chip) (k : Nat) :
    ((s.withOutputs f).driver k).untilNextE = ((f s).driver k).untilNextE := by
  rw [← GateDriver.untilNextE_unmasked, Chip.withOutputs, Chip.restartMasks_unmasked, GateDriver.untilNextE_unmasked]

/-! ## Static commands and re-arm (R385, R390) -/

/-- What a command without effect leaves: it is counted, and nothing else changes (R385). -/
theorem Chip.gdIgnored_counts (s : Chip) :
    s.gdIgnored.counted s .gdCount_cmdIgnored ∧ s.gdIgnored.sameBut s [(.gdCount_cmdIgnored, 0)] ∧
      s.gdIgnored = { s with regs := s.gdIgnored.regs } :=
  ⟨s.rd_count_self _ _ _, s.sameBut_count _ _ _, rfl⟩

section
variable {s : Chip} {n : Nat}

theorem Chip.gdStaticOn_acts (hn : n < 8) (hsrc : s.rd .gdCfg_src n = 2) (hmode : s.mode.energised = true) :
    s.gdStaticOn n = s.withOutputs fun s => s.wr .gdStat_staticOn 1 n := if_pos ⟨hn, hsrc, hmode⟩

theorem Chip.gdStaticOn_ignored (h : s.rd .gdCfg_src n ≠ 2 ∨ s.mode.energised = false) : s.gdStaticOn n = s.gdIgnored :=
  if_neg fun ⟨_, hsrc, hmode⟩ => h.elim (· hsrc) fun hoff => Bool.false_ne_true (hoff.symm.trans hmode)

theorem Chip.gdStaticOff_acts (hn : n < 8) (hsrc : s.rd .gdCfg_src n = 2) :
    s.gdStaticOff n = s.withOutputs fun s => s.wr .gdStat_staticOn 0 n := if_pos ⟨hn, hsrc⟩

theorem Chip.gdStaticOff_ignored (h : s.rd .gdCfg_src n ≠ 2) : s.gdStaticOff n = s.gdIgnored := if_neg fun hc => h hc.2

theorem Chip.gdRearm_acts {mv : Int} (hn : n < 8) (hlatched : s.on .gdStat_shortLatched n = true) (hlow : mv < s.gdiLow n) :
    s.gdRearm n mv = s.withOutputs fun s => (s.setDriver n { s.driver n with softOff := none }).wr .gdStat_shortLatched 0 n :=
  if_pos ⟨hn, hlatched, hlow⟩

theorem Chip.gdRearm_ignored {mv : Int} (h : s.on .gdStat_shortLatched n = false ∨ s.gdiLow n ≤ mv) : s.gdRearm n mv = s.gdIgnored :=
  if_neg fun ⟨_, hlatched, hlow⟩ => h.elim (fun hoff => Bool.false_ne_true (hoff.symm.trans hlatched)) fun hle => absurd hlow (Int.not_lt.mpr hle)

/-! ## Late stamps (R384) -/

theorem Chip.stampsLate_acts (hon : s.on .gdCfg_enabled n = true) (hsrc : s.rd .gdCfg_src n = 1) :
    s.stampsLate n = ((s.setDriver n { s.driver n with nextLate := true }).count .gdCount_lateStamps).raiseRigging originIdbLate := by
  rw [Chip.stampsLate, hon, hsrc]
  rfl

theorem Chip.nextLate_stampsLate (hon : s.on .gdCfg_enabled n = true) (hsrc : s.rd .gdCfg_src n = 1) :
    ((s.stampsLate n).driver n).nextLate = true := by
  rw [Chip.stampsLate_acts hon hsrc, Chip.driver_raiseRigging, Chip.driver_count, Chip.driver_setDriver]

theorem Chip.counted_stampsLate (hon : s.on .gdCfg_enabled n = true) (hsrc : s.rd .gdCfg_src n = 1) :
    (s.stampsLate n).counted s .gdCount_lateStamps := by
  rw [Chip.stampsLate_acts hon hsrc, Chip.counted, Chip.rd_raiseRigging, Chip.rd_count_self, Chip.rd_setDriver]

theorem Chip.raised_stampsLate (hon : s.on .gdCfg_enabled n = true) (hsrc : s.rd .gdCfg_src n = 1) :
    (s.stampsLate n).raisedRigging s originIdbLate := by
  rw [Chip.stampsLate_acts hon hsrc]
  refine Chip.raisedRigging_of_kept (by rfl) ?_ _
  rw [Chip.rd_count_field _ (by decide), Chip.rd_setDriver]

/-! ## Lock-out (R386 to R388) -/

/-- The flag of the lock-out of one supply: `neg` names VNEG. -/
def uvloFlag (neg : Bool) : Fld := if neg then .gdStat_uvloNeg else .gdStat_uvloPos

/-- The state that an entry into lock-out gives before its event: the supply's flag, the count, and static_on cleared. -/
def Chip.lockedOut (s : Chip) (n : Nat) (neg : Bool) : Chip :=
  ((s.wr (uvloFlag neg) 1 n).count .gdStat_uvloCount n).wr .gdStat_staticOn 0 n

/-- A channel reports its entry into lock-out: it is enabled, its monitor is in use, and the mode is not CONFIGURE (R388, R551). -/
def Chip.reportsUvlo (s : Chip) (n : Nat) : Bool := s.on .gdCfg_enabled n && !s.rdBit .sltRetMisc_gdMon n && s.mode != .configure

theorem Chip.reportsUvlo_iff : s.reportsUvlo n = true ↔
    s.on .gdCfg_enabled n = true ∧ s.rdBit .sltRetMisc_gdMon n = false ∧ s.mode ≠ .configure := by
  simp only [Chip.reportsUvlo, Bool.and_eq_true, Bool.not_eq_true', bne_iff_ne, and_assoc]

/-- An entry into lock-out changes no other field. -/
theorem Chip.rd_lockedOut_other (neg : Bool) {f : Fld}
    (hf : f ∉ [.gdStat_uvloNeg, .gdStat_uvloPos, .gdStat_uvloCount, .gdStat_staticOn]) (i : Nat) :
    (s.lockedOut n neg).rd f i = s.rd f i := by
  simp only [List.mem_cons, List.not_mem_nil, or_false, not_or] at hf
  obtain ⟨hneg, hpos, hcount, hstatic⟩ := hf
  have hflag : uvloFlag neg ≠ f := by
    cases neg with
    | false => exact Ne.symm hpos
    | true => exact Ne.symm hneg
  rw [Chip.lockedOut, Chip.rd_wr_field _ (Ne.symm hstatic), Chip.rd_count_field _ (Ne.symm hcount), Chip.rd_wr_field _ hflag]

theorem Chip.reportsUvlo_lockedOut (neg : Bool) : (s.lockedOut n neg).reportsUvlo n = s.reportsUvlo n := by
  simp (disch := decide) only [Chip.reportsUvlo, Chip.on, Chip.rdBit, Chip.mode, Chip.rd_lockedOut_other]

theorem Chip.uvloEntry_below {neg : Bool} {mv : Nat} (h : mv < s.uvloFalling n neg) : s.uvloEntry n neg mv = s.uvloBelow n neg := if_pos h

/-- Where neither supply is in lock-out, the entry is counted and reported (R387, R388). -/
theorem Chip.uvloBelow_first (neg : Bool) (hpos : s.on .gdStat_uvloPos n = false) (hneg : s.on .gdStat_uvloNeg n = false) :
    s.uvloBelow n neg = if s.reportsUvlo n = true then (s.lockedOut n neg).raiseRigging (originUvlo n) else s.lockedOut n neg := by
  rw [← Chip.reportsUvlo_lockedOut neg, Chip.uvloBelow, hpos, hneg]
  cases neg <;> rfl

/-- Where a supply is in lock-out already, only the flag is set. -/
theorem Chip.uvloBelow_again (neg : Bool) (h : ¬(s.on .gdStat_uvloPos n = false ∧ s.on .gdStat_uvloNeg n = false)) :
    s.uvloBelow n neg = s.wr (uvloFlag neg) 1 n := by
  have hentry : (!s.on .gdStat_uvloPos n && !s.on .gdStat_uvloNeg n) = false := by
    rwa [← Bool.not_eq_true, Bool.and_eq_true, Bool.not_eq_true', Bool.not_eq_true']
  rw [Chip.uvloBelow, hentry]
  cases neg <;> rfl

theorem Chip.rd_uvloBelow_first (neg : Bool) (hpos : s.on .gdStat_uvloPos n = false) (hneg : s.on .gdStat_uvloNeg n = false) (f : Fld) (i : Nat) :
    (s.uvloBelow n neg).rd f i = (s.lockedOut n neg).rd f i := by
  rw [Chip.uvloBelow_first neg hpos hneg]
  split
  · rw [Chip.rd_raiseRigging]
  · rfl

/-- The flag of the supply is set, entry or not. -/
theorem Chip.rd_uvloBelow_flag (neg : Bool) : (s.uvloBelow n neg).rd (uvloFlag neg) n = 1 := by
  by_cases h : s.on .gdStat_uvloPos n = false ∧ s.on .gdStat_uvloNeg n = false
  · obtain ⟨hpos, hneg⟩ := h
    rw [Chip.rd_uvloBelow_first neg hpos hneg, Chip.lockedOut]
    cases neg <;> simp (disch := decide) only [uvloFlag, Chip.rd_wr_field, Chip.rd_count_field, Chip.rd_wr_fit]
  · rw [Chip.uvloBelow_again neg h, Chip.rd_wr_fit]
    cases neg <;> decide

theorem Chip.counted_uvloBelow (neg : Bool) (hpos : s.on .gdStat_uvloPos n = false) (hneg : s.on .gdStat_uvloNeg n = false) :
    (s.uvloBelow n neg).counted s .gdStat_uvloCount n := by
  rw [Chip.counted, Chip.rd_uvloBelow_first neg hpos hneg, Chip.lockedOut, Chip.rd_wr_field _ (by decide), Chip.rd_count_self,
    Chip.rd_wr_field]
  cases neg <;> decide

theorem Chip.rd_uvloBelow_staticOn (neg : Bool) (hpos : s.on .gdStat_uvloPos n = false) (hneg : s.on .gdStat_uvloNeg n = false) :
    (s.uvloBelow n neg).rd .gdStat_staticOn n = 0 := by
  rw [Chip.rd_uvloBelow_first neg hpos hneg]
  exact Chip.rd_wr_fit _ (by decide) _

theorem Chip.raised_uvloBelow (neg : Bool) (hpos : s.on .gdStat_uvloPos n = false) (hneg : s.on .gdStat_uvloNeg n = false)
    (hreports : s.reportsUvlo n = true) : (s.uvloBelow n neg).raisedRigging s (originUvlo n) := by
  rw [Chip.uvloBelow_first neg hpos hneg, if_pos hreports]
  exact Chip.raisedRigging_of_kept (by cases neg <;> rfl) (Chip.rd_lockedOut_other neg (by decide) 0) _

/-- Both supplies have stood above their rising thresholds for 100 µs (R387). -/
def Chip.suppliesBack (s : Chip) (n drv neg ns : Nat) : Prop :=
  s.uvloFalling n false + 800 < drv ∧ s.uvloFalling n true + 300 < neg ∧ 100000 ≤ ns

/-- The end of the lock-out of a channel, before what the change of its output restarts: both flags clear, and a FOLLOW channel waits for E. -/
def Chip.unlocked (s : Chip) (n : Nat) : Chip :=
  ((s.setDriver n { s.driver n with untilNextE := s.rd .gdCfg_src n == 1 }).wr .gdStat_uvloPos 0 n).wr .gdStat_uvloNeg 0 n

theorem Chip.uvloExit_locked {drv neg ns : Nat} (hback : s.suppliesBack n drv neg ns)
    (hlocked : s.on .gdStat_uvloPos n = true ∨ s.on .gdStat_uvloNeg n = true) :
    s.uvloExit n drv neg ns = s.withOutputs (·.unlocked n) :=
  (if_pos hback).trans (if_pos (Bool.or_eq_true_iff.mpr hlocked))

theorem Chip.uvloExit_free {drv neg ns : Nat} (hback : s.suppliesBack n drv neg ns)
    (hfree : ¬(s.on .gdStat_uvloPos n = true ∨ s.on .gdStat_uvloNeg n = true)) : s.uvloExit n drv neg ns = s :=
  (if_pos hback).trans (if_neg fun h => hfree (Bool.or_eq_true_iff.mp h))

theorem Chip.rd_withOutputs_unlocked (f : Fld) (i : Nat) :
    (s.withOutputs (·.unlocked n)).rd f i = ((s.wr .gdStat_uvloPos 0 n).wr .gdStat_uvloNeg 0 n).rd f i := by
  rw [Chip.rd, Chip.withOutputs_regs]
  rfl

theorem Chip.rd_uvloExit {drv neg ns : Nat} (hback : s.suppliesBack n drv neg ns) :
    (s.uvloExit n drv neg ns).rd .gdStat_uvloPos n = 0 ∧ (s.uvloExit n drv neg ns).rd .gdStat_uvloNeg n = 0 := by
  by_cases h : s.on .gdStat_uvloPos n = true ∨ s.on .gdStat_uvloNeg n = true
  · rw [Chip.uvloExit_locked hback h, Chip.rd_withOutputs_unlocked, Chip.rd_withOutputs_unlocked, Chip.rd_wr_field _ (by decide)]
    exact ⟨Chip.rd_wr_fit _ (by decide) _, Chip.rd_wr_fit _ (by decide) _⟩
  · rw [Chip.uvloExit_free hback h]
    simpa [Chip.on, not_or] using h

theorem Chip.untilNextE_uvloExit {drv neg ns : Nat} (hback : s.suppliesBack n drv neg ns)
    (hlocked : s.on .gdStat_uvloPos n = true ∨ s.on .gdStat_uvloNeg n = true) :
    ((s.uvloExit n drv neg ns).driver n).untilNextE = (s.rd .gdCfg_src n == 1) := by
  rw [Chip.uvloExit_locked hback hlocked, Chip.untilNextE_withOutputs, Chip.unlocked, Chip.driver_wr, Chip.driver_wr, Chip.driver_setDriver]

theorem Chip.sameBut_uvloExit {drv neg ns : Nat} (hback : s.suppliesBack n drv neg ns) :
    (s.uvloExit n drv neg ns).sameBut s [(.gdStat_uvloPos, n), (.gdStat_uvloNeg, n)] := by
  by_cases h : s.on .gdStat_uvloPos n = true ∨ s.on .gdStat_uvloNeg n = true
  · rw [Chip.uvloExit_locked hback h]
    intro f i hf
    rw [Chip.rd_withOutputs_unlocked]
    exact Chip.sameBut_trans (Chip.sameBut_of_wr rfl) (Chip.sameBut_of_wr rfl) f i hf
  · rw [Chip.uvloExit_free hback h]
    exact fun _ _ _ => rfl

/-! ## Shorts (R389, R390) -/

theorem Chip.gdiCrossing_high {mv : Int} (hcompared : s.gdCompared n = true) (h : s.gdiHigh n < mv) :
    s.gdiCrossing n mv = s.shortDetected n := if_pos ⟨hcompared, .inl h⟩

theorem Chip.gdiMasked_ended (h : (s.driver n).blankUntil ≤ s.clock.now) : s.gdiMasked n = false := decide_eq_false (Nat.not_lt.mpr h)

theorem Chip.gdiCrossing_low {mv : Int} (hcompared : s.gdCompared n = true) (hmask : s.gdiMasked n = false) (h : s.gdiLow n < mv) :
    s.gdiCrossing n mv = s.shortDetected n := if_pos ⟨hcompared, .inr ⟨h, hmask⟩⟩

theorem Chip.blankEnd_low {mv : Int} (hcompared : s.gdCompared n = true) (hmask : s.gdiMasked n = false) (h : s.gdiLow n < mv) :
    s.blankEnd n mv = s.shortDetected n := if_pos ⟨hcompared, hmask, h⟩

/-- A short's registers: the latch set, static_on cleared and the count. -/
theorem Chip.rd_shortDetected (f : Fld) (i : Nat) : (s.shortDetected n).rd f i =
    (((s.wr .gdStat_shortLatched 1 n).wr .gdStat_staticOn 0 n).count .gdStat_shortCount n).rd f i := by
  rw [Chip.shortDetected, Chip.rd_raiseRigging]
  rfl

/-- The state that a short leaves (R390). -/
theorem Chip.shortDetected_leaves (s : Chip) (n : Nat) :
    (s.shortDetected n).rd .gdStat_shortLatched n = 1 ∧ (s.shortDetected n).rd .gdStat_staticOn n = 0 ∧
      (s.shortDetected n).counted s .gdStat_shortCount n ∧ (s.shortDetected n).raisedRigging s (originShort n) ∧
      ((s.shortDetected n).driver n).softOff =
        if s.rd .gdCfg_softOff n = 0 then none else some (s.clock.now + 200 * s.rd .gdCfg_softOff n) := by
  refine ⟨?_, ?_, ?_, ?_, ?_⟩
  · rw [Chip.rd_shortDetected, Chip.rd_count_field _ (by decide), Chip.rd_wr_field _ (by decide), Chip.rd_wr_fit _ (by decide)]
  · rw [Chip.rd_shortDetected, Chip.rd_count_field _ (by decide), Chip.rd_wr_fit _ (by decide)]
  · rw [Chip.counted, Chip.rd_shortDetected, Chip.rd_count_self, Chip.rd_wr_field _ (by decide), Chip.rd_wr_field _ (by decide)]
  · refine Chip.raisedRigging_of_kept (by rfl) ?_ _
    rw [Chip.rd_count_field _ (by decide), Chip.rd_wr_field _ (by decide), Chip.rd_wr_field _ (by decide), Chip.rd_setDriver]
  · rw [Chip.shortDetected, Chip.driver_raiseRigging, Chip.driver_count, Chip.driver_wr, Chip.driver_wr, Chip.driver_setDriver]

theorem Chip.softOffEnd_due {at_ : Nat} (hsoft : (s.driver n).softOff = some at_) (hdue : at_ ≤ s.clock.now) :
    s.softOffEnd n = s.setDriver n { s.driver n with softOff := none } := by
  rw [Chip.softOffEnd, hsoft]
  exact if_pos hdue

/-! ## The interlock of a pair (R392) -/

/-- What the interlock does to channel `k` of the pair. -/
def Chip.interlocked (s : Chip) (k : Nat) : Chip :=
  let s := (s.setDriver k { s.driver k with interlockCut := true }).wr .gdStat_interlock 1 k
  if s.rd .gdCfg_src k = 2 then s.wr .gdStat_staticOn 0 k else s

theorem Chip.gdInterlock_fires {p : Nat} (hpair : s.gdPair n = some p) (hconflict : s.pairConflict p = true)
    (hfresh : (s.driver p).interlockCut = false) :
    s.gdInterlock n = ((s.interlocked p).interlocked (p + 1)).raiseRigging originGdInterlock := by
  rw [Chip.gdInterlock, hpair]
  exact if_pos ⟨hconflict, hfresh⟩

/-- Its registers: the flag, and of a STATIC channel static_on. -/
theorem Chip.rd_interlocked (k : Nat) (f : Fld) (i : Nat) : (s.interlocked k).rd f i =
    if s.rd .gdCfg_src k = 2 then ((s.wr .gdStat_interlock 1 k).wr .gdStat_staticOn 0 k).rd f i else (s.wr .gdStat_interlock 1 k).rd f i := by
  have hsrc : ((s.setDriver k { s.driver k with interlockCut := true }).wr .gdStat_interlock 1 k).rd .gdCfg_src k = s.rd .gdCfg_src k :=
    Chip.rd_wr_field _ (by decide) _ _ _
  simp only [Chip.interlocked, hsrc]
  split <;> rfl

/-- A field that is neither of the two, or another channel's, stays. -/
theorem Chip.rd_interlocked_other {k i : Nat} {f : Fld} (h : f ∉ [.gdStat_interlock, .gdStat_staticOn] ∨ k ≠ i) :
    (s.interlocked k).rd f i = s.rd f i := by
  have hne : ∀ g ∈ [Fld.gdStat_interlock, .gdStat_staticOn], ¬(g = f ∧ k = i) := fun g hg ⟨hf, hk⟩ => h.elim (· (hf ▸ hg)) (· hk)
  have hflag := hne .gdStat_interlock (by decide)
  rw [Chip.rd_interlocked, Chip.rd_wr_ne _ _ (hne .gdStat_staticOn (by decide)), Chip.rd_wr_ne _ _ hflag, ite_self]

theorem Chip.rd_interlocked_flag (k : Nat) : (s.interlocked k).rd .gdStat_interlock k = 1 := by
  rw [Chip.rd_interlocked, Chip.rd_wr_field _ (by decide), Chip.rd_wr_fit _ (by decide), ite_self]

theorem Chip.rd_interlocked_staticOn {k : Nat} (hsrc : s.rd .gdCfg_src k = 2) : (s.interlocked k).rd .gdStat_staticOn k = 0 := by
  rw [Chip.rd_interlocked, if_pos hsrc, Chip.rd_wr_fit _ (by decide)]

theorem Chip.driver_interlocked (k j : Nat) : (s.interlocked k).driver j = (s.setDriver k { s.driver k with interlockCut := true }).driver j := by
  unfold Chip.interlocked
  dsimp only
  split <;> rfl

theorem Chip.interlockCut_interlocked (k : Nat) : ((s.interlocked k).driver k).interlockCut = true := by
  rw [Chip.driver_interlocked, Chip.driver_setDriver]

theorem Chip.driver_interlocked_ne {k j : Nat} (h : k ≠ j) : (s.interlocked k).driver j = s.driver j := by
  rw [Chip.driver_interlocked, Chip.driver_setDriver_ne _ h]

theorem Chip.interlocked_faults (k : Nat) : (s.interlocked k).faults = s.faults := by
  unfold Chip.interlocked
  dsimp only
  split <;> rfl

end

/-- Both channels of the pair stand cut, flagged, and a STATIC one off (R386, R392). -/
theorem Chip.gdInterlock_pair {s : Chip} {n p : Nat} (hpair : s.gdPair n = some p) (hconflict : s.pairConflict p = true)
    (hfresh : (s.driver p).interlockCut = false) {k : Nat} (hk : k ∈ [p, p + 1]) :
    ((s.gdInterlock n).driver k).interlockCut = true ∧ (s.gdInterlock n).rd .gdStat_interlock k = 1 ∧
      (s.rd .gdCfg_src k = 2 → (s.gdInterlock n).rd .gdStat_staticOn k = 0) := by
  rw [Chip.gdInterlock_fires hpair hconflict hfresh]
  rw [Chip.driver_raiseRigging, Chip.rd_raiseRigging, Chip.rd_raiseRigging]
  simp only [List.mem_cons, List.not_mem_nil, or_false] at hk
  rcases hk with rfl | rfl
  · have hne : k + 1 ≠ k := by omega
    rw [Chip.driver_interlocked_ne hne, Chip.rd_interlocked_other (.inr hne), Chip.rd_interlocked_other (.inr hne)]
    exact ⟨Chip.interlockCut_interlocked k, Chip.rd_interlocked_flag k, Chip.rd_interlocked_staticOn⟩
  · refine ⟨Chip.interlockCut_interlocked _, Chip.rd_interlocked_flag _, fun hsrc => Chip.rd_interlocked_staticOn ?_⟩
    rwa [Chip.rd_interlocked_other (.inl (by decide))]

theorem Chip.raised_gdInterlock {s : Chip} {n p : Nat} (hpair : s.gdPair n = some p) (hconflict : s.pairConflict p = true)
    (hfresh : (s.driver p).interlockCut = false) : (s.gdInterlock n).raisedRigging s originGdInterlock := by
  rw [Chip.gdInterlock_fires hpair hconflict hfresh]
  refine Chip.raisedRigging_of_kept ?_ ?_ _
  · rw [Chip.interlocked_faults, Chip.interlocked_faults]
  · rw [Chip.rd_interlocked_other (.inl (by decide)), Chip.rd_interlocked_other (.inl (by decide))]

/-! ## The commands of the gate drivers -/

section
variable {t : Nat} {s : State} {P : Chip → Prop} {n : Fin 8}

theorem completes_gdStaticOn : Completes (.gdStaticOn t n) s P ↔ P ((s.chip.atTime t).gdStaticOn n) :=
  completes_does (f := fun c => (c.atTime t).gdStaticOn n) rfl

theorem completes_gdStaticOff : Completes (.gdStaticOff t n) s P ↔ P ((s.chip.atTime t).gdStaticOff n) :=
  completes_does (f := fun c => (c.atTime t).gdStaticOff n) rfl

theorem completes_gdRearm {mv : Int} : Completes (.gdRearm t n mv) s P ↔ P ((s.chip.atTime t).gdRearm n mv) :=
  completes_does (f := fun c => (c.atTime t).gdRearm n mv) rfl

theorem completes_gdStampsLate : Completes (.gdStampsLate t n) s P ↔ P ((s.chip.atTime t).stampsLate n) :=
  completes_does (f := fun c => (c.atTime t).stampsLate n) rfl

theorem completes_gdUvloEntry {neg : Bool} {mv : Nat} : Completes (.gdUvloEntry t n neg mv) s P ↔ P ((s.chip.atTime t).uvloEntry n neg mv) :=
  completes_does (f := fun c => (c.atTime t).uvloEntry n neg mv) rfl

theorem completes_gdUvloExit {drv neg ns : Nat} : Completes (.gdUvloExit t n drv neg ns) s P ↔ P ((s.chip.atTime t).uvloExit n drv neg ns) :=
  completes_does (f := fun c => (c.atTime t).uvloExit n drv neg ns) rfl

theorem completes_gdShortDetect {mv : Int} : Completes (.gdShortDetect t n mv) s P ↔ P ((s.chip.atTime t).gdiCrossing n mv) :=
  completes_does (f := fun c => (c.atTime t).gdiCrossing n mv) rfl

theorem completes_gdBlankEnd {mv : Int} : Completes (.gdBlankEnd t n mv) s P ↔ P ((s.chip.atTime t).blankEnd n mv) :=
  completes_does (f := fun c => (c.atTime t).blankEnd n mv) rfl

theorem completes_gdSoftOffEnd : Completes (.gdSoftOffEnd t n) s P ↔ P ((s.chip.atTime t).softOffEnd n) :=
  completes_does (f := fun c => (c.atTime t).softOffEnd n) rfl

theorem completes_gdInterlock : Completes (.gdInterlock t n) s P ↔ P ((s.chip.atTime t).gdInterlock n) :=
  completes_does (f := fun c => (c.atTime t).gdInterlock n) rfl

end

end Sys2Proof.Machine
end

section
/-! PROOF. The statement about the gate drivers. -/

open Sys2Proof Sys2Proof.Machine

/-- Settles O30: each command acts as its lemma says where its condition holds; a command without effect is counted; every short leaves the one
state of `shortDetected`, and the end of a lock-out changes nothing where none stands. -/
theorem gateDriversActAndProtect : Obligations.GateDriversActAndProtect := by
  unfold Obligations.GateDriversActAndProtect
  intro s t n c g ignored
  refine ⟨fun hsrc hmode => ?_, fun h => ?_, fun hsrc => ?_, fun hsrc => ?_, fun mv hlatched hlow => ?_, fun mv h => ?_, fun hon hsrc => ?_,
    fun neg mv hmv => ?_, fun drv neg ns hdrv hneg hns => ?_, fun hcompared mv => ?_, fun at_ hsoft hdue => ?_,
    fun p hpair hconflict hfresh => ?_⟩
  · rw [completes_gdStaticOn, Chip.gdStaticOn_acts n.isLt hsrc hmode]
    exact Chip.wrote_only (Chip.withOutputs_regs _ _) (by decide)
  · exact completes_gdStaticOn.mpr (Chip.gdStaticOn_ignored h ▸ c.gdIgnored_counts)
  · rw [completes_gdStaticOff, Chip.gdStaticOff_acts n.isLt hsrc]
    exact Chip.wrote_only (Chip.withOutputs_regs _ _) (by decide)
  · exact completes_gdStaticOff.mpr (Chip.gdStaticOff_ignored hsrc ▸ c.gdIgnored_counts)
  · rw [completes_gdRearm, Chip.gdRearm_acts n.isLt hlatched hlow]
    obtain ⟨hclear, hsame⟩ := Chip.wrote_only (Chip.withOutputs_regs c fun s =>
      (s.setDriver n { s.driver n with softOff := none }).wr .gdStat_shortLatched 0 n) (by decide)
    refine ⟨hclear, ?_, hsame⟩
    rw [Chip.softOff_withOutputs, Chip.driver_wr, Chip.driver_setDriver]
  · exact completes_gdRearm.mpr (Chip.gdRearm_ignored h ▸ c.gdIgnored_counts)
  · exact completes_gdStampsLate.mpr ⟨Chip.nextLate_stampsLate hon hsrc, Chip.counted_stampsLate hon hsrc, Chip.raised_stampsLate hon hsrc⟩
  · rw [completes_gdUvloEntry, Chip.uvloEntry_below hmv]
    refine ⟨Chip.rd_uvloBelow_flag neg, fun hpos hneg => ⟨Chip.counted_uvloBelow neg hpos hneg, Chip.rd_uvloBelow_staticOn neg hpos hneg, ?_⟩⟩
    intro hon hmonitor hmode
    exact Chip.raised_uvloBelow neg hpos hneg (Chip.reportsUvlo_iff.mpr ⟨hon, hmonitor, hmode⟩)
  · have hback : c.suppliesBack n drv neg ns := by
      simp only [Chip.suppliesBack, Chip.uvloFalling, Bool.false_eq_true, if_true, if_false]
      omega
    obtain ⟨hpos, hneg⟩ := Chip.rd_uvloExit hback
    exact completes_gdUvloExit.mpr ⟨hpos, hneg, Chip.untilNextE_uvloExit hback, Chip.sameBut_uvloExit hback⟩
  · have hshort := c.shortDetected_leaves n
    refine ⟨fun hhigh => ?_, fun hmask hlow => ⟨?_, ?_⟩⟩
    · exact completes_gdShortDetect.mpr (Chip.gdiCrossing_high hcompared hhigh ▸ hshort)
    · exact completes_gdShortDetect.mpr (Chip.gdiCrossing_low hcompared (Chip.gdiMasked_ended hmask) hlow ▸ hshort)
    · exact completes_gdBlankEnd.mpr (Chip.blankEnd_low hcompared (Chip.gdiMasked_ended hmask) hlow ▸ hshort)
  · rw [completes_gdSoftOffEnd, Chip.softOffEnd_due hsoft hdue, Chip.driver_setDriver]
    exact ⟨rfl, rfl⟩
  · exact completes_gdInterlock.mpr ⟨Chip.raised_gdInterlock hpair hconflict hfresh, fun k hk => Chip.gdInterlock_pair hpair hconflict hfresh hk⟩

end
